-- ==== Sys2Proof/Word.lean ====
section
/-! DEFINITION. Word types of the slice (spec/00_scope.md R5, R8; spec/02_stacks.md R44) and the two plain
data shapes the whole model is built on: a sparse table and the place of a register field. -/

namespace Sys2Proof

/-- A management register or a word of an image (R424). -/
abbrev Word := BitVec 32
/-- One byte of the byte-addressed memories (R8). -/
abbrev Byte := BitVec 8
/-- A physical address PA[51:0] (R5). -/
abbrev Addr := BitVec 52
/-- A line address PA[51:7] (R102). -/
abbrev LineAddr := BitVec 45
/-- The 128 B of a line, byte 0 in bits [7:0] (R8). -/
abbrev LineData := BitVec 1024
/-- One 64 B beat of a bank access (R44). -/
abbrev Beat := BitVec 512
/-- One 320-bit Ledger cell (R155, R163). -/
abbrev Cell := BitVec 320
/-- A 1280 B row image: cell i in bits [320 i + 319 : 320 i] (R175). -/
abbrev RowImage := BitVec 10240

/-- A sparse table: key and value pairs, keys strictly rising, no pair equal to what an unlisted key reads as.
The operations are in Machine/Tab.lean. -/
abbrev Tab (α : Type) := List (Nat × α)

/-- The place of a register field: the offset of its register, the distance to the next register of an array
(0 for a single register), and the bits [lo + w - 1 : lo] (R424, spec/17_register_index.md). -/
structure Field where
  off    : Nat
  stride : Nat
  lo     : Nat
  w      : Nat
  deriving DecidableEq, Repr

end Sys2Proof
end

