-- ==== Sys2Proof/Syntax.lean ====
section
/-! DEFINITION. The commands of the slice: one constructor of Instr for each row of spec/opcode_table.json, with the
operands that the row's message, register write or event carries. The spec gives the rows no bits; the operands come from
the formats of the chapters (R397 to R399 for casement messages, R424 for management accesses, R209 for chain messages,
R339 for mirror messages, R326 for budget messages). -/

namespace Sys2Proof

/-- The kinds of requester of R397: KIND 0, 1 and 2. -/
inductive ReqKind where
  | agent | porter | slice
  deriving DecidableEq, Repr

/-- ID, PSLICE and KIND of R397, which together name the requester (R137). -/
structure Requester where
  kind   : ReqKind
  id     : BitVec 5
  pslice : BitVec 6
  deriving DecidableEq, Repr

/-- A request of the types 0x00 to 0x09 as the link layer separates it (R397, R398), or the common part of a Ledger
request. `cas` is the casement at which it arrived; a request of this slice's own Porter carries its own PSLICE. -/
structure Req where
  who    : Requester
  cas    : BitVec 2
  tag    : BitVec 11
  label  : BitVec 3
  line   : LineAddr
  scope  : BitVec 2
  rel    : Bool
  acq    : Bool
  winV   : Bool
  win    : BitVec 4
  noack  : Bool
  retry  : BitVec 3
  mcg    : BitVec 5
  psn    : Bool
  deriving DecidableEq, Repr

/-- The atomic fields of R398 and the operands of R399: OP, SIZE (false 4 B, true 8 B), byte offset, operand, compare. -/
structure AtomOp where
  op      : BitVec 4
  size    : Bool
  offset  : BitVec 7
  operand : BitVec 64
  compare : BitVec 64
  deriving DecidableEq, Repr

/-- The RANGE fields of R398: OP of R94, INDEX, and SIZE in 256 B granules. -/
structure RangeCmd where
  op    : BitVec 3
  index : BitVec 8
  size  : Word
  deriving DecidableEq, Repr

/-- The Ledger operations a casement may carry and the chain's LMERGE (R169). -/
inductive LedgerKind where
  | lacc | laccS | lmerge | lsnap | ldrain | lclr | reserved
  deriving DecidableEq, Repr

/-- The fields of a Ledger operation (R170) and its payload: 128 B of contributions, or a row image for LMERGE.
`offset` is the byte offset of the first element within the line (R398); `ctx`, `seq` name the chain context and sequence
of an LMERGE (R210). -/
structure LedgerOp where
  kind   : LedgerKind
  epoch  : Word
  cfmt   : BitVec 3
  beats  : Bool
  shape  : BitVec 2
  sidx   : BitVec 8
  ridx   : BitVec 2
  half   : Bool
  rmode  : BitVec 2
  sat    : Bool
  seedV  : Bool
  offset : BitVec 7
  data   : LineData
  image  : RowImage
  ctx    : BitVec 4
  seq    : BitVec 16
  deriving DecidableEq, Repr

/-- A FENCE of the BAR class (R141, R398). -/
structure FenceReq where
  who   : Requester
  cas   : BitVec 2
  tag   : BitVec 11
  label : BitVec 3
  scope : BitVec 2
  winV  : Bool
  win   : BitVec 4
  deriving DecidableEq, Repr

/-- Who makes a management access: the codes of MG_SRC (R408), or the Curator over its lane (R426). -/
inductive MgSrc where
  | driver | rootOfTrust | test | reserved (code : BitVec 3) | curator
  deriving DecidableEq, Repr

/-- A write of one whole 32-bit register: its source and its word (R424). -/
structure MgWrite where
  src  : MgSrc
  word : Word
  deriving DecidableEq, Repr

/-- An answer to a request of Porter: status and reason of R13 and R261, and the line it carries. -/
structure Answer where
  status : BitVec 4
  reason : BitVec 8
  data   : LineData
  deriving DecidableEq, Repr

/-- What a bank finds in one beat that it reads (R47, R48). The code gives no promise for four or more wrong bits: it may
report them (`uncorrectable`), correct them to wrong data (`corrected (some d)`) or pass them unseen (`clean (some d)`). -/
inductive BeatOutcome where
  | clean (wrong : Option Beat)
  | corrected (wrong : Option Beat)
  | uncorrectable (asRead : Beat)
  deriving DecidableEq, Repr

/-- The lanes of the crossings of R19. Pair numbers are those of R18. -/
inductive Crossing where
  | frontToBank (pair : BitVec 4) (lane : Bool)
  | bankToFront (pair : BitVec 4) (lane : Bool)
  | frontToLedger (k : BitVec 2)
  | ledgerToFront (k : BitVec 2)
  | nightToBank (pair : BitVec 4)
  | bankToNight (pair : BitVec 4)
  | frontToCurator | curatorToFront | frontToNight | nightToFront
  deriving DecidableEq, Repr

/-- What a window request carries beside its Req (R253): a read, a whole-line write or a partial write. -/
inductive WinReq where
  | rdOnce
  | wrLine (d : LineData)
  | wrPart (be : BitVec 128) (d : LineData)
  deriving DecidableEq, Repr

/-- The strap inputs of R412. -/
structure Straps where
  node  : BitVec 8
  pkg   : BitVec 3
  die   : BitVec 3
  half  : BitVec 1
  slice : BitVec 2
  par   : Bool
  deriving DecidableEq, Repr

/-- The causes of R367 that count as a watchdog expiry and have no command of their own. -/
inductive WdtCause where
  | expiry | sramUe
  deriving DecidableEq, Repr

/-- The 16 B header of a mirror message (R339), without TYPE, which the command gives. -/
structure MirHdr where
  lane : BitVec 2
  st   : BitVec 2
  pin  : Bool
  psn  : Bool
  seq  : BitVec 16
  line : LineAddr
  arg  : Word
  deriving DecidableEq, Repr

/-- The payload of MLDG: the operation, the half it acts on, and the MUL and SHIFT read at L1 (R339, R342). -/
structure MirLedger where
  op    : LedgerOp
  odd   : Bool
  mul   : Word
  shift : BitVec 7
  deriving DecidableEq, Repr

/-- The payload of MROW: both halves and the row state of R181 (R339). -/
structure MirRow where
  even  : RowImage
  odd   : RowImage
  cur   : Word
  live  : Bool
  psn   : Bool
  seed  : BitVec 64
  deriving DecidableEq, Repr

/-- The commands. The mnemonic of each constructor is in LAWS.json. -/
inductive Instr where
  /-- CASEMENT_FLIT_RECEIVE (R395) -/
  | casementFlitReceive (cas : BitVec 2) (flit : BitVec 2048) (sb0 sb1 : BitVec 64)
  /-- LINK_REPLAY_TIMEOUT (R395) -/
  | linkReplayTimeout (link : BitVec 3)
  /-- CREDIT_WORD_RECEIVE (R396) -/
  | creditWordReceive (cas : BitVec 2) (word : Word)
  /-- CROSSING_ENTRY_TRANSFER (R20) -/
  | crossingEntryTransfer (x : Crossing)
  /-- LANE_STALL (R24) -/
  | laneStall (x : Crossing)
  /-- RD_S (R117) -/
  | rdS (r : Req)
  /-- RD_X (R117) -/
  | rdX (r : Req)
  /-- UPG (R117) -/
  | upg (r : Req)
  /-- RD_ONCE (R117) -/
  | rdOnce (r : Req)
  /-- RD_LAST (R84) -/
  | rdLast (r : Req)
  /-- WR_LINE (R117) -/
  | wrLine (r : Req) (d : LineData)
  /-- WR_PART (R117) -/
  | wrPart (r : Req) (be : BitVec 128) (d : LineData)
  /-- ATOM (R129) -/
  | atom (r : Req) (a : AtomOp)
  /-- EVICT (R117) -/
  | evict (r : Req)
  /-- RANGE (R92) -/
  | range (r : Req) (c : RangeCmd)
  /-- ACK_INV (R117) -/
  | ackInv (agent : BitVec 5) (line : LineAddr)
  /-- FWD_DONE (R117) -/
  | fwdDone (agent : BitVec 5) (line : LineAddr) (dirty : Bool)
  /-- FWD_MISS (R122) -/
  | fwdMiss (agent : BitVec 5) (line : LineAddr) (wb : Bool)
  /-- WB (R120) -/
  | wb (agent : BitVec 5) (tag : BitVec 11) (label : BitVec 3) (line : LineAddr) (d : LineData) (psn : Bool)
  /-- WB_COPY (R117) -/
  | wbCopy (agent : BitVec 5) (line : LineAddr) (d : LineData) (psn : Bool)
  /-- BINV_DATA (R118) -/
  | binvData (agent : BitVec 5) (line : LineAddr) (d : LineData) (psn : Bool)
  /-- FWD_TIMEOUT (R126) -/
  | fwdTimeout (agent : BitVec 5) (line : LineAddr)
  /-- ADOPTED_WB_TIMEOUT (R346) -/
  | adoptedWbTimeout (line : LineAddr)
  /-- RESERVATION_EXPIRE (R125) -/
  | reservationExpire (line : LineAddr)
  /-- ATOM_UNIT_RELEASE (R131) -/
  | atomUnitRelease (line : LineAddr)
  /-- PRED_CLR (R130) -/
  | predClr (m : MgWrite)
  /-- FENCE (R141) -/
  | fence (f : FenceReq)
  /-- FENCE_DONE (R153) -/
  | fenceDone (pslice : BitVec 6) (win : BitVec 4) (tag : BitVec 11)
  /-- ACQUIRE_READ_REPLAY (R153) -/
  | acquireReadReplay (who : Requester) (tag : BitVec 11)
  /-- WINDOW_FENCE_TIMEOUT (R154) -/
  | windowFenceTimeout (who : Requester) (tag : BitVec 11) (pslice : BitVec 6)
  /-- ORD_WIN_INV (R152) -/
  | ordWinInv (m : MgWrite)
  /-- WINDOW_WALK_START (R152) -/
  | windowWalkStart
  /-- WINDOW_WALK_LOOKUP (R150) -/
  | windowWalkLookup (line : LineAddr)
  /-- WINDOW_WALK_END (R151) -/
  | windowWalkEnd
  /-- RELEASE_RECORD_CLEAR (R145) -/
  | releaseRecordClear (m : MgWrite)
  /-- SLC_LIVE_WRITE (R39) -/
  | slcLiveWrite (m : MgWrite)
  /-- HASH_EVALUATE (R41) -/
  | hashEvaluate (m : MgWrite)
  /-- HASH_PA_LO_WRITE (R41) -/
  | hashPaLoWrite (m : MgWrite)
  /-- FAR_READ_DATA (R30) -/
  | farReadData (sub : Bool) (tag : BitVec 11) (status : BitVec 4) (d : LineData)
  /-- FAR_WRITE_RESPONSE (R402) -/
  | farWriteResponse (sub : Bool) (tag : BitVec 11) (status : BitVec 4)
  /-- FAR_CREDIT (R401) -/
  | farCredit (sub : Bool) (write : Bool) (n : BitVec 6)
  /-- BANK_BEAT_COMPLETE (R48) -/
  | bankBeatComplete (pair : BitVec 4) (lane : Bool) (lower upper : BeatOutcome) (delayed : Bool)
  /-- CORRECTIVE_WRITE (R49) -/
  | correctiveWrite (bank : BitVec 5)
  /-- REFRESH_REQUEST (R55) -/
  | refreshRequest (bank : BitVec 5)
  /-- REFRESH_COMMAND (R56) -/
  | refreshCommand (bank : BitVec 5)
  /-- SENSOR_READ (R53) -/
  | sensorRead (t0 t1 : BitVec 8)
  /-- SCRUB_ROW (R59) -/
  | scrubRow (bank : BitVec 5) (beats : List (BitVec 4 × BeatOutcome))
  /-- SCRUB_LATE (R60) -/
  | scrubLate (bank : BitVec 5)
  /-- CAL_GRANT_OPEN (R62) -/
  | calGrantOpen (m : MgWrite)
  /-- CAL_GRANT_EXPIRE (R62) -/
  | calGrantExpire
  /-- CALIBRATION_TRIAL (R61) -/
  | calibrationTrial (bank : BitVec 5) (group : BitVec 3) (trial : BitVec 3) (pass : Bool)
  /-- CALIBRATION_COMPLETE (R63) -/
  | calibrationComplete
  /-- STK_RETIRE (R69) -/
  | stkRetire (m : MgWrite)
  /-- RETIREMENT_COPY (R66) -/
  | retirementCopy (o : BeatOutcome)
  /-- RETIREMENT_COPY_DONE (R66) -/
  | retirementCopyDone
  /-- RETIRE_WAY_PAIR_WALK (R67) -/
  | retireWayPairWalk (set : BitVec 14)
  /-- ADAPT_WINDOW_END (R79) -/
  | adaptWindowEnd
  /-- ALT_DEMOTE (R80) -/
  | altDemote (m : MgWrite)
  /-- ALT_RESTORE (R80) -/
  | altRestore (m : MgWrite)
  /-- RSH_CLEAN (R94) -/
  | rshClean (m : MgWrite)
  /-- RSH_INVALIDATE (R94) -/
  | rshInvalidate (m : MgWrite)
  /-- RSH_CLEAN_INV (R94) -/
  | rshCleanInv (m : MgWrite)
  /-- SEAL (R90) -/
  | seal (m : MgWrite)
  /-- REOPEN (R91) -/
  | reopen (m : MgWrite)
  /-- INV_BANK (R95) -/
  | invBank (m : MgWrite)
  /-- RESHELVER_START (R93) -/
  | reshelverStart
  /-- RESHELVER_LOOKUP (R93) -/
  | reshelverLookup (line : LineAddr)
  /-- RESHELVER_DONE (R94) -/
  | reshelverDone
  /-- RESHELVER_DISABLE (R96) -/
  | reshelverDisable (m : MgWrite)
  /-- RESHELVER_ENABLE (R331) -/
  | reshelverEnable (m : MgWrite)
  /-- RESHELVER_SHUTDOWN_END (R96) -/
  | reshelverShutdownEnd
  /-- PREFETCH_READ (R99) -/
  | prefetchRead (line : LineAddr)
  /-- PREFETCH_DISABLE (R101) -/
  | prefetchDisable (m : MgWrite)
  /-- PREFETCH_ENABLE (R331) -/
  | prefetchEnable (m : MgWrite)
  /-- PREFETCH_SHUTDOWN_END (R101) -/
  | prefetchShutdownEnd
  /-- PFT_DEGREE_WRITE (R100) -/
  | pftDegreeWrite (m : MgWrite)
  /-- LEDGER_OP_ACCEPT (R178) -/
  | ledgerOpAccept (r : Req) (o : LedgerOp)
  /-- LACC (R173) -/
  | lacc (lane : BitVec 2)
  /-- LACC_S (R193) -/
  | laccS (lane : BitVec 2)
  /-- LMERGE (R174) -/
  | lmerge (lane : BitVec 2)
  /-- LSNAP (R175) -/
  | lsnap (lane : BitVec 2)
  /-- LDRAIN (R183) -/
  | ldrain (lane : BitVec 2)
  /-- LCLR (R176) -/
  | lclr (lane : BitVec 2)
  /-- DRAIN_READ (R180) -/
  | drainRead (lane : BitVec 2)
  /-- DRAIN_WRITE_OUT (R177) -/
  | drainWriteOut (lane : BitVec 2)
  /-- LDG_ROW_DRAIN (R177) -/
  | ldgRowDrain (m : MgWrite)
  /-- HELD_DRAIN_TIMEOUT (R214) -/
  | heldDrainTimeout (line : LineAddr)
  /-- LEDGER_DISABLE (R196) -/
  | ledgerDisable (m : MgWrite)
  /-- LEDGER_ENABLE (R331) -/
  | ledgerEnable (m : MgWrite)
  /-- LEDGER_SHUTDOWN_END (R196) -/
  | ledgerShutdownEnd
  /-- BIND_COMMIT (R160) -/
  | bindCommit (n : BitVec 5) (m : MgWrite)
  /-- BIND_COMMIT_APPLY (R160) -/
  | bindCommitApply (n : BitVec 5)
  /-- BIND_REMOVE (R160) -/
  | bindRemove (n : BitVec 5) (m : MgWrite)
  /-- BIND_ENTRY_READ (R160) -/
  | bindEntryRead (n : BitVec 5) (reg : BitVec 2) (src : MgSrc)
  /-- SCALE_COMMIT (R192) -/
  | scaleCommit (n : BitVec 8) (m : MgWrite)
  /-- SCALE_QUEUE_APPLY (R42) -/
  | scaleQueueApply
  /-- TOKEN (R210) -/
  | token (hdr : BitVec 256) (image : RowImage)
  /-- TACK (R211) -/
  | tack (hdr : BitVec 256)
  /-- TNACK (R211) -/
  | tnack (hdr : BitVec 256)
  /-- TREF (R211) -/
  | tref (hdr : BitVec 256)
  /-- TNACK_RESEND (R213) -/
  | tnackResend (ctx : BitVec 4)
  /-- TOKEN_RETRANSMIT_TIMEOUT (R213) -/
  | tokenRetransmitTimeout (ctx : BitVec 4)
  /-- CHAIN_COMMIT (R205) -/
  | chainCommit (c : BitVec 4) (m : MgWrite)
  /-- CHAIN_REMOVE (R205) -/
  | chainRemove (c : BitVec 4) (m : MgWrite)
  /-- DESCRIPTOR_POLL (R221) -/
  | descriptorPoll (ch : BitVec 4)
  /-- DESCRIPTOR_RESPONSE (R238) -/
  | descriptorResponse (ch : BitVec 4) (a : Answer)
  /-- PORTER_BURST_GRANT (R233) -/
  | porterBurstGrant
  /-- PORTER_RESPONSE (R234) -/
  | porterResponse (ch : BitVec 4) (tag : BitVec 11) (a : Answer)
  /-- PORTER_RETRY_RESEND (R220) -/
  | porterRetryResend (ch : BitVec 4) (tag : BitVec 11)
  /-- PRODUCER_POLL (R232) -/
  | producerPoll (ch : BitVec 4)
  /-- PORTER_START (R239) -/
  | porterStart (ch : BitVec 4) (m : MgWrite)
  /-- PORTER_CHANNEL_DISABLE (R240) -/
  | porterChannelDisable (ch : BitVec 4) (m : MgWrite)
  /-- PORTER_CHANNEL_ENABLE (R241) -/
  | porterChannelEnable (ch : BitVec 4) (m : MgWrite)
  /-- PORTER_CHANNEL_STOP_END (R240) -/
  | porterChannelStopEnd (ch : BitVec 4)
  /-- PORTER_HALT_CLEAR (R237) -/
  | porterHaltClear (ch : BitVec 4) (m : MgWrite)
  /-- PORTER_DISABLE (R242) -/
  | porterDisable (m : MgWrite)
  /-- PORTER_ENABLE (R242) -/
  | porterEnable (m : MgWrite)
  /-- FRAME_BOUNDARY (R246) -/
  | frameBoundary
  /-- FRAME_SYNC (R252) -/
  | frameSync
  /-- CREDIT_RETURN (R247) -/
  | creditReturn (cas : BitVec 2)
  /-- TCL_COMMIT (R250) -/
  | tclCommit (m : MgWrite)
  /-- WIN_COMMIT (R256) -/
  | winCommit (m : MgWrite)
  /-- ADMISSION_CHECK (R259) -/
  | admissionCheck
  /-- WINDOW_REQUEST_SLOT (R254) -/
  | windowRequestSlot (r : Req) (w : WinReq)
  /-- WINDOW_RESPONSE_DEPART (R254) -/
  | windowResponseDepart (win : BitVec 4)
  /-- IMG_DATA_WRITE (R270) -/
  | imgDataWrite (m : MgWrite)
  /-- IMG_DATA_READ (R270) -/
  | imgDataRead (src : MgSrc)
  /-- IMAGE_LOAD (R273) -/
  | imageLoad (m : MgWrite)
  /-- IMAGE_UPDATE (R274) -/
  | imageUpdate (m : MgWrite)
  /-- IMAGE_UPDATE_APPLY (R275) -/
  | imageUpdateApply
  /-- IMAGE_CHECK (R277) -/
  | imageCheck (m : MgWrite)
  /-- COLD_START (R279) -/
  | coldStart (straps : Straps)
  /-- WARM_RESET (R279) -/
  | warmReset (straps : Straps)
  /-- ISLAND_CLOCKS_UP (R287) -/
  | islandClocksUp (front ldg cur : Bool) (pairs : BitVec 9)
  /-- BANK_BIST (R288) -/
  | bankBist (failed : BitVec 17)
  /-- LEDGER_BIST (R301) -/
  | ledgerBist (failed : Option (BitVec 2))
  /-- STEP_TIMEOUT (R281) -/
  | stepTimeout (step : BitVec 4)
  /-- FW_DONE (R290) -/
  | fwDone (m : MgWrite)
  /-- FW_ATTEST (R290) -/
  | fwAttest (m : MgWrite)
  /-- FW_ALIVE (R290) -/
  | fwAlive (m : MgWrite)
  /-- FW_TIMEOUT (R290) -/
  | fwTimeout
  /-- FW_ALIVE_TIMEOUT (R290) -/
  | fwAliveTimeout
  /-- IMAGE_TIMEOUT (R292) -/
  | imageTimeout
  /-- LINK_TRAINING (R293) -/
  | linkTraining (full half : BitVec 8)
  /-- CAPABILITY_MESSAGE (R306) -/
  | capabilityMessage (link : BitVec 3) (msg : BitVec 64)
  /-- UCIE_MAINBAND_ACTIVE (R419) -/
  | ucieMainbandActive (mirror : Bool) (advanced : Bool) (rate : BitVec 5) (width : BitVec 8)
  /-- CAPABILITY_TIMEOUT (R419) -/
  | capabilityTimeout (link : BitVec 3)
  /-- REFRESH_CALIBRATION_STEP (R295) -/
  | refreshCalibrationStep (inTime : Bool)
  /-- START_RELEASE (R297) -/
  | startRelease (m : MgWrite)
  /-- GO_ONLINE (R297) -/
  | goOnline
  /-- DAYBOOK_CLEAR (R303) -/
  | daybookClear (m : MgWrite)
  /-- CLR_FAILS (R303) -/
  | clrFails (m : MgWrite)
  /-- CLR_RETIRED (R303) -/
  | clrRetired (m : MgWrite)
  /-- RUN_LEVEL_WRITE (R305) -/
  | runLevelWrite (m : MgWrite)
  /-- PWR_CMD_ACTIVE (R309) -/
  | pwrCmdActive (m : MgWrite)
  /-- PWR_CMD_DOZE (R310) -/
  | pwrCmdDoze (m : MgWrite)
  /-- PWR_CMD_RETAIN (R313) -/
  | pwrCmdRetain (m : MgWrite)
  /-- PWR_CMD_OFF (R323) -/
  | pwrCmdOff (m : MgWrite)
  /-- DOZE_ENTER (R310) -/
  | dozeEnter
  /-- DOZE_TIMEOUT (R310) -/
  | dozeTimeout
  /-- DOZE_WAKE (R311) -/
  | dozeWake (link : BitVec 3)
  /-- RETAIN_ENTRY_PHASE (R313) -/
  | retainEntryPhase
  /-- RETAIN_EXIT_PHASE (R319) -/
  | retainExitPhase (up : BitVec 8)
  /-- TRANSITION_END (R332) -/
  | transitionEnd
  /-- BUDGET_QUERY (R327) -/
  | budgetQuery (msg : BitVec 64)
  /-- BUDGET_CAP (R328) -/
  | budgetCap (msg : BitVec 64)
  /-- BUDGET_STATE (R309) -/
  | budgetState (msg : BitVec 64)
  /-- BUDGET_RAMP (R329) -/
  | budgetRamp (msg : BitVec 64)
  /-- PWR_RAMP_WRITE (R329) -/
  | pwrRampWrite (m : MgWrite)
  /-- SUPPLY_REMOVAL (R308) -/
  | supplyRemoval
  /-- RETENTION_SUPPLY_LOSS (R322) -/
  | retentionSupplyLoss
  /-- MWR (R339) -/
  | mwr (h : MirHdr) (d : LineData)
  /-- MCLEAN (R339) -/
  | mclean (h : MirHdr)
  /-- MDEAD (R339) -/
  | mdead (h : MirHdr)
  /-- MINV (R339) -/
  | minv (h : MirHdr)
  /-- MEVICT (R338) -/
  | mevict (h : MirHdr)
  /-- MLDG (R342) -/
  | mldg (h : MirHdr) (p : MirLedger)
  /-- MROW (R339) -/
  | mrow (h : MirHdr) (p : MirRow)
  /-- MSCALE (R42) -/
  | mscale (h : MirHdr) (p : BitVec 128)
  /-- MPWR (R316) -/
  | mpwr (h : MirHdr)
  /-- MCHK (R343) -/
  | mchk (h : MirHdr)
  /-- MACK (R341) -/
  | mack (h : MirHdr)
  /-- MCHK_SEND (R343) -/
  | mchkSend
  /-- MIRROR_LINK_DOWN (R343) -/
  | mirrorLinkDown (reported live : Bool)
  /-- REACH_PROBE_ANSWER (R344) -/
  | reachProbeAnswer (status : BitVec 4)
  /-- REACH_PROBE_TIMEOUT (R344) -/
  | reachProbeTimeout
  /-- SEAM_TIMEOUT (R348) -/
  | seamTimeout
  /-- SEAM_ANNOUNCE (R349) -/
  | seamAnnounce (m : MgWrite)
  /-- SEAM_READY (R349) -/
  | seamReady
  /-- SEAM_RESUME (R349) -/
  | seamResume (m : MgWrite)
  /-- TRANSOM_BEAT (R406) -/
  | transomBeat (lane : BitVec 2) (d : LineData) (sb : BitVec 64)
  /-- TRANSOM_CREDIT (R406) -/
  | transomCredit (lane : BitVec 2)
  /-- REPAIR (R350) -/
  | repair (m : MgWrite)
  /-- RESYNC_DONE (R350) -/
  | resyncDone
  /-- SPLIT (R335) -/
  | split (m : MgWrite)
  /-- PREPARE (R355) -/
  | prepare (m : MgWrite)
  /-- RESTRIPE_READY (R355) -/
  | restripeReady
  /-- COMMIT (R356) -/
  | commit (m : MgWrite)
  /-- ABORT (R356) -/
  | abort (m : MgWrite)
  /-- MIR_LDG_WRITE (R342) -/
  | mirLdgWrite (n : BitVec 5) (m : MgWrite)
  /-- MIR_RATE_WRITE (R257) -/
  | mirRateWrite (m : MgWrite)
  /-- LOSS_REPORT_CLEAR (R351) -/
  | lossReportClear (m : MgWrite)
  /-- FAULT_LOG_WRITE (R362) -/
  | faultLogWrite
  /-- ERR_LOG_TAIL_WRITE (R363) -/
  | errLogTailWrite (m : MgWrite)
  /-- ERR_LOG_SELECT (R364) -/
  | errLogSelect (m : MgWrite)
  /-- WATCHDOG_KICK (R366) -/
  | watchdogKick (m : MgWrite)
  /-- WATCHDOG_EXPIRE (R367) -/
  | watchdogExpire (cause : WdtCause)
  /-- WATCHDOG_HELD_CLEAR (R368) -/
  | watchdogHeldClear (m : MgWrite)
  /-- INJECTOR_ARM (R371) -/
  | injectorArm (link : BitVec 3) (m : MgWrite)
  /-- REORDER_TIMEOUT (R372) -/
  | reorderTimeout (link : BitVec 3)
  /-- PMU_SNAPSHOT (R385) -/
  | pmuSnapshot (m : MgWrite)
  /-- PMU_CLEAR (R385) -/
  | pmuClear (m : MgWrite)
  /-- PMU_COUNTER_WRITE (R386) -/
  | pmuCounterWrite (n : BitVec 3) (hi : Bool) (m : MgWrite)
  /-- PMU_COUNTER_WRAP (R388) -/
  | pmuCounterWrap (n : BitVec 3) (inc : BitVec 6)
  /-- LATCHED_GROUP_READ (R428) -/
  | latchedGroupRead (off : BitVec 18) (src : MgSrc)
  /-- RC_REGISTER_READ (R427) -/
  | rcRegisterRead (off : BitVec 18) (src : MgSrc)
  /-- TIMESTAMP_UPDATE (R415) -/
  | timestampUpdate (ns : BitVec 48) (wrap : Word)
  /-- MAILBOX_POST (R431) -/
  | mailboxPost (m : MgWrite)
  /-- MAILBOX_POST_CLEAR (R431) -/
  | mailboxPostClear
  /-- MAILBOX_C2H_POST (R432) -/
  | mailboxC2hPost (len : BitVec 9)
  /-- MAILBOX_C2H_CLEAR (R432) -/
  | mailboxC2hClear (m : MgWrite)
  /-- CURATOR_SRAM_WRITE (R291) -/
  | curatorSramWrite (off : BitVec 18) (m : MgWrite)
  /-- REGISTER_WRITE (R426) -/
  | registerWrite (off : BitVec 18) (m : MgWrite)
  /-- CURATOR_SRAM_ZEROED (R290) -/
  | curatorSramZeroed
  /-- BUDGET_ANSWER_ACK (R409) -/
  | budgetAnswerAck
  /-- WICKET_CREDIT (R403) -/
  | wicketCredit (word : BitVec 8)
  /-- JTAG_INSTRUCTION (R420) -/
  | jtagInstruction (code : BitVec 8) (dbgEn : Bool)
  deriving DecidableEq, Repr

end Sys2Proof
end

