-- ==== Sys2Proof/Decode.lean ====
section
/-! DEFINITION. The table's words. spec/opcode_table.json gives no row any bits: the commands of the slice are messages, register
accesses and events, and no word spells one (notes/assumptions/3.md). -/

namespace Sys2Proof

/-- The command that a word of the table spells: none, because no row has bits. -/
def decodeTableWord (_nbits _w : Nat) : Option Instr := none

end Sys2Proof
end

