-- ==== Sys2Proof/Machine/Float.lean ====
section
/-! DEFINITION. IEEE 754 binary32 values as exact integers, rounding, the FADD32 of R128, and the ordinary atomics of R127. -/

namespace Sys2Proof.Machine

/-- A binary32 pattern is a NaN. -/
def f32Nan (b : BitVec 32) : Bool := b.toNat / 2 ^ 23 % 256 = 255 && b.toNat % 2 ^ 23 != 0
/-- A binary32 pattern is an infinity. -/
def f32Inf (b : BitVec 32) : Bool := b.toNat / 2 ^ 23 % 256 = 255 && b.toNat % 2 ^ 23 = 0
/-- The sign bit. -/
def f32Sign (b : BitVec 32) : Bool := b.getLsbD 31

/-- The magnitude of a finite binary32 in units of 2^−149. -/
def f32Mag (b : BitVec 32) : Nat :=
  let e := b.toNat / 2 ^ 23 % 256
  let f := b.toNat % 2 ^ 23
  if e = 0 then f else (2 ^ 23 + f) * 2 ^ (e - 1)

/-- The value of a finite binary32 in units of 2^−149. -/
def f32Int (b : BitVec 32) : Int := if f32Sign b then -(f32Mag b : Int) else f32Mag b

/-- n / 2^k rounded to the nearest integer, ties to even. -/
def roundShift (n k : Nat) : Nat :=
  let q := n / 2 ^ k
  let r := n % 2 ^ k
  if 2 * r > 2 ^ k || (2 * r = 2 ^ k && k != 0 && q % 2 = 1) then q + 1 else q

/-- The magnitude n · 2^−149 rounded to binary32, nearest, ties to even; too large a value gives infinity. -/
def f32Round (n : Nat) : Nat :=
  let k := Nat.log2 n - 23
  let m := k * 2 ^ 23 + roundShift n k
  min m 0x7F800000

/-- FADD32 (R128). -/
def fadd32 (a b : BitVec 32) : BitVec 32 :=
  if f32Nan a || f32Nan b || (f32Inf a && f32Inf b && f32Sign a != f32Sign b) then 0x7FC00000#32
  else if f32Inf a then a
  else if f32Inf b then b
  else
    let x := f32Int a + f32Int b
    if x = 0 then (if f32Sign a && f32Sign b && f32Mag a = 0 && f32Mag b = 0 then 0x80000000#32 else 0#32)
    else if x < 0 then BitVec.ofNat 32 (0x80000000 + f32Round x.natAbs)
    else BitVec.ofNat 32 (f32Round x.natAbs)

/-- The atomics of R127 on a word of `w` bits: old value, operand, compare operand. -/
def atomicWord {w : Nat} (op : Nat) (old x cmp : BitVec w) : BitVec w :=
  match op with
  | 0x0 => old + x
  | 0x1 => (fadd32 (old.setWidth 32) (x.setWidth 32)).setWidth w
  | 0x2 => if old.slt x then old else x
  | 0x3 => if old.slt x then x else old
  | 0x4 => if old.ult x then old else x
  | 0x5 => if old.ult x then x else old
  | 0x6 => old &&& x
  | 0x7 => old ||| x
  | 0x8 => x
  | 0x9 => if old = cmp then x else old
  | _ => old

/-- An ATOM that the slice performs: OP up to 0x9, FADD32 at 4 B only, an offset that is a multiple of the size (R127). -/
def atomValid (a : AtomOp) : Bool :=
  decide (a.op.toNat ≤ 9) && !(a.op = 1 && a.size) && a.offset.toNat % (if a.size then 8 else 4) = 0

/-- Replace the `w` bits of a line from bit `k` on. -/
def putBits {w : Nat} (d : LineData) (k : Nat) (v : BitVec w) : LineData :=
  (d &&& ~~~((BitVec.allOnes w).setWidth 1024 <<< k)) ||| (v.setWidth 1024 <<< k)

/-- Perform an atomic on a line: the old value and the new line. -/
def atomRun (a : AtomOp) (d : LineData) : BitVec 64 × LineData :=
  let k := 8 * a.offset.toNat
  if a.size then
    let old := d.extractLsb' k 64
    (old, putBits d k (atomicWord a.op.toNat old a.operand a.compare))
  else
    let old := d.extractLsb' k 32
    (old.setWidth 64, putBits d k (atomicWord a.op.toNat old (a.operand.setWidth 32) (a.compare.setWidth 32)))

/-- The line with the enabled bytes replaced (WR_PART). -/
def mergeBytes (be : BitVec 128) (new old : LineData) : LineData :=
  (List.range 128).foldl (fun d i =>
    if be.getLsbD i then putBits d (8 * i) (new.extractLsb' (8 * i) 8) else d) old

end Sys2Proof.Machine
end

