-- ==== Sys2Proof/Machine/Exact.lean ====
section
/-! DEFINITION. The arithmetic of the Ledger: number formats, exact cells and their addition (R163 to R167), the FAST tree (R168,
R198), scaled contributions (R193), and rounding at drain (R185 to R188). -/

namespace Sys2Proof.Machine

/-! ### Number formats (R165, R185) -/

/-- A binary format: exponent bits, fraction bits, whether it has infinities, largest finite pattern, canonical NaN. -/
structure NumFmt where
  eb  : Nat
  mb  : Nat
  inf : Bool
  top : Nat
  nan : Nat
  deriving DecidableEq, Repr

/-- The formats of CFMT and DFMT: 0 FP32, 1 BF16, 2 FP16, 3 E4M3, 4 E5M2. -/
def numFmt (k : Nat) : NumFmt :=
  match k with
  | 0 => ⟨8, 23, true, 0x7F7FFFFF, 0x7FC00000⟩
  | 1 => ⟨8, 7, true, 0x7F7F, 0x7FC0⟩
  | 2 => ⟨5, 10, true, 0x7BFF, 0x7E00⟩
  | 3 => ⟨4, 3, false, 0x7E, 0x7F⟩
  | _ => ⟨5, 2, true, 0x7B, 0x7E⟩

/-- Width in bits. -/
def NumFmt.width (f : NumFmt) : Nat := 1 + f.eb + f.mb
/-- Width in bytes: csize of R171, dsize of R158. -/
def NumFmt.size (f : NumFmt) : Nat := f.width / 8
/-- Exponent bias. -/
def NumFmt.bias (f : NumFmt) : Nat := 2 ^ (f.eb - 1) - 1

/-- What a number is: a NaN, an infinity, or a finite value with its magnitude in units of 2^−160. -/
inductive Num where
  | nan
  | inf (neg : Bool)
  | fin (neg : Bool) (mag : Nat)
  deriving DecidableEq, Repr

/-- Read a pattern of a format (R165). E4M3 has one NaN pattern per sign and no infinity. -/
def NumFmt.read (f : NumFmt) (b : Nat) : Num :=
  let neg := b.testBit (f.eb + f.mb)
  let e := b / 2 ^ f.mb % 2 ^ f.eb
  let m := b % 2 ^ f.mb
  if f.inf then
    if e = 2 ^ f.eb - 1 then (if m = 0 then .inf neg else .nan)
    else .fin neg ((if e = 0 then m else 2 ^ f.mb + m) * 2 ^ (max e 1 + 160 - f.bias - f.mb))
  else if e = 2 ^ f.eb - 1 && m = 2 ^ f.mb - 1 then .nan
  else .fin neg ((if e = 0 then m else 2 ^ f.mb + m) * 2 ^ (max e 1 + 160 - f.bias - f.mb))

/-! ### Exact cells (R163 to R166) -/

/-- The code [319:316]. -/
def cellCode (c : Cell) : BitVec 4 := c.extractLsb' 316 4
/-- FIELD, in two's complement. -/
def cellField (c : Cell) : BitVec 316 := c.extractLsb' 0 316
/-- OVF. -/
def cellOvf (c : Cell) : Bool := c.getLsbD 316 && cellCode c != 7
/-- A cell of a code and a field. -/
def cellMk (code : BitVec 4) (f : BitVec 316) : Cell := code ++ f
/-- The EMPTY state. -/
def cellEmpty : Cell := cellMk 7 0
/-- A cleared FAST cell: −0 (R168). -/
def cellFast : Cell := 0x80000000

/-- The flags of a code: NEGZ and PLAIN, and EMPTY, count as 0000. -/
def codeFlags (c : BitVec 4) : BitVec 4 := if c = 6 || c = 7 then 0 else c

/-- A contribution as an image (R165). -/
def cellOf : Num → Cell
  | .nan => cellMk 8 0
  | .inf false => cellMk 4 0
  | .inf true => cellMk 2 0
  | .fin true 0 => cellMk 6 0
  | .fin neg m => cellMk 0 (if neg then -(BitVec.ofNat 316 m) else BitVec.ofNat 316 m)

/-- The two's-complement addition of the fields overflows (R166). -/
def cellOver (a b : Cell) : Bool :=
  (cellField a).msb == (cellField b).msb && (cellField a + cellField b).msb != (cellField a).msb

/-- The code of a sum. -/
def codeAdd (a b : BitVec 4) : BitVec 4 :=
  if a = 7 then b
  else if b = 7 then a
  else if a = 6 && b = 6 then 6
  else
    let c := codeFlags a ||| codeFlags b
    if c.getLsbD 2 && c.getLsbD 1 then c ||| 8 else c

/-- The exact add of R166. -/
def cellAdd (a b : Cell) : Cell :=
  let c := codeAdd (cellCode a) (cellCode b)
  cellMk (if cellOver a b then c ||| 1 else c) (cellField a + cellField b)

/-- Adding the image sets OVF in the cell (R195): the addition overflows, or the image carries OVF. -/
def cellSets (a b : Cell) : Bool := cellOver a b || cellOvf b

/-! ### Rounding (R185 to R187) -/

/-- The modes of RMODE. -/
inductive Round where
  | rne | rtz | sr (rnd : Nat)
  deriving DecidableEq, Repr

/-- The finite magnitude m · 2^−160 rounded into a format, as its pattern without sign; beyond the largest finite value the pattern
that an exponent without limit gives. -/
def NumFmt.roundMag (f : NumFmt) (mode : Round) (m : Nat) : Nat :=
  let umin := 161 - f.bias - f.mb
  let u := max (Nat.log2 m - f.mb) umin
  let q := match mode with
    | .rne => roundShift m u
    | .rtz => m / 2 ^ u
    | .sr rnd => m / 2 ^ u + (if 2 ^ 32 ≤ m % 2 ^ u * 2 ^ 32 / 2 ^ u + rnd then 1 else 0)
  (u - umin) * 2 ^ f.mb + q

/-- An infinity of a format, or what stands for it: with SAT the largest finite value; E4M3 has 0x7F. -/
def NumFmt.infinity (f : NumFmt) (neg sat : Bool) : Nat :=
  let sign := if neg then 2 ^ (f.eb + f.mb) else 0
  if sat then sign + f.top
  else if f.inf then sign + (2 ^ f.eb - 1) * 2 ^ f.mb
  else f.nan

/-- A number rounded into a format (R186, R187). -/
def NumFmt.round (f : NumFmt) (mode : Round) (sat : Bool) : Num → Nat
  | .nan => f.nan
  | .inf neg => f.infinity neg sat
  | .fin neg m =>
    let sign := if neg then 2 ^ (f.eb + f.mb) else 0
    let r := f.roundMag mode m
    if r ≤ f.top then sign + r
    else if mode = .rtz then sign + f.top
    else f.infinity neg sat

/-- The value of an EXACT cell at drain (R186). -/
def cellNum (c : Cell) : Num :=
  let code := cellCode c
  if code = 7 then .fin false 0
  else if code = 6 then .fin true 0
  else if code.getLsbD 3 then .nan
  else if code.getLsbD 2 then .inf false
  else if code.getLsbD 1 then .inf true
  else if code.getLsbD 0 then .nan
  else .fin (cellField c).msb (cellField c).toInt.natAbs

/-- The value of a FAST cell. -/
def fastNum (c : Cell) : Num := (numFmt 0).read (c.toNat % 2 ^ 32)

/-! ### The random word (R188) -/

/-- mix of R188. -/
def mix (x : BitVec 64) : BitVec 64 :=
  let x := x ^^^ (x >>> 32)
  let x := x * 0xA3C59AC26D4F1E37#64
  let x := x ^^^ (x >>> 29)
  let x := x * 0x6B4E2F91C03D8A55#64
  x ^^^ (x >>> 32)

/-- The random word of the cell at position `c` of a line. -/
def rndWord (seed : BitVec 64) (la : LineAddr) (epoch : Word) (c : Nat) : Nat :=
  (mix (mix (seed ^^^ la.setWidth 64) ^^^ (epoch.setWidth 64 <<< 7) ^^^ BitVec.ofNat 64 c)).toNat / 2 ^ 32

/-! ### Scaled contributions (R193) -/

/-- An integer rounded to 24 significant bits, nearest, ties to even. -/
def round24 (n : Nat) : Nat :=
  let k := Nat.log2 n - 23
  roundShift n k * 2 ^ k

/-- The exponent shift as an integer. -/
def shiftInt (s : BitVec 7) : Int := s.toInt

/-- The scaled contribution q on the 2^−160 grid. -/
def scaled (x : Num) (mul : Word) (shift : BitVec 7) : Num :=
  let mneg := f32Sign mul
  match x with
  | .nan => .nan
  | .inf neg => if f32Mag mul = 0 then .nan else .inf (neg != mneg)
  | .fin neg m => .fin (neg != mneg) (roundShift (round24 (m * f32Mag mul)) (149 - shiftInt shift).toNat)

/-- A contribution as the image added to an EXACT cell: one of magnitude 2^155 or more sets OVF and adds nothing. -/
def imageOf : Num → Cell
  | .fin neg m => if 2 ^ 315 ≤ m then cellMk 1 0 else cellOf (.fin neg m)
  | x => cellOf x

/-! ### FAST (R168, R198) -/

/-- A contribution as binary32. -/
def fastOf (x : Num) : BitVec 32 := BitVec.ofNat 32 ((numFmt 0).round .rne false x)

/-- Add neighbours pairwise. -/
def pairSums : List (BitVec 32) → List (BitVec 32)
  | a :: b :: r => fadd32 a b :: pairSums r
  | r => r

/-- The tree of R198 over the contributions of one cell: `k` rounds of pairwise sums. -/
def fastTree : Nat → List (BitVec 32) → BitVec 32
  | 0, y => y.headD 0x80000000#32
  | k + 1, y => fastTree k (pairSums y)

/-- fast_update of R198. -/
def fastUpdate (shape : Nat) (a : BitVec 32) (y : List (BitVec 32)) : BitVec 32 := fadd32 a (fastTree shape y)

/-! ### Row images (R175) -/

/-- Cell `i` of a row image. -/
def rowCell (r : RowImage) (i : Nat) : Cell := r.extractLsb' (320 * i) 320

/-- Replace cell `i`. -/
def rowPut (r : RowImage) (i : Nat) (c : Cell) : RowImage :=
  (r &&& ~~~((BitVec.allOnes 320).setWidth 10240 <<< (320 * i))) ||| (c.setWidth 10240 <<< (320 * i))

/-- A row whose 32 cells are all `c`. -/
def rowOfCell (c : Cell) : RowImage := (List.range 32).foldl (fun r i => rowPut r i c) 0

/-- The empty state of a row: EMPTY cells, or −0 in FAST. -/
def rowEmpty (fast : Bool) : RowImage := rowOfCell (if fast then cellFast else cellEmpty)

/-- Some cell has OVF = 1. -/
def rowOvf (r : RowImage) : Bool := (List.range 32).any (fun i => cellOvf (rowCell r i))

end Sys2Proof.Machine
end

