-- ==== Sys2Proof/Machine/Crc.lean ====
section
/-! DEFINITION. CRC-32C with the parameters of R231, and the feedback register of R371, which uses its polynomial. -/

namespace Sys2Proof.Machine

/-- The polynomial 0x1EDC_6F41 in reflected form (R231). -/
def crcPoly : BitVec 32 := 0x82F63B78#32

/-- One step of the register: shift right, and subtract the polynomial when the bit shifted out was 1. -/
def crcShift (r : BitVec 32) : BitVec 32 :=
  if r.getLsbD 0 then (r >>> 1) ^^^ crcPoly else r >>> 1

/-- Enter one byte, least significant bit first. -/
def crcByte (r : BitVec 32) (b : BitVec 8) : BitVec 32 :=
  (List.range 8).foldl (fun r _ => crcShift r) (r ^^^ b.setWidth 32)

/-- Enter the first `n` bytes of a word, byte 0 first. -/
def crcBytes {w : Nat} (r : BitVec 32) (n : Nat) (d : BitVec w) : BitVec 32 :=
  (List.range n).foldl (fun r i => crcByte r (d.extractLsb' (8 * i) 8)) r

/-- Enter the bytes of a list. -/
def crcList (r : BitVec 32) (bs : List (BitVec 8)) : BitVec 32 := bs.foldl crcByte r

/-- The CRC-32C of the first `n` bytes of a word. -/
def crc32c {w : Nat} (n : Nat) (d : BitVec w) : BitVec 32 := crcBytes 0xFFFFFFFF#32 n d ^^^ 0xFFFFFFFF#32

end Sys2Proof.Machine
end

