-- ==== Sys2Proof/Config.lean ====
section
/-! DEFINITION. The free values: what the spec leaves open. Each is an opaque constant with no body, so no
proof can see a value of it; the model applies it to a counter that State holds (State.freeCtr), so that each use
is fresh. See notes/assumptions/4.md. -/

namespace Sys2Proof.Config

/-- A value the spec leaves open between stated bounds (notes/assumptions/4.md). -/
opaque freeNat : Nat → Nat
/-- The bits of a line that travels as "poisoned data" where the spec gives no data (R13, R85, R89). -/
opaque freeLine : Nat → LineData
/-- The 11-bit Rastiaris identity under JEP106 (R420), which the spec names and does not give. -/
opaque jep106 : BitVec 11

end Sys2Proof.Config
end

