-- ==== Sys2Proof/Machine/Msg.lean ====
section
/-! DEFINITION. What the slice sends: the casement messages of R116 with the fields of R397 to R399, the commands of the
other ports, and the answers of the management and budget ports. A step lists what it sends in State.out. -/

namespace Sys2Proof.Machine

/-- The payload of a casement message (R399). -/
inductive Body where
  | none
  | line (d : LineData)
  | old (v : BitVec 64)
  | atomic (a : AtomOp)
  | seed (v : BitVec 64)
  | partialLine (be : BitVec 128) (d : LineData)
  | rowBeat (d : LineData)
  deriving DecidableEq, Repr

/-- A casement message sent by the slice (R116, R397, R398). `who` is the original requester (FWD_TO of a FWD message);
`hold` names the window
whose egress slot the message waits for (R254). `dest` is the agent snooped by a FWD, and for a multicast DAT 32 + the group. A REQ or BAR message to another slice names it
in `who.pslice` of the route (`toSlice`). -/
structure Msg where
  cls     : Nat
  typ     : Nat
  status  : Nat := 0
  label   : BitVec 3
  who     : Requester
  tag     : BitVec 11
  psn     : Bool := false
  dest    : Nat := 0
  line    : LineAddr
  hint    : Nat := 0
  reason  : Nat := 0
  go      : Bool := false
  beat    : Nat := 0
  scope   : BitVec 2 := 0
  rel     : Bool := false
  acq     : Bool := false
  winV    : Bool := false
  win     : BitVec 4 := 0
  noack   : Bool := false
  count   : Nat := 0
  narrow  : Bool := false
  retry   : BitVec 3 := 0
  hold    : Option (BitVec 4) := Option.none
  toSlice : Option (BitVec 6) := Option.none
  body    : Body := .none
  deriving DecidableEq, Repr

/-- Which bits of a message's first flit an injector has inverted (R372). -/
inductive Flip where
  | bits (p0 : Nat) (p1 : Option Nat)
  | flit
  deriving DecidableEq, Repr

/-- What leaves the slice in one step. -/
inductive Out where
  /-- A casement message in a flit of its own, with the flit's FSEQ (R393, R394). -/
  | casement (cas : Nat) (fseq : BitVec 10) (m : Msg)
  /-- ACK or NAK of the link layer on link `n` (R394, R395). -/
  | ack (n : Nat) (nak : Bool) (seq : BitVec 10)
  /-- A credit word on CSn_CRD_OUT (R396). -/
  | credit (cas : Nat) (word : Word)
  /-- A far-port read command (R401). -/
  | farRead (sub : Bool) (tag : BitVec 11) (line : LineAddr)
  /-- A far-port write command and its line (R401). -/
  | farWrite (sub : Bool) (tag : BitVec 11) (line : LineAddr) (psn : Bool) (d : LineData)
  /-- A chain message: its 32 B header and the image of a TOKEN (R209, R403). -/
  | chain (hdr : BitVec 256) (image : Option RowImage)
  /-- A mirror message: TYPE, header, payload bits (R339, R404). -/
  | mirror (typ : Nat) (h : MirHdr) (line : Option (BitVec 1024)) (ldg : Option MirLedger) (row : Option MirRow)
      (scale : BitVec 128)
  /-- A credit return on the Wicket or Transom lane (R403, R406). -/
  | linkCredit (link : Nat) (lane : Nat) (n : Nat)
  /-- The capability message of R304 on a link. -/
  | capability (link : Nat) (msg : BitVec 64)
  /-- A reach probe on lane 2 of the Transom (R344, R405). -/
  | probe (line : LineAddr)
  /-- The response phase of a management access: MG_RDATA, MG_STATUS, MG_REASON (R407). -/
  | mg (data : Word) (status : Nat) (reason : Nat)
  /-- The answer to an access of the Curator, over its lane: data, status and reason. -/
  | curator (data : Word) (status : Nat) (reason : Nat)
  /-- A budget answer on BM_OUT_D (R327). -/
  | budget (msg : BitVec 128)
  /-- An IRQ_CUR pulse (R414). -/
  | irqCur
  /-- An IRQ_ADM pulse (R414). -/
  | irqAdm
  /-- A message that leaves with inverted bits; `below` when they are inverted below the link layer (R369, R372). -/
  | corrupted (below : Bool) (f : Flip) (o : Out)
  /-- An answer to this slice's own Porter, which takes no casement. -/
  | porter (m : Msg)
  /-- The identity code or bypass answer of the IEEE 1149.1 port (R420). -/
  | jtag (v : Word)
  deriving DecidableEq, Repr

end Sys2Proof.Machine
end

