-- ==== Sys2Proof/Machine/Regs.lean ====
section
/-! DEFINITION. The registers of the slice, from the field tables of spec/01 to spec/17: the place of every field as a
Field constant named <REGISTER>.<FIELD> (an array of registers has a stride), <REGISTER>.word for the whole register,
the access masks of R10 per register, which bits survive a warm reset (R12), and the Reset values (R12,
spec/17_register_index.md). -/

namespace Sys2Proof.Machine

/-- SLC_ID, whole word (spec/11_startup_daybook.md). -/
abbrev SLC_ID.word : Field := ⟨0x00000, 0, 0, 32⟩
abbrev SLC_ID.STRAP_OK : Field := ⟨0x00000, 0, 31, 1⟩
abbrev SLC_ID.COORD : Field := ⟨0x00000, 0, 0, 24⟩
/-- SLC_CAP, whole word (spec/11_startup_daybook.md). -/
abbrev SLC_CAP.word : Field := ⟨0x00004, 0, 0, 32⟩
abbrev SLC_CAP.FEAT_MAX : Field := ⟨0x00004, 0, 28, 4⟩
abbrev SLC_CAP.REV : Field := ⟨0x00004, 0, 24, 4⟩
abbrev SLC_CAP.BUILD : Field := ⟨0x00004, 0, 23, 1⟩
/-- SLC_FEAT, whole word (spec/11_startup_daybook.md). -/
abbrev SLC_FEAT.word : Field := ⟨0x00008, 0, 0, 32⟩
abbrev SLC_FEAT.RUN_LEVEL : Field := ⟨0x00008, 0, 0, 4⟩
/-- SLC_START, whole word (spec/11_startup_daybook.md). -/
abbrev SLC_START.word : Field := ⟨0x00010, 0, 0, 32⟩
abbrev SLC_START.STEP : Field := ⟨0x00010, 0, 28, 4⟩
abbrev SLC_START.STATE : Field := ⟨0x00010, 0, 25, 3⟩
abbrev SLC_START.HALVES : Field := ⟨0x00010, 0, 24, 1⟩
abbrev SLC_START.WARM : Field := ⟨0x00010, 0, 23, 1⟩
/-- SLC_START_CTL, whole word (spec/11_startup_daybook.md). -/
abbrev SLC_START_CTL.word : Field := ⟨0x00014, 0, 0, 32⟩
abbrev SLC_START_CTL.HOLD : Field := ⟨0x00014, 0, 31, 1⟩
abbrev SLC_START_CTL.RELEASE : Field := ⟨0x00014, 0, 30, 1⟩
/-- SLC_START_TMO, whole word (spec/11_startup_daybook.md). -/
abbrev SLC_START_TMO.word : Field := ⟨0x00018, 0, 0, 32⟩
abbrev SLC_START_TMO.IMG_TMO : Field := ⟨0x00018, 0, 16, 16⟩
abbrev SLC_START_TMO.FW_TMO : Field := ⟨0x00018, 0, 0, 16⟩
/-- SLC_HALVES, whole word (spec/11_startup_daybook.md). -/
abbrev SLC_HALVES.word : Field := ⟨0x00020, 0, 0, 32⟩
abbrev SLC_HALVES.MISMATCH : Field := ⟨0x00020, 0, 16, 16⟩
abbrev SLC_HALVES.CHARGED : Field := ⟨0x00020, 0, 0, 16⟩
/-- SLC_LIVE, whole word (spec/01_slice_architecture.md). -/
abbrev SLC_LIVE.word : Field := ⟨0x00100, 0, 0, 32⟩
abbrev SLC_LIVE.GEN : Field := ⟨0x00100, 0, 24, 8⟩
abbrev SLC_LIVE.SELF : Field := ⟨0x00100, 0, 16, 3⟩
abbrev SLC_LIVE.COUNT : Field := ⟨0x00100, 0, 12, 4⟩
abbrev SLC_LIVE.MASK : Field := ⟨0x00100, 0, 0, 8⟩
/-- SLC_HASH_PA_LO, whole word (spec/01_slice_architecture.md). -/
abbrev SLC_HASH_PA_LO.word : Field := ⟨0x00104, 0, 0, 32⟩
abbrev SLC_HASH_PA_LO.PA_LO : Field := ⟨0x00104, 0, 0, 32⟩
/-- SLC_HASH_PA_HI, whole word (spec/01_slice_architecture.md). -/
abbrev SLC_HASH_PA_HI.word : Field := ⟨0x00108, 0, 0, 32⟩
abbrev SLC_HASH_PA_HI.PA_HI : Field := ⟨0x00108, 0, 0, 20⟩
/-- SLC_HASH_OUT, whole word (spec/01_slice_architecture.md). -/
abbrev SLC_HASH_OUT.word : Field := ⟨0x0010C, 0, 0, 32⟩
abbrev SLC_HASH_OUT.VALID : Field := ⟨0x0010C, 0, 31, 1⟩
abbrev SLC_HASH_OUT.IS_SELF : Field := ⟨0x0010C, 0, 30, 1⟩
abbrev SLC_HASH_OUT.POS : Field := ⟨0x0010C, 0, 24, 3⟩
abbrev SLC_HASH_OUT.HOME : Field := ⟨0x0010C, 0, 20, 3⟩
abbrev SLC_HASH_OUT.SET : Field := ⟨0x0010C, 0, 0, 14⟩
/-- SLC_ISLAND_STATUS, whole word (spec/01_slice_architecture.md). -/
abbrev SLC_ISLAND_STATUS.word : Field := ⟨0x00110, 0, 0, 32⟩
abbrev SLC_ISLAND_STATUS.BP_STALL : Field := ⟨0x00110, 0, 23, 9⟩
abbrev SLC_ISLAND_STATUS.NL_STALL : Field := ⟨0x00110, 0, 19, 1⟩
abbrev SLC_ISLAND_STATUS.CUR_STALL : Field := ⟨0x00110, 0, 18, 1⟩
abbrev SLC_ISLAND_STATUS.LDG_STALL : Field := ⟨0x00110, 0, 17, 1⟩
abbrev SLC_ISLAND_STATUS.BP_UP : Field := ⟨0x00110, 0, 7, 9⟩
abbrev SLC_ISLAND_STATUS.NL_UP : Field := ⟨0x00110, 0, 2, 1⟩
abbrev SLC_ISLAND_STATUS.CUR_UP : Field := ⟨0x00110, 0, 1, 1⟩
abbrev SLC_ISLAND_STATUS.LDG_UP : Field := ⟨0x00110, 0, 0, 1⟩
/-- DBK_CTL, whole word (spec/11_startup_daybook.md). -/
abbrev DBK_CTL.word : Field := ⟨0x01000, 0, 0, 32⟩
abbrev DBK_CTL.CLEAR : Field := ⟨0x01000, 0, 31, 1⟩
abbrev DBK_CTL.CLR_FAILS : Field := ⟨0x01000, 0, 30, 1⟩
abbrev DBK_CTL.CLR_RETIRED : Field := ⟨0x01000, 0, 29, 1⟩
/-- DBK_STATUS, whole word (spec/11_startup_daybook.md). -/
abbrev DBK_STATUS.word : Field := ⟨0x01004, 0, 0, 32⟩
abbrev DBK_STATUS.FULL : Field := ⟨0x01004, 0, 31, 1⟩
abbrev DBK_STATUS.COUNT : Field := ⟨0x01004, 0, 24, 7⟩
abbrev DBK_STATUS.STARTS : Field := ⟨0x01004, 0, 16, 8⟩
abbrev DBK_STATUS.LOST : Field := ⟨0x01004, 0, 0, 16⟩
/-- DBK_FAILS, whole word (spec/11_startup_daybook.md). -/
abbrev DBK_FAILS.word : Field := ⟨0x01008, 0, 0, 32⟩
abbrev DBK_FAILS.STEP0 : Field := ⟨0x01008, 0, 0, 2⟩
abbrev DBK_FAILS.STEP1 : Field := ⟨0x01008, 0, 2, 2⟩
abbrev DBK_FAILS.STEP2 : Field := ⟨0x01008, 0, 4, 2⟩
abbrev DBK_FAILS.STEP3 : Field := ⟨0x01008, 0, 6, 2⟩
abbrev DBK_FAILS.STEP4 : Field := ⟨0x01008, 0, 8, 2⟩
abbrev DBK_FAILS.STEP5 : Field := ⟨0x01008, 0, 10, 2⟩
abbrev DBK_FAILS.STEP6 : Field := ⟨0x01008, 0, 12, 2⟩
abbrev DBK_FAILS.STEP7 : Field := ⟨0x01008, 0, 14, 2⟩
abbrev DBK_FAILS.STEP8 : Field := ⟨0x01008, 0, 16, 2⟩
abbrev DBK_FAILS.STEP9 : Field := ⟨0x01008, 0, 18, 2⟩
/-- DBK_LINK_FAILS, whole word (spec/11_startup_daybook.md). -/
abbrev DBK_LINK_FAILS.word : Field := ⟨0x0100C, 0, 0, 32⟩
abbrev DBK_LINK_FAILS.LINK0 : Field := ⟨0x0100C, 0, 0, 2⟩
abbrev DBK_LINK_FAILS.LINK1 : Field := ⟨0x0100C, 0, 2, 2⟩
abbrev DBK_LINK_FAILS.LINK2 : Field := ⟨0x0100C, 0, 4, 2⟩
abbrev DBK_LINK_FAILS.LINK3 : Field := ⟨0x0100C, 0, 6, 2⟩
abbrev DBK_LINK_FAILS.LINK4 : Field := ⟨0x0100C, 0, 8, 2⟩
abbrev DBK_LINK_FAILS.LINK5 : Field := ⟨0x0100C, 0, 10, 2⟩
abbrev DBK_LINK_FAILS.LINK6 : Field := ⟨0x0100C, 0, 12, 2⟩
abbrev DBK_LINK_FAILS.LINK7 : Field := ⟨0x0100C, 0, 14, 2⟩
/-- DBK_RETIRED, whole word (spec/11_startup_daybook.md). -/
abbrev DBK_RETIRED.word : Field := ⟨0x01010, 0, 0, 32⟩
abbrev DBK_RETIRED.BANKS : Field := ⟨0x01010, 0, 0, 17⟩
/-- DBK_DEGRADED, whole word (spec/11_startup_daybook.md). -/
abbrev DBK_DEGRADED.word : Field := ⟨0x01014, 0, 0, 32⟩
abbrev DBK_DEGRADED.LINKS : Field := ⟨0x01014, 0, 4, 8⟩
abbrev DBK_DEGRADED.ADMISSION : Field := ⟨0x01014, 0, 3, 1⟩
abbrev DBK_DEGRADED.CAL : Field := ⟨0x01014, 0, 2, 1⟩
abbrev DBK_DEGRADED.LEDGER : Field := ⟨0x01014, 0, 1, 1⟩
abbrev DBK_DEGRADED.BANKS : Field := ⟨0x01014, 0, 0, 1⟩
/-- DBK_ENT_INFO, whole word (spec/11_startup_daybook.md). -/
abbrev DBK_ENT_INFO.word : Field := ⟨0x01100, 8, 0, 32⟩
abbrev DBK_ENT_INFO.VALID : Field := ⟨0x01100, 8, 31, 1⟩
abbrev DBK_ENT_INFO.OUTCOME : Field := ⟨0x01100, 8, 28, 3⟩
abbrev DBK_ENT_INFO.STEP : Field := ⟨0x01100, 8, 24, 4⟩
abbrev DBK_ENT_INFO.CAUSE : Field := ⟨0x01100, 8, 16, 8⟩
abbrev DBK_ENT_INFO.START : Field := ⟨0x01100, 8, 8, 8⟩
abbrev DBK_ENT_INFO.DETAIL : Field := ⟨0x01100, 8, 0, 8⟩
/-- DBK_ENT_TIME, whole word (spec/11_startup_daybook.md). -/
abbrev DBK_ENT_TIME.word : Field := ⟨0x01104, 8, 0, 32⟩
abbrev DBK_ENT_TIME.US : Field := ⟨0x01104, 8, 0, 32⟩
/-- PWR_CMD, whole word (spec/12_power_retention.md). -/
abbrev PWR_CMD.word : Field := ⟨0x02000, 0, 0, 32⟩
abbrev PWR_CMD.GO : Field := ⟨0x02000, 0, 31, 1⟩
abbrev PWR_CMD.PAIR : Field := ⟨0x02000, 0, 8, 1⟩
abbrev PWR_CMD.TARGET : Field := ⟨0x02000, 0, 0, 2⟩
/-- PWR_STATUS, whole word (spec/12_power_retention.md). -/
abbrev PWR_STATUS.word : Field := ⟨0x02004, 0, 0, 32⟩
abbrev PWR_STATUS.STATE : Field := ⟨0x02004, 0, 28, 4⟩
abbrev PWR_STATUS.PEND_V : Field := ⟨0x02004, 0, 27, 1⟩
abbrev PWR_STATUS.PEND : Field := ⟨0x02004, 0, 25, 2⟩
abbrev PWR_STATUS.PHASE : Field := ⟨0x02004, 0, 22, 3⟩
abbrev PWR_STATUS.LAST_STATUS : Field := ⟨0x02004, 0, 18, 4⟩
abbrev PWR_STATUS.REASON : Field := ⟨0x02004, 0, 10, 8⟩
/-- PWR_CAP, whole word (spec/12_power_retention.md). -/
abbrev PWR_CAP.word : Field := ⟨0x02008, 0, 0, 32⟩
abbrev PWR_CAP.CAP_MW : Field := ⟨0x02008, 0, 16, 16⟩
abbrev PWR_CAP.GRANTED_MW : Field := ⟨0x02008, 0, 0, 16⟩
/-- PWR_RAMP, whole word (spec/12_power_retention.md). -/
abbrev PWR_RAMP.word : Field := ⟨0x0200C, 0, 0, 32⟩
abbrev PWR_RAMP.BOUND_US : Field := ⟨0x0200C, 0, 16, 16⟩
abbrev PWR_RAMP.RAMP_US : Field := ⟨0x0200C, 0, 0, 16⟩
/-- PWR_RETAIN, whole word (spec/12_power_retention.md). -/
abbrev PWR_RETAIN.word : Field := ⟨0x02010, 0, 0, 32⟩
abbrev PWR_RETAIN.WAYS : Field := ⟨0x02010, 0, 0, 32⟩
/-- PWR_RET_EST, whole word (spec/12_power_retention.md). -/
abbrev PWR_RET_EST.word : Field := ⟨0x02014, 0, 0, 32⟩
abbrev PWR_RET_EST.CMDS : Field := ⟨0x02014, 0, 16, 11⟩
abbrev PWR_RET_EST.EST : Field := ⟨0x02014, 0, 0, 16⟩
/-- PWR_TIMES, whole word (spec/12_power_retention.md). -/
abbrev PWR_TIMES.word : Field := ⟨0x02018, 0, 0, 32⟩
abbrev PWR_TIMES.ENTRY_US : Field := ⟨0x02018, 0, 16, 16⟩
abbrev PWR_TIMES.EXIT_US : Field := ⟨0x02018, 0, 0, 16⟩
/-- PWR_RECALLS, whole word (spec/12_power_retention.md). -/
abbrev PWR_RECALLS.word : Field := ⟨0x0201C, 0, 0, 32⟩
abbrev PWR_RECALLS.COUNT : Field := ⟨0x0201C, 0, 0, 32⟩
/-- PWR_FLUSHED, whole word (spec/12_power_retention.md). -/
abbrev PWR_FLUSHED.word : Field := ⟨0x02020, 0, 0, 32⟩
abbrev PWR_FLUSHED.COUNT : Field := ⟨0x02020, 0, 0, 32⟩
/-- PWR_WAKES, whole word (spec/12_power_retention.md). -/
abbrev PWR_WAKES.word : Field := ⟨0x02024, 0, 0, 32⟩
abbrev PWR_WAKES.COUNT : Field := ⟨0x02024, 0, 0, 32⟩
/-- STK_CFG, whole word (spec/02_stacks.md). -/
abbrev STK_CFG.word : Field := ⟨0x04000, 0, 0, 32⟩
abbrev STK_CFG.WAYS : Field := ⟨0x04000, 0, 16, 8⟩
abbrev STK_CFG.NB : Field := ⟨0x04000, 0, 8, 5⟩
abbrev STK_CFG.SPARE_PHYS : Field := ⟨0x04000, 0, 0, 5⟩
/-- STK_BANK_STATE, whole word (spec/02_stacks.md). -/
abbrev STK_BANK_STATE.word : Field := ⟨0x04004, 0, 0, 32⟩
abbrev STK_BANK_STATE.COPY_BUSY : Field := ⟨0x04004, 0, 31, 1⟩
abbrev STK_BANK_STATE.COPY_SRC : Field := ⟨0x04004, 0, 24, 5⟩
abbrev STK_BANK_STATE.SPARE_USED : Field := ⟨0x04004, 0, 23, 1⟩
abbrev STK_BANK_STATE.SPARE_FOR : Field := ⟨0x04004, 0, 17, 5⟩
abbrev STK_BANK_STATE.RETIRED : Field := ⟨0x04004, 0, 0, 17⟩
/-- STK_RETIRE, whole word (spec/02_stacks.md). -/
abbrev STK_RETIRE.word : Field := ⟨0x04008, 0, 0, 32⟩
abbrev STK_RETIRE.GO : Field := ⟨0x04008, 0, 31, 1⟩
abbrev STK_RETIRE.BANK : Field := ⟨0x04008, 0, 0, 5⟩
/-- STK_REF_TIER, whole word (spec/02_stacks.md). -/
abbrev STK_REF_TIER.word : Field := ⟨0x04010, 0, 0, 32⟩
abbrev STK_REF_TIER.TEMP : Field := ⟨0x04010, 0, 24, 8⟩
abbrev STK_REF_TIER.OVER_TEMP : Field := ⟨0x04010, 0, 19, 1⟩
abbrev STK_REF_TIER.CAL_OK : Field := ⟨0x04010, 0, 18, 1⟩
abbrev STK_REF_TIER.FLOOR : Field := ⟨0x04010, 0, 8, 2⟩
abbrev STK_REF_TIER.TIER : Field := ⟨0x04010, 0, 0, 2⟩
/-- STK_REF_STATUS, whole word (spec/02_stacks.md). -/
abbrev STK_REF_STATUS.word : Field := ⟨0x04014, 0, 0, 32⟩
abbrev STK_REF_STATUS.MAX_PEND : Field := ⟨0x04014, 0, 24, 8⟩
abbrev STK_REF_STATUS.FORCED : Field := ⟨0x04014, 0, 0, 17⟩
/-- STK_SCRUB_CTL, whole word (spec/02_stacks.md). -/
abbrev STK_SCRUB_CTL.word : Field := ⟨0x04020, 0, 0, 32⟩
abbrev STK_SCRUB_CTL.EN : Field := ⟨0x04020, 0, 31, 1⟩
abbrev STK_SCRUB_CTL.ROW_GAP : Field := ⟨0x04020, 0, 0, 24⟩
/-- STK_SCRUB_STATUS, whole word (spec/02_stacks.md). -/
abbrev STK_SCRUB_STATUS.word : Field := ⟨0x04024, 0, 0, 32⟩
abbrev STK_SCRUB_STATUS.LATE : Field := ⟨0x04024, 0, 31, 1⟩
abbrev STK_SCRUB_STATUS.ROW : Field := ⟨0x04024, 0, 0, 13⟩
/-- STK_CAL_GRANT, whole word (spec/02_stacks.md). -/
abbrev STK_CAL_GRANT.word : Field := ⟨0x04030, 0, 0, 32⟩
abbrev STK_CAL_GRANT.OPEN : Field := ⟨0x04030, 0, 31, 1⟩
abbrev STK_CAL_GRANT.LEN_US : Field := ⟨0x04030, 0, 0, 16⟩
/-- STK_ECC_CE, whole word (spec/02_stacks.md). -/
abbrev STK_ECC_CE.word : Field := ⟨0x04040, 0, 0, 32⟩
abbrev STK_ECC_CE.COUNT : Field := ⟨0x04040, 0, 0, 32⟩
/-- STK_ECC_UE, whole word (spec/02_stacks.md). -/
abbrev STK_ECC_UE.word : Field := ⟨0x04044, 0, 0, 32⟩
abbrev STK_ECC_UE.COUNT : Field := ⟨0x04044, 0, 0, 32⟩
/-- STK_ECC_LIMIT, whole word (spec/02_stacks.md). -/
abbrev STK_ECC_LIMIT.word : Field := ⟨0x04048, 0, 0, 32⟩
abbrev STK_ECC_LIMIT.LIMIT : Field := ⟨0x04048, 0, 0, 4⟩
/-- STK_TAG_LOST, whole word (spec/02_stacks.md). -/
abbrev STK_TAG_LOST.word : Field := ⟨0x04050, 4, 0, 32⟩
abbrev STK_TAG_LOST.LOST : Field := ⟨0x04050, 4, 31, 1⟩
abbrev STK_TAG_LOST.SET : Field := ⟨0x04050, 4, 0, 14⟩
/-- STK_CAL_RESULT, whole word (spec/02_stacks.md). -/
abbrev STK_CAL_RESULT.word : Field := ⟨0x04100, 4, 0, 32⟩
abbrev STK_CAL_RESULT.TEMP : Field := ⟨0x04100, 4, 16, 8⟩
abbrev STK_CAL_RESULT.CODE : Field := ⟨0x04100, 4, 0, 4⟩
/-- ALT_PIN_MASK, whole word (spec/03_placement.md). -/
abbrev ALT_PIN_MASK.word : Field := ⟨0x06000, 0, 0, 32⟩
abbrev ALT_PIN_MASK.MASK : Field := ⟨0x06000, 0, 0, 32⟩
/-- ALT_ADAPT, whole word (spec/03_placement.md). -/
abbrev ALT_ADAPT.word : Field := ⟨0x06004, 0, 0, 32⟩
abbrev ALT_ADAPT.FREEZE : Field := ⟨0x06004, 0, 31, 1⟩
abbrev ALT_ADAPT.THRASH_RUN : Field := ⟨0x06004, 0, 16, 8⟩
abbrev ALT_ADAPT.CALM_RUN : Field := ⟨0x06004, 0, 8, 8⟩
abbrev ALT_ADAPT.LOG_HEAD : Field := ⟨0x06004, 0, 0, 5⟩
/-- ALT_ADJUST, whole word (spec/03_placement.md). -/
abbrev ALT_ADJUST.word : Field := ⟨0x06008, 0, 0, 32⟩
abbrev ALT_ADJUST.OP : Field := ⟨0x06008, 0, 30, 2⟩
abbrev ALT_ADJUST.CARREL : Field := ⟨0x06008, 0, 0, 6⟩
/-- ALT_WINDOW, whole word (spec/03_placement.md). -/
abbrev ALT_WINDOW.word : Field := ⟨0x0600C, 0, 0, 32⟩
abbrev ALT_WINDOW.MIN_ACC : Field := ⟨0x0600C, 0, 16, 16⟩
abbrev ALT_WINDOW.WIN_US : Field := ⟨0x0600C, 0, 0, 16⟩
/-- ALT_POLICY, whole word (spec/03_placement.md). -/
abbrev ALT_POLICY.word : Field := ⟨0x06010, 0, 0, 32⟩
abbrev ALT_POLICY.HOLD : Field := ⟨0x06010, 0, 24, 8⟩
abbrev ALT_POLICY.RESTORE : Field := ⟨0x06010, 0, 16, 8⟩
abbrev ALT_POLICY.THRASH_PCT : Field := ⟨0x06010, 0, 9, 7⟩
abbrev ALT_POLICY.MIN_GROUPS : Field := ⟨0x06010, 0, 4, 5⟩
/-- ALT_ADJ_TOTAL, whole word (spec/03_placement.md). -/
abbrev ALT_ADJ_TOTAL.word : Field := ⟨0x06014, 0, 0, 32⟩
abbrev ALT_ADJ_TOTAL.COUNT : Field := ⟨0x06014, 0, 0, 32⟩
/-- ALT_SPILL, whole word (spec/03_placement.md). -/
abbrev ALT_SPILL.word : Field := ⟨0x06018, 0, 0, 32⟩
abbrev ALT_SPILL.COUNT : Field := ⟨0x06018, 0, 0, 32⟩
/-- ALT_GRP_ACC, whole word (spec/03_placement.md). -/
abbrev ALT_GRP_ACC.word : Field := ⟨0x06040, 8, 0, 32⟩
abbrev ALT_GRP_ACC.COUNT : Field := ⟨0x06040, 8, 0, 24⟩
/-- ALT_GRP_MISS, whole word (spec/03_placement.md). -/
abbrev ALT_GRP_MISS.word : Field := ⟨0x06044, 8, 0, 32⟩
abbrev ALT_GRP_MISS.COUNT : Field := ⟨0x06044, 8, 0, 24⟩
/-- ALT_CRL_BASE_LO, whole word (spec/03_placement.md). -/
abbrev ALT_CRL_BASE_LO.word : Field := ⟨0x06100, 16, 0, 32⟩
abbrev ALT_CRL_BASE_LO.BASE_LO : Field := ⟨0x06100, 16, 8, 24⟩
/-- ALT_CRL_BASE_HI, whole word (spec/03_placement.md). -/
abbrev ALT_CRL_BASE_HI.word : Field := ⟨0x06104, 16, 0, 32⟩
abbrev ALT_CRL_BASE_HI.BASE_HI : Field := ⟨0x06104, 16, 0, 20⟩
/-- ALT_CRL_SIZE, whole word (spec/03_placement.md). -/
abbrev ALT_CRL_SIZE.word : Field := ⟨0x06108, 16, 0, 32⟩
abbrev ALT_CRL_SIZE.SIZE : Field := ⟨0x06108, 16, 0, 32⟩
/-- ALT_CRL_CTL, whole word (spec/03_placement.md). -/
abbrev ALT_CRL_CTL.word : Field := ⟨0x0610C, 16, 0, 32⟩
abbrev ALT_CRL_CTL.VALID : Field := ⟨0x0610C, 16, 31, 1⟩
abbrev ALT_CRL_CTL.HARD : Field := ⟨0x0610C, 16, 30, 1⟩
abbrev ALT_CRL_CTL.FIRST : Field := ⟨0x0610C, 16, 20, 5⟩
abbrev ALT_CRL_CTL.WAYS : Field := ⟨0x0610C, 16, 15, 5⟩
abbrev ALT_CRL_CTL.FLOOR : Field := ⟨0x0610C, 16, 10, 5⟩
abbrev ALT_CRL_CTL.CUR : Field := ⟨0x0610C, 16, 5, 5⟩
/-- ALT_LOG_TIME, whole word (spec/03_placement.md). -/
abbrev ALT_LOG_TIME.word : Field := ⟨0x06800, 8, 0, 32⟩
abbrev ALT_LOG_TIME.TS : Field := ⟨0x06800, 8, 0, 32⟩
/-- ALT_LOG_INFO, whole word (spec/03_placement.md). -/
abbrev ALT_LOG_INFO.word : Field := ⟨0x06804, 8, 0, 32⟩
abbrev ALT_LOG_INFO.VALID : Field := ⟨0x06804, 8, 31, 1⟩
abbrev ALT_LOG_INFO.SRC : Field := ⟨0x06804, 8, 30, 1⟩
abbrev ALT_LOG_INFO.DIR : Field := ⟨0x06804, 8, 29, 1⟩
abbrev ALT_LOG_INFO.CARREL : Field := ⟨0x06804, 8, 16, 6⟩
abbrev ALT_LOG_INFO.OLD_CUR : Field := ⟨0x06804, 8, 8, 5⟩
abbrev ALT_LOG_INFO.NEW_CUR : Field := ⟨0x06804, 8, 0, 5⟩
/-- SHT_DEAD_CTL, whole word (spec/03_placement.md). -/
abbrev SHT_DEAD_CTL.word : Field := ⟨0x07000, 0, 0, 32⟩
abbrev SHT_DEAD_CTL.MODE : Field := ⟨0x07000, 0, 0, 1⟩
/-- SHT_DEAD_READS, whole word (spec/03_placement.md). -/
abbrev SHT_DEAD_READS.word : Field := ⟨0x07004, 0, 0, 32⟩
abbrev SHT_DEAD_READS.COUNT : Field := ⟨0x07004, 0, 0, 32⟩
/-- SHT_RSH_CTL, whole word (spec/03_placement.md). -/
abbrev SHT_RSH_CTL.word : Field := ⟨0x07010, 0, 0, 32⟩
abbrev SHT_RSH_CTL.EN : Field := ⟨0x07010, 0, 31, 1⟩
abbrev SHT_RSH_CTL.EN_PEND : Field := ⟨0x07010, 0, 30, 1⟩
abbrev SHT_RSH_CTL.STOPPING : Field := ⟨0x07010, 0, 29, 1⟩
abbrev SHT_RSH_CTL.BUSY : Field := ⟨0x07010, 0, 28, 1⟩
abbrev SHT_RSH_CTL.DEPTH : Field := ⟨0x07010, 0, 16, 4⟩
abbrev SHT_RSH_CTL.PACE : Field := ⟨0x07010, 0, 0, 4⟩
/-- SHT_RSH_BASE_LO, whole word (spec/03_placement.md). -/
abbrev SHT_RSH_BASE_LO.word : Field := ⟨0x07014, 0, 0, 32⟩
abbrev SHT_RSH_BASE_LO.BASE_LO : Field := ⟨0x07014, 0, 8, 24⟩
/-- SHT_RSH_BASE_HI, whole word (spec/03_placement.md). -/
abbrev SHT_RSH_BASE_HI.word : Field := ⟨0x07018, 0, 0, 32⟩
abbrev SHT_RSH_BASE_HI.BASE_HI : Field := ⟨0x07018, 0, 0, 20⟩
/-- SHT_RSH_SIZE, whole word (spec/03_placement.md). -/
abbrev SHT_RSH_SIZE.word : Field := ⟨0x0701C, 0, 0, 32⟩
abbrev SHT_RSH_SIZE.SIZE : Field := ⟨0x0701C, 0, 0, 32⟩
/-- SHT_RSH_OP, whole word (spec/03_placement.md). -/
abbrev SHT_RSH_OP.word : Field := ⟨0x07020, 0, 0, 32⟩
abbrev SHT_RSH_OP.GO : Field := ⟨0x07020, 0, 31, 1⟩
abbrev SHT_RSH_OP.INDEX : Field := ⟨0x07020, 0, 8, 8⟩
abbrev SHT_RSH_OP.OP : Field := ⟨0x07020, 0, 0, 3⟩
/-- SHT_RSH_DONE, whole word (spec/03_placement.md). -/
abbrev SHT_RSH_DONE.word : Field := ⟨0x07024, 0, 0, 32⟩
abbrev SHT_RSH_DONE.LAST_STATUS : Field := ⟨0x07024, 0, 28, 4⟩
abbrev SHT_RSH_DONE.COUNT : Field := ⟨0x07024, 0, 0, 16⟩
/-- SHT_ENT_BASE, whole word (spec/03_placement.md). -/
abbrev SHT_ENT_BASE.word : Field := ⟨0x07800, 8, 0, 32⟩
abbrev SHT_ENT_BASE.BASE : Field := ⟨0x07800, 8, 0, 32⟩
/-- SHT_ENT_CTL, whole word (spec/03_placement.md). -/
abbrev SHT_ENT_CTL.word : Field := ⟨0x07804, 8, 0, 32⟩
abbrev SHT_ENT_CTL.VALID : Field := ⟨0x07804, 8, 31, 1⟩
abbrev SHT_ENT_CTL.SEALED : Field := ⟨0x07804, 8, 30, 1⟩
abbrev SHT_ENT_CTL.WALK : Field := ⟨0x07804, 8, 29, 1⟩
abbrev SHT_ENT_CTL.SIZE_LOG : Field := ⟨0x07804, 8, 8, 5⟩
abbrev SHT_ENT_CTL.BASE_HI : Field := ⟨0x07804, 8, 0, 8⟩
/-- PFT_CTL, whole word (spec/03_placement.md). -/
abbrev PFT_CTL.word : Field := ⟨0x08000, 0, 0, 32⟩
abbrev PFT_CTL.EN : Field := ⟨0x08000, 0, 31, 1⟩
abbrev PFT_CTL.EN_PEND : Field := ⟨0x08000, 0, 30, 1⟩
abbrev PFT_CTL.STOPPING : Field := ⟨0x08000, 0, 29, 1⟩
abbrev PFT_CTL.PF_MAX : Field := ⟨0x08000, 0, 0, 7⟩
/-- PFT_DEGREE, whole word (spec/03_placement.md). -/
abbrev PFT_DEGREE.word : Field := ⟨0x08004, 0, 0, 32⟩
abbrev PFT_DEGREE.L0 : Field := ⟨0x08004, 0, 0, 4⟩
abbrev PFT_DEGREE.L1 : Field := ⟨0x08004, 0, 4, 4⟩
abbrev PFT_DEGREE.L2 : Field := ⟨0x08004, 0, 8, 4⟩
abbrev PFT_DEGREE.L3 : Field := ⟨0x08004, 0, 12, 4⟩
abbrev PFT_DEGREE.L4 : Field := ⟨0x08004, 0, 16, 4⟩
abbrev PFT_DEGREE.L5 : Field := ⟨0x08004, 0, 20, 4⟩
abbrev PFT_DEGREE.L6 : Field := ⟨0x08004, 0, 24, 4⟩
abbrev PFT_DEGREE.L7 : Field := ⟨0x08004, 0, 28, 4⟩
/-- PFT_DEG_MAX, whole word (spec/03_placement.md). -/
abbrev PFT_DEG_MAX.word : Field := ⟨0x08008, 0, 0, 32⟩
abbrev PFT_DEG_MAX.L0 : Field := ⟨0x08008, 0, 0, 4⟩
abbrev PFT_DEG_MAX.L1 : Field := ⟨0x08008, 0, 4, 4⟩
abbrev PFT_DEG_MAX.L2 : Field := ⟨0x08008, 0, 8, 4⟩
abbrev PFT_DEG_MAX.L3 : Field := ⟨0x08008, 0, 12, 4⟩
abbrev PFT_DEG_MAX.L4 : Field := ⟨0x08008, 0, 16, 4⟩
abbrev PFT_DEG_MAX.L5 : Field := ⟨0x08008, 0, 20, 4⟩
abbrev PFT_DEG_MAX.L6 : Field := ⟨0x08008, 0, 24, 4⟩
abbrev PFT_DEG_MAX.L7 : Field := ⟨0x08008, 0, 28, 4⟩
/-- PFT_ISSUED, whole word (spec/03_placement.md). -/
abbrev PFT_ISSUED.word : Field := ⟨0x08010, 0, 0, 32⟩
abbrev PFT_ISSUED.COUNT : Field := ⟨0x08010, 0, 0, 32⟩
/-- PFT_USEFUL, whole word (spec/03_placement.md). -/
abbrev PFT_USEFUL.word : Field := ⟨0x08014, 0, 0, 32⟩
abbrev PFT_USEFUL.COUNT : Field := ⟨0x08014, 0, 0, 32⟩
/-- PFT_DROPPED, whole word (spec/03_placement.md). -/
abbrev PFT_DROPPED.word : Field := ⟨0x08018, 0, 0, 32⟩
abbrev PFT_DROPPED.COUNT : Field := ⟨0x08018, 0, 0, 32⟩
/-- CAT_CTL, whole word (spec/04_coherence.md). -/
abbrev CAT_CTL.word : Field := ⟨0x09000, 0, 0, 32⟩
abbrev CAT_CTL.DELEG_EN : Field := ⟨0x09000, 0, 31, 1⟩
abbrev CAT_CTL.PRED_CLR : Field := ⟨0x09000, 0, 30, 1⟩
abbrev CAT_CTL.E_GRANT : Field := ⟨0x09000, 0, 29, 1⟩
abbrev CAT_CTL.STARVE_N : Field := ⟨0x09000, 0, 20, 4⟩
abbrev CAT_CTL.FWD_TMO : Field := ⟨0x09000, 0, 0, 16⟩
/-- CAT_STATUS, whole word (spec/04_coherence.md). -/
abbrev CAT_STATUS.word : Field := ⟨0x09004, 0, 0, 32⟩
abbrev CAT_STATUS.TXN_USED : Field := ⟨0x09004, 0, 16, 9⟩
abbrev CAT_STATUS.TXN_PEAK : Field := ⟨0x09004, 0, 0, 9⟩
/-- CAT_LOST, whole word (spec/04_coherence.md). -/
abbrev CAT_LOST.word : Field := ⟨0x09010, 4, 0, 32⟩
abbrev CAT_LOST.LOST : Field := ⟨0x09010, 4, 31, 1⟩
abbrev CAT_LOST.SET : Field := ⟨0x09010, 4, 0, 14⟩
/-- CAT_AGENT_LOST, whole word (spec/04_coherence.md). -/
abbrev CAT_AGENT_LOST.word : Field := ⟨0x09020, 0, 0, 32⟩
abbrev CAT_AGENT_LOST.AGENT : Field := ⟨0x09020, 0, 0, 32⟩
/-- CAT_NACKS, whole word (spec/04_coherence.md). -/
abbrev CAT_NACKS.word : Field := ⟨0x09030, 0, 0, 32⟩
abbrev CAT_NACKS.COUNT : Field := ⟨0x09030, 0, 0, 32⟩
/-- CAT_BINV, whole word (spec/04_coherence.md). -/
abbrev CAT_BINV.word : Field := ⟨0x09034, 0, 0, 32⟩
abbrev CAT_BINV.COUNT : Field := ⟨0x09034, 0, 0, 32⟩
/-- CAT_ATOM_HOME, whole word (spec/04_coherence.md). -/
abbrev CAT_ATOM_HOME.word : Field := ⟨0x09038, 0, 0, 32⟩
abbrev CAT_ATOM_HOME.COUNT : Field := ⟨0x09038, 0, 0, 32⟩
/-- CAT_ATOM_DELEG, whole word (spec/04_coherence.md). -/
abbrev CAT_ATOM_DELEG.word : Field := ⟨0x0903C, 0, 0, 32⟩
abbrev CAT_ATOM_DELEG.COUNT : Field := ⟨0x0903C, 0, 0, 32⟩
/-- CAT_STARVE, whole word (spec/04_coherence.md). -/
abbrev CAT_STARVE.word : Field := ⟨0x09040, 0, 0, 32⟩
abbrev CAT_STARVE.COUNT : Field := ⟨0x09040, 0, 0, 32⟩
/-- CAT_MCG, whole word (spec/04_coherence.md). -/
abbrev CAT_MCG.word : Field := ⟨0x09100, 4, 0, 32⟩
abbrev CAT_MCG.MASK : Field := ⟨0x09100, 4, 0, 32⟩
/-- ORD_CTL, whole word (spec/05_memory_model.md). -/
abbrev ORD_CTL.word : Field := ⟨0x0A000, 0, 0, 32⟩
abbrev ORD_CTL.MIS_LOG : Field := ⟨0x0A000, 0, 31, 1⟩
abbrev ORD_CTL.REC_EN : Field := ⟨0x0A000, 0, 30, 1⟩
abbrev ORD_CTL.WPACE : Field := ⟨0x0A000, 0, 0, 4⟩
/-- ORD_MISMATCH, whole word (spec/05_memory_model.md). -/
abbrev ORD_MISMATCH.word : Field := ⟨0x0A004, 0, 0, 32⟩
abbrev ORD_MISMATCH.COUNT : Field := ⟨0x0A004, 0, 0, 32⟩
/-- ORD_MIS_LINE_LO, whole word (spec/05_memory_model.md). -/
abbrev ORD_MIS_LINE_LO.word : Field := ⟨0x0A008, 0, 0, 32⟩
abbrev ORD_MIS_LINE_LO.LINE_LO : Field := ⟨0x0A008, 0, 7, 25⟩
/-- ORD_MIS_LINE_HI, whole word (spec/05_memory_model.md). -/
abbrev ORD_MIS_LINE_HI.word : Field := ⟨0x0A00C, 0, 0, 32⟩
abbrev ORD_MIS_LINE_HI.LINE_HI : Field := ⟨0x0A00C, 0, 0, 20⟩
/-- ORD_MIS_INFO, whole word (spec/05_memory_model.md). -/
abbrev ORD_MIS_INFO.word : Field := ⟨0x0A010, 0, 0, 32⟩
abbrev ORD_MIS_INFO.VALID : Field := ⟨0x0A010, 0, 31, 1⟩
abbrev ORD_MIS_INFO.TYPE : Field := ⟨0x0A010, 0, 29, 2⟩
abbrev ORD_MIS_INFO.REL_SCOPE : Field := ⟨0x0A010, 0, 27, 2⟩
abbrev ORD_MIS_INFO.ACQ_SCOPE : Field := ⟨0x0A010, 0, 25, 2⟩
abbrev ORD_MIS_INFO.REL_PORTER : Field := ⟨0x0A010, 0, 24, 1⟩
abbrev ORD_MIS_INFO.REL_ID : Field := ⟨0x0A010, 0, 19, 5⟩
abbrev ORD_MIS_INFO.ACQ_PORTER : Field := ⟨0x0A010, 0, 18, 1⟩
abbrev ORD_MIS_INFO.ACQ_ID : Field := ⟨0x0A010, 0, 13, 5⟩
abbrev ORD_MIS_INFO.REL_PSLICE : Field := ⟨0x0A010, 0, 6, 6⟩
abbrev ORD_MIS_INFO.ACQ_PSLICE : Field := ⟨0x0A010, 0, 0, 6⟩
/-- ORD_WIN_STATUS, whole word (spec/05_memory_model.md). -/
abbrev ORD_WIN_STATUS.word : Field := ⟨0x0A020, 0, 0, 32⟩
abbrev ORD_WIN_STATUS.BUSY : Field := ⟨0x0A020, 0, 31, 1⟩
abbrev ORD_WIN_STATUS.RUN : Field := ⟨0x0A020, 0, 16, 4⟩
abbrev ORD_WIN_STATUS.PEND : Field := ⟨0x0A020, 0, 0, 16⟩
/-- ORD_WIN_INV, whole word (spec/05_memory_model.md). -/
abbrev ORD_WIN_INV.word : Field := ⟨0x0A024, 0, 0, 32⟩
abbrev ORD_WIN_INV.GO : Field := ⟨0x0A024, 0, 31, 1⟩
abbrev ORD_WIN_INV.WIN : Field := ⟨0x0A024, 0, 0, 4⟩
/-- ORD_WIN_WALKS, whole word (spec/05_memory_model.md). -/
abbrev ORD_WIN_WALKS.word : Field := ⟨0x0A028, 0, 0, 32⟩
abbrev ORD_WIN_WALKS.COUNT : Field := ⟨0x0A028, 0, 0, 32⟩
/-- ORD_WIN_DROPS, whole word (spec/05_memory_model.md). -/
abbrev ORD_WIN_DROPS.word : Field := ⟨0x0A02C, 0, 0, 32⟩
abbrev ORD_WIN_DROPS.COUNT : Field := ⟨0x0A02C, 0, 0, 32⟩
/-- ORD_WIN_DIRTY, whole word (spec/05_memory_model.md). -/
abbrev ORD_WIN_DIRTY.word : Field := ⟨0x0A030, 0, 0, 32⟩
abbrev ORD_WIN_DIRTY.COUNT : Field := ⟨0x0A030, 0, 0, 32⟩
/-- ORD_WIN_BASE_LO, whole word (spec/05_memory_model.md). -/
abbrev ORD_WIN_BASE_LO.word : Field := ⟨0x0A100, 32, 0, 32⟩
abbrev ORD_WIN_BASE_LO.BASE_LO : Field := ⟨0x0A100, 32, 12, 20⟩
/-- ORD_WIN_BASE_HI, whole word (spec/05_memory_model.md). -/
abbrev ORD_WIN_BASE_HI.word : Field := ⟨0x0A104, 32, 0, 32⟩
abbrev ORD_WIN_BASE_HI.BASE_HI : Field := ⟨0x0A104, 32, 0, 20⟩
/-- ORD_WIN_CTL, whole word (spec/05_memory_model.md). -/
abbrev ORD_WIN_CTL.word : Field := ⟨0x0A108, 32, 0, 32⟩
abbrev ORD_WIN_CTL.VALID : Field := ⟨0x0A108, 32, 31, 1⟩
abbrev ORD_WIN_CTL.NOALLOC : Field := ⟨0x0A108, 32, 30, 1⟩
abbrev ORD_WIN_CTL.SIZE_LOG : Field := ⟨0x0A108, 32, 0, 4⟩
/-- ORD_WIN_HOMES_LO, whole word (spec/05_memory_model.md). -/
abbrev ORD_WIN_HOMES_LO.word : Field := ⟨0x0A110, 32, 0, 32⟩
abbrev ORD_WIN_HOMES_LO.HOMES_LO : Field := ⟨0x0A110, 32, 0, 32⟩
/-- ORD_WIN_HOMES_HI, whole word (spec/05_memory_model.md). -/
abbrev ORD_WIN_HOMES_HI.word : Field := ⟨0x0A114, 32, 0, 32⟩
abbrev ORD_WIN_HOMES_HI.HOMES_HI : Field := ⟨0x0A114, 32, 0, 32⟩
/-- LDG_CTL, whole word (spec/06_ledger.md). -/
abbrev LDG_CTL.word : Field := ⟨0x0C000, 0, 0, 32⟩
abbrev LDG_CTL.EN : Field := ⟨0x0C000, 0, 31, 1⟩
abbrev LDG_CTL.EN_PEND : Field := ⟨0x0C000, 0, 30, 1⟩
abbrev LDG_CTL.STOPPING : Field := ⟨0x0C000, 0, 29, 1⟩
/-- LDG_STATUS, whole word (spec/06_ledger.md). -/
abbrev LDG_STATUS.word : Field := ⟨0x0C004, 0, 0, 32⟩
abbrev LDG_STATUS.RELOAD : Field := ⟨0x0C004, 0, 31, 1⟩
abbrev LDG_STATUS.DRAINS_RUN : Field := ⟨0x0C004, 0, 0, 13⟩
/-- LDG_ROW_SEL, whole word (spec/06_ledger.md). -/
abbrev LDG_ROW_SEL.word : Field := ⟨0x0C010, 0, 0, 32⟩
abbrev LDG_ROW_SEL.CELL : Field := ⟨0x0C010, 0, 16, 5⟩
abbrev LDG_ROW_SEL.ROW : Field := ⟨0x0C010, 0, 0, 12⟩
/-- LDG_ROW_STATE, whole word (spec/06_ledger.md). -/
abbrev LDG_ROW_STATE.word : Field := ⟨0x0C014, 0, 0, 32⟩
abbrev LDG_ROW_STATE.BOUND : Field := ⟨0x0C014, 0, 31, 1⟩
abbrev LDG_ROW_STATE.SHADOWED : Field := ⟨0x0C014, 0, 30, 1⟩
abbrev LDG_ROW_STATE.LIVE : Field := ⟨0x0C014, 0, 29, 1⟩
abbrev LDG_ROW_STATE.DRAINING : Field := ⟨0x0C014, 0, 28, 1⟩
abbrev LDG_ROW_STATE.PSN : Field := ⟨0x0C014, 0, 27, 1⟩
abbrev LDG_ROW_STATE.OVF : Field := ⟨0x0C014, 0, 26, 1⟩
abbrev LDG_ROW_STATE.MODE : Field := ⟨0x0C014, 0, 25, 1⟩
/-- LDG_ROW_CUR, whole word (spec/06_ledger.md). -/
abbrev LDG_ROW_CUR.word : Field := ⟨0x0C018, 0, 0, 32⟩
abbrev LDG_ROW_CUR.CUR : Field := ⟨0x0C018, 0, 0, 32⟩
/-- LDG_ROW_SEED_LO, whole word (spec/06_ledger.md). -/
abbrev LDG_ROW_SEED_LO.word : Field := ⟨0x0C01C, 0, 0, 32⟩
abbrev LDG_ROW_SEED_LO.SEED_LO : Field := ⟨0x0C01C, 0, 0, 32⟩
/-- LDG_ROW_SEED_HI, whole word (spec/06_ledger.md). -/
abbrev LDG_ROW_SEED_HI.word : Field := ⟨0x0C020, 0, 0, 32⟩
abbrev LDG_ROW_SEED_HI.SEED_HI : Field := ⟨0x0C020, 0, 0, 32⟩
/-- LDG_DRN_PA_LO, whole word (spec/06_ledger.md). -/
abbrev LDG_DRN_PA_LO.word : Field := ⟨0x0C030, 0, 0, 32⟩
abbrev LDG_DRN_PA_LO.PA_LO : Field := ⟨0x0C030, 0, 7, 25⟩
/-- LDG_DRN_PA_HI, whole word (spec/06_ledger.md). -/
abbrev LDG_DRN_PA_HI.word : Field := ⟨0x0C034, 0, 0, 32⟩
abbrev LDG_DRN_PA_HI.PA_HI : Field := ⟨0x0C034, 0, 0, 20⟩
/-- LDG_DRN_EPOCH, whole word (spec/06_ledger.md). -/
abbrev LDG_DRN_EPOCH.word : Field := ⟨0x0C038, 0, 0, 32⟩
abbrev LDG_DRN_EPOCH.EPOCH : Field := ⟨0x0C038, 0, 0, 32⟩
/-- LDG_ROW_DRAIN, whole word (spec/06_ledger.md). -/
abbrev LDG_ROW_DRAIN.word : Field := ⟨0x0C03C, 0, 0, 32⟩
abbrev LDG_ROW_DRAIN.GO : Field := ⟨0x0C03C, 0, 31, 1⟩
abbrev LDG_ROW_DRAIN.LAST_STATUS : Field := ⟨0x0C03C, 0, 24, 4⟩
abbrev LDG_ROW_DRAIN.SAT : Field := ⟨0x0C03C, 0, 5, 1⟩
abbrev LDG_ROW_DRAIN.RMODE : Field := ⟨0x0C03C, 0, 3, 2⟩
abbrev LDG_ROW_DRAIN.SCOPE : Field := ⟨0x0C03C, 0, 0, 2⟩
/-- LDG_CELL_W, whole word (spec/06_ledger.md). -/
abbrev LDG_CELL_W.word : Field := ⟨0x0C040, 4, 0, 32⟩
abbrev LDG_CELL_W.BITS : Field := ⟨0x0C040, 4, 0, 32⟩
/-- LDG_SEED_HEAD, whole word (spec/06_ledger.md). -/
abbrev LDG_SEED_HEAD.word : Field := ⟨0x0C070, 0, 0, 32⟩
abbrev LDG_SEED_HEAD.WRAPS : Field := ⟨0x0C070, 0, 16, 16⟩
abbrev LDG_SEED_HEAD.HEAD : Field := ⟨0x0C070, 0, 0, 10⟩
/-- LDG_OPS, whole word (spec/06_ledger.md). -/
abbrev LDG_OPS.word : Field := ⟨0x0C080, 0, 0, 32⟩
abbrev LDG_OPS.COUNT : Field := ⟨0x0C080, 0, 0, 32⟩
/-- LDG_DRAINS, whole word (spec/06_ledger.md). -/
abbrev LDG_DRAINS.word : Field := ⟨0x0C084, 0, 0, 32⟩
abbrev LDG_DRAINS.COUNT : Field := ⟨0x0C084, 0, 0, 32⟩
/-- LDG_LATE, whole word (spec/06_ledger.md). -/
abbrev LDG_LATE.word : Field := ⟨0x0C088, 0, 0, 32⟩
abbrev LDG_LATE.COUNT : Field := ⟨0x0C088, 0, 0, 32⟩
/-- LDG_NACKS, whole word (spec/06_ledger.md). -/
abbrev LDG_NACKS.word : Field := ⟨0x0C08C, 0, 0, 32⟩
abbrev LDG_NACKS.COUNT : Field := ⟨0x0C08C, 0, 0, 32⟩
/-- LDG_OVERFLOWS, whole word (spec/06_ledger.md). -/
abbrev LDG_OVERFLOWS.word : Field := ⟨0x0C090, 0, 0, 32⟩
abbrev LDG_OVERFLOWS.COUNT : Field := ⟨0x0C090, 0, 0, 32⟩
/-- LDG_ECC_CE, whole word (spec/06_ledger.md). -/
abbrev LDG_ECC_CE.word : Field := ⟨0x0C094, 0, 0, 32⟩
abbrev LDG_ECC_CE.COUNT : Field := ⟨0x0C094, 0, 0, 32⟩
/-- LDG_ECC_UE, whole word (spec/06_ledger.md). -/
abbrev LDG_ECC_UE.word : Field := ⟨0x0C098, 0, 0, 32⟩
abbrev LDG_ECC_UE.COUNT : Field := ⟨0x0C098, 0, 0, 32⟩
/-- LDG_BIND_BASE_LO, whole word (spec/06_ledger.md). -/
abbrev LDG_BIND_BASE_LO.word : Field := ⟨0x0C100, 16, 0, 32⟩
abbrev LDG_BIND_BASE_LO.BASE_LO : Field := ⟨0x0C100, 16, 11, 21⟩
/-- LDG_BIND_BASE_HI, whole word (spec/06_ledger.md). -/
abbrev LDG_BIND_BASE_HI.word : Field := ⟨0x0C104, 16, 0, 32⟩
abbrev LDG_BIND_BASE_HI.BASE_HI : Field := ⟨0x0C104, 16, 0, 20⟩
/-- LDG_BIND_SIZE, whole word (spec/06_ledger.md). -/
abbrev LDG_BIND_SIZE.word : Field := ⟨0x0C108, 16, 0, 32⟩
abbrev LDG_BIND_SIZE.GROUPS : Field := ⟨0x0C108, 16, 0, 24⟩
/-- LDG_BIND_CTL, whole word (spec/06_ledger.md). -/
abbrev LDG_BIND_CTL.word : Field := ⟨0x0C10C, 16, 0, 32⟩
abbrev LDG_BIND_CTL.VALID : Field := ⟨0x0C10C, 16, 31, 1⟩
abbrev LDG_BIND_CTL.MODE : Field := ⟨0x0C10C, 16, 30, 1⟩
abbrev LDG_BIND_CTL.SHADOW : Field := ⟨0x0C10C, 16, 29, 1⟩
abbrev LDG_BIND_CTL.DFMT : Field := ⟨0x0C10C, 16, 24, 3⟩
abbrev LDG_BIND_CTL.K : Field := ⟨0x0C10C, 16, 20, 4⟩
abbrev LDG_BIND_CTL.ROW0 : Field := ⟨0x0C10C, 16, 0, 12⟩
/-- LDG_SCALE_CTL, whole word (spec/06_ledger.md). -/
abbrev LDG_SCALE_CTL.word : Field := ⟨0x10000, 16, 0, 32⟩
abbrev LDG_SCALE_CTL.VALID : Field := ⟨0x10000, 16, 31, 1⟩
abbrev LDG_SCALE_CTL.SHIFT : Field := ⟨0x10000, 16, 24, 7⟩
abbrev LDG_SCALE_CTL.GEN : Field := ⟨0x10000, 16, 0, 16⟩
/-- LDG_SCALE_MUL, whole word (spec/06_ledger.md). -/
abbrev LDG_SCALE_MUL.word : Field := ⟨0x10004, 16, 0, 32⟩
abbrev LDG_SCALE_MUL.MUL : Field := ⟨0x10004, 16, 0, 32⟩
/-- LDG_SHIST_MUL, whole word (spec/06_ledger.md). -/
abbrev LDG_SHIST_MUL.word : Field := ⟨0x11000, 8, 0, 32⟩
abbrev LDG_SHIST_MUL.MUL : Field := ⟨0x11000, 8, 0, 32⟩
/-- LDG_SHIST_INFO, whole word (spec/06_ledger.md). -/
abbrev LDG_SHIST_INFO.word : Field := ⟨0x11004, 8, 0, 32⟩
abbrev LDG_SHIST_INFO.VALID : Field := ⟨0x11004, 8, 31, 1⟩
abbrev LDG_SHIST_INFO.SHIFT : Field := ⟨0x11004, 8, 24, 7⟩
abbrev LDG_SHIST_INFO.GEN : Field := ⟨0x11004, 8, 0, 16⟩
/-- LDG_SLOG_TS_LO, whole word (spec/06_ledger.md). -/
abbrev LDG_SLOG_TS_LO.word : Field := ⟨0x18000, 32, 0, 32⟩
abbrev LDG_SLOG_TS_LO.TS_LO : Field := ⟨0x18000, 32, 0, 32⟩
/-- LDG_SLOG_TS_HI, whole word (spec/06_ledger.md). -/
abbrev LDG_SLOG_TS_HI.word : Field := ⟨0x18004, 32, 0, 32⟩
abbrev LDG_SLOG_TS_HI.WRAP : Field := ⟨0x18004, 32, 16, 16⟩
abbrev LDG_SLOG_TS_HI.TS_HI : Field := ⟨0x18004, 32, 0, 16⟩
/-- LDG_SLOG_LINE_LO, whole word (spec/06_ledger.md). -/
abbrev LDG_SLOG_LINE_LO.word : Field := ⟨0x18008, 32, 0, 32⟩
abbrev LDG_SLOG_LINE_LO.LINE_LO : Field := ⟨0x18008, 32, 7, 25⟩
/-- LDG_SLOG_LINE_HI, whole word (spec/06_ledger.md). -/
abbrev LDG_SLOG_LINE_HI.word : Field := ⟨0x1800C, 32, 0, 32⟩
abbrev LDG_SLOG_LINE_HI.LINE_HI : Field := ⟨0x1800C, 32, 0, 20⟩
/-- LDG_SLOG_EPOCH, whole word (spec/06_ledger.md). -/
abbrev LDG_SLOG_EPOCH.word : Field := ⟨0x18010, 32, 0, 32⟩
abbrev LDG_SLOG_EPOCH.EPOCH : Field := ⟨0x18010, 32, 0, 32⟩
/-- LDG_SLOG_SEED_LO, whole word (spec/06_ledger.md). -/
abbrev LDG_SLOG_SEED_LO.word : Field := ⟨0x18014, 32, 0, 32⟩
abbrev LDG_SLOG_SEED_LO.SEED_LO : Field := ⟨0x18014, 32, 0, 32⟩
/-- LDG_SLOG_SEED_HI, whole word (spec/06_ledger.md). -/
abbrev LDG_SLOG_SEED_HI.word : Field := ⟨0x18018, 32, 0, 32⟩
abbrev LDG_SLOG_SEED_HI.SEED_HI : Field := ⟨0x18018, 32, 0, 32⟩
/-- LDG_SLOG_INFO, whole word (spec/06_ledger.md). -/
abbrev LDG_SLOG_INFO.word : Field := ⟨0x1801C, 32, 0, 32⟩
abbrev LDG_SLOG_INFO.VALID : Field := ⟨0x1801C, 32, 31, 1⟩
abbrev LDG_SLOG_INFO.SAT : Field := ⟨0x1801C, 32, 30, 1⟩
abbrev LDG_SLOG_INFO.DFMT : Field := ⟨0x1801C, 32, 27, 3⟩
abbrev LDG_SLOG_INFO.ROW : Field := ⟨0x1801C, 32, 0, 12⟩
/-- POR_CTL, whole word (spec/08_porter.md). -/
abbrev POR_CTL.word : Field := ⟨0x20000, 0, 0, 32⟩
abbrev POR_CTL.EN : Field := ⟨0x20000, 0, 31, 1⟩
abbrev POR_CTL.EN_PEND : Field := ⟨0x20000, 0, 30, 1⟩
abbrev POR_CTL.STOPPING : Field := ⟨0x20000, 0, 29, 1⟩
abbrev POR_CTL.HALTED : Field := ⟨0x20000, 0, 0, 16⟩
/-- POR_STATUS, whole word (spec/08_porter.md). -/
abbrev POR_STATUS.word : Field := ⟨0x20004, 0, 0, 32⟩
abbrev POR_STATUS.ACTIVE : Field := ⟨0x20004, 0, 16, 16⟩
abbrev POR_STATUS.BURSTS : Field := ⟨0x20004, 0, 0, 7⟩
/-- POR_CH_CTL, whole word (spec/08_porter.md). -/
abbrev POR_CH_CTL.word : Field := ⟨0x20100, 64, 0, 32⟩
abbrev POR_CH_CTL.EN : Field := ⟨0x20100, 64, 31, 1⟩
abbrev POR_CH_CTL.EN_PEND : Field := ⟨0x20100, 64, 30, 1⟩
abbrev POR_CH_CTL.STOPPING : Field := ⟨0x20100, 64, 29, 1⟩
abbrev POR_CH_CTL.HALT : Field := ⟨0x20100, 64, 28, 1⟩
abbrev POR_CH_CTL.START : Field := ⟨0x20100, 64, 27, 1⟩
abbrev POR_CH_CTL.MODE : Field := ⟨0x20100, 64, 26, 1⟩
abbrev POR_CH_CTL.DSC_SCOPE : Field := ⟨0x20100, 64, 24, 2⟩
abbrev POR_CH_CTL.PRIO : Field := ⟨0x20100, 64, 22, 2⟩
abbrev POR_CH_CTL.LABEL : Field := ⟨0x20100, 64, 19, 3⟩
abbrev POR_CH_CTL.WSCOPE : Field := ⟨0x20100, 64, 17, 2⟩
abbrev POR_CH_CTL.LAST : Field := ⟨0x20100, 64, 16, 1⟩
abbrev POR_CH_CTL.STATE : Field := ⟨0x20100, 64, 8, 4⟩
/-- POR_CH_RING_LO, whole word (spec/08_porter.md). -/
abbrev POR_CH_RING_LO.word : Field := ⟨0x20104, 64, 0, 32⟩
abbrev POR_CH_RING_LO.BASE_LO : Field := ⟨0x20104, 64, 6, 26⟩
/-- POR_CH_RING_HI, whole word (spec/08_porter.md). -/
abbrev POR_CH_RING_HI.word : Field := ⟨0x20108, 64, 0, 32⟩
abbrev POR_CH_RING_HI.BASE_HI : Field := ⟨0x20108, 64, 0, 20⟩
/-- POR_CH_RING_CFG, whole word (spec/08_porter.md). -/
abbrev POR_CH_RING_CFG.word : Field := ⟨0x2010C, 64, 0, 32⟩
abbrev POR_CH_RING_CFG.LEN_LOG : Field := ⟨0x2010C, 64, 28, 4⟩
abbrev POR_CH_RING_CFG.HEAD : Field := ⟨0x2010C, 64, 0, 12⟩
/-- POR_CH_SRC_LO, whole word (spec/08_porter.md). -/
abbrev POR_CH_SRC_LO.word : Field := ⟨0x20110, 64, 0, 32⟩
abbrev POR_CH_SRC_LO.SRC_LO : Field := ⟨0x20110, 64, 0, 32⟩
/-- POR_CH_SRC_HI, whole word (spec/08_porter.md). -/
abbrev POR_CH_SRC_HI.word : Field := ⟨0x20114, 64, 0, 32⟩
abbrev POR_CH_SRC_HI.SRC_HI : Field := ⟨0x20114, 64, 0, 20⟩
/-- POR_CH_DST_LO, whole word (spec/08_porter.md). -/
abbrev POR_CH_DST_LO.word : Field := ⟨0x20118, 64, 0, 32⟩
abbrev POR_CH_DST_LO.DST_LO : Field := ⟨0x20118, 64, 0, 32⟩
/-- POR_CH_DST_HI, whole word (spec/08_porter.md). -/
abbrev POR_CH_DST_HI.word : Field := ⟨0x2011C, 64, 0, 32⟩
abbrev POR_CH_DST_HI.DST_HI : Field := ⟨0x2011C, 64, 0, 20⟩
/-- POR_CH_COUNT, whole word (spec/08_porter.md). -/
abbrev POR_CH_COUNT.word : Field := ⟨0x20120, 64, 0, 32⟩
abbrev POR_CH_COUNT.COUNT : Field := ⟨0x20120, 64, 0, 32⟩
/-- POR_CH_CRC, whole word (spec/08_porter.md). -/
abbrev POR_CH_CRC.word : Field := ⟨0x20124, 64, 0, 32⟩
abbrev POR_CH_CRC.CRC : Field := ⟨0x20124, 64, 0, 32⟩
/-- POR_CH_LAST, whole word (spec/08_porter.md). -/
abbrev POR_CH_LAST.word : Field := ⟨0x20128, 64, 0, 32⟩
abbrev POR_CH_LAST.STATUS : Field := ⟨0x20128, 64, 0, 32⟩
/-- POR_CH_POLL, whole word (spec/08_porter.md). -/
abbrev POR_CH_POLL.word : Field := ⟨0x2012C, 64, 0, 32⟩
abbrev POR_CH_POLL.POLL_NS : Field := ⟨0x2012C, 64, 0, 16⟩
/-- POR_CH_DONE, whole word (spec/08_porter.md). -/
abbrev POR_CH_DONE.word : Field := ⟨0x20130, 64, 0, 32⟩
abbrev POR_CH_DONE.COUNT : Field := ⟨0x20130, 64, 0, 32⟩
/-- POR_CH_PACE, whole word (spec/08_porter.md). -/
abbrev POR_CH_PACE.word : Field := ⟨0x20134, 64, 0, 32⟩
abbrev POR_CH_PACE.P : Field := ⟨0x20134, 64, 16, 16⟩
abbrev POR_CH_PACE.C : Field := ⟨0x20134, 64, 0, 16⟩
/-- TCL_CTL, whole word (spec/09_regulation_admission.md). -/
abbrev TCL_CTL.word : Field := ⟨0x24000, 0, 0, 32⟩
abbrev TCL_CTL.COMMIT : Field := ⟨0x24000, 0, 31, 1⟩
abbrev TCL_CTL.CHECKING : Field := ⟨0x24000, 0, 30, 1⟩
abbrev TCL_CTL.DIRTY : Field := ⟨0x24000, 0, 29, 1⟩
/-- TCL_RATE, whole word (spec/09_regulation_admission.md). -/
abbrev TCL_RATE.word : Field := ⟨0x24010, 16, 0, 32⟩
abbrev TCL_RATE.BURST : Field := ⟨0x24010, 16, 16, 16⟩
abbrev TCL_RATE.RATE : Field := ⟨0x24010, 16, 0, 16⟩
/-- TCL_CRED, whole word (spec/09_regulation_admission.md). -/
abbrev TCL_CRED.word : Field := ⟨0x24014, 16, 0, 32⟩
abbrev TCL_CRED.CRED : Field := ⟨0x24014, 16, 0, 4⟩
/-- TCL_BUCKET, whole word (spec/09_regulation_admission.md). -/
abbrev TCL_BUCKET.word : Field := ⟨0x24018, 16, 0, 32⟩
abbrev TCL_BUCKET.BUCKET : Field := ⟨0x24018, 16, 0, 24⟩
/-- TCL_HELD, whole word (spec/09_regulation_admission.md). -/
abbrev TCL_HELD.word : Field := ⟨0x2401C, 16, 0, 32⟩
abbrev TCL_HELD.COUNT : Field := ⟨0x2401C, 16, 0, 32⟩
/-- TCL_FAR0, whole word (spec/09_regulation_admission.md). -/
abbrev TCL_FAR0.word : Field := ⟨0x24090, 0, 0, 32⟩
abbrev TCL_FAR0.FAR_0 : Field := ⟨0x24090, 0, 0, 16⟩
/-- ADM_STATUS, whole word (spec/09_regulation_admission.md). -/
abbrev ADM_STATUS.word : Field := ⟨0x24100, 0, 0, 32⟩
abbrev ADM_STATUS.BUSY : Field := ⟨0x24100, 0, 31, 1⟩
abbrev ADM_STATUS.REFUSED : Field := ⟨0x24100, 0, 30, 1⟩
abbrev ADM_STATUS.SOURCE : Field := ⟨0x24100, 0, 27, 3⟩
abbrev ADM_STATUS.REASON : Field := ⟨0x24100, 0, 16, 8⟩
abbrev ADM_STATUS.INDEX : Field := ⟨0x24100, 0, 0, 8⟩
/-- ADM_NEED, whole word (spec/09_regulation_admission.md). -/
abbrev ADM_NEED.word : Field := ⟨0x24104, 0, 0, 32⟩
abbrev ADM_NEED.NEED : Field := ⟨0x24104, 0, 0, 32⟩
/-- ADM_CAP, whole word (spec/09_regulation_admission.md). -/
abbrev ADM_CAP.word : Field := ⟨0x24108, 0, 0, 32⟩
abbrev ADM_CAP.CAP : Field := ⟨0x24108, 0, 0, 32⟩
/-- ADM_REFUSALS, whole word (spec/09_regulation_admission.md). -/
abbrev ADM_REFUSALS.word : Field := ⟨0x2410C, 0, 0, 32⟩
abbrev ADM_REFUSALS.COUNT : Field := ⟨0x2410C, 0, 0, 32⟩
/-- ADM_RUNS, whole word (spec/09_regulation_admission.md). -/
abbrev ADM_RUNS.word : Field := ⟨0x24110, 0, 0, 32⟩
abbrev ADM_RUNS.COUNT : Field := ⟨0x24110, 0, 0, 32⟩
/-- WIN_CTL, whole word (spec/09_regulation_admission.md). -/
abbrev WIN_CTL.word : Field := ⟨0x25000, 0, 0, 32⟩
abbrev WIN_CTL.COMMIT : Field := ⟨0x25000, 0, 31, 1⟩
abbrev WIN_CTL.CHECKING : Field := ⟨0x25000, 0, 30, 1⟩
abbrev WIN_CTL.DIRTY : Field := ⟨0x25000, 0, 29, 1⟩
abbrev WIN_CTL.ACTIVE : Field := ⟨0x25000, 0, 0, 16⟩
/-- WIN_FRAME, whole word (spec/09_regulation_admission.md). -/
abbrev WIN_FRAME.word : Field := ⟨0x25004, 0, 0, 32⟩
abbrev WIN_FRAME.SLIPS : Field := ⟨0x25004, 0, 16, 16⟩
abbrev WIN_FRAME.POS : Field := ⟨0x25004, 0, 0, 10⟩
/-- WIN_LATE_INFO, whole word (spec/09_regulation_admission.md). -/
abbrev WIN_LATE_INFO.word : Field := ⟨0x25008, 0, 0, 32⟩
abbrev WIN_LATE_INFO.VALID : Field := ⟨0x25008, 0, 31, 1⟩
abbrev WIN_LATE_INFO.WIN : Field := ⟨0x25008, 0, 16, 4⟩
abbrev WIN_LATE_INFO.CAUSE : Field := ⟨0x25008, 0, 0, 4⟩
/-- WIN_ENT_CTL, whole word (spec/09_regulation_admission.md). -/
abbrev WIN_ENT_CTL.word : Field := ⟨0x25100, 16, 0, 32⟩
abbrev WIN_ENT_CTL.VALID : Field := ⟨0x25100, 16, 31, 1⟩
abbrev WIN_ENT_CTL.DIR : Field := ⟨0x25100, 16, 29, 2⟩
abbrev WIN_ENT_CTL.CASEMENT : Field := ⟨0x25100, 16, 27, 2⟩
abbrev WIN_ENT_CTL.LABEL : Field := ⟨0x25100, 16, 24, 3⟩
abbrev WIN_ENT_CTL.AGENT : Field := ⟨0x25100, 16, 16, 5⟩
abbrev WIN_ENT_CTL.CARREL : Field := ⟨0x25100, 16, 0, 6⟩
/-- WIN_ENT_SERVED, whole word (spec/09_regulation_admission.md). -/
abbrev WIN_ENT_SERVED.word : Field := ⟨0x25104, 16, 0, 32⟩
abbrev WIN_ENT_SERVED.COUNT : Field := ⟨0x25104, 16, 0, 32⟩
/-- WIN_ENT_LATE, whole word (spec/09_regulation_admission.md). -/
abbrev WIN_ENT_LATE.word : Field := ⟨0x25108, 16, 0, 32⟩
abbrev WIN_ENT_LATE.COUNT : Field := ⟨0x25108, 16, 0, 32⟩
/-- WIN_PLAN, whole word (spec/09_regulation_admission.md). -/
abbrev WIN_PLAN.word : Field := ⟨0x25800, 4, 0, 32⟩
abbrev WIN_PLAN.VALID_ODD : Field := ⟨0x25800, 4, 31, 1⟩
abbrev WIN_PLAN.WIN_ODD : Field := ⟨0x25800, 4, 24, 4⟩
abbrev WIN_PLAN.BANK_ODD : Field := ⟨0x25800, 4, 16, 4⟩
abbrev WIN_PLAN.VALID_EVEN : Field := ⟨0x25800, 4, 15, 1⟩
abbrev WIN_PLAN.WIN_EVEN : Field := ⟨0x25800, 4, 8, 4⟩
abbrev WIN_PLAN.BANK_EVEN : Field := ⟨0x25800, 4, 0, 4⟩
/-- MIR_CTL, whole word (spec/13_mirror_failover.md). -/
abbrev MIR_CTL.word : Field := ⟨0x26000, 0, 0, 32⟩
abbrev MIR_CTL.REPAIR : Field := ⟨0x26000, 0, 31, 1⟩
abbrev MIR_CTL.SPLIT : Field := ⟨0x26000, 0, 30, 1⟩
abbrev MIR_CTL.TAKE_EN : Field := ⟨0x26000, 0, 29, 1⟩
abbrev MIR_CTL.PAIR_EN : Field := ⟨0x26000, 0, 28, 1⟩
abbrev MIR_CTL.DIRTY_MIR : Field := ⟨0x26000, 0, 27, 1⟩
abbrev MIR_CTL.MIR_TMO : Field := ⟨0x26000, 0, 0, 4⟩
/-- MIR_STATUS, whole word (spec/13_mirror_failover.md). -/
abbrev MIR_STATUS.word : Field := ⟨0x26004, 0, 0, 32⟩
abbrev MIR_STATUS.STATE : Field := ⟨0x26004, 0, 29, 3⟩
abbrev MIR_STATUS.UNMIRRORED : Field := ⟨0x26004, 0, 28, 1⟩
abbrev MIR_STATUS.DISPLACED : Field := ⟨0x26004, 0, 27, 1⟩
abbrev MIR_STATUS.PEER_LIVE : Field := ⟨0x26004, 0, 26, 1⟩
abbrev MIR_STATUS.REACH : Field := ⟨0x26004, 0, 25, 1⟩
abbrev MIR_STATUS.LINK_UP : Field := ⟨0x26004, 0, 24, 1⟩
abbrev MIR_STATUS.CAUSE : Field := ⟨0x26004, 0, 20, 4⟩
abbrev MIR_STATUS.ADOPT : Field := ⟨0x26004, 0, 8, 3⟩
/-- MIR_PARTNER, whole word (spec/13_mirror_failover.md). -/
abbrev MIR_PARTNER.word : Field := ⟨0x26008, 0, 0, 32⟩
abbrev MIR_PARTNER.COORD : Field := ⟨0x26008, 0, 0, 24⟩
/-- MIR_PEER_MAP, whole word (spec/13_mirror_failover.md). -/
abbrev MIR_PEER_MAP.word : Field := ⟨0x2600C, 0, 0, 32⟩
abbrev MIR_PEER_MAP.GEN : Field := ⟨0x2600C, 0, 24, 8⟩
abbrev MIR_PEER_MAP.SELF : Field := ⟨0x2600C, 0, 16, 3⟩
abbrev MIR_PEER_MAP.MASK : Field := ⟨0x2600C, 0, 0, 8⟩
/-- MIR_RATE, whole word (spec/13_mirror_failover.md). -/
abbrev MIR_RATE.word : Field := ⟨0x26010, 0, 0, 32⟩
abbrev MIR_RATE.RATE : Field := ⟨0x26010, 0, 0, 16⟩
/-- MIR_SEAM, whole word (spec/13_mirror_failover.md). -/
abbrev MIR_SEAM.word : Field := ⟨0x26014, 0, 0, 32⟩
abbrev MIR_SEAM.ANNOUNCE : Field := ⟨0x26014, 0, 31, 1⟩
abbrev MIR_SEAM.RESUME : Field := ⟨0x26014, 0, 30, 1⟩
abbrev MIR_SEAM.READY : Field := ⟨0x26014, 0, 29, 1⟩
abbrev MIR_SEAM.TIMED_OUT : Field := ⟨0x26014, 0, 28, 1⟩
/-- MIR_RESTRIPE, whole word (spec/13_mirror_failover.md). -/
abbrev MIR_RESTRIPE.word : Field := ⟨0x26018, 0, 0, 32⟩
abbrev MIR_RESTRIPE.GO : Field := ⟨0x26018, 0, 31, 1⟩
abbrev MIR_RESTRIPE.OP : Field := ⟨0x26018, 0, 29, 2⟩
abbrev MIR_RESTRIPE.STATE : Field := ⟨0x26018, 0, 27, 2⟩
/-- MIR_LAST_TS_LO, whole word (spec/13_mirror_failover.md). -/
abbrev MIR_LAST_TS_LO.word : Field := ⟨0x2601C, 0, 0, 32⟩
abbrev MIR_LAST_TS_LO.TS_LO : Field := ⟨0x2601C, 0, 0, 32⟩
/-- MIR_LAST_TS_HI, whole word (spec/13_mirror_failover.md). -/
abbrev MIR_LAST_TS_HI.word : Field := ⟨0x26020, 0, 0, 32⟩
abbrev MIR_LAST_TS_HI.WRAP : Field := ⟨0x26020, 0, 16, 16⟩
abbrev MIR_LAST_TS_HI.TS_HI : Field := ⟨0x26020, 0, 0, 16⟩
/-- MIR_TX, whole word (spec/13_mirror_failover.md). -/
abbrev MIR_TX.word : Field := ⟨0x26030, 0, 0, 32⟩
abbrev MIR_TX.COUNT : Field := ⟨0x26030, 0, 0, 32⟩
/-- MIR_RX, whole word (spec/13_mirror_failover.md). -/
abbrev MIR_RX.word : Field := ⟨0x26034, 0, 0, 32⟩
abbrev MIR_RX.COUNT : Field := ⟨0x26034, 0, 0, 32⟩
/-- MIR_NACKS, whole word (spec/13_mirror_failover.md). -/
abbrev MIR_NACKS.word : Field := ⟨0x26038, 0, 0, 32⟩
abbrev MIR_NACKS.COUNT : Field := ⟨0x26038, 0, 0, 32⟩
/-- MIR_UNMIR, whole word (spec/13_mirror_failover.md). -/
abbrev MIR_UNMIR.word : Field := ⟨0x2603C, 0, 0, 32⟩
abbrev MIR_UNMIR.COUNT : Field := ⟨0x2603C, 0, 0, 32⟩
/-- MIR_TAKEOVERS, whole word (spec/13_mirror_failover.md). -/
abbrev MIR_TAKEOVERS.word : Field := ⟨0x26040, 0, 0, 32⟩
abbrev MIR_TAKEOVERS.COUNT : Field := ⟨0x26040, 0, 0, 32⟩
/-- MIR_LOSS_CTL, whole word (spec/13_mirror_failover.md). -/
abbrev MIR_LOSS_CTL.word : Field := ⟨0x26080, 0, 0, 32⟩
abbrev MIR_LOSS_CTL.CLEAR : Field := ⟨0x26080, 0, 31, 1⟩
abbrev MIR_LOSS_CTL.OVERFLOW : Field := ⟨0x26080, 0, 30, 1⟩
abbrev MIR_LOSS_CTL.COUNT : Field := ⟨0x26080, 0, 16, 8⟩
abbrev MIR_LOSS_CTL.LOST : Field := ⟨0x26080, 0, 0, 16⟩
/-- MIR_LDG, whole word (spec/13_mirror_failover.md). -/
abbrev MIR_LDG.word : Field := ⟨0x26100, 4, 0, 32⟩
abbrev MIR_LDG.MIRROR : Field := ⟨0x26100, 4, 31, 1⟩
abbrev MIR_LDG.COPY : Field := ⟨0x26100, 4, 30, 1⟩
abbrev MIR_LDG.PEER : Field := ⟨0x26100, 4, 0, 5⟩
/-- MIR_LOSS_LO, whole word (spec/13_mirror_failover.md). -/
abbrev MIR_LOSS_LO.word : Field := ⟨0x26800, 16, 0, 32⟩
abbrev MIR_LOSS_LO.LINE_LO : Field := ⟨0x26800, 16, 7, 25⟩
/-- MIR_LOSS_HI, whole word (spec/13_mirror_failover.md). -/
abbrev MIR_LOSS_HI.word : Field := ⟨0x26804, 16, 0, 32⟩
abbrev MIR_LOSS_HI.LINE_HI : Field := ⟨0x26804, 16, 0, 20⟩
/-- MIR_LOSS_TS, whole word (spec/13_mirror_failover.md). -/
abbrev MIR_LOSS_TS.word : Field := ⟨0x26808, 16, 0, 32⟩
abbrev MIR_LOSS_TS.TS : Field := ⟨0x26808, 16, 0, 32⟩
/-- MIR_LOSS_INFO, whole word (spec/13_mirror_failover.md). -/
abbrev MIR_LOSS_INFO.word : Field := ⟨0x2680C, 16, 0, 32⟩
abbrev MIR_LOSS_INFO.VALID : Field := ⟨0x2680C, 16, 31, 1⟩
abbrev MIR_LOSS_INFO.TYPE : Field := ⟨0x2680C, 16, 28, 3⟩
abbrev MIR_LOSS_INFO.CAUSE : Field := ⟨0x2680C, 16, 24, 4⟩
abbrev MIR_LOSS_INFO.RUN_COORD : Field := ⟨0x2680C, 16, 0, 24⟩
/-- CHN_CTL, whole word (spec/07_reduction_order.md). -/
abbrev CHN_CTL.word : Field := ⟨0x27000, 0, 0, 32⟩
abbrev CHN_CTL.RETRY_MAX : Field := ⟨0x27000, 0, 24, 8⟩
abbrev CHN_CTL.RTX_US : Field := ⟨0x27000, 0, 16, 8⟩
abbrev CHN_CTL.HOLD_TMO : Field := ⟨0x27000, 0, 0, 16⟩
/-- CHN_STATUS, whole word (spec/07_reduction_order.md). -/
abbrev CHN_STATUS.word : Field := ⟨0x27004, 0, 0, 32⟩
abbrev CHN_STATUS.FAULT : Field := ⟨0x27004, 0, 16, 16⟩
abbrev CHN_STATUS.TXBUF : Field := ⟨0x27004, 0, 8, 6⟩
abbrev CHN_STATUS.HELD : Field := ⟨0x27004, 0, 0, 7⟩
/-- CHN_ROW_TOK, whole word (spec/07_reduction_order.md). -/
abbrev CHN_ROW_TOK.word : Field := ⟨0x27008, 0, 0, 32⟩
abbrev CHN_ROW_TOK.TOKS : Field := ⟨0x27008, 0, 1, 1⟩
abbrev CHN_ROW_TOK.TOKL : Field := ⟨0x27008, 0, 0, 1⟩
/-- CHN_TOK_TX, whole word (spec/07_reduction_order.md). -/
abbrev CHN_TOK_TX.word : Field := ⟨0x27010, 0, 0, 32⟩
abbrev CHN_TOK_TX.COUNT : Field := ⟨0x27010, 0, 0, 32⟩
/-- CHN_TOK_RX, whole word (spec/07_reduction_order.md). -/
abbrev CHN_TOK_RX.word : Field := ⟨0x27014, 0, 0, 32⟩
abbrev CHN_TOK_RX.COUNT : Field := ⟨0x27014, 0, 0, 32⟩
/-- CHN_RETX, whole word (spec/07_reduction_order.md). -/
abbrev CHN_RETX.word : Field := ⟨0x27018, 0, 0, 32⟩
abbrev CHN_RETX.COUNT : Field := ⟨0x27018, 0, 0, 32⟩
/-- CHN_DUP, whole word (spec/07_reduction_order.md). -/
abbrev CHN_DUP.word : Field := ⟨0x2701C, 0, 0, 32⟩
abbrev CHN_DUP.COUNT : Field := ⟨0x2701C, 0, 0, 32⟩
/-- CHN_CRC_ERR, whole word (spec/07_reduction_order.md). -/
abbrev CHN_CRC_ERR.word : Field := ⟨0x27020, 0, 0, 32⟩
abbrev CHN_CRC_ERR.COUNT : Field := ⟨0x27020, 0, 0, 32⟩
/-- CHN_CTX_CTL, whole word (spec/07_reduction_order.md). -/
abbrev CHN_CTX_CTL.word : Field := ⟨0x27100, 32, 0, 32⟩
abbrev CHN_CTX_CTL.VALID : Field := ⟨0x27100, 32, 31, 1⟩
abbrev CHN_CTX_CTL.FAULT : Field := ⟨0x27100, 32, 30, 1⟩
abbrev CHN_CTX_CTL.ROLE : Field := ⟨0x27100, 32, 28, 2⟩
abbrev CHN_CTX_CTL.CHAIN : Field := ⟨0x27100, 32, 16, 12⟩
abbrev CHN_CTX_CTL.POS : Field := ⟨0x27100, 32, 8, 6⟩
abbrev CHN_CTX_CTL.LEN : Field := ⟨0x27100, 32, 0, 7⟩
/-- CHN_CTX_SLOTS, whole word (spec/07_reduction_order.md). -/
abbrev CHN_CTX_SLOTS.word : Field := ⟨0x27104, 32, 0, 32⟩
abbrev CHN_CTX_SLOTS.BIND : Field := ⟨0x27104, 32, 25, 5⟩
abbrev CHN_CTX_SLOTS.SLOT0 : Field := ⟨0x27104, 32, 13, 12⟩
abbrev CHN_CTX_SLOTS.NSLOTS : Field := ⟨0x27104, 32, 0, 13⟩
/-- CHN_CTX_PRED, whole word (spec/07_reduction_order.md). -/
abbrev CHN_CTX_PRED.word : Field := ⟨0x27108, 32, 0, 32⟩
abbrev CHN_CTX_PRED.NODE : Field := ⟨0x27108, 32, 16, 8⟩
abbrev CHN_CTX_PRED.PKG : Field := ⟨0x27108, 32, 8, 3⟩
abbrev CHN_CTX_PRED.DIE : Field := ⟨0x27108, 32, 3, 3⟩
abbrev CHN_CTX_PRED.SLICE : Field := ⟨0x27108, 32, 0, 3⟩
/-- CHN_CTX_SUCC, whole word (spec/07_reduction_order.md). -/
abbrev CHN_CTX_SUCC.word : Field := ⟨0x2710C, 32, 0, 32⟩
abbrev CHN_CTX_SUCC.NODE : Field := ⟨0x2710C, 32, 16, 8⟩
abbrev CHN_CTX_SUCC.PKG : Field := ⟨0x2710C, 32, 8, 3⟩
abbrev CHN_CTX_SUCC.DIE : Field := ⟨0x2710C, 32, 3, 3⟩
abbrev CHN_CTX_SUCC.SLICE : Field := ⟨0x2710C, 32, 0, 3⟩
/-- CHN_CTX_SEQ, whole word (spec/07_reduction_order.md). -/
abbrev CHN_CTX_SEQ.word : Field := ⟨0x27110, 32, 0, 32⟩
abbrev CHN_CTX_SEQ.TX_NEXT : Field := ⟨0x27110, 32, 16, 16⟩
abbrev CHN_CTX_SEQ.RX_EXPECT : Field := ⟨0x27110, 32, 0, 16⟩
/-- CHN_CTX_ACKED, whole word (spec/07_reduction_order.md). -/
abbrev CHN_CTX_ACKED.word : Field := ⟨0x27114, 32, 0, 32⟩
abbrev CHN_CTX_ACKED.TX_ACKED : Field := ⟨0x27114, 32, 16, 16⟩
abbrev CHN_CTX_ACKED.UNACKED : Field := ⟨0x27114, 32, 0, 6⟩
/-- LNK_STATUS, whole word (spec/14_errors_injection.md). -/
abbrev LNK_STATUS.word : Field := ⟨0x28000, 0, 0, 32⟩
abbrev LNK_STATUS.HALF : Field := ⟨0x28000, 0, 8, 8⟩
abbrev LNK_STATUS.UP : Field := ⟨0x28000, 0, 0, 8⟩
/-- LNK_UCIE, whole word (spec/16_ports_signals.md). -/
abbrev LNK_UCIE.word : Field := ⟨0x28010, 4, 0, 32⟩
abbrev LNK_UCIE.VALID : Field := ⟨0x28010, 4, 31, 1⟩
abbrev LNK_UCIE.CAP_RX : Field := ⟨0x28010, 4, 30, 1⟩
abbrev LNK_UCIE.PKG : Field := ⟨0x28010, 4, 29, 1⟩
abbrev LNK_UCIE.RATE : Field := ⟨0x28010, 4, 24, 5⟩
abbrev LNK_UCIE.WIDTH : Field := ⟨0x28010, 4, 16, 8⟩
abbrev LNK_UCIE.FRAME_64B : Field := ⟨0x28010, 4, 0, 16⟩
/-- LNK_INJ_CTL, whole word (spec/14_errors_injection.md). -/
abbrev LNK_INJ_CTL.word : Field := ⟨0x28100, 32, 0, 32⟩
abbrev LNK_INJ_CTL.EN : Field := ⟨0x28100, 32, 31, 1⟩
abbrev LNK_INJ_CTL.DIR : Field := ⟨0x28100, 32, 30, 1⟩
abbrev LNK_INJ_CTL.LAYER : Field := ⟨0x28100, 32, 29, 1⟩
abbrev LNK_INJ_CTL.TRIG : Field := ⟨0x28100, 32, 28, 1⟩
abbrev LNK_INJ_CTL.REPEAT : Field := ⟨0x28100, 32, 27, 1⟩
abbrev LNK_INJ_CTL.LOG : Field := ⟨0x28100, 32, 26, 1⟩
abbrev LNK_INJ_CTL.MODE : Field := ⟨0x28100, 32, 23, 3⟩
abbrev LNK_INJ_CTL.RANDPOS : Field := ⟨0x28100, 32, 22, 1⟩
abbrev LNK_INJ_CTL.MASK : Field := ⟨0x28100, 32, 8, 8⟩
/-- LNK_INJ_COUNT, whole word (spec/14_errors_injection.md). -/
abbrev LNK_INJ_COUNT.word : Field := ⟨0x28104, 32, 0, 32⟩
abbrev LNK_INJ_COUNT.COUNT : Field := ⟨0x28104, 32, 0, 32⟩
/-- LNK_INJ_RATE, whole word (spec/14_errors_injection.md). -/
abbrev LNK_INJ_RATE.word : Field := ⟨0x28108, 32, 0, 32⟩
abbrev LNK_INJ_RATE.RATE : Field := ⟨0x28108, 32, 0, 16⟩
/-- LNK_INJ_SEED, whole word (spec/14_errors_injection.md). -/
abbrev LNK_INJ_SEED.word : Field := ⟨0x2810C, 32, 0, 32⟩
abbrev LNK_INJ_SEED.SEED : Field := ⟨0x2810C, 32, 0, 32⟩
/-- LNK_INJ_POS, whole word (spec/14_errors_injection.md). -/
abbrev LNK_INJ_POS.word : Field := ⟨0x28110, 32, 0, 32⟩
abbrev LNK_INJ_POS.POS1 : Field := ⟨0x28110, 32, 16, 11⟩
abbrev LNK_INJ_POS.POS0 : Field := ⟨0x28110, 32, 0, 11⟩
/-- LNK_INJ_DONE, whole word (spec/14_errors_injection.md). -/
abbrev LNK_INJ_DONE.word : Field := ⟨0x28114, 32, 0, 32⟩
abbrev LNK_INJ_DONE.COUNT : Field := ⟨0x28114, 32, 0, 32⟩
/-- LNK_INJ_MISS, whole word (spec/14_errors_injection.md). -/
abbrev LNK_INJ_MISS.word : Field := ⟨0x28118, 32, 0, 32⟩
abbrev LNK_INJ_MISS.COUNT : Field := ⟨0x28118, 32, 0, 32⟩
/-- ERR_STATUS, whole word (spec/14_errors_injection.md). -/
abbrev ERR_STATUS.word : Field := ⟨0x29000, 0, 0, 32⟩
abbrev ERR_STATUS.PEND : Field := ⟨0x29000, 0, 0, 16⟩
/-- ERR_IRQ_EN, whole word (spec/14_errors_injection.md). -/
abbrev ERR_IRQ_EN.word : Field := ⟨0x29004, 0, 0, 32⟩
abbrev ERR_IRQ_EN.EN : Field := ⟨0x29004, 0, 0, 16⟩
/-- ERR_LOG_EN, whole word (spec/14_errors_injection.md). -/
abbrev ERR_LOG_EN.word : Field := ⟨0x29008, 0, 0, 32⟩
abbrev ERR_LOG_EN.EN : Field := ⟨0x29008, 0, 0, 16⟩
/-- ERR_LOG_SEQ, whole word (spec/14_errors_injection.md). -/
abbrev ERR_LOG_SEQ.word : Field := ⟨0x2900C, 0, 0, 32⟩
abbrev ERR_LOG_SEQ.SEQ : Field := ⟨0x2900C, 0, 0, 32⟩
/-- ERR_LOG_TAIL, whole word (spec/14_errors_injection.md). -/
abbrev ERR_LOG_TAIL.word : Field := ⟨0x29010, 0, 0, 32⟩
abbrev ERR_LOG_TAIL.TAIL : Field := ⟨0x29010, 0, 0, 32⟩
/-- ERR_LOG_LOST, whole word (spec/14_errors_injection.md). -/
abbrev ERR_LOG_LOST.word : Field := ⟨0x29014, 0, 0, 32⟩
abbrev ERR_LOG_LOST.COUNT : Field := ⟨0x29014, 0, 0, 32⟩
/-- ERR_LOG_DROP, whole word (spec/14_errors_injection.md). -/
abbrev ERR_LOG_DROP.word : Field := ⟨0x29018, 0, 0, 32⟩
abbrev ERR_LOG_DROP.COUNT : Field := ⟨0x29018, 0, 0, 32⟩
/-- ERR_LOG_SEL, whole word (spec/14_errors_injection.md). -/
abbrev ERR_LOG_SEL.word : Field := ⟨0x2901C, 0, 0, 32⟩
abbrev ERR_LOG_SEL.INDEX : Field := ⟨0x2901C, 0, 0, 9⟩
/-- ERR_ENT_TS_LO, whole word (spec/14_errors_injection.md). -/
abbrev ERR_ENT_TS_LO.word : Field := ⟨0x29020, 0, 0, 32⟩
abbrev ERR_ENT_TS_LO.TS_LO : Field := ⟨0x29020, 0, 0, 32⟩
/-- ERR_ENT_TS_HI, whole word (spec/14_errors_injection.md). -/
abbrev ERR_ENT_TS_HI.word : Field := ⟨0x29024, 0, 0, 32⟩
abbrev ERR_ENT_TS_HI.WRAP : Field := ⟨0x29024, 0, 16, 16⟩
abbrev ERR_ENT_TS_HI.TS_HI : Field := ⟨0x29024, 0, 0, 16⟩
/-- ERR_ENT_LOC_LO, whole word (spec/14_errors_injection.md). -/
abbrev ERR_ENT_LOC_LO.word : Field := ⟨0x29028, 0, 0, 32⟩
abbrev ERR_ENT_LOC_LO.LOC_LO : Field := ⟨0x29028, 0, 7, 25⟩
/-- ERR_ENT_LOC_HI, whole word (spec/14_errors_injection.md). -/
abbrev ERR_ENT_LOC_HI.word : Field := ⟨0x2902C, 0, 0, 32⟩
abbrev ERR_ENT_LOC_HI.LOC_HI : Field := ⟨0x2902C, 0, 0, 20⟩
/-- ERR_ENT_DETAIL, whole word (spec/14_errors_injection.md). -/
abbrev ERR_ENT_DETAIL.word : Field := ⟨0x29030, 0, 0, 32⟩
abbrev ERR_ENT_DETAIL.DETAIL : Field := ⟨0x29030, 0, 0, 32⟩
/-- ERR_ENT_INFO, whole word (spec/14_errors_injection.md). -/
abbrev ERR_ENT_INFO.word : Field := ⟨0x29034, 0, 0, 32⟩
abbrev ERR_ENT_INFO.VALID : Field := ⟨0x29034, 0, 31, 1⟩
abbrev ERR_ENT_INFO.LOC_V : Field := ⟨0x29034, 0, 30, 1⟩
abbrev ERR_ENT_INFO.CLASS : Field := ⟨0x29034, 0, 26, 4⟩
abbrev ERR_ENT_INFO.SEV : Field := ⟨0x29034, 0, 24, 2⟩
abbrev ERR_ENT_INFO.CODE : Field := ⟨0x29034, 0, 16, 8⟩
abbrev ERR_ENT_INFO.STATUS : Field := ⟨0x29034, 0, 12, 4⟩
abbrev ERR_ENT_INFO.SRC_KIND : Field := ⟨0x29034, 0, 8, 4⟩
abbrev ERR_ENT_INFO.SRC_ID : Field := ⟨0x29034, 0, 0, 8⟩
/-- ERR_ENT_SEQ, whole word (spec/14_errors_injection.md). -/
abbrev ERR_ENT_SEQ.word : Field := ⟨0x29038, 0, 0, 32⟩
abbrev ERR_ENT_SEQ.SEQ : Field := ⟨0x29038, 0, 0, 32⟩
/-- ERR_CNT, whole word (spec/14_errors_injection.md). -/
abbrev ERR_CNT.word : Field := ⟨0x29100, 4, 0, 32⟩
abbrev ERR_CNT.COUNT : Field := ⟨0x29100, 4, 0, 32⟩
/-- PMU_GCTL, whole word (spec/15_performance_counters.md). -/
abbrev PMU_GCTL.word : Field := ⟨0x2A000, 0, 0, 32⟩
abbrev PMU_GCTL.SNAP : Field := ⟨0x2A000, 0, 31, 1⟩
abbrev PMU_GCTL.FREEZE : Field := ⟨0x2A000, 0, 30, 1⟩
abbrev PMU_GCTL.FRZ_ON_OVF : Field := ⟨0x2A000, 0, 29, 1⟩
abbrev PMU_GCTL.CLR : Field := ⟨0x2A000, 0, 28, 1⟩
abbrev PMU_GCTL.EN : Field := ⟨0x2A000, 0, 0, 8⟩
/-- PMU_OVF, whole word (spec/15_performance_counters.md). -/
abbrev PMU_OVF.word : Field := ⟨0x2A004, 0, 0, 32⟩
abbrev PMU_OVF.OVF : Field := ⟨0x2A004, 0, 0, 8⟩
/-- PMU_IRQ_EN, whole word (spec/15_performance_counters.md). -/
abbrev PMU_IRQ_EN.word : Field := ⟨0x2A008, 0, 0, 32⟩
abbrev PMU_IRQ_EN.EN : Field := ⟨0x2A008, 0, 0, 8⟩
/-- PMU_STATUS, whole word (spec/15_performance_counters.md). -/
abbrev PMU_STATUS.word : Field := ⟨0x2A00C, 0, 0, 32⟩
abbrev PMU_STATUS.FROZEN : Field := ⟨0x2A00C, 0, 31, 1⟩
abbrev PMU_STATUS.SNAPS : Field := ⟨0x2A00C, 0, 0, 16⟩
/-- PMU_CYC_LO, whole word (spec/15_performance_counters.md). -/
abbrev PMU_CYC_LO.word : Field := ⟨0x2A010, 0, 0, 32⟩
abbrev PMU_CYC_LO.CYC_LO : Field := ⟨0x2A010, 0, 0, 32⟩
/-- PMU_CYC_HI, whole word (spec/15_performance_counters.md). -/
abbrev PMU_CYC_HI.word : Field := ⟨0x2A014, 0, 0, 32⟩
abbrev PMU_CYC_HI.CYC_HI : Field := ⟨0x2A014, 0, 0, 32⟩
/-- PMU_SCYC_LO, whole word (spec/15_performance_counters.md). -/
abbrev PMU_SCYC_LO.word : Field := ⟨0x2A018, 0, 0, 32⟩
abbrev PMU_SCYC_LO.SCYC_LO : Field := ⟨0x2A018, 0, 0, 32⟩
/-- PMU_SCYC_HI, whole word (spec/15_performance_counters.md). -/
abbrev PMU_SCYC_HI.word : Field := ⟨0x2A01C, 0, 0, 32⟩
abbrev PMU_SCYC_HI.SCYC_HI : Field := ⟨0x2A01C, 0, 0, 32⟩
/-- PMU_EVSEL, whole word (spec/15_performance_counters.md). -/
abbrev PMU_EVSEL.word : Field := ⟨0x2A100, 32, 0, 32⟩
abbrev PMU_EVSEL.LABELS : Field := ⟨0x2A100, 32, 16, 8⟩
abbrev PMU_EVSEL.LANES : Field := ⟨0x2A100, 32, 8, 4⟩
abbrev PMU_EVSEL.EVENT : Field := ⟨0x2A100, 32, 0, 8⟩
/-- PMU_THR, whole word (spec/15_performance_counters.md). -/
abbrev PMU_THR.word : Field := ⟨0x2A104, 32, 0, 32⟩
abbrev PMU_THR.THRESH : Field := ⟨0x2A104, 32, 0, 16⟩
/-- PMU_CNT_LO, whole word (spec/15_performance_counters.md). -/
abbrev PMU_CNT_LO.word : Field := ⟨0x2A108, 32, 0, 32⟩
abbrev PMU_CNT_LO.CNT_LO : Field := ⟨0x2A108, 32, 0, 32⟩
/-- PMU_CNT_HI, whole word (spec/15_performance_counters.md). -/
abbrev PMU_CNT_HI.word : Field := ⟨0x2A10C, 32, 0, 32⟩
abbrev PMU_CNT_HI.CNT_HI : Field := ⟨0x2A10C, 32, 0, 16⟩
/-- PMU_SNAP_LO, whole word (spec/15_performance_counters.md). -/
abbrev PMU_SNAP_LO.word : Field := ⟨0x2A110, 32, 0, 32⟩
abbrev PMU_SNAP_LO.SNAP_LO : Field := ⟨0x2A110, 32, 0, 32⟩
/-- PMU_SNAP_HI, whole word (spec/15_performance_counters.md). -/
abbrev PMU_SNAP_HI.word : Field := ⟨0x2A114, 32, 0, 32⟩
abbrev PMU_SNAP_HI.SNAP_HI : Field := ⟨0x2A114, 32, 0, 16⟩
/-- CUR_MBX_H2C, whole word (spec/17_register_index.md). -/
abbrev CUR_MBX_H2C.word : Field := ⟨0x30000, 4, 0, 32⟩
abbrev CUR_MBX_H2C.DATA : Field := ⟨0x30000, 4, 0, 32⟩
/-- CUR_MBX_C2H, whole word (spec/17_register_index.md). -/
abbrev CUR_MBX_C2H.word : Field := ⟨0x30800, 4, 0, 32⟩
abbrev CUR_MBX_C2H.DATA : Field := ⟨0x30800, 4, 0, 32⟩
/-- CUR_MBX_DB, whole word (spec/17_register_index.md). -/
abbrev CUR_MBX_DB.word : Field := ⟨0x30FF0, 0, 0, 32⟩
abbrev CUR_MBX_DB.POST : Field := ⟨0x30FF0, 0, 31, 1⟩
abbrev CUR_MBX_DB.C2H_PEND : Field := ⟨0x30FF0, 0, 30, 1⟩
abbrev CUR_MBX_DB.C2H_LEN : Field := ⟨0x30FF0, 0, 16, 9⟩
abbrev CUR_MBX_DB.H2C_LEN : Field := ⟨0x30FF0, 0, 0, 10⟩
/-- CUR_IMG_CTL, whole word (spec/10_shelving_image.md). -/
abbrev CUR_IMG_CTL.word : Field := ⟨0x31000, 0, 0, 32⟩
abbrev CUR_IMG_CTL.GO : Field := ⟨0x31000, 0, 31, 1⟩
abbrev CUR_IMG_CTL.OP : Field := ⟨0x31000, 0, 29, 2⟩
/-- CUR_IMG_STATUS, whole word (spec/10_shelving_image.md). -/
abbrev CUR_IMG_STATUS.word : Field := ⟨0x31004, 0, 0, 32⟩
abbrev CUR_IMG_STATUS.BUSY : Field := ⟨0x31004, 0, 31, 1⟩
abbrev CUR_IMG_STATUS.REFUSED : Field := ⟨0x31004, 0, 30, 1⟩
abbrev CUR_IMG_STATUS.LAST_OP : Field := ⟨0x31004, 0, 28, 2⟩
abbrev CUR_IMG_STATUS.STATUS : Field := ⟨0x31004, 0, 24, 4⟩
abbrev CUR_IMG_STATUS.REASON : Field := ⟨0x31004, 0, 16, 8⟩
abbrev CUR_IMG_STATUS.SECTION : Field := ⟨0x31004, 0, 8, 8⟩
abbrev CUR_IMG_STATUS.ENTRY : Field := ⟨0x31004, 0, 0, 8⟩
/-- CUR_IMG_ADDR, whole word (spec/10_shelving_image.md). -/
abbrev CUR_IMG_ADDR.word : Field := ⟨0x31008, 0, 0, 32⟩
abbrev CUR_IMG_ADDR.ADDR : Field := ⟨0x31008, 0, 2, 14⟩
/-- CUR_IMG_DATA, whole word (spec/10_shelving_image.md). -/
abbrev CUR_IMG_DATA.word : Field := ⟨0x3100C, 0, 0, 32⟩
abbrev CUR_IMG_DATA.DATA : Field := ⟨0x3100C, 0, 0, 32⟩
/-- CUR_IMG_ACTIVE, whole word (spec/10_shelving_image.md). -/
abbrev CUR_IMG_ACTIVE.word : Field := ⟨0x31010, 0, 0, 32⟩
abbrev CUR_IMG_ACTIVE.SERIAL : Field := ⟨0x31010, 0, 0, 32⟩
/-- CUR_IMG_CRC, whole word (spec/10_shelving_image.md). -/
abbrev CUR_IMG_CRC.word : Field := ⟨0x31014, 0, 0, 32⟩
abbrev CUR_IMG_CRC.CRC : Field := ⟨0x31014, 0, 0, 32⟩
/-- CUR_IMG_FORMAT, whole word (spec/10_shelving_image.md). -/
abbrev CUR_IMG_FORMAT.word : Field := ⟨0x31018, 0, 0, 32⟩
abbrev CUR_IMG_FORMAT.MAJOR : Field := ⟨0x31018, 0, 8, 8⟩
abbrev CUR_IMG_FORMAT.MINOR_MAX : Field := ⟨0x31018, 0, 0, 8⟩
/-- CUR_FW_CTL, whole word (spec/11_startup_daybook.md). -/
abbrev CUR_FW_CTL.word : Field := ⟨0x32000, 0, 0, 32⟩
abbrev CUR_FW_CTL.DONE : Field := ⟨0x32000, 0, 31, 1⟩
abbrev CUR_FW_CTL.ALIVE : Field := ⟨0x32000, 0, 30, 1⟩
/-- CUR_FW_STATUS, whole word (spec/11_startup_daybook.md). -/
abbrev CUR_FW_STATUS.word : Field := ⟨0x32004, 0, 0, 32⟩
abbrev CUR_FW_STATUS.STATE : Field := ⟨0x32004, 0, 29, 3⟩
abbrev CUR_FW_STATUS.ATTEMPT : Field := ⟨0x32004, 0, 27, 2⟩
abbrev CUR_FW_STATUS.LAST_CAUSE : Field := ⟨0x32004, 0, 16, 8⟩
/-- CUR_FW_ATTEST, whole word (spec/11_startup_daybook.md). -/
abbrev CUR_FW_ATTEST.word : Field := ⟨0x32008, 0, 0, 32⟩
abbrev CUR_FW_ATTEST.VERIFIED : Field := ⟨0x32008, 0, 31, 1⟩
abbrev CUR_FW_ATTEST.LEN : Field := ⟨0x32008, 0, 0, 18⟩
/-- CUR_FW_CRC, whole word (spec/11_startup_daybook.md). -/
abbrev CUR_FW_CRC.word : Field := ⟨0x3200C, 0, 0, 32⟩
abbrev CUR_FW_CRC.CRC : Field := ⟨0x3200C, 0, 0, 32⟩
/-- CUR_WDT_CTL, whole word (spec/14_errors_injection.md). -/
abbrev CUR_WDT_CTL.word : Field := ⟨0x32010, 0, 0, 32⟩
abbrev CUR_WDT_CTL.KICK : Field := ⟨0x32010, 0, 31, 1⟩
abbrev CUR_WDT_CTL.LIMIT : Field := ⟨0x32010, 0, 16, 8⟩
abbrev CUR_WDT_CTL.PERIOD_MS : Field := ⟨0x32010, 0, 0, 8⟩
/-- CUR_WDT_STATUS, whole word (spec/14_errors_injection.md). -/
abbrev CUR_WDT_STATUS.word : Field := ⟨0x32014, 0, 0, 32⟩
abbrev CUR_WDT_STATUS.ARMED : Field := ⟨0x32014, 0, 31, 1⟩
abbrev CUR_WDT_STATUS.HELD : Field := ⟨0x32014, 0, 30, 1⟩
abbrev CUR_WDT_STATUS.EXPIRIES : Field := ⟨0x32014, 0, 16, 8⟩
abbrev CUR_WDT_STATUS.REMAIN : Field := ⟨0x32014, 0, 0, 12⟩

/-- A row of the register map: base offset, number of registers, distance between them, and per access code of R10 the
mask of the bits that carry it; `keep` is the mask of the bits retained through a warm reset (R12). The number `n64` is
the count in S64. -/
structure RegRow where
  base   : Nat
  count  : Nat
  n64    : Nat
  stride : Nat
  rw     : Nat
  w1c    : Nat
  w1s    : Nat
  rc     : Nat
  keep   : Nat
  deriving DecidableEq, Repr

/-- The registers of block SLC. -/
def rowsSlc : List RegRow := [
  ⟨0x00000, 1, 1, 0, 0x0, 0x0, 0x0, 0x0, 0x0⟩, -- SLC_ID
  ⟨0x00004, 1, 1, 0, 0x0, 0x0, 0x0, 0x0, 0x0⟩, -- SLC_CAP
  ⟨0x00008, 1, 1, 0, 0xF, 0x0, 0x0, 0x0, 0x0⟩, -- SLC_FEAT
  ⟨0x00010, 1, 1, 0, 0x0, 0x0, 0x0, 0x0, 0x0⟩, -- SLC_START
  ⟨0x00014, 1, 1, 0, 0x80000000, 0x0, 0x40000000, 0x0, 0x0⟩, -- SLC_START_CTL
  ⟨0x00018, 1, 1, 0, 0xFFFFFFFF, 0x0, 0x0, 0x0, 0x0⟩, -- SLC_START_TMO
  ⟨0x00020, 1, 1, 0, 0x0, 0x0, 0x0, 0xFFFF0000, 0x0⟩, -- SLC_HALVES
  ⟨0x00100, 1, 1, 0, 0xFF0000FF, 0x0, 0x0, 0x0, 0x0⟩, -- SLC_LIVE
  ⟨0x00104, 1, 1, 0, 0xFFFFFFFF, 0x0, 0x0, 0x0, 0x0⟩, -- SLC_HASH_PA_LO
  ⟨0x00108, 1, 1, 0, 0xFFFFF, 0x0, 0x0, 0x0, 0x0⟩, -- SLC_HASH_PA_HI
  ⟨0x0010C, 1, 1, 0, 0x0, 0x0, 0x0, 0x0, 0x0⟩, -- SLC_HASH_OUT
  ⟨0x00110, 1, 1, 0, 0x0, 0xFF8E0000, 0x0, 0x0, 0x0⟩] -- SLC_ISLAND_STATUS
/-- The registers of block DBK. -/
def rowsDbk : List RegRow := [
  ⟨0x01000, 1, 1, 0, 0x0, 0x0, 0xE0000000, 0x0, 0x0⟩, -- DBK_CTL
  ⟨0x01004, 1, 1, 0, 0x0, 0x0, 0x0, 0x0, 0xFFFFFFFF⟩, -- DBK_STATUS
  ⟨0x01008, 1, 1, 0, 0x0, 0x0, 0x0, 0x0, 0xFFFFF⟩, -- DBK_FAILS
  ⟨0x0100C, 1, 1, 0, 0x0, 0x0, 0x0, 0x0, 0xFFFF⟩, -- DBK_LINK_FAILS
  ⟨0x01010, 1, 1, 0, 0x0, 0x0, 0x0, 0x0, 0x1FFFF⟩, -- DBK_RETIRED
  ⟨0x01014, 1, 1, 0, 0x0, 0x0, 0x0, 0x0, 0x0⟩, -- DBK_DEGRADED
  ⟨0x01100, 64, 64, 8, 0x0, 0x0, 0x0, 0x0, 0xFFFFFFFF⟩, -- DBK_ENT_INFO
  ⟨0x01104, 64, 64, 8, 0x0, 0x0, 0x0, 0x0, 0xFFFFFFFF⟩] -- DBK_ENT_TIME
/-- The registers of block PWR. -/
def rowsPwr : List RegRow := [
  ⟨0x02000, 1, 1, 0, 0x103, 0x0, 0x80000000, 0x0, 0x0⟩, -- PWR_CMD
  ⟨0x02004, 1, 1, 0, 0x0, 0x0, 0x0, 0x0, 0x0⟩, -- PWR_STATUS
  ⟨0x02008, 1, 1, 0, 0x0, 0x0, 0x0, 0x0, 0x0⟩, -- PWR_CAP
  ⟨0x0200C, 1, 1, 0, 0xFFFF, 0x0, 0x0, 0x0, 0x0⟩, -- PWR_RAMP
  ⟨0x02010, 1, 1, 0, 0x0, 0x0, 0x0, 0x0, 0x0⟩, -- PWR_RETAIN
  ⟨0x02014, 1, 1, 0, 0x0, 0x0, 0x0, 0x0, 0x0⟩, -- PWR_RET_EST
  ⟨0x02018, 1, 1, 0, 0x0, 0x0, 0x0, 0x0, 0x0⟩, -- PWR_TIMES
  ⟨0x0201C, 1, 1, 0, 0x0, 0x0, 0x0, 0xFFFFFFFF, 0x0⟩, -- PWR_RECALLS
  ⟨0x02020, 1, 1, 0, 0x0, 0x0, 0x0, 0x0, 0x0⟩, -- PWR_FLUSHED
  ⟨0x02024, 1, 1, 0, 0x0, 0x0, 0x0, 0xFFFFFFFF, 0x0⟩] -- PWR_WAKES
/-- The registers of block STK. -/
def rowsStk : List RegRow := [
  ⟨0x04000, 1, 1, 0, 0x0, 0x0, 0x0, 0x0, 0x0⟩, -- STK_CFG
  ⟨0x04004, 1, 1, 0, 0x0, 0x0, 0x0, 0x0, 0x0⟩, -- STK_BANK_STATE
  ⟨0x04008, 1, 1, 0, 0x1F, 0x0, 0x80000000, 0x0, 0x0⟩, -- STK_RETIRE
  ⟨0x04010, 1, 1, 0, 0x300, 0x80000, 0x0, 0x0, 0x3⟩, -- STK_REF_TIER
  ⟨0x04014, 1, 1, 0, 0x0, 0x1FFFF, 0x0, 0xFF000000, 0x0⟩, -- STK_REF_STATUS
  ⟨0x04020, 1, 1, 0, 0x80FFFFFF, 0x0, 0x0, 0x0, 0x0⟩, -- STK_SCRUB_CTL
  ⟨0x04024, 1, 1, 0, 0x0, 0x80000000, 0x0, 0x0, 0x0⟩, -- STK_SCRUB_STATUS
  ⟨0x04030, 1, 1, 0, 0x8000FFFF, 0x0, 0x0, 0x0, 0x0⟩, -- STK_CAL_GRANT
  ⟨0x04040, 1, 1, 0, 0x0, 0x0, 0x0, 0xFFFFFFFF, 0x0⟩, -- STK_ECC_CE
  ⟨0x04044, 1, 1, 0, 0x0, 0x0, 0x0, 0xFFFFFFFF, 0x0⟩, -- STK_ECC_UE
  ⟨0x04048, 1, 1, 0, 0xF, 0x0, 0x0, 0x0, 0x0⟩, -- STK_ECC_LIMIT
  ⟨0x04050, 4, 4, 4, 0x0, 0x80000000, 0x0, 0x0, 0x0⟩, -- STK_TAG_LOST
  ⟨0x04100, 136, 72, 4, 0x0, 0x0, 0x0, 0x0, 0x0⟩] -- STK_CAL_RESULT
/-- The registers of block ALT. -/
def rowsAlt : List RegRow := [
  ⟨0x06000, 1, 1, 0, 0x0, 0x0, 0x0, 0x0, 0x0⟩, -- ALT_PIN_MASK
  ⟨0x06004, 1, 1, 0, 0x80000000, 0x0, 0x0, 0x0, 0x0⟩, -- ALT_ADAPT
  ⟨0x06008, 1, 1, 0, 0xC000003F, 0x0, 0x0, 0x0, 0x0⟩, -- ALT_ADJUST
  ⟨0x0600C, 1, 1, 0, 0x0, 0x0, 0x0, 0x0, 0x0⟩, -- ALT_WINDOW
  ⟨0x06010, 1, 1, 0, 0x0, 0x0, 0x0, 0x0, 0x0⟩, -- ALT_POLICY
  ⟨0x06014, 1, 1, 0, 0x0, 0x0, 0x0, 0x0, 0x0⟩, -- ALT_ADJ_TOTAL
  ⟨0x06018, 1, 1, 0, 0x0, 0x0, 0x0, 0xFFFFFFFF, 0x0⟩, -- ALT_SPILL
  ⟨0x06040, 16, 16, 8, 0x0, 0x0, 0x0, 0x0, 0x0⟩, -- ALT_GRP_ACC
  ⟨0x06044, 16, 16, 8, 0x0, 0x0, 0x0, 0x0, 0x0⟩, -- ALT_GRP_MISS
  ⟨0x06100, 64, 64, 16, 0x0, 0x0, 0x0, 0x0, 0x0⟩, -- ALT_CRL_BASE_LO
  ⟨0x06104, 64, 64, 16, 0x0, 0x0, 0x0, 0x0, 0x0⟩, -- ALT_CRL_BASE_HI
  ⟨0x06108, 64, 64, 16, 0x0, 0x0, 0x0, 0x0, 0x0⟩, -- ALT_CRL_SIZE
  ⟨0x0610C, 64, 64, 16, 0x0, 0x0, 0x0, 0x0, 0x0⟩, -- ALT_CRL_CTL
  ⟨0x06800, 32, 32, 8, 0x0, 0x0, 0x0, 0x0, 0x0⟩, -- ALT_LOG_TIME
  ⟨0x06804, 32, 32, 8, 0x0, 0x0, 0x0, 0x0, 0x0⟩] -- ALT_LOG_INFO
/-- The registers of block SHT. -/
def rowsSht : List RegRow := [
  ⟨0x07000, 1, 1, 0, 0x1, 0x0, 0x0, 0x0, 0x0⟩, -- SHT_DEAD_CTL
  ⟨0x07004, 1, 1, 0, 0x0, 0x0, 0x0, 0xFFFFFFFF, 0x0⟩, -- SHT_DEAD_READS
  ⟨0x07010, 1, 1, 0, 0x8000000F, 0x0, 0x0, 0x0, 0x0⟩, -- SHT_RSH_CTL
  ⟨0x07014, 1, 1, 0, 0xFFFFFF00, 0x0, 0x0, 0x0, 0x0⟩, -- SHT_RSH_BASE_LO
  ⟨0x07018, 1, 1, 0, 0xFFFFF, 0x0, 0x0, 0x0, 0x0⟩, -- SHT_RSH_BASE_HI
  ⟨0x0701C, 1, 1, 0, 0xFFFFFFFF, 0x0, 0x0, 0x0, 0x0⟩, -- SHT_RSH_SIZE
  ⟨0x07020, 1, 1, 0, 0xFF07, 0x0, 0x80000000, 0x0, 0x0⟩, -- SHT_RSH_OP
  ⟨0x07024, 1, 1, 0, 0x0, 0x0, 0x0, 0x0, 0x0⟩, -- SHT_RSH_DONE
  ⟨0x07800, 256, 256, 8, 0x0, 0x0, 0x0, 0x0, 0x0⟩, -- SHT_ENT_BASE
  ⟨0x07804, 256, 256, 8, 0x0, 0x0, 0x0, 0x0, 0x0⟩] -- SHT_ENT_CTL
/-- The registers of block PFT. -/
def rowsPft : List RegRow := [
  ⟨0x08000, 1, 1, 0, 0x8000007F, 0x0, 0x0, 0x0, 0x0⟩, -- PFT_CTL
  ⟨0x08004, 1, 1, 0, 0xFFFFFFFF, 0x0, 0x0, 0x0, 0x0⟩, -- PFT_DEGREE
  ⟨0x08008, 1, 1, 0, 0x0, 0x0, 0x0, 0x0, 0x0⟩, -- PFT_DEG_MAX
  ⟨0x08010, 1, 1, 0, 0x0, 0x0, 0x0, 0xFFFFFFFF, 0x0⟩, -- PFT_ISSUED
  ⟨0x08014, 1, 1, 0, 0x0, 0x0, 0x0, 0xFFFFFFFF, 0x0⟩, -- PFT_USEFUL
  ⟨0x08018, 1, 1, 0, 0x0, 0x0, 0x0, 0xFFFFFFFF, 0x0⟩] -- PFT_DROPPED
/-- The registers of block CAT. -/
def rowsCat : List RegRow := [
  ⟨0x09000, 1, 1, 0, 0xA0F0FFFF, 0x0, 0x40000000, 0x0, 0x0⟩, -- CAT_CTL
  ⟨0x09004, 1, 1, 0, 0x0, 0x0, 0x0, 0x1FF, 0x0⟩, -- CAT_STATUS
  ⟨0x09010, 4, 4, 4, 0x0, 0x80000000, 0x0, 0x0, 0x0⟩, -- CAT_LOST
  ⟨0x09020, 1, 1, 0, 0x0, 0xFFFFFFFF, 0x0, 0x0, 0x0⟩, -- CAT_AGENT_LOST
  ⟨0x09030, 1, 1, 0, 0x0, 0x0, 0x0, 0xFFFFFFFF, 0x0⟩, -- CAT_NACKS
  ⟨0x09034, 1, 1, 0, 0x0, 0x0, 0x0, 0xFFFFFFFF, 0x0⟩, -- CAT_BINV
  ⟨0x09038, 1, 1, 0, 0x0, 0x0, 0x0, 0xFFFFFFFF, 0x0⟩, -- CAT_ATOM_HOME
  ⟨0x0903C, 1, 1, 0, 0x0, 0x0, 0x0, 0xFFFFFFFF, 0x0⟩, -- CAT_ATOM_DELEG
  ⟨0x09040, 1, 1, 0, 0x0, 0x0, 0x0, 0xFFFFFFFF, 0x0⟩, -- CAT_STARVE
  ⟨0x09100, 32, 32, 4, 0xFFFFFFFF, 0x0, 0x0, 0x0, 0x0⟩] -- CAT_MCG
/-- The registers of block ORD. -/
def rowsOrd : List RegRow := [
  ⟨0x0A000, 1, 1, 0, 0xC000000F, 0x0, 0x0, 0x0, 0x0⟩, -- ORD_CTL
  ⟨0x0A004, 1, 1, 0, 0x0, 0x0, 0x0, 0xFFFFFFFF, 0x0⟩, -- ORD_MISMATCH
  ⟨0x0A008, 1, 1, 0, 0x0, 0x0, 0x0, 0x0, 0x0⟩, -- ORD_MIS_LINE_LO
  ⟨0x0A00C, 1, 1, 0, 0x0, 0x0, 0x0, 0x0, 0x0⟩, -- ORD_MIS_LINE_HI
  ⟨0x0A010, 1, 1, 0, 0x0, 0x80000000, 0x0, 0x0, 0x0⟩, -- ORD_MIS_INFO
  ⟨0x0A020, 1, 1, 0, 0x0, 0x0, 0x0, 0x0, 0x0⟩, -- ORD_WIN_STATUS
  ⟨0x0A024, 1, 1, 0, 0xF, 0x0, 0x80000000, 0x0, 0x0⟩, -- ORD_WIN_INV
  ⟨0x0A028, 1, 1, 0, 0x0, 0x0, 0x0, 0xFFFFFFFF, 0x0⟩, -- ORD_WIN_WALKS
  ⟨0x0A02C, 1, 1, 0, 0x0, 0x0, 0x0, 0xFFFFFFFF, 0x0⟩, -- ORD_WIN_DROPS
  ⟨0x0A030, 1, 1, 0, 0x0, 0x0, 0x0, 0xFFFFFFFF, 0x0⟩, -- ORD_WIN_DIRTY
  ⟨0x0A100, 16, 16, 32, 0x0, 0x0, 0x0, 0x0, 0x0⟩, -- ORD_WIN_BASE_LO
  ⟨0x0A104, 16, 16, 32, 0x0, 0x0, 0x0, 0x0, 0x0⟩, -- ORD_WIN_BASE_HI
  ⟨0x0A108, 16, 16, 32, 0x0, 0x0, 0x0, 0x0, 0x0⟩, -- ORD_WIN_CTL
  ⟨0x0A110, 16, 16, 32, 0x0, 0x0, 0x0, 0x0, 0x0⟩, -- ORD_WIN_HOMES_LO
  ⟨0x0A114, 16, 16, 32, 0x0, 0x0, 0x0, 0x0, 0x0⟩] -- ORD_WIN_HOMES_HI
/-- The registers of block LDG. -/
def rowsLdg0 : List RegRow := [
  ⟨0x0C000, 1, 1, 0, 0x80000000, 0x0, 0x0, 0x0, 0x0⟩, -- LDG_CTL
  ⟨0x0C004, 1, 1, 0, 0x0, 0x0, 0x0, 0x0, 0x0⟩, -- LDG_STATUS
  ⟨0x0C010, 1, 1, 0, 0x1F0FFF, 0x0, 0x0, 0x0, 0x0⟩, -- LDG_ROW_SEL
  ⟨0x0C014, 1, 1, 0, 0x0, 0x0, 0x0, 0x0, 0x0⟩, -- LDG_ROW_STATE
  ⟨0x0C018, 1, 1, 0, 0x0, 0x0, 0x0, 0x0, 0x0⟩, -- LDG_ROW_CUR
  ⟨0x0C01C, 1, 1, 0, 0x0, 0x0, 0x0, 0x0, 0x0⟩, -- LDG_ROW_SEED_LO
  ⟨0x0C020, 1, 1, 0, 0x0, 0x0, 0x0, 0x0, 0x0⟩, -- LDG_ROW_SEED_HI
  ⟨0x0C030, 1, 1, 0, 0xFFFFFF80, 0x0, 0x0, 0x0, 0x0⟩, -- LDG_DRN_PA_LO
  ⟨0x0C034, 1, 1, 0, 0xFFFFF, 0x0, 0x0, 0x0, 0x0⟩, -- LDG_DRN_PA_HI
  ⟨0x0C038, 1, 1, 0, 0xFFFFFFFF, 0x0, 0x0, 0x0, 0x0⟩, -- LDG_DRN_EPOCH
  ⟨0x0C03C, 1, 1, 0, 0x3B, 0x0, 0x80000000, 0x0, 0x0⟩, -- LDG_ROW_DRAIN
  ⟨0x0C040, 10, 10, 4, 0x0, 0x0, 0x0, 0x0, 0x0⟩, -- LDG_CELL_W
  ⟨0x0C070, 1, 1, 0, 0x0, 0x0, 0x0, 0x0, 0x0⟩, -- LDG_SEED_HEAD
  ⟨0x0C080, 1, 1, 0, 0x0, 0x0, 0x0, 0xFFFFFFFF, 0x0⟩, -- LDG_OPS
  ⟨0x0C084, 1, 1, 0, 0x0, 0x0, 0x0, 0xFFFFFFFF, 0x0⟩, -- LDG_DRAINS
  ⟨0x0C088, 1, 1, 0, 0x0, 0x0, 0x0, 0xFFFFFFFF, 0x0⟩] -- LDG_LATE
/-- The registers of block LDG. -/
def rowsLdg1 : List RegRow := [
  ⟨0x0C08C, 1, 1, 0, 0x0, 0x0, 0x0, 0xFFFFFFFF, 0x0⟩, -- LDG_NACKS
  ⟨0x0C090, 1, 1, 0, 0x0, 0x0, 0x0, 0xFFFFFFFF, 0x0⟩, -- LDG_OVERFLOWS
  ⟨0x0C094, 1, 1, 0, 0x0, 0x0, 0x0, 0xFFFFFFFF, 0x0⟩, -- LDG_ECC_CE
  ⟨0x0C098, 1, 1, 0, 0x0, 0x0, 0x0, 0xFFFFFFFF, 0x0⟩, -- LDG_ECC_UE
  ⟨0x0C100, 32, 32, 16, 0xFFFFF800, 0x0, 0x0, 0x0, 0x0⟩, -- LDG_BIND_BASE_LO
  ⟨0x0C104, 32, 32, 16, 0xFFFFF, 0x0, 0x0, 0x0, 0x0⟩, -- LDG_BIND_BASE_HI
  ⟨0x0C108, 32, 32, 16, 0xFFFFFF, 0x0, 0x0, 0x0, 0x0⟩, -- LDG_BIND_SIZE
  ⟨0x0C10C, 32, 32, 16, 0xE7F00FFF, 0x0, 0x0, 0x0, 0x0⟩, -- LDG_BIND_CTL
  ⟨0x10000, 256, 256, 16, 0xFF000000, 0x0, 0x0, 0x0, 0xFF00FFFF⟩, -- LDG_SCALE_CTL
  ⟨0x10004, 256, 256, 16, 0xFFFFFFFF, 0x0, 0x0, 0x0, 0xFFFFFFFF⟩, -- LDG_SCALE_MUL
  ⟨0x11000, 2048, 2048, 8, 0x0, 0x0, 0x0, 0x0, 0xFFFFFFFF⟩, -- LDG_SHIST_MUL
  ⟨0x11004, 2048, 2048, 8, 0x0, 0x0, 0x0, 0x0, 0xFF00FFFF⟩, -- LDG_SHIST_INFO
  ⟨0x18000, 1024, 1024, 32, 0x0, 0x0, 0x0, 0x0, 0x0⟩, -- LDG_SLOG_TS_LO
  ⟨0x18004, 1024, 1024, 32, 0x0, 0x0, 0x0, 0x0, 0x0⟩, -- LDG_SLOG_TS_HI
  ⟨0x18008, 1024, 1024, 32, 0x0, 0x0, 0x0, 0x0, 0x0⟩, -- LDG_SLOG_LINE_LO
  ⟨0x1800C, 1024, 1024, 32, 0x0, 0x0, 0x0, 0x0, 0x0⟩] -- LDG_SLOG_LINE_HI
/-- The registers of block LDG. -/
def rowsLdg2 : List RegRow := [
  ⟨0x18010, 1024, 1024, 32, 0x0, 0x0, 0x0, 0x0, 0x0⟩, -- LDG_SLOG_EPOCH
  ⟨0x18014, 1024, 1024, 32, 0x0, 0x0, 0x0, 0x0, 0x0⟩, -- LDG_SLOG_SEED_LO
  ⟨0x18018, 1024, 1024, 32, 0x0, 0x0, 0x0, 0x0, 0x0⟩, -- LDG_SLOG_SEED_HI
  ⟨0x1801C, 1024, 1024, 32, 0x0, 0x0, 0x0, 0x0, 0x0⟩] -- LDG_SLOG_INFO
/-- The registers of block POR. -/
def rowsPor : List RegRow := [
  ⟨0x20000, 1, 1, 0, 0x80000000, 0x0, 0x0, 0x0, 0x0⟩, -- POR_CTL
  ⟨0x20004, 1, 1, 0, 0x0, 0x0, 0x0, 0x0, 0x0⟩, -- POR_STATUS
  ⟨0x20100, 16, 16, 64, 0x87FF0000, 0x10000000, 0x8000000, 0x0, 0x0⟩, -- POR_CH_CTL
  ⟨0x20104, 16, 16, 64, 0xFFFFFFC0, 0x0, 0x0, 0x0, 0x0⟩, -- POR_CH_RING_LO
  ⟨0x20108, 16, 16, 64, 0xFFFFF, 0x0, 0x0, 0x0, 0x0⟩, -- POR_CH_RING_HI
  ⟨0x2010C, 16, 16, 64, 0xF0000FFF, 0x0, 0x0, 0x0, 0x0⟩, -- POR_CH_RING_CFG
  ⟨0x20110, 16, 16, 64, 0xFFFFFFFF, 0x0, 0x0, 0x0, 0x0⟩, -- POR_CH_SRC_LO
  ⟨0x20114, 16, 16, 64, 0xFFFFF, 0x0, 0x0, 0x0, 0x0⟩, -- POR_CH_SRC_HI
  ⟨0x20118, 16, 16, 64, 0xFFFFFFFF, 0x0, 0x0, 0x0, 0x0⟩, -- POR_CH_DST_LO
  ⟨0x2011C, 16, 16, 64, 0xFFFFF, 0x0, 0x0, 0x0, 0x0⟩, -- POR_CH_DST_HI
  ⟨0x20120, 16, 16, 64, 0xFFFFFFFF, 0x0, 0x0, 0x0, 0x0⟩, -- POR_CH_COUNT
  ⟨0x20124, 16, 16, 64, 0x0, 0x0, 0x0, 0x0, 0x0⟩, -- POR_CH_CRC
  ⟨0x20128, 16, 16, 64, 0x0, 0x0, 0x0, 0x0, 0x0⟩, -- POR_CH_LAST
  ⟨0x2012C, 16, 16, 64, 0xFFFF, 0x0, 0x0, 0x0, 0x0⟩, -- POR_CH_POLL
  ⟨0x20130, 16, 16, 64, 0x0, 0x0, 0x0, 0x0, 0x0⟩, -- POR_CH_DONE
  ⟨0x20134, 16, 16, 64, 0x0, 0x0, 0x0, 0x0, 0x0⟩] -- POR_CH_PACE
/-- The registers of block TCL. -/
def rowsTcl : List RegRow := [
  ⟨0x24000, 1, 1, 0, 0x0, 0x0, 0x80000000, 0x0, 0x0⟩, -- TCL_CTL
  ⟨0x24010, 8, 8, 16, 0xFFFFFFFF, 0x0, 0x0, 0x0, 0x0⟩, -- TCL_RATE
  ⟨0x24014, 8, 8, 16, 0xF, 0x0, 0x0, 0x0, 0x0⟩, -- TCL_CRED
  ⟨0x24018, 8, 8, 16, 0x0, 0x0, 0x0, 0x0, 0x0⟩, -- TCL_BUCKET
  ⟨0x2401C, 8, 8, 16, 0x0, 0x0, 0x0, 0xFFFFFFFF, 0x0⟩, -- TCL_HELD
  ⟨0x24090, 1, 1, 0, 0xFFFF, 0x0, 0x0, 0x0, 0x0⟩] -- TCL_FAR0
/-- The registers of block ADM. -/
def rowsAdm : List RegRow := [
  ⟨0x24100, 1, 1, 0, 0x0, 0x0, 0x0, 0x0, 0x0⟩, -- ADM_STATUS
  ⟨0x24104, 1, 1, 0, 0x0, 0x0, 0x0, 0x0, 0x0⟩, -- ADM_NEED
  ⟨0x24108, 1, 1, 0, 0x0, 0x0, 0x0, 0x0, 0x0⟩, -- ADM_CAP
  ⟨0x2410C, 1, 1, 0, 0x0, 0x0, 0x0, 0xFFFFFFFF, 0x0⟩, -- ADM_REFUSALS
  ⟨0x24110, 1, 1, 0, 0x0, 0x0, 0x0, 0xFFFFFFFF, 0x0⟩] -- ADM_RUNS
/-- The registers of block WIN. -/
def rowsWin : List RegRow := [
  ⟨0x25000, 1, 1, 0, 0x0, 0x0, 0x80000000, 0x0, 0x0⟩, -- WIN_CTL
  ⟨0x25004, 1, 1, 0, 0x0, 0x0, 0x0, 0xFFFF0000, 0x0⟩, -- WIN_FRAME
  ⟨0x25008, 1, 1, 0, 0x0, 0x80000000, 0x0, 0x0, 0x0⟩, -- WIN_LATE_INFO
  ⟨0x25100, 16, 16, 16, 0xFF1F003F, 0x0, 0x0, 0x0, 0x0⟩, -- WIN_ENT_CTL
  ⟨0x25104, 16, 16, 16, 0x0, 0x0, 0x0, 0xFFFFFFFF, 0x0⟩, -- WIN_ENT_SERVED
  ⟨0x25108, 16, 16, 16, 0x0, 0x0, 0x0, 0xFFFFFFFF, 0x0⟩, -- WIN_ENT_LATE
  ⟨0x25800, 512, 256, 4, 0x8F0F8F0F, 0x0, 0x0, 0x0, 0x0⟩] -- WIN_PLAN
/-- The registers of block MIR. -/
def rowsMir0 : List RegRow := [
  ⟨0x26000, 1, 1, 0, 0x2000000F, 0x0, 0xC0000000, 0x0, 0x0⟩, -- MIR_CTL
  ⟨0x26004, 1, 1, 0, 0x0, 0x0, 0x0, 0x0, 0x0⟩, -- MIR_STATUS
  ⟨0x26008, 1, 1, 0, 0x0, 0x0, 0x0, 0x0, 0x0⟩, -- MIR_PARTNER
  ⟨0x2600C, 1, 1, 0, 0x0, 0x0, 0x0, 0x0, 0x0⟩, -- MIR_PEER_MAP
  ⟨0x26010, 1, 1, 0, 0xFFFF, 0x0, 0x0, 0x0, 0x0⟩, -- MIR_RATE
  ⟨0x26014, 1, 1, 0, 0x0, 0x10000000, 0xC0000000, 0x0, 0x0⟩, -- MIR_SEAM
  ⟨0x26018, 1, 1, 0, 0x60000000, 0x0, 0x80000000, 0x0, 0x0⟩, -- MIR_RESTRIPE
  ⟨0x2601C, 1, 1, 0, 0x0, 0x0, 0x0, 0x0, 0x0⟩, -- MIR_LAST_TS_LO
  ⟨0x26020, 1, 1, 0, 0x0, 0x0, 0x0, 0x0, 0x0⟩, -- MIR_LAST_TS_HI
  ⟨0x26030, 1, 1, 0, 0x0, 0x0, 0x0, 0xFFFFFFFF, 0x0⟩, -- MIR_TX
  ⟨0x26034, 1, 1, 0, 0x0, 0x0, 0x0, 0xFFFFFFFF, 0x0⟩, -- MIR_RX
  ⟨0x26038, 1, 1, 0, 0x0, 0x0, 0x0, 0xFFFFFFFF, 0x0⟩, -- MIR_NACKS
  ⟨0x2603C, 1, 1, 0, 0x0, 0x0, 0x0, 0x0, 0x0⟩, -- MIR_UNMIR
  ⟨0x26040, 1, 1, 0, 0x0, 0x0, 0x0, 0xFFFFFFFF, 0x0⟩, -- MIR_TAKEOVERS
  ⟨0x26080, 1, 1, 0, 0x0, 0x0, 0x80000000, 0x0, 0x0⟩, -- MIR_LOSS_CTL
  ⟨0x26100, 32, 32, 4, 0xC000001F, 0x0, 0x0, 0x0, 0x0⟩] -- MIR_LDG
/-- The registers of block MIR. -/
def rowsMir1 : List RegRow := [
  ⟨0x26800, 128, 128, 16, 0x0, 0x0, 0x0, 0x0, 0x0⟩, -- MIR_LOSS_LO
  ⟨0x26804, 128, 128, 16, 0x0, 0x0, 0x0, 0x0, 0x0⟩, -- MIR_LOSS_HI
  ⟨0x26808, 128, 128, 16, 0x0, 0x0, 0x0, 0x0, 0x0⟩, -- MIR_LOSS_TS
  ⟨0x2680C, 128, 128, 16, 0x0, 0x0, 0x0, 0x0, 0x0⟩] -- MIR_LOSS_INFO
/-- The registers of block CHN. -/
def rowsChn : List RegRow := [
  ⟨0x27000, 1, 1, 0, 0xFFFFFFFF, 0x0, 0x0, 0x0, 0x0⟩, -- CHN_CTL
  ⟨0x27004, 1, 1, 0, 0x0, 0x0, 0x0, 0x0, 0x0⟩, -- CHN_STATUS
  ⟨0x27008, 1, 1, 0, 0x0, 0x0, 0x0, 0x0, 0x0⟩, -- CHN_ROW_TOK
  ⟨0x27010, 1, 1, 0, 0x0, 0x0, 0x0, 0xFFFFFFFF, 0x0⟩, -- CHN_TOK_TX
  ⟨0x27014, 1, 1, 0, 0x0, 0x0, 0x0, 0xFFFFFFFF, 0x0⟩, -- CHN_TOK_RX
  ⟨0x27018, 1, 1, 0, 0x0, 0x0, 0x0, 0xFFFFFFFF, 0x0⟩, -- CHN_RETX
  ⟨0x2701C, 1, 1, 0, 0x0, 0x0, 0x0, 0xFFFFFFFF, 0x0⟩, -- CHN_DUP
  ⟨0x27020, 1, 1, 0, 0x0, 0x0, 0x0, 0xFFFFFFFF, 0x0⟩, -- CHN_CRC_ERR
  ⟨0x27100, 16, 16, 32, 0x8FFF3F7F, 0x0, 0x0, 0x0, 0x0⟩, -- CHN_CTX_CTL
  ⟨0x27104, 16, 16, 32, 0x3FFFFFFF, 0x0, 0x0, 0x0, 0x0⟩, -- CHN_CTX_SLOTS
  ⟨0x27108, 16, 16, 32, 0xFF073F, 0x0, 0x0, 0x0, 0x0⟩, -- CHN_CTX_PRED
  ⟨0x2710C, 16, 16, 32, 0xFF073F, 0x0, 0x0, 0x0, 0x0⟩, -- CHN_CTX_SUCC
  ⟨0x27110, 16, 16, 32, 0x0, 0x0, 0x0, 0x0, 0x0⟩, -- CHN_CTX_SEQ
  ⟨0x27114, 16, 16, 32, 0x0, 0x0, 0x0, 0x0, 0x0⟩] -- CHN_CTX_ACKED
/-- The registers of block LNK. -/
def rowsLnk : List RegRow := [
  ⟨0x28000, 1, 1, 0, 0x0, 0x0, 0x0, 0x0, 0x0⟩, -- LNK_STATUS
  ⟨0x28010, 2, 2, 4, 0x0, 0x0, 0x0, 0x0, 0x0⟩, -- LNK_UCIE
  ⟨0x28100, 8, 8, 32, 0xFFC0FF00, 0x0, 0x0, 0x0, 0x0⟩, -- LNK_INJ_CTL
  ⟨0x28104, 8, 8, 32, 0xFFFFFFFF, 0x0, 0x0, 0x0, 0x0⟩, -- LNK_INJ_COUNT
  ⟨0x28108, 8, 8, 32, 0xFFFF, 0x0, 0x0, 0x0, 0x0⟩, -- LNK_INJ_RATE
  ⟨0x2810C, 8, 8, 32, 0xFFFFFFFF, 0x0, 0x0, 0x0, 0x0⟩, -- LNK_INJ_SEED
  ⟨0x28110, 8, 8, 32, 0x7FF07FF, 0x0, 0x0, 0x0, 0x0⟩, -- LNK_INJ_POS
  ⟨0x28114, 8, 8, 32, 0x0, 0x0, 0x0, 0xFFFFFFFF, 0x0⟩, -- LNK_INJ_DONE
  ⟨0x28118, 8, 8, 32, 0x0, 0x0, 0x0, 0xFFFFFFFF, 0x0⟩] -- LNK_INJ_MISS
/-- The registers of block ERR. -/
def rowsErr : List RegRow := [
  ⟨0x29000, 1, 1, 0, 0x0, 0xFFFF, 0x0, 0x0, 0x0⟩, -- ERR_STATUS
  ⟨0x29004, 1, 1, 0, 0xFFFF, 0x0, 0x0, 0x0, 0x0⟩, -- ERR_IRQ_EN
  ⟨0x29008, 1, 1, 0, 0xFFFF, 0x0, 0x0, 0x0, 0x0⟩, -- ERR_LOG_EN
  ⟨0x2900C, 1, 1, 0, 0x0, 0x0, 0x0, 0x0, 0x0⟩, -- ERR_LOG_SEQ
  ⟨0x29010, 1, 1, 0, 0xFFFFFFFF, 0x0, 0x0, 0x0, 0x0⟩, -- ERR_LOG_TAIL
  ⟨0x29014, 1, 1, 0, 0x0, 0x0, 0x0, 0xFFFFFFFF, 0x0⟩, -- ERR_LOG_LOST
  ⟨0x29018, 1, 1, 0, 0x0, 0x0, 0x0, 0xFFFFFFFF, 0x0⟩, -- ERR_LOG_DROP
  ⟨0x2901C, 1, 1, 0, 0x1FF, 0x0, 0x0, 0x0, 0x0⟩, -- ERR_LOG_SEL
  ⟨0x29020, 1, 1, 0, 0x0, 0x0, 0x0, 0x0, 0x0⟩, -- ERR_ENT_TS_LO
  ⟨0x29024, 1, 1, 0, 0x0, 0x0, 0x0, 0x0, 0x0⟩, -- ERR_ENT_TS_HI
  ⟨0x29028, 1, 1, 0, 0x0, 0x0, 0x0, 0x0, 0x0⟩, -- ERR_ENT_LOC_LO
  ⟨0x2902C, 1, 1, 0, 0x0, 0x0, 0x0, 0x0, 0x0⟩, -- ERR_ENT_LOC_HI
  ⟨0x29030, 1, 1, 0, 0x0, 0x0, 0x0, 0x0, 0x0⟩, -- ERR_ENT_DETAIL
  ⟨0x29034, 1, 1, 0, 0x0, 0x0, 0x0, 0x0, 0x0⟩, -- ERR_ENT_INFO
  ⟨0x29038, 1, 1, 0, 0x0, 0x0, 0x0, 0x0, 0x0⟩, -- ERR_ENT_SEQ
  ⟨0x29100, 16, 16, 4, 0x0, 0x0, 0x0, 0xFFFFFFFF, 0x0⟩] -- ERR_CNT
/-- The registers of block PMU. -/
def rowsPmu : List RegRow := [
  ⟨0x2A000, 1, 1, 0, 0x600000FF, 0x0, 0x90000000, 0x0, 0x0⟩, -- PMU_GCTL
  ⟨0x2A004, 1, 1, 0, 0x0, 0xFF, 0x0, 0x0, 0x0⟩, -- PMU_OVF
  ⟨0x2A008, 1, 1, 0, 0xFF, 0x0, 0x0, 0x0, 0x0⟩, -- PMU_IRQ_EN
  ⟨0x2A00C, 1, 1, 0, 0x0, 0x0, 0x0, 0x0, 0x0⟩, -- PMU_STATUS
  ⟨0x2A010, 1, 1, 0, 0x0, 0x0, 0x0, 0x0, 0x0⟩, -- PMU_CYC_LO
  ⟨0x2A014, 1, 1, 0, 0x0, 0x0, 0x0, 0x0, 0x0⟩, -- PMU_CYC_HI
  ⟨0x2A018, 1, 1, 0, 0x0, 0x0, 0x0, 0x0, 0x0⟩, -- PMU_SCYC_LO
  ⟨0x2A01C, 1, 1, 0, 0x0, 0x0, 0x0, 0x0, 0x0⟩, -- PMU_SCYC_HI
  ⟨0x2A100, 8, 8, 32, 0xFF0FFF, 0x0, 0x0, 0x0, 0x0⟩, -- PMU_EVSEL
  ⟨0x2A104, 8, 8, 32, 0xFFFF, 0x0, 0x0, 0x0, 0x0⟩, -- PMU_THR
  ⟨0x2A108, 8, 8, 32, 0xFFFFFFFF, 0x0, 0x0, 0x0, 0x0⟩, -- PMU_CNT_LO
  ⟨0x2A10C, 8, 8, 32, 0xFFFF, 0x0, 0x0, 0x0, 0x0⟩, -- PMU_CNT_HI
  ⟨0x2A110, 8, 8, 32, 0x0, 0x0, 0x0, 0x0, 0x0⟩, -- PMU_SNAP_LO
  ⟨0x2A114, 8, 8, 32, 0x0, 0x0, 0x0, 0x0, 0x0⟩] -- PMU_SNAP_HI
/-- The registers of block CUR. -/
def rowsCur : List RegRow := [
  ⟨0x30000, 512, 512, 4, 0xFFFFFFFF, 0x0, 0x0, 0x0, 0x0⟩, -- CUR_MBX_H2C
  ⟨0x30800, 508, 508, 4, 0x0, 0x0, 0x0, 0x0, 0x0⟩, -- CUR_MBX_C2H
  ⟨0x30FF0, 1, 1, 0, 0x3FF, 0x40000000, 0x80000000, 0x0, 0x0⟩, -- CUR_MBX_DB
  ⟨0x31000, 1, 1, 0, 0x60000000, 0x0, 0x80000000, 0x0, 0x0⟩, -- CUR_IMG_CTL
  ⟨0x31004, 1, 1, 0, 0x0, 0x0, 0x0, 0x0, 0x0⟩, -- CUR_IMG_STATUS
  ⟨0x31008, 1, 1, 0, 0xFFFC, 0x0, 0x0, 0x0, 0x0⟩, -- CUR_IMG_ADDR
  ⟨0x3100C, 1, 1, 0, 0xFFFFFFFF, 0x0, 0x0, 0x0, 0x0⟩, -- CUR_IMG_DATA
  ⟨0x31010, 1, 1, 0, 0x0, 0x0, 0x0, 0x0, 0x0⟩, -- CUR_IMG_ACTIVE
  ⟨0x31014, 1, 1, 0, 0x0, 0x0, 0x0, 0x0, 0x0⟩, -- CUR_IMG_CRC
  ⟨0x31018, 1, 1, 0, 0x0, 0x0, 0x0, 0x0, 0x0⟩, -- CUR_IMG_FORMAT
  ⟨0x32000, 1, 1, 0, 0x0, 0x0, 0xC0000000, 0x0, 0x0⟩, -- CUR_FW_CTL
  ⟨0x32004, 1, 1, 0, 0x0, 0x0, 0x0, 0x0, 0x0⟩, -- CUR_FW_STATUS
  ⟨0x32008, 1, 1, 0, 0x8003FFFF, 0x0, 0x0, 0x0, 0x0⟩, -- CUR_FW_ATTEST
  ⟨0x3200C, 1, 1, 0, 0x0, 0x0, 0x0, 0x0, 0x0⟩, -- CUR_FW_CRC
  ⟨0x32010, 1, 1, 0, 0xFF00FF, 0x0, 0x80000000, 0x0, 0x0⟩, -- CUR_WDT_CTL
  ⟨0x32014, 1, 1, 0, 0x0, 0x40000000, 0x0, 0x0, 0x0⟩] -- CUR_WDT_STATUS
/-- Every register of the window below the Curator SRAM (R425, spec/17_register_index.md). -/
def regRows : List RegRow :=
  rowsSlc ++ rowsDbk ++ rowsPwr ++ rowsStk ++ rowsAlt ++ rowsSht ++ rowsPft ++ rowsCat ++ rowsOrd ++ rowsLdg0 ++ rowsLdg1 ++ rowsLdg2 ++ rowsPor ++ rowsTcl ++ rowsAdm ++ rowsWin ++ rowsMir0 ++ rowsMir1 ++ rowsChn ++ rowsLnk ++ rowsErr ++ rowsPmu ++ rowsCur

/-- Whether the row covers the offset in the build (`s64` true for S64). -/
def RegRow.covers (s64 : Bool) (r : RegRow) (off : Nat) : Bool :=
  let n := if s64 then r.n64 else r.count
  if n = 1 then off = r.base
  else r.base ≤ off && off < r.base + n * r.stride && (off - r.base) % r.stride = 0

/-- Links 2 and 3 do not exist in S64, and their injector registers are RSV (R369). -/
def s64Reserved (off : Nat) : Bool := 0x28140 ≤ off && off < 0x28180

/-- The row of a listed offset, none for a reserved offset (R425). -/
def regRow (s64 : Bool) (off : Nat) : Option RegRow :=
  if s64 && s64Reserved off then none else regRows.find? (·.covers s64 off)

/-- The registers whose Reset value is not 0: base, count, distance, value in S128, value in S64. -/
def resetRows : List (Nat × Nat × Nat × Nat × Nat) := [
  (0x00004, 1, 0, 0x11000000, 0x11800000), -- SLC_CAP
  (0x00008, 1, 0, 0x00000001, 0x00000001), -- SLC_FEAT
  (0x00018, 1, 0, 0x03E800C8, 0x03E800C8), -- SLC_START_TMO
  (0x02008, 1, 0, 0xFFFFFFFF, 0xFFFFFFFF), -- PWR_CAP
  (0x04000, 1, 0, 0x00201010, 0x00100808), -- STK_CFG
  (0x04010, 1, 0, 0x00000001, 0x00000001), -- STK_REF_TIER
  (0x04020, 1, 0, 0x800186A0, 0x800186A0), -- STK_SCRUB_CTL
  (0x04048, 1, 0, 0x00000004, 0x00000004), -- STK_ECC_LIMIT
  (0x07010, 1, 0, 0x80000004, 0x80000004), -- SHT_RSH_CTL
  (0x08000, 1, 0, 0x80000020, 0x80000020), -- PFT_CTL
  (0x08004, 1, 0, 0x22222222, 0x22222222), -- PFT_DEGREE
  (0x08008, 1, 0, 0x88888888, 0x88888888), -- PFT_DEG_MAX
  (0x09000, 1, 0, 0xA0600032, 0xA0600032), -- CAT_CTL
  (0x0A000, 1, 0, 0x40000001, 0x40000001), -- ORD_CTL
  (0x0C000, 1, 0, 0x80000000, 0x80000000), -- LDG_CTL
  (0x0C03C, 1, 0, 0x00000003, 0x00000003), -- LDG_ROW_DRAIN
  (0x10004, 256, 16, 0x3F800000, 0x3F800000), -- LDG_SCALE_MUL
  (0x20000, 1, 0, 0x80000000, 0x80000000), -- POR_CTL
  (0x20100, 16, 64, 0x02040000, 0x02040000), -- POR_CH_CTL
  (0x20124, 16, 64, 0xFFFFFFFF, 0xFFFFFFFF), -- POR_CH_CRC
  (0x2012C, 16, 64, 0x000003E8, 0x000003E8), -- POR_CH_POLL
  (0x24014, 8, 16, 0x00000002, 0x00000001), -- TCL_CRED
  (0x26000, 1, 0, 0x20000008, 0x20000008), -- MIR_CTL
  (0x27000, 1, 0, 0x08142710, 0x08142710), -- CHN_CTL
  (0x27114, 16, 32, 0xFFFF0000, 0xFFFF0000), -- CHN_CTX_ACKED
  (0x28104, 8, 32, 0x00000001, 0x00000001), -- LNK_INJ_COUNT
  (0x2810C, 8, 32, 0x00000001, 0x00000001), -- LNK_INJ_SEED
  (0x29004, 1, 0, 0x00001FFE, 0x00001FFE), -- ERR_IRQ_EN
  (0x29008, 1, 0, 0x00000FFE, 0x00000FFE), -- ERR_LOG_EN
  (0x31018, 1, 0, 0x00000100, 0x00000100), -- CUR_IMG_FORMAT
  (0x32010, 1, 0, 0x0003000A, 0x0003000A)] -- CUR_WDT_CTL

/-- The Reset value of the register at an offset (R12): 0 where no row lists another value. -/
def resetWord (s64 : Bool) (off : Nat) : Word :=
  match resetRows.find? (fun r => r.1 ≤ off && off < r.1 + max 1 (r.2.1 * r.2.2.1)
      && (off - r.1) % max 1 r.2.2.1 = 0) with
  | some r => BitVec.ofNat 32 (if s64 then r.2.2.2.2 else r.2.2.2.1)
  | none => 0

end Sys2Proof.Machine
end

