-- ==== Sys2Proof/Machine/Tab.lean ====
section
/-! DEFINITION. The operations of a sparse table (Sys2Proof.Tab): look up, set, delete, and reading and writing with a
default value, so that a table lists no entry equal to what an unlisted key reads as. -/

namespace Sys2Proof.Machine

variable {α : Type}

/-- The value listed at a key. -/
def tfind : Tab α → Nat → Option α
  | [], _ => none
  | (j, v) :: r, k => if j = k then some v else tfind r k

/-- List a value at a key, in its sorted place. -/
def tset : Tab α → Nat → α → Tab α
  | [], k, v => [(k, v)]
  | (j, w) :: r, k, v =>
    if k < j then (k, v) :: (j, w) :: r
    else if j = k then (k, v) :: r
    else (j, w) :: tset r k v

/-- Delete a key. -/
def tdel : Tab α → Nat → Tab α
  | [], _ => []
  | (j, w) :: r, k => if j = k then tdel r k else (j, w) :: tdel r k

/-- The value at a key; an unlisted key reads as `d`. -/
def tget (d : α) (t : Tab α) (k : Nat) : α := (tfind t k).getD d

/-- Write a key; writing the value an unlisted key reads as removes the entry. -/
def tput [DecidableEq α] (d : α) (t : Tab α) (k : Nat) (v : α) : Tab α :=
  if v = d then tdel t k else tset t k v

/-- The keys rise strictly from above `lo` on. -/
def tsortedFrom : Nat → Tab α → Bool
  | _, [] => true
  | lo, (j, _) :: r => decide (lo ≤ j) && tsortedFrom (j + 1) r

/-- Strictly rising keys. -/
def tsorted (t : Tab α) : Bool := tsortedFrom 0 t

/-- Keep the entries that satisfy a test of key and value. -/
def tfilter (p : Nat → α → Bool) : Tab α → Tab α
  | [] => []
  | (j, v) :: r => if p j v then (j, v) :: tfilter p r else tfilter p r

/-- Replace every listed value. -/
def tmap (f : Nat → α → α) : Tab α → Tab α
  | [] => []
  | (j, v) :: r => (j, f j v) :: tmap f r

end Sys2Proof.Machine
end

