-- ==== Sys2Proof/Machine/State.lean ====
section
/-! DEFINITION. The state of the slice: the register words, and one structure per unit for the state the spec gives it
beside its registers. Everything is plain data; sparse arrays are tables (Tab) in the canonical form of Machine/Tab.lean.
Where a field is the model's own (a free-value counter, what the running step has sent), its docstring says so. -/

namespace Sys2Proof.Machine

/-- No step of the block stops in a fault: every behaviour the spec describes is a state change or an answer. The one
constructor is raised by nobody; it keeps the type inhabited for the host's interface (safe). -/
inductive Fault where
  /-- Raised by no command (safe). -/
  | none
  deriving DecidableEq, Repr

/-- The refusals. -/
inductive Refusal where
  /-- A command that this model has no meaning for; raised by the arms of Dispatch.lean alone (safe). -/
  | notModelled (mnemonic : String)
  deriving DecidableEq, Repr

/-- The line states of R70. -/
inductive LineSt where
  | inv | clean | dirty | dead
  deriving DecidableEq, Repr

/-- What the SEC-DED code of a stored word shows at its next read: no error, one wrong bit, two wrong bits (R50, R110,
R157). No command sets it; it is state because a soft error in SRAM is. -/
inductive Ecc where
  | ok | single | double
  deriving DecidableEq, Repr

/-- A tag word (R70). `sector` is the granule number g, from which TAG and the set follow (R36). -/
structure TagW where
  sector : BitVec 44
  s0 : LineSt
  s1 : LineSt
  p0 : Bool
  p1 : Bool
  pin : Bool
  pf : Bool
  ecc : Ecc
  deriving DecidableEq, Repr

/-- An unused way: both lines INV. -/
def TagW.empty : TagW := ⟨0, .inv, .inv, false, false, false, false, .ok⟩

/-- The states of a Catalogue entry (R106): free, SHR, EXC. -/
inductive CatSt where
  | free | shr | exc
  deriving DecidableEq, Repr

/-- A Catalogue entry (R106); `line` stands for TAG. -/
structure CatEnt where
  st : CatSt
  busy : Bool
  fv : Bool
  ptr : BitVec 5
  vec : BitVec 32
  line : LineAddr
  ecc : Ecc
  deriving DecidableEq, Repr

/-- A free entry. -/
def CatEnt.empty : CatEnt := ⟨.free, false, false, 0, 0, 0, .ok⟩

/-- Why the slice wrote a line to the far port: what its acknowledgement completes. -/
inductive FarWhy where
  /-- A victim, a corrective or other write-back on which nothing waits. -/
  | victim
  /-- A write-back or marker of the running Reshelver command (R94). -/
  | reshelver
  /-- The write-through of the write `id` at NODE scope, which waits for memory (R139). -/
  | node (id : Nat)
  /-- A write-back of the RETAIN or OFF flush (R313). -/
  | flush
  /-- A write-back of PREPARE (R355). -/
  | prepare
  /-- A write-back of a line whose DIRTY copy the partner has evicted (R338). -/
  | evicted
  /-- A write-back on leaving mirrored halves (R286). -/
  | halves
  /-- A write-back of a retirement walk (R67, R68). -/
  | retire
  deriving DecidableEq, Repr

/-- What is done with a line's data once they are at hand. -/
inductive Act where
  /-- Send the message with the line as its payload, POISON when the line is poisoned (R48). -/
  | send (m : Msg)
  /-- Merge the enabled bytes for the pending write `id` (WR_PART). -/
  | merge (id : Nat) (be : BitVec 128) (d : LineData)
  /-- Replace the whole line (WR_LINE, a write-back from an agent), with its poison marker. -/
  | whole (d : LineData) (psn : Bool)
  /-- Perform an atomic for the pending write `id`, which holds its answer (R131, R139). -/
  | atomic (id : Nat) (a : AtomOp)
  /-- Write the line through to memory for the pending write `id` at NODE scope (R139). -/
  | through (id : Nat)
  /-- Load the line into the atomic unit. -/
  | unit
  /-- Write the line to the far port (R75). -/
  | writeBack (why : FarWhy) (psn : Bool)
  /-- Nothing more (a prefetch or a fill with no reader). -/
  | fill
  deriving DecidableEq, Repr

/-- A read or write of one line in a bank pair lane: two beats of one row (R44, R45). For a read, `data` is what the array
held when the tag lane accepted the request, which the order of the lane preserves (R21, R27). -/
structure BankJob where
  phys  : Nat
  row   : Nat
  beat  : Nat
  set   : Nat
  way   : Nat
  line  : LineAddr
  write : Bool
  win   : Option (BitVec 4)
  data  : LineData
  psn   : Bool
  act   : Act
  got   : Option (Beat × Bool)
  deriving DecidableEq, Repr

/-- A read command outstanding at the far port (R402), with what waits for its line in acceptance order (R30). `fill` is the
set and way that take the line. -/
structure FarRead where
  sub  : Bool
  tag  : BitVec 11
  line : LineAddr
  fill : Option (Nat × Nat)
  pf   : Bool
  acts : List Act
  deriving DecidableEq, Repr

/-- A write command at the far port, or waiting for its credit or place (R401, R402). -/
structure FarWrite where
  sub  : Bool
  tag  : BitVec 11
  line : LineAddr
  psn  : Bool
  data : LineData
  why  : FarWhy
  deriving DecidableEq, Repr

/-- A line held by the atomic unit (R131): its data, or none while they are being fetched, with what waits for them. -/
structure AtomLine where
  line : LineAddr
  data : Option LineData
  acts : List Act
  deriving DecidableEq, Repr

/-- What a BUSY transaction is for: the rows of R117, the victim of R109, the probe of R110, and the walks. -/
inductive TxnMode where
  | fwdS | fwdX | fwdOnce | fwdAtom | recall | upg | homeX | waitWb
  | victim
  | lostProbe
  | rshClean
  | rshInv (writeBack : Bool)
  | window (dirty : Bool)
  | prepare
  | flush
  deriving DecidableEq, Repr

/-- A transaction (R117, R124): the line it holds BUSY, the request it serves, the agents whose invalidation answers are
awaited, the agent whose forward answer is awaited, whether its dirty data or a write-back are awaited, the data recovered
so far, the evictions absorbed (R120), the NACK_RETRY answers given in this BUSY period, the pending write it performs, and
whether a forward was answered FWD_MISS. -/
structure Txn where
  line   : LineAddr
  mode   : TxnMode
  req    : Option Instr
  acks   : BitVec 32
  fwd    : Option (BitVec 5)
  copy   : Bool
  wbFrom : Option (BitVec 5)
  got    : Option (LineData × Bool)
  evicts : BitVec 32
  nacks  : Nat
  wid    : Option Nat
  missed : Bool
  deriving DecidableEq, Repr

/-- A starvation reservation (R125): the line and its requester; `ended` when the BUSY period is over. -/
structure Reservation where
  line  : LineAddr
  who   : Requester
  deriving DecidableEq, Repr

/-- A request that waits at a lane's input and could not be accepted in the cycle, with the cause of R383
(0 FAR, 1 BANK, 2 LEDGER, 3 OTHER). -/
structure Presented where
  lane  : Nat
  cause : Nat
  cmd   : Instr
  deriving DecidableEq, Repr

/-- The link layer of one link (R395): receive and transmit sequences, whether a replay is awaited, the flits kept for
replay, how often the oldest was replayed, link credits per class (R113, R392) and the messages waiting for one. -/
structure Link where
  rxNext  : BitVec 10
  rxNak   : Bool
  txNext  : BitVec 10
  replay  : List (BitVec 10 × Out)
  replays : Nat
  credits : Tab Nat
  queue   : List Msg
  deriving DecidableEq, Repr

/-- A link after reset. -/
def Link.init : Link := ⟨0, false, 0, [], 0, [], []⟩

/-- A message held by an injector in MODE REORDER (R372): in the transmit direction what it sends, in the receive direction
the command that the message is. -/
inductive HeldMsg where
  | sent (o : Out)
  | received (i : Instr)
  deriving DecidableEq, Repr

/-- An injector's working state (R371, R372): eligible messages counted, the feedback register, the message held with
its class. -/
structure Injector where
  count : Nat
  lfsr  : Word
  held  : Option (Nat × HeldMsg)
  deriving DecidableEq, Repr

/-- A fault log entry (R361). -/
structure ErrEnt where
  cls     : Nat
  code    : Nat
  sev     : Nat
  status  : Nat
  srcKind : Nat
  srcId   : Nat
  detail  : Nat
  loc     : Option LineAddr
  ns      : BitVec 48
  wrap    : BitVec 16
  deriving DecidableEq, Repr

/-- Input and output pins that hold their value (R412, R414). -/
structure Pins where
  straps   : Straps
  ns       : BitVec 48
  wrap     : Word
  peerLive : Bool
  selfLive : Bool
  dbgEn    : Bool
  fpReady  : Bool
  takeover : Bool
  share    : BitVec 3
  offReady : Bool
  irqFault : Bool
  irqPmu   : Bool
  ir       : BitVec 8
  deriving DecidableEq, Repr

/-- The front island's links, crossings and request inputs, and its regulation: the credits of the pools in their agents' hands, the last
agent served per casement (R247), the buckets B_l (R246), the active TCL and WIN settings (R250, R256), the responses of on-time window
requests that wait for their departure by window and casement (R254), the window requests that a sync or a commit makes late with
their window and cause (R252, R256), and the tag-lane acceptances of this frame and of the last with the allowance of a power cap
(R328). -/
structure Front where
  links     : Tab Link
  inject    : Tab Injector
  failed    : Bool
  mgWait    : Option Instr
  inbox     : List Instr
  presented : List Presented
  used      : Tab Nat
  f2b       : Tab (List BankJob)
  atBank    : Tab (List BankJob)
  lanes     : Tab Nat
  curLane   : List (Nat × Word)
  poolCred  : Tab Nat
  turn      : Tab Nat
  bucket    : Tab Int
  tclAct    : Tab Word
  winAct    : Tab Word
  winResp   : List (Nat × Nat × Msg)
  marks     : List (Instr × Nat × Nat)
  accN      : Nat
  accLast   : Nat
  allow     : Option Nat
  deriving DecidableEq, Repr

/-- A running walk that removes a logical bank beyond the spare (R67): the bank, the next set, whether it is abrupt (R68), and
whether a set was left with fewer than two cache ways. -/
structure RetWalk where
  lb     : Nat
  next   : Nat
  abrupt : Bool
  few    : Bool
  deriving DecidableEq, Repr

/-- The Stacks: data, tags, ranks, the dirty-way vectors and their parity (R50), the remap table and banks lost beyond the
spare (R46, R67), refresh, scrub and calibration (R55 to R63), and the far port. -/
structure Stacks where
  beats    : Tab Beat
  tags     : Tab TagW
  ranks    : Tab Nat
  dirtyVec : Tab (BitVec 32)
  vecBad   : Tab Bool
  remap    : Tab Nat
  lostLb   : List Nat
  walk     : Option RetWalk
  walkQ    : List (Nat × Bool)
  repl     : Tab Nat
  copyPos  : Nat
  pend     : Tab Nat
  corr     : Tab (List (Nat × Beat))
  scrubRow : Tab Nat
  ueCnt    : Tab Nat
  coolRun  : Nat
  halves   : Bool
  halfBad  : Tab Nat
  farReads : List FarRead
  farWrites : List FarWrite
  farQ     : List FarWrite
  farCred  : Tab Nat
  deriving DecidableEq, Repr

/-- Coherence: the Catalogue, the transactions, reservations, the predictor and the atomic unit. -/
structure Coh where
  cat    : Tab CatEnt
  ranks  : Tab Nat
  txns   : List Txn
  resv   : List Reservation
  pred   : Tab Nat
  atoms  : List AtomLine
  deriving DecidableEq, Repr

/-- The fault log: the intake queue (entries of the running step are its last `fresh` ones, a bookkeeping of the model) and
the ring of 512 entries by index, each with its SEQ. -/
structure Err where
  intake : List ErrEnt
  fresh  : Nat
  ring   : Tab (ErrEnt × Word)
  deriving DecidableEq, Repr

/-- A Reshelver command (R92, R94): OP, base granule, size in granules, INDEX, and the casement request that sent it. -/
structure RshCmd where
  op    : Nat
  base  : BitVec 44
  size  : Nat
  index : Nat
  req   : Option Req
  deriving DecidableEq, Repr

/-- A prefetch tracker (R98): key (requester and label), last address, stride in lines, confidence, furthest issued. -/
structure Tracker where
  porter : Bool
  id     : BitVec 5
  label  : BitVec 3
  last   : LineAddr
  stride : Option Int
  conf   : Nat
  far    : LineAddr
  deriving DecidableEq, Repr

/-- Placement: the Reshelver's queue, its running command with the lookups still due and lines to revisit, and whether a
line it wrote back carried poison; the trackers from the most recently used on; the prefetch reads issued and not yet
accepted; the counts of the running window (R79). -/
structure Place where
  queue    : List RshCmd
  running  : Option RshCmd
  todo     : List LineAddr
  next     : Nat
  poison   : Bool
  unacked  : Nat
  trackers : List Tracker
  pfIssued : List (LineAddr × BitVec 3)
  pfOut    : Nat
  grpAcc   : Tab Nat
  grpMiss  : Tab Nat
  deriving DecidableEq, Repr

/-- What the active image fixes and no register shows: COOL_OK and REF_MIN (R54, R269), the casement roles, and the Porter egress
list (R268). -/
structure Cfg where
  coolOk : Bool
  refMin : Bool
  roles : BitVec 8
  pegN  : Nat
  peg   : BitVec 8
  deriving DecidableEq, Repr

/-- A write, atomic or drain write-out whose ack point (R139) has not been reached: its request, the answer that leaves then,
and what it still waits for: its execution, its transaction's answers, the MACK of a mirror message, the memory; for the
write-out of a drain, whether LDG_ROW_DRAIN started it, and the rows drained. -/
structure PendW where
  id    : Nat
  r     : Req
  msg   : Msg
  exec  : Bool
  txn   : Bool
  mir   : Bool
  far   : Bool
  drain : Option (Bool × Nat)
  deriving DecidableEq, Repr

/-- What a requester's next FENCE covers at this home (R141): posted writes, saturating at 255, and the scopes named. -/
structure Cover where
  who    : Requester
  posted : Nat
  scopes : Nat
  deriving DecidableEq, Repr

/-- How a trigger stands to the walk of its window (R152): it waits for none, waits for the walk to start, or for the walk that
runs to end. -/
inductive WalkWait where
  | none | pending | running
  deriving DecidableEq, Repr

/-- A FENCE not yet answered (R141). -/
structure FenceWait where
  f      : FenceReq
  writes : List Nat
  walk   : WalkWait
  count  : Nat
  narrow : Bool
  deriving DecidableEq, Repr

/-- An acquire with WIN_V in progress (R153): its read, the slices whose FENCE_DONE is awaited, each with the TAG of its FENCE, its
own walk. -/
structure Acquire where
  req    : Instr
  r      : Req
  slices : List (BitVec 6 × BitVec 11)
  walk   : WalkWait
  deriving DecidableEq, Repr

/-- Ordering: release records, writes before their ack points, covers, fences, acquires, and the walks of bypass windows: those
pending in order, the window of ORD_WIN_INV.GO pending and running, the next line the walk looks up, the lines it visits again,
and whether it has reported a DIRTY line. -/
structure Ord where
  recs    : Tab (LineAddr × Requester × BitVec 2)
  nextId  : Nat
  writes  : List PendW
  covers  : List Cover
  fences  : List FenceWait
  acqs    : List Acquire
  pend    : List Nat
  go      : Option Nat
  goRun   : Option Nat
  next    : Nat
  revisit : List LineAddr
  dirty   : Bool
  deriving DecidableEq, Repr

/-- A tile row that a Ledger operation covers (R159): its first physical row, slot, binding entry, tile row within the granule,
and the binding's DFMT, SHADOW and MODE. -/
structure RowRef where
  base   : Nat
  slot   : Nat
  bind   : Nat
  e      : Nat
  dfmt   : Nat
  shadow : Bool
  fast   : Bool
  deriving DecidableEq, Repr

/-- Who sent a Ledger operation: a request, LDG_ROW_DRAIN, or a chain token. -/
inductive LdgFrom where
  | request | register | chain
  deriving DecidableEq, Repr

/-- A Ledger operation in a Ledger lane or its unit (R178): its rows, and the findings of its tag lane: the reason of a refusal and
whether the line is sealed. `credit` when the lane returns a Ledger credit for it (R28). -/
structure LdgJob where
  r       : Req
  o       : LedgerOp
  src     : LdgFrom
  rows    : List RowRef
  refused : Option Nat
  sealed  : Bool
  credit  : Bool
  deriving DecidableEq, Repr

/-- The state of a tile row (R181, R208), under its first physical row. -/
structure RowSt where
  cur      : Word
  live     : Bool
  draining : Bool
  psn      : Bool
  seed     : BitVec 64
  tokl     : Bool
  toks     : Bool
  deriving DecidableEq, Repr

/-- A tile row after a commit or a reset. -/
def RowSt.init : RowSt := ⟨0, false, false, false, 0, false, false⟩

/-- A drain that has passed D1 (R180, R183): the tile rows, each with the physical row to read, and the chain context that takes
its tokens. -/
structure Drain where
  job   : LdgJob
  rows  : List (RowRef × Nat)
  ctx   : Option Nat
  deriving DecidableEq, Repr

/-- A held drain (R208): its job and its context. -/
structure Held where
  job : LdgJob
  ctx : Nat
  deriving DecidableEq, Repr

/-- A drained line that waits for its write-out (R177). -/
structure WriteOut where
  job    : LdgJob
  data   : LineData
  psn    : Bool
  status : Nat
  rows   : Nat
  deriving DecidableEq, Repr

/-- A binding commit or removal whose response is held (R160): entry, source, and the four words. -/
structure BindWait where
  n      : Nat
  src    : MgSrc
  baseLo : Word
  baseHi : Word
  size   : Word
  ctl    : Word
  deriving DecidableEq, Repr

/-- An entry of a copy of the scale table (R191). -/
structure ScaleEnt where
  valid : Bool
  shift : BitVec 7
  mul   : Word
  deriving DecidableEq, Repr

/-- A scale entry after a cold start (R194). -/
def ScaleEnt.init : ScaleEnt := ⟨false, 0, 0x3F800000⟩

/-- The Ledger: cells by physical row, tile rows, the check of each cell word by 160 × row + 5 × cell + word (R157), the lanes and
units by lane number, drains past D1, held drains, write-outs, values staged in binding entries, commits that wait, and the
scale table's master and working copies (R43). -/
structure Ledger where
  rows    : Tab RowImage
  st      : Tab RowSt
  ecc     : Tab Ecc
  lane    : Tab (List LdgJob)
  unit    : Tab (List LdgJob)
  drains  : Tab (List Drain)
  held    : List Held
  outs    : Tab (List WriteOut)
  stage   : Tab Word
  commits : List BindWait
  master  : Tab ScaleEnt
  scale   : Tab ScaleEnt
  deriving DecidableEq, Repr

/-- A token in a transmit buffer (R213): its context, header, image, sequence, line, epoch, TROW, the drain that sent it, and how
often it was resent. -/
structure Token where
  ctx    : Nat
  seq    : BitVec 16
  hdr    : BitVec 256
  image  : RowImage
  line   : LineAddr
  epoch  : Word
  trow   : Nat
  drain  : Nat
  resent : Nat
  deriving DecidableEq, Repr

/-- A drain whose tokens await their TACKs (R207): its number, its job, tokens left, rows and status so far. -/
structure ChainDrain where
  id     : Nat
  job    : LdgJob
  left   : Nat
  rows   : Nat
  status : Nat
  deriving DecidableEq, Repr

/-- The chain contexts' working state: unacknowledged tokens, the drains that sent them, incoming tokens that wait per context
(R210), the RX_EXPECT and time of the last TNACK per context, resends that a TNACK scheduled, the tokens' next drain number,
Wicket credits in hand and the messages that wait for one (R403). -/
structure Chain where
  tokens  : List Token
  drains  : List ChainDrain
  nextId  : Nat
  waiting : List (Nat × BitVec 256 × RowImage)
  merging : Tab Bool
  nacked  : Tab (BitVec 16 × BitVec 48)
  resend  : Tab (BitVec 16)
  credits : Nat
  queue   : List (BitVec 256 × Option RowImage)
  deriving DecidableEq, Repr

/-- What a request of Porter is for (R220 to R238): the read of piece `k`, `len` of burst `n`, at byte `off` of its line; a write of
burst `n`; an index line; the producer word; a descriptor; the status write; the OWN write of descriptor `head`. -/
inductive PorKind where
  | read (n k len off : Nat)
  | write (n : Nat)
  | index (n : Nat)
  | producer
  | descriptor
  | status
  | own (head : Nat)
  deriving DecidableEq, Repr

/-- A request of Porter in flight: its channel, TAG, purpose, the command, and whether it was answered NACK_RETRY and waits for its
back-off. -/
structure PorReq where
  ch   : Nat
  tag  : BitVec 11
  kind : PorKind
  cmd  : Instr
  wait : Bool
  deriving DecidableEq, Repr

/-- A burst that holds a buffer (R233): its number and length, its bytes and which are poisoned, its write pieces (address, first
byte, length), the reads still awaited, whether its writes are issued, and the writes not acknowledged. -/
structure Burst where
  n      : Nat
  len    : Nat
  data   : BitVec 4096
  bad    : BitVec 512
  pieces : List (Nat × Nat × Nat)
  reads  : Nat
  issued : Bool
  left   : Nat
  deriving DecidableEq, Repr

/-- The pacing states of R232; `low` is RUN after F has fallen to LOW, with P to be read again. -/
inductive Pace where
  | off | wait | run | low
  deriving DecidableEq, Repr

/-- A transfer (R227 to R236): the fields of its descriptor (register mode builds them from the registers), the address of the
descriptor, the CRC register before it and as it runs, bytes and bursts issued, pacing, index lines at hand and the next to read,
bursts in flight, the code and reason that stopped it, whether it was rejected, poison and seals met, ERR_BURST, and whether the
status write is out. -/
structure Xfer where
  ring   : Bool
  ctl    : Word
  low    : Nat
  high   : Nat
  src    : Nat
  dst    : Nat
  x      : Nat
  y      : Nat
  ss     : Int
  ds     : Int
  idx    : Nat
  prod   : Nat
  desc   : Nat
  head   : Nat
  crc0   : Word
  crc    : Word
  k      : Nat
  n      : Nat
  pace   : Pace
  p      : Nat
  lines  : Tab LineData
  nextLn : Nat
  bursts : List Burst
  stop   : Option (Nat × Nat)
  reject : Bool
  pois   : Bool
  sealed : Bool
  err    : Option Nat
  finish : Bool
  deriving DecidableEq, Repr

/-- Porter: requests in flight, the transfer of each channel, the channel last granted per PRIO, and the CRC registers that a
shutdown restores (R240). -/
structure Porter where
  reqs  : List PorReq
  xfers : Tab Xfer
  last  : Tab Nat
  saved : Tab Word
  deriving DecidableEq, Repr

/-- What an admission check is for (R257): the image of step 8, a TCL or WIN commit, a new RAMP_US from a register or a budget message
with its SEQ, a new MIR_RATE. -/
inductive AdmWhy where
  | image
  | tcl (src : MgSrc)
  | win (src : MgSrc)
  | rampReg (src : MgSrc) (v : Nat)
  | rampMsg (seq v : Nat)
  | mirRate (src : MgSrc) (v : Nat)
  deriving DecidableEq, Repr

/-- Admission: the checks in arrival order (R257), and the accepted TCL and WIN settings that the next frame boundary puts in force. -/
structure Adm where
  queue   : List AdmWhy
  tclNext : Option (Tab Word)
  winNext : Option (Tab Word)
  deriving DecidableEq, Repr

/-- Where a power command comes from (R309, R316): a write of PWR_CMD, a STATE message with its SEQ, the partner's MPWR. -/
inductive PwrBy where
  | reg (src : MgSrc)
  | msg (seq : BitVec 8)
  | partner
  deriving DecidableEq, Repr

/-- A power command (R309, R332): TARGET, PAIR, its source, and whether it has been answered. -/
structure PwrCmd where
  target : Nat
  pair   : Bool
  by'    : PwrBy
  told   : Bool
  deriving DecidableEq, Repr

/-- Power: the last cap received and the cap in force, none without a cap (R328); the transition in progress and the pending command
(R332); the package time, in ns, at which the transition started; the links up before the entry and those at half width (R319); the
ways that the present RETAIN keeps; budget messages whose answer waits (R330, R409), and the answers that await BM_OUT_ACK. -/
structure Pwr where
  cap     : Option Nat
  granted : Option Nat
  run     : Option PwrCmd
  pend    : Option PwrCmd
  t0      : Nat
  links   : BitVec 8
  half    : BitVec 8
  keep    : Nat
  msgs    : List (BitVec 64)
  answers : List (BitVec 128)
  deriving DecidableEq, Repr

/-- The image staging buffer by word (R270), and the source of an UPDATE that awaits its application point (R271, R275). -/
structure Img where
  buf  : Tab Word
  held : Option MgSrc
  deriving DecidableEq, Repr

/-- The Curator: the stage of R290 (0 while held in reset, 1 to 7, 8 after ALIVE), its SRAM by word with the check of each word, the
LENGTH of the firmware, and the package time, in ns, at which the watchdog expires (R366). -/
structure Cur where
  stage  : Nat
  sram   : Tab Word
  ecc    : Tab Ecc
  len    : Nat
  wdtEnd : Nat
  deriving DecidableEq, Repr

/-- Start-up: the coordinates recorded at the previous start (R280, kept in the night-latch island), the package time of step 0, the
Ledger and Curator islands whose clocks did not come up (R287), k of R288, the refused and accepted LOADs of this start (R292, R305),
and whether CAL_OK stays 0 for this start (R295), and the RAMP_US of a message before step 8 (R330). -/
structure Start where
  coord   : Option (BitVec 24)
  t0      : Nat
  ldgDown : Bool
  curDown : Bool
  lost    : Nat
  refused : Nat
  loaded  : Bool
  calHeld : Bool
  ramp    : Option Nat
  deriving DecidableEq, Repr

/-- The Transom (R406): the receiver's FIFO, the sender's credits per lane, 64 before any is used, and what waits for credits: its
lane, its beats. -/
structure Tran where
  fifo    : Tab (List (LineData × BitVec 64))
  credits : Tab Nat
  wait    : List (Nat × Nat × Out)
  deriving DecidableEq, Repr

/-- A mirror message waiting for a credit (R341), or sent: TYPE, header and payload. -/
structure MirMsg where
  typ  : Nat
  h    : MirHdr
  data : Option LineData
  ldg  : Option MirLedger
  row  : Option MirRow
  scale : BitVec 128
  wait : Option Nat
  deriving DecidableEq, Repr

/-- A mirror message sent and not yet covered by MACK: lane, SEQ, the pending write that waits for it, its line, and whether it
carried a line's data. -/
structure MirSent where
  lane : Nat
  seq  : BitVec 16
  wait : Option Nat
  line : LineAddr
  data : Bool
  deriving DecidableEq, Repr

/-- A re-striping in progress beside MIR_RESTRIPE.STATE (R355, R356): the tag walk of PREPARE has been done; ABORT waits for the walk. -/
structure Stripe where
  walked : Bool
  abort  : Bool
  deriving DecidableEq, Repr

/-- The mirror port and pairing: sequences per lane and direction, credits used per lane, messages waiting for a credit, messages
sent and not covered by MACK; whether anything was sent in this microsecond (R343); T2 of a takeover runs (R344); own lines that the
partner has evicted (R338), and DIRTY lines older than the pair; messages held per lane behind a full scale queue or ahead of their
SEQ (R42, R340); the scale queue; the partner's STATE from its MCHK; the scale entries taken from the partner in FORMING (R336) or
re-pairing; this side's walk has been sent (R350); a clock-down of the seam is announced (R349); a re-striping. -/
structure Mir where
  txSeq   : Tab (BitVec 16)
  rxSeq   : Tab (BitVec 16)
  used    : Tab Nat
  queue   : List MirMsg
  unacked : List MirSent
  sent    : Bool
  probing : Bool
  evicted : List LineAddr
  noCopy  : List LineAddr
  waiting : List MirMsg
  scaleQ  : List (MirHdr × BitVec 128)
  peer    : Nat
  scales  : BitVec 256
  sentAll : Bool
  shut    : Bool
  stripe  : Stripe
  deriving DecidableEq, Repr

/-- The state of the slice. -/
structure State where
  /-- The build: false S128, true S64 (R1). No command changes it. -/
  s64     : Bool
  /-- The register words, by offset; an unlisted offset reads its Reset value. -/
  regs    : Tab Word
  pins    : Pins
  front   : Front
  stk     : Stacks
  coh     : Coh
  ord     : Ord
  mir     : Mir
  ldg     : Ledger
  chn     : Chain
  por     : Porter
  adm     : Adm
  pwr     : Pwr
  img     : Img
  cur     : Cur
  start   : Start
  tran    : Tran
  place   : Place
  cfg     : Cfg
  err     : Err
  /-- FREEZE is due from the next cycle (R388). -/
  pmuFrz  : Bool
  /-- The words latched by the last management read (R428), by offset. -/
  latch   : Tab Word
  /-- The model's own: a counter that makes each use of a free value fresh. -/
  freeCtr : Nat
  /-- The model's own: what the last step has sent. -/
  out     : List Out
  /-- The commands that wait, first in first out. -/
  pending : List Instr
  deriving DecidableEq, Repr

/-! ### Reset -/

/-- The straps before step 0 latches them: 0 (notes/assumptions/1.md). -/
def Straps.zero : Straps := ⟨0, 0, 0, 0, 0, false⟩

/-- The pins before anything drives them: inputs 0, outputs deasserted (notes/assumptions/1.md). -/
def Pins.init : Pins := ⟨Straps.zero, 0, 0, false, false, false, false, false, 0, false, false, false, 0xFF⟩

/-- The front island after reset. -/
def Front.init : Front :=
  { links := [], inject := [], failed := false, mgWait := none, inbox := [], presented := [], used := [], f2b := [], atBank := []
    lanes := [], curLane := [], poolCred := [], turn := [], bucket := [], tclAct := [], winAct := [], winResp := [], marks := []
    accN := 0, accLast := 0, allow := none }

/-- The Stacks after reset: every tag INV, every bank at its own number. -/
def Stacks.init : Stacks :=
  { beats := [], tags := [], ranks := [], dirtyVec := [], vecBad := [], remap := [], lostLb := [], walk := none, walkQ := []
    repl := [], copyPos := 0, pend := [], corr := [], scrubRow := [], ueCnt := [], coolRun := 0, halves := false, halfBad := []
    farReads := [], farWrites := [], farQ := [], farCred := [] }

/-- Coherence after reset. -/
def Coh.init : Coh := ⟨[], [], [], [], [], []⟩

/-- Ordering after reset. -/
def Ord.init : Ord :=
  { recs := [], nextId := 0, writes := [], covers := [], fences := [], acqs := [], pend := [], go := none, goRun := none, next := 0
    revisit := [], dirty := false }

/-- The mirror port after reset. -/
def Mir.init : Mir :=
  { txSeq := [], rxSeq := [], used := [], queue := [], unacked := [], sent := false, probing := false, evicted := [], noCopy := []
    waiting := [], scaleQ := [], peer := 0, scales := 0, sentAll := false, shut := false, stripe := ⟨false, false⟩ }

/-- The Ledger after a cold start. -/
def Ledger.init : Ledger :=
  { rows := [], st := [], ecc := [], lane := [], unit := [], drains := [], held := [], outs := [], stage := [], commits := []
    master := [], scale := [] }

/-- The chains after reset. -/
def Chain.init : Chain :=
  { tokens := [], drains := [], nextId := 0, waiting := [], merging := [], nacked := [], resend := [], credits := 0, queue := [] }

/-- Placement after reset. -/
def Place.init : Place :=
  { queue := [], running := none, todo := [], next := 0, poison := false, unacked := 0, trackers := [], pfIssued := [], pfOut := 0
    grpAcc := [], grpMiss := [] }

/-- Power after reset. -/
def Pwr.init : Pwr := ⟨none, none, none, none, 0, 0, 0, 0, [], []⟩

/-- Start-up before step 0. -/
def Start.init : Start := ⟨none, 0, false, false, 0, 0, false, false, none⟩

/-- No image in force: no casement has a role (R267). -/
def Cfg.init : Cfg := ⟨false, false, 0, 0, 0⟩

/-- A slice of a build right after a cold start's power-up, before step 0 (R12, R279): every register at its Reset value. -/
def State.resetOf (s64 : Bool) : State :=
  { s64 := s64, regs := [], pins := Pins.init, front := Front.init, stk := Stacks.init, coh := Coh.init, ord := Ord.init
    mir := Mir.init, ldg := Ledger.init, chn := Chain.init, por := ⟨[], [], [], []⟩, adm := ⟨[], none, none⟩, pwr := Pwr.init
    img := ⟨[], none⟩, cur := ⟨0, [], [], 0, 0⟩, start := Start.init, tran := ⟨[], [], []⟩, place := Place.init, cfg := Cfg.init
    err := ⟨[], 0, []⟩, pmuFrz := false, latch := [], freeCtr := 0, out := [], pending := [] }

/-- The machine right after reset; the build is S128 (notes/assumptions/1.md). -/
def State.reset : State := State.resetOf false

end Sys2Proof.Machine
end

