-- ==== Sys2Proof/Machine/Ops.lean ====
section
/-! DEFINITION. The named operations every meaning is built from: reading and writing register words and fields (R10, R424),
counters that saturate, what the step sends, the fault log's intake (R361, R362), event counting (R377 to R379), and the
gate and answers of a management access (R425, R429). -/

namespace Sys2Proof.Machine

/-! ### Register words and fields -/

/-- The word stored at a register offset. -/
def State.word (s : State) (off : Nat) : Word := tget (resetWord s.s64 off) s.regs off

/-- Store a word at a register offset. -/
def State.setWord (s : State) (off : Nat) (v : Word) : State :=
  { s with regs := tput (resetWord s.s64 off) s.regs off v }

/-- The bits of a field as a word mask. -/
def fieldMask (f : Field) : Word := BitVec.ofNat 32 (2 ^ f.w - 1) <<< f.lo

/-- The value of a field of a word. -/
def fieldGet (f : Field) (w : Word) : Nat := (w >>> f.lo).toNat % 2 ^ f.w

/-- A word with one field replaced. -/
def fieldPut (f : Field) (w : Word) (v : Nat) : Word :=
  (w &&& ~~~(fieldMask f)) ||| ((BitVec.ofNat 32 v <<< f.lo) &&& fieldMask f)

/-- The field of register `i` of an array. -/
def State.rdI (s : State) (f : Field) (i : Nat) : Nat := fieldGet f (s.word (f.off + f.stride * i))

/-- Write the field of register `i` of an array. -/
def State.wrI (s : State) (f : Field) (i v : Nat) : State :=
  s.setWord (f.off + f.stride * i) (fieldPut f (s.word (f.off + f.stride * i)) v)

/-- The field of a single register. -/
def State.rd (s : State) (f : Field) : Nat := s.rdI f 0

/-- Write the field of a single register. -/
def State.wr (s : State) (f : Field) (v : Nat) : State := s.wrI f 0 v

/-- A one-bit field as a Bool. -/
def State.flag (s : State) (f : Field) : Bool := s.rdI f 0 != 0

/-- A one-bit field of register `i` of an array. -/
def State.flagI (s : State) (f : Field) (i : Nat) : Bool := s.rdI f i != 0

/-- Write a one-bit field. -/
def State.setFlag (s : State) (f : Field) (b : Bool) : State := s.wr f b.toNat

/-- Write a one-bit field of register `i`. -/
def State.setFlagI (s : State) (f : Field) (i : Nat) (b : Bool) : State := s.wrI f i b.toNat

/-- Add to a counter field that saturates at its all-ones value. -/
def State.bumpI (s : State) (f : Field) (i : Nat) (n : Nat := 1) : State :=
  s.wrI f i (min (s.rdI f i + n) (2 ^ f.w - 1))

/-- Add to the counter field of a single register, saturating. -/
def State.bump (s : State) (f : Field) (n : Nat := 1) : State := s.bumpI f 0 n

/-- Add to a counter field that wraps. -/
def State.wrapAdd (s : State) (f : Field) (n : Nat := 1) : State := s.wr f (s.rd f + n)

/-- Bit `k` of a field that is a mask. -/
def State.bit (s : State) (f : Field) (k : Nat) : Bool := (s.rd f).testBit k

/-- Set or clear bit `k` of a field that is a mask. -/
def State.setBit (s : State) (f : Field) (k : Nat) (b : Bool) : State :=
  s.wr f (if b then s.rd f ||| 2 ^ k else (s.rd f ||| 2 ^ k) - 2 ^ k)

/-! ### Figures per build (R2) -/

/-- Ways per set. -/
def State.ways (s : State) : Nat := if s.s64 then 16 else 32
/-- Logical banks (R45). -/
def State.nb (s : State) : Nat := if s.s64 then 8 else 16
/-- Tag lanes (R27). -/
def State.lanes (s : State) : Nat := if s.s64 then 2 else 4
/-- Places of the transaction table (R124). -/
def State.txnMax (s : State) : Nat := if s.s64 then 128 else 256
/-- Casements (R2). -/
def State.casements (s : State) : Nat := if s.s64 then 2 else 4

/-! ### What the step sends -/

/-- Send something. -/
def State.emit (s : State) (o : Out) : State := { s with out := s.out ++ [o] }

/-- The package timestamp bits [47:16], as the logs without a wrap count store them. -/
def State.ts (s : State) : Nat := s.pins.ns.toNat / 65536

/-- A use of a free value: the counter's present value, and the state with the counter advanced. -/
def State.fresh (s : State) : Nat × State := (s.freeCtr, { s with freeCtr := s.freeCtr + 1 })

/-! ### Status codes of R13 and reasons of R261 -/

abbrev stOk : Nat := 0
abbrev stNack : Nat := 1
abbrev stPoison : Nat := 2
abbrev stSealed : Nat := 3
abbrev stScaleUnset : Nat := 4
abbrev stAlign : Nat := 5
abbrev stParked : Nat := 6
abbrev stRefused : Nat := 7
abbrev stOverflow : Nat := 8
abbrev stScopeErr : Nat := 9

abbrev rsnNone : Nat := 0x00
abbrev rsnField : Nat := 0x01
abbrev rsnBound : Nat := 0x02
abbrev rsnBusy : Nat := 0x03
abbrev rsnQueueFull : Nat := 0x04
abbrev rsnNotHome : Nat := 0x05
abbrev rsnLiveMap : Nat := 0x06
abbrev rsnAgentLost : Nat := 0x07
abbrev rsnPower : Nat := 0x08
abbrev rsnBankBusy : Nat := 0x10
abbrev rsnRetireLimit : Nat := 0x11
abbrev rsnPinLimit : Nat := 0x18
abbrev rsnCarrel : Nat := 0x19
abbrev rsnCarrelOverlap : Nat := 0x1A
abbrev rsnCarrelSoft : Nat := 0x1B
abbrev rsnFrozen : Nat := 0x1C
abbrev rsnShutter : Nat := 0x1D
abbrev rsnRshOff : Nat := 0x1E
abbrev rsnBypass : Nat := 0x1F
abbrev rsnNotBound : Nat := 0x20
abbrev rsnBindInvalid : Nat := 0x21
abbrev rsnBindOverlap : Nat := 0x22
abbrev rsnLedgerOff : Nat := 0x23
abbrev rsnEpochLate : Nat := 0x24
abbrev rsnEpochAhead : Nat := 0x25
abbrev rsnChainFault : Nat := 0x26
abbrev rsnCreditLimit : Nat := 0x30
abbrev rsnAdmPlan : Nat := 0x31
abbrev rsnAdmLane : Nat := 0x32
abbrev rsnAdmBank : Nat := 0x33
abbrev rsnAdmCasement : Nat := 0x34
abbrev rsnAdmFar : Nat := 0x35
abbrev rsnAdmMirror : Nat := 0x36
abbrev rsnAdmRamp : Nat := 0x37
abbrev rsnImageCrc : Nat := 0x40
abbrev rsnImageVersion : Nat := 0x41
abbrev rsnImageLayout : Nat := 0x42
abbrev rsnFeatureLevel : Nat := 0x43
abbrev rsnPairMismatch : Nat := 0x44
abbrev rsnFwUnverified : Nat := 0x45

/-- The rank of a status in R15: lower is higher precedence. -/
def statusRank (st : Nat) : Nat :=
  match st with
  | 6 => 1 | 5 => 2 | 9 => 3 | 7 => 4 | 3 => 5 | 4 => 6 | 1 => 7 | 8 => 8 | 2 => 9 | _ => 10

/-- The one of two statuses that R15 reports. -/
def statusMax (a b : Nat) : Nat := if statusRank a ≤ statusRank b then a else b

/-! ### The fault log (R361, R362, R365) -/

/-- Insert an entry among those of its cycle, in ascending CLASS and then CODE (R362). -/
def errInsert (e : ErrEnt) : List ErrEnt → List ErrEnt
  | [] => [e]
  | x :: xs => if e.cls < x.cls || (e.cls = x.cls && e.code < x.code) then e :: x :: xs else x :: errInsert e xs

/-- A fault event: count it, set PEND where the rule names the fault interrupt (`irq`) or SEV is 2 or 3, and put its entry in
the intake queue unless its class writes none or the queue is full (R362). -/
def State.fault (s : State) (cls code sev : Nat) (detail : Nat := 0) (loc : Option LineAddr := none)
    (status : Nat := 0) (srcKind srcId : Nat := 0) (irq : Bool := false) : State :=
  let s := s.bumpI ERR_CNT.COUNT cls
  let s := if irq || sev ≥ 2 then s.setBit ERR_STATUS.PEND cls true else s
  if !(s.bit ERR_LOG_EN.EN cls) then s
  else if s.err.intake.length ≥ 16 then s.bump ERR_LOG_DROP.COUNT
  else
    let e : ErrEnt := ⟨cls, code, sev, status, srcKind, srcId, detail, loc, s.pins.ns,
      BitVec.ofNat 16 s.pins.wrap.toNat⟩
    let keep := s.err.intake.length - s.err.fresh
    { s with err := { s.err with
        intake := s.err.intake.take keep ++ errInsert e (s.err.intake.drop keep)
        fresh := s.err.fresh + 1 } }



/-- The STACKS detail of R361: physical bank, beat within the row, row. -/
def stacksDetail (phys beat row : Nat) : Nat := phys <<< 24 ||| beat <<< 16 ||| row

/-! ### Event counting (R377 to R379, R388) -/

/-- The value of a programmable counter. -/
def State.pmuVal (s : State) (n : Nat) : Nat := s.rdI PMU_CNT_HI.CNT_HI n * 2 ^ 32 + s.rdI PMU_CNT_LO.CNT_LO n

/-- Set a programmable counter. -/
def State.setPmu (s : State) (n v : Nat) : State :=
  (s.wrI PMU_CNT_LO.CNT_LO n (v % 2 ^ 32)).wrI PMU_CNT_HI.CNT_HI n (v / 2 ^ 32 % 2 ^ 16)

/-- Add to a programmable counter; past 2^48 − 1 it wraps, sets OVF and may freeze counting from the next cycle (R388). -/
def State.pmuAdd (s : State) (n inc : Nat) : State :=
  let v := s.pmuVal n + inc
  let s := s.setPmu n (v % 2 ^ 48)
  if v < 2 ^ 48 then s
  else
    let s := s.setBit PMU_OVF.OVF n true
    if s.flag PMU_GCTL.FRZ_ON_OVF then { s with pmuFrz := true } else s

/-- Whether counter `n` counts an event with the lane and label it carries (R377, R379). -/
def State.pmuCounts (s : State) (n code : Nat) (lane label : Option Nat) : Bool :=
  let lanes := s.rdI PMU_EVSEL.LANES n % 2 ^ s.lanes
  let labels := s.rdI PMU_EVSEL.LABELS n
  s.bit PMU_GCTL.EN n && !(s.flag PMU_GCTL.FREEZE) && s.rdI PMU_EVSEL.EVENT n = code
    && (match lane with | some l => lanes = 0 || lanes.testBit l | none => true)
    && (match label with | some l => labels = 0 || labels.testBit l | none => true)

/-- An event occurs `inc` times in this cycle. -/
def State.event (s : State) (code : Nat) (lane : Option Nat := none) (label : Option Nat := none)
    (inc : Nat := 1) : State :=
  (List.range 8).foldl (fun s n => if s.pmuCounts n code lane label then s.pmuAdd n inc else s) s

/-! ### Management accesses (R407, R425, R426, R429) -/

/-- Answer a management or Curator access. -/
def State.answer (s : State) (src : MgSrc) (status reason : Nat) (data : Word := 0) : State :=
  match src with
  | .curator => s.emit (.curator data status reason)
  | _ => s.emit (.mg data status reason)

/-- Answer OK. -/
def State.ok (s : State) (src : MgSrc) : State := s.answer src stOk rsnNone

/-- Answer REFUSED with a reason. -/
def State.refuse (s : State) (src : MgSrc) (reason : Nat) : State := s.answer src stRefused reason

/-- The start-up steps have passed step 1, from when the management port answers (R283, R429). -/
def State.mgReady (s : State) : Bool := decide (2 ≤ s.rd SLC_START.STEP)

/-- The package timestamp with its wrap epoch counter, in ns. -/
def State.now (s : State) : Nat := s.pins.wrap.toNat * 2 ^ 48 + s.pins.ns.toNat

/-- The start has stopped, or the slice is in the safe state (R282, R290). -/
def State.stopped (s : State) : Bool := s.rd SLC_START.STATE = 3 || s.rd SLC_START.STATE = 4

/-- The power state in force is RETAIN or OFF_READY, in which only the PWR and DBK blocks are served (R429). -/
def State.dark (s : State) : Bool := s.rd PWR_STATUS.STATE = 2 || s.rd PWR_STATUS.STATE = 3

/-- The engines are stopped by a power transition: from E2 of an entry to X5 of the exit (R313, R319). -/
def State.winding (s : State) : Bool :=
  let st := s.rd PWR_STATUS.STATE
  ((st = 6 || st = 8) && 2 ≤ s.rd PWR_STATUS.PHASE) || st = 2 || st = 3 || st = 7

/-- The fault interrupt output (R365), which a stopped start also raises (R282); all interrupts are 0 in RETAIN and OFF_READY (R415). -/
def State.irqFault (s : State) : Bool := !s.dark && ((s.rd ERR_STATUS.PEND &&& s.rd ERR_IRQ_EN.EN) != 0 || s.stopped)

/-- The PMU overflow interrupt output (R388, R415). -/
def State.irqPmu (s : State) : Bool := !s.dark && (s.rd PMU_OVF.OVF &&& s.rd PMU_IRQ_EN.EN) != 0

/-- The power-off-ready output (R323, R414): STATE shows OFF_READY. -/
def State.pwrOffReady (s : State) : Bool := s.rd PWR_STATUS.STATE = 3

/-- The level outputs follow the state (R323, R365, R388, R415). -/
def State.settle (s : State) : State :=
  { s with pins := { s.pins with irqFault := s.irqFault, irqPmu := s.irqPmu, offReady := s.pwrOffReady } }

/-- The end of every command: its next state, with the level outputs as that state has them. -/
def settled (s : State) : Host.Outcome State Fault Refusal := .next s.settle

/-- The block of an offset answers in RETAIN and OFF_READY: PWR or DBK. -/
def darkBlock (off : Nat) : Bool := 0x1000 ≤ off && off < 0x4000

/-- The blocks whose writes the failed state serves: SLC, DBK, ERR, PMU (R429). -/
def failedBlock (off : Nat) : Bool := off < 0x2000 || (0x29000 ≤ off && off < 0x30000)

/-- The Curator, over its lane. -/
def isCurator : MgSrc → Bool
  | .curator => true
  | _ => false

/-- A code of MG_SRC that R408 reserves. -/
def isReserved : MgSrc → Bool
  | .reserved _ => true
  | _ => false

/-- What the Curator may write (R269): ALT_ADJUST, PFT_DEGREE, STK_REF_TIER, its watchdog and CUR_FW_CTL (R290, R366), the mailbox
(R431, R432) and its own SRAM. -/
def curatorMay (off : Nat) : Bool :=
  [ALT_ADJUST.word.off, PFT_DEGREE.word.off, STK_REF_TIER.word.off, CUR_WDT_CTL.word.off, CUR_FW_CTL.word.off].contains off
    || (0x30000 ≤ off && off < 0x31000) || 0x40000 ≤ off

/-- The gate of a register write (R408, R429): before the end of step 1 the access waits at the port; in RETAIN, in OFF_READY and in the
failed state an offset outside the blocks served is answered PARKED, before any other status (R15); a reserved requester is refused;
otherwise the write does what its rule says. The Curator's writes come over its lane; what it may not write it is refused
(notes/assumptions/34.md). -/
def State.mgWrite (s : State) (c : Instr) (off : Nat) (m : MgWrite) (act : State → State) : State :=
  if isCurator m.src then (if curatorMay off then act s else s.refuse m.src rsnField)
  else if !s.mgReady then { s with front := { s.front with mgWait := some c } }
  else if s.dark && !(darkBlock off) then s.answer m.src stParked rsnNone
  else if s.front.failed && !(failedBlock off) then s.answer m.src stParked rsnNone
  else if isReserved m.src then s.refuse m.src rsnField
  else act s

/-- The plain effect of a write on a register word by the access codes of R10: RW bits take the written value, a 1 clears a
W1C bit, every other bit stays. -/
def plainWrite (r : RegRow) (old new : Word) : Word :=
  let rw : Word := BitVec.ofNat 32 r.rw
  let w1c : Word := BitVec.ofNat 32 r.w1c
  (old &&& ~~~rw &&& ~~~(w1c &&& new)) ||| (new &&& rw)

/-- A plain write of a register word. -/
def State.plain (s : State) (off : Nat) (w : Word) : State :=
  match regRow s.s64 off with
  | some r => s.setWord off (plainWrite r (s.word off) w)
  | none => s

/-- The beginning of every command: nothing sent yet, no entry of this cycle yet, and a freeze due from the cycle after a
wrap takes effect (R388). -/
def State.begin (s : State) : State :=
  let s := { s with out := [], err := { s.err with fresh := 0 } }
  if s.pmuFrz then { (s.setFlag PMU_GCTL.FREEZE true) with pmuFrz := false } else s

end Sys2Proof.Machine
end

