-- ==== Sys2Proof/Machine/Operands.lean ====
section
/-! DEFINITION. How a command's operands name places in the slice: the home and set of a line (R35, R36), the bank, row and
beat of a way (R45, R46, R284), the carrel, role and Shutter entry that an address meets (R76, R78, R88), the requester of a
message and the casement its answers take (R397, R436). -/

namespace Sys2Proof.Machine

/-! ### Lines, sets and homes (R35, R36) -/

/-- The granule number g = PA[51:8] of a line. -/
def granule (line : LineAddr) : BitVec 44 := line.extractLsb' 1 44

/-- PA[7]: which line of its sector. -/
def lineBit (line : LineAddr) : Bool := line.getLsbD 0

/-- The line of a granule. -/
def lineOf (g : BitVec 44) (b : Bool) : LineAddr := (g ++ BitVec.ofBool b)

/-- The 16-bit fold f of R36. -/
def fold (g : BitVec 44) : BitVec 16 :=
  g.extractLsb' 0 16 ^^^ g.extractLsb' 16 16 ^^^ (g.extractLsb' 32 12).setWidth 16

/-- The set index s of R36. -/
def setOf (g : BitVec 44) : Nat := (g.extractLsb' 3 14 ^^^ g.extractLsb' 17 14).toNat

/-- The live list: the set bits of a mask, ascending (R35). -/
def liveList (mask : Nat) : List Nat := (List.range 8).filter (fun n => mask.testBit n)

/-- The position p of a granule under a mask; none while the mask is 0 (R434). -/
def posOf (mask : Nat) (g : BitVec 44) : Option Nat :=
  let n := (liveList mask).length
  if n = 0 then none else some ((fold g).toNat % n)

/-- The die-local number of the home under a mask (R36). -/
def homeOf (mask : Nat) (g : BitVec 44) : Option Nat :=
  match posOf mask g with
  | some p => (liveList mask)[p]?
  | none => none

/-- The home of a line under this slice's live map. -/
def State.home (s : State) (line : LineAddr) : Option Nat := homeOf (s.rd SLC_LIVE.MASK) (granule line)

/-- This slice's own share homes the line. -/
def State.homesSelf (s : State) (line : LineAddr) : Bool := s.home line = some (s.rd SLC_LIVE.SELF)

/-- The line belongs to the share adopted at T3 of a takeover, by the partner's map (R344). -/
def State.adopted (s : State) (line : LineAddr) : Bool :=
  s.rd MIR_STATUS.STATE = 4 && homeOf (s.rd MIR_PEER_MAP.MASK) (granule line) = some (s.rd MIR_STATUS.ADOPT)

/-- The slice accepts requests for the line (R40). -/
def State.accepts (s : State) (line : LineAddr) : Bool := s.homesSelf line || s.adopted line

/-- The line is a copy of the partner's (R338): homed by neither this slice nor a share it has adopted. -/
def State.isCopy (s : State) (line : LineAddr) : Bool := !(s.accepts line)

/-- The set of a line. -/
def lineSet (line : LineAddr) : Nat := setOf (granule line)

/-- The tag lane of a set (R27). -/
def State.laneOf (s : State) (set : Nat) : Nat := set % s.lanes

/-- The tag lane of a line. -/
def State.lane (s : State) (line : LineAddr) : Nat := s.laneOf (lineSet line)

/-! ### Banks, rows and beats (R45, R46, R284) -/

/-- The number of banks the ways rotate over: NB, and half of it in mirrored halves. -/
def State.rot (s : State) : Nat := if s.stk.halves then s.nb / 2 else s.nb

/-- The logical bank of a way of a set. -/
def State.lbank (s : State) (set way : Nat) : Nat := (way / 2 + set) % s.rot

/-- The row of a set. -/
def rowOf (set : Nat) : Nat := set / 2

/-- The first beat, within its row, of a line of a way of a set: 64 B beats of slot 2 s[0] + w[0]. -/
def beatOf (set way : Nat) (bit : Bool) : Nat := 4 * (2 * (set % 2) + way % 2) + 2 * bit.toNat

/-- The physical bank of a logical bank (R46). -/
def State.phys (s : State) (lb : Nat) : Nat := tget lb s.stk.remap lb

/-- The spare's physical number. -/
def State.spare (s : State) : Nat := s.nb

/-- The bank pair of a physical bank (R18, R46). -/
def State.pairOf (s : State) (phys : Nat) : Nat := if phys = s.spare then 8 else phys / 2

/-- The key of a beat in the data array. -/
def beatKey (phys row beat : Nat) : Nat := phys * 131072 + row * 16 + beat

/-- A way that no bank serves any more: its logical bank was lost beyond the spare (R67); during the walk, in the sets already
walked. In mirrored halves only half the ways exist (R284). -/
def State.wayGone (s : State) (set way : Nat) : Bool :=
  if s.stk.halves then decide (s.ways / 2 ≤ way)
  else decide (s.ways ≤ way) || s.stk.lostLb.any (fun k => (way / 2 + set) % s.nb = k)
    || (match s.stk.walk with
        | some x => decide (set < x.next) && (way / 2 + set) % s.nb = x.lb
        | none => false)

/-- The ways of a set that exist. -/
def State.setWays (s : State) (set : Nat) : List Nat :=
  (List.range s.ways).filter (fun w => !(s.wayGone set w))

/-! ### Array registers by index -/

/-- The indices of an array of registers that hold a word other than the Reset value. -/
def State.listed (s : State) (f : Field) (n : Nat) : List Nat :=
  s.regs.filterMap (fun e =>
    if f.off ≤ e.1 && e.1 < f.off + f.stride * n && (e.1 - f.off) % f.stride = 0
    then some ((e.1 - f.off) / f.stride) else none)

/-! ### Carrels and roles (R76, R78) -/

/-- The valid carrels. -/
def State.carrels (s : State) : List Nat := (s.listed ALT_CRL_CTL.VALID 64).filter (s.flagI ALT_CRL_CTL.VALID)

/-- The first granule of a carrel. -/
def State.carrelBase (s : State) (c : Nat) : Nat :=
  s.rdI ALT_CRL_BASE_HI.BASE_HI c * 2 ^ 24 + s.rdI ALT_CRL_BASE_LO.BASE_LO c

/-- A carrel's range holds a granule. -/
def State.inCarrel (s : State) (c : Nat) (g : BitVec 44) : Bool :=
  decide (s.carrelBase c ≤ g.toNat) && decide (g.toNat < s.carrelBase c + s.rdI ALT_CRL_SIZE.SIZE c)

/-- carrel_of (R74); no carrel has effect in mirrored halves (R284). -/
def State.carrelOf (s : State) (line : LineAddr) : Option Nat :=
  if s.stk.halves then none else s.carrels.find? (fun c => s.inCarrel c (granule line))

/-- The way whose role a way of a set has: its own, or that of the way it replaced (R67, R76). -/
def State.roleWay (s : State) (set way : Nat) : Nat := tget way s.stk.repl (set * 32 + way)

/-- The carrels that a way's role names; none when it is a cache way (R76). -/
def State.roles (s : State) (set way : Nat) : List Nat :=
  if s.stk.halves then []
  else
    let w := s.roleWay set way
    s.carrels.filter (fun c => decide (s.rdI ALT_CRL_CTL.FIRST c ≤ w)
      && decide (w < s.rdI ALT_CRL_CTL.FIRST c + s.rdI ALT_CRL_CTL.CUR c))

/-- The way has the cache role. -/
def State.cacheWay (s : State) (set way : Nat) : Bool := (s.roles set way).isEmpty

/-- The ways of the nominal roles, as ALT_PIN_MASK shows them. -/
def State.pinMask (s : State) : Nat :=
  (List.range s.ways).foldl (fun m w =>
    if s.carrels.any (fun c => decide (s.rdI ALT_CRL_CTL.FIRST c ≤ w)
      && decide (w < s.rdI ALT_CRL_CTL.FIRST c + s.rdI ALT_CRL_CTL.CUR c)) then m + 2 ^ w else m) 0

/-! ### Shutters (R88) -/

/-- The valid Shutter entries. -/
def State.shutters (s : State) : List Nat := (s.listed SHT_ENT_CTL.VALID 256).filter (s.flagI SHT_ENT_CTL.VALID)

/-- The address of a Shutter entry's base. -/
def State.shutterBase (s : State) (n : Nat) : Nat :=
  s.rdI SHT_ENT_CTL.BASE_HI n * 2 ^ 44 + s.rdI SHT_ENT_BASE.BASE n * 2 ^ 12

/-- A Shutter entry covers a line. -/
def State.inShutter (s : State) (n : Nat) (line : LineAddr) : Bool :=
  line.toNat * 128 / 2 ^ (12 + s.rdI SHT_ENT_CTL.SIZE_LOG n)
    = s.shutterBase n / 2 ^ (12 + s.rdI SHT_ENT_CTL.SIZE_LOG n)

/-- The sealed entries that cover a line (R89). -/
def State.sealedBy (s : State) (line : LineAddr) : List Nat :=
  s.shutters.filter (fun n => s.flagI SHT_ENT_CTL.SEALED n && s.inShutter n line)

/-- The line lies in a sealed entry. -/
def State.isSealed (s : State) (line : LineAddr) : Bool := !(s.sealedBy line).isEmpty

/-- A seal walk over the line runs or was abandoned (R90). -/
def State.sealWalk (s : State) (line : LineAddr) : Bool := (s.sealedBy line).any (s.flagI SHT_ENT_CTL.WALK)

/-! ### Requesters, pools and casements (R245, R397, R436) -/

/-- This slice's package slice number: 8 × base die + die-local number. -/
def State.pslice (s : State) : BitVec 6 :=
  BitVec.ofNat 6 (8 * s.pins.straps.die.toNat + s.rd SLC_LIVE.SELF)

/-- The requester is a channel of this slice's own Porter. -/
def State.ownPorter (s : State) (w : Requester) : Bool := w.kind = .porter && w.pslice = s.pslice

/-- The key of an agent's credit pool: REQ (kind 0) or Ledger (kind 1) per label, a window's pool, or the pool of a slice's
Porter egress (R245). -/
def poolKey (kind : Nat) (label : BitVec 3) (agent : BitVec 5) : Nat := (kind * 8 + label.toNat) * 32 + agent.toNat
/-- The pool of window `w`. -/
def winPool (w : Nat) : Nat := 1024 + w
/-- The pool of the Porter egress of slice `p`. -/
def porterPool (p : BitVec 6) : Nat := 2048 + p.toNat

/-- The number R436 takes modulo the casements: the agent, or PSLICE for KIND 1 and 2. -/
def routeKey (w : Requester) : Nat := match w.kind with | .agent => w.id.toNat | _ => w.pslice.toNat

/-- The role MESH of a casement (R392). -/
def State.isMesh (s : State) (c : Nat) : Bool := s.cfg.roles.toNat / 4 ^ c % 4 = 1

end Sys2Proof.Machine
end

