-- ==== Sys2Proof/Machine/Send.lean ====
section
/-! DEFINITION. Sending: the fault injectors (R369 to R373), the link layer's transmit side (R395), the choice of a casement and
the wait for a link credit (R392, R436), the messages of R116 that answer a request, and the credit words of R396. -/

namespace Sys2Proof.Machine

/-! ### Injectors -/

/-- The injector of a link. -/
def State.injector (s : State) (n : Nat) : Injector := tget ⟨0, 1, none⟩ s.front.inject n

/-- Replace a link's injector. -/
def State.setInjector (s : State) (n : Nat) (i : Injector) : State :=
  { s with front := { s.front with inject := tset s.front.inject n i } }

/-- Injector `n` acts on messages in direction `dir` whose kind is bit `k` of MASK (R370). -/
def State.eligible (s : State) (n : Nat) (dir : Bool) (k : Nat) : Bool :=
  s.flagI LNK_INJ_CTL.EN n && (s.flagI LNK_INJ_CTL.DIR n == dir) && (s.rdI LNK_INJ_CTL.MASK n).testBit k

/-- An eligible message passes: whether the injector selects it (R371), and the state after. -/
def State.injectTrigger (s : State) (n : Nat) : Bool × State :=
  let i := s.injector n
  if s.flagI LNK_INJ_CTL.TRIG n then
    let r := crcShift i.lfsr
    (decide (r.toNat % 65536 < s.rdI LNK_INJ_RATE.RATE n), s.setInjector n { i with lfsr := r })
  else if i.count + 1 < max 1 (s.rdI LNK_INJ_COUNT.COUNT n) then
    (false, s.setInjector n { i with count := i.count + 1 })
  else
    let s := s.setInjector n { i with count := 0 }
    (true, if s.flagI LNK_INJ_CTL.REPEAT n then s else s.setFlagI LNK_INJ_CTL.EN n false)

/-- The bits that the injector inverts (R372), from the position fields or the feedback register. -/
def State.injectFlip (s : State) (n : Nat) : Flip :=
  let r := (s.injector n).lfsr.toNat
  let p0 := if s.flagI LNK_INJ_CTL.RANDPOS n then r / 65536 % 2048 else s.rdI LNK_INJ_POS.POS0 n
  let p1 := if s.flagI LNK_INJ_CTL.RANDPOS n then r % 2048 else s.rdI LNK_INJ_POS.POS1 n
  match s.rdI LNK_INJ_CTL.MODE n with
  | 1 => .bits p0 none
  | 2 => .bits p0 (some (if p1 = p0 then (p1 + 1) % 2048 else p1))
  | _ => .flit

/-- An injection is made: counted, and logged with LOG = 1 (R373). -/
def State.injectDone (s : State) (n : Nat) : State :=
  let s := s.bumpI LNK_INJ_DONE.COUNT n
  if s.flagI LNK_INJ_CTL.LOG n then
    s.fault 12 1 0 (detail := n ||| s.rdI LNK_INJ_CTL.MODE n <<< 4) (srcKind := 3) (srcId := n)
  else s

/-- What a fault injector makes of one message. -/
inductive InjAct where
  | pass | drop | flip (f : Flip) | hold
  deriving DecidableEq, Repr

/-- One message passes injector `n`: what happens to it, and the state after. -/
def State.inject (s : State) (n : Nat) (dir : Bool) (k : Nat) : InjAct × State :=
  if !(s.eligible n dir k) then (.pass, s)
  else
    let (sel, s) := s.injectTrigger n
    if !sel then (.pass, s)
    else
      let s := s.injectDone n
      match s.rdI LNK_INJ_CTL.MODE n with
      | 0 => (.drop, s)
      | 4 => (.hold, s)
      | _ => (.flip (s.injectFlip n), s)

/-! ### The Transom (R405, R406) -/

/-- A slice of the other half of this base die: its messages cross the Transom (R216, R405). -/
def State.crosses (s : State) (coord : Nat) : Bool :=
  let own := s.rd SLC_ID.COORD
  coord / 8 = own / 8 && coord.testBit 2 != own.testBit 2

/-- The pair lies across the seam. -/
def State.mirAcross (s : State) : Bool := s.crosses (s.rd MIR_PARTNER.COORD)

/-- Bytes of a message beside its flits' sidebands: header and payload (R209, R339). -/
def Out.bytes : Out → Nat
  | .mirror typ _ _ _ _ _ => 16 + (match typ with | 0 => 128 | 5 => 144 | 6 => 2576 | 7 => 16 | _ => 0)
  | .chain _ image => if image.isSome then 1312 else 32
  | .corrupted _ _ o => o.bytes
  | _ => 16

/-- Beats of R394 that a message takes, in flits of its own. -/
def Out.beats (o : Out) : Nat := 2 * ((o.bytes + 255) / 256)

/-- The Transom lane that a message takes, if it crosses: mirror traffic 0, chain traffic 1, reach probes 2 (R405). -/
def State.tranLane (s : State) : Out → Option Nat
  | .mirror _ _ _ _ _ _ => if s.mirAcross then some 0 else none
  | .chain h _ => if s.crosses (h.extractLsb' 128 24).toNat then some 1 else none
  | .probe _ => if s.mirAcross then some 2 else none
  | .corrupted _ _ o => s.tranLane o
  | _ => none

/-- Credits of a Transom lane. -/
def State.tranCredit (s : State) (lane : Nat) : Nat := tget 64 s.tran.credits lane

/-- A message past the Transom's injector leaves with its credits, or waits for them in its lane. -/
def State.tranOut (s : State) (lane : Nat) (o : Out) : State :=
  if s.tranCredit lane < o.beats || s.tran.wait.any (fun w => w.1 = lane) then
    { s with tran := { s.tran with wait := s.tran.wait ++ [(lane, o.beats, o)] } }
  else ({ s with tran := { s.tran with credits := tput 64 s.tran.credits lane (s.tranCredit lane - o.beats) } }).emit o

/-- Send, over the Transom and past its injector where the message crosses. A seam that has timed out takes nothing (R348). -/
def State.emitLink (s : State) (o : Out) : State :=
  match s.tranLane o with
  | none => s.emit o
  | some lane =>
    if s.flag MIR_SEAM.TIMED_OUT then s
    else
      let (act, s) := s.inject 7 false lane
      match act with
      | .pass =>
        let s := s.tranOut lane o
        match (s.injector 7).held with
        | some (c, .sent h) =>
          if c = lane then (s.setInjector 7 { s.injector 7 with held := none }).tranOut lane h else s
        | _ => s
      | .drop => s
      | .flip f => s.tranOut lane (.corrupted (!(s.flagI LNK_INJ_CTL.LAYER 7)) f o)
      | .hold => s.setInjector 7 { s.injector 7 with held := some (lane, .sent o) }

/-! ### The transmit side of a link (R395) -/

/-- The link layer of a link. -/
def State.link (s : State) (n : Nat) : Link := tget Link.init s.front.links n

/-- Replace a link's layer. -/
def State.setLink (s : State) (n : Nat) (l : Link) : State :=
  { s with front := { s.front with links := tput Link.init s.front.links n l } }

/-- A flit leaves link `n`: it takes the next FSEQ and is kept for replay, of which the last 64 are (R395). With `show` false
the flit is lost below the link layer. -/
def State.transmit (s : State) (n : Nat) (o : BitVec 10 → Out) (wrap : Out → Out) (visible : Bool) : State :=
  let l := s.link n
  let q := l.txNext
  let kept := l.replay ++ [(q, o q)]
  let s := s.setLink n { l with txNext := q + 1, replay := kept.drop (kept.length - 64) }
  if visible then s.emitLink (wrap (o q)) else s

/-- A message of kind `k` (R370) and class `c` is handed to link `n`, past its injector. `back` returns the credit of a message that
the injector removes (R372). -/
def State.sendOn (s : State) (n k c : Nat) (o : BitVec 10 → Out) (back : State → State := id) : State :=
  let (act, s) := s.inject n false k
  let above := s.flagI LNK_INJ_CTL.LAYER n
  let s := match act with
    | .pass => s.transmit n o id true
    | .drop => if above then back s else s.transmit n o id false
    | .flip f => s.transmit n o (.corrupted (!above) f) true
    | .hold => s.setInjector n { s.injector n with held := some (c, .sent (o 0)) }
  match act, (s.injector n).held with
  | .pass, some (c', .sent h) =>
    if c' = c then (s.setInjector n { s.injector n with held := none }).transmit n (fun _ => h) id true else s
  | _, _ => s

/-! ### Casement messages -/

/-- Payload slots of a message (PLEN, R399). -/
def Body.slots : Body → Nat
  | .none => 0
  | .line _ | .rowBeat _ => 4
  | .partialLine _ _ => 5
  | .old _ | .atomic _ | .seed _ => 1

/-- The casements with role MESH whose links are up, ascending (R436). -/
def State.mesh (s : State) : List Nat :=
  (List.range s.casements).filter (fun c =>
    (s.cfg.roles.toNat / 4 ^ c % 4 = 1) && s.bit LNK_STATUS.UP c)

/-- The casement at position `k` mod n of the list; none while the list is empty. -/
def State.casementOf (s : State) (k : Nat) : Option Nat :=
  let l := s.mesh
  if l.isEmpty then none else l[k % l.length]?

/-- A link credit of a class is in hand again. -/
def State.linkBack (s : State) (c cls : Nat) : State :=
  let l := s.link c
  s.setLink c { l with credits := tput 0 l.credits cls (tget 0 l.credits cls + 1) }

/-- A message that holds its link credit leaves casement `c`. -/
def State.depart (s : State) (c : Nat) (m : Msg) : State :=
  (s.event 0x51 (inc := 2 * (1 + m.body.slots))).sendOn c m.cls m.cls (fun q => .casement c q m) (fun s => s.linkBack c m.cls)

/-- Send on casement `c`: with a link credit of the class in hand the message leaves, otherwise it waits for one behind the
messages that wait (R113, R392, R393). -/
def State.sendAt (s : State) (c : Nat) (m : Msg) : State :=
  let l := s.link c
  let cr := tget 0 l.credits m.cls
  if cr = 0 || l.queue.any (fun x => x.cls = m.cls) then s.setLink c { l with queue := l.queue ++ [m] }
  else (s.setLink c { l with credits := tput 0 l.credits m.cls (cr - 1) }).depart c m

/-- Send to the destination with route key `k`. While no casement is up the message has no path and is lost with the links
(R436). -/
def State.sendRouted (s : State) (k : Nat) (m : Msg) : State :=
  match s.casementOf k with
  | some c => s.sendAt c m
  | none => s

/-- Send a RSP or DAT message to the requester it names: to this slice's own Porter without a casement, the response of an on-time
window request at its departure on the window's casement (R254), otherwise by R436. -/
def State.reply (s : State) (m : Msg) : State :=
  match m.hold with
  | some w =>
    let c := fieldGet WIN_ENT_CTL.CASEMENT (tget 0 s.front.winAct (WIN_ENT_CTL.word.off + 16 * w.toNat))
    { s with front := { s.front with winResp := s.front.winResp ++ [(w.toNat, c, { m with hold := none })] } }
  | none => if s.ownPorter m.who then s.emit (.porter m) else s.sendRouted (routeKey m.who) m

/-- Send a FWD message to the agent it snoops, counted as an event of its line's lane (R378). -/
def State.snoop (s : State) (m : Msg) : State := (s.event 0x64 (lane := some (s.lane m.line))).sendRouted m.dest m

/-! ### Messages of R116 -/

/-- CMP to a request: status, reason, hint. -/
def cmpMsg (r : Req) (status : Nat) (reason : Nat := 0) (hint : Nat := 0) : Msg :=
  { cls := 2, typ := 0, status := status, label := r.label, who := r.who, tag := r.tag, line := r.line
    hint := hint, reason := reason }

/-- A DAT message to a request; its line is filled in when the data are at hand. -/
def datMsg (r : Req) (typ : Nat) (go : Bool) : Msg :=
  { cls := 3, typ := typ, label := r.label, who := r.who, tag := r.tag, line := r.line, go := go }

/-- A message with a line as payload and its poison: status POISON and PSN when it is poisoned (R13, R48, R397). -/
def Msg.withLine (m : Msg) (d : LineData) (bad : Bool) : Msg :=
  { m with body := .line d, psn := bad, status := if bad then stPoison else m.status }

/-- Send CMP. The NACK_RETRY and SEALED answers are counted as events (R378). -/
def State.complete (s : State) (r : Req) (status : Nat) (reason : Nat := 0) (hint : Nat := 0) : State :=
  let s := if status = stNack then s.event 0x24 (label := some r.label.toNat) else s
  let s := if status = stSealed then s.event 0x26 (label := some r.label.toNat) else s
  s.reply (cmpMsg r status reason hint)

/-- NACK_RETRY decided in the front island, counted in CAT_NACKS (R124). -/
def State.nack (s : State) (r : Req) (hint : Nat) : State := (s.bump CAT_NACKS.COUNT).complete r stNack 0 hint

/-! ### Credit words (R247, R396) -/

/-- The word of R396. -/
def creditWord (pool agent label win count : Nat) : Word :=
  BitVec.ofNat 32 (2 ^ 31 + pool * 2 ^ 28 + agent * 2 ^ 23 + label * 2 ^ 20 + win * 2 ^ 16 + count * 2 ^ 8)

/-- Send a credit word on casement `c`. -/
def State.creditOut (s : State) (c pool agent label win count : Nat) : State :=
  s.emit (.credit c (creditWord pool agent label win count))

/-- Credits that a pool holds in its agent's hand. -/
def State.credit (s : State) (k : Nat) : Nat := tget 0 s.front.poolCred k
/-- Set the credits of a pool. -/
def State.setCredit (s : State) (k n : Nat) : State :=
  { s with front := { s.front with poolCred := tput 0 s.front.poolCred k n } }
/-- The bucket B_l (R246). -/
def State.bucket (s : State) (l : Nat) : Int := tget 0 s.front.bucket l
/-- Set the bucket, which TCL_BUCKET shows. -/
def State.setBucket (s : State) (l : Nat) (v : Int) : State :=
  ({ s with front := { s.front with bucket := tput 0 s.front.bucket l v } }).wrI TCL_BUCKET.BUCKET l (v % 2 ^ 24).toNat

end Sys2Proof.Machine
end

