-- ==== Sys2Proof/Machine/MirSend.lean ====
section
/-! DEFINITION. What the home sends to its partner (R337 to R341): which lines are mirrored, the order and credits per lane, and
the messages that follow a line's changes. -/

namespace Sys2Proof.Machine

/-- The pair is PAIRED, or this side's re-pairing walk has been sent, behind whose messages events are mirrored (R335, R350). -/
def State.pairOn (s : State) : Bool := s.rd MIR_STATUS.STATE = 2 || (s.rd MIR_STATUS.STATE = 5 && s.mir.sentAll)

/-- The seam that the pair crosses is being clocked down: no new mirror message (R349). -/
def State.mirShut (s : State) : Bool := s.mir.shut && s.mirAcross

/-- The line belongs to a carrel of this home's own share in a pair that mirrors (R337). -/
def State.mirCarrel (s : State) (line : LineAddr) : Bool :=
  s.pairOn && s.homesSelf line && (s.carrelOf line).isSome

/-- Changes of the line are mirrored: a carrel line, or with DIRTY_MIR = 1 any line (R337). -/
def State.mirrors (s : State) (line : LineAddr) : Bool :=
  s.pairOn && s.homesSelf line && ((s.carrelOf line).isSome || s.flag MIR_CTL.DIRTY_MIR)

/-- Mirror credits left in a lane: 64 less those in use (R341). -/
def State.mirCredit (s : State) (lane : Nat) : Nat := 64 - tget 0 s.mir.used lane

/-- The kind of a mirror message for an injector (R370): 0 with payload, 1 header only, 2 MCHK. -/
def mirKind (typ : Nat) : Nat := if typ = 9 then 2 else if typ = 0 || (5 ≤ typ && typ ≤ 7) then 0 else 1

/-- A message with its credit leaves on the mirror port with the next SEQ of its lane (R340). A message that a write waits for is
remembered until MACK covers it. -/
def State.mirDepart (s : State) (m : MirMsg) : State :=
  let lane := m.h.lane.toNat
  let q := tget 0 s.mir.txSeq lane
  let h := { m.h with seq := q }
  let s := { s with mir := { s.mir with
    txSeq := tput 0 s.mir.txSeq lane (q + 1)
    used := tput 0 s.mir.used lane (tget 0 s.mir.used lane + 1)
    unacked := s.mir.unacked ++ [MirSent.mk lane q m.wait m.h.line m.data.isSome]
    sent := true } }
  ((s.bump MIR_TX.COUNT).event 0x55).sendOn 6 (mirKind m.typ) (mirKind m.typ)
    (fun _ => .mirror m.typ h m.data m.ldg m.row m.scale)
    (fun s => { s with mir := { s.mir with used := tput 0 s.mir.used lane (tget 0 s.mir.used lane - 1) } })

/-- MCHK and MACK carry no SEQ and take no credit (notes/assumptions/32.md). -/
def State.mirPlain (s : State) (typ lane arg : Nat) : State :=
  let h : MirHdr := ⟨BitVec.ofNat 2 lane, 0, false, false, 0, 0, BitVec.ofNat 32 arg⟩
  let s := { s with mir := { s.mir with sent := true } }
  ((s.bump MIR_TX.COUNT).event 0x55).sendOn 6 (mirKind typ) (mirKind typ) (fun _ => .mirror typ h none none none 0)

/-- Send a mirror message, or let it wait in its lane until a credit returns (R341). -/
def State.mirSend (s : State) (m : MirMsg) : State :=
  if s.mirCredit m.h.lane.toNat = 0 || s.mirShut || s.mir.queue.any (fun x => x.h.lane = m.h.lane) then
    { s with mir := { s.mir with queue := s.mir.queue ++ [m] } }
  else s.mirDepart m

/-- The header of a message about a line: its lane is the line's tag lane (R340). -/
def State.mirHdr (s : State) (line : LineAddr) (st : Nat := 0) (pin psn : Bool := false) : MirHdr :=
  ⟨BitVec.ofNat 2 (s.lane line), BitVec.ofNat 2 st, pin, psn, 0, line, 0⟩

/-- Change the pending write `id` (R139). -/
def State.setWrite (s : State) (id : Nat) (f : PendW → PendW) : State :=
  { s with ord := { s.ord with writes := s.ord.writes.map (fun w => if w.id = id then f w else w) } }

/-- MWR after a write or fill of a line (R337): carrel lines in every state, other lines when DIRTY. `wait` is the pending write
that is acknowledged when MACK covers the message. -/
def State.mirWrite (s : State) (line : LineAddr) (d : LineData) (dirty psn : Bool) (wait : Option Nat := none) : State :=
  if s.mirCarrel line || (dirty && s.mirrors line) then
    let s := match wait with
      | some k => s.setWrite k (fun w => { w with mir := decide (2 ≤ w.r.scope.toNat) })
      | none => s
    let s := { s with mir := { s.mir with noCopy := s.mir.noCopy.filter (· != line) } }
    s.mirSend ⟨0, s.mirHdr line (if dirty then 2 else 1) (s.mirCarrel line) psn, some d, none, none, 0, wait⟩
  else match wait with
    | some k => s.setWrite k (fun w => { w with mir := false })
    | none => s

/-- A header-only message about a line: MCLEAN 1, MDEAD 2, MINV 3 (R339), for lines that are mirrored. `was` says whether a copy
can exist: a carrel line, or a line that was DIRTY. -/
def State.mirLine (s : State) (typ : Nat) (line : LineAddr) (was : Bool) : State :=
  if s.mirCarrel line || (was && s.mirrors line) then
    s.mirSend ⟨typ, s.mirHdr line, none, none, none, 0, none⟩
  else s

/-- MEVICT: a DIRTY copy outside a carrel is evicted here (R338). -/
def State.mirEvict (s : State) (line : LineAddr) : State :=
  if s.rd MIR_STATUS.STATE = 2 || s.rd MIR_STATUS.STATE = 5 then s.mirSend ⟨4, s.mirHdr line, none, none, none, 0, none⟩ else s


end Sys2Proof.Machine
end

