-- ==== Sys2Proof/Machine/Ack.lean ====
section
/-! DEFINITION. Ack points of writes (R139), the tracking behind fences (R141), the dirty-loss report (R351, R352) and the failed
state (R25). -/

namespace Sys2Proof.Machine

/-! ### Fences and ack points -/

/-- FENCE_DONE to a FENCE (R141). -/
def fenceDoneMsg (w : FenceWait) : Msg :=
  { cls := 4, typ := 1, label := w.f.label, who := w.f.who, tag := w.f.tag, line := 0, scope := w.f.scope
    winV := w.f.winV, win := w.f.win, count := w.count, narrow := w.narrow }

/-- A FENCE has what it waits for: its requester's earlier writes at their ack points, and its walk. -/
def State.fenceReady (s : State) (w : FenceWait) : Bool :=
  (w.walk == .none) && w.writes.all (fun k => s.ord.writes.all (fun p => p.id != k))

/-- Answer every FENCE that is ready. -/
def State.fenceCheck (s : State) : State :=
  let done := s.ord.fences.filter (fun w => s.fenceReady w)
  let s' := { s with ord := { s.ord with fences := s.ord.fences.filter (fun w => !(s.fenceReady w)) } }
  done.foldl (fun s w => s.reply (fenceDoneMsg w)) s'

/-- A pending write has reached the ack point of its scope. -/
def PendW.ready (w : PendW) : Bool := !w.exec && !w.txn && !w.mir && !w.far

/-- The CMP of a drain is produced: sent to its requester, or shown in LDG_ROW_DRAIN, which started it. -/
def State.drainAnswer (s : State) (reg : Bool) (m : Msg) : State :=
  if reg then (s.wr LDG_ROW_DRAIN.LAST_STATUS m.status).setFlag LDG_ROW_DRAIN.GO false else s.reply m

/-- Send the answer of a write at its ack point; NOACK suppresses it only when its status is OK (R140). -/
def State.ackOne (s : State) (w : PendW) : State :=
  match w.drain with
  | some (reg, rows) => (s.event 0x31 (label := some w.r.label.toNat) (inc := rows)).drainAnswer reg w.msg
  | none => if w.r.noack && w.msg.status = stOk then s else s.reply w.msg

/-- Answer every pending write at its ack point, then every FENCE that waited for it. -/
def State.ackCheck (s : State) : State :=
  let done := s.ord.writes.filter PendW.ready
  let s' := { s with ord := { s.ord with writes := s.ord.writes.filter (fun w => !w.ready) } }
  (done.foldl (fun s w => s.ackOne w) s').fenceCheck

/-- Record what the next FENCE of a requester covers (R141): kept for agents and Porter channels. -/
def State.cover (s : State) (r : Req) : State :=
  if r.who.kind = .slice then s
  else
    let add (c : Cover) : Cover :=
      { c with posted := min 255 (c.posted + r.noack.toNat), scopes := c.scopes ||| 2 ^ r.scope.toNat }
    let cs := s.ord.covers
    let cs := if cs.any (fun c => c.who = r.who) then cs.map (fun c => if c.who = r.who then add c else c)
      else cs ++ [add ⟨r.who, 0, 0⟩]
    { s with ord := { s.ord with covers := cs } }

/-- Begin tracking an accepted write: its id, and the state that holds it. -/
def State.trackWrite (s : State) (r : Req) (msg : Msg) (exec txn far : Bool) : Nat × State :=
  let k := s.ord.nextId
  let s := s.cover r
  (k, { s with ord := { s.ord with
    nextId := k + 1
    writes := s.ord.writes ++ [⟨k, r, msg, exec, txn, false, far, none⟩] } })

/-! ### The dirty-loss report -/

/-- Write an entry of the ring, which stops when its 128 places are used (R351). -/
def State.lossEntry (s : State) (typ cause line run ts : Nat) : State :=
  let n := s.rd MIR_LOSS_CTL.COUNT
  if n ≥ 128 then (s.setFlag MIR_LOSS_CTL.OVERFLOW true).bump MIR_LOSS_CTL.LOST
  else
    let s := s.wrI MIR_LOSS_LO.LINE_LO n (line % 2 ^ 25)
    let s := s.wrI MIR_LOSS_HI.LINE_HI n (line / 2 ^ 25)
    let s := s.wrI MIR_LOSS_TS.TS n ts
    let s := s.setWord (MIR_LOSS_INFO.word.off + 16 * n)
      (BitVec.ofNat 32 (2 ^ 31 + typ * 2 ^ 28 + cause * 2 ^ 24 + run))
    s.wr MIR_LOSS_CTL.COUNT (n + 1)

/-- Group ascending lines into runs of consecutive lines: first line and length, at most 2^24 − 1 (R352). -/
def lineRuns : List Nat → List (Nat × Nat)
  | [] => []
  | l :: ls =>
    match lineRuns ls with
    | (a, n) :: rest => if l + 1 = a && n + 1 < 2 ^ 24 then (l, n + 1) :: rest else (l, 1) :: (a, n) :: rest
    | [] => [(l, 1)]

/-- Insert a line into an ascending list without repeats. -/
def lineInsert (l : Nat) : List Nat → List Nat
  | [] => [l]
  | x :: xs => if l < x then l :: x :: xs else if l = x then x :: xs else x :: lineInsert l xs

/-- Write LINES entries for a set of lines with a cause (1 RETIRE, 2 FAILED, 3 WB_LOST, 4 COPY_ONLY, 5 RESTRIPE). -/
def State.lossLines (s : State) (cause : Nat) (lines : List LineAddr) : State :=
  (lineRuns (lines.foldl (fun a l => lineInsert l.toNat a) [])).foldl
    (fun s r => s.lossEntry 1 cause r.1 r.2 s.ts) s

/-- The DIRTY lines of the tags. -/
def State.dirtyLines (s : State) : List LineAddr :=
  s.stk.tags.foldr (fun e a =>
    let a := if e.2.s1 = .dirty then lineOf e.2.sector true :: a else a
    if e.2.s0 = .dirty then lineOf e.2.sector false :: a else a) []

/-- A DIRTY line covered by an acknowledged mirror message while the pair is PAIRED (R352). -/
def State.mirCovered (s : State) (line : LineAddr) : Bool :=
  s.rd MIR_STATUS.STATE = 2 && s.mirrors line
    && s.mir.unacked.all (fun u => u.line != line) && s.mir.queue.all (fun u => u.h.line != line)

/-! ### The failed state -/

/-- Enter the failed state (R25): PARKED from now on, no answer to link checks, the live output deasserted, the ISLAND FAILED
entry with its cause, and LINES entries for the dirty lines (R352). -/
def State.fail (s : State) (cls code : Nat) : State :=
  if s.front.failed then s
  else
    let s := { s with front := { s.front with failed := true }, pins := { s.pins with selfLive := false } }
    let s := s.fault 2 2 3 (detail := cls <<< 8 ||| code) (srcKind := 8) (irq := true)
    s.lossLines 2 (s.dirtyLines.filter (fun l => s.homesSelf l && !(s.mirCovered l)))

end Sys2Proof.Machine
end

