-- ==== Sys2Proof/Machine/StackOps.lean ====
section
/-! DEFINITION. The tag array, age ranks, the data array and its bank jobs, the far port's queues, and the choice and eviction of
a victim (R45 to R51, R70 to R75, R401, R402). -/

namespace Sys2Proof.Machine

/-! ### Tag words -/

/-- The state of a line of the sector. -/
def TagW.st (t : TagW) (b : Bool) : LineSt := if b then t.s1 else t.s0
/-- The poison bit of a line. -/
def TagW.p (t : TagW) (b : Bool) : Bool := if b then t.p1 else t.p0
/-- Set a line's state and poison. -/
def TagW.put (t : TagW) (b : Bool) (st : LineSt) (p : Bool) : TagW :=
  if b then { t with s1 := st, p1 := p } else { t with s0 := st, p0 := p }
/-- A line state that holds data. -/
def LineSt.live : LineSt → Bool
  | .clean | .dirty => true
  | .inv | .dead => false
/-- Valid (R71). -/
def TagW.valid (t : TagW) : Bool := t.s0.live || t.s1.live
/-- Dead (R71). -/
def TagW.isDead (t : TagW) : Bool := !t.valid && (t.s0 == .dead || t.s1 == .dead)
/-- Invalid (R71). -/
def TagW.isInv (t : TagW) : Bool := !t.valid && !t.isDead
/-- At least one line is DIRTY. -/
def TagW.dirty (t : TagW) : Bool := t.s0 == .dirty || t.s1 == .dirty

/-- The tag word of a way of a set. -/
def State.tag (s : State) (set way : Nat) : TagW := tget TagW.empty s.stk.tags (set * 32 + way)

/-- Write a tag word and the way's bit of the set's dirty-way vector (R50). -/
def State.setTag (s : State) (set way : Nat) (t : TagW) : State :=
  let v := tget 0 s.stk.dirtyVec set
  let bit : BitVec 32 := 1 <<< way
  { s with stk := { s.stk with
    tags := tput TagW.empty s.stk.tags (set * 32 + way) t
    dirtyVec := tput 0 s.stk.dirtyVec set (if t.dirty then v ||| bit else v &&& ~~~bit) } }

/-- Record a set as tag-lost; with all four records in use the slice fails (R51). -/
def State.tagLost (s : State) (set : Nat) : State :=
  let held := (List.range 4).filter (s.flagI STK_TAG_LOST.LOST)
  if held.any (fun n => s.rdI STK_TAG_LOST.SET n = set) then s
  else
    let s := s.fault 1 2 1 (detail := set)
    match (List.range 4).find? (fun n => !(s.flagI STK_TAG_LOST.LOST n)) with
    | some n => (s.wrI STK_TAG_LOST.SET n set).setFlagI STK_TAG_LOST.LOST n true
    | none => s.fail 1 2

/-- The set is recorded tag-lost. -/
def State.isTagLost (s : State) (set : Nat) : Bool :=
  (List.range 4).any (fun n => s.flagI STK_TAG_LOST.LOST n && s.rdI STK_TAG_LOST.SET n = set)

/-- The tag words of a set are read (R50): a single-bit error is corrected in the pass; a double-bit error invalidates the way,
and the set becomes tag-lost unless its dirty-way vector, with correct parity, shows the way clean. -/
def State.readTags (s : State) (set : Nat) : State :=
  (List.range s.ways).foldl (fun s w =>
    let t := s.tag set w
    match t.ecc with
    | .ok => s
    | .single => s.setTag set w { t with ecc := .ok }
    | .double =>
      let wasDirty := (tget 0 s.stk.dirtyVec set).getLsbD w || tget false s.stk.vecBad set
      let s := s.setTag set w TagW.empty
      if wasDirty then s.tagLost set else s) s

/-- The way whose valid or dead tag matches the line's sector (R71). -/
def State.lookup (s : State) (line : LineAddr) : Option Nat :=
  (s.setWays (lineSet line)).find? (fun w =>
    let t := s.tag (lineSet line) w
    !t.isInv && t.sector = granule line)

/-- The state of a line: INV when no way matches. -/
def State.lineSt (s : State) (line : LineAddr) : LineSt :=
  match s.lookup line with
  | some w => (s.tag (lineSet line) w).st (lineBit line)
  | none => .inv

/-- The poison bit of a resident line. -/
def State.lineP (s : State) (line : LineAddr) : Bool :=
  match s.lookup line with
  | some w => (s.tag (lineSet line) w).p (lineBit line)
  | none => false

/-- Set a resident line's state and poison; nothing when no way matches. -/
def State.setLine (s : State) (line : LineAddr) (st : LineSt) (p : Bool) : State :=
  match s.lookup line with
  | some w => s.setTag (lineSet line) w ((s.tag (lineSet line) w).put (lineBit line) st p)
  | none => s

/-! ### Age ranks (R73) -/

/-- The rank of a way. -/
def State.rank (s : State) (set way : Nat) : Nat := tget way s.stk.ranks (set * 32 + way)
/-- Write a rank. -/
def State.setRank (s : State) (set way r : Nat) : State :=
  { s with stk := { s.stk with ranks := tput way s.stk.ranks (set * 32 + way) r } }

/-- Move to 0: every way with a rank below gains 1. -/
def State.touch (s : State) (set way : Nat) : State :=
  let r := s.rank set way
  let s := (List.range s.ways).foldl (fun s' w =>
    if s.rank set w < r then s'.setRank set w (s.rank set w + 1) else s') s
  s.setRank set way 0

/-- Move to oldest: every way with a rank above loses 1. -/
def State.age (s : State) (set way : Nat) : State :=
  let r := s.rank set way
  let s := (List.range s.ways).foldl (fun s' w =>
    if r < s.rank set w then s'.setRank set w (s.rank set w - 1) else s') s
  s.setRank set way (s.ways - 1)

/-- The way with the highest rank of a list. -/
def State.oldest (s : State) (set : Nat) (l : List Nat) : Option Nat :=
  l.foldl (fun o w => match o with
    | none => some w
    | some v => if s.rank set v < s.rank set w then some w else some v) none

/-! ### The data array -/

/-- One beat of the array. -/
def State.beat (s : State) (phys row b : Nat) : Beat := tget 0 s.stk.beats (beatKey phys row b)
/-- Store one beat. -/
def State.setBeat (s : State) (phys row b : Nat) (d : Beat) : State :=
  { s with stk := { s.stk with beats := tput 0 s.stk.beats (beatKey phys row b) d } }

/-- The physical bank that serves a way of a set: in mirrored halves the lower copy, or its partner where the lower logical bank
has no physical bank (R285). -/
def State.serving (s : State) (set way : Nat) : Nat :=
  let lb := s.lbank set way
  if s.stk.halves && s.stk.lostLb.any (· = lb) then s.phys (lb + s.rot) else s.phys lb

/-- The physical banks that a write of the way reaches: the serving bank, in mirrored halves both copies (R285), and during a
retirement copy of its logical bank the spare too (R66). -/
def State.writeBanks (s : State) (set way : Nat) : List Nat :=
  let lb := s.lbank set way
  let one := s.phys lb :: (if s.flag STK_BANK_STATE.COPY_BUSY && s.rd STK_BANK_STATE.COPY_SRC = lb then [s.spare] else [])
  if s.stk.halves then
    (if s.stk.lostLb.any (· = lb) then [] else one)
      ++ (if s.stk.lostLb.any (· = lb + s.rot) then [] else [s.phys (lb + s.rot)])
  else one

/-- The line that the array holds in a way. -/
def State.lineData (s : State) (set way : Nat) (bit : Bool) : LineData :=
  let b := beatOf set way bit
  let p := s.serving set way
  s.beat p (rowOf set) (b + 1) ++ s.beat p (rowOf set) b

/-- Store a line into a way. A corrective write queued for one of its beats is discarded (R49). -/
def State.putLine (s : State) (set way : Nat) (bit : Bool) (d : LineData) : State :=
  let b := beatOf set way bit
  (s.writeBanks set way).foldl (fun s p =>
    let s := (s.setBeat p (rowOf set) b (d.extractLsb' 0 512)).setBeat p (rowOf set) (b + 1) (d.extractLsb' 512 512)
    let q := (tget [] s.stk.corr p).filter (fun e => e.1 != rowOf set * 16 + b && e.1 != rowOf set * 16 + b + 1)
    { s with stk := { s.stk with corr := tput [] s.stk.corr p q } }) s

/-! ### Bank pair lanes (R19, R27, R254) -/

/-- The key of a front ↔ bank pair lane. -/
def laneKey (pair : Nat) (lane : Bool) : Nat := pair * 2 + lane.toNat

/-- The lane of a command for a physical bank: pair 8 has one; while a window is valid lane 0 carries window commands only and
lane 1 every other (R254); otherwise the lane of the bank's number (notes/assumptions/11.md). -/
def State.jobLane (s : State) (phys : Nat) (win : Bool) : Nat :=
  let pair := s.pairOf phys
  if pair = 8 then laneKey 8 false
  else if s.rd WIN_CTL.ACTIVE != 0 then laneKey pair (!win)
  else laneKey pair (phys % 2 = 1)

/-- The jobs of a lane that the bank has not taken. -/
def State.jobs (s : State) (k : Nat) : List BankJob := tget [] s.front.f2b k

/-- The lane of a way's serving bank is full (R19, R22). -/
def State.bankFull (s : State) (set way : Nat) (win : Bool) : Bool :=
  decide (16 ≤ (s.jobs (s.jobLane (s.serving set way) win)).length)

/-- Enter a job into its lane; what does not fit is held at the sender, in order (R22). -/
def State.pushJob (s : State) (j : BankJob) : State :=
  let k := s.jobLane j.phys j.win.isSome
  { s with front := { s.front with f2b := tput [] s.front.f2b k (s.jobs k ++ [j]) } }

/-- The window that a read is for (R254). -/
def Act.win : Act → Option (BitVec 4)
  | .send m => m.hold
  | _ => none

/-- A read of a resident line from its bank, with what is done with it. -/
def State.readJob (s : State) (set way : Nat) (line : LineAddr) (act : Act) : State :=
  let bit := lineBit line
  s.pushJob ⟨s.serving set way, rowOf set, beatOf set way bit, set, way, line, false, act.win,
    s.lineData set way bit, (s.tag set way).p bit, act, none⟩

/-- A write of a line into a way: the array takes it in the lane's order. -/
def State.writeJob (s : State) (set way : Nat) (line : LineAddr) (d : LineData) (win : Option (BitVec 4) := none) : State :=
  let bit := lineBit line
  let s := s.putLine set way bit d
  s.pushJob ⟨s.serving set way, rowOf set, beatOf set way bit, set, way, line, true, win, d, false, .fill, none⟩

/-! ### The far port (R401, R402) -/

/-- The sub-port of a line: PA[7] in S128, 0 in S64. -/
def State.subOf (s : State) (line : LineAddr) : Bool := !s.s64 && lineBit line

/-- Credits in hand for reads (write false) or writes of a sub-port. -/
def State.farCredit (s : State) (sub write : Bool) : Nat := tget 0 s.stk.farCred (2 * sub.toNat + write.toNat)
/-- Set the credits. -/
def State.setFarCredit (s : State) (sub write : Bool) (n : Nat) : State :=
  { s with stk := { s.stk with farCred := tput 0 s.stk.farCred (2 * sub.toNat + write.toNat) n } }

/-- A read of the line can be issued: a credit in hand and fewer than 128 reads outstanding. -/
def State.farReadRoom (s : State) (line : LineAddr) : Bool :=
  let sub := s.subOf line
  decide (0 < s.farCredit sub false) && decide ((s.stk.farReads.filter (fun r => r.sub = sub)).length < 128)

/-- A write can be issued: a credit in hand and fewer than 64 writes outstanding. -/
def State.farWriteRoom (s : State) (sub : Bool) : Bool :=
  decide (0 < s.farCredit sub true) && decide ((s.stk.farWrites.filter (fun r => r.sub = sub)).length < 64)

/-- A TAG not in `used`: the first free one from a start that the spec leaves open (notes/assumptions/4.md). -/
def pickTag (start : Nat) (used : List (BitVec 11)) : BitVec 11 :=
  match (List.range (used.length + 1)).find? (fun k => !(used.contains (BitVec.ofNat 11 (start + k)))) with
  | some k => BitVec.ofNat 11 (start + k)
  | none => BitVec.ofNat 11 start

/-- Issue a far-port read. -/
def State.farRead (s : State) (line : LineAddr) (fill : Option (Nat × Nat)) (pf : Bool) (acts : List Act) : State :=
  let sub := s.subOf line
  let (c, s) := s.fresh
  let used := (s.stk.farReads.filter (fun r => r.sub = sub)).map (·.tag) ++ (s.stk.farWrites.filter (fun r => r.sub = sub)).map (·.tag)
  let tag := pickTag (Config.freeNat c) used
  let s := s.setFarCredit sub false (s.farCredit sub false - 1)
  let s := { s with stk := { s.stk with farReads := s.stk.farReads ++ [FarRead.mk sub tag line fill pf acts] } }
  s.sendOn 4 0 0 (fun _ => .farRead sub tag line) (fun s => s.setFarCredit sub false (s.farCredit sub false + 1))

/-- Issue a far-port write that has its room. -/
def State.farWriteGo (s : State) (w : FarWrite) : State :=
  let (c, s) := s.fresh
  let used := (s.stk.farReads.filter (fun r => r.sub = w.sub)).map (·.tag) ++ (s.stk.farWrites.filter (fun r => r.sub = w.sub)).map (·.tag)
  let tag := pickTag (Config.freeNat c) used
  let s := s.setFarCredit w.sub true (s.farCredit w.sub true - 1)
  let s := { s with stk := { s.stk with farWrites := s.stk.farWrites ++ [{ w with tag := tag }] } }
  (s.event 0x53 (inc := 8)).sendOn 4 1 1 (fun _ => .farWrite w.sub tag w.line w.psn w.data)
    (fun s => s.setFarCredit w.sub true (s.farCredit w.sub true + 1))

/-- Write a line to memory (R401), with its poison marker; a write without room waits, in order per sub-port. -/
def State.farWrite (s : State) (line : LineAddr) (d : LineData) (psn : Bool) (why : FarWhy) : State :=
  let sub := s.subOf line
  let w : FarWrite := ⟨sub, 0, line, psn, d, why⟩
  if s.farWriteRoom sub && s.stk.farQ.all (fun x => x.sub != sub) then s.farWriteGo w
  else { s with stk := { s.stk with farQ := s.stk.farQ ++ [w] } }

/-- A poison marker for a line whose data are not given: the whole line with PSN = 1 (R94). -/
def State.farMarker (s : State) (line : LineAddr) (why : FarWhy) : State :=
  let (c, s) := s.fresh
  s.farWrite line (Config.freeLine c) true why

/-- Issue the writes that wait, while there is room. -/
def State.farDrain (s : State) : State :=
  s.stk.farQ.foldl (fun s w =>
    if s.farWriteRoom w.sub && (s.stk.farQ.find? (fun x => x.sub = w.sub)) = some w then
      ({ s with stk := { s.stk with farQ := s.stk.farQ.erase w } }).farWriteGo w
    else s) s

/-! ### The atomic unit as a place of data (R131) -/

/-- The unit's entry for a line. -/
def State.atomLine (s : State) (line : LineAddr) : Option AtomLine := s.coh.atoms.find? (fun a => a.line = line)

/-- Take a line out of the unit's list. -/
def State.dropAtom (s : State) (line : LineAddr) : State :=
  { s with coh := { s.coh with atoms := s.coh.atoms.filter (fun a => a.line != line) } }

/-- The atomic unit waits for the line's data. -/
def State.loading (s : State) (line : LineAddr) : Bool :=
  match s.atomLine line with
  | some a => a.data.isNone
  | none => false

/-- Append an action to what waits, in acceptance order, for the data of a line that are being fetched (R30, R131). -/
def State.waitOn (s : State) (line : LineAddr) (act : Act) : State :=
  let s := { s with coh := { s.coh with atoms := s.coh.atoms.map (fun (a : AtomLine) =>
    if a.line = line && a.data.isNone then { a with acts := a.acts ++ [act] } else a) } }
  if s.loading line then s
  else { s with stk := { s.stk with farReads := s.stk.farReads.map (fun (r : FarRead) =>
    if r.line = line then { r with acts := r.acts ++ [act] } else r) } }

/-- The unit returns a line to its bank (R131). A line whose data are still being fetched stays. -/
def State.releaseAtom (s : State) (line : LineAddr) : State :=
  match s.atomLine line with
  | some ⟨_, some d, _⟩ =>
    let s := s.dropAtom line
    match s.lookup line with
    | some w => s.writeJob (lineSet line) w line d
    | none => s
  | _ => s

/-! ### Victims (R74, R75, R338, R346) -/

/-- A way that a far read will fill, or whose line is being fetched for the atomic unit, is not taken as a victim
(notes/assumptions/12.md). -/
def State.fillPending (s : State) (set way : Nat) : Bool :=
  s.stk.farReads.any (fun r => r.fill = some (set, way))
    || s.coh.atoms.any (fun a => a.data.isNone && lineSet a.line = set && s.lookup a.line = some way)

/-- choose_way (R74): the way, the PIN it is given, and whether a carrel sector spilled. -/
def State.chooseWay (s : State) (set : Nat) (line : LineAddr) : Option Nat × Bool × Bool :=
  let ways := s.setWays set
  let pick (pool : List Nat) (last : Nat → Bool) : Option Nat :=
    match s.oldest set (pool.filter (fun w => (s.tag set w).isDead)) with
    | some v => some v
    | none => match s.oldest set (pool.filter (fun w => (s.tag set w).isInv)) with
      | some v => some v
      | none => s.oldest set (pool.filter last)
  let cache := pick (ways.filter (s.cacheWay set)) (fun _ => true)
  match s.carrelOf line with
  | some c =>
    if s.rdI ALT_CRL_CTL.CUR c = 0 then (cache, false, false)
    else match pick (ways.filter (fun w => (s.roles set w).contains c)) (fun w => !(s.tag set w).pin) with
      | some v => (some v, true, false)
      | none => (cache, false, true)
  | none => (cache, false, false)

/-- Write back one line of a way through the far port (R75): it is read from its bank, and its poison goes with it. -/
def State.writeBackLine (s : State) (set way : Nat) (bit : Bool) (why : FarWhy) : State :=
  let t := s.tag set way
  s.readJob set way (lineOf t.sector bit) (.writeBack why (t.p bit))

/-- What eviction does with one line (R75): DIRTY lines are written back, a DIRTY copy outside a carrel is reported (R338), a
DIRTY line of an adopted share out of reach is discarded and reported (R346). -/
def State.evictLine (s : State) (set way : Nat) (bit : Bool) (why : FarWhy) : State :=
  let t := s.tag set way
  let line := lineOf t.sector bit
  let s := s.releaseAtom line
  if t.st bit != .dirty then s
  else if s.isCopy line then (if (s.carrelOf line).isSome then s else s.mirEvict line)
  else if s.adopted line && s.flag MIR_STATUS.REACH then s.lossLines 4 [line]
  else
    let s := (s.event 0x62 (lane := some (s.laneOf set))).writeBackLine set way bit why
    s.mirLine 1 line true

/-- Evict the sector of a way. -/
def State.evictWay (s : State) (set way : Nat) (why : FarWhy := .victim) : State :=
  let s := s.evictLine set way false why
  let s := s.evictLine set way true why
  s.setTag set way TagW.empty

/-- Allocate a way for a line's sector (R74, R75): evict what it held, take the new tag with both lines INV, and move to
rank 0. None when the choice is a way that waits for its fill. -/
def State.allocate (s : State) (line : LineAddr) (pf : Bool := false) : Option Nat × State :=
  let set := lineSet line
  match s.chooseWay set line with
  | (some w, pin, spill) =>
    if s.fillPending set w then (none, s)
    else
      let s := if spill then (s.bump ALT_SPILL.COUNT).event 0x63 (lane := some (s.laneOf set)) else s
      let s := s.evictWay set w
      let s := s.setTag set w ⟨granule line, .inv, .inv, false, false, pin, pf, .ok⟩
      (some w, s.touch set w)
  | (none, _, _) => (none, s)

/-- The way a line has or would be given: the matching way, or the victim; none when the victim waits for a fill. -/
def State.wayFor (s : State) (line : LineAddr) : Option Nat :=
  match s.lookup line with
  | some w => some w
  | none => match s.chooseWay (lineSet line) line with
    | (some w, _, _) => if s.fillPending (lineSet line) w then none else some w
    | (none, _, _) => none

/-- Write a whole line into the Stacks as DIRTY (R117, R118, R120), allocating by R74 when its sector is absent; the event
counts as a write for the ranks (R73), and the write is mirrored (R337). -/
def State.storeDirty (s : State) (line : LineAddr) (d : LineData) (psn : Bool) (wait : Option Nat := none)
    (win : Option (BitVec 4) := none) : State :=
  let set := lineSet line
  let (w?, s) := match s.lookup line with
    | some w => (some w, s.touch set w)
    | none => s.allocate line
  match w? with
  | some w =>
    let s := s.setTag set w ((s.tag set w).put (lineBit line) .dirty psn)
    let s := s.waitOn line (.whole d psn)
    let s := if s.loading line then s else (s.dropAtom line).writeJob set w line d win
    s.mirWrite line d true psn wait
  | none => s.farWrite line d psn .victim

end Sys2Proof.Machine
end

