-- ==== Sys2Proof/Machine/Accept.lean ====
section
/-! DEFINITION. What surrounds the acceptance of a request at its tag lane: slots (R381, R382), credits and buckets (R245 to R248),
the Catalogue's entries (R106 to R110), NACK and reservations (R124, R125), the predictor (R130), release records (R145, R146),
measurement and prefetch training (R79, R98, R99). -/

namespace Sys2Proof.Machine

/-! ### The request of a command -/

/-- The request that a REQ command carries. -/
def reqOf : Instr → Option Req
  | .rdS r | .rdX r | .upg r | .rdOnce r | .rdLast r | .wrLine r _ | .wrPart r _ _ | .atom r _ | .evict r | .range r _
  | .ledgerOpAccept r _ => some r
  | _ => none

/-- The request is a write of data: WR_LINE, WR_PART, ATOM. -/
def isWrite : Instr → Bool
  | .wrLine _ _ | .wrPart _ _ _ | .atom _ _ => true
  | _ => false

/-- The request is a demand read. -/
def isRead : Instr → Bool
  | .rdS _ | .rdX _ | .upg _ | .rdOnce _ | .rdLast _ => true
  | _ => false

/-- The charge of R246, in 64 B units. -/
def chargeOf : Instr → Int
  | .rdS _ | .rdX _ | .upg _ | .rdOnce _ | .rdLast _ | .wrLine _ _ | .wrPart _ _ _ | .atom _ _ => 2
  | .ledgerOpAccept _ o =>
    match o.kind with
    | .lacc | .laccS => 1 + o.beats.toNat
    | .ldrain | .lclr => 2
    | .lsnap => 20
    | _ => 0
  | _ => 0

/-! ### Slots (R381, R382) -/

/-- The lane's slot of this cycle is used. -/
def State.useSlot (s : State) (lane : Nat) (served : Bool) : State :=
  let s := s.event 0x10 (lane := some lane)
  let s := s.event (if served then 0x11 else 0x12) (lane := some lane)
  { s with front := { s.front with used := tput 0 s.front.used lane 1, accN := s.front.accN + 1 } }

/-- A SERVED slot. -/
def State.slotServed (s : State) (lane : Nat) : State := s.useSlot lane true
/-- A WASTED slot of the NACK kind. -/
def State.slotNack (s : State) (lane : Nat) : State := (s.event 0x15 (lane := some lane)).useSlot lane false
/-- A WASTED slot of the replay kind. -/
def State.slotReplay (s : State) (lane : Nat) : State := (s.event 0x16 (lane := some lane)).useSlot lane false

/-- A request that cannot be accepted in this cycle stays presented, with its cause (R383: 0 FAR, 1 BANK, 2 LEDGER, 3 OTHER). -/
def State.present (s : State) (lane cause : Nat) (i : Instr) : State :=
  { s with front := { s.front with
    presented := s.front.presented.filter (fun p => p.cmd != i) ++ [⟨lane, cause, i⟩] } }

/-! ### Windows and pools (R245, R251) -/

/-- A field of the active configuration of windows and plans. -/
def State.win (s : State) (f : Field) (i : Nat) : Nat := fieldGet f (tget 0 s.front.winAct (f.off + f.stride * i))
/-- A field of the active label settings. -/
def State.tcl (s : State) (f : Field) (i : Nat) : Nat :=
  fieldGet f (tget (resetWord s.s64 (f.off + f.stride * i)) s.front.tclAct (f.off + f.stride * i))
/-- Window `w` is active. -/
def State.winOn (s : State) (w : Nat) : Bool := s.bit WIN_CTL.ACTIVE w
/-- The active window whose AGENT and LABEL a request has. -/
def State.winOf (s : State) (r : Req) : Option Nat :=
  if r.who.kind != .agent then none
  else (List.range 16).find? (fun w => s.winOn w && s.win WIN_ENT_CTL.AGENT w = r.who.id.toNat
    && s.win WIN_ENT_CTL.LABEL w = r.label.toNat)

/-- The pool that a request's credit comes from: kind 0 REQ, 1 Ledger. -/
def State.poolOf (s : State) (r : Req) (kind : Nat) : Nat :=
  if r.who.kind != .agent then porterPool r.who.pslice
  else match s.winOf r with
    | some w => if kind = 0 then winPool w else poolKey kind r.label r.who.id
    | none => poolKey kind r.label r.who.id

/-- REQ or Ledger pool of a command. -/
def poolKind : Instr → Nat
  | .ledgerOpAccept _ _ => 1
  | _ => 0

/-- Requests of a pool that have arrived and wait for their lane. -/
def State.inBuffer (s : State) (k : Nat) : Nat :=
  (s.front.inbox.filter (fun i => match reqOf i with
    | some r => s.poolOf r (poolKind i) = k
    | none => false)).length

/-- The allowance of a power cap is used up in this frame (R328). -/
def State.capUsed (s : State) : Bool :=
  match s.front.allow with
  | some a => decide (a ≤ s.front.accN)
  | none => false

/-- A transition into RETAIN or OFF_READY withholds credits: of labels 1 to 7 from E1, of label 0 from E3 (R313). -/
def State.entryHolds (s : State) (l : Nat) : Bool :=
  let st := s.rd PWR_STATUS.STATE
  (st = 6 || st = 8) && (l != 0 || decide (3 ≤ s.rd PWR_STATUS.PHASE))

/-- Label `l` is withheld: its bucket is negative, it is class 0 and not provisioned, the power cap's allowance is used up, or the slice
enters RETAIN (R247, R248, R313, R328). -/
def State.withheld (s : State) (l : Nat) : Bool :=
  decide (s.bucket l < 0) || (l = 0 && s.tcl TCL_RATE.RATE 0 = 0) || (l != 0 && s.capUsed) || s.entryHolds l

/-- The slice is online: its casement credits are granted (R297). -/
def State.online (s : State) : Bool := s.rd SLC_START.STATE = 5

/-- Credits of a pool that are outstanding: in its holder's hand, or used by a request that waits at its lane or in a Ledger lane. -/
def State.outstanding (s : State) (k : Nat) : Nat :=
  s.credit k + s.inBuffer k
    + s.ldg.lane.foldl (fun n e => n + (e.2.filter (fun j => j.credit && s.poolOf j.r 1 = k)).length) 0

/-- Credits that a pool of kind 0 or 1 of label `l` and agent `a` is owed and may have now (R247, R250). -/
def State.want (s : State) (kind : Nat) (l : BitVec 3) (a : BitVec 5) : Nat :=
  if !s.online || s.withheld l.toNat then 0 else s.tcl TCL_CRED.CRED l.toNat - s.outstanding (poolKey kind l a)
/-- Credits that the pool of window `w` is owed (R245). -/
def State.wantWin (s : State) (w : Nat) : Nat := if s.online && s.winOn w then 8 - s.outstanding (winPool w) else 0
/-- Credits that the pool of the Porter egress of slice `p` is owed (R245). -/
def State.wantPorter (s : State) (p : BitVec 6) : Nat :=
  if s.online && p != s.pslice then 2 - s.outstanding (porterPool p) else 0

/-- Return one credit of the pool of request `r`, unless it is held as owed (R247, R250). The credits of windows and of Porter egress
pools are never withheld. -/
def State.creditBack (s : State) (r : Req) (kind : Nat) : State :=
  let k := s.poolOf r kind
  let give (s : State) (c : Option Nat) (pool agent label win : Nat) : State :=
    match c with
    | some c => (s.setCredit k (s.credit k + 1)).creditOut c pool agent label win 1
    | none => s
  if s.ownPorter r.who then s
  else if r.who.kind != .agent then
    (if s.wantPorter r.who.pslice = 0 then s else give s (s.casementOf (routeKey r.who)) 0 0 0 0)
  else match (if kind = 0 then s.winOf r else none) with
    | some w => if s.wantWin w = 0 then s else give s (some (s.win WIN_ENT_CTL.CASEMENT w)) 6 r.who.id.toNat 0 w
    | none =>
      if s.want kind r.label r.who.id = 0 then s
      else give s (s.casementOf r.who.id.toNat) kind r.who.id.toNat r.label.toNat 0

/-- Charge a label's bucket (R246): labels 1 to 7 with RATE = 0 are not charged. -/
def State.charge (s : State) (l : Nat) (n : Int) : State :=
  if l != 0 && s.tcl TCL_RATE.RATE l = 0 then s else s.setBucket l (s.bucket l - n)

/-- The request leaves the request buffer: its credit is returned (a Ledger credit returns when the Ledger lane frees the
entry, R28), its label is charged, and it is counted as accepted. -/
def State.take (s : State) (i : Instr) (r : Req) (charged : Bool := true) : State :=
  let here := s.front.inbox.contains i
  let s := { s with front := { s.front with
    inbox := s.front.inbox.erase i
    presented := s.front.presented.filter (fun p => p.cmd != i) } }
  let s := if charged && r.who.kind != .slice && !(s.ownPorter r.who) then s.charge r.label.toNat (chargeOf i) else s
  let s := if here && (poolKind i) = 0 then s.creditBack r 0 else s
  s.event 0x20 (lane := some (s.lane r.line)) (label := some r.label.toNat)

/-! ### The Catalogue (R106 to R110) -/

/-- The Catalogue set of a line. -/
def State.catSet (s : State) (line : LineAddr) : Nat := if s.s64 then lineSet line % 8192 else lineSet line
/-- Entry `e` of a Catalogue set. -/
def State.cat (s : State) (set e : Nat) : CatEnt := tget CatEnt.empty s.coh.cat (set * 16 + e)
/-- Write an entry. -/
def State.setCat (s : State) (set e : Nat) (c : CatEnt) : State :=
  { s with coh := { s.coh with cat := tput CatEnt.empty s.coh.cat (set * 16 + e) c } }
/-- The entry that holds a line. -/
def State.catFind (s : State) (line : LineAddr) : Option Nat :=
  (List.range 16).find? (fun e => let c := s.cat (s.catSet line) e; c.st != .free && c.line = line)
/-- The agents that have timed out (R126). -/
def State.lostAgents (s : State) : BitVec 32 := BitVec.ofNat 32 (s.rd CAT_AGENT_LOST.AGENT)
/-- The rank of an entry. -/
def State.catRank (s : State) (set e : Nat) : Nat := tget e s.coh.ranks (set * 16 + e)
/-- Move an entry to rank 0 (R109). -/
def State.catTouch (s : State) (set e : Nat) : State :=
  let r := s.catRank set e
  let put (s' : State) (k v : Nat) : State :=
    { s' with coh := { s'.coh with ranks := tput k s'.coh.ranks (set * 16 + k) v } }
  put ((List.range 16).foldl (fun s' k => if s.catRank set k < r then put s' k (s.catRank set k + 1) else s') s) e 0

/-- Record a Catalogue set as lost; with all four records in use the slice fails (R110). -/
def State.catLost (s : State) (set : Nat) : State :=
  let held := (List.range 4).filter (s.flagI CAT_LOST.LOST)
  if held.any (fun n => s.rdI CAT_LOST.SET n = set) then s
  else
    let s := s.fault 3 2 1 (detail := set)
    match (List.range 4).find? (fun n => !(s.flagI CAT_LOST.LOST n)) with
    | some n => (s.wrI CAT_LOST.SET n set).setFlagI CAT_LOST.LOST n true
    | none => s.fail 3 2
/-- The set is recorded Catalogue-lost. -/
def State.isCatLost (s : State) (set : Nat) : Bool :=
  (List.range 4).any (fun n => s.flagI CAT_LOST.LOST n && s.rdI CAT_LOST.SET n = set)
/-- The entries of a set are read: single-bit errors are corrected, a double-bit error frees the entry and loses the set. -/
def State.readCat (s : State) (set : Nat) : State :=
  (List.range 16).foldl (fun s e =>
    let c := s.cat set e
    match c.ecc with
    | .ok => s
    | .single => s.setCat set e { c with ecc := .ok }
    | .double => (s.setCat set e CatEnt.empty).catLost set) s

/-- The entry that a new line takes (R109): the lowest free one, else the oldest SHR not BUSY, else the oldest EXC not BUSY. -/
def State.catVictim (s : State) (set : Nat) : Option Nat :=
  let oldest (l : List Nat) : Option Nat := l.foldl (fun o e => match o with
    | none => some e
    | some v => if s.catRank set v < s.catRank set e then some e else some v) none
  match (List.range 16).find? (fun e => (s.cat set e).st == .free && !(s.cat set e).busy) with
  | some e => some e
  | none => match oldest ((List.range 16).filter (fun e => (s.cat set e).st == .shr && !(s.cat set e).busy)) with
    | some e => some e
    | none => oldest ((List.range 16).filter (fun e => (s.cat set e).st == .exc && !(s.cat set e).busy))

/-- Write the entry of a line: it takes the free or present place and rank 0. -/
def State.putEntry (s : State) (line : LineAddr) (st : CatSt) (fv : Bool) (ptr : BitVec 5) (vec : BitVec 32)
    (busy : Bool := false) : State :=
  let set := s.catSet line
  let e? := match s.catFind line with
    | some e => some e
    | none => (List.range 16).find? (fun e => (s.cat set e).st == .free && !(s.cat set e).busy)
  match e? with
  | some e => (s.setCat set e ⟨st, busy, fv, ptr, vec, line, .ok⟩).catTouch set e
  | none => s

/-- Free the entry of a line. -/
def State.freeEntry (s : State) (line : LineAddr) : State :=
  match s.catFind line with
  | some e => s.setCat (s.catSet line) e CatEnt.empty
  | none => s

/-- Set or clear BUSY of a line's entry. -/
def State.setBusy (s : State) (line : LineAddr) (b : Bool) : State :=
  match s.catFind line with
  | some e => s.setCat (s.catSet line) e { s.cat (s.catSet line) e with busy := b }
  | none => s

/-! ### Transactions (R117, R124) -/

/-- The transaction that holds a line BUSY. -/
def State.txn (s : State) (line : LineAddr) : Option Txn := s.coh.txns.find? (fun t => t.line = line)

/-- TXN_USED and TXN_PEAK show the transactions in progress. -/
def State.showTxns (s : State) : State :=
  let n := s.coh.txns.length
  (s.wr CAT_STATUS.TXN_USED n).wr CAT_STATUS.TXN_PEAK (max n (s.rd CAT_STATUS.TXN_PEAK))

/-- Begin a transaction: the line's entry becomes BUSY. -/
def State.begin' (s : State) (t : Txn) : State :=
  ({ s with coh := { s.coh with txns := s.coh.txns ++ [t] } }.setBusy t.line true).showTxns

/-- Change the transaction of a line. -/
def State.setTxn (s : State) (line : LineAddr) (f : Txn → Txn) : State :=
  { s with coh := { s.coh with txns := s.coh.txns.map (fun (t : Txn) => if t.line = line then f t else t) } }

/-- End the transaction of a line: BUSY clears. -/
def State.endTxn (s : State) (line : LineAddr) : State :=
  ({ s with coh := { s.coh with txns := s.coh.txns.filter (fun t => t.line != line) } }.setBusy line false).showTxns

/-- The transaction table is full. -/
def State.txnFull (s : State) : Bool := decide (s.txnMax ≤ s.coh.txns.length)

/-! ### Reservations and NACK (R124, R125, R130) -/

/-- Another requester holds a reservation of the line. -/
def State.reservedFor (s : State) (line : LineAddr) (who : Requester) : Bool :=
  s.coh.resv.any (fun v => v.line = line && v.who != who)

/-- The predictor index of a line (R130). -/
def predIdx (la : LineAddr) : Nat :=
  (la.extractLsb' 0 10 ^^^ la.extractLsb' 10 10 ^^^ la.extractLsb' 20 10 ^^^ la.extractLsb' 30 10
    ^^^ (la.extractLsb' 40 5).setWidth 10).toNat
/-- The predictor counter of a line. -/
def State.pred (s : State) (line : LineAddr) : Nat := tget 0 s.coh.pred (predIdx line)
/-- The update of R130. -/
def State.predict (s : State) (line : LineAddr) (contended : Bool) : State :=
  let c := s.pred line
  let c' := if contended then min (c + 1) 3 else c - 1
  { s with coh := { s.coh with pred := tput 0 s.coh.pred (predIdx line) c' } }

/-- The request is an ATOM. -/
def isAtom : Instr → Bool
  | .atom _ _ => true
  | _ => false

/-- Answer NACK_RETRY at acceptance: the hint of the line's BUSY period, or `hint` outside it; a request retried STARVE_N times
records a reservation and its answer carries 0 (R124, R125). -/
def State.nackReq (s : State) (i : Instr) (r : Req) (hint : Nat) (charged : Bool := true) : State :=
  let h := match s.txn r.line with
    | some t => min t.nacks 7
    | none => hint
  let s := s.setTxn r.line (fun t => { t with nacks := t.nacks + 1 })
  let n := s.rd CAT_CTL.STARVE_N
  let reserve := n != 0 && decide (n ≤ r.retry.toNat) && decide (s.coh.resv.length < 16)
    && s.coh.resv.all (fun v => v.line != r.line)
  let s := if reserve then
      ({ s with coh := { s.coh with resv := s.coh.resv ++ [Reservation.mk r.line r.who] } }).bump CAT_STARVE.COUNT
    else s
  let s := if isAtom i then s.predict r.line true else s
  ((s.slotNack (s.lane r.line)).take i r charged).nack r (if reserve then 0 else h)

/-! ### Release records (R145, R146) -/

/-- The index of a line's record. -/
def recIdx (la : LineAddr) : Nat := (la.extractLsb' 0 8 ^^^ la.extractLsb' 8 8 ^^^ la.extractLsb' 16 8).toNat

/-- Clear the record of a line, if its entry holds it. -/
def State.clearRecord (s : State) (line : LineAddr) : State :=
  match tfind s.ord.recs (recIdx line) with
  | some (l, _, _) => if l = line then { s with ord := { s.ord with recs := tdel s.ord.recs (recIdx line) } } else s
  | none => s

/-- An accepted write: with REL it fills its line's entry, without it clears the entry (R145). -/
def State.recordWrite (s : State) (r : Req) : State :=
  if r.rel && s.flag ORD_CTL.REC_EN then
    { s with ord := { s.ord with recs := tset s.ord.recs (recIdx r.line) (r.line, r.who, r.scope) } }
  else s.clearRecord r.line

/-- An accepted acquire: count and store a detectable mismatch (R146). -/
def State.checkAcquire (s : State) (r : Req) : State :=
  match tfind s.ord.recs (recIdx r.line) with
  | some (l, who, sr) =>
    let narrow := min sr.toNat r.scope.toNat
    let porter := who.kind != .agent || r.who.kind != .agent
    if l = r.line && narrow = 1 && (porter || who != r.who) then
      let typ := if sr.toNat < r.scope.toNat then 0 else if r.scope.toNat < sr.toNat then 1 else 2
      let info := (typ * 2 ^ 29 + sr.toNat * 2 ^ 27 + r.scope.toNat * 2 ^ 25
        + (if who.kind = .agent then 0 else 2 ^ 24) + who.id.toNat * 2 ^ 19
        + (if r.who.kind = .agent then 0 else 2 ^ 18) + r.who.id.toNat * 2 ^ 13
        + (if who.kind = .agent then 0 else who.pslice.toNat) * 2 ^ 6
        + (if r.who.kind = .agent then 0 else r.who.pslice.toNat))
      let s := s.bump ORD_MISMATCH.COUNT
      let s := s.wr ORD_MIS_LINE_LO.LINE_LO (r.line.toNat % 2 ^ 25)
      let s := s.wr ORD_MIS_LINE_HI.LINE_HI (r.line.toNat / 2 ^ 25)
      let s := s.setWord ORD_MIS_INFO.word.off (BitVec.ofNat 32 (2 ^ 31 + info))
      if s.flag ORD_CTL.MIS_LOG then s.fault 4 1 1 (detail := info / 2 ^ 13 % 2 ^ 18) (loc := some r.line)
        (srcKind := if r.who.kind = .agent then 1 else 2) (srcId := r.who.id.toNat)
      else s
    else s
  | none => s

/-! ### Measurement and prefetch (R79, R98, R99, R148) -/

/-- The valid bypass windows that cover a line. -/
def State.bypass (s : State) (line : LineAddr) : List Nat :=
  ((s.listed ORD_WIN_CTL.VALID 16).filter (s.flagI ORD_WIN_CTL.VALID)).filter (fun n =>
    let sh := 12 + s.rdI ORD_WIN_CTL.SIZE_LOG n
    let base := s.rdI ORD_WIN_BASE_HI.BASE_HI n * 2 ^ 32 + s.rdI ORD_WIN_BASE_LO.BASE_LO n * 2 ^ 12
    line.toNat * 128 / 2 ^ sh = base / 2 ^ sh)

/-- Read misses of the line do not allocate (R148). -/
def State.noAlloc (s : State) (line : LineAddr) : Bool := (s.bypass line).any (s.flagI ORD_WIN_CTL.NOALLOC)

/-- Count an ordinary access of the running window (R79): demand reads and writes outside every carrel, copies apart. -/
def State.measure (s : State) (line : LineAddr) (miss : Bool) : State :=
  if (s.carrelOf line).isSome || s.rd ALT_WINDOW.WIN_US = 0 then s
  else
    let g := lineSet line / 1024
    { s with place := { s.place with
      grpAcc := tput 0 s.place.grpAcc g (tget 0 s.place.grpAcc g + 1)
      grpMiss := tput 0 s.place.grpMiss g (tget 0 s.place.grpMiss g + miss.toNat) } }

/-- The line `k` strides from a line, when it lies in the address space. -/
def strideLine (l : LineAddr) (d : Int) (k : Nat) : Option LineAddr :=
  let a := (l.toNat : Int) + k * d
  if 0 ≤ a && a < 2 ^ 45 then some (BitVec.ofNat 45 a.toNat) else none

/-- expected(L, D) of R98. -/
def State.expected (s : State) (l : LineAddr) (d : Int) : Option LineAddr :=
  (List.range 64).findSome? (fun k => match strideLine l d (k + 1) with
    | some a => if s.homesSelf a then some a else none
    | none => none)

/-- Prefetch runs: enabled and not stopping (R101), with allowance left under a power cap (R328). -/
def State.pftOn (s : State) : Bool := s.flag PFT_CTL.EN && !(s.flag PFT_CTL.STOPPING) && !s.capUsed && !s.winding

/-- PF_MAX: 0 acts as 1, above 64 acts as 64. -/
def State.pfMax (s : State) : Nat := min 64 (max 1 (s.rd PFT_CTL.PF_MAX))

/-- Prefetch reads outstanding: issued and not yet accepted, or waiting for their line. -/
def State.pfOut (s : State) : Nat :=
  s.place.pfIssued.length + (s.stk.farReads.filter (fun r => r.pf)).length

/-- Issue or drop one candidate (R99): whether it is issued, and the state after. -/
def State.candidate (s : State) (line : LineAddr) (label : BitVec 3) : Bool × State :=
  if (s.lookup line).isSome || s.isSealed line || s.noAlloc line || decide (s.pfMax ≤ s.pfOut) then
    (false, s.bump PFT_DROPPED.COUNT)
  else
    (true, ((s.bump PFT_ISSUED.COUNT).event 0x60 (label := some label.toNat)) |> fun s =>
      { s with place := { s.place with pfIssued := s.place.pfIssued ++ [(line, label)] } })

/-- issue(A) of R99: up to DEGREE homed lines along the stride, beyond both A and the furthest line issued. -/
def State.issueAhead (s : State) (t : Tracker) (d : Int) : State × LineAddr :=
  let degree := s.rd PFT_DEGREE.word / 16 ^ t.label.toNat % 16
  let cands := ((List.range 64).filterMap (fun k => strideLine t.last d (k + 1))).filter (fun a =>
    s.homesSelf a && (if 0 < d then decide (t.far.toNat < a.toNat) else decide (a.toNat < t.far.toNat)))
  (cands.take degree).foldl (fun p a =>
    match p.1.candidate a t.label with
    | (true, s) => (s, a)
    | (false, s) => (s, p.2)) (s, t.far)

/-- A demand read trains the tracker of its key (R98). -/
def State.train (s : State) (r : Req) : State :=
  if !s.pftOn || r.who.kind = .slice then s
  else
    let porter := r.who.kind = .porter
    let a := r.line
    let key (t : Tracker) : Bool := t.porter == porter && t.id = r.who.id && t.label = r.label
    let others := s.place.trackers.filter (fun t => !(key t))
    match s.place.trackers.find? key with
    | none =>
      let t : Tracker := ⟨porter, r.who.id, r.label, a, none, 0, a⟩
      { s with place := { s.place with trackers := t :: others.take 63 } }
    | some t =>
      let hit := match t.stride with
        | some d => decide (s.expected t.last d = some a)
        | none => false
      let diff : Int := (a.toNat : Int) - t.last.toNat
      let t := if hit then { t with conf := min (t.conf + 1) 3 }
        else if 0 < t.conf then { t with conf := t.conf - 1 }
        else { t with stride := if diff.natAbs ≤ 8192 && diff != 0 then some diff else none }
      let t := { t with last := a }
      let (s, far) := match t.stride with
        | some d => if 2 ≤ t.conf then s.issueAhead t d else (s, t.far)
        | none => (s, t.far)
      { s with place := { s.place with trackers := { t with far := far } :: others.take 63 } }

/-- The first demand access to a sector with PF = 1 clears PF and is counted (R99). -/
def State.touchPf (s : State) (set way : Nat) (label : Nat) : State :=
  let t := s.tag set way
  if t.pf then
    ((s.setTag set way { t with pf := false }).bump PFT_USEFUL.COUNT).event 0x61 (label := some label)
  else s

end Sys2Proof.Machine
end

