-- ==== Sys2Proof/Machine/Serve.lean ====
section
/-! DEFINITION. How the home serves a request once its tag lane has accepted it: the data of a line wherever they are (R30, R48,
R84 to R86, R131), writes and their ack points (R139), and the transitions of R117 with the transactions they start. -/

namespace Sys2Proof.Machine

/-! ### Actions on a line's data -/

/-- A line while actions are applied to it: data, poison, and whether an action changed it. -/
structure LineVal where
  d     : LineData
  bad   : Bool
  wrote : Bool

/-- Apply one action (see Act). `unit` is handled by applyActs. -/
def State.applyAct (s : State) (line : LineAddr) (v : LineVal) (act : Act) : State × LineVal :=
  match act with
  | .send m => (s.reply (m.withLine v.d v.bad), v)
  | .merge id be d =>
    let d := mergeBytes be d v.d
    (s.mirWrite line d true v.bad (some id), { v with d := d, wrote := true })
  | .whole d psn => (s, ⟨d, psn, true⟩)
  | .atomic id a =>
    if v.bad then
      let (c, s) := s.fresh
      (s.setWrite id (fun w => { w with exec := false, far := false, msg := { w.msg with status := stPoison, psn := true, body := .old ((Config.freeLine c).extractLsb' 0 64) } }), v)
    else
      let (old, d) := atomRun a v.d
      let s := s.setWrite id (fun w => { w with exec := false, msg := { w.msg with body := .old old } })
      let s := s.setLine line .dirty false
      (s.mirWrite line d true false (some id), ⟨d, false, true⟩)
  | .through id =>
    if v.bad && s.ord.writes.all (fun w => w.id != id || !w.far) then (s, v)
    else ((s.setLine line .clean v.bad).farWrite line v.d v.bad (.node id) |>.mirLine 1 line true, v)
  | .writeBack why psn => (s.farWrite line v.d (v.bad || psn) why, v)
  | .unit | .fill => (s, v)

/-- Apply actions in order. -/
def State.applyList (s : State) (line : LineAddr) (v : LineVal) (acts : List Act) : State × LineVal :=
  acts.foldl (fun p a => p.1.applyAct line p.2 a) (s, v)

/-- Apply actions in order; where the atomic unit waits for the line, its own actions follow, and it holds the line from then
on, unless the line is poisoned (R131). -/
def State.applyActs (s : State) (line : LineAddr) (v : LineVal) (acts : List Act) : State × LineVal :=
  let (s, v) := s.applyList line v acts
  if acts.contains .unit then
    match s.atomLine line with
    | some a =>
      let (s, u) := s.applyList line v a.acts
      let s := s.dropAtom line
      if v.bad && !u.wrote then (s, v)
      else ({ s with coh := { s.coh with atoms := s.coh.atoms ++ [⟨line, some u.d, []⟩] } }, v)
    | none => (s, v)
  else (s, v)

/-! ### Data of a line -/

/-- The line's data are being fetched, so a request waits for them in acceptance order. -/
def State.dataPending (s : State) (line : LineAddr) : Bool :=
  s.loading line || s.stk.farReads.any (fun r => r.line = line)

/-- Answer with poisoned data: their bits are a free value (R13). -/
def State.replyPoison (s : State) (m : Msg) (status : Nat := stPoison) : State :=
  let (c, s) := s.fresh
  s.reply { m with body := .line (Config.freeLine c), psn := true, status := status }

/-- A miss of an adopted share out of reach is answered PARKED (R346). -/
def State.outOfReach (s : State) (line : LineAddr) : Bool :=
  s.adopted line && !(s.homesSelf line) && (s.flag MIR_STATUS.REACH || (s.flag MIR_SEAM.TIMED_OUT && s.mirAcross))

/-- Fetch a missing line from memory for some actions. With `alloc` the line takes a way: the matching one, or by R74. -/
def State.fetch (s : State) (line : LineAddr) (alloc : Bool) (acts : List Act) (pf : Bool := false) : State :=
  let set := lineSet line
  if !alloc then s.farRead line none pf acts
  else
    let (w?, s) := match s.lookup line with
      | some w => (some w, s.touch set w)
      | none => s.allocate line pf
    match w? with
    | some w =>
      let s := s.setTag set w ((s.tag set w).put (lineBit line) .clean false)
      s.farRead line (some (set, w)) pf acts
    | none => s.farRead line none pf acts

/-- A demand read of home data, answered by `m` (R84, R85, R117). `last` for READ_LAST. -/
def State.homeRead (s : State) (r : Req) (m : Msg) (last : Bool) : State :=
  let line := r.line
  let set := lineSet line
  let lane := some (s.lane line)
  let label := some r.label.toNat
  let leaveDead (s : State) : State :=
    if !last then s
    else match s.lookup line with
      | some w =>
        let s := s.setTag set w ((s.tag set w).put (lineBit line) .dead ((s.tag set w).p (lineBit line)))
        let s := if (s.tag set w).isDead then s.age set w else s
        s.mirLine 2 line true
      | none => s
  match s.lineSt line, s.lookup line with
  | .dead, some w =>
    let s := (s.bump SHT_DEAD_READS.COUNT).event 0x25 lane label
    if s.rd SHT_DEAD_CTL.MODE = 0 then s.replyPoison m
    else if last then (s.event 0x22 lane label).farRead line none false [.send m]
    else ((s.event 0x22 lane label).touch set w).fetch line true [.send m]
  | .inv, _ =>
    if s.dataPending line then (s.event 0x22 lane label).waitOn line (.send m)
    else if s.isTagLost set then s.replyPoison m
    else if s.outOfReach line then s.complete r stParked
    else (s.event 0x22 lane label).fetch line (!last && !(s.noAlloc line)) [.send m]
  | _, some w =>
    let s := s.event 0x21 lane label
    let s := s.touchPf set w r.label.toNat
    let s := if last then s else s.touch set w
    match s.atomLine line with
    | some ⟨_, some d, _⟩ =>
      let s := s.reply (m.withLine d false)
      if last then leaveDead (s.dropAtom line) else s
    | _ =>
      if s.dataPending line then leaveDead (s.waitOn line (.send m))
      else leaveDead (s.readJob set w line (.send m))
  | _, none => s

/-! ### Writes (R86, R117, R139) -/

/-- The write-through of a NODE-scope write whose data are in the array or the unit. -/
def State.through (s : State) (line : LineAddr) (id : Nat) : State :=
  match s.lookup line with
  | some w =>
    let d := match s.atomLine line with
      | some ⟨_, some d, _⟩ => d
      | _ => s.lineData (lineSet line) w (lineBit line)
    let bad := (s.tag (lineSet line) w).p (lineBit line)
    ((s.setLine line .clean bad).farWrite line d bad (.node id)).mirLine 1 line true
  | none => s

/-- A write that finds no place to go: answered with the status, with nothing more to wait for. -/
def State.writeLost (s : State) (id status : Nat) : State :=
  s.setWrite id (fun w => { w with exec := false, txn := false, far := false, msg := { w.msg with status := status } })

/-- The atomic unit takes another line, and returns its oldest held line to its bank when it needs the place (R131). -/
def State.unitRoom (s : State) : State :=
  if s.coh.atoms.length < 32 then s
  else match s.coh.atoms.find? (fun a => a.data.isSome) with
    | some a => s.releaseAtom a.line
    | none => s

/-- Execute an atomic at home for the pending write `id` (R86, R127 to R131). -/
def State.homeAtom (s : State) (line : LineAddr) (id : Nat) (a : AtomOp) (node : Bool) (label : Nat) : State :=
  let set := lineSet line
  let s := (s.bump CAT_ATOM_HOME.COUNT).event 0x27 (label := some label)
  let acts : List Act := .atomic id a :: (if node then [.through id] else [])
  let start (s : State) : State :=
    let s := s.unitRoom
    { s with coh := { s.coh with atoms := s.coh.atoms ++ [⟨line, none, acts⟩] } }
  match s.atomLine line with
  | some ⟨_, some d, _⟩ =>
    let s := match s.lookup line with
      | some w => s.touch set w
      | none => s
    let (s, v) := s.applyList line ⟨d, false, false⟩ acts
    let s := s.dropAtom line
    { s with coh := { s.coh with atoms := s.coh.atoms ++ [⟨line, some v.d, []⟩] } }
  | some ⟨_, none, _⟩ => acts.foldl (fun s a => s.waitOn line a) s
  | none =>
    if s.stk.farReads.any (fun r => r.line = line) then (start s).waitOn line .unit |> fun s =>
      { s with stk := { s.stk with farReads := s.stk.farReads.map (fun (r : FarRead) =>
        if r.line = line then { r with acts := r.acts ++ [.unit] } else r) } }
    else match s.lineSt line, s.lookup line with
      | .dead, some _ =>
        if s.rd SHT_DEAD_CTL.MODE = 0 then
          let (c, s) := s.fresh
          s.setWrite id (fun w => { w with exec := false, txn := false, far := false, msg := { w.msg with status := stPoison, psn := true, body := .old ((Config.freeLine c).extractLsb' 0 64) } })
        else (start s).fetch line true [.unit]
      | .inv, _ =>
        if s.isTagLost set then s.writeLost id stPoison
        else if s.outOfReach line then s.writeLost id stParked
        else (start s).fetch line true [.unit]
      | _, some w =>
        let s := s.touchPf set w label
        if (s.tag set w).p (lineBit line) then
          let (c, s) := s.fresh
          (s.touch set w).setWrite id (fun w => { w with exec := false, txn := false, far := false, msg := { w.msg with status := stPoison, psn := true, body := .old ((Config.freeLine c).extractLsb' 0 64) } })
        else (start (s.touch set w)).readJob set w line .unit
      | _, none => s

/-- Merge enabled bytes into a line (WR_PART): where the line is resident, in the array or the unit; a DEAD line by R86; a
missing line from memory. -/
def State.homePart (s : State) (line : LineAddr) (be : BitVec 128) (d : LineData) (psn node : Bool) (id : Nat) : State :=
  let set := lineSet line
  let wait := some id
  let merged (s : State) (w : Nat) (old : LineData) (bad : Bool) : State :=
    let s := s.setTag set w ((s.tag set w).put (lineBit line) .dirty bad)
    let new := mergeBytes be d old
    let s := (s.dropAtom line).writeJob set w line new
    let s := s.mirWrite line new true bad wait
    if node then s.through line id else s
  let later (s : State) (w : Nat) (bad : Bool) : State :=
    let s := s.setTag set w ((s.tag set w).put (lineBit line) .dirty bad)
    let s := s.setWrite id (fun p => { p with mir := s.mirrors line && decide (2 ≤ p.r.scope.toNat) })
    let s := s.waitOn line (.merge id be d)
    if node then s.waitOn line (.through id) else s
  match s.lineSt line, s.lookup line with
  | .dead, some w =>
    let s := s.touch set w
    if s.rd SHT_DEAD_CTL.MODE = 0 then merged s w (s.lineData set w (lineBit line)) true
    else later (s.fetch line true []) w psn
  | .inv, _ =>
    if s.isTagLost set then s.writeLost id stPoison
    else if s.outOfReach line then s.writeLost id stParked
    else
      let s := if s.dataPending line then s else s.fetch line true []
      match s.lookup line with
      | some w => later s w psn
      | none =>
        let s := s.waitOn line (.merge id be d)
        if node then s.waitOn line (.through id) else s.waitOn line (.writeBack .victim psn)
  | _, some w =>
    let s := s.touch set w
    let bad := (s.tag set w).p (lineBit line) || psn
    match s.atomLine line with
    | some ⟨_, some old, _⟩ => merged s w old bad
    | _ => if s.dataPending line then later s w bad else merged s w (s.lineData set w (lineBit line)) bad
  | _, none => s

/-- Perform a write at home for the pending write `id`, once no agent holds the line. -/
def State.performWrite (s : State) (i : Instr) (r : Req) (id : Nat) : State :=
  let s := s.setWrite id (fun w => { w with txn := false })
  let node := r.scope = 3
  match i with
  | .wrLine _ d =>
    if s.lineSt r.line = .inv && (s.lookup r.line).isNone && s.isTagLost (lineSet r.line) then s.writeLost id stPoison
    else
      let s := match s.lookup r.line with
        | some w => s.touchPf (lineSet r.line) w r.label.toNat
        | none => s
      let s := s.storeDirty r.line d r.psn (some id)
      if node then
        (if s.dataPending r.line then s.waitOn r.line (.through id) else s.through r.line id)
      else s
  | .wrPart _ be d => s.homePart r.line be d r.psn node id
  | .atom _ a => s.homeAtom r.line id a node r.label.toNat
  | _ => s

/-! ### Snoops -/

/-- A FWD message about a line for a request (R116). -/
def fwdMsg (r : Req) (typ agent : Nat) : Msg :=
  { cls := 1, typ := typ, label := r.label, who := r.who, tag := r.tag, dest := agent, line := r.line, scope := r.scope }

/-- The agents of a mask, ascending. -/
def agentsOf (m : BitVec 32) : List Nat := (List.range 32).filter (fun a => m.getLsbD a)

/-- The mask of one agent. -/
def agentBit (a : Nat) : BitVec 32 := 1 <<< a

/-- Send a FWD to every agent of a mask. -/
def State.snoopAll (s : State) (r : Req) (typ : Nat) (m : BitVec 32) : State :=
  (agentsOf m).foldl (fun s a => s.snoop (fwdMsg r typ a)) s

/-- The request in whose name the slice's own walks snoop: KIND 2, label 7 (R243, R397). -/
def State.walkReq (s : State) (line : LineAddr) : Req :=
  { who := ⟨.slice, 0, s.pslice⟩, cas := 0, tag := 0, label := 7, line := line, scope := 0, rel := false, acq := false
    winV := false, win := 0, noack := false, retry := 0, mcg := 0, psn := false }

/-- A new transaction. -/
def txnNew (line : LineAddr) (mode : TxnMode) (req : Option Instr) (wid : Option Nat) : Txn :=
  ⟨line, mode, req, 0, none, false, none, none, 0, 0, wid, false⟩

/-- Drop from an entry the agents that have timed out, which hold nothing (R126). -/
def State.normalize (s : State) (line : LineAddr) : State :=
  match s.catFind line with
  | some e =>
    let c := s.cat (s.catSet line) e
    let vec := c.vec &&& ~~~s.lostAgents
    if c.busy || vec = c.vec then s
    else if vec = 0 then s.freeEntry line
    else s.setCat (s.catSet line) e { c with vec := vec, fv := c.fv && vec.getLsbD c.ptr.toNat }
  | none => s

/-! ### Requests by the state of the line (R117, R129, R132) -/

/-- The member mask of a request's multicast group. -/
def State.group (s : State) (r : Req) : BitVec 32 :=
  if r.mcg = 0 then 0 else BitVec.ofNat 32 (s.rdI CAT_MCG.MASK r.mcg.toNat)

/-- A DAT message of a read, to its multicast group when it names one (R132). -/
def readMsg (r : Req) (typ : Nat) (go : Bool) : Msg :=
  { datMsg r typ go with dest := if r.mcg = 0 then 0 else 32 + r.mcg.toNat }

/-- Serve a request whose line no agent holds. -/
def State.serveUnc (s : State) (i : Instr) (r : Req) (id : Nat) : State :=
  let a := r.who.id
  match i with
  | .rdS _ =>
    if s.outOfReach r.line && s.lineSt r.line = .inv then s.complete r stParked
    else if r.mcg != 0 then
      (s.putEntry r.line .shr true a (s.group r ||| agentBit a.toNat)).homeRead r (readMsg r 3 true) false
    else if s.flag CAT_CTL.E_GRANT then (s.putEntry r.line .exc false a (agentBit a.toNat)).homeRead r (datMsg r 0 true) false
    else (s.putEntry r.line .shr true a (agentBit a.toNat)).homeRead r (datMsg r 2 true) false
  | .rdX _ | .upg _ =>
    if s.outOfReach r.line && s.lineSt r.line = .inv then s.complete r stParked
    else (s.putEntry r.line .exc false a (agentBit a.toNat)).homeRead r (datMsg r 0 true) false
  | .rdOnce _ => s.homeRead r (readMsg r 4 false) false
  | .rdLast _ => s.homeRead r (datMsg r 4 false) true
  | .wrLine _ _ | .wrPart _ _ _ | .atom _ _ => s.performWrite i r id
  | _ => s

/-- The request needs an entry of the Catalogue when its line has none (R109). -/
def needsEntry : Instr → Bool
  | .rdS _ | .rdX _ | .upg _ => true
  | _ => false

/-- Take an entry for a line that has none, or back-invalidate a victim first (R109): the state with a free place, or with the
victim's transaction begun. -/
def State.serveAlloc (s : State) (i : Instr) (r : Req) (id : Nat) : State :=
  let set := s.catSet r.line
  match s.catVictim set with
  | some e =>
    let c := s.cat set e
    if c.st == .free then s.serveUnc i r id
    else
      let v := c.vec &&& ~~~s.lostAgents
      let s := s.bump CAT_BINV.COUNT
      if v = 0 then (s.setCat set e CatEnt.empty).serveUnc i r id
      else
        let typ := if c.st == .exc then 4 else 3
        let s := s.begin' { txnNew c.line .victim (some i) (some id) with acks := v }
        s.snoopAll { s.walkReq c.line with label := r.label } typ v
  | none => s

/-- Send SNP_ATOM to the owner: a delegated atomic (R129). -/
def State.delegate (s : State) (r : Req) (a : AtomOp) (owner : BitVec 5) (id : Nat) : State :=
  let s := s.event 0x28 (label := some r.label.toNat)
  let s := s.setWrite id (fun w => { w with exec := true, far := false, r := { w.r with noack := true } })
  let s := s.begin' { txnNew r.line .fwdAtom (some (.atom r a)) (some id) with fwd := some owner }
  s.snoop { fwdMsg r 5 owner.toNat with body := .atomic a }

/-- Serve an accepted request by the Catalogue state of its line. `id` is its pending write, `probed` true once the BINV of R110
or R346 has been answered. -/
def State.serveLine (s : State) (i : Instr) (r : Req) (id : Nat) (probed : Bool) : State :=
  let s := s.normalize r.line
  let line := r.line
  let a := r.who.id
  let isAgent := r.who.kind = .agent
  match s.catFind line with
  | none =>
    if !probed && (s.isCatLost (s.catSet line) || (s.adopted line && !(s.homesSelf line))) && s.lostAgents != BitVec.allOnes 32 then
      let all := ~~~s.lostAgents
      (s.begin' { txnNew line .lostProbe (some i) (some id) with acks := all }).snoopAll (s.walkReq line) 4 all
    else if needsEntry i then s.serveAlloc i r id
    else s.serveUnc i r id
  | some e =>
    let c := s.cat (s.catSet line) e
    let others := c.vec &&& ~~~(if isAgent then agentBit a.toNat else 0)
    match c.st with
    | .free => s.serveUnc i r id
    | .shr =>
      match i with
      | .rdS _ =>
        if r.mcg != 0 then
          (s.putEntry line .shr true a (c.vec ||| s.group r ||| agentBit a.toNat)).homeRead r (readMsg r 3 true) false
        else if c.fv && c.ptr != a then
          (s.begin' { txnNew line .fwdS (some i) (some id) with fwd := some c.ptr }).snoop
            (fwdMsg r 0 c.ptr.toNat)
        else (s.putEntry line .shr true a (c.vec ||| agentBit a.toNat)).homeRead r (datMsg r 2 true) false
      | .rdX _ | .upg _ =>
        let upgrade := (match i with | .upg _ => true | _ => false) && c.vec.getLsbD a.toNat
        if upgrade then
          if others = 0 then
            (s.putEntry line .exc false a (agentBit a.toNat)).reply { cmpMsg r stOk with typ := 4 }
          else (s.begin' { txnNew line .upg (some i) (some id) with acks := others }).snoopAll r 3 others
        else if c.fv && c.ptr != a then
          let rest := others &&& ~~~(agentBit c.ptr.toNat)
          let s := s.begin' { txnNew line .fwdX (some i) (some id) with fwd := some c.ptr, acks := rest }
          (s.snoop (fwdMsg r 1 c.ptr.toNat)).snoopAll r 3 rest
        else if others = 0 then
          let s := (s.putEntry line .exc false a (agentBit a.toNat)).homeRead r (datMsg r 0 false) false
          s.reply { cmpMsg r stOk with typ := 4 }
        else
          let s := s.begin' { txnNew line .homeX (some i) (some id) with acks := others }
          (s.homeRead r (datMsg r 0 false) false).snoopAll r 3 others
      | .rdOnce _ => s.homeRead r (readMsg r 4 false) false
      | .rdLast _ | .wrLine _ _ | .wrPart _ _ _ | .atom _ _ =>
        (s.begin' { txnNew line .recall (some i) (some id) with acks := c.vec }).snoopAll r 3 c.vec
      | _ => s
    | .exc =>
      let o := c.ptr
      if isAgent && o = a then
        s.begin' { txnNew line .waitWb (some i) (some id) with wbFrom := some o }
      else match i with
        | .rdS _ =>
          if r.mcg != 0 then
            (s.begin' { txnNew line .recall (some i) (some id) with acks := agentBit o.toNat }).snoop (fwdMsg r 4 o.toNat)
          else (s.begin' { txnNew line .fwdS (some i) (some id) with fwd := some o }).snoop
            (fwdMsg r 0 o.toNat)
        | .rdX _ | .upg _ =>
          (s.begin' { txnNew line .fwdX (some i) (some id) with fwd := some o }).snoop
            (fwdMsg r 1 o.toNat)
        | .rdOnce _ =>
          (s.begin' { txnNew line .fwdOnce (some i) (some id) with fwd := some o }).snoop
            (fwdMsg r (if r.mcg = 0 then 2 else 6) o.toNat)
        | .atom _ op =>
          if op.op != 1 && s.flag CAT_CTL.DELEG_EN && decide (s.pred line ≤ 1) then s.delegate r op o id
          else (s.begin' { txnNew line .recall (some i) (some id) with acks := agentBit o.toNat }).snoop (fwdMsg r 4 o.toNat)
        | .rdLast _ | .wrLine _ _ | .wrPart _ _ _ =>
          (s.begin' { txnNew line .recall (some i) (some id) with acks := agentBit o.toNat }).snoop (fwdMsg r 4 o.toNat)
        | _ => s

end Sys2Proof.Machine
end

