-- ==== Sys2Proof/Machine/Walk.lean ====
section
/-! DEFINITION. What walks do with the line of the Stacks they visit: the Reshelver's commands (R94), the walk of a bypass window
(R150), and lines dropped while their data are being fetched (R139, R150). -/

namespace Sys2Proof.Machine

/-! ### Dropping a line -/

/-- The pending writes whose write-through waits in a list of actions. -/
def throughIds (acts : List Act) : List Nat :=
  acts.filterMap (fun a => match a with
    | .through id => some id
    | _ => none)

/-- An action that puts the line's data into memory or a bank later. -/
def storesLater : Act → Bool
  | .through _ | .writeBack _ _ => true
  | _ => false

/-- A line whose data are being fetched is dropped: the requests that wait are served and nothing is filled; a NODE-scope write
among them completes with OK (R139). -/
def State.dropPending (s : State) (line : LineAddr) : State :=
  let ids := throughIds ((s.stk.farReads.filter (fun r => r.line = line)).flatMap (·.acts)
    ++ (s.coh.atoms.filter (fun a => a.line = line)).flatMap (·.acts))
  let s := { s with stk := { s.stk with farReads := s.stk.farReads.map (fun (r : FarRead) =>
    if r.line = line then { r with fill := none, acts := r.acts.filter (fun a => !(storesLater a)) } else r) } }
  let s := { s with coh := { s.coh with atoms := s.coh.atoms.map (fun (a : AtomLine) =>
    if a.line = line then { a with acts := a.acts.filter (fun b => !(storesLater b)) } else a) } }
  ids.foldl (fun s id => s.setWrite id (fun w => { w with far := false })) s

/-- A held line leaves the atomic unit with its data unused; one that is being loaded keeps its actions. -/
def State.forgetAtom (s : State) (line : LineAddr) : State :=
  { s with coh := { s.coh with atoms := s.coh.atoms.filter (fun a => a.line != line || a.data.isNone) } }

/-- Make a line INV without a write-back. -/
def State.dropLine (s : State) (line : LineAddr) : State :=
  let s := (s.dropPending line).forgetAtom line
  match s.lookup line with
  | some w =>
    let t := (s.tag (lineSet line) w).put (lineBit line) .inv false
    s.setTag (lineSet line) w (if t.isInv then { t with pf := false, pin := false } else t)
  | none => s

/-! ### The Reshelver's commands (R94) -/

/-- A write-back or marker of the running command: one more acknowledgement is awaited; poison shows in its status. -/
def State.rshIssued (s : State) (bad : Bool) : State :=
  { s with place := { s.place with unacked := s.place.unacked + 1, poison := s.place.poison || bad } }

/-- Write back a DIRTY line for the running command. -/
def State.rshWriteBack (s : State) (line : LineAddr) : State :=
  let s := s.releaseAtom line
  match s.lookup line with
  | some w => ((s.rshIssued (s.lineP line)).writeBackLine (lineSet line) w (lineBit line) .reshelver)
  | none => s

/-- Write the poison marker of a line for the running command. -/
def State.rshMarker (s : State) (line : LineAddr) : State := (s.rshIssued true).farMarker line .reshelver

/-- What the running command does with the line in the Stacks: OP 0 CLEAN, 2 CLEAN_INV, otherwise INVALIDATE, SEAL and
INV_BANK. -/
def State.rshLine (s : State) (op : Nat) (line : LineAddr) : State :=
  let st := s.lineSt line
  let bad := s.lineP line
  if op = 0 then
    if st = .dirty then ((s.rshWriteBack line).setLine line .clean bad).mirLine 1 line true else s
  else
    let s := s.clearRecord line
    let s := if st = .dirty && op = 2 then s.rshWriteBack line
      else if st = .dirty && bad then s.rshMarker line
      else s
    let s := s.dropLine line
    if st = .inv then s else s.mirLine 3 line (st = .dirty)

/-! ### The walk of a bypass window (R150) -/

/-- A DIRTY line found by a walk: counted, and reported once per walk. -/
def State.windowDirty (s : State) (line : LineAddr) : State :=
  let s := s.bump ORD_WIN_DIRTY.COUNT
  if s.ord.dirty then s
  else
    let w := s.rd ORD_WIN_STATUS.RUN
    { (s.fault 4 2 1 (detail := w) (loc := some line) (srcKind := 7) (srcId := w)) with ord := { s.ord with dirty := true } }

/-- What the walk does with the line in the Stacks. A fill that waits completes without allocating. -/
def State.windowLine (s : State) (line : LineAddr) : State :=
  match s.lineSt line with
  | .dirty => s.windowDirty line
  | .inv => s.dropPending line
  | .clean =>
    let s' := (s.dropLine line).mirLine 3 line false
    if s.stk.farReads.any (fun r => r.line = line) then s' else s'.bump ORD_WIN_DROPS.COUNT
  | _ => ((s.dropLine line).bump ORD_WIN_DROPS.COUNT).mirLine 3 line false

/-! ### Poisoned lines (R126, R346) -/

/-- The line is poisoned: resident, it becomes poisoned and DIRTY; otherwise its marker goes to memory. -/
def State.poisonLine (s : State) (line : LineAddr) : State :=
  match s.lookup line, s.lineSt line with
  | _, .inv => s.farMarker line .victim
  | some w, _ =>
    let s := (s.releaseAtom line).setLine line .dirty true
    s.mirWrite line (s.lineData (lineSet line) w (lineBit line)) true true
  | none, _ => s

end Sys2Proof.Machine
end

