-- ==== Sys2Proof/Machine/Txn.lean ====
section
/-! DEFINITION. The answers of agents and the end of a transaction (R117 to R122, R126, R132, R346): which answers a BUSY line
awaits, what they change, and what the transaction does once the last has arrived. -/

namespace Sys2Proof.Machine

/-! ### Faults of the coherence class -/

/-- SRC_KIND of a requester. -/
def srcKindOf (w : Requester) : Nat := match w.kind with | .agent => 1 | _ => 2

/-- The PROTOCOL entry (R361): message class and type, the line, and the agent. -/
def State.protocol (s : State) (cls typ : Nat) (loc : Option LineAddr) (agent : Nat) (status : Nat := 0) (kind : Nat := 1) : State :=
  s.fault 3 4 1 (detail := cls <<< 8 ||| typ) (loc := loc) (status := status) (srcKind := kind) (srcId := agent)

/-! ### Entries at the end of a transaction -/

/-- Remove agents from a line's entry; an entry with no agent left is freed. -/
def State.dropAgents (s : State) (line : LineAddr) (m : BitVec 32) : State :=
  match s.catFind line with
  | some e =>
    let c := s.cat (s.catSet line) e
    let vec := c.vec &&& ~~~m
    if vec = 0 then s.setCat (s.catSet line) e CatEnt.empty
    else s.setCat (s.catSet line) e { c with vec := vec, fv := c.fv && vec.getLsbD c.ptr.toNat }
  | none => s

/-- VEC of a line's entry. -/
def State.entryVec (s : State) (line : LineAddr) : BitVec 32 :=
  match s.catFind line with
  | some e => (s.cat (s.catSet line) e).vec
  | none => 0

/-- PTR of a line's entry: its owner or forwarder. -/
def State.entryPtr (s : State) (line : LineAddr) : BitVec 5 :=
  match s.catFind line with
  | some e => (s.cat (s.catSet line) e).ptr
  | none => 0

/-- STATE of a line's entry. -/
def State.entrySt (s : State) (line : LineAddr) : CatSt :=
  match s.catFind line with
  | some e => (s.cat (s.catSet line) e).st
  | none => .free

/-- The owner of a line's EXC entry. -/
def State.ownerOf (s : State) (line : LineAddr) : Option (BitVec 5) :=
  match s.catFind line with
  | some e => let c := s.cat (s.catSet line) e; if c.st == .exc then some c.ptr else none
  | none => none

/-- Write recovered data into the Stacks as DIRTY (R117, R118). -/
def State.storeGot (s : State) (t : Txn) : State :=
  match t.got with
  | some (d, psn) => s.storeDirty t.line d psn
  | none => s

/-! ### The end of a transaction -/

/-- GRANT_X to the requester. -/
def State.grantX (s : State) (r : Req) : State := s.reply { cmpMsg r stOk with typ := 4 }

/-- READ_LAST of a line recovered from its owner: the data go to the requester, nothing is written, and a resident line becomes
DEAD (R84, R117). -/
def State.lastOf (s : State) (r : Req) (d : LineData) (psn : Bool) : State :=
  let s := (s.reply ((datMsg r 4 false).withLine d psn)).forgetAtom r.line
  match s.lookup r.line with
  | some w =>
    let set := lineSet r.line
    let s := s.setTag set w ((s.tag set w).put (lineBit r.line) .dead ((s.tag set w).p (lineBit r.line)))
    let s := if (s.tag set w).isDead then s.age set w else s
    s.mirLine 2 r.line true
  | none => s

/-- End a transaction that serves the request `i` (the rows of R117). After FWD_MISS to a RD_X or UPG the row is that of the state without
the forwarder (R122): from SHR with agents left, home data without a grant and then GRANT_X; otherwise as from UNC. -/
def State.finishReq (s : State) (t : Txn) (i : Instr) (r : Req) : State :=
  let line := t.line
  let id := t.wid.getD 0
  let again (s : State) : State := s.serveLine i r id true
  match t.mode with
  | .fwdS =>
    if t.missed then again (s.dropAgents line t.evicts)
    else
      let s := s.storeGot t
      (s.putEntry line .shr true r.who.id (s.entryVec line ||| agentBit r.who.id.toNat)).dropAgents line t.evicts
  | .fwdX =>
    let wasShr := s.entrySt line == .shr
    if t.missed then
      let left := s.entryVec line &&& ~~~(agentBit (s.entryPtr line).toNat)
      if wasShr && left != 0 then
        ((s.putEntry line .exc false r.who.id (agentBit r.who.id.toNat)).homeRead r (datMsg r 0 false) false).grantX r
      else again (s.dropAgents line (BitVec.allOnes 32))
    else
      let s := s.putEntry line .exc false r.who.id (agentBit r.who.id.toNat)
      if wasShr then s.grantX r else s
  | .fwdOnce =>
    let s := s.storeGot t
    if t.missed then again (s.dropAgents line t.evicts)
    else
      let s := s.dropAgents line t.evicts
      if r.mcg = 0 then s else s.homeRead r (readMsg r 4 false) false
  | .fwdAtom =>
    if t.missed then
      let s := (s.dropAgents line t.evicts).predict line true
      let s := s.setWrite id (fun w => { w with r := r, exec := true, far := decide (r.scope = 3) })
      again s
    else
      let s := s.bump CAT_ATOM_DELEG.COUNT
      (s.setWrite id (fun w => { w with exec := false, txn := false })).dropAgents line t.evicts
  | .upg | .homeX =>
    (s.putEntry line .exc false r.who.id (agentBit r.who.id.toNat)).grantX r
  | .recall =>
    let s := s.freeEntry line
    match i, t.got with
    | .rdLast _, some (d, psn) => s.lastOf r d psn
    | _, _ => again (s.storeGot t)
  | .waitWb => again (s.dropAgents line t.evicts)
  | .victim => again ((s.freeEntry line).storeGot t)
  | .lostProbe => again (s.storeGot t)
  | _ => s

/-- The sector of a line lies in a retained way (R312, R313). -/
def State.retained (s : State) (line : LineAddr) : Bool :=
  match s.lookup line with
  | some w => (s.rd PWR_RETAIN.WAYS).testBit w && !(s.rd PWR_STATUS.STATE = 8)
  | none => false

/-- End a transaction of a walk: CLEAN, the invalidating commands, bypass windows, PREPARE, and E3 of R313. -/
def State.finishWalk (s : State) (t : Txn) : State :=
  let line := t.line
  match t.mode with
  | .rshClean => ((s.storeGot t).dropAgents line t.evicts).rshLine 0 line
  | .rshInv wb =>
    let s := s.freeEntry line
    if wb then (s.storeGot t).rshLine 2 line
    else
      let s := match t.got with
        | some (_, true) => s.rshMarker line
        | _ => s
      s.rshLine 1 line
  | .window _ =>
    let s := s.freeEntry line
    if t.got.isSome then (s.storeGot t).windowDirty line else s
  | .prepare => (s.freeEntry line).storeGot t
  | .flush =>
    let s := s.freeEntry line
    match t.got with
    | some (d, psn) =>
      if s.retained line then s.storeDirty line d psn
      else ((s.dropLine line).bump PWR_RECALLS.COUNT).farWrite line d psn .flush
    | none => s
  | _ => s

/-- End the transaction: BUSY clears, and its request or walk goes on. -/
def State.finishTxn (s : State) (t : Txn) : State :=
  let s := s.endTxn t.line
  match t.req with
  | some i => match reqOf i with
    | some r => (s.finishReq t i r).ackCheck
    | none => s
  | none => (s.finishWalk t).ackCheck

/-- Every answer that the transaction awaits has arrived. -/
def Txn.over (t : Txn) : Bool := t.acks = 0 && t.fwd.isNone && !t.copy && t.wbFrom.isNone

/-- End a line's transaction if it is over. -/
def State.txnCheck (s : State) (line : LineAddr) : State :=
  match s.txn line with
  | some t => if t.over then s.finishTxn t else s.ackCheck
  | none => s

/-! ### Answers (R117, R120, R122) -/

/-- The transaction awaits an invalidation answer of the agent. -/
def Txn.awaitsAck (t : Txn) (agent : BitVec 5) : Bool := t.acks.getLsbD agent.toNat

/-- Count the agent's invalidation answer; a DIE-scope write waits for its writer's own (R139). -/
def State.countAck (s : State) (t : Txn) (agent : BitVec 5) (f : Txn → Txn) : State :=
  let s := s.setTxn t.line (fun u => f { u with acks := u.acks &&& ~~~(agentBit agent.toNat) })
  let s := match t.wid with
    | some id => s.setWrite id (fun w =>
        if decide (w.r.scope.toNat ≤ 1) && (w.r.who.kind == ReqKind.agent) && w.r.who.id = agent then { w with txn := false } else w)
    | none => s
  s.txnCheck t.line

/-- ACK_INV. -/
def State.ackInv (s : State) (agent : BitVec 5) (line : LineAddr) : State :=
  match s.txn line with
  | some t => if t.awaitsAck agent then s.countAck t agent id else s.protocol 2 1 (some line) agent.toNat
  | none => s.protocol 2 1 (some line) agent.toNat

/-- FWD_DONE with its flag D. -/
def State.fwdDone (s : State) (agent : BitVec 5) (line : LineAddr) (dirty : Bool) : State :=
  match s.txn line with
  | some t =>
    if t.fwd = some agent then
      (s.setTxn line (fun u => { u with fwd := none, copy := dirty && u.got.isNone })).txnCheck line
    else s.protocol 2 2 (some line) agent.toNat
  | none => s.protocol 2 2 (some line) agent.toNat

/-- The transaction of a line after an agent answered that it does not hold the line: it leaves VEC, and with `wb` its write-back
is awaited unless it has arrived (R122). -/
def State.missed (s : State) (t : Txn) (agent : BitVec 5) (wb : Bool) : State :=
  let wait := wb && !(t.evicts.getLsbD agent.toNat)
  let upd (u : Txn) : Txn := { u with
    evicts := u.evicts ||| agentBit agent.toNat
    wbFrom := if wait then some agent else u.wbFrom }
  if t.fwd = some agent then
    (s.setTxn t.line (fun u => { (upd u) with fwd := none, missed := true })).txnCheck t.line
  else s.countAck t agent upd

/-- FWD_MISS with its flag WB. -/
def State.fwdMiss (s : State) (agent : BitVec 5) (line : LineAddr) (wb : Bool) : State :=
  match s.txn line with
  | some t =>
    if t.fwd = some agent || t.awaitsAck agent then s.missed t agent wb else s.protocol 2 3 (some line) agent.toNat
  | none => s.protocol 2 3 (some line) agent.toNat

/-- WB_ACK to an agent, with the TAG and LABEL of its WB (R397). -/
def State.wbAck (s : State) (agent : BitVec 5) (tag : BitVec 11) (label : BitVec 3) (line : LineAddr) : State :=
  s.sendRouted agent.toNat
    { cls := 2, typ := 5, label := label, who := ⟨.agent, agent, 0⟩, tag := tag, line := line }

/-- Data that an agent returns for a range whose seal walk runs: discarded, but poison reaches memory (R90, R94). -/
def State.sealedReturn (s : State) (line : LineAddr) (psn : Bool) : State :=
  if psn then s.rshMarker line else s

/-- WB: absorbed by a transaction, written for the owner, or discarded (R117, R120); always answered WB_ACK. -/
def State.writeBackFrom (s : State) (agent : BitVec 5) (tag : BitVec 11) (label : BitVec 3) (line : LineAddr) (d : LineData)
    (psn : Bool) : State :=
  let store (s : State) : State :=
    if s.sealWalk line then s.sealedReturn line psn else s.storeDirty line d psn
  match s.txn line with
  | some t =>
    if s.ownerOf line = some agent || t.wbFrom = some agent || (t.mode == .lostProbe && t.awaitsAck agent) then
      let s := (store s).setTxn line (fun u => { u with
        evicts := u.evicts ||| agentBit agent.toNat
        wbFrom := if u.wbFrom = some agent then none else u.wbFrom })
      (s.wbAck agent tag label line).txnCheck line
    else if s.sealWalk line then (s.sealedReturn line psn).wbAck agent tag label line
    else (s.protocol 3 5 (some line) agent.toNat).wbAck agent tag label line
  | none =>
    if s.ownerOf line = some agent then ((store s).freeEntry line).wbAck agent tag label line
    else if s.sealWalk line then (s.sealedReturn line psn).wbAck agent tag label line
    else (s.protocol 3 5 (some line) agent.toNat).wbAck agent tag label line

/-- WB_COPY: the dirty data of a forward or of SNP_CLEAN (R117, R118). -/
def State.wbCopyFrom (s : State) (agent : BitVec 5) (line : LineAddr) (d : LineData) (psn : Bool) : State :=
  match s.txn line with
  | some t =>
    if (t.fwd = some agent && t.got.isNone) || (t.copy && s.ownerOf line = some agent) then
      (s.setTxn line (fun u => { u with got := some (d, psn), copy := false })).txnCheck line
    else s.protocol 3 6 (some line) agent.toNat
  | none => s.protocol 3 6 (some line) agent.toNat

/-- BINV_DATA: dirty data that answer a back-invalidation (R109, R117, R118). -/
def State.binvDataFrom (s : State) (agent : BitVec 5) (line : LineAddr) (d : LineData) (psn : Bool) : State :=
  match s.txn line with
  | some t =>
    if t.awaitsAck agent then s.countAck t agent (fun u => { u with got := some (d, psn) })
    else s.protocol 3 7 (some line) agent.toNat
  | none => s.protocol 3 7 (some line) agent.toNat

/-- A forward timeout (R126): the agent is lost, reported once, its EXC line is poisoned, and the transaction completes as if it
had answered FWD_MISS with WB = 0. -/
def State.fwdTimedOut (s : State) (agent : BitVec 5) (line : LineAddr) : State :=
  match s.txn line with
  | some t =>
    if t.fwd = some agent || t.awaitsAck agent then
      let owner := s.ownerOf line = some agent
      let s := s.setBit CAT_AGENT_LOST.AGENT agent.toNat true
      let s := s.fault 3 3 2 (loc := some line) (srcKind := 1) (srcId := agent.toNat) (irq := true)
      let s := if owner then s.poisonLine line else s
      s.missed t agent false
    else s
  | none => s

/-- The write-back that an adopted line waits for does not come (R346): the line is poisoned and reported as WB_LOST. -/
def State.adoptedWbLost (s : State) (line : LineAddr) : State :=
  match s.txn line with
  | some t =>
    if s.adopted line && t.wbFrom.isSome then
      let s := (s.poisonLine line).lossLines 3 [line]
      (s.setTxn line (fun u => { u with wbFrom := none })).txnCheck line
    else s
  | none => s

/-- EVICT (R117, R120): a BUSY line absorbs it; otherwise the agent's bit is cleared, and an entry with no agent left is
freed. -/
def State.evictFrom (s : State) (agent : BitVec 5) (line : LineAddr) : State :=
  match s.txn line with
  | some _ => s.setTxn line (fun u => { u with evicts := u.evicts ||| agentBit agent.toNat })
  | none =>
    match s.catFind line with
    | some e =>
      if (s.cat (s.catSet line) e).vec.getLsbD agent.toNat then
        (s.catTouch (s.catSet line) e).dropAgents line (agentBit agent.toNat)
      else s
    | none => s

end Sys2Proof.Machine
end

