-- ==== Sys2Proof/Machine/Request.lean ====
section
/-! DEFINITION. A request at its tag lane (R27): the checks in the order of R15, what makes it wait or be answered NACK_RETRY, its
acceptance (R117, R135 to R146), and acquires with WIN_V (R152, R153). -/

namespace Sys2Proof.Machine

/-! ### Answers without effect -/

/-- The request is accepted and answered with a status that leaves everything it addresses unchanged (R15). `first` is false for a
request that a tag lane has accepted before (R153), which is not charged again. -/
def State.turnAway (s : State) (i : Instr) (r : Req) (first : Bool) (status : Nat) (reason : Nat := 0) : State :=
  let lane := s.lane r.line
  ((if first then s.slotServed lane else s.slotReplay lane).take i r first).complete r status reason

/-- SEALED: with poisoned data where the answer carries data (R13, R89). -/
def State.answerSealed (s : State) (i : Instr) (r : Req) (first : Bool) : State :=
  let lane := s.lane r.line
  let s := ((if first then s.slotServed lane else s.slotReplay lane).take i r first).event 0x26 (label := some r.label.toNat)
  match i with
  | .atom _ _ =>
    let (c, s) := s.fresh
    s.reply { datMsg r 8 false with status := stSealed, psn := true, body := .old ((Config.freeLine c).extractLsb' 0 64) }
  | _ => s.replyPoison (datMsg r 4 false) stSealed

/-! ### The checks of a request (R15) -/

/-- TYPE of a REQ command (R116). -/
def typOf : Instr → Nat
  | .rdS _ => 0 | .rdX _ => 1 | .upg _ => 2 | .rdOnce _ => 3 | .rdLast _ => 4 | .wrLine _ _ => 5 | .wrPart _ _ _ => 6
  | .atom _ _ => 7 | .evict _ => 8 | .range _ _ => 9 | .ledgerOpAccept _ o =>
    match o.kind with
    | .lacc => 0x10 | .laccS => 0x11 | .lmerge => 0x12 | .lsnap => 0x13 | .ldrain => 0x14 | .lclr => 0x15 | .reserved => 0x16
  | _ => 0

/-- Requests are served in the power state in force: not from E3 of an entry to X5 of the exit (R313, R319). -/
def State.served (s : State) : Bool :=
  let st := s.rd PWR_STATUS.STATE
  st = 0 || st = 1 || st = 4 || st = 5 || ((st = 6 || st = 8) && decide (s.rd PWR_STATUS.PHASE < 3))

/-- PARKED: in the failed state (R25), before step 9 (R283), while displaced (R347), and while the power is down. The slice's own
Porter has no casement and runs from step 3 on (R283 and R347 speak of casements). -/
def State.parkedFor (s : State) (w : Requester) : Bool :=
  s.front.failed || !s.served
    || (!(s.ownPorter w) && (s.rd SLC_START.STATE != 5 || s.flag MIR_STATUS.DISPLACED))

/-- SCOPE_ERR by R138. -/
def scopeBad (i : Instr) (r : Req) : Bool :=
  let acqOk := match i with | .rdS _ | .rdOnce _ | .atom _ _ => true | _ => false
  ((r.rel || r.acq) && r.scope = 0) || (r.rel && !(isWrite i)) || (r.acq && !acqOk)
    || ((r.rel || r.acq) && r.who.kind = .porter && r.scope = 1) || (r.winV && !r.acq)

/-- Bypass window `w` is valid. -/
def State.winValid (s : State) (w : Nat) : Bool := s.flagI ORD_WIN_CTL.VALID w

/-- A faulty field that is refused without a fault entry: NOACK (R140), an invalid window (R138), a multicast group of which the
requester is no member (R132), an atomic the slice does not perform (R127). -/
def State.fieldBad (s : State) (i : Instr) (r : Req) : Bool :=
  let posted := match i with | .wrLine _ _ | .wrPart _ _ _ => true | _ => false
  let grouped := match i with | .rdS _ | .rdOnce _ => r.mcg != 0 | _ => false
  (r.noack && (!posted || r.rel)) || (r.winV && !(s.winValid r.win.toNat))
    || (grouped && (r.who.kind != .agent || !((s.group r).getLsbD r.who.id.toNat)))
    || (match i with | .atom _ a => !(atomValid a) | _ => false)

/-- A requester that may not hold lines asks for a copy (R105). -/
def noHolder (i : Instr) (r : Req) : Bool :=
  (match i with | .rdS _ | .rdX _ | .upg _ => true | _ => false) && r.who.kind != .agent

/-- A request that does not pass the checks: its status and reason, and which fault entry goes with it. -/
inductive Verdict where
  | answer (status reason : Nat)
  | faulty
  | notHome
  deriving DecidableEq, Repr

/-- The checks in the order of R15, down to REFUSED; none for a request that passes. -/
def State.verdict (s : State) (i : Instr) (r : Req) : Option Verdict :=
  if s.parkedFor r.who then some (.answer stParked rsnNone)
  else if scopeBad i r then some (.answer stScopeErr rsnNone)
  else if noHolder i r then some .faulty
  else if !(s.accepts r.line) then some .notHome
  else if r.who.kind = .agent && s.lostAgents.getLsbD r.who.id.toNat then some (.answer stRefused rsnAgentLost)
  else if s.fieldBad i r then some (.answer stRefused rsnField)
  else none

/-- Answer by a verdict: a faulty request writes the PROTOCOL entry (R105), NOT_HOME its own (R40). -/
def State.answerVerdict (s : State) (i : Instr) (r : Req) (first : Bool) : Verdict → State
  | .answer st rsn => s.turnAway i r first st rsn
  | .faulty =>
    (s.protocol 0 (typOf i) (some r.line) r.who.id.toNat stRefused (srcKindOf r.who)).turnAway i r first stRefused rsnField
  | .notHome =>
    (s.fault 3 1 1 (detail := s.rd SLC_LIVE.GEN) (loc := some r.line) (status := stRefused)
      (srcKind := srcKindOf r.who) (srcId := r.who.id.toNat)).turnAway i r first stRefused rsnNotHome

/-! ### What a request waits for (R22, R383) -/

/-- Why the request cannot take its way: a victim waits for its fill or needs a write-back that has no place, or the victim's bank
lane is full. -/
def State.allocBlock (s : State) (line : LineAddr) : Option Nat :=
  match s.lookup line with
  | some _ => none
  | none => match s.wayFor line with
    | none => some 0
    | some w =>
      let t := s.tag (lineSet line) w
      if !t.dirty then none
      else if s.stk.farQ.any (fun q => q.sub = s.subOf line) || !(s.farWriteRoom (s.subOf line)) then some 0
      else if s.bankFull (lineSet line) w false then some 1
      else none

/-- The request takes home data or writes at its acceptance, with the Catalogue as it stands. -/
def State.usesHome (s : State) (i : Instr) (r : Req) : Bool :=
  match s.catFind r.line with
  | none => !(s.isCatLost (s.catSet r.line)) && !(needsEntry i && (match s.catVictim (s.catSet r.line) with
      | some e => (s.cat (s.catSet r.line) e).st != .free
      | none => true))
  | some e =>
    let c := s.cat (s.catSet r.line) e
    c.st == .shr && (match i with
      | .rdS _ => !c.fv || c.ptr = r.who.id || r.mcg != 0
      | .rdX _ => !c.fv || c.ptr = r.who.id
      | .upg _ => !(c.vec.getLsbD r.who.id.toNat) && (!c.fv || c.ptr = r.who.id)
      | .rdOnce _ => true
      | _ => false)

/-- A window command for the line is outstanding in lane 0 of its bank pair: the tag lane holds other commands for it (R254). -/
def State.laneZero (s : State) (line : LineAddr) : Bool :=
  let hit (j : BankJob) : Bool := j.line = line && j.win.isSome
  s.front.f2b.any (fun e => e.2.any hit) || s.front.atBank.any (fun e => e.2.any hit)

/-- The cause that keeps the request from being accepted: 0 FAR, 1 BANK, 3 OTHER. -/
def State.blockCause (s : State) (i : Instr) (r : Req) : Option Nat :=
  if !(s.usesHome i r) then none
  else if s.rd WIN_CTL.ACTIVE != 0 && s.laneZero r.line then some 1
  else if isAtom i && (s.atomLine r.line).isNone && decide (32 ≤ s.coh.atoms.length)
      && s.coh.atoms.all (fun a => a.data.isNone) then some 3
  else match s.lineSt r.line, s.lookup r.line with
  | .clean, some w | .dirty, some w =>
    if (s.atomLine r.line).isSome || s.dataPending r.line then none
    else if s.bankFull (lineSet r.line) w false then some 1 else none
  | st, _ =>
    match i with
    | .wrLine _ _ => s.allocBlock r.line
    | _ =>
      if s.dataPending r.line || (st = .dead && s.rd SHT_DEAD_CTL.MODE = 0) || s.isTagLost (lineSet r.line)
          || s.outOfReach r.line then none
      else if !(s.farReadRoom r.line) then some 0
      else if (match i with | .rdLast _ => true | _ => false) || (isRead i && s.noAlloc r.line) then none
      else s.allocBlock r.line

/-! ### Acceptance -/

/-- The slice sends its partner a message for the request (R337). -/
def State.needsMirror (s : State) (i : Instr) (r : Req) : Bool :=
  s.mirrors r.line && (isWrite i || (match i with
    | .rdLast _ => s.mirCarrel r.line || s.lineSt r.line = .dirty
    | _ => false))

/-- It needs one and has no credit in its lane (R341). -/
def State.mirBlocked (s : State) (i : Instr) (r : Req) : Bool := s.needsMirror i r && s.mirCredit (s.lane r.line) = 0

/-- PREPARE is in force (R355). -/
def State.preparing (s : State) : Bool := s.rd MIR_RESTRIPE.STATE != 0

/-- The request starts a transaction: it snoops, or it back-invalidates a victim (R109, R110, R117). -/
def State.needsTxn (s : State) (i : Instr) (r : Req) : Bool :=
  match s.catFind r.line with
  | none => s.isCatLost (s.catSet r.line) || (s.adopted r.line && !(s.homesSelf r.line)) || !(s.usesHome i r)
  | some e =>
    let c := s.cat (s.catSet r.line) e
    if c.st == .exc then true
    else match i with
      | .rdS _ => c.fv && c.ptr != r.who.id && r.mcg = 0
      | .rdX _ | .upg _ => (c.vec &&& ~~~(agentBit r.who.id.toNat)) != 0
      | .rdOnce _ => false
      | _ => true

/-- The transaction table or the Catalogue set is full for the request (R124). -/
def State.tableFull (s : State) (i : Instr) (r : Req) : Bool :=
  (s.txnFull && s.needsTxn i r) || (needsEntry i && (s.catFind r.line).isNone && (s.catVictim (s.catSet r.line)).isNone)

/-- Open the sealed entries of a written line (R91). -/
def State.openSeals (s : State) (line : LineAddr) : State :=
  (s.sealedBy line).foldl (fun s n => s.setFlagI SHT_ENT_CTL.SEALED n false) s

/-- The answer of a write at its ack point: CMP, or ATOM_DATA. -/
def ackMsg (i : Instr) (r : Req) : Msg :=
  match i with
  | .atom _ _ => datMsg r 8 false
  | _ => cmpMsg r stOk

/-- Some agent other than the requester holds the line. -/
def State.heldByOther (s : State) (r : Req) : Bool :=
  (s.entryVec r.line &&& ~~~(if r.who.kind = .agent then agentBit r.who.id.toNat else 0)) != 0

/-- Perform an accepted read. -/
def State.acceptRead (s : State) (i : Instr) (r : Req) : State :=
  let s := if r.acq then s.checkAcquire r else s
  let s := (s.measure r.line (!(s.lineSt r.line).live)).train r
  (s.serveLine i r 0 false).ackCheck

/-- Perform an accepted write or atomic: it is tracked until its ack point, and it fills or clears its release record. The place of an
atomic is decided by the predictor's counter before its update (R129). -/
def State.acceptWrite (s : State) (i : Instr) (r : Req) : State :=
  let s := s.openSeals r.line
  let s := if r.acq then s.checkAcquire r else s
  let s := (s.recordWrite r).measure r.line (!(s.lineSt r.line).live)
  let s := if isAtom i then s else s.event 0x23 (lane := some (s.lane r.line)) (label := some r.label.toNat)
  let held := s.heldByOther r
  let inVec := r.who.kind = .agent && (s.entryVec r.line).getLsbD r.who.id.toNat
  let (id, s) := s.trackWrite r (ackMsg i r) (isAtom i) (decide (2 ≤ r.scope.toNat) || inVec) (decide (r.scope = 3))
  let s := s.serveLine i r id false
  (if isAtom i then s.predict r.line held else s).ackCheck

/-- End the requester's reservation of the line (R125). -/
def State.endReservation (s : State) (r : Req) : State :=
  { s with coh := { s.coh with resv := s.coh.resv.filter (fun v => !(v.line = r.line && v.who = r.who)) } }

/-- The tag lane decides on a request that passed the checks. `first` as in turnAway; `cmd` is the command presented again when
the request cannot be accepted. -/
def State.atLane (s : State) (i : Instr) (r : Req) (first : Bool) (cmd : Instr) : State :=
  let lane := s.lane r.line
  let s := (s.readTags (lineSet r.line)).readCat (s.catSet r.line)
  if s.front.failed then s.turnAway i r first stParked
  else if (!(isWrite i) || isAtom i) && s.isSealed r.line then s.answerSealed i r first
  else if s.preparing then (((s.slotNack lane).take i r first).nack r 7)
  else if isWrite i && s.sealWalk r.line then s.nackReq i r 2 first
  else if (s.txn r.line).isSome || s.reservedFor r.line r.who || s.tableFull i r then s.nackReq i r 2 first
  else if s.mirShut && s.needsMirror i r then s.turnAway i r first stParked
  else if s.mirBlocked i r then (s.bump MIR_NACKS.COUNT).nackReq i r 1 first
  else match s.blockCause i r with
    | some c => s.present lane c cmd
    | none =>
      let s := ((if first then s.slotServed lane else s.slotReplay lane).take i r first).endReservation r
      if isWrite i then s.acceptWrite i r else s.acceptRead i r

/-! ### Acquires with WIN_V (R152, R153) -/

/-- The slices that a window's HOMES names. -/
def State.homesOf (s : State) (w : Nat) : List (BitVec 6) :=
  (List.range 64).filterMap (fun k =>
    let bit := if k < 32 then (s.rdI ORD_WIN_HOMES_LO.HOMES_LO w).testBit k
      else (s.rdI ORD_WIN_HOMES_HI.HOMES_HI w).testBit (k - 32)
    if bit then some (BitVec.ofNat 6 k) else none)

/-- Show the pending walks. -/
def State.setPend (s : State) (l : List Nat) : State :=
  ({ s with ord := { s.ord with pend := l } }).wr ORD_WIN_STATUS.PEND (l.foldl (fun m w => m ||| 2 ^ w) 0)

/-- Make a window pending, behind those that wait (R152). -/
def State.pendWalk (s : State) (w : Nat) : State :=
  if s.ord.pend.contains w then s else s.setPend (s.ord.pend ++ [w])

/-- The FENCE that an acquire sends to another slice (R153). -/
def fanFence (self p : BitVec 6) (r : Req) (tag : BitVec 11) : Msg :=
  { cls := 4, typ := 0, label := r.label, who := ⟨.slice, 0, self⟩, tag := tag, line := 0, scope := r.scope
    winV := true, win := r.win, toSlice := some p }

/-- TAGs of FENCE messages that await their answers. -/
def State.fenceTags (s : State) : List (BitVec 11) := s.ord.acqs.flatMap (fun a => a.slices.map (·.2))

/-- Send the FENCE of an acquire to another slice under a TAG that no other waits for; the slice's choice of TAG is a free value
(notes/assumptions/4.md). -/
def State.fanOut (s : State) (r : Req) (p : BitVec 6) : State :=
  let (c, s) := s.fresh
  let tag := pickTag (Config.freeNat c) s.fenceTags
  let s := { s with ord := { s.ord with acqs := s.ord.acqs.map (fun (a : Acquire) =>
    if a.r.who = r.who && a.r.tag = r.tag then { a with slices := a.slices ++ [(p, tag)] } else a) } }
  s.sendRouted p.toNat (fanFence s.pslice p r tag)

/-- Begin an acquire with WIN_V: the FENCE fan-out and the slice's own walk. -/
def State.beginAcquire (s : State) (i : Instr) (r : Req) : State :=
  let s := { s with ord := { s.ord with acqs := s.ord.acqs ++ [Acquire.mk i r [] .pending] } }
  let s := s.pendWalk r.win.toNat
  ((s.homesOf r.win.toNat).filter (fun p => p != s.pslice)).foldl (fun s p => s.fanOut r p) s

/-! ### Requests -/

/-- The front core is clocked: in DOZE a request waits for the wake (R311). -/
def State.dozing (s : State) : Bool := s.rd PWR_STATUS.STATE = 1

/-- A request of the types 0x00 to 0x08 at its tag lane. -/
def State.request (s : State) (i : Instr) (r : Req) : State :=
  let lane := s.lane r.line
  if s.dozing then s.present lane 3 i
  else match s.verdict i r with
    | some v => s.answerVerdict i r true v
    | none =>
      match i with
      | .evict _ =>
        if s.preparing then ((s.slotNack lane).take i r).nack r 7
        else (((s.readCat (s.catSet r.line)).slotServed lane).take i r).evictFrom r.who.id r.line
      | _ =>
        if r.winV then ((s.slotServed lane).take i r).beginAcquire i r
        else s.atLane i r true i

end Sys2Proof.Machine
end

