-- ==== Sys2Proof/Machine/LedgerOps.lean ====
section
/-! DEFINITION. The operations behind the Ledger's commands: bindings and the rows of a line (R158, R159), the findings of the tag
lane (R171, R178), row state and epochs (R181 to R183), cell words and their check (R157), the adds (R166, R168, R193), D1 and D2 of
a drain (R180, R183, R186 to R190), and what the partner is sent (R342). -/

namespace Sys2Proof.Machine

/-! ### Bindings (R158, R159, R342) -/

/-- Physical rows (R155). -/
def State.rowCount (s : State) : Nat := if s.s64 then 2048 else 4096
/-- Tile rows per granule of a destination format. -/
def rpg (dfmt : Nat) : Nat := 8 / (numFmt dfmt).size
/-- Tile rows per line. -/
def rowsPerLine (dfmt : Nat) : Nat := rpg dfmt / 2
/-- Binding `n` is valid. -/
def State.bindOk (s : State) (n : Nat) : Bool := s.flagI LDG_BIND_CTL.VALID n
/-- The first 2 KiB group of a binding. -/
def State.bindGroup (s : State) (n : Nat) : Nat :=
  s.rdI LDG_BIND_BASE_HI.BASE_HI n * 2 ^ 21 + s.rdI LDG_BIND_BASE_LO.BASE_LO n
/-- The binding holds copies of the partner's rows (R342). -/
def State.bindCopy (s : State) (n : Nat) : Bool := s.flagI MIR_LDG.COPY n
/-- The map and the die-local number by which a binding counts its granules: a copy entry uses the partner's. -/
def State.bindMap (s : State) (n : Nat) : Nat × Nat :=
  if s.bindCopy n then (s.rd MIR_PEER_MAP.MASK, s.rd MIR_PEER_MAP.SELF) else (s.rd SLC_LIVE.MASK, s.rd SLC_LIVE.SELF)
/-- The granules of a group whose home is the binding's slice, ascending by index. -/
def State.bindHomes (s : State) (n grp : Nat) : List Nat :=
  let m := s.bindMap n
  (List.range 8).filter (fun i => homeOf m.1 (BitVec.ofNat 44 (grp * 8 + i)) = some m.2)
/-- k of R159: the granules of the group before this one whose home is the binding's slice. -/
def State.bindK (s : State) (n : Nat) (g : BitVec 44) : Nat :=
  ((s.bindHomes n (g.toNat / 8)).filter (fun i => decide (i < g.toNat % 8))).length
/-- The binding's region holds a granule. -/
def State.bindHolds (s : State) (n : Nat) (g : BitVec 44) : Bool :=
  decide (s.bindGroup n ≤ g.toNat / 8) && decide (g.toNat / 8 < s.bindGroup n + s.rdI LDG_BIND_SIZE.GROUPS n)
/-- The valid binding of a line: copy entries serve the adopted share, the others this slice's own. -/
def State.bindOf (s : State) (line : LineAddr) : Option Nat :=
  (List.range 32).find? (fun n => s.bindOk n && s.bindHolds n (granule line) && s.bindCopy n == !(s.homesSelf line))
/-- The tile row `e` of a granule under a binding (R159). -/
def State.rowRef (s : State) (n : Nat) (g : BitVec 44) (e : Nat) : RowRef :=
  let dfmt := s.rdI LDG_BIND_CTL.DFMT n
  let shadow := s.flagI LDG_BIND_CTL.SHADOW n
  let grp := g.toNat / 8 - s.bindGroup n
  let slot := (grp * s.rdI LDG_BIND_CTL.K n + s.bindK n g) * rpg dfmt + e
  ⟨s.rdI LDG_BIND_CTL.ROW0 n + slot * (1 + shadow.toNat), slot, n, e, dfmt, shadow, s.flagI LDG_BIND_CTL.MODE n⟩
/-- Every tile row of a line, in ascending RIDX. -/
def State.lineRows (s : State) (n : Nat) (line : LineAddr) : List RowRef :=
  let per := rowsPerLine (s.rdI LDG_BIND_CTL.DFMT n)
  (List.range per).map (fun j => s.rowRef n (granule line) ((lineBit line).toNat * per + j))
/-- The granule and tile row that slot `slot` of a binding names, if this slice homes one there (the inverse of R159). -/
def State.slotPlace (s : State) (n slot : Nat) : Option (BitVec 44 × Nat) :=
  let per := rpg (s.rdI LDG_BIND_CTL.DFMT n)
  let k := s.rdI LDG_BIND_CTL.K n
  let grp := s.bindGroup n + slot / per / k
  match (s.bindHomes n grp)[slot / per % k]? with
  | some i => some (BitVec.ofNat 44 (grp * 8 + i), slot % per)
  | none => none

/-! ### The fields of an operation (R170, R171) -/

/-- Contributions of an LACC. -/
def laccN (o : LedgerOp) : Nat := 64 * (1 + o.beats.toNat) / (numFmt o.cfmt.toNat).size
/-- Cells that an LACC covers. -/
def laccC (o : LedgerOp) : Nat := laccN o / 2 ^ o.shape.toNat
/-- The operation adds contributions. -/
def isLacc (o : LedgerOp) : Bool := o.kind = .lacc || o.kind = .laccS
/-- The first element, counted within the line. -/
def laccFirst (o : LedgerOp) (dfmt : Nat) : Nat := o.offset.toNat / (numFmt dfmt).size

/-- FIELD_INVALID of R169 to R171, R175, R168 for a binding. -/
def State.ldgFieldBad (s : State) (o : LedgerOp) (n : Option Nat) : Bool :=
  match o.kind with
  | .reserved => true
  | .lacc | .laccS =>
    decide (5 ≤ o.cfmt.toNat) || (match n with
      | some n =>
        let w := laccC o * (numFmt (s.rdI LDG_BIND_CTL.DFMT n)).size
        decide (128 < w) || o.offset.toNat % w != 0
      | none => false)
  | .lsnap => match n with
    | some n => (o.half && !(s.flagI LDG_BIND_CTL.SHADOW n))
        || decide (rowsPerLine (s.rdI LDG_BIND_CTL.DFMT n) ≤ o.ridx.toNat)
    | none => false
  | .ldrain => o.rmode = 3
  | .lmerge => match n with
    | some n => s.flagI LDG_BIND_CTL.MODE n
    | none => false
  | .lclr => false

/-- The Ledger takes no new operation (R196). -/
def State.ldgOff (s : State) : Bool := !(s.flag LDG_CTL.EN) || s.flag LDG_CTL.STOPPING || s.winding

/-- The tile rows that an operation covers. -/
def State.jobRows (s : State) (line : LineAddr) (o : LedgerOp) (n : Nat) : List RowRef :=
  let all := s.lineRows n line
  if isLacc o then
    let first := laccFirst o (s.rdI LDG_BIND_CTL.DFMT n)
    (all.drop (first / 32)).take ((first + laccC o - 1) / 32 - first / 32 + 1)
  else match o.kind with
    | .lmerge | .lsnap => (all.drop o.ridx.toNat).take 1
    | _ => all

/-- The job of an operation with the findings of its tag lane (R178), in the order NOT_HOME, FIELD_INVALID, NOT_BOUND,
LEDGER_OFF. -/
def State.ldgJob (s : State) (r : Req) (o : LedgerOp) (src : LdgFrom) (credit : Bool) : LdgJob :=
  let n := if s.accepts r.line then s.bindOf r.line else none
  let bad := s.ldgFieldBad o n
  let reason := if !(s.accepts r.line) then some rsnNotHome
    else if bad then some rsnField
    else if n.isNone then some rsnNotBound
    else if s.ldgOff then some rsnLedgerOff
    else none
  let rows := match n with
    | some n => if bad then [] else s.jobRows r.line o n
    | none => []
  ⟨r, o, src, rows, reason, s.isSealed r.line, credit⟩

/-- The Ledger lane from the front island. -/
def State.ldgLane (s : State) (k : Nat) : List LdgJob := tget [] s.ldg.lane k
/-- Replace it. -/
def State.setLdgLane (s : State) (k : Nat) (l : List LdgJob) : State :=
  { s with ldg := { s.ldg with lane := tput [] s.ldg.lane k l } }
/-- The operations that a unit has taken from its lane. -/
def State.ldgUnit (s : State) (k : Nat) : List LdgJob := tget [] s.ldg.unit k
/-- Replace them. -/
def State.setLdgUnit (s : State) (k : Nat) (l : List LdgJob) : State :=
  { s with ldg := { s.ldg with unit := tput [] s.ldg.unit k l } }
/-- The key of the lane Ledger → front. -/
def ledgerFrontKey (k : Nat) : Nat := 500 + k
/-- An entry enters the lane Ledger → front. -/
def State.ldgBack (s : State) (k : Nat) : State :=
  { s with front := { s.front with lanes := tput 0 s.front.lanes (ledgerFrontKey k) (tget 0 s.front.lanes (ledgerFrontKey k) + 1) } }
/-- The lane Ledger → front is full. -/
def State.ldgFull (s : State) (k : Nat) : Bool := decide (16 ≤ tget 0 s.front.lanes (ledgerFrontKey k))

/-- Put a job into its lane; what does not fit is held at the sender, in order (R22). -/
def State.pushLdg (s : State) (j : LdgJob) : State :=
  let k := s.lane j.r.line
  s.setLdgLane k (s.ldgLane k ++ [j])

/-! ### Rows (R155, R164, R181) -/

/-- The image of a physical row. -/
def State.rowImg (s : State) (p : Nat) : RowImage := tget (rowEmpty false) s.ldg.rows p
/-- Write a physical row. -/
def State.setRowImg (s : State) (p : Nat) (r : RowImage) : State :=
  { s with ldg := { s.ldg with rows := tput (rowEmpty false) s.ldg.rows p r } }
/-- The state of a tile row. -/
def State.rowSt (s : State) (f : RowRef) : RowSt := tget RowSt.init s.ldg.st f.base
/-- Change the state of a tile row. -/
def State.setRowSt (s : State) (f : RowRef) (g : RowSt → RowSt) : State :=
  { s with ldg := { s.ldg with st := tput RowSt.init s.ldg.st f.base (g (s.rowSt f)) } }
/-- The physical row of the live half, or of the other. -/
def State.halfRow (s : State) (f : RowRef) (live : Bool) : Nat :=
  if f.shadow then f.base + ((s.rowSt f).live == live).toNat else f.base

/-- A unit reads cells of a physical row (R157): wrong bits are counted; a double-bit error sets PSN and is logged. -/
def State.readCells (s : State) (f : RowRef) (p : Nat) (line : LineAddr) (cells : List Nat) : State :=
  if s.ldg.ecc.isEmpty then s
  else (cells.flatMap (fun i => (List.range 5).map (fun w => (i, 160 * p + 5 * i + w)))).foldl (fun s x =>
    match tget Ecc.ok s.ldg.ecc x.2 with
    | .ok => s
    | .single => ({ s with ldg := { s.ldg with ecc := tdel s.ldg.ecc x.2 } }).bump LDG_ECC_CE.COUNT
    | .double => (((s.setRowSt f (fun t => { t with psn := true })).bump LDG_ECC_UE.COUNT).fault 5 1 1
        (detail := p <<< 16 ||| x.1) (loc := some line) (srcKind := 5) (srcId := p))) s

/-- Cells that are written get fresh check bits. -/
def State.wroteCells (s : State) (p : Nat) (cells : List Nat) : State :=
  if s.ldg.ecc.isEmpty then s
  else { s with ldg := { s.ldg with ecc := tfilter (fun k _ => !(k / 160 = p && cells.contains (k % 160 / 5))) s.ldg.ecc } }

/-- Clear one half of a tile row to the empty state of its mode. -/
def State.clearRow (s : State) (p : Nat) (fast : Bool) : State :=
  (s.setRowImg p (rowEmpty fast)).wroteCells p (List.range 32)

/-- LCLR of one tile row at an epoch, with a seed if one is given (R176). -/
def State.clearTile (s : State) (f : RowRef) (epoch : Word) (seed : Option (BitVec 64)) : State :=
  let s := s.clearRow f.base f.fast
  let s := if f.shadow then s.clearRow (f.base + 1) f.fast else s
  s.setRowSt f (fun t => { t with cur := epoch, tokl := false, toks := false, psn := false, seed := seed.getD t.seed })

/-! ### Epochs (R182, R183) -/

/-- How an operation stands to a row's epoch. -/
inductive EpochCls where
  | live | shadow | nack | late | ahead
  deriving DecidableEq, Repr

/-- d = (e − CUR) mod 2^32. -/
def epochD (e cur : Word) : Nat := (e - cur).toNat

/-- A contribution (R182). -/
def State.contribution (s : State) (f : RowRef) (e : Word) : EpochCls :=
  let t := s.rowSt f
  let d := epochD e t.cur
  if 2 ^ 31 ≤ d then .late
  else if d = 0 then (if t.draining && !f.shadow then .nack else .live)
  else if d = 1 && f.shadow && !t.draining then .shadow
  else .nack

/-- A drain (R183). -/
def State.drainCls (s : State) (f : RowRef) (e : Word) : EpochCls :=
  let t := s.rowSt f
  let d := epochD e t.cur
  if t.draining then .nack else if d = 0 then .live else if d < 2 ^ 31 then .ahead else .late

/-- The reason of the first class that refuses. -/
def epochReason : List EpochCls → Option Nat
  | [] => none
  | .late :: _ => some rsnEpochLate
  | .ahead :: _ => some rsnEpochAhead
  | _ :: r => epochReason r

/-! ### Answers (R178, R195) -/

/-- The counters and events of a Ledger answer. -/
def State.ldgCount (s : State) (label status reason : Nat) : State :=
  let s := if status = stOk || status = stOverflow || status = stPoison then s.bump LDG_OPS.COUNT else s
  let s := if status = stNack then (s.bump LDG_NACKS.COUNT).event 0x32 (label := some label) else s
  if status = stRefused && reason = rsnEpochLate then (s.bump LDG_LATE.COUNT).event 0x33 (label := some label) else s

/-- Answer a job of a request or of LDG_ROW_DRAIN with a CMP; NOACK suppresses it for LACC and LACC.S when the status is OK. -/
def State.ldgAnswer (s : State) (k : Nat) (j : LdgJob) (status : Nat) (reason : Nat := 0) : State :=
  let s := (s.ldgCount j.r.label.toNat status reason).ldgBack k
  match j.src with
  | .register => s.drainAnswer true (cmpMsg j.r status reason)
  | _ =>
    if isLacc j.o && j.r.noack && status = stOk then s
    else s.complete j.r status reason (if status = stNack then 1 else 0)

/-- OVF was set in a cell of a physical row that had none (R195). -/
def State.ovfFault (s : State) (p : Nat) (line : LineAddr) (before : RowImage) (cell : Nat) : State :=
  if rowOvf before then s
  else s.fault 5 2 1 (detail := p <<< 16 ||| cell) (loc := some line) (srcKind := 5) (srcId := p) (irq := true)

/-! ### The adds (R166, R168, R173, R198) -/

/-- The contributions of an LACC as numbers. -/
def laccNums (o : LedgerOp) : List Num :=
  let f := numFmt o.cfmt.toNat
  (List.range (laccN o)).map (fun j => f.read (o.data.extractLsb' (j * f.width) f.width).toNat)

/-- The contributions to cell `c` of an operation, in order. -/
def cellNums (o : LedgerOp) (nums : List Num) (c : Nat) : List Num :=
  (List.range (2 ^ o.shape.toNat)).filterMap (fun k => nums[c + k * laccC o]?)

/-- A cell after its contributions. -/
def cellUpdate (fast : Bool) (shape : Nat) (a : Cell) (ys : List Num) : Cell :=
  if fast then (fastUpdate shape (a.setWidth 32) (ys.map fastOf)).setWidth 320
  else ys.foldl (fun c y => cellAdd c (imageOf y)) a

/-- The cells of tile row `j` of the line that the operation covers, with the number of each within the operation. -/
def coveredCells (o : LedgerOp) (f : RowRef) : List (Nat × Nat) :=
  let first := laccFirst o f.dfmt
  let row0 := 32 * (f.e % rowsPerLine f.dfmt)
  (List.range 32).filterMap (fun i =>
    if first ≤ row0 + i && row0 + i < first + laccC o then some (i, row0 + i - first) else none)

/-- Add the contributions of an operation to one physical row: the state, and whether OVF was set in a cell. -/
def State.addRow (s : State) (o : LedgerOp) (nums : List Num) (f : RowRef) (p : Nat) (line : LineAddr) : State × Bool :=
  let cells := coveredCells o f
  let s := s.readCells f p line (cells.map (·.1))
  let old := s.rowImg p
  let new := cells.foldl (fun r x => rowPut r x.1 (cellUpdate f.fast o.shape.toNat (rowCell r x.1) (cellNums o nums x.2))) old
  let s := (s.setRowImg p new).wroteCells p (cells.map (·.1))
  match (List.range 32).find? (fun i => !f.fast && cellOvf (rowCell new i) && !(cellOvf (rowCell old i))) with
  | some i => (s.ovfFault p line old i, true)
  | none => (s, false)

/-- Merge a row image into one physical row (R174): the state, and whether OVF was set in a cell. -/
def State.mergeRow (s : State) (image : RowImage) (f : RowRef) (p : Nat) (line : LineAddr) : State × Bool :=
  let s := s.readCells f p line (List.range 32)
  let old := s.rowImg p
  let new := (List.range 32).foldl (fun r i => rowPut r i (cellAdd (rowCell r i) (rowCell image i))) old
  let s := (s.setRowImg p new).wroteCells p (List.range 32)
  match (List.range 32).find? (fun i => cellOvf (rowCell new i) && !(cellOvf (rowCell old i))) with
  | some i => (s.ovfFault p line old i, true)
  | none => (s, false)

/-! ### The scale table (R191 to R194) -/

/-- The working entry that an LACC.S reads at L1. -/
def State.scaleEnt (s : State) (n : Nat) : ScaleEnt := tget ScaleEnt.init s.ldg.scale n

/-- The numbers that an LACC or LACC.S adds. -/
def State.jobNums (s : State) (o : LedgerOp) : List Num :=
  if o.kind = .laccS then
    let e := s.scaleEnt o.sidx.toNat
    (laccNums o).map (fun x => scaled x e.mul e.shift)
  else laccNums o

/-! ### The partner (R342) -/

/-- MLDG after an operation that L1 accepted on rows whose binding is mirrored. `odd` is the half of the pair it acts on. -/
def State.ldgMirror (s : State) (j : LdgJob) (odd : Bool) : State :=
  match j.rows with
  | f :: _ =>
    if s.pairOn && s.flagI MIR_LDG.MIRROR f.bind && s.homesSelf j.r.line then
      let e := s.scaleEnt j.o.sidx.toNat
      let (mul, shift) := if j.o.kind = .laccS then (e.mul, e.shift) else (0, 0)
      s.mirSend ⟨5, { s.mirHdr j.r.line 0 false j.r.psn with arg := BitVec.ofNat 32 f.bind }, none,
        some ⟨j.o, odd, mul, shift⟩, none, 0, none⟩
    else s
  | [] => s

/-- The operation is one that the home forwards to its partner (R342). -/
def State.ldgMirrored (s : State) (j : LdgJob) : Bool :=
  match j.rows with
  | f :: _ => s.pairOn && s.flagI MIR_LDG.MIRROR f.bind && s.homesSelf j.r.line && j.o.kind != .lsnap
  | [] => false

/-- It must send an MLDG and finds no mirror credit (R341). -/
def State.ldgMirBlocked (s : State) (j : LdgJob) : Bool := s.ldgMirrored j && s.mirCredit (s.lane j.r.line) = 0

/-! ### D1 and D2 of a drain (R180, R183, R186 to R190) -/

/-- D1 for one tile row. -/
def RowSt.d1 (t : RowSt) (shadow : Bool) (e : Word) (seed : Option (BitVec 64)) : RowSt :=
  { t with
    draining := true
    cur := e + 1
    live := if shadow then !t.live else t.live
    tokl := t.toks
    toks := false
    seed := seed.getD t.seed }

/-- The seed in an operation's payload. -/
def seedOf (o : LedgerOp) : Option (BitVec 64) := if o.seedV then some (o.data.extractLsb' 0 64) else none

/-- D1 of an accepted drain. -/
def State.drainD1 (s : State) (k : Nat) (j : LdgJob) (ctx : Option Nat) : State :=
  let rows := j.rows.map (fun f => (f, s.halfRow f true))
  let odd := rows.any (fun x => x.2 != x.1.base)
  let s := j.rows.foldl (fun s f => s.setRowSt f (fun t => t.d1 f.shadow j.o.epoch (seedOf j.o))) s
  let s := s.ldgMirror j odd
  { s with ldg := { s.ldg with drains := tput [] s.ldg.drains k (tget [] s.ldg.drains k ++ [Drain.mk j rows ctx]) } }

/-- D2 of one row: read, then cleared to the empty state; DRAINING ends. -/
def State.drainD2 (s : State) (x : RowRef × Nat) (line : LineAddr) : RowImage × State :=
  let s := s.readCells x.1 x.2 line (List.range 32)
  let img := s.rowImg x.2
  let s := (s.clearRow x.2 x.1.fast).setRowSt x.1 (fun t => { t with draining := false })
  (img, s.bump LDG_DRAINS.COUNT)

/-- D2 of every row of a drain. -/
def State.drainRows (s : State) (d : Drain) : List (RowRef × Nat × RowImage) × State :=
  d.rows.foldl (fun p x =>
    let (img, s) := p.2.drainD2 x d.job.r.line
    (p.1 ++ [(x.1, x.2, img)], s)) ([], s)

/-- The rounding mode of a cell: RMODE 0 RNE, 1 RTZ, 2 SR (R187, R188). -/
def roundMode (o : LedgerOp) (la : LineAddr) (seed : BitVec 64) (c : Nat) : Round :=
  match o.rmode.toNat with
  | 0 => .rne
  | 1 => .rtz
  | _ => .sr (rndWord seed la o.epoch c)

/-- The rounded cells of one row, packed from the row's place within the line on. -/
def roundRow (o : LedgerOp) (la : LineAddr) (seed : BitVec 64) (f : RowRef) (img : RowImage) (d : LineData) : LineData :=
  let fmt := numFmt f.dfmt
  (List.range 32).foldl (fun d i =>
    let c := rowCell img i
    let v := fmt.round (roundMode o la seed (32 * f.e + i)) o.sat (if f.fast then fastNum c else cellNum c)
    let pos := (32 * (f.e % rowsPerLine f.dfmt) + i) * fmt.width
    putBits d pos (BitVec.ofNat fmt.width v)) d

/-- One seed log entry (R190). -/
def State.seedLog (s : State) (j : LdgJob) (f : RowRef) (p : Nat) : State :=
  let n := s.rd LDG_SEED_HEAD.HEAD
  let seed := (s.rowSt f).seed.toNat
  let s := s.setWord (LDG_SLOG_TS_LO.word.off + 32 * n) (BitVec.ofNat 32 s.pins.ns.toNat)
  let s := s.setWord (LDG_SLOG_TS_HI.word.off + 32 * n)
    (BitVec.ofNat 32 (s.pins.wrap.toNat % 2 ^ 16 * 2 ^ 16 + s.pins.ns.toNat / 2 ^ 32))
  let s := s.wrI LDG_SLOG_LINE_LO.LINE_LO n (j.r.line.toNat % 2 ^ 25)
  let s := s.wrI LDG_SLOG_LINE_HI.LINE_HI n (j.r.line.toNat / 2 ^ 25)
  let s := s.wrI LDG_SLOG_EPOCH.EPOCH n j.o.epoch.toNat
  let s := s.wrI LDG_SLOG_SEED_LO.SEED_LO n (seed % 2 ^ 32)
  let s := s.wrI LDG_SLOG_SEED_HI.SEED_HI n (seed / 2 ^ 32)
  let s := s.setWord (LDG_SLOG_INFO.word.off + 32 * n)
    (BitVec.ofNat 32 (2 ^ 31 + j.o.sat.toNat * 2 ^ 30 + f.dfmt * 2 ^ 27 + p))
  let s := s.wr LDG_SEED_HEAD.HEAD ((n + 1) % 1024)
  if n + 1 = 1024 then s.bump LDG_SEED_HEAD.WRAPS else s

/-- The status of the drained rows: OVERFLOW for a cell with OVF, POISON for a row with PSN (R186, R207). -/
def State.drainStatus (s : State) (rows : List (RowRef × Nat × RowImage)) : Nat :=
  if rows.any (fun x => !x.1.fast && rowOvf x.2.2) then stOverflow
  else if rows.any (fun x => (s.rowSt x.1).psn) then stPoison else stOk

/-- A drained line is rounded and waits for its write-out (R177). -/
def State.drainRound (s : State) (k : Nat) (j : LdgJob) (rows : List (RowRef × Nat × RowImage)) : State :=
  let data := rows.foldl (fun d x => roundRow j.o j.r.line (s.rowSt x.1).seed x.1 x.2.2 d) 0
  let s := if j.o.rmode = 2 then rows.foldl (fun s x => s.seedLog j x.1 x.2.1) s else s
  let out : WriteOut := ⟨j, data, rows.any (fun x => (s.rowSt x.1).psn), s.drainStatus rows, rows.length⟩
  let s := { s with ldg := { s.ldg with outs := tput [] s.ldg.outs k (tget [] s.ldg.outs k ++ [out]) } }
  s.ldgBack k

/-! ### Commits of bindings (R160) -/

/-- Physical rows of a binding with the given words: first and number. -/
def bindRows (size ctl : Word) : Nat × Nat :=
  let rows := fieldGet LDG_BIND_SIZE.GROUPS size * fieldGet LDG_BIND_CTL.K ctl * rpg (fieldGet LDG_BIND_CTL.DFMT ctl)
    * (1 + fieldGet LDG_BIND_CTL.SHADOW ctl)
  (fieldGet LDG_BIND_CTL.ROW0 ctl, rows)

/-- Two ranges of a start and a length share an element. -/
def overlaps (a b : Nat × Nat) : Bool := decide (a.1 < b.1 + b.2) && decide (b.1 < a.1 + a.2)

/-- The rows of the entry in force. -/
def State.bindRowsOf (s : State) (n : Nat) : Nat × Nat :=
  bindRows (s.word (LDG_BIND_SIZE.word.off + 16 * n)) (s.word (LDG_BIND_CTL.word.off + 16 * n))

/-- The reason code of a refused commit (R160); 0 when it is accepted. -/
def State.bindRefusal (s : State) (b : BindWait) : Nat :=
  let groups := fieldGet LDG_BIND_SIZE.GROUPS b.size
  let k := fieldGet LDG_BIND_CTL.K b.ctl
  let dfmt := fieldGet LDG_BIND_CTL.DFMT b.ctl
  let rows := bindRows b.size b.ctl
  let live := (liveList (s.rd SLC_LIVE.MASK)).length
  let base := fieldGet LDG_BIND_BASE_HI.BASE_HI b.baseHi * 2 ^ 21 + fieldGet LDG_BIND_BASE_LO.BASE_LO b.baseLo
  if groups = 0 || k = 0 || decide (8 < k) || decide (4 < dfmt) || decide (s.rowCount < rows.1 + rows.2) then rsnBindInvalid
  else if fieldGet LDG_BIND_CTL.SHADOW b.ctl = 1 && rows.1 % 2 = 1 then rsnBindInvalid
  else if live = 0 || decide (k < (8 + live - 1) / live) then rsnBindInvalid
  else if (List.range 32).any (fun n => n != b.n && s.bindOk n
      && (overlaps rows (s.bindRowsOf n) || overlaps (base, groups) (s.bindGroup n, s.rdI LDG_BIND_SIZE.GROUPS n)))
    then rsnBindOverlap
  else 0

/-- The rows of an operation lie in one of two ranges. -/
def rowsTouch (a b : Nat × Nat) (rows : List RowRef) : Bool :=
  rows.any (fun f => overlaps a (f.base, 1 + f.shadow.toNat) || overlaps b (f.base, 1 + f.shadow.toNat))

/-- An operation or a drain on one of two ranges of rows is in the Ledger. -/
def State.rowsBusy (s : State) (a b : Nat × Nat) : Bool :=
  s.ldg.lane.any (fun e => e.2.any (fun j => rowsTouch a b j.rows))
    || s.ldg.unit.any (fun e => e.2.any (fun j => rowsTouch a b j.rows))
    || s.ldg.drains.any (fun e => e.2.any (fun d => rowsTouch a b d.job.rows))
    || s.ldg.outs.any (fun e => e.2.any (fun w => rowsTouch a b w.job.rows))
    || s.ldg.held.any (fun h => rowsTouch a b h.job.rows)

/-- Clear `n` physical rows from `p` on, with their tile-row state (R160). -/
def State.clearRows (s : State) (p : Nat) (fast : Bool) : Nat → State
  | 0 => s
  | n + 1 =>
    let s := s.clearRow p fast
    ({ s with ldg := { s.ldg with st := tdel s.ldg.st p } }).clearRows (p + 1) fast n

end Sys2Proof.Machine
end

