-- ==== Sys2Proof/Machine/ChainOps.lean ====
section
/-! DEFINITION. The operations behind chains: contexts (R204), message headers (R209) and the Wicket's credits (R403), tokens and
their buffers (R207, R213), the state FAULT (R214). -/

namespace Sys2Proof.Machine

/-! ### Contexts (R204) -/

/-- Context `c` is valid. -/
def State.chnOk (s : State) (c : Nat) : Bool := s.flagI CHN_CTX_CTL.VALID c
/-- Context `c` has failed. -/
def State.chnFaulty (s : State) (c : Nat) : Bool := s.flagI CHN_CTX_CTL.FAULT c
/-- The member is the head. -/
def State.chnHead (s : State) (c : Nat) : Bool := s.rdI CHN_CTX_CTL.POS c = 0
/-- The member is the tail. -/
def State.chnTail (s : State) (c : Nat) : Bool := s.rdI CHN_CTX_CTL.POS c + 1 = s.rdI CHN_CTX_CTL.LEN c
/-- The valid context of a slot of a binding. -/
def State.chnOf (s : State) (bind slot : Nat) : Option Nat :=
  (List.range 16).find? (fun c => s.chnOk c && s.rdI CHN_CTX_SLOTS.BIND c = bind
    && decide (s.rdI CHN_CTX_SLOTS.SLOT0 c ≤ slot) && decide (slot < s.rdI CHN_CTX_SLOTS.SLOT0 c + s.rdI CHN_CTX_SLOTS.NSLOTS c))
/-- The context of a line's drain: that of its first row. -/
def State.chnOfJob (s : State) (j : LdgJob) : Option Nat :=
  match j.rows with
  | f :: _ => s.chnOf f.bind f.slot
  | [] => none

/-- This slice's coordinate in the layout of CHN_CTX_PRED. -/
def State.coord (s : State) : Nat :=
  s.pins.straps.node.toNat * 2 ^ 16 + s.pins.straps.pkg.toNat * 2 ^ 8 + s.pins.straps.die.toNat * 2 ^ 3 + s.rd SLC_LIVE.SELF

/-- Transmit buffers in use: unacknowledged tokens, and those reserved by drains that have not sent theirs (R207, R213). -/
def State.txUsed (s : State) : Nat :=
  s.chn.tokens.length
    + s.ldg.drains.foldl (fun n e => e.2.foldl (fun n d => if d.ctx.isSome then n + d.rows.length else n) n) 0
    + s.ldg.held.foldl (fun n h => if s.chnTail h.ctx then n else n + h.job.rows.length) 0

/-- The tokens of a context cross the Transom (R216). -/
def State.chnAcross (s : State) (c : Nat) : Bool := !(s.chnTail c) && s.crosses (s.rdI CHN_CTX_SUCC.word c % 2 ^ 24)

/-- The seam is announced down, so that a request that needs a token of the context across it is answered PARKED (R349). -/
def State.seamHeld (s : State) (c : Nat) : Bool := (s.mir.shut || s.flag MIR_SEAM.READY) && s.chnAcross c

/-- No token of the context crosses: the seam is announced down or has timed out (R348, R349). -/
def State.seamDown (s : State) (c : Nat) : Bool := s.seamHeld c || (s.flag MIR_SEAM.TIMED_OUT && s.chnAcross c)

/-- The status registers show buffers, held drains and unacknowledged tokens. -/
def State.showChn (s : State) : State :=
  let s := (s.wr CHN_STATUS.TXBUF s.txUsed).wr CHN_STATUS.HELD s.ldg.held.length
  (List.range 16).foldl (fun s c => s.wrI CHN_CTX_ACKED.UNACKED c (s.chn.tokens.filter (fun t => t.ctx = c)).length) s

/-! ### Messages (R209, R403) -/

/-- Word `i` of a header. -/
def hdrWord (h : BitVec 256) (i : Nat) : Nat := (h.extractLsb' (32 * i) 32).toNat
/-- MSG. -/
def hdrMsg (h : BitVec 256) : Nat := hdrWord h 0 / 2 ^ 28
/-- STATUS. -/
def hdrStatus (h : BitVec 256) : Nat := hdrWord h 0 / 2 ^ 24 % 16
/-- CHAIN. -/
def hdrChain (h : BitVec 256) : Nat := hdrWord h 0 / 2 ^ 12 % 2 ^ 12
/-- POS. -/
def hdrPos (h : BitVec 256) : Nat := hdrWord h 0 / 2 ^ 6 % 2 ^ 6
/-- PSN. -/
def hdrPsn (h : BitVec 256) : Bool := h.getLsbD 0
/-- SEQ. -/
def hdrSeq (h : BitVec 256) : BitVec 16 := BitVec.ofNat 16 (hdrWord h 1 / 2 ^ 16)
/-- HINT. -/
def hdrHint (h : BitVec 256) : Nat := hdrWord h 1 / 2 ^ 4 % 16
/-- EPOCH. -/
def hdrEpoch (h : BitVec 256) : Word := h.extractLsb' 64 32
/-- TROW. -/
def hdrTrow (h : BitVec 256) : Nat := hdrWord h 3 % 2 ^ 16
/-- SRC. -/
def hdrSrc (h : BitVec 256) : Nat := hdrWord h 5 % 2 ^ 24

/-- A header without its CRC. -/
def chainHdr (msg status chain pos : Nat) (psn : Bool) (seq : BitVec 16) (reason hint : Nat) (epoch : Word) (trow dst src : Nat) :
    BitVec 256 :=
  BitVec.ofNat 256 (msg * 2 ^ 28 + status * 2 ^ 24 + chain * 2 ^ 12 + pos * 2 ^ 6 + psn.toNat
    + (seq.toNat * 2 ^ 16 + reason * 2 ^ 8 + hint * 2 ^ 4) * 2 ^ 32 + epoch.toNat * 2 ^ 64 + trow * 2 ^ 96 + dst * 2 ^ 128 + src * 2 ^ 160)

/-- The CRC of R209: over bytes 0 to 27 and the row image. -/
def chainCrc (h : BitVec 256) (image : Option RowImage) : Word :=
  let r := crcBytes 0xFFFFFFFF#32 28 h
  let r := match image with
    | some d => crcBytes r 1280 d
    | none => r
  r ^^^ 0xFFFFFFFF#32

/-- A header with its CRC. -/
def withCrc (h : BitVec 256) (image : Option RowImage) : BitVec 256 :=
  (h &&& BitVec.ofNat 256 (2 ^ 224 - 1)) ||| ((chainCrc h image).setWidth 256 <<< 224)

/-- A message leaves on the Wicket. -/
def State.chainDepart (s : State) (h : BitVec 256) (image : Option RowImage) : State :=
  (s.event 0x54).sendOn 5 (hdrMsg h) (hdrMsg h) (fun _ => .chain h image)
    (fun s => { s with chn := { s.chn with credits := s.chn.credits + 1 } })

/-- Send a chain message: it takes a credit, or waits for one (R403). -/
def State.chainSend (s : State) (h : BitVec 256) (image : Option RowImage) : State :=
  let h := withCrc h image
  if s.chn.credits = 0 || !s.chn.queue.isEmpty then { s with chn := { s.chn with queue := s.chn.queue ++ [(h, image)] } }
  else ({ s with chn := { s.chn with credits := s.chn.credits - 1 } }).chainDepart h image

/-- Messages that wait leave while credits last. -/
def State.chainDrainQ (s : State) : State :=
  let n := min s.chn.credits s.chn.queue.length
  let go := s.chn.queue.take n
  let s := { s with chn := { s.chn with credits := s.chn.credits - n, queue := s.chn.queue.drop n } }
  go.foldl (fun s m => s.chainDepart m.1 m.2) s

/-- Answer a token: TACK 1, TNACK 2, TREF 3. `c` is the context, none when no context matches. -/
def State.chainReply (s : State) (c : Option Nat) (h : BitVec 256) (msg status reason : Nat) (seq : BitVec 16) (hint : Nat := 0) :
    State :=
  let pos := match c with
    | some c => s.rdI CHN_CTX_CTL.POS c
    | none => (hdrPos h + 1) % 64
  s.chainSend (chainHdr msg status (hdrChain h) pos false seq (if status = stRefused then reason else 0) hint 0 0 (hdrSrc h) s.coord)
    none

/-- A CHAIN fault entry of the kinds FAULT, NO_CONTEXT and BAD_MESSAGE (R361). -/
def State.chainEntry (s : State) (code sev c chain low : Nat) (irq : Bool := false) : State :=
  s.fault 6 code sev (detail := c <<< 28 ||| chain <<< 16 ||| low) (srcKind := 6) (srcId := c) (irq := irq)

/-! ### Drains that wait for their tokens (R207) -/

/-- The drain's CMP. -/
def State.chainAnswer (s : State) (d : ChainDrain) : State :=
  let s := (s.ldgCount d.job.r.label.toNat d.status 0).event 0x31 (label := some d.job.r.label.toNat) (inc := d.rows)
  s.drainAnswer (d.job.src = .register) (cmpMsg d.job.r d.status)

/-- A token of a drain is done with: `f` gives the drain's status; the last one answers the drain. -/
def State.tokenDone (s : State) (id : Nat) (f : Nat → Nat) : State :=
  match s.chn.drains.find? (fun d => d.id = id) with
  | none => s
  | some d =>
    let d' := { d with left := d.left - 1, status := f d.status }
    if d'.left = 0 then
      ({ s with chn := { s.chn with drains := s.chn.drains.filter (fun x => x.id != id) } }).chainAnswer d'
    else { s with chn := { s.chn with drains := s.chn.drains.map (fun x => if x.id = id then d' else x) } }

/-- TROW of a tile row in its context. -/
def State.trowOf (s : State) (c : Nat) (f : RowRef) : Nat := f.slot - s.rdI CHN_CTX_SLOTS.SLOT0 c

/-- The TOKEN header of a drained row, under the context's next sequence. -/
def State.tokenHdr (s : State) (c : Nat) (f : RowRef) (epoch : Word) (psn : Bool) : BitVec 256 :=
  chainHdr 0 0 (s.rdI CHN_CTX_CTL.CHAIN c) (s.rdI CHN_CTX_CTL.POS c) psn (BitVec.ofNat 16 (s.rdI CHN_CTX_SEQ.TX_NEXT c)) 0 0 epoch
    (s.trowOf c f) (s.rdI CHN_CTX_SUCC.word c % 2 ^ 24) s.coord

/-- Send the token of one drained row; with `keep` it takes its transmit buffer until a TACK covers it. -/
def State.sendToken (s : State) (c id : Nat) (j : LdgJob) (x : RowRef × Nat × RowImage) (keep : Bool) : State :=
  let h := s.tokenHdr c x.1 j.o.epoch (s.rowSt x.1).psn
  let seq := BitVec.ofNat 16 (s.rdI CHN_CTX_SEQ.TX_NEXT c)
  let s := (s.wrI CHN_CTX_SEQ.TX_NEXT c (seq + 1).toNat).bump CHN_TOK_TX.COUNT
  let s := if keep then { s with chn := { s.chn with
      tokens := s.chn.tokens ++ [Token.mk c seq h x.2.2 j.r.line j.o.epoch (s.trowOf c x.1) id 0] } } else s
  s.chainSend h (some x.2.2)

/-- TOKEN_LOST of R214. -/
def State.tokenLost (s : State) (c : Nat) (line : LineAddr) (epoch : Word) (trow : Nat) : State :=
  s.fault 6 2 1 (detail := (epoch.toNat % 2 ^ 16) <<< 16 ||| trow) (loc := some line) (srcKind := 6) (srcId := c)

/-! ### FAULT (R214) -/

/-- Discard the unacknowledged tokens of a context: each writes TOKEN_LOST, and its drain answers POISON. -/
def State.dropTokens (s : State) (c : Nat) : State :=
  let gone := s.chn.tokens.filter (fun t => t.ctx = c)
  let s := { s with chn := { s.chn with
    tokens := s.chn.tokens.filter (fun t => t.ctx != c), resend := tdel s.chn.resend c } }
  gone.foldl (fun s t => (s.tokenLost c t.line t.epoch t.trow).tokenDone t.drain (fun _ => stPoison)) s

/-- Release one held drain with PSN set on its rows: at TAIL it passes D1; at MIDDLE it is read at once, and its tokens leave
without transmit buffers. -/
def State.releaseBad (s : State) (h : Held) : State :=
  let j := h.job
  let s := j.rows.foldl (fun s f => s.setRowSt f (fun t => { t with psn := true })) s
  let k := s.lane j.r.line
  if s.chnTail h.ctx then s.drainD1 k j none
  else
    let rows := j.rows.map (fun f => (f, s.halfRow f true))
    let s := j.rows.foldl (fun s f => s.setRowSt f (fun t => t.d1 f.shadow j.o.epoch (seedOf j.o))) s
    let s := s.ldgMirror j (rows.any (fun x => x.2 != x.1.base))
    let (imgs, s) := s.drainRows ⟨j, rows, some h.ctx⟩
    let s := imgs.foldl (fun s x => s.sendToken h.ctx 0 j x false) s
    s.chainAnswer ⟨0, j, 0, rows.length, stPoison⟩

/-- Discard the tokens of a context and release its held drains. -/
def State.chainDrop (s : State) (c : Nat) : State :=
  let s := s.dropTokens c
  let mine := s.ldg.held.filter (fun h => h.ctx = c)
  let s := { s with ldg := { s.ldg with held := s.ldg.held.filter (fun h => h.ctx != c) } }
  (mine.foldl (fun s h => s.releaseBad h) s).showChn

/-- Show FAULT of a context. -/
def State.setChnFault (s : State) (c : Nat) (b : Bool) : State :=
  (s.setFlagI CHN_CTX_CTL.FAULT c b).setBit CHN_STATUS.FAULT c b

/-- A context enters FAULT (R214); `low` is the TROW or SEQ of its entry. -/
def State.chainFault (s : State) (c low : Nat) : State :=
  if s.chnFaulty c then s
  else ((s.chainEntry 1 2 c (s.rdI CHN_CTX_CTL.CHAIN c) low true).setChnFault c true).chainDrop c

/-- A drain at HEAD or MIDDLE has read its rows: its tokens leave (R207). Where the context has failed since D1, they are discarded
and the drain answers POISON (R214). Where the seam between is down, they return PARKED (R216). -/
def State.drainTokens (s : State) (c : Nat) (j : LdgJob) (rows : List (RowRef × Nat × RowImage)) : State :=
  if !(s.chnOk c) || s.chnFaulty c then
    let s := rows.foldl (fun s x => s.tokenLost c j.r.line j.o.epoch (s.trowOf c x.1)) s
    s.chainAnswer ⟨0, j, 0, rows.length, stPoison⟩
  else
    let id := s.chn.nextId
    let s := { s with chn := { s.chn with
      nextId := id + 1, drains := s.chn.drains ++ [ChainDrain.mk id j rows.length rows.length (s.drainStatus rows)] } }
    let s := rows.foldl (fun s x => s.sendToken c id j x true) s
    if s.seamDown c then s.chainFault c (s.rdI CHN_CTX_SEQ.TX_NEXT c) else s

/-- A binding that contexts use is committed again, removed, or loses VALID: their VALID clears, and they become faulty (R205). -/
def State.bindGone (s : State) (n : Nat) : State :=
  (List.range 16).foldl (fun s c =>
    if s.chnOk c && s.rdI CHN_CTX_SLOTS.BIND c = n then (s.chainFault c 0).setFlagI CHN_CTX_CTL.VALID c false else s) s

/-! ### Held drains (R208) -/

/-- Every row of a line has merged its token. -/
def State.tokensIn (s : State) (j : LdgJob) : Bool := j.rows.all (fun f => (s.rowSt f).tokl)

/-- A held drain with its last token passes D1. -/
def State.releaseHeld (s : State) (line : LineAddr) : State :=
  match s.ldg.held.find? (fun h => h.job.r.line = line && s.tokensIn h.job) with
  | none => s
  | some h =>
    let s := { s with ldg := { s.ldg with held := s.ldg.held.filter (fun x => x.job.r.line != line) } }
    s.drainD1 (s.lane line) h.job (if s.chnTail h.ctx then none else some h.ctx)

end Sys2Proof.Machine
end

