-- ==== Sys2Proof/Machine/Order.lean ====
section
/-! DEFINITION. The ordering commands (spec/05_memory_model.md): fences, acquires with WIN_V, the walks of bypass windows, and
release records. -/

namespace Sys2Proof.Machine

/-! ### FENCE (R138, R141) -/

/-- CMP to a FENCE that is not served. -/
def fenceCmp (f : FenceReq) (status reason : Nat) : Msg :=
  { cls := 2, typ := 0, status := status, label := f.label, who := f.who, tag := f.tag, line := 0, reason := reason }

/-- This slice's bit of a window's HOMES. -/
def State.homesHere (s : State) (w : Nat) : Bool := (s.homesOf w).contains s.pslice

/-- Serve a FENCE: it waits for its requester's earlier writes and for its walk; it takes what it covers (R141). -/
def State.acceptFence (s : State) (f : FenceReq) : State :=
  let cover := (s.ord.covers.find? (fun c => c.who = f.who)).getD ⟨f.who, 0, 0⟩
  let narrow := (List.range f.scope.toNat).any (fun k => cover.scopes.testBit k)
  let walk := f.winV && s.homesHere f.win.toNat
  let s := if walk then s.pendWalk f.win.toNat else s
  let w : FenceWait := ⟨f, (s.ord.writes.filter (fun p => p.r.who = f.who)).map (·.id),
    if walk then .pending else .none, cover.posted, narrow⟩
  ({ s with ord := { s.ord with
    covers := s.ord.covers.filter (fun c => c.who != f.who)
    fences := s.ord.fences ++ [w] } }).fenceCheck

/-- FENCE (R141). In DOZE it waits for the wake (R311). -/
def State.fenceIn (s : State) (f : FenceReq) : State :=
  if s.dozing then s.present 0 3 (.fence f)
  else if s.parkedFor f.who then s.reply (fenceCmp f stParked rsnNone)
  else if f.who.kind = .agent && s.lostAgents.getLsbD f.who.id.toNat then s.reply (fenceCmp f stRefused rsnAgentLost)
  else if f.winV && !(s.winValid f.win.toNat) then s.reply (fenceCmp f stRefused rsnField)
  else
    let s := { s with front := { s.front with
      inbox := s.front.inbox.erase (.fence f)
      presented := s.front.presented.filter (fun p => p.cmd != Instr.fence f) } }
    s.acceptFence f

/-- FENCE. -/
def execFence (f : FenceReq) (s : State) : Host.Outcome State Fault Refusal := settled (s.begin.fenceIn f)

/-! ### Acquires with WIN_V (R153, R154) -/

/-- FENCE_DONE to a FENCE of this slice: the slice that answered no longer holds up the acquire. -/
def State.fenceDoneIn (s : State) (p : BitVec 6) (win : BitVec 4) (tag : BitVec 11) : State :=
  if s.ord.acqs.any (fun a => a.r.win = win && a.slices.contains (p, tag)) then
    { s with ord := { s.ord with acqs := s.ord.acqs.map (fun (a : Acquire) =>
      if a.r.win = win then { a with slices := a.slices.filter (fun x => x != (p, tag)) } else a) } }
  else s

/-- FENCE_DONE (R153). -/
def execFenceDone (pslice : BitVec 6) (win : BitVec 4) (tag : BitVec 11) (s : State) : Host.Outcome State Fault Refusal :=
  settled (s.begin.fenceDoneIn pslice win tag)

/-- The acquire of a requester. -/
def State.acquire (s : State) (who : Requester) (tag : BitVec 11) : Option Acquire :=
  s.ord.acqs.find? (fun a => a.r.who = who && a.r.tag = tag)

/-- The acquire of a requester ends. -/
def State.endAcquire (s : State) (who : Requester) (tag : BitVec 11) : State :=
  { s with ord := { s.ord with acqs := s.ord.acqs.filter (fun a => !(a.r.who = who && a.r.tag = tag)) } }

/-- The read of an acquire is accepted as a new request once its walk has ended and every FENCE_DONE has arrived (R153); while it
cannot be accepted it stays. -/
def State.replayRead (s : State) (who : Requester) (tag : BitVec 11) : State :=
  match s.acquire who tag with
  | some a =>
    if !a.slices.isEmpty || a.walk != .none then s
    else
      let cmd : Instr := .acquireReadReplay who tag
      match s.verdict a.req a.r with
      | some v => (s.endAcquire who tag).answerVerdict a.req a.r false v
      | none =>
        let s' := s.atLane a.req a.r false cmd
        if s'.front.presented.any (fun p => p.cmd = cmd) then s' else s'.endAcquire who tag
  | none => s

/-- ACQUIRE_READ_REPLAY (R153). -/
def execAcquireReadReplay (who : Requester) (tag : BitVec 11) (s : State) : Host.Outcome State Fault Refusal :=
  let s := s.begin
  let s := { s with front := { s.front with
    presented := s.front.presented.filter (fun p => p.cmd != Instr.acquireReadReplay who tag) } }
  settled (s.replayRead who tag)

/-- A slice named in HOMES answered PARKED or did not answer (R154): the acquire is answered PARKED, no read is made, and the entry
names the window and the slice. -/
def State.acquireParked (s : State) (who : Requester) (tag : BitVec 11) (p : BitVec 6) : State :=
  match s.acquire who tag with
  | some a =>
    if a.slices.any (fun x => x.1 = p) then
      let s := s.fault 4 3 1 (detail := p.toNat <<< 16 ||| a.r.win.toNat) (srcKind := 7) (srcId := a.r.win.toNat)
      (s.endAcquire who tag).complete a.r stParked
    else s
  | none => s

/-- WINDOW_FENCE_TIMEOUT (R154). -/
def execWindowFenceTimeout (who : Requester) (tag : BitVec 11) (pslice : BitVec 6) (s : State) :
    Host.Outcome State Fault Refusal := settled (s.begin.acquireParked who tag pslice)

/-! ### Walks of bypass windows (R150 to R152) -/

/-- A write of ORD_WIN_INV: GO makes the window pending and reads 1 until its walk ends. -/
def State.writeWinInv (s : State) (m : MgWrite) : State :=
  let w := fieldGet ORD_WIN_INV.WIN m.word
  if !(s.winValid w) then s.refuse m.src rsnField
  else
    let s := s.plain ORD_WIN_INV.word.off m.word
    let s := if m.word.getLsbD 31 then
        ({ (s.pendWalk w) with ord := { (s.pendWalk w).ord with go := some w } }).setFlag ORD_WIN_INV.GO true
      else s
    s.ok m.src

/-- ORD_WIN_INV (R152). -/
def execOrdWinInv (m : MgWrite) (s : State) : Host.Outcome State Fault Refusal :=
  settled (s.begin.mgWrite (.ordWinInv m) ORD_WIN_INV.word.off m (fun s => s.writeWinInv m))

/-- The lines of a bypass window: the first, and how many. -/
def State.winLines (s : State) (w : Nat) : Nat × Nat :=
  ((s.rdI ORD_WIN_BASE_HI.BASE_HI w * 2 ^ 32 + s.rdI ORD_WIN_BASE_LO.BASE_LO w * 2 ^ 12) / 128,
    2 ^ (5 + s.rdI ORD_WIN_CTL.SIZE_LOG w))

/-- A trigger's wait as the walk of window `w` starts: one that was pending runs. -/
def WalkWait.starts (w : Nat) (win : BitVec 4) : WalkWait → WalkWait
  | .pending => if win.toNat = w then .running else .pending
  | x => x

/-- A trigger's wait as the walk of window `w` ends. -/
def WalkWait.ends (w : Nat) (win : BitVec 4) : WalkWait → WalkWait
  | .running => if win.toNat = w then .none else .running
  | x => x

/-- Change the waits of every FENCE and acquire. -/
def State.setWaits (s : State) (f : BitVec 4 → WalkWait → WalkWait) : State :=
  { s with ord := { s.ord with
    fences := s.ord.fences.map (fun (x : FenceWait) => { x with walk := f x.f.win x.walk })
    acqs := s.ord.acqs.map (fun (x : Acquire) => { x with walk := f x.r.win x.walk }) } }

/-- The walk of the first pending window starts; the triggers that wait for it run with it. -/
def State.startWalk (s : State) : State :=
  match s.ord.pend with
  | [] => s
  | w :: rest =>
    if s.flag ORD_WIN_STATUS.BUSY || s.dozing then s
    else
      let s := ((s.setPend rest).setFlag ORD_WIN_STATUS.BUSY true).wr ORD_WIN_STATUS.RUN w
      let mine := s.ord.go = some w
      let s := s.setWaits (WalkWait.starts w)
      { s with ord := { s.ord with
        go := if mine then none else s.ord.go
        goRun := if mine then some w else none
        next := (s.winLines w).1
        revisit := []
        dirty := false } }

/-- WINDOW_WALK_START (R152). -/
def execWindowWalkStart (s : State) : Host.Outcome State Fault Refusal := settled s.begin.startWalk

/-- None of `n` lines from `k` on is homed by this slice. -/
def State.noneHomed (s : State) (k : Nat) : Nat → Bool
  | 0 => true
  | n + 1 => !(s.homesSelf (BitVec.ofNat 45 k)) && s.noneHomed (k + 1) n

/-- What the walk does with the Catalogue entry of a line (R150). -/
def State.windowAgents (s : State) (line : LineAddr) : State :=
  let s := s.normalize line
  let v := s.entryVec line
  match s.entrySt line with
  | .free => s
  | st =>
    if v = 0 then s.freeEntry line
    else (s.begin' { txnNew line (.window false) none none with acks := v }).snoopAll (s.walkReq line)
      (if st == .exc then 4 else 3) v

/-- The walk visits a line. -/
def State.windowVisit (s : State) (line : LineAddr) : State :=
  let s := (s.readTags (lineSet line)).readCat (s.catSet line)
  if (s.txn line).isSome then
    { s with ord := { s.ord with revisit := s.ord.revisit ++ [line] } }
  else (s.windowLine line).windowAgents line

/-- A lookup of the running walk: the next line of its window that this slice homes, or a line met BUSY before (R150, R151). -/
def State.windowLookup (s : State) (line : LineAddr) : State :=
  let (base, n) := s.winLines (s.rd ORD_WIN_STATUS.RUN)
  let k := line.toNat
  if !(s.flag ORD_WIN_STATUS.BUSY) || s.capUsed then s
  else if s.ord.revisit.contains line then
    if (s.txn line).isSome then s
    else
      let s := { s with ord := { s.ord with revisit := s.ord.revisit.erase line } }
      (s.slotReplay (s.lane line)).windowVisit line
  else if decide (s.ord.next ≤ k) && decide (k < base + n) && s.homesSelf line && s.noneHomed s.ord.next (k - s.ord.next) then
    let s := { s with ord := { s.ord with next := k + 1 } }
    (s.slotServed (s.lane line)).windowVisit line
  else s

/-- WINDOW_WALK_LOOKUP (R150). -/
def execWindowWalkLookup (line : LineAddr) (s : State) : Host.Outcome State Fault Refusal :=
  settled (s.begin.windowLookup line)

/-- A transaction of a window walk is in progress. -/
def State.windowBusy (s : State) : Bool :=
  s.coh.txns.any (fun t => match t.mode with | .window _ => true | _ => false)

/-- The walk ends when its lookups are done and every INV and BINV it sent has been answered (R151). -/
def State.endWalk (s : State) : State :=
  let w := s.rd ORD_WIN_STATUS.RUN
  let (base, n) := s.winLines w
  if s.flag ORD_WIN_STATUS.BUSY && s.ord.revisit.isEmpty && !s.windowBusy
      && s.noneHomed s.ord.next (base + n - s.ord.next) then
    let s := (s.setFlag ORD_WIN_STATUS.BUSY false).bump ORD_WIN_WALKS.COUNT
    let s := { s with ord := { s.ord with goRun := none } }
    let s := s.setFlag ORD_WIN_INV.GO s.ord.go.isSome
    (s.setWaits (WalkWait.ends w)).fenceCheck
  else s

/-- WINDOW_WALK_END (R151). -/
def execWindowWalkEnd (s : State) : Host.Outcome State Fault Refusal := settled s.begin.endWalk

/-! ### Release records (R145) -/

/-- A write of ORD_CTL: REC_EN = 0 clears the table. -/
def State.writeOrdCtl (s : State) (m : MgWrite) : State :=
  let s := s.plain ORD_CTL.word.off m.word
  let s := if s.flag ORD_CTL.REC_EN then s else { s with ord := { s.ord with recs := [] } }
  s.ok m.src

/-- RELEASE_RECORD_CLEAR (R145). -/
def execReleaseRecordClear (m : MgWrite) (s : State) : Host.Outcome State Fault Refusal :=
  settled (s.begin.mgWrite (.releaseRecordClear m) ORD_CTL.word.off m (fun s => s.writeOrdCtl m))

end Sys2Proof.Machine
end

