-- ==== Sys2Proof/Machine/Place.lean ====
section
/-! DEFINITION. The placement commands (spec/03_placement.md): measurement and the adjustment of carrels, the Reshelver, and
prefetch; and the rule of re-enabling during shutdown (R331). -/

namespace Sys2Proof.Machine

/-! ### Functions with an EN field (R331) -/

/-- A write of the EN field of a function: `shut` starts its shutdown, `start` starts it. -/
def State.writeEn (s : State) (en pend stop : Field) (k : Nat) (v : Bool) (shut start : State → State) : State :=
  if s.flagI stop k then
    if v then (if s.flagI pend k then s else (s.setFlagI pend k true).setFlagI en k true)
    else if s.flagI pend k then (s.setFlagI pend k false).setFlagI en k false
    else s
  else if v then (if s.flagI en k then s else start (s.setFlagI en k true))
  else if s.flagI en k then shut ((s.setFlagI en k false).setFlagI stop k true)
  else s

/-- The shutdown of a function ends; with EN_PEND it starts again. -/
def State.endStop (s : State) (pend stop : Field) (k : Nat) (start : State → State) : State :=
  let s := s.setFlagI stop k false
  if s.flagI pend k then start (s.setFlagI pend k false) else s

/-! ### Measurement (R79) -/

/-- Group `g` thrashed in the window. -/
def State.thrashes (s : State) (g : Nat) : Bool :=
  let a := tget 0 s.place.grpAcc g
  let m := tget 0 s.place.grpMiss g
  decide (s.rd ALT_WINDOW.MIN_ACC ≤ a) && decide (s.rd ALT_POLICY.THRASH_PCT * a < 100 * m)

/-- A measurement window ends: the run counters move and the counts are shown. -/
def State.windowEnd (s : State) : State :=
  if s.rd ALT_WINDOW.WIN_US = 0 then s
  else
    let n := ((List.range 16).filter s.thrashes).length
    let thrash := decide (max 1 (s.rd ALT_POLICY.MIN_GROUPS) ≤ n)
    let s := if thrash then (s.bump ALT_ADAPT.THRASH_RUN).wr ALT_ADAPT.CALM_RUN 0
      else (s.bump ALT_ADAPT.CALM_RUN).wr ALT_ADAPT.THRASH_RUN 0
    let s := (List.range 16).foldl (fun s g =>
      (s.wrI ALT_GRP_ACC.COUNT g (min (2 ^ 24 - 1) (tget 0 s.place.grpAcc g))).wrI ALT_GRP_MISS.COUNT g
        (min (2 ^ 24 - 1) (tget 0 s.place.grpMiss g))) s
    { s with place := { s.place with grpAcc := [], grpMiss := [] } }

/-- ADAPT_WINDOW_END (R79). -/
def execAdaptWindowEnd (s : State) : Host.Outcome State Fault Refusal := settled s.begin.windowEnd

/-! ### ALT_ADJUST (R80 to R82) -/

/-- Write the adjustment log (R82). -/
def State.altLog (s : State) (driver restore : Bool) (c old new : Nat) : State :=
  let h := s.rd ALT_ADAPT.LOG_HEAD
  let s := s.wrI ALT_LOG_TIME.TS h s.ts
  let s := s.setWord (ALT_LOG_INFO.word.off + ALT_LOG_INFO.word.stride * h)
    (BitVec.ofNat 32 (2 ^ 31 + driver.toNat * 2 ^ 30 + restore.toNat * 2 ^ 29 + c * 2 ^ 16 + old * 2 ^ 8 + new))
  s.wr ALT_ADAPT.LOG_HEAD ((h + 1) % 32)

/-- Why an adjustment is refused (R80); 0 when it is not. -/
def State.altRefusal (s : State) (cur : Bool) (op c : Nat) : Nat :=
  let n := s.rdI ALT_CRL_CTL.CUR c
  if op = 3 || !(s.flagI ALT_CRL_CTL.VALID c) then rsnField
  else if s.flagI ALT_CRL_CTL.HARD c then rsnBound
  else if op = 1 && n = s.rdI ALT_CRL_CTL.FLOOR c || op = 2 && n = s.rdI ALT_CRL_CTL.WAYS c then rsnBound
  else if cur && op = 1 && decide (s.rd ALT_ADAPT.THRASH_RUN < s.rd ALT_POLICY.HOLD) then rsnBound
  else if cur && op = 2 && decide (s.rd ALT_ADAPT.CALM_RUN < s.rd ALT_POLICY.RESTORE) then rsnBound
  else if cur && s.flag ALT_ADAPT.FREEZE then rsnFrozen
  else 0

/-- A write of ALT_ADJUST. OP reads 0 afterwards. -/
def State.writeAltAdjust (s : State) (m : MgWrite) : State :=
  let op := fieldGet ALT_ADJUST.OP m.word
  let c := fieldGet ALT_ADJUST.CARREL m.word
  let rsn := s.altRefusal (isCurator m.src) op c
  if op = 0 then (s.wr ALT_ADJUST.CARREL c).ok m.src
  else if rsn != 0 then s.refuse m.src rsn
  else
    let old := s.rdI ALT_CRL_CTL.CUR c
    let new := if op = 1 then old - 1 else old + 1
    let s := (s.wr ALT_ADJUST.CARREL c).wrI ALT_CRL_CTL.CUR c new
    let s := ((s.wr ALT_ADAPT.THRASH_RUN 0).wr ALT_ADAPT.CALM_RUN 0).bump ALT_ADJ_TOTAL.COUNT
    (s.altLog (!(isCurator m.src)) (op = 2) c old new).ok m.src

/-- ALT_DEMOTE (R80). -/
def execAltDemote (m : MgWrite) (s : State) : Host.Outcome State Fault Refusal :=
  settled (s.begin.mgWrite (.altDemote m) ALT_ADJUST.word.off m (fun s => s.writeAltAdjust m))
/-- ALT_RESTORE (R80). -/
def execAltRestore (m : MgWrite) (s : State) : Host.Outcome State Fault Refusal :=
  settled (s.begin.mgWrite (.altRestore m) ALT_ADJUST.word.off m (fun s => s.writeAltAdjust m))

/-! ### The Reshelver's queue (R92) -/

/-- DEPTH and BUSY show the queue. -/
def State.showRsh (s : State) : State :=
  (s.wr SHT_RSH_CTL.DEPTH s.place.queue.length).setFlag SHT_RSH_CTL.BUSY s.place.running.isSome

/-- A command that is refused with FIELD_INVALID (R92); SIZE counts for the commands that use it. -/
def State.rshBad (s : State) (c : RshCmd) : Bool :=
  decide (5 < c.op) || (decide (c.op ≤ 2) && c.size = 0)
    || ((c.op = 3 || c.op = 4) && !(s.flagI SHT_ENT_CTL.VALID c.index))
    || (c.op = 5 && (decide (s.nb ≤ c.index) || s.stk.lostLb.contains c.index))

/-- Put a command into the queue. -/
def State.rshPush (s : State) (c : RshCmd) : State :=
  ({ s with place := { s.place with queue := s.place.queue ++ [c] } }).showRsh

/-- A write of SHT_RSH_OP (R92). -/
def State.writeRshOp (s : State) (m : MgWrite) : State :=
  let op := fieldGet SHT_RSH_OP.OP m.word
  let base := s.rd SHT_RSH_BASE_HI.BASE_HI * 2 ^ 24 + s.rd SHT_RSH_BASE_LO.BASE_LO
  let c : RshCmd := ⟨op, BitVec.ofNat 44 base, s.rd SHT_RSH_SIZE.SIZE, fieldGet SHT_RSH_OP.INDEX m.word, none⟩
  if 5 < op then s.refuse m.src rsnField
  else if !(m.word.getLsbD 31) then (s.plain SHT_RSH_OP.word.off m.word).ok m.src
  else if s.rshBad c then s.refuse m.src rsnField
  else if 8 ≤ s.place.queue.length then s.refuse m.src rsnQueueFull
  else ((s.plain SHT_RSH_OP.word.off m.word).rshPush c).ok m.src

/-- RSH_CLEAN (R94). -/
def execRshClean (m : MgWrite) (s : State) : Host.Outcome State Fault Refusal :=
  settled (s.begin.mgWrite (.rshClean m) SHT_RSH_OP.word.off m (fun s => s.writeRshOp m))
/-- RSH_INVALIDATE (R94). -/
def execRshInvalidate (m : MgWrite) (s : State) : Host.Outcome State Fault Refusal :=
  settled (s.begin.mgWrite (.rshInvalidate m) SHT_RSH_OP.word.off m (fun s => s.writeRshOp m))
/-- RSH_CLEAN_INV (R94). -/
def execRshCleanInv (m : MgWrite) (s : State) : Host.Outcome State Fault Refusal :=
  settled (s.begin.mgWrite (.rshCleanInv m) SHT_RSH_OP.word.off m (fun s => s.writeRshOp m))
/-- SEAL (R90). -/
def execSeal (m : MgWrite) (s : State) : Host.Outcome State Fault Refusal :=
  settled (s.begin.mgWrite (.seal m) SHT_RSH_OP.word.off m (fun s => s.writeRshOp m))
/-- REOPEN (R91). -/
def execReopen (m : MgWrite) (s : State) : Host.Outcome State Fault Refusal :=
  settled (s.begin.mgWrite (.reopen m) SHT_RSH_OP.word.off m (fun s => s.writeRshOp m))
/-- INV_BANK (R95). -/
def execInvBank (m : MgWrite) (s : State) : Host.Outcome State Fault Refusal :=
  settled (s.begin.mgWrite (.invBank m) SHT_RSH_OP.word.off m (fun s => s.writeRshOp m))

/-- A casement RANGE request (R40, R92): accepted whatever the home of its base line; its answer leaves when the command
completes. -/
def State.rangeIn (s : State) (r : Req) (c : RangeCmd) : State :=
  let i : Instr := .range r c
  let lane := s.lane r.line
  let cmd : RshCmd := ⟨c.op.toNat, granule r.line, c.size.toNat, c.index.toNat, some r⟩
  if s.dozing then s.present lane 3 i
  else if s.parkedFor r.who then s.turnAway i r true stParked
  else if scopeBad i r then s.turnAway i r true stScopeErr
  else if r.who.kind = .agent && s.lostAgents.getLsbD r.who.id.toNat then s.turnAway i r true stRefused rsnAgentLost
  else if r.noack || lineBit r.line || s.rshBad cmd then s.turnAway i r true stRefused rsnField
  else if s.preparing && s.accepts r.line then ((s.slotNack lane).take i r).nack r 7
  else if 8 ≤ s.place.queue.length then ((s.slotNack lane).take i r).nack r 2
  else ((s.slotServed lane).take i r).rshPush cmd

/-- RANGE (R92). -/
def execRange (r : Req) (c : RangeCmd) (s : State) : Host.Outcome State Fault Refusal := settled (s.begin.rangeIn r c)

/-! ### The running command (R93 to R96) -/

/-- The Reshelver runs: enabled, not stopping, and with allowance under a power cap. -/
def State.rshOn (s : State) : Bool := s.flag SHT_RSH_CTL.EN && !(s.flag SHT_RSH_CTL.STOPPING) && !s.winding

/-- The command at the head of the queue starts: a SEAL seals its entry, a REOPEN opens it (R90, R91). -/
def State.rshStart (s : State) : State :=
  match s.place.running, s.place.queue with
  | none, c :: rest =>
    if !s.rshOn || s.dozing then s
    else
      let n := c.index
      let c := if c.op = 3 then
          { c with
            base := BitVec.ofNat 44 (s.shutterBase n / 256)
            size := 2 ^ (4 + s.rdI SHT_ENT_CTL.SIZE_LOG n) }
        else c
      let s := if c.op = 3 then (s.setFlagI SHT_ENT_CTL.SEALED n true).setFlagI SHT_ENT_CTL.WALK n true
        else if c.op = 4 then (s.setFlagI SHT_ENT_CTL.SEALED n false).setFlagI SHT_ENT_CTL.WALK n false
        else s
      ({ s with place := { s.place with
        queue := rest
        running := some c
        todo := []
        next := if c.op = 5 then 0 else 2 * c.base.toNat
        poison := false } }).showRsh
  | _, _ => s

/-- RESHELVER_START (R93). -/
def execReshelverStart (s : State) : Host.Outcome State Fault Refusal := settled s.begin.rshStart

/-- The transaction belongs to a Reshelver command. -/
def TxnMode.isRsh : TxnMode → Bool
  | .rshClean | .rshInv _ => true
  | _ => false

/-- The command's lookup of one line, once its entry is not BUSY (R94, R118). -/
def State.rshVisit (s : State) (op : Nat) (line : LineAddr) : State :=
  let s := (s.readTags (lineSet line)).readCat (s.catSet line)
  if (s.txn line).isSome then { s with place := { s.place with todo := s.place.todo ++ [line] } }
  else
    let s := s.normalize line
    let v := s.entryVec line
    if op = 0 then
      match s.ownerOf line with
      | some o =>
        (s.begin' { txnNew line .rshClean none none with fwd := some o }).snoop (fwdMsg (s.walkReq line) 6 o.toNat)
      | none => s.rshLine 0 line
    else if v = 0 then (s.freeEntry line).rshLine op line
    else
      (s.begin' { txnNew line (.rshInv (op = 2)) none none with acks := v }).snoopAll (s.walkReq line)
        (if (s.ownerOf line).isSome then 4 else 3) v

/-- The place of a line of a logical bank in the order of INV_BANK: set, then way of the pair, then line. -/
def bankPos (set way : Nat) (b : Bool) : Nat := set * 4 + way % 2 * 2 + b.toNat

/-- No line of logical bank `k` with data or DEAD stands from place `lo` up to `hi`. -/
def State.bankClear (s : State) (k lo hi : Nat) : Bool :=
  s.stk.tags.all (fun e =>
    let set := e.1 / 32
    let way := e.1 % 32
    s.lbank set way != k || [false, true].all (fun b =>
      e.2.st b == .inv || decide (bankPos set way b < lo) || decide (hi ≤ bankPos set way b)))

/-- The lookups of the running command are all made. -/
def State.rshLooked (s : State) (c : RshCmd) : Bool :=
  if c.op = 4 then true
  else if c.op = 5 then s.bankClear c.index s.place.next (2 ^ 16)
  else
    let hi := 2 * (c.base.toNat + c.size)
    s.noneHomed s.place.next (hi - s.place.next)

/-- A lookup of the running command: its next line in ascending order (INV_BANK: the next line of its bank, by set), or a line that
was BUSY at its first visit. -/
def State.rshLookup (s : State) (line : LineAddr) : State :=
  match s.place.running with
  | none => s
  | some c =>
    let k := line.toNat
    if !(s.rshOn) || s.capUsed then s
    else if s.place.todo.contains line then
      if (s.txn line).isSome then s
      else
        let s := { s with place := { s.place with todo := s.place.todo.erase line } }
        (s.slotReplay (s.lane line)).rshVisit c.op line
    else if c.op = 4 then s
    else if c.op = 5 then
      match s.lookup line with
      | some w =>
        let p := bankPos (lineSet line) w (lineBit line)
        if s.lbank (lineSet line) w = c.index && s.lineSt line != .inv && decide (s.place.next ≤ p)
            && s.bankClear c.index s.place.next p then
          (({ s with place := { s.place with next := p + 1 } }).slotServed (s.lane line)).rshVisit 5 line
        else s
      | none => s
    else if decide (s.place.next ≤ k) && decide (k < 2 * (c.base.toNat + c.size)) && s.homesSelf line
        && s.noneHomed s.place.next (k - s.place.next) then
      (({ s with place := { s.place with next := k + 1 } }).slotServed (s.lane line)).rshVisit c.op line
    else s

/-- RESHELVER_LOOKUP (R93, R94). -/
def execReshelverLookup (line : LineAddr) (s : State) : Host.Outcome State Fault Refusal := settled (s.begin.rshLookup line)

/-- A command ends with a status: counted, and answered when a casement sent it (R97). -/
def State.rshEnd (s : State) (c : RshCmd) (status reason : Nat) : State :=
  let s := { s with place := { s.place with running := none, todo := [] } }
  let s := ((s.wr SHT_RSH_DONE.LAST_STATUS status).wrapAdd SHT_RSH_DONE.COUNT).showRsh
  match c.req with
  | some r => s.complete r status reason
  | none => s

/-- No transaction of a Reshelver command is in progress, and no acknowledgement is awaited. -/
def State.rshQuiet (s : State) : Bool := s.place.unacked = 0 && s.coh.txns.all (fun t => !t.mode.isRsh)

/-- The running command completes (R94). -/
def State.rshDone (s : State) : State :=
  match s.place.running with
  | none => s
  | some c =>
    if s.rshLooked c && s.place.todo.isEmpty && s.rshQuiet then
      let s := if c.op = 3 then s.setFlagI SHT_ENT_CTL.WALK c.index false else s
      s.rshEnd c (if s.place.poison then stPoison else stOk) rsnNone
    else s

/-- RESHELVER_DONE (R94, R97). -/
def execReshelverDone (s : State) : Host.Outcome State Fault Refusal := settled s.begin.rshDone

/-- A shutdown abandons the command in progress (R96). -/
def State.rshShut (s : State) : State :=
  match s.place.running with
  | some c => s.rshEnd c stRefused rsnRshOff
  | none => s

/-- A write of SHT_RSH_CTL (R96, R331). -/
def State.writeRshCtl (s : State) (m : MgWrite) : State :=
  let s := s.wr SHT_RSH_CTL.PACE (fieldGet SHT_RSH_CTL.PACE m.word)
  (s.writeEn SHT_RSH_CTL.EN SHT_RSH_CTL.EN_PEND SHT_RSH_CTL.STOPPING 0 (m.word.getLsbD 31) State.rshShut id).ok m.src

/-- RESHELVER_DISABLE (R96). -/
def execReshelverDisable (m : MgWrite) (s : State) : Host.Outcome State Fault Refusal :=
  settled (s.begin.mgWrite (.reshelverDisable m) SHT_RSH_CTL.word.off m (fun s => s.writeRshCtl m))
/-- RESHELVER_ENABLE (R331). -/
def execReshelverEnable (m : MgWrite) (s : State) : Host.Outcome State Fault Refusal :=
  settled (s.begin.mgWrite (.reshelverEnable m) SHT_RSH_CTL.word.off m (fun s => s.writeRshCtl m))

/-- The shutdown ends when every write-back of the abandoned command has been acknowledged (R96). -/
def State.rshStopEnd (s : State) : State :=
  if s.flag SHT_RSH_CTL.STOPPING && s.rshQuiet then s.endStop SHT_RSH_CTL.EN_PEND SHT_RSH_CTL.STOPPING 0 id else s

/-- RESHELVER_SHUTDOWN_END (R96). -/
def execReshelverShutdownEnd (s : State) : Host.Outcome State Fault Refusal := settled s.begin.rshStopEnd

/-! ### Prefetch (R98 to R101) -/

/-- An issued prefetch read enters its tag lane (R99): it allocates with PF = 1 unless its sector has come in the meantime. -/
def State.prefetchIn (s : State) (line : LineAddr) : State :=
  match s.place.pfIssued.find? (fun p => p.1 = line) with
  | none => s
  | some p =>
    let lane := s.lane line
    let cmd : Instr := .prefetchRead line
    let s := { s with front := { s.front with presented := s.front.presented.filter (fun x => x.cmd != cmd) } }
    let taken := { s with place := { s.place with pfIssued := s.place.pfIssued.erase p } }
    if s.dozing then s.present lane 3 cmd
    else if (s.lookup line).isSome || s.isSealed line || s.isTagLost (lineSet line) || !(s.homesSelf line) || s.preparing
        || !s.served then taken.slotServed lane
    else if !(s.farReadRoom line) then s.present lane 0 cmd
    else match s.allocBlock line with
      | some c => s.present lane c cmd
      | none => (taken.slotServed lane).fetch line true [.fill] true

/-- PREFETCH_READ (R99). -/
def execPrefetchRead (line : LineAddr) (s : State) : Host.Outcome State Fault Refusal := settled (s.begin.prefetchIn line)

/-- A shutdown of prefetch clears the trackers (R101). -/
def State.pftShut (s : State) : State := { s with place := { s.place with trackers := [] } }

/-- A write of PFT_CTL (R101, R331). -/
def State.writePftCtl (s : State) (m : MgWrite) : State :=
  let s := s.wr PFT_CTL.PF_MAX (fieldGet PFT_CTL.PF_MAX m.word)
  (s.writeEn PFT_CTL.EN PFT_CTL.EN_PEND PFT_CTL.STOPPING 0 (m.word.getLsbD 31) State.pftShut id).ok m.src

/-- PREFETCH_DISABLE (R101). -/
def execPrefetchDisable (m : MgWrite) (s : State) : Host.Outcome State Fault Refusal :=
  settled (s.begin.mgWrite (.prefetchDisable m) PFT_CTL.word.off m (fun s => s.writePftCtl m))
/-- PREFETCH_ENABLE (R331). -/
def execPrefetchEnable (m : MgWrite) (s : State) : Host.Outcome State Fault Refusal :=
  settled (s.begin.mgWrite (.prefetchEnable m) PFT_CTL.word.off m (fun s => s.writePftCtl m))

/-- The shutdown ends when every outstanding prefetch read has filled (R101). -/
def State.pftStopEnd (s : State) : State :=
  if s.flag PFT_CTL.STOPPING && s.pfOut = 0 then s.endStop PFT_CTL.EN_PEND PFT_CTL.STOPPING 0 id else s

/-- PREFETCH_SHUTDOWN_END (R101). -/
def execPrefetchShutdownEnd (s : State) : Host.Outcome State Fault Refusal := settled s.begin.pftStopEnd

/-- A write of PFT_DEGREE: a nibble of 9 or more, or above the label's PFT_DEG_MAX, is refused (R100). -/
def State.writePftDegree (s : State) (m : MgWrite) : State :=
  let nib (w : Nat) (l : Nat) : Nat := w / 16 ^ l % 16
  let w := m.word.toNat
  if (List.range 8).any (fun l => decide (9 ≤ nib w l)) then s.refuse m.src rsnField
  else if (List.range 8).any (fun l => decide (nib (s.rd PFT_DEG_MAX.word) l < nib w l)) then s.refuse m.src rsnBound
  else (s.plain PFT_DEGREE.word.off m.word).ok m.src

/-- PFT_DEGREE_WRITE (R100). -/
def execPftDegreeWrite (m : MgWrite) (s : State) : Host.Outcome State Fault Refusal :=
  settled (s.begin.mgWrite (.pftDegreeWrite m) PFT_DEGREE.word.off m (fun s => s.writePftDegree m))

end Sys2Proof.Machine
end

