-- ==== Sys2Proof/Machine/Ledger.lean ====
section
/-! DEFINITION. The commands of the Ledger (spec/06_ledger.md): acceptance at a tag lane, the operations at their unit, drains and
their write-outs, bindings, and the scale table; and what follows for a chain from the result of an LMERGE (R212). -/

namespace Sys2Proof.Machine

/-! ### Acceptance (R28, R178) -/

/-- A Ledger operation at its tag lane. -/
def State.ldgAccept (s : State) (r : Req) (o : LedgerOp) : State :=
  let i : Instr := .ledgerOpAccept r o
  let lane := s.lane r.line
  let j := s.ldgJob r o .request (s.front.inbox.contains i)
  let lost := r.who.kind = .agent && s.lostAgents.getLsbD r.who.id.toNat && s.accepts r.line
  if s.dozing || s.flag LDG_STATUS.RELOAD then s.present lane 3 i
  else if s.parkedFor r.who then s.turnAway i r true stParked
  else if o.kind = .reserved || o.kind = .lmerge then s.turnAway i r true stRefused rsnField
  else if lost then s.turnAway i r true stRefused rsnAgentLost
  else if j.refused.isNone && !j.sealed && s.preparing then ((s.slotNack lane).take i r).nack r 7
  else if j.refused.isNone && !j.sealed && s.mirShut && s.ldgMirrored j then s.turnAway i r true stParked
  else if j.refused.isNone && !j.sealed && s.ldgMirBlocked j then (((s.bump MIR_NACKS.COUNT).slotNack lane).take i r).nack r 1
  else if 16 ≤ (s.ldgLane lane).length then s.present lane 2 i
  else
    let s := (s.slotServed lane).take i r
    let s := if j.refused = some rsnNotHome then
        s.fault 3 1 1 (detail := s.rd SLC_LIVE.GEN) (loc := some r.line) (status := stRefused)
          (srcKind := srcKindOf r.who) (srcId := r.who.id.toNat)
      else s
    let s := if isLacc o then s.event 0x30 (lane := some lane) (label := some r.label.toNat) (inc := 1 + o.beats.toNat) else s
    s.pushLdg j

/-- LEDGER_OP_ACCEPT (R178). -/
def execLedgerOpAccept (r : Req) (o : LedgerOp) (s : State) : Host.Outcome State Fault Refusal := settled (s.begin.ldgAccept r o)

/-! ### Operations at their unit (R156, R172 to R176, R179) -/

/-- Why an operation ends without effect, by the order of R15 and R178; none when it is performed. -/
def State.ldgTurn (s : State) (j : LdgJob) (cls : List EpochCls) : Option (Nat × Nat) :=
  if s.front.failed then some (stParked, rsnNone)
  else match j.refused with
    | some rsn => some (stRefused, rsn)
    | none => match epochReason cls with
      | some rsn => some (stRefused, rsn)
      | none =>
        if j.sealed then some (stSealed, rsnNone)
        else if j.o.kind = .laccS && !(s.scaleEnt j.o.sidx.toNat).valid then some (stScaleUnset, rsnNone)
        else if cls.contains .nack then some (stNack, rsnNone)
        else none

/-- Add an operation's contributions to its rows, or poison them (R173); the status. -/
def State.ldgAdds (s : State) (j : LdgJob) (halves : List (RowRef × Nat)) : Nat × State :=
  if j.r.psn then
    (stPoison, halves.foldl (fun s x => s.setRowSt x.1 (fun t => { t with psn := true })) s)
  else
    let nums := s.jobNums j.o
    let (s, set) := halves.foldl (fun p x =>
      let (s, b) := p.1.addRow j.o nums x.1 x.2 j.r.line
      (s, p.2 || b)) (s, false)
    if set then (stOverflow, s.bump LDG_OVERFLOWS.COUNT) else (stOk, s)

/-- LACC and LACC.S at L1 to L8. -/
def State.ldgLacc (s : State) (k : Nat) (j : LdgJob) : State :=
  let cls := j.rows.map (fun f => s.contribution f j.o.epoch)
  match s.ldgTurn j cls with
  | some (st, rsn) => s.ldgAnswer k j st rsn
  | none =>
    let halves := j.rows.map (fun f => (f, s.halfRow f (s.contribution f j.o.epoch == .live)))
    let s := s.ldgMirror j (halves.any (fun x => x.2 != x.1.base))
    let (st, s) := s.ldgAdds j halves
    s.ldgAnswer k j st

/-- LSNAP (R175). -/
def State.ldgSnap (s : State) (k : Nat) (j : LdgJob) : State :=
  match s.ldgTurn j [], j.rows with
  | some (st, rsn), _ => s.ldgAnswer k j st rsn
  | none, f :: _ =>
    let p := s.halfRow f (!j.o.half)
    let s := s.readCells f p j.r.line (List.range 32)
    let img := s.rowImg p
    let bad := (s.rowSt f).psn
    let st := if !f.fast && rowOvf img then stOverflow else if bad then stPoison else stOk
    let s := (s.ldgCount j.r.label.toNat st rsnNone).ldgBack k
    (List.range 10).foldl (fun s b => s.reply { datMsg j.r 4 false with
      status := st, psn := bad, beat := b, body := .rowBeat (img.extractLsb' (1024 * b) 1024) }) s
  | none, [] => s.ldgAnswer k j stRefused rsnNotBound

/-- LCLR (R176). -/
def State.ldgClear (s : State) (k : Nat) (j : LdgJob) : State :=
  let busy := j.rows.any (fun f => (s.rowSt f).draining) || s.ldg.held.any (fun h => h.job.r.line = j.r.line)
  match s.ldgTurn j (if busy then [.nack] else []) with
  | some (st, rsn) => s.ldgAnswer k j st rsn
  | none =>
    let s := s.ldgMirror j false
    let s := j.rows.foldl (fun s f => s.clearTile f j.o.epoch (seedOf j.o)) s
    s.ldgAnswer k j stOk

/-- The drain at D1: accepted, held, or turned away (R183, R207, R208, R214). -/
def State.ldgDrain (s : State) (k : Nat) (j : LdgJob) : State :=
  let cls := j.rows.map (fun f => s.drainCls f j.o.epoch)
  let held := s.ldg.held.any (fun h => h.job.r.line = j.r.line)
  let ctx := s.chnOfJob j
  let turn := match s.ldgTurn j cls, ctx with
    | some (st, rsn), some c =>
      if statusRank stRefused < statusRank st && s.chnFaulty c && !(s.chnTail c) then some (stRefused, rsnChainFault) else some (st, rsn)
    | some x, none => some x
    | none, some c =>
      if s.chnFaulty c && !(s.chnTail c) then some (stRefused, rsnChainFault)
      else if s.seamHeld c then some (stParked, rsnNone)
      else if held then some (stNack, rsnNone)
      else if !(s.chnTail c) && decide (32 < s.txUsed + j.rows.length) then some (stNack, rsnNone)
      else if !(s.chnHead c) && !(s.chnFaulty c) && !(s.tokensIn j) && decide (64 ≤ s.ldg.held.length) then some (stNack, rsnNone)
      else none
    | none, none => if held then some (stNack, rsnNone) else none
  match turn, ctx with
  | some (st, rsn), _ => s.ldgAnswer k j st rsn
  | none, none => s.drainD1 k j none
  | none, some c =>
    if s.chnHead c then (s.drainD1 k j (some c)).showChn
    else if s.chnFaulty c then
      let s := j.rows.foldl (fun s f => if (s.rowSt f).tokl then s else s.setRowSt f (fun t => { t with psn := true })) s
      s.drainD1 k j none
    else if s.tokensIn j then (s.drainD1 k j (if s.chnTail c then none else some c)).showChn
    else ({ s with ldg := { s.ldg with held := s.ldg.held ++ [Held.mk j c] } }).showChn

/-! ### Chain tokens (R210, R212) -/

/-- A token's place: the line and RIDX of its slot (R210). -/
def State.tokenPlace (s : State) (c trow : Nat) : Option (LineAddr × Nat) :=
  let n := s.rdI CHN_CTX_SLOTS.BIND c
  if s.rdI CHN_CTX_SLOTS.NSLOTS c ≤ trow then none
  else match s.slotPlace n (s.rdI CHN_CTX_SLOTS.SLOT0 c + trow) with
    | some (g, e) =>
      let per := rowsPerLine (s.rdI LDG_BIND_CTL.DFMT n)
      some (lineOf g (decide (per ≤ e)), e % per)
    | none => none

/-- The LMERGE of a token: the slice's own request, label 7 (R243). -/
def State.tokenJob (s : State) (c : Nat) (h : BitVec 256) (image : RowImage) (line : LineAddr) (ridx : Nat) : LdgJob :=
  let r := { s.walkReq line with psn := hdrPsn h }
  let o : LedgerOp := ⟨.lmerge, hdrEpoch h, 0, false, 0, 0, BitVec.ofNat 2 ridx, false, 0, false, false, 0, 0, image,
    BitVec.ofNat 4 c, hdrSeq h⟩
  s.ldgJob r o .chain false

/-- The result of a token's LMERGE (R212). `flag` when its token flag was already 1. -/
def State.tokenResult (s : State) (c : Nat) (h : BitVec 256) (status reason : Nat) : State :=
  let s := { s with chn := { s.chn with merging := tdel s.chn.merging c } }
  let step (s : State) : State :=
    if BitVec.ofNat 16 (s.rdI CHN_CTX_SEQ.RX_EXPECT c) = hdrSeq h then s.wrI CHN_CTX_SEQ.RX_EXPECT c (hdrSeq h + 1).toNat else s
  if status = stNack then s.chainReply (some c) h 2 stOk 0 (BitVec.ofNat 16 (s.rdI CHN_CTX_SEQ.RX_EXPECT c)) 1
  else if status = stOk || status = stOverflow || status = stPoison then
    ((step s).bump CHN_TOK_RX.COUNT).chainReply (some c) h 1 status 0 (hdrSeq h)
  else ((step s).chainReply (some c) h 3 status reason (hdrSeq h)).chainFault c (hdrSeq h).toNat

/-- A TNACK for a gap, at most one per value of RX_EXPECT in each microsecond (R210). -/
def State.gapNack (s : State) (c : Nat) (h : BitVec 256) : State :=
  let rx := BitVec.ofNat 16 (s.rdI CHN_CTX_SEQ.RX_EXPECT c)
  let recent := match tfind s.chn.nacked c with
    | some (v, t) => v = rx && decide ((s.pins.ns - t).toNat < 1000)
    | none => false
  if recent then s
  else ({ s with chn := { s.chn with nacked := tset s.chn.nacked c (rx, s.pins.ns) } }).chainReply (some c) h 2 stOk 0 rx 0

/-- The receiver returns one Wicket credit (R403). -/
def State.wicketBack (s : State) : State := s.emit (.linkCredit 5 0 1)

/-- A token of a context is taken (R210 step 3); false when it must wait for its Ledger lane. -/
def State.takeToken (s : State) (c : Nat) (h : BitVec 256) (image : RowImage) : Bool × State :=
  let delta := (hdrSeq h - BitVec.ofNat 16 (s.rdI CHN_CTX_SEQ.RX_EXPECT c)).toNat
  if s.chnFaulty c then (true, s.wicketBack.chainReply (some c) h 3 stRefused rsnChainFault (hdrSeq h))
  else if 32768 ≤ delta then
    (true, (s.wicketBack.bump CHN_DUP.COUNT).chainReply (some c) h 1 stOk 0 (BitVec.ofNat 16 (s.rdI CHN_CTX_SEQ.RX_EXPECT c) - 1))
  else if 0 < delta then (true, s.wicketBack.gapNack c h)
  else match s.tokenPlace c (hdrTrow h) with
    | none => (true, s.wicketBack.tokenResult c h stRefused rsnField)
    | some (line, ridx) =>
      let lane := s.lane line
      let j := s.tokenJob c h image line ridx
      if s.front.failed || !s.served || (s.mirShut && s.ldgMirrored j) then (true, s.wicketBack.tokenResult c h stParked rsnNone)
      else if s.dozing || s.flag LDG_STATUS.RELOAD || decide (16 ≤ (s.ldgLane lane).length) then (false, s)
      else if j.refused.isNone && !j.sealed && (s.preparing || s.ldgMirBlocked j) then
        (true, (s.wicketBack.slotNack lane).tokenResult c h stNack rsnNone)
      else (true, ({ (s.wicketBack.slotServed lane) with
        chn := { s.chn with merging := tset s.chn.merging c true } }).pushLdg j)

/-- A token that matches context `c` arrives, or is tried again: it waits while an earlier token of its context awaits its
result. -/
def State.tokenIn (s : State) (c : Nat) (h : BitVec 256) (image : RowImage) : State :=
  let hold : State := { s with chn := { s.chn with waiting := s.chn.waiting ++ [(c, h, image)] } }
  if tget false s.chn.merging c || s.chn.waiting.any (fun w => w.1 = c) then hold
  else match s.takeToken c h image with
    | (true, s) => s
    | (false, _) => hold

/-- Tokens that wait are taken in arrival order, per context (R210). -/
def State.tokensNext (s : State) : State :=
  s.chn.waiting.foldl (fun s w =>
    if tget false s.chn.merging w.1 || s.chn.waiting.find? (fun x => x.1 = w.1) != some w then s
    else match s.takeToken w.1 w.2.1 w.2.2 with
      | (true, s) => { s with chn := { s.chn with waiting := s.chn.waiting.erase w } }
      | (false, _) => s) s

/-- The header that a token's job came from, as its answers need it: CHAIN, POS and SRC of the context's predecessor. -/
def State.jobHdr (s : State) (c : Nat) (j : LdgJob) : BitVec 256 :=
  chainHdr 0 0 (s.rdI CHN_CTX_CTL.CHAIN c) (s.rdI CHN_CTX_CTL.POS c - 1) j.r.psn j.o.seq 0 0 j.o.epoch 0 s.coord
    (s.rdI CHN_CTX_PRED.word c % 2 ^ 24)

/-- LMERGE (R174, R208, R212). -/
def State.ldgMerge (s : State) (k : Nat) (j : LdgJob) : State :=
  let c := j.o.ctx.toNat
  let h := s.jobHdr c j
  let count (s : State) (st rsn : Nat) : State := (s.ldgCount j.r.label.toNat st rsn).ldgBack k
  let cls := j.rows.map (fun f => s.contribution f j.o.epoch)
  match s.ldgTurn j cls, j.rows with
  | some (st, rsn), _ => ((count s st rsn).tokenResult c h st rsn).tokensNext.showChn
  | none, f :: _ =>
    let live := s.contribution f j.o.epoch == .live
    if (if live then (s.rowSt f).tokl else (s.rowSt f).toks) then
      ((count s stRefused rsnField).tokenResult c h stRefused rsnField).tokensNext.showChn
    else
      let p := s.halfRow f live
      let s := s.ldgMirror j (p != f.base)
      let (s, set) := s.mergeRow j.o.image f p j.r.line
      let s := s.setRowSt f (fun t => { t with
        psn := t.psn || j.r.psn, tokl := t.tokl || live, toks := t.toks || !live })
      let st := if set then stOverflow else if j.r.psn then stPoison else stOk
      let s := if set then s.bump LDG_OVERFLOWS.COUNT else s
      let s := (count s st rsnNone).tokenResult c h st rsnNone
      (s.releaseHeld j.r.line).tokensNext.showChn
  | none, [] => ((count s stRefused rsnNotBound).tokenResult c h stRefused rsnNotBound).tokensNext.showChn

/-! ### The commands of a unit -/

/-- The unit performs the operation at the head of what it took from its lane, when it has the kind; a full lane back to the front
island holds it (R22). -/
def State.ldgRun (s : State) (k : Nat) (p : LedgerKind → Bool) (f : State → LdgJob → State) : State :=
  match s.ldgUnit k with
  | j :: rest => if p j.o.kind && !(s.ldgFull k) then f (s.setLdgUnit k rest) j else s
  | [] => s

/-- LACC (R173). -/
def execLacc (lane : BitVec 2) (s : State) : Host.Outcome State Fault Refusal :=
  settled (s.begin.ldgRun lane.toNat (· == .lacc) (fun s j => s.ldgLacc lane.toNat j))
/-- LACC_S (R193). -/
def execLaccS (lane : BitVec 2) (s : State) : Host.Outcome State Fault Refusal :=
  settled (s.begin.ldgRun lane.toNat (· == .laccS) (fun s j => s.ldgLacc lane.toNat j))
/-- LMERGE (R174). -/
def execLmerge (lane : BitVec 2) (s : State) : Host.Outcome State Fault Refusal :=
  settled (s.begin.ldgRun lane.toNat (· == .lmerge) (fun s j => s.ldgMerge lane.toNat j))
/-- LSNAP (R175). -/
def execLsnap (lane : BitVec 2) (s : State) : Host.Outcome State Fault Refusal :=
  settled (s.begin.ldgRun lane.toNat (· == .lsnap) (fun s j => s.ldgSnap lane.toNat j))
/-- LDRAIN (R183). -/
def execLdrain (lane : BitVec 2) (s : State) : Host.Outcome State Fault Refusal :=
  settled (s.begin.ldgRun lane.toNat (· == .ldrain) (fun s j => s.ldgDrain lane.toNat j))
/-- LCLR (R176). -/
def execLclr (lane : BitVec 2) (s : State) : Host.Outcome State Fault Refusal :=
  settled (s.begin.ldgRun lane.toNat (· == .lclr) (fun s j => s.ldgClear lane.toNat j))

/-! ### Drains after D1 (R177, R180, R207) -/

/-- D2 of the unit's oldest drain. -/
def State.drainRead (s : State) (k : Nat) : State :=
  match tget [] s.ldg.drains k with
  | [] => s
  | d :: rest =>
    if s.ldgFull k then s
    else
      let s := { s with ldg := { s.ldg with drains := tput [] s.ldg.drains k rest } }
      let (imgs, s) := s.drainRows d
      match d.ctx with
      | none => s.drainRound k d.job imgs
      | some c => (s.drainTokens c d.job imgs).showChn

/-- DRAIN_READ (R180). -/
def execDrainRead (lane : BitVec 2) (s : State) : Host.Outcome State Fault Refusal := settled (s.begin.drainRead lane.toNat)

/-- The write-out as a whole-line write from the home's own requester (R117, R177). -/
def State.outReq (s : State) (w : WriteOut) : Req :=
  { s.walkReq w.job.r.line with label := w.job.r.label, scope := w.job.r.scope, psn := w.psn }

/-- The write-out at its tag lane: it waits for a seal walk, a BUSY line, a reservation, the transaction table, a mirror credit, its
bank and the far port, and is never answered NACK_RETRY. -/
def State.writeOut (s : State) (k : Nat) : State :=
  match tget [] s.ldg.outs k with
  | [] => s
  | w :: rest =>
    let r := s.outReq w
    let i : Instr := .wrLine r w.data
    let line := r.line
    let s := (s.readTags (lineSet line)).readCat (s.catSet line)
    let cmd : Instr := .drainWriteOut (BitVec.ofNat 2 k)
    let lane := s.lane line
    if s.front.failed || s.dozing then s
    else if s.sealWalk line || (s.txn line).isSome || s.coh.resv.any (fun v => v.line = line) || s.tableFull i r
        || s.mirBlocked i r || (s.mirShut && s.needsMirror i r) then s.present lane 3 cmd
    else match s.blockCause i r with
      | some c => s.present lane c cmd
      | none =>
        let s := { s with
          ldg := { s.ldg with outs := tput [] s.ldg.outs k rest }
          front := { s.front with presented := s.front.presented.filter (fun p => p.cmd != cmd) } }
        let s := ((s.slotServed lane).openSeals line).recordWrite r
        let s := s.measure line (!(s.lineSt line).live)
        let s := s.event 0x23 (lane := some lane) (label := some r.label.toNat)
        let s := s.ldgCount r.label.toNat w.status rsnNone
        let (id, s) := s.trackWrite r (cmpMsg w.job.r w.status) false (decide (2 ≤ r.scope.toNat)) (decide (r.scope = 3))
        let s := s.setWrite id (fun p => { p with drain := some (decide (w.job.src = .register), w.rows) })
        (s.serveLine i r id false).ackCheck

/-- DRAIN_WRITE_OUT (R177). -/
def execDrainWriteOut (lane : BitVec 2) (s : State) : Host.Outcome State Fault Refusal := settled (s.begin.writeOut lane.toNat)

/-- A write of LDG_ROW_DRAIN: GO performs an LDRAIN of the line in the drain registers, with label 7. -/
def State.writeRowDrain (s : State) (m : MgWrite) : State :=
  let go := m.word.getLsbD 31
  if go && s.flag LDG_ROW_DRAIN.GO then s.refuse m.src rsnBusy
  else if fieldGet LDG_ROW_DRAIN.RMODE m.word = 3 then s.refuse m.src rsnField
  else
    let s := s.plain LDG_ROW_DRAIN.word.off m.word
    if !go then s.ok m.src
    else
      let s := (s.setFlag LDG_ROW_DRAIN.GO true).ok m.src
      let line := BitVec.ofNat 45 (s.rd LDG_DRN_PA_HI.PA_HI * 2 ^ 25 + s.rd LDG_DRN_PA_LO.PA_LO)
      let r : Req := { s.walkReq line with scope := BitVec.ofNat 2 (fieldGet LDG_ROW_DRAIN.SCOPE m.word) }
      let o : LedgerOp := ⟨.ldrain, BitVec.ofNat 32 (s.rd LDG_DRN_EPOCH.EPOCH), 0, false, 0, 0, 0, false,
        BitVec.ofNat 2 (fieldGet LDG_ROW_DRAIN.RMODE m.word), fieldGet LDG_ROW_DRAIN.SAT m.word != 0, false, 0, 0, 0, 0, 0⟩
      let j := s.ldgJob r o .register false
      if s.front.failed || !s.served then s.drainAnswer true (cmpMsg r stParked)
      else if j.refused.isNone && !j.sealed && (s.preparing || s.ldgMirBlocked j) then s.drainAnswer true (cmpMsg r stNack)
      else (s.slotServed (s.lane line)).pushLdg j

/-- LDG_ROW_DRAIN (R177). -/
def execLdgRowDrain (m : MgWrite) (s : State) : Host.Outcome State Fault Refusal :=
  settled (s.begin.mgWrite (.ldgRowDrain m) LDG_ROW_DRAIN.word.off m (fun s => s.writeRowDrain m))

/-- A held drain has waited HOLD_TMO: its context enters FAULT (R214). -/
def State.heldTimeout (s : State) (line : LineAddr) : State :=
  match s.ldg.held.find? (fun h => h.job.r.line = line) with
  | some h =>
    if s.rd CHN_CTL.HOLD_TMO = 0 then s
    else match h.job.rows with
      | f :: _ => s.chainFault h.ctx (s.trowOf h.ctx f)
      | [] => s
  | none => s

/-- HELD_DRAIN_TIMEOUT (R214). -/
def execHeldDrainTimeout (line : LineAddr) (s : State) : Host.Outcome State Fault Refusal := settled (s.begin.heldTimeout line)

/-! ### Shutdown (R196, R331) -/

/-- A write of LDG_CTL. -/
def State.writeLdgCtl (s : State) (m : MgWrite) : State :=
  if s.flag DBK_DEGRADED.LEDGER then s.ok m.src else (s.writeEn LDG_CTL.EN LDG_CTL.EN_PEND LDG_CTL.STOPPING 0 (m.word.getLsbD 31) id id).ok m.src

/-- LEDGER_DISABLE (R196). -/
def execLedgerDisable (m : MgWrite) (s : State) : Host.Outcome State Fault Refusal :=
  settled (s.begin.mgWrite (.ledgerDisable m) LDG_CTL.word.off m (fun s => s.writeLdgCtl m))
/-- LEDGER_ENABLE (R331). -/
def execLedgerEnable (m : MgWrite) (s : State) : Host.Outcome State Fault Refusal :=
  settled (s.begin.mgWrite (.ledgerEnable m) LDG_CTL.word.off m (fun s => s.writeLdgCtl m))

/-- The lanes and the pipeline are empty and every write-out is acknowledged. -/
def State.ldgQuiet (s : State) : Bool :=
  s.ldg.lane.isEmpty && s.ldg.unit.isEmpty && s.ldg.drains.isEmpty && s.ldg.held.isEmpty && s.ldg.outs.isEmpty
    && s.ord.writes.all (fun w => w.drain.isNone) && s.chn.drains.isEmpty
    && (List.range 4).all (fun k => tget 0 s.front.lanes (ledgerFrontKey k) = 0)

/-- The shutdown of the Ledger ends. -/
def State.ldgStopEnd (s : State) : State :=
  if s.flag LDG_CTL.STOPPING && s.ldgQuiet then s.endStop LDG_CTL.EN_PEND LDG_CTL.STOPPING 0 id else s

/-- LEDGER_SHUTDOWN_END (R196). -/
def execLedgerShutdownEnd (s : State) : Host.Outcome State Fault Refusal := settled s.begin.ldgStopEnd

/-! ### Bindings (R160) -/

/-- The word of a binding register as a commit takes it: the staged value, or the committed one. -/
def State.bindWord (s : State) (n reg : Nat) : Word :=
  let off := LDG_BIND_BASE_LO.word.off + 16 * n + 4 * reg
  match tfind s.ldg.stage off with
  | some w => w
  | none => s.word off

/-- Stage a write of BASE_LO, BASE_HI or SIZE. -/
def State.stageBind (s : State) (off : Nat) (m : MgWrite) : State :=
  match regRow s.s64 off with
  | some row =>
    ({ s with ldg := { s.ldg with stage := tset s.ldg.stage off (plainWrite row (s.word off) m.word) } }).ok m.src
  | none => s.ok m.src

/-- Drop what is staged for an entry. -/
def State.unstage (s : State) (n : Nat) : State :=
  { s with ldg := { s.ldg with stage := tfilter (fun k _ => !(k / 16 = (LDG_BIND_BASE_LO.word.off + 16 * n) / 16)) s.ldg.stage } }

/-- A write of LDG_BIND_CTL: a commit or a removal, whose response is held until BIND_COMMIT_APPLY. -/
def State.writeBindCtl (s : State) (n : Nat) (m : MgWrite) : State :=
  let off := LDG_BIND_CTL.word.off + 16 * n
  let ctl := match regRow s.s64 off with
    | some row => plainWrite row (s.word off) m.word
    | none => s.word off
  let b : BindWait := ⟨n, m.src, s.bindWord n 0, s.bindWord n 1, s.bindWord n 2, ctl⟩
  if m.word.getLsbD 31 then
    match s.bindRefusal b with
    | 0 =>
      let s := s.bindGone n
      { s with ldg := { s.ldg with commits := s.ldg.commits ++ [b] } }
    | rsn => s.refuse m.src rsn
  else
    let s := s.bindGone n
    { s with ldg := { s.ldg with commits := s.ldg.commits ++ [b] } }

/-- BIND_COMMIT (R160). -/
def execBindCommit (n : BitVec 5) (m : MgWrite) (s : State) : Host.Outcome State Fault Refusal :=
  settled (s.begin.mgWrite (.bindCommit n m) (LDG_BIND_CTL.word.off + 16 * n.toNat) m (fun s => s.writeBindCtl n.toNat m))
/-- BIND_REMOVE (R160). -/
def execBindRemove (n : BitVec 5) (m : MgWrite) (s : State) : Host.Outcome State Fault Refusal :=
  settled (s.begin.mgWrite (.bindRemove n m) (LDG_BIND_CTL.word.off + 16 * n.toNat) m (fun s => s.writeBindCtl n.toNat m))

/-- Apply a commit or removal. -/
def State.bindInstall (s : State) (b : BindWait) : State :=
  let base := LDG_BIND_BASE_LO.word.off + 16 * b.n
  let s := s.unstage b.n
  if b.ctl.getLsbD 31 then
    let rows := bindRows b.size b.ctl
    let s := s.clearRows rows.1 (b.ctl.getLsbD 30) rows.2
    (((s.setWord base b.baseLo).setWord (base + 4) b.baseHi).setWord (base + 8) b.size).setWord (base + 12) b.ctl
  else s.setFlagI LDG_BIND_CTL.VALID b.n false

/-- The commit of entry `n` takes effect once no operation and no drain on the old or the new rows is left. -/
def State.bindApply (s : State) (n : Nat) : State :=
  match s.ldg.commits.find? (fun b => b.n = n) with
  | none => s
  | some b =>
    let old := if s.bindOk n then s.bindRowsOf n else (0, 0)
    let new := if b.ctl.getLsbD 31 then bindRows b.size b.ctl else (0, 0)
    if s.rowsBusy old new then s
    else
      let s := { s with ldg := { s.ldg with commits := s.ldg.commits.erase b } }
      (s.bindInstall b).ok b.src

/-- BIND_COMMIT_APPLY (R160). -/
def execBindCommitApply (n : BitVec 5) (s : State) : Host.Outcome State Fault Refusal := settled (s.begin.bindApply n.toNat)

/-- A change of the live map clears VALID in every binding; the rows stay (R161). -/
def State.unbindAll (s : State) : State :=
  (List.range 32).foldl (fun s n => if s.bindOk n then (s.bindGone n).setFlagI LDG_BIND_CTL.VALID n false else s) s

/-! ### The scale table (R42, R43, R191 to R194) -/

/-- Install an entry in both copies: the replaced value enters history slot GEN mod 8, and GEN advances (R192). -/
def State.scaleInstall (s : State) (n : Nat) (e : ScaleEnt) : State :=
  let old := tget ScaleEnt.init s.ldg.master n
  let gen := s.rdI LDG_SCALE_CTL.GEN n
  let slot := 8 * n + gen % 8
  let s := s.wrI LDG_SHIST_MUL.MUL slot old.mul.toNat
  let s := ((s.setFlagI LDG_SHIST_INFO.VALID slot old.valid).wrI LDG_SHIST_INFO.SHIFT slot old.shift.toNat).wrI LDG_SHIST_INFO.GEN slot gen
  let s := ((s.setFlagI LDG_SCALE_CTL.VALID n e.valid).wrI LDG_SCALE_CTL.SHIFT n e.shift.toNat).wrI LDG_SCALE_CTL.GEN n (gen + 1)
  let s := s.wrI LDG_SCALE_MUL.MUL n e.mul.toNat
  { s with ldg := { s.ldg with
    master := tput ScaleEnt.init s.ldg.master n e, scale := tput ScaleEnt.init s.ldg.scale n e } }

/-- The payload of MSCALE: the entry, its control word in the layout of LDG_SCALE_CTL, MUL (notes/assumptions/27.md). -/
def scalePayload (n : Nat) (ctl mul : Word) : BitVec 128 := (0#32) ++ mul ++ ctl ++ BitVec.ofNat 32 n

/-- MSCALE for an entry as it stands (R337). -/
def State.scaleSend (s : State) (n : Nat) : State :=
  let e := tget ScaleEnt.init s.ldg.master n
  let h : MirHdr := { s.mirHdr 0 with lane := 0, arg := BitVec.ofNat 32 n }
  s.mirSend ⟨7, h, none, none, none, scalePayload n (s.word (LDG_SCALE_CTL.word.off + 16 * n)) e.mul, none⟩

/-- The scale table is mirrored: in FORMING, PAIRED and while re-pairing. -/
def State.scalePaired (s : State) : Bool := s.pairOn || s.rd MIR_STATUS.STATE = 1

/-- A write of LDG_SCALE_CTL commits the staged MUL with VALID and SHIFT (R192). -/
def State.writeScale (s : State) (n : Nat) (m : MgWrite) : State :=
  let mul : Word := BitVec.ofNat 32 (s.rdI LDG_SCALE_MUL.MUL n)
  if f32Nan mul || f32Inf mul then s.refuse m.src rsnField
  else
    let s := s.scaleInstall n ⟨m.word.getLsbD 31, BitVec.ofNat 7 (fieldGet LDG_SCALE_CTL.SHIFT m.word), mul⟩
    (if s.scalePaired then s.scaleSend n else s).ok m.src

/-- SCALE_COMMIT (R192). -/
def execScaleCommit (n : BitVec 8) (m : MgWrite) (s : State) : Host.Outcome State Fault Refusal :=
  settled (s.begin.mgWrite (.scaleCommit n m) (LDG_SCALE_CTL.word.off + 16 * n.toNat) m (fun s => s.writeScale n.toNat m))

/-- The working copy is reloaded from the master (R43). -/
def State.scaleReload (s : State) : State :=
  ({ s with ldg := { s.ldg with scale := s.ldg.master } }).setFlag LDG_STATUS.RELOAD false

end Sys2Proof.Machine
end

