-- ==== Sys2Proof/Machine/Receive.lean ====
section
/-! DEFINITION. A message that arrives passes the injector of its link in the receive direction (R369, R372). Below the link layer
an injected fault is recovered by replay, so that the message arrives unchanged (R395); above it the fault reaches the checks of
the message. -/

namespace Sys2Proof.Machine

/-- Invert bit `p` of a part of a message that begins at bit `base` of it. -/
def flipBit {w : Nat} (d : BitVec w) (base p : Nat) : BitVec w :=
  if base ≤ p && p < base + w then d ^^^ (BitVec.twoPow w (p - base)) else d

/-- A part of a message, from bit `base` of it on, with the bits of the first 256 B inverted that the injector names. -/
def flipAt {w : Nat} (d : BitVec w) (base : Nat) : Flip → BitVec w
  | .bits p0 p1 =>
    let d := flipBit d base p0
    match p1 with
    | some p => flipBit d base p
    | none => d
  | .flit => d ^^^ BitVec.ofNat w (2 ^ min w (2048 - base) - 1)

/-- A message of kind `k` (R370) and class `c` arrives on link `n` as the command `i`. `run` performs a command, `flip` inverts bits
of one, and `back` returns the credit of a message that is dropped. -/
def State.receive (s : State) (n k c : Nat) (i : Instr) (run : Instr → State → State) (flip : Flip → Instr → Instr)
    (back : State → State) : State :=
  let (act, s) := s.inject n true k
  let above := s.flagI LNK_INJ_CTL.LAYER n
  match act with
  | .pass =>
    let s := run i s
    match (s.injector n).held with
    | some (c', .received h) =>
      if c' = c then run h (s.setInjector n { s.injector n with held := none }) else s
    | _ => s
  | .drop => if above then back s else run i s
  | .flip f => run (if above then flip f i else i) s
  | .hold => s.setInjector n { s.injector n with held := some (c, .received i) }

end Sys2Proof.Machine
end

