-- ==== Sys2Proof/Machine/Chain.lean ====
section
/-! DEFINITION. The chain commands (spec/07_reduction_order.md): messages that arrive on the Wicket (R209 to R211), resends (R213),
commits and removals of contexts (R205), and the Wicket's credits (R403). -/

namespace Sys2Proof.Machine

/-! ### Messages that arrive -/

/-- The context that an incoming TOKEN names (R210): its predecessor sent it. -/
def State.rxContext (s : State) (h : BitVec 256) : Option Nat :=
  (List.range 16).find? (fun c => s.chnOk c && s.rdI CHN_CTX_CTL.CHAIN c = hdrChain h
    && s.rdI CHN_CTX_CTL.POS c = hdrPos h + 1 && s.rdI CHN_CTX_PRED.word c % 2 ^ 24 = hdrSrc h)

/-- The context that an incoming TACK, TNACK or TREF names (R211): its successor sent it. -/
def State.txContext (s : State) (h : BitVec 256) : Option Nat :=
  (List.range 16).find? (fun c => s.chnOk c && s.rdI CHN_CTX_CTL.CHAIN c = hdrChain h
    && s.rdI CHN_CTX_CTL.POS c + 1 = hdrPos h && s.rdI CHN_CTX_SUCC.word c % 2 ^ 24 = hdrSrc h)

/-- A TOKEN whose CRC matches (R210 from step 2 on). -/
def State.tokenAt (s : State) (h : BitVec 256) (image : RowImage) : State :=
  match s.rxContext h with
  | none =>
    (s.wicketBack.chainReply none h 3 stRefused rsnField (hdrSeq h)).chainEntry 3 1 0 (hdrChain h) (hdrSeq h).toNat
  | some c => s.tokenIn c h image

/-- How far a sequence lies after TX_ACKED, in serial order. -/
def State.afterAcked (s : State) (c : Nat) (q : BitVec 16) : Nat :=
  (q - BitVec.ofNat 16 (s.rdI CHN_CTX_ACKED.TX_ACKED c)).toNat

/-- Every unacknowledged token of a context up to a sequence is acknowledged with a status. -/
def State.ackTokens (s : State) (c : Nat) (q : BitVec 16) (status : Nat) : State :=
  let hit (t : Token) : Bool := t.ctx = c && decide (s.afterAcked c t.seq ≤ s.afterAcked c q)
  let gone := s.chn.tokens.filter hit
  let s := ({ s with chn := { s.chn with tokens := s.chn.tokens.filter (fun t => !(hit t)) } }).wrI CHN_CTX_ACKED.TX_ACKED c q.toNat
  gone.foldl (fun s t => s.tokenDone t.drain (fun st => statusMax st status)) s

/-- A status that a receiver may not emit counts as failed (R14): here it enters a drain as POISON. -/
def knownStatus (st : Nat) : Nat := if 10 ≤ st then stPoison else st

/-- TACK (R211). -/
def State.tackAt (s : State) (c : Nat) (h : BitVec 256) : State :=
  let window := s.afterAcked c (BitVec.ofNat 16 (s.rdI CHN_CTX_SEQ.TX_NEXT c))
  if s.chnFaulty c || decide (window ≤ s.afterAcked c (hdrSeq h)) then s
  else (s.ackTokens c (hdrSeq h) (knownStatus (hdrStatus h))).showChn

/-- TNACK (R211): a resend from its SEQ is scheduled. -/
def State.tnackAt (s : State) (c : Nat) (h : BitVec 256) : State :=
  if s.chn.tokens.any (fun t => t.ctx = c && t.seq = hdrSeq h) then
    let s := s.ackTokens c (hdrSeq h - 1) stOk
    ({ s with chn := { s.chn with resend := tset s.chn.resend c (hdrSeq h) } }).showChn
  else s

/-- TREF (R211): the context enters FAULT. -/
def State.trefAt (s : State) (c : Nat) (h : BitVec 256) : State := s.chainFault c (hdrSeq h).toNat

/-- A chain message: its CRC is checked first, then MSG (R209). -/
def State.chainIn (s : State) (h : BitVec 256) (image : RowImage) : State :=
  let img := if hdrMsg h = 0 then some image else none
  if h.extractLsb' 224 32 != chainCrc h img then (s.wicketBack).bump CHN_CRC_ERR.COUNT
  else if 4 ≤ hdrMsg h then (s.wicketBack).chainEntry 4 1 0 (hdrChain h) (hdrSeq h).toNat
  else if hdrMsg h = 0 then s.tokenAt h image
  else
    let s := s.wicketBack
    match s.txContext h with
    | none => s.chainEntry 3 1 0 (hdrChain h) (hdrSeq h).toNat
    | some c =>
      let s := if 10 ≤ hdrStatus h then s.fault 3 4 1 (detail := hdrMsg h) (srcKind := 6) (srcId := c) else s
      match hdrMsg h with
      | 1 => s.tackAt c h
      | 2 => s.tnackAt c h
      | _ => s.trefAt c h

/-- The command of a chain message. -/
def chainRun : Instr → State → State
  | .token h image, s => s.chainIn h image
  | .tack h, s | .tnack h, s | .tref h, s => s.chainIn h 0
  | _, s => s

/-- A chain message with inverted bits: the header, then the image. -/
def chainFlip (f : Flip) : Instr → Instr
  | .token h image => .token (flipAt h 0 f) (flipAt image 256 f)
  | .tack h => .tack (flipAt h 0 f)
  | .tnack h => .tnack (flipAt h 0 f)
  | .tref h => .tref (flipAt h 0 f)
  | i => i

/-- The header of a chain message. -/
def chainHdrOf : Instr → BitVec 256
  | .token h _ | .tack h | .tnack h | .tref h => h
  | _ => 0

/-- A chain message of kind `k` arrives on the Wicket, from the other half over the Transom (R216, R370). -/
def State.wicketIn (s : State) (k : Nat) (i : Instr) : State :=
  let run (i : Instr) (s : State) : State := s.receive 5 k k i chainRun chainFlip State.wicketBack
  if s.crosses (hdrSrc (chainHdrOf i)) then s.receive 7 1 1 i run chainFlip State.wicketBack else run i s

/-- TOKEN (R210). -/
def execToken (hdr : BitVec 256) (image : RowImage) (s : State) : Host.Outcome State Fault Refusal :=
  settled (s.begin.wicketIn 0 (.token hdr image))
/-- TACK (R211). -/
def execTack (hdr : BitVec 256) (s : State) : Host.Outcome State Fault Refusal := settled (s.begin.wicketIn 1 (.tack hdr))
/-- TNACK (R211). -/
def execTnack (hdr : BitVec 256) (s : State) : Host.Outcome State Fault Refusal := settled (s.begin.wicketIn 2 (.tnack hdr))
/-- TREF (R211). -/
def execTref (hdr : BitVec 256) (s : State) : Host.Outcome State Fault Refusal := settled (s.begin.wicketIn 3 (.tref hdr))

/-! ### Resends (R213) -/

/-- Resend the unacknowledged tokens of a context from a sequence on; a token resent RETRY_MAX times puts the context into FAULT. -/
def State.resendFrom (s : State) (c : Nat) (q : BitVec 16) : State :=
  let from? (t : Token) : Bool := t.ctx = c && decide (s.afterAcked c q ≤ s.afterAcked c t.seq)
  let mine := s.chn.tokens.filter from?
  let limit := max 1 (s.rd CHN_CTL.RETRY_MAX)
  match mine.find? (fun t => decide (limit ≤ t.resent)) with
  | some t => s.chainFault c t.seq.toNat
  | none =>
    let s := { s with chn := { s.chn with
      tokens := s.chn.tokens.map (fun t => if from? t then { t with resent := t.resent + 1 } else t) } }
    mine.foldl (fun s t => (s.bump CHN_RETX.COUNT).chainSend t.hdr (some t.image)) s

/-- The back-off of a TNACK has passed. -/
def State.tnackResend (s : State) (c : Nat) : State :=
  match tfind s.chn.resend c with
  | some q => ({ s with chn := { s.chn with resend := tdel s.chn.resend c } }).resendFrom c q
  | none => s

/-- TNACK_RESEND (R213). -/
def execTnackResend (ctx : BitVec 4) (s : State) : Host.Outcome State Fault Refusal := settled (s.begin.tnackResend ctx.toNat)

/-- The oldest unacknowledged token of a context has waited RTX_US. -/
def State.tokenTimeout (s : State) (c : Nat) : State :=
  match s.chn.tokens.find? (fun t => t.ctx = c) with
  | some t => s.resendFrom c t.seq
  | none => s

/-- TOKEN_RETRANSMIT_TIMEOUT (R213). -/
def execTokenRetransmitTimeout (ctx : BitVec 4) (s : State) : Host.Outcome State Fault Refusal :=
  settled (s.begin.tokenTimeout ctx.toNat)

/-! ### Commits (R205) -/

/-- The reason code of a refused commit; 0 when it is accepted. -/
def State.chnRefusal (s : State) (c : Nat) (w : Word) : Nat :=
  let len := fieldGet CHN_CTX_CTL.LEN w
  let slots := (s.rdI CHN_CTX_SLOTS.SLOT0 c, s.rdI CHN_CTX_SLOTS.NSLOTS c)
  let n := s.rdI CHN_CTX_SLOTS.BIND c
  let others := (List.range 16).filter (fun d => d != c && s.chnOk d)
  if decide (len < 2) || decide (64 < len) || decide (len ≤ fieldGet CHN_CTX_CTL.POS w) || slots.2 = 0 || decide (4096 < slots.2)
    then rsnField
  else if others.any (fun d => s.rdI CHN_CTX_CTL.CHAIN d = fieldGet CHN_CTX_CTL.CHAIN w) then rsnField
  else if !(s.bindOk n) || s.flagI LDG_BIND_CTL.MODE n then rsnBindInvalid
  else if decide (s.rdI LDG_BIND_SIZE.GROUPS n * s.rdI LDG_BIND_CTL.K n * rpg (s.rdI LDG_BIND_CTL.DFMT n) < slots.1 + slots.2)
    then rsnBindInvalid
  else if others.any (fun d => s.rdI CHN_CTX_SLOTS.BIND d = n
      && overlaps slots (s.rdI CHN_CTX_SLOTS.SLOT0 d, s.rdI CHN_CTX_SLOTS.NSLOTS d)) then rsnBindOverlap
  else 0

/-- The written CHAIN, POS and LEN are those in force. -/
def State.chnSame (s : State) (c : Nat) (w : Word) : Bool :=
  fieldGet CHN_CTX_CTL.CHAIN w = s.rdI CHN_CTX_CTL.CHAIN c && fieldGet CHN_CTX_CTL.POS w = s.rdI CHN_CTX_CTL.POS c
    && fieldGet CHN_CTX_CTL.LEN w = s.rdI CHN_CTX_CTL.LEN c

/-- The fields of a written CHN_CTX_CTL, and ROLE from POS and LEN. -/
def State.putChn (s : State) (c : Nat) (w : Word) : State :=
  let pos := fieldGet CHN_CTX_CTL.POS w
  let len := fieldGet CHN_CTX_CTL.LEN w
  let role := if pos = 0 then 0 else if pos + 1 = len then 2 else 1
  (((s.wrI CHN_CTX_CTL.CHAIN c (fieldGet CHN_CTX_CTL.CHAIN w)).wrI CHN_CTX_CTL.POS c pos).wrI CHN_CTX_CTL.LEN c len).wrI
    CHN_CTX_CTL.ROLE c role

/-- A write of CHN_CTX_CTL. -/
def State.writeChnCtl (s : State) (c : Nat) (m : MgWrite) : State :=
  let ok := s.chnOk c
  if ok && !(s.chnSame c m.word) then s.refuse m.src rsnField
  else if !(m.word.getLsbD 31) then
    let s := if ok then (s.chainDrop c).setFlagI CHN_CTX_CTL.VALID c false else s
    ((s.putChn c m.word).showChn).ok m.src
  else
    match s.chnRefusal c m.word with
    | 0 =>
      let s := if ok then s.chainDrop c else s
      let s := ((s.putChn c m.word).setFlagI CHN_CTX_CTL.VALID c true).setChnFault c false
      let s := ((s.wrI CHN_CTX_SEQ.TX_NEXT c 0).wrI CHN_CTX_SEQ.RX_EXPECT c 0).wrI CHN_CTX_ACKED.TX_ACKED c 0xFFFF
      let s := { s with chn := { s.chn with nacked := tdel s.chn.nacked c } }
      s.showChn.ok m.src
    | rsn => s.refuse m.src rsn

/-- CHAIN_COMMIT (R205). -/
def execChainCommit (c : BitVec 4) (m : MgWrite) (s : State) : Host.Outcome State Fault Refusal :=
  settled (s.begin.mgWrite (.chainCommit c m) (CHN_CTX_CTL.word.off + 32 * c.toNat) m (fun s => s.writeChnCtl c.toNat m))
/-- CHAIN_REMOVE (R205). -/
def execChainRemove (c : BitVec 4) (m : MgWrite) (s : State) : Host.Outcome State Fault Refusal :=
  settled (s.begin.mgWrite (.chainRemove c m) (CHN_CTX_CTL.word.off + 32 * c.toNat) m (fun s => s.writeChnCtl c.toNat m))

/-- A write of SLOTS, PRED or SUCC of a context: while VALID = 1 a change is refused (R205). -/
def State.writeChnField (s : State) (off c : Nat) (m : MgWrite) : State :=
  match regRow s.s64 off with
  | some row =>
    let new := plainWrite row (s.word off) m.word
    if s.chnOk c && new != s.word off then s.refuse m.src rsnField else (s.setWord off new).ok m.src
  | none => s.ok m.src

/-! ### Credits -/

/-- Message credits return on the Wicket (R403): V in bit 7, the number in the bits below. -/
def State.wicketCredit (s : State) (w : BitVec 8) : State :=
  if w.getLsbD 7 then
    ({ s with chn := { s.chn with credits := s.chn.credits + w.toNat % 128 } }).chainDrainQ
  else s

/-- WICKET_CREDIT (R403). -/
def execWicketCredit (word : BitVec 8) (s : State) : Host.Outcome State Fault Refusal := settled (s.begin.wicketCredit word)

end Sys2Proof.Machine
end

