-- ==== Sys2Proof/Machine/Window.lean ====
section
/-! DEFINITION. Requests of scheduled windows (R251 to R256): the plan, what makes a request late and its cause, acceptance in a slot,
and the counting of late requests. -/

namespace Sys2Proof.Machine

/-- Slot `j` of the plan of a lane: the window and the logical bank that it names (R252). -/
def State.slot (s : State) (lane j : Nat) : Option (Nat × Nat) :=
  let i := 128 * lane + j / 2
  if j % 2 = 0 then
    (if s.win WIN_PLAN.VALID_EVEN i = 0 then none else some (s.win WIN_PLAN.WIN_EVEN i, s.win WIN_PLAN.BANK_EVEN i))
  else if s.win WIN_PLAN.VALID_ODD i = 0 then none else some (s.win WIN_PLAN.WIN_ODD i, s.win WIN_PLAN.BANK_ODD i)

/-- The type, direction, scope, casement or range condition of R253 fails. -/
def State.winRequestBad (s : State) (w : Nat) (i : Instr) (r : Req) : Bool :=
  let dir := s.win WIN_ENT_CTL.DIR w
  let typeBad := match i with
    | .rdOnce _ => dir = 1
    | .wrLine _ _ | .wrPart _ _ _ => dir = 0 || decide (2 ≤ r.scope.toNat)
    | _ => true
  typeBad || r.rel || r.acq || r.cas.toNat != s.win WIN_ENT_CTL.CASEMENT w
    || !(s.inCarrel (s.win WIN_ENT_CTL.CARREL w) (granule r.line))

/-- The line state condition of R253 fails. -/
def State.winStateBad (s : State) (line : LineAddr) : Bool :=
  match s.lookup line with
  | some w =>
    let t := s.tag (lineSet line) w
    !((t.st (lineBit line)).live && t.pin) || t.p (lineBit line) || (s.catFind line).isSome || s.isSealed line
      || s.dataPending line
  | none => true

/-- A command for the line is outstanding in lane 1 of its bank pair, or its data are in the atomic unit, whose return uses that
lane. -/
def State.winHazard (s : State) (line : LineAddr) : Bool :=
  let hit (j : BankJob) : Bool := j.line = line && j.win.isNone
  s.front.f2b.any (fun e => e.2.any hit) || s.front.atBank.any (fun e => e.2.any hit) || (s.atomLine line).isSome

/-- The line's logical bank is served by the spare (R253). -/
def State.onSpare (s : State) (line : LineAddr) : Bool :=
  match s.lookup line with
  | some w => s.serving (lineSet line) w = s.spare
  | none => false

/-- The cause of R255 for which a request of window `w` is late; 0 when nothing makes it so. `slot` is the bank of its slot, when its
slot is the present one. -/
def State.lateCause (s : State) (w : Nat) (i : Instr) (r : Req) (slot : Option Nat) : Nat :=
  let bank := match s.lookup r.line with
    | some v => some (s.lbank (lineSet r.line) v)
    | none => none
  if s.winRequestBad w i r then 3
  else if (List.range 256).all (fun j => match s.slot (s.lane r.line) j with | some (v, _) => v != w | none => true) then 7
  else match s.front.marks.find? (fun m => m.1 = i) with
    | some m => m.2.2
    | none =>
      if bank.isSome && slot.isSome && bank != slot then 1
      else if s.onSpare r.line then 5
      else if s.winStateBad r.line then 2
      else if s.winHazard r.line then 4
      else 0

/-- A late request is recorded (R255). -/
def State.recordLate (s : State) (w cause : Nat) : State :=
  ((s.bumpI WIN_ENT_LATE.COUNT w).wr WIN_LATE_INFO.WIN w).wr WIN_LATE_INFO.CAUSE cause |>.setFlag WIN_LATE_INFO.VALID true

/-- A request served as an ordinary one; one of a window's AGENT and LABEL is late, and counted once it is accepted. A request that
nothing else makes late missed its slot, with cause SYNC. -/
def State.requestLate (s : State) (i : Instr) (r : Req) (slot : Option Nat := none) : State :=
  match s.winOf r with
  | none => s.request i r
  | some w =>
    let c := s.lateCause w i r slot
    let s := s.request i r
    if s.front.presented.any (fun p => p.cmd = i) then s
    else ({ s with front := { s.front with marks := s.front.marks.filter (fun m => m.1 != i) } }).recordLate w (if c = 0 then 6 else c)

/-- An on-time request is accepted in its slot (R254): uncharged; a read takes the window's lane, a write is whole-line data, and the
answer is held for its departure. -/
def State.acceptSlot (s : State) (w : Nat) (i : Instr) (r : Req) : State :=
  let s := ((s.slotServed (s.lane r.line)).take i r (charged := false)).bumpI WIN_ENT_SERVED.COUNT w
  let hold : Option (BitVec 4) := some (BitVec.ofNat 4 w)
  let write (s : State) (d : LineData) : State :=
    let s := (s.recordWrite r).event 0x23 (lane := some (s.lane r.line)) (label := some r.label.toNat)
    let s := match s.lookup r.line with
      | some v => s.touchPf (lineSet r.line) v r.label.toNat
      | none => s
    let (id, s) := s.trackWrite r { cmpMsg r stOk with hold := hold } false false false
    (s.storeDirty r.line d r.psn (some id) hold).ackCheck
  match i with
  | .wrLine _ d => write s d
  | .wrPart _ be d =>
    match s.lookup r.line with
    | some v => write s (mergeBytes be d (s.lineData (lineSet r.line) v (lineBit r.line)))
    | none => s
  | _ => (s.train r).homeRead r { datMsg r 4 false with hold := hold } false

/-- The command of a window request. -/
def winCmd (r : Req) : WinReq → Instr
  | .rdOnce => .rdOnce r
  | .wrLine d => .wrLine r d
  | .wrPart be d => .wrPart r be d

/-- A window request meets the frame: late, accepted in the acceptance cycle of its slot, or waiting for it. A request that has no window,
or that the checks of R15 turn away, is an ordinary one. -/
def State.windowSlot (s : State) (r : Req) (q : WinReq) : State :=
  let i := winCmd r q
  match s.winOf r with
  | none => s.request i r
  | some w =>
    let pos := s.rd WIN_FRAME.POS
    let here := match s.slot (s.lane r.line) (pos / 4) with
      | some (v, b) => if pos % 4 = 0 && v = w then some b else none
      | none => none
    let s := (s.readTags (lineSet r.line)).readCat (s.catSet r.line)
    if s.lateCause w i r here != 0 then s.requestLate i r here
    else if s.dozing || (s.verdict i r).isSome || s.preparing || s.needsMirror i r || s.front.failed then s.request i r
    else if here.isNone then s
    else s.acceptSlot w i r

/-- WINDOW_REQUEST_SLOT (R254). -/
def execWindowRequestSlot (r : Req) (w : WinReq) (s : State) : Host.Outcome State Fault Refusal :=
  settled (s.begin.windowSlot r w)

/-- The oldest held response of a window whose data are at hand departs on the window's casement. -/
def State.windowDepart (s : State) (w : Nat) : State :=
  match s.front.winResp.find? (fun x => x.1 = w) with
  | some x => ({ s with front := { s.front with winResp := s.front.winResp.erase x } }).sendAt x.2.1 x.2.2
  | none => s

/-- WINDOW_RESPONSE_DEPART (R254). -/
def execWindowResponseDepart (win : BitVec 4) (s : State) : Host.Outcome State Fault Refusal :=
  settled (s.begin.windowDepart win.toNat)

end Sys2Proof.Machine
end

