-- ==== Sys2Proof/Machine/Coherence.lean ====
section
/-! DEFINITION. The coherence commands (spec/04_coherence.md): requests, agents' answers, and the timers of the home. -/

namespace Sys2Proof.Machine

/-- RD_S (R117, R132). -/
def execRdS (r : Req) (s : State) : Host.Outcome State Fault Refusal := settled (s.begin.requestLate (.rdS r) r)
/-- RD_X (R117). -/
def execRdX (r : Req) (s : State) : Host.Outcome State Fault Refusal := settled (s.begin.requestLate (.rdX r) r)
/-- UPG (R117). -/
def execUpg (r : Req) (s : State) : Host.Outcome State Fault Refusal := settled (s.begin.requestLate (.upg r) r)
/-- RD_ONCE (R117, R132). -/
def execRdOnce (r : Req) (s : State) : Host.Outcome State Fault Refusal := settled (s.begin.requestLate (.rdOnce r) r)
/-- RD_LAST (R84, R117). -/
def execRdLast (r : Req) (s : State) : Host.Outcome State Fault Refusal := settled (s.begin.requestLate (.rdLast r) r)
/-- WR_LINE (R117, R139). -/
def execWrLine (r : Req) (d : LineData) (s : State) : Host.Outcome State Fault Refusal :=
  settled (s.begin.requestLate (.wrLine r d) r)
/-- WR_PART (R117, R139). -/
def execWrPart (r : Req) (be : BitVec 128) (d : LineData) (s : State) : Host.Outcome State Fault Refusal :=
  settled (s.begin.requestLate (.wrPart r be d) r)
/-- ATOM (R127 to R131). -/
def execAtom (r : Req) (a : AtomOp) (s : State) : Host.Outcome State Fault Refusal := settled (s.begin.requestLate (.atom r a) r)
/-- EVICT (R117, R120). -/
def execEvict (r : Req) (s : State) : Host.Outcome State Fault Refusal := settled (s.begin.requestLate (.evict r) r)

/-- ACK_INV (R117). -/
def execAckInv (agent : BitVec 5) (line : LineAddr) (s : State) : Host.Outcome State Fault Refusal :=
  settled (s.begin.ackInv agent line)
/-- FWD_DONE (R117). -/
def execFwdDone (agent : BitVec 5) (line : LineAddr) (dirty : Bool) (s : State) : Host.Outcome State Fault Refusal :=
  settled (s.begin.fwdDone agent line dirty)
/-- FWD_MISS (R122). -/
def execFwdMiss (agent : BitVec 5) (line : LineAddr) (wb : Bool) (s : State) : Host.Outcome State Fault Refusal :=
  settled (s.begin.fwdMiss agent line wb)
/-- WB (R117, R120). -/
def execWb (agent : BitVec 5) (tag : BitVec 11) (label : BitVec 3) (line : LineAddr) (d : LineData) (psn : Bool) (s : State) :
    Host.Outcome State Fault Refusal :=
  settled (s.begin.writeBackFrom agent tag label line d psn)
/-- WB_COPY (R117). -/
def execWbCopy (agent : BitVec 5) (line : LineAddr) (d : LineData) (psn : Bool) (s : State) :
    Host.Outcome State Fault Refusal := settled (s.begin.wbCopyFrom agent line d psn)
/-- BINV_DATA (R118). -/
def execBinvData (agent : BitVec 5) (line : LineAddr) (d : LineData) (psn : Bool) (s : State) :
    Host.Outcome State Fault Refusal := settled (s.begin.binvDataFrom agent line d psn)
/-- FWD_TIMEOUT (R126). -/
def execFwdTimeout (agent : BitVec 5) (line : LineAddr) (s : State) : Host.Outcome State Fault Refusal :=
  settled (s.begin.fwdTimedOut agent line)
/-- ADOPTED_WB_TIMEOUT (R346). -/
def execAdoptedWbTimeout (line : LineAddr) (s : State) : Host.Outcome State Fault Refusal :=
  settled (s.begin.adoptedWbLost line)

/-- A reservation ends by time, once the line's BUSY period is over (R125). -/
def State.expireReservation (s : State) (line : LineAddr) : State :=
  if (s.txn line).isSome then s
  else { s with coh := { s.coh with resv := s.coh.resv.filter (fun v => v.line != line) } }

/-- RESERVATION_EXPIRE (R125). -/
def execReservationExpire (line : LineAddr) (s : State) : Host.Outcome State Fault Refusal :=
  settled (s.begin.expireReservation line)
/-- ATOM_UNIT_RELEASE (R131). -/
def execAtomUnitRelease (line : LineAddr) (s : State) : Host.Outcome State Fault Refusal :=
  settled (s.begin.releaseAtom line)

/-- A write of CAT_CTL: PRED_CLR clears every predictor counter and reads 0 (R130). -/
def State.writeCatCtl (s : State) (m : MgWrite) : State :=
  let s := s.plain CAT_CTL.word.off m.word
  let s := if m.word.getLsbD 30 then { s with coh := { s.coh with pred := [] } } else s
  s.ok m.src

/-- PRED_CLR (R130). -/
def execPredClr (m : MgWrite) (s : State) : Host.Outcome State Fault Refusal :=
  settled (s.begin.mgWrite (.predClr m) CAT_CTL.word.off m (fun s => s.writeCatCtl m))

end Sys2Proof.Machine
end

