-- ==== Sys2Proof/Machine/MirrorOps.lean ====
section
/-! DEFINITION. Pairing (R335, R336, R350): leaving a pair, what FORMING and a re-pairing walk send, and when the pair is PAIRED; the
line counts of MIR_UNMIR (R338). -/

namespace Sys2Proof.Machine

/-! ### Lines without a copy -/

/-- This home's DIRTY lines. -/
def State.ownDirty (s : State) : List LineAddr := s.dirtyLines.filter s.homesSelf

/-- MIR_UNMIR: own DIRTY lines without a copy, and lines whose write-back after a MEVICT is not acknowledged (R338). -/
def State.unmirrored (s : State) : Nat :=
  ((s.ownDirty.filter (fun l => !(s.mirrors l) || s.mir.noCopy.contains l || s.mir.evicted.contains l))
    ++ s.mir.evicted.filter (fun l => s.lineSt l != .dirty)).length

/-! ### Leaving a pair -/

/-- Writes that wait for a MACK have no partner to wait for: they are acknowledged (R344). -/
def State.mirRelease (s : State) : State :=
  ({ s with ord := { s.ord with writes := s.ord.writes.map (fun (w : PendW) => { w with mir := false }) } }).ackCheck

/-- Mirroring stops, and the pair is SINGLE (R335). `cause` shows in MIR_STATUS when this is an exit from PAIRED. -/
def State.mirSingle (s : State) (cause : Nat) : State :=
  let s := if s.rd MIR_STATUS.STATE = 2 then s.wr MIR_STATUS.CAUSE cause else s
  let s := ((s.wr MIR_STATUS.STATE 3).setFlag MIR_STATUS.UNMIRRORED true).setFlag MIR_CTL.REPAIR false
  let s := s.setFlag MIR_CTL.SPLIT false
  let s := { s with mir := { s.mir with
    queue := [], unacked := [], used := [], waiting := [], scaleQ := [], scales := 0, sentAll := false, evicted := [], noCopy := [] } }
  s.mirRelease

/-- Both sequences begin again at 0, with every credit in hand (R340, R341). -/
def State.mirFresh (s : State) : State :=
  { s with mir := { s.mir with
    txSeq := [], rxSeq := [], used := [], queue := [], unacked := [], waiting := [], scaleQ := [], scales := 0, sentAll := false
    evicted := [], noCopy := [] } }

/-! ### Forming a pair (R335, R336) -/

/-- MSCALE for every entry, which the receiver reconciles. -/
def State.sendScales (s : State) : State := (List.range 256).foldl (fun s n => s.scaleSend n) s

/-- Past step 9, a member of a forming pair sends its scale table. -/
def State.mirForm (s : State) : State :=
  if s.rd MIR_STATUS.STATE = 1 && s.rd SLC_START.STATE = 5 && !s.mir.sentAll then
    ({ s with mir := { s.mir with sentAll := true } }).sendScales
  else s

/-- Everything this side sends has been acknowledged, and every entry of the partner's table has been taken. -/
def State.mirDone (s : State) : Bool :=
  s.mir.sentAll && s.mir.queue.isEmpty && s.mir.unacked.isEmpty && s.mir.scales = BitVec.allOnes 256

/-- The pair is PAIRED. -/
def State.mirPaired (s : State) : State :=
  ((s.wr MIR_STATUS.STATE 2).setFlag MIR_STATUS.UNMIRRORED false).setFlag MIR_CTL.REPAIR false

/-- What follows when messages have been acknowledged or taken: FORMING ends in PAIRED, and a planned unpairing ends (R335). -/
def State.mirProgress (s : State) : State :=
  if s.rd MIR_STATUS.STATE = 1 && s.mirDone then
    let s := s.mirPaired
    { s with mir := { s.mir with noCopy := s.ownDirty } }
  else if s.rd MIR_STATUS.STATE = 2 && s.flag MIR_CTL.SPLIT && s.mir.queue.isEmpty && s.mir.unacked.isEmpty then s.mirSingle 5
  else s

/-! ### The re-pairing walk (R350) -/

/-- The lines of a tag word in a state that the walk sends. -/
def State.walkLine (s : State) (set way : Nat) (bit : Bool) : State :=
  let t := s.tag set way
  let line := lineOf t.sector bit
  let d := match s.atomLine line with
    | some ⟨_, some d, _⟩ => d
    | _ => s.lineData set way bit
  if t.st bit = .inv || !(s.homesSelf line) || s.dataPending line then s
  else if t.st bit = .dead then
    (if (s.carrelOf line).isSome then s.mirSend ⟨0, s.mirHdr line 3 true (t.p bit), some d, none, none, 0, none⟩ else s)
  else s.mirWrite line d (t.st bit = .dirty) (t.p bit)

/-- MROW of one slot of a mirrored binding; a half under a drain is sent empty, as its drain leaves it. -/
def State.walkRow (s : State) (n slot : Nat) : State :=
  match s.slotPlace n slot with
  | none => s
  | some (g, e) =>
    let per := rowsPerLine (s.rdI LDG_BIND_CTL.DFMT n)
    let f := s.rowRef n g e
    let t := s.rowSt f
    let gone (p : Nat) : Bool := t.draining && p = (if f.shadow then s.halfRow f false else f.base)
    let img (p : Nat) : RowImage := if gone p then rowEmpty f.fast else s.rowImg p
    let line := lineOf g (decide (per ≤ e))
    let h : MirHdr := { s.mirHdr line with arg := BitVec.ofNat 32 (n + 2 ^ 8 * (e % per)) }
    let odd := if f.shadow then img (f.base + 1) else rowEmpty f.fast
    s.mirSend ⟨6, h, none, none, some ⟨img f.base, odd, t.cur, t.live, t.psn, t.seed⟩, 0, none⟩

/-- Slots of a binding. -/
def State.bindSlots (s : State) (n : Nat) : Nat :=
  s.rdI LDG_BIND_SIZE.GROUPS n * s.rdI LDG_BIND_CTL.K n * rpg (s.rdI LDG_BIND_CTL.DFMT n)

/-- The walk: carrel lines and with DIRTY_MIR the other DIRTY lines, mirrored rows, and the scale table. -/
def State.mirWalk (s : State) : State :=
  let s := { s with mir := { s.mir with sentAll := true } }
  let s := s.stk.tags.foldl (fun s e => (s.walkLine (e.1 / 32) (e.1 % 32) false).walkLine (e.1 / 32) (e.1 % 32) true) s
  let s := (List.range 32).foldl (fun s n =>
    if s.bindOk n && s.flagI MIR_LDG.MIRROR n then (List.range (s.bindSlots n)).foldl (fun s k => s.walkRow n k) s else s) s
  s.sendScales

/-- Invalidate every copy that this slice holds. -/
def State.dropCopies (s : State) : State :=
  s.stk.tags.foldl (fun s e =>
    if e.2.isInv || !(s.isCopy (lineOf e.2.sector false)) then s else s.setTag (e.1 / 32) (e.1 % 32) TagW.empty) s

end Sys2Proof.Machine
end

