-- ==== Sys2Proof/Machine/Stacks.lean ====
section
/-! DEFINITION. The Stacks commands (spec/02_stacks.md) and the far port's (R30, R401, R402): beats reported by a bank, corrective
writes, refresh, scrub, calibration, and the retirement of banks. -/

namespace Sys2Proof.Machine

/-! ### Banks -/

/-- The physical bank is retired. -/
def State.isRetired (s : State) (phys : Nat) : Bool := s.bit STK_BANK_STATE.RETIRED phys

/-- The physical bank serves a logical bank: it is not retired, and the spare only while it replaces one. -/
def State.inService (s : State) (phys : Nat) : Bool :=
  !(s.isRetired phys) && (decide (phys < s.nb) || (phys = s.spare && s.flag STK_BANK_STATE.SPARE_USED))

/-- The physical banks in service, ascending. -/
def State.serviceBanks (s : State) : List Nat := (List.range (s.nb + 1)).filter s.inService

/-- The logical bank that a physical bank serves. -/
def State.logicalOf (s : State) (phys : Nat) : Option Nat :=
  (List.range s.nb).find? (fun k => s.phys k = phys && !(s.stk.lostLb.contains k))

/-- The set, way and line bit that a beat of a physical bank holds (R45). -/
def State.placeOf (s : State) (phys row beat : Nat) : Option (Nat × Nat × Bool) :=
  match s.logicalOf phys with
  | some k =>
    let slot := beat / 4
    let set := 2 * row + slot / 2
    let pair := (k % s.rot + s.rot * (set / s.rot + 1) - set) % s.rot
    some (set, 2 * pair + slot % 2, beat / 2 % 2 = 1)
  | none => none

/-- A key of a lane's entry count: bank → front lanes, night-latch → bank and bank → night-latch lanes by pair, and the single
lanes. -/
def bankFrontKey (pair : Nat) (lane : Bool) : Nat := 100 + laneKey pair lane
/-- Night-latch → bank pair. -/
def nightBankKey (pair : Nat) : Nat := 200 + pair
/-- Bank pair → night-latch. -/
def bankNightKey (pair : Nat) : Nat := 300 + pair
/-- Front → night-latch and night-latch → front. -/
def nightKey (toNight : Bool) : Nat := 400 + toNight.toNat

/-- Entries in a counted lane. -/
def State.lane' (s : State) (k : Nat) : Nat := tget 0 s.front.lanes k
/-- Set the entries of a counted lane. -/
def State.setLane (s : State) (k n : Nat) : State :=
  { s with front := { s.front with lanes := tput 0 s.front.lanes k n } }

/-- The jobs that a bank has taken from a lane. -/
def State.bankJobs (s : State) (k : Nat) : List BankJob := tget [] s.front.atBank k
/-- Set them. -/
def State.setBankJobs (s : State) (k : Nat) (l : List BankJob) : State :=
  { s with front := { s.front with atBank := tput [] s.front.atBank k l } }

/-- P of a physical bank (R55). -/
def State.pendRef (s : State) (phys : Nat) : Nat := tget 0 s.stk.pend phys

/-! ### Corrective writes (R49) -/

/-- Queue a corrective write; a full queue of 8 discards its oldest. -/
def State.queueCorr (s : State) (phys row beat : Nat) (d : Beat) : State :=
  let q := (tget [] s.stk.corr phys) ++ [(row * 16 + beat, d)]
  { s with stk := { s.stk with corr := tput [] s.stk.corr phys (q.drop (q.length - 8)) } }

/-- A foreground write to the beat was accepted after the read of the job. -/
def State.laterWrite (s : State) (phys row beat : Nat) : Bool :=
  let hit (j : BankJob) : Bool := j.write && j.phys = phys && j.row = row && (j.beat = beat || j.beat + 1 = beat)
  s.front.f2b.any (fun e => e.2.any hit) || s.front.atBank.any (fun e => e.2.any hit)

/-! ### Orderly retirement (R65 to R67) -/

/-- The bank is lost, being copied, or waits to be removed. -/
def State.retiring (s : State) (k : Nat) : Bool :=
  s.stk.lostLb.contains k || (s.flag STK_BANK_STATE.COPY_BUSY && s.rd STK_BANK_STATE.COPY_SRC = k)
    || s.stk.walkQ.any (fun x => x.1 = k) || (match s.stk.walk with | some w => w.lb = k | none => false)

/-- The next removal starts its walk when none runs. -/
def State.nextWalk (s : State) : State :=
  match s.stk.walk, s.stk.walkQ with
  | none, (k, abrupt) :: rest => { s with stk := { s.stk with walk := some ⟨k, 0, abrupt, false⟩, walkQ := rest } }
  | _, _ => s

/-- Retire logical bank `k` in the orderly way: by a copy into the spare while it is unused, otherwise by removing its way
pair. -/
def State.retireOrderly (s : State) (k : Nat) : State :=
  if s.retiring k then s
  else if !(s.flag STK_BANK_STATE.SPARE_USED) && !(s.flag STK_BANK_STATE.COPY_BUSY) && !(s.isRetired s.spare) then
    let s := { s with stk := { s.stk with copyPos := 0 } }
    (s.setFlag STK_BANK_STATE.COPY_BUSY true).wr STK_BANK_STATE.COPY_SRC k
  else ({ s with stk := { s.stk with walkQ := s.stk.walkQ ++ [(k, false)] } }).nextWalk

/-- A bank is retired: its RETIRED bit, the Daybook's record of it for the next start, and DEGRADED.BANKS (R64, R288). -/
def State.recordRetired (s : State) (phys : Nat) : State :=
  ((s.setBit STK_BANK_STATE.RETIRED phys true).setBit DBK_RETIRED.BANKS phys true).setFlag DBK_DEGRADED.BANKS true

/-- A bank has failed for good: its record and the BANK_RETIRED entry (R361). -/
def State.bankGone (s : State) (phys : Nat) : State :=
  (s.recordRetired phys).fault 1 3 2 (detail := stacksDetail phys 0 0) (srcKind := 4) (srcId := phys)

/-! ### What a bank reports (R48) -/

/-- An uncorrectable beat: STK_ECC_UE counts it; the read that marks the line poisoned also writes the entry and counts toward
LIMIT, which retires the bank (R48, R65). `marks` says that this read marks the line. -/
def State.beatUe (s : State) (phys row beat : Nat) (line : Option LineAddr) (marks : Bool) : State :=
  let s := s.bump STK_ECC_UE.COUNT
  if !marks then s
  else
    let s := s.fault 1 1 1 (detail := stacksDetail phys beat row) (loc := line) (srcKind := 4) (srcId := phys)
    let n := tget 0 s.stk.ueCnt phys + 1
    let s := { s with stk := { s.stk with ueCnt := tput 0 s.stk.ueCnt phys n } }
    let lim := s.rd STK_ECC_LIMIT.LIMIT
    if lim != 0 && n = lim && !s.stk.halves then
      match s.logicalOf phys with
      | some k => s.retireOrderly k
      | none => s
    else s

/-- A corrected beat: counted, with its corrective write (R48, R49). -/
def State.beatCe (s : State) (phys row beat : Nat) (d : Beat) (discard : Bool) : State :=
  let s := (s.bump STK_ECC_CE.COUNT).event 0x43
  if discard then s else s.queueCorr phys row beat d

/-- The data that an outcome returns for a stored beat. -/
def outData (stored : Beat) : BeatOutcome → Beat
  | .clean w => w.getD stored
  | .corrected w => w.getD stored
  | .uncorrectable d => d

/-- The outcome is uncorrectable. -/
def outUe : BeatOutcome → Bool
  | .uncorrectable _ => true
  | _ => false

/-- The way still holds the line, in a state with data and not poisoned: this read marks it. -/
def State.marksLine (s : State) (set way : Nat) (line : LineAddr) : Bool :=
  let t := s.tag set way
  !t.isInv && t.sector = granule line && (t.st (lineBit line)).live && !(t.p (lineBit line))

/-- Mark the line of a way poisoned (R48). -/
def State.markPoison (s : State) (set way : Nat) (line : LineAddr) : State :=
  let t := s.tag set way
  if !t.isInv && t.sector = granule line then s.setTag set way (t.put (lineBit line) (t.st (lineBit line)) true) else s

/-- Charge a logical bank in mirrored halves (R285, R286). -/
def State.chargeHalf (s : State) (k : Nat) : State :=
  let s := { s with stk := { s.stk with halfBad := tput 0 s.stk.halfBad k (tget 0 s.stk.halfBad k + 1) } }
  s.setBit SLC_HALVES.CHARGED k true

/-- One read beat in mirrored halves: both copies report (R285). The data, whether they are poisoned, and the state after. -/
def State.halvesBeat (s : State) (j : BankJob) (row beat : Nat) (stored : Beat) (lo up : BeatOutcome) : Beat × Bool × State :=
  let k := s.lbank j.set j.way
  let k' := k + s.rot
  let loLost := s.stk.lostLb.contains k
  let upLost := s.stk.lostLb.contains k'
  let later := s.laterWrite j.phys row beat
  let ce (s : State) (k : Nat) (o : BeatOutcome) : State := match o with
    | .corrected w => s.beatCe (s.phys k) row beat (w.getD stored) later
    | _ => s
  let marks (s : State) : Bool := s.marksLine j.set j.way j.line && !later
  let single (s : State) (k : Nat) (o : BeatOutcome) : Beat × Bool × State :=
    if outUe o then
      let m := marks s
      let s := (s.chargeHalf k).beatUe (s.phys k) row beat (some j.line) m
      ((outData stored o), true, if later then s else s.markPoison j.set j.way j.line)
    else ((outData stored o), false, ce s k o)
  if loLost then single s k' up
  else if upLost then single s k lo
  else match outUe lo, outUe up with
    | false, false =>
      let s := ce (ce s k lo) k' up
      if (outData stored lo) = (outData stored up) then ((outData stored lo), false, s)
      else
        let s := s.bump SLC_HALVES.MISMATCH
        let s := if later then s else s.markPoison j.set j.way j.line
        ((outData stored lo), true,
          s.fault 1 6 1 (detail := stacksDetail j.phys beat row) (loc := some j.line) (srcKind := 4) (srcId := j.phys))
    | false, true => ((outData stored lo), false, ((ce s k lo).bump STK_ECC_UE.COUNT).chargeHalf k')
    | true, false => ((outData stored up), false, ((ce s k' up).bump STK_ECC_UE.COUNT).chargeHalf k)
    | true, true =>
      let m := marks s
      let s := (((s.chargeHalf k).chargeHalf k').bump STK_ECC_UE.COUNT).beatUe (s.phys k) row beat (some j.line) m
      ((outData stored lo), true, if later then s else s.markPoison j.set j.way j.line)

/-- One read beat: the data returned, whether they are poisoned, and the state after (R48). -/
def State.readBeat (s : State) (j : BankJob) (second : Bool) (lo up : BeatOutcome) : Beat × Bool × State :=
  let beat := j.beat + second.toNat
  let stored : Beat := if second then j.data.extractLsb' 512 512 else j.data.extractLsb' 0 512
  if s.stk.halves then s.halvesBeat j j.row beat stored lo up
  else
    let later := s.laterWrite j.phys j.row beat
    match lo with
    | .clean _ => ((outData stored lo), false, s)
    | .corrected _ => ((outData stored lo), false, s.beatCe j.phys j.row beat ((outData stored lo)) later)
    | .uncorrectable _ =>
      let held := s.marksLine j.set j.way j.line && !later
      let first := !j.psn && (match j.got with | some (_, b) => !b | none => true)
      let gone := (s.lookup j.line).isNone && first
      let s := s.beatUe j.phys j.row beat (some j.line) (held || gone)
      ((outData stored lo), true, if later then s else s.markPoison j.set j.way j.line)

/-- A read has both its beats: what waited for the line is done (R30, R48). -/
def State.readDone (s : State) (j : BankJob) (d : LineData) (bad : Bool) : State :=
  let (s, _) := s.applyActs j.line ⟨d, bad, false⟩ [j.act]
  s.ackCheck

/-- A bank completes one beat of the command at the head of what it took from a lane. A forced refresh goes first (R55), and a bank
whose completion lane is full holds the entry (R22). -/
def State.beatComplete (s : State) (pair : Nat) (lane : Bool) (lo up : BeatOutcome) (delayed : Bool) : State :=
  let k := laneKey pair lane
  match s.bankJobs k with
  | [] => s
  | j :: rest =>
    if decide (16 ≤ s.lane' (bankFrontKey pair lane)) || decide (9 ≤ s.pendRef j.phys) then s
    else
      let s := s.setLane (bankFrontKey pair lane) (s.lane' (bankFrontKey pair lane) + 1)
      let s := if delayed then s.event 0x42 else s
      if j.write then
        let s := s.event 0x41
        match j.got with
        | none => s.setBankJobs k ({ j with got := some (0, false) } :: rest)
        | some _ => s.setBankJobs k rest
      else
        let s := s.event 0x40
        match j.got with
        | none =>
          let (d, bad, s) := s.readBeat j false lo up
          s.setBankJobs k ({ j with got := some (d, bad) } :: rest)
        | some (d0, bad0) =>
          let (d1, bad1, s) := s.readBeat j true lo up
          (s.setBankJobs k rest).readDone j (d1 ++ d0) (j.psn || bad0 || bad1)

/-- BANK_BEAT_COMPLETE (R48, R285). -/
def execBankBeatComplete (pair : BitVec 4) (lane : Bool) (lower upper : BeatOutcome) (delayed : Bool) (s : State) :
    Host.Outcome State Fault Refusal := settled (s.begin.beatComplete pair.toNat lane lower upper delayed)

/-- The oldest corrective write of a bank is performed (R49). -/
def State.corrective (s : State) (bank : Nat) : State :=
  match tget [] s.stk.corr bank with
  | (k, d) :: rest =>
    if !(s.inService bank) || decide (9 ≤ s.pendRef bank) then s
    else ({ s with stk := { s.stk with corr := tput [] s.stk.corr bank rest } }).setBeat bank (k / 16) (k % 16) d
  | [] => s

/-- CORRECTIVE_WRITE (R49). -/
def execCorrectiveWrite (bank : BitVec 5) (s : State) : Host.Outcome State Fault Refusal :=
  settled (s.begin.corrective bank.toNat)

/-! ### Refresh (R52 to R56) -/

/-- A refresh request enters the bank's night-latch lane and raises P (R55). A full lane holds it at the sender. -/
def State.refreshRequest (s : State) (bank : Nat) : State :=
  let k := nightBankKey (s.pairOf bank)
  if !(s.inService bank) || decide (4 ≤ s.lane' k) then s
  else
    let p := min 9 (s.pendRef bank + 1)
    let s := (s.setLane k (s.lane' k + 1)).wr STK_REF_STATUS.MAX_PEND (max p (s.rd STK_REF_STATUS.MAX_PEND))
    { s with stk := { s.stk with pend := tput 0 s.stk.pend bank p } }

/-- REFRESH_REQUEST (R55). -/
def execRefreshRequest (bank : BitVec 5) (s : State) : Host.Outcome State Fault Refusal :=
  settled (s.begin.refreshRequest bank.toNat)

/-- A foreground command for the bank waits in its pair's lanes. -/
def State.foreground (s : State) (bank : Nat) : Bool :=
  let pair := s.pairOf bank
  [false, true].any (fun l => match s.bankJobs (laneKey pair l) with
    | j :: _ => j.phys = bank
    | [] => false)

/-- The bank completes a refresh command: forced at P = 9, otherwise only without a foreground command ready. -/
def State.refreshCommand (s : State) (bank : Nat) : State :=
  let p := s.pendRef bank
  let k := bankNightKey (s.pairOf bank)
  if p = 0 || decide (4 ≤ s.lane' k) || (decide (p < 9) && s.foreground bank) then s
  else
    let s := if 9 ≤ p then s.setBit STK_REF_STATUS.FORCED bank true else s
    { (s.setLane k (s.lane' k + 1)) with stk := { s.stk with pend := tput 0 s.stk.pend bank (p - 1) } }

/-- REFRESH_COMMAND (R56). -/
def execRefreshCommand (bank : BitVec 5) (s : State) : Host.Outcome State Fault Refusal :=
  settled (s.begin.refreshCommand bank.toNat)

/-- COOL is permitted (R54). -/
def State.coolAllowed (s : State) : Bool :=
  s.flag STK_REF_TIER.CAL_OK && s.cfg.coolOk && s.rd STK_REF_TIER.FLOOR = 0

/-- The tier returns to HOT where COOL is no longer permitted. -/
def State.tierCheck (s : State) : State := if s.coolAllowed then s else s.wr STK_REF_TIER.TIER 1

/-- Both junction sensors are read (R53): the tier, and a reading above 105 °C. 100 readings of 10 µs make 1 ms. -/
def State.sensorRead (s : State) (t : Nat) : State :=
  let s := s.wr STK_REF_TIER.TEMP t
  let run := if t ≤ 80 then min 100 (s.stk.coolRun + 1) else 0
  let s := { s with stk := { s.stk with coolRun := run } }
  let s := if 83 ≤ t then s.wr STK_REF_TIER.TIER 1
    else if run = 100 && s.coolAllowed then s.wr STK_REF_TIER.TIER 0
    else s.tierCheck
  if 105 < t then (s.setFlag STK_REF_TIER.OVER_TEMP true).fault 1 4 1 (detail := t) (irq := true) else s

/-- SENSOR_READ (R53). -/
def execSensorRead (t0 t1 : BitVec 8) (s : State) : Host.Outcome State Fault Refusal :=
  settled (s.begin.sensorRead (max t0.toNat t1.toNat))

/-! ### Scrub (R59, R60) -/

/-- Scrub reads one beat (R48, R49, R59). -/
def State.scrubBeat (s : State) (bank row : Nat) (x : BitVec 4 × BeatOutcome) : State :=
  let beat := x.1.toNat
  let stored := s.beat bank row beat
  match x.2 with
  | .clean _ => s
  | .corrected w => s.beatCe bank row beat (w.getD stored) false
  | .uncorrectable _ =>
    match s.placeOf bank row beat with
    | some (set, way, b) =>
      let line := lineOf (s.tag set way).sector b
      let marks := s.marksLine set way line
      let s := s.beatUe bank row beat (if marks then some line else none) marks
      if marks then s.markPoison set way line else s
    | none => s.bump STK_ECC_UE.COUNT

/-- ROW shows the next row of the lowest-numbered bank in service. -/
def State.showScrub (s : State) : State :=
  match s.serviceBanks with
  | b :: _ => s.wr STK_SCRUB_STATUS.ROW (tget 0 s.stk.scrubRow b)
  | [] => s

/-- Scrub of the next row of a bank; a pass ends after row 8191, and the per-pass count restarts. -/
def State.scrubRow' (s : State) (bank : Nat) (beats : List (BitVec 4 × BeatOutcome)) : State :=
  if !(s.flag STK_SCRUB_CTL.EN) || !(s.inService bank) then s
  else
    let row := tget 0 s.stk.scrubRow bank
    let s := beats.foldl (fun s x => s.scrubBeat bank row x) s
    let s := { s with stk := { s.stk with scrubRow := tput 0 s.stk.scrubRow bank ((row + 1) % 8192) } }
    let s := if row = 8191 then { s with stk := { s.stk with ueCnt := tput 0 s.stk.ueCnt bank 0 } } else s
    s.showScrub

/-- SCRUB_ROW (R59). -/
def execScrubRow (bank : BitVec 5) (beats : List (BitVec 4 × BeatOutcome)) (s : State) : Host.Outcome State Fault Refusal :=
  settled (s.begin.scrubRow' bank.toNat beats)

/-- A pass takes longer than twice its nominal time (R60). -/
def State.scrubLate (s : State) (bank : Nat) : State :=
  if s.flag STK_SCRUB_CTL.EN && s.inService bank then
    (s.setFlag STK_SCRUB_STATUS.LATE true).fault 1 5 1
      (detail := stacksDetail bank 0 (tget 0 s.stk.scrubRow bank)) (srcKind := 4) (srcId := bank)
  else s

/-- SCRUB_LATE (R60). -/
def execScrubLate (bank : BitVec 5) (s : State) : Host.Outcome State Fault Refusal := settled (s.begin.scrubLate bank.toNat)

/-! ### Calibration (R61 to R63) -/

/-- A write of STK_CAL_GRANT: OPEN = 1 with LEN_US = 0 leaves OPEN at 0 (R62). -/
def State.writeCalGrant (s : State) (m : MgWrite) : State :=
  let s := s.plain STK_CAL_GRANT.word.off m.word
  let s := if s.rd STK_CAL_GRANT.LEN_US = 0 then s.setFlag STK_CAL_GRANT.OPEN false else s
  s.ok m.src

/-- CAL_GRANT_OPEN (R62). -/
def execCalGrantOpen (m : MgWrite) (s : State) : Host.Outcome State Fault Refusal :=
  settled (s.begin.mgWrite (.calGrantOpen m) STK_CAL_GRANT.word.off m (fun s => s.writeCalGrant m))

/-- CAL_GRANT_EXPIRE (R62). -/
def execCalGrantExpire (s : State) : Host.Outcome State Fault Refusal :=
  settled (s.begin.setFlag STK_CAL_GRANT.OPEN false)

/-- A trial has been read back (R61): trial k lasts 1.024 · 2^k ms; the result is the longest that passed. Without an open grant
the trial was abandoned (R62). -/
def State.calTrial (s : State) (bank group k : Nat) (pass : Bool) : State :=
  if !(s.flag STK_CAL_GRANT.OPEN) || !(s.inService bank) || decide (4 < k) then s
  else
    let i := 8 * bank + group
    let old := s.rdI STK_CAL_RESULT.CODE i
    let new := if pass then k + 2 else if k = 0 then 1 else min old (k + 1)
    (s.wrI STK_CAL_RESULT.CODE i new).wrI STK_CAL_RESULT.TEMP i (s.rd STK_REF_TIER.TEMP)

/-- CALIBRATION_TRIAL (R61). -/
def execCalibrationTrial (bank : BitVec 5) (group trial : BitVec 3) (pass : Bool) (s : State) :
    Host.Outcome State Fault Refusal := settled (s.begin.calTrial bank.toNat group.toNat trial.toNat pass)

/-- A complete calibration: CAL_OK, which R295 may hold at 0 for this start, and weak banks are retired (R63). -/
def State.calComplete (s : State) : State :=
  let code (b g : Nat) : Nat := s.rdI STK_CAL_RESULT.CODE (8 * b + g)
  let good := s.serviceBanks.all (fun b => (List.range 8).all (fun g => decide (4 ≤ code b g)))
  let weak := s.serviceBanks.filter (fun b => (List.range 8).any (fun g => code b g = 1))
  let s := (s.setFlag STK_REF_TIER.CAL_OK (good && !s.start.calHeld)).tierCheck
  weak.foldl (fun s b => match s.logicalOf b with
    | some k => s.retireOrderly k
    | none => s) s

/-- CALIBRATION_COMPLETE (R63). -/
def execCalibrationComplete (s : State) : Host.Outcome State Fault Refusal := settled s.begin.calComplete

/-! ### Retirement (R65 to R69) -/

/-- The fewest cache ways that any set keeps when another logical bank is lost: the roles of the ways and the pairs already lost
are the same in every set, up to rotation. -/
def State.cacheWaysLeft (s : State) : Nat :=
  let pinned := (List.range s.ways).filter (fun w => (s.pinMask).testBit w)
  s.ways - 2 * (s.stk.lostLb.length + s.stk.walkQ.length + (if s.stk.walk.isSome then 1 else 0)) - pinned.length

/-- A write of STK_RETIRE (R65, R69). -/
def State.writeRetire (s : State) (m : MgWrite) : State :=
  let k := fieldGet STK_RETIRE.BANK m.word
  if !(m.word.getLsbD 31) then (s.plain STK_RETIRE.word.off m.word).ok m.src
  else if s.nb ≤ k then s.refuse m.src rsnField
  else if s.retiring k || s.flag STK_BANK_STATE.COPY_BUSY then s.refuse m.src rsnBankBusy
  else if s.flag STK_BANK_STATE.SPARE_USED && decide (s.cacheWaysLeft < 4) then s.refuse m.src rsnRetireLimit
  else (((s.plain STK_RETIRE.word.off m.word).setFlag STK_RETIRE.GO true).retireOrderly k).ok m.src

/-- STK_RETIRE (R65, R69). -/
def execStkRetire (m : MgWrite) (s : State) : Host.Outcome State Fault Refusal :=
  settled (s.begin.mgWrite (.stkRetire m) STK_RETIRE.word.off m (fun s => s.writeRetire m))

/-- The copy takes the next beat of the source into the spare (R66). -/
def State.copyBeat (s : State) (o : BeatOutcome) : State :=
  let k := s.rd STK_BANK_STATE.COPY_SRC
  let src := s.phys k
  let pos := s.stk.copyPos
  if !(s.flag STK_BANK_STATE.COPY_BUSY) || decide (131072 ≤ pos) then s
  else
    let row := pos / 16
    let beat := pos % 16
    let stored := s.beat src row beat
    let s := match o with
      | .clean _ => s
      | .corrected w => s.beatCe src row beat (w.getD stored) false
      | .uncorrectable _ => s.scrubBeat src row (BitVec.ofNat 4 beat, o)
    let s := s.setBeat s.spare row beat ((outData stored o))
    { s with stk := { s.stk with copyPos := pos + 1 } }

/-- RETIREMENT_COPY (R66). -/
def execRetirementCopy (o : BeatOutcome) (s : State) : Host.Outcome State Fault Refusal := settled (s.begin.copyBeat o)

/-- The driver's command, if it named the bank, has completed. -/
def State.retireDone (s : State) (k : Nat) : State :=
  if s.rd STK_RETIRE.BANK = k then s.setFlag STK_RETIRE.GO false else s

/-- The copy has ended: the remap table sends the bank to the spare, and the source is retired (R66). -/
def State.copyDone (s : State) : State :=
  let k := s.rd STK_BANK_STATE.COPY_SRC
  if !(s.flag STK_BANK_STATE.COPY_BUSY) || decide (s.stk.copyPos < 131072) then s
  else
    let src := s.phys k
    let s := { s with stk := { s.stk with remap := tset s.stk.remap k s.spare, copyPos := 0 } }
    let s := ((s.setFlag STK_BANK_STATE.COPY_BUSY false).setFlag STK_BANK_STATE.SPARE_USED true).wr STK_BANK_STATE.SPARE_FOR k
    (s.bankGone src).retireDone k

/-- RETIREMENT_COPY_DONE (R66). -/
def execRetirementCopyDone (s : State) : Host.Outcome State Fault Refusal := settled s.begin.copyDone

/-- Take the two highest-numbered cache ways of a set, not of the lost pair. -/
def State.spareWays (s : State) (set k : Nat) : List Nat :=
  (((s.setWays set).filter (fun w => s.cacheWay set w && s.lbank set w != k)).reverse).take 2

/-- A way is removed from a set (R67): a pinned way's lines move into the replacement, whose own lines are evicted, with its role;
otherwise the way is evicted. In an abrupt retirement no data is left to move (R68). -/
def State.removeWay (s : State) (set way : Nat) (repl : Option Nat) (abrupt : Bool) : State :=
  let t := s.tag set way
  let pinned := !(s.cacheWay set way)
  match pinned, repl with
  | true, some v =>
    let role := s.roleWay set way
    let s := s.evictWay set v .retire
    let mv (s : State) (b : Bool) : State :=
      if (t.st b).live && !abrupt then
        let s := s.releaseAtom (lineOf t.sector b)
        let d := s.lineData set way b
        (s.readJob set way (lineOf t.sector b) .fill).writeJob set v (lineOf t.sector b) d
      else s
    let s := mv (mv s false) true
    let s := if abrupt then s else s.setTag set v t
    let s := s.setTag set way TagW.empty
    { s with stk := { s.stk with repl := tput v s.stk.repl (set * 32 + v) role } }
  | _, _ => if abrupt then s.setTag set way TagW.empty else s.evictWay set way .retire

/-- The walk removes the way pair of its bank from the next set. -/
def State.walkSet (s : State) (set : Nat) : State :=
  match s.stk.walk with
  | none => s
  | some w =>
    if set != w.next then s
    else
      let q := (w.lb + s.nb * (set / s.nb + 1) - set) % s.nb
      let spares := s.spareWays set w.lb
      let pinned := !(s.cacheWay set (2 * q))
      let s := s.removeWay set (2 * q) (if pinned then spares[0]? else none) w.abrupt
      let s := s.removeWay set (2 * q + 1) (if pinned then spares[1]? else none) w.abrupt
      let s := { s with stk := { s.stk with walk := some { w with next := set + 1 } } }
      let left := ((s.setWays set).filter (s.cacheWay set)).length
      let few := w.few || decide (left < 2)
      let s := { s with stk := { s.stk with walk := some { w with next := set + 1, few := few } } }
      if set + 1 < 16384 then s
      else
        let src := s.phys w.lb
        let s := { s with stk := { s.stk with walk := none, lostLb := if s.stk.lostLb.contains w.lb then s.stk.lostLb else s.stk.lostLb ++ [w.lb] } }
        let s := if w.abrupt then s else s.bankGone src
        let s := s.retireDone w.lb
        (if few then s.fail 1 3 else s).nextWalk

/-- RETIRE_WAY_PAIR_WALK (R67, R68). -/
def execRetireWayPairWalk (set : BitVec 14) (s : State) : Host.Outcome State Fault Refusal :=
  settled (s.begin.walkSet set.toNat)

/-- A dirty or clean line of a lost way (R68): dirty, its marker goes to memory and it is reported; in every case it is INV. -/
def State.loseWay (s : State) (set way : Nat) : State :=
  let t := s.tag set way
  let lose (s : State) (b : Bool) : State :=
    let line := lineOf t.sector b
    let s := (s.dropPending line).forgetAtom line
    if t.st b = .dirty && !(s.isCopy line) then (s.farMarker line .retire).mirLine 3 line true else s
  (lose (lose s false) true).setTag set way TagW.empty

/-- The DIRTY lines of this home held by a logical bank. -/
def State.dirtyOf (s : State) (k : Nat) : List LineAddr :=
  s.stk.tags.foldr (fun e a =>
    if s.lbank (e.1 / 32) (e.1 % 32) = k then
      let a := if e.2.s1 = .dirty then lineOf e.2.sector true :: a else a
      if e.2.s0 = .dirty then lineOf e.2.sector false :: a else a
    else a) []

/-- The contents of a logical bank are lost. -/
def State.loseBank (s : State) (k : Nat) : State :=
  let lines := (s.dirtyOf k).filter (fun l => !(s.isCopy l))
  let s := s.lossLines 1 lines
  s.stk.tags.foldl (fun s e => if s.lbank (e.1 / 32) (e.1 % 32) = k then s.loseWay (e.1 / 32) (e.1 % 32) else s) s

/-- A request in flight to a stalled pair completes with POISON (R24). -/
def State.poisonJob (s : State) (j : BankJob) : State :=
  if j.write then s
  else
    let (c, s) := s.fresh
    (s.applyActs j.line ⟨Config.freeLine c, true, false⟩ [j.act]).1

/-- The jobs in flight to a pair complete with POISON. -/
def State.poisonPair (s : State) (pair : Nat) : State :=
  let ks := [laneKey pair false, laneKey pair true]
  let jobs := ks.flatMap (fun k => s.bankJobs k ++ s.jobs k)
  let s := ks.foldl (fun s k => { (s.setBankJobs k []) with front := { (s.setBankJobs k []).front with f2b := tput [] (s.setBankJobs k []).front.f2b k [] } }) s
  (jobs.foldl (fun s j => s.poisonJob j) s).ackCheck

/-- Abrupt retirement of a stalled pair (R68): the lower-numbered logical bank takes an unused spare, which starts empty; the other
is lost with its ways, whose roles the walk of R67 re-allots. -/
def State.retireAbrupt (s : State) (pair : Nat) : State :=
  let banks := if pair = 8 then [s.spare] else [2 * pair, 2 * pair + 1]
  let lost := (List.range s.nb).filter (fun k => banks.contains (s.phys k) && !(s.stk.lostLb.contains k))
  let src := s.rd STK_BANK_STATE.COPY_SRC
  let cancel := s.flag STK_BANK_STATE.COPY_BUSY && (lost.contains src || pair = 8)
  let s := if cancel then (s.setFlag STK_BANK_STATE.COPY_BUSY false).retireDone src else s
  let s := s.poisonPair pair
  let phys := (banks.filter (fun b => decide (b ≤ s.spare) && !(s.isRetired b)))
  let s := lost.foldl (fun s k => s.loseBank k) s
  let s := phys.foldl (fun s b => s.bankGone b) s
  let free := !(s.flag STK_BANK_STATE.SPARE_USED) && !(s.flag STK_BANK_STATE.COPY_BUSY) && !(s.isRetired s.spare)
  match free, lost with
  | true, k :: rest =>
    let s := { s with stk := { s.stk with remap := tset s.stk.remap k s.spare } }
    let s := (s.setFlag STK_BANK_STATE.SPARE_USED true).wr STK_BANK_STATE.SPARE_FOR k
    rest.foldl (fun s k => ({ s with stk := { s.stk with
      lostLb := s.stk.lostLb ++ [k], walkQ := s.stk.walkQ ++ [(k, true)] } }).nextWalk) s
  | _, _ =>
    lost.foldl (fun s k => ({ s with stk := { s.stk with
      lostLb := s.stk.lostLb ++ [k], walkQ := s.stk.walkQ ++ [(k, true)] } }).nextWalk) s

/-! ### The far port (R30, R401, R402) -/

/-- FAR_STRAY (R402). -/
def State.farStray (s : State) (sub : Bool) (tag : BitVec 11) : State :=
  s.fault 10 4 1 (detail := 4 ||| sub.toNat <<< 8 ||| tag.toNat <<< 9) (srcKind := 3) (srcId := 4)

/-- The line of a fill enters its bank; a fill that nobody changed takes the poison of the data, and a carrel line is mirrored
(R30, R48, R337). -/
def State.fillWay (s : State) (line : LineAddr) (set way : Nat) (v : LineVal) : State :=
  let t := s.tag set way
  if t.isInv || t.sector != granule line then s
  else if (s.atomLine line).isSome then s
  else match t.st (lineBit line) with
    | .clean =>
      let p := t.p (lineBit line) || v.bad
      ((s.setTag set way (t.put (lineBit line) .clean p)).writeJob set way line v.d).mirWrite line v.d false p
    | .dirty => (s.setTag set way (t.put (lineBit line) .dirty (t.p (lineBit line) || v.bad))).writeJob set way line v.d
    | _ => s

/-- A far-port read line arrives: what waits for it is served in acceptance order, and the bank is filled (R30). -/
def State.farData (s : State) (sub : Bool) (tag : BitVec 11) (status : Nat) (d : LineData) : State :=
  match s.stk.farReads.find? (fun r => r.sub = sub && r.tag = tag) with
  | none => s.farStray sub tag
  | some r =>
    let s := { s with stk := { s.stk with farReads := s.stk.farReads.erase r } }
    let s := s.event 0x52 (inc := 8)
    let (s, v) := s.applyActs r.line ⟨d, status != stOk, false⟩ r.acts
    let s := match r.fill with
      | some (set, way) => s.fillWay r.line set way v
      | none => s
    s.ackCheck

/-- What a memory acknowledgement completes. -/
def State.farAcked (s : State) (w : FarWrite) : State :=
  match w.why with
  | .reshelver => { s with place := { s.place with unacked := s.place.unacked - 1 } }
  | .node id => s.setWrite id (fun p => { p with far := false })
  | .evicted => { s with mir := { s.mir with evicted := s.mir.evicted.erase w.line } }
  | _ => s

/-- A far-port write is answered (R402). -/
def State.farResponse (s : State) (sub : Bool) (tag : BitVec 11) : State :=
  match s.stk.farWrites.find? (fun w => w.sub = sub && w.tag = tag) with
  | none => s.farStray sub tag
  | some w =>
    let s := { s with stk := { s.stk with farWrites := s.stk.farWrites.erase w } }
    (s.farAcked w).farDrain.ackCheck

/-- Far-port credits arrive (R401). -/
def State.farCreditIn (s : State) (sub write : Bool) (n : Nat) : State :=
  if s.s64 && sub then s else (s.setFarCredit sub write (s.farCredit sub write + n)).farDrain

/-- FAR_CREDIT (R401). -/
def execFarCredit (sub write : Bool) (n : BitVec 6) (s : State) : Host.Outcome State Fault Refusal :=
  settled (s.begin.farCreditIn sub write n.toNat)

end Sys2Proof.Machine
end

