-- ==== Sys2Proof/Machine/Traffic.lean ====
section
/-! DEFINITION. Regulation and admission (spec/09_regulation_admission.md): frames and buckets (R246, R248, R250), the return of owed
credits (R247), the power model of a frame (R328), staged settings and their commits (R250, R256), and the checks of R257 to R259. -/

namespace Sys2Proof.Machine

/-! ### Staged and active settings -/

/-- The offsets of the staged TCL registers. -/
def tclOffs : List Nat := (List.range 8).flatMap (fun l => [TCL_RATE.word.off + 16 * l, TCL_CRED.word.off + 16 * l]) ++ [TCL_FAR0.word.off]

/-- The staged TCL settings. -/
def State.tclStaged (s : State) : Tab Word :=
  tclOffs.foldl (fun t off => tput (resetWord s.s64 off) t off (s.word off)) []

/-- The offset belongs to the staged window and plan registers. -/
def winOff (off : Nat) : Bool :=
  (decide (0x25100 ≤ off) && decide (off < 0x25200) && off % 16 = 0) || (decide (0x25800 ≤ off) && decide (off < 0x26000))

/-- The staged window and plan settings. -/
def State.winStaged (s : State) : Tab Word := tfilter (fun off _ => winOff off) s.regs

/-- The accepted settings: those that wait for the frame boundary, or those in force. -/
def State.tclCom (s : State) : Tab Word := s.adm.tclNext.getD s.front.tclAct
/-- As tclCom, for windows and plans. -/
def State.winCom (s : State) : Tab Word := s.adm.winNext.getD s.front.winAct

/-- DIRTY shows whether staged and accepted values differ. -/
def State.showDirty (s : State) : State :=
  (s.setFlag TCL_CTL.DIRTY (s.tclStaged != s.tclCom)).setFlag WIN_CTL.DIRTY (s.winStaged != s.winCom)

/-! ### The quantities of R258 -/

/-- A field of a table of settings. -/
def State.setting (s : State) (t : Tab Word) (f : Field) (i : Nat) : Nat :=
  fieldGet f (tget (resetWord s.s64 (f.off + f.stride * i)) t (f.off + f.stride * i))

/-- The settings that a check judges. -/
structure AdmIn where
  tcl  : Tab Word
  win  : Tab Word
  ramp : Nat
  mir  : Nat

/-- Division rounded up. -/
def ceilDiv (a b : Nat) : Nat := (a + b - 1) / b

/-- Q. -/
def State.admQ (s : State) (a : AdmIn) : Nat :=
  ceilDiv (s.setting a.tcl TCL_RATE.RATE 0 + s.setting a.tcl TCL_RATE.BURST 0) 2
/-- M. -/
def State.admM (s : State) (a : AdmIn) : Nat := if s.flag MIR_CTL.PAIR_EN then ceilDiv a.mir 2 else 0
/-- F. -/
def State.admF (s : State) (a : AdmIn) : Nat := s.setting a.tcl TCL_FAR0.FAR_0 0

/-- A plan entry in a table of settings. -/
def State.planOf (s : State) (t : Tab Word) (lane j : Nat) : Option (Nat × Nat) :=
  let i := 128 * lane + j / 2
  if j % 2 = 0 then
    (if s.setting t WIN_PLAN.VALID_EVEN i = 0 then none else some (s.setting t WIN_PLAN.WIN_EVEN i, s.setting t WIN_PLAN.BANK_EVEN i))
  else if s.setting t WIN_PLAN.VALID_ODD i = 0 then none
  else some (s.setting t WIN_PLAN.WIN_ODD i, s.setting t WIN_PLAN.BANK_ODD i)

/-- The plan entries of a table of settings: lane, slot, window, bank. Only listed words hold one. -/
def State.plan (s : State) (t : Tab Word) : List (Nat × Nat × Nat × Nat) :=
  (t.filter (fun e => decide (0x25800 ≤ e.1) && decide (e.1 < 0x26000))).flatMap (fun e =>
    let i := (e.1 - 0x25800) / 4
    let lane := i / 128
    [2 * (i % 128), 2 * (i % 128) + 1].filterMap (fun j => (s.planOf t lane j).map (fun x => (lane, j, x.1, x.2))))

/-- W_L. -/
def wLane (p : List (Nat × Nat × Nat × Nat)) (lane : Nat) : Nat := (p.filter (fun e => e.1 = lane)).length
/-- W_b. -/
def wBank (p : List (Nat × Nat × Nat × Nat)) (b : Nat) : Nat := (p.filter (fun e => e.2.2.2 = b)).length

/-- The valid windows of a table of settings. -/
def State.winsOf (s : State) (t : Tab Word) : List Nat := (List.range 16).filter (fun w => s.setting t WIN_ENT_CTL.VALID w != 0)

/-- The number of ways that RETAIN does not keep: U. -/
def State.unretained (s : State) : Nat := ((List.range s.ways).filter (fun w => !(s.rd PWR_RETAIN.WAYS).testBit w)).length

/-- FAR_US. -/
def State.farUs (s : State) : Nat := if s.s64 then 192000 else 384000

/-- The ramp term: T_FIX and the flush of `u` ways beside a reservation of `f` (R259, R314). -/
def State.boundUs (s : State) (u f : Nat) : Nat := 100 + ceilDiv (u * 4194304) (s.farUs - 125 * f)

/-! ### The checks of R259 -/

/-- The first failing condition of a list: index, left side, right side. -/
def firstOver (l : List (Nat × Nat × Nat)) : Option (Nat × Nat × Nat) := l.find? (fun x => decide (x.2.2 < x.2.1))

/-- A casement that can carry a window: role MESH, up and at full width (R294). -/
def State.fullCasement (s : State) (c : Nat) : Bool := s.isMesh c && s.bit LNK_STATUS.UP c && !(s.bit LNK_STATUS.HALF c)

/-- CAS_CAP of a casement, halved at half width (R258, R294). -/
def State.casCap (s : State) (c : Nat) : Nat := if s.bit LNK_STATUS.HALF c then 384 else 768

/-- MIR_CAP (R258): halved at half width (R294), or bounded by the payload of a frame where the port runs over UCIe (R418). -/
def State.mirCap (s : State) : Nat :=
  let full := if s.s64 then 32768 else 65536
  if s.flagI LNK_UCIE.VALID 1 then min full (64 * s.rdI LNK_UCIE.FRAME_64B 1)
  else if s.bit LNK_STATUS.HALF 6 then full / 2 else full

/-- The reason for which R251 or the bank-pair limit of R254 refuses windows and plans. -/
def State.winRefusal (s : State) (a : AdmIn) : Option Nat :=
  let ws := s.winsOf a.win
  let f (g : Field) (w : Nat) : Nat := s.setting a.win g w
  let bad (w : Nat) : Option Nat :=
    let c := f WIN_ENT_CTL.CARREL w
    if f WIN_ENT_CTL.LABEL w = 0
        || ws.any (fun v => v != w && f WIN_ENT_CTL.AGENT v = f WIN_ENT_CTL.AGENT w && f WIN_ENT_CTL.LABEL v = f WIN_ENT_CTL.LABEL w)
        || !(s.flagI ALT_CRL_CTL.VALID c) || !(s.fullCasement (f WIN_ENT_CTL.CASEMENT w)) then some rsnAdmPlan
    else if !(s.flagI ALT_CRL_CTL.HARD c) then some rsnCarrelSoft
    else none
  match ws.findSome? bad with
  | some r => some r
  | none =>
    let p := s.plan a.win
    let crowded := p.any (fun e =>
      let near (j : Nat) : Bool := decide (2 < (p.filter (fun x => x.2.2.2 / 2 = e.2.2.2 / 2
        && (x.2.1 = j || x.2.1 = (j + 1) % 256))).length)
      near e.2.1 || near ((e.2.1 + 255) % 256))
    if crowded then some rsnAdmPlan else none

/-- The first failing check of R259: reason, INDEX, NEED, CAP. -/
def State.admCheck (s : State) (a : AdmIn) : Option (Nat × Nat × Nat × Nat) :=
  let q := s.admQ a
  let m := s.admM a
  let f := s.admF a
  let p := s.plan a.win
  let credits := ((List.range 8).map (fun l => s.setting a.tcl TCL_CRED.CRED l)).foldl (· + ·) 0
  let wCas (c : Nat) : Nat := (p.filter (fun e => s.setting a.win WIN_ENT_CTL.CASEMENT e.2.2.1 = c)).length
  let beyond (rsn : Nat) (l : List (Nat × Nat × Nat)) : Option (Nat × Nat × Nat × Nat) := (firstOver l).map (fun x => (rsn, x))
  (beyond rsnCreditLimit [(0, 32 * credits, if s.s64 then 256 else 512)]).orElse fun _ =>
  ((s.winRefusal a).map (fun r => (r, 0, 0, 0))).orElse fun _ =>
  (beyond rsnAdmLane ((List.range s.lanes).map (fun l => (l, wLane p l + q + m, 768)))).orElse fun _ =>
  (beyond rsnAdmBank ((List.range s.nb).map (fun b => (b, 8 + 32 + 2 * (wBank p b + q + m), 512)))).orElse fun _ =>
  (beyond rsnAdmCasement (((List.range s.casements).filter s.isMesh).map (fun c => (c, 2 * (wCas c + q), s.casCap c)))).orElse fun _ =>
  (beyond rsnAdmFar [(0, 64 * f, if s.s64 then 73728 else 147456)]).orElse fun _ =>
  (beyond rsnAdmMirror [(0, 128 * m, s.mirCap)]).orElse fun _ =>
  beyond rsnAdmRamp [(0, s.boundUs s.unretained f, a.ramp)]

/-- The settings as accepted so far. -/
def State.admNow (s : State) : AdmIn := ⟨s.tclCom, s.winCom, s.rd PWR_RAMP.RAMP_US, s.rd MIR_RATE.RATE⟩

/-- SOURCE of a check. -/
def AdmWhy.source : AdmWhy → Nat
  | .image => 0 | .tcl _ => 1 | .win _ => 2 | .rampReg _ _ | .rampMsg _ _ => 3 | .mirRate _ _ => 4

/-- What a check judges. -/
def State.admIn (s : State) (w : AdmWhy) : AdmIn :=
  match w with
  | .image => ⟨s.tclStaged, s.winStaged, s.rd PWR_RAMP.RAMP_US, s.rd MIR_RATE.RATE⟩
  | .tcl _ => { s.admNow with tcl := s.tclStaged }
  | .win _ => { s.admNow with win := s.winStaged }
  | .rampReg _ v | .rampMsg _ v => { s.admNow with ramp := v }
  | .mirRate _ v => { s.admNow with mir := v }

/-- A check is queued (R257). -/
def State.admSubmit (s : State) (w : AdmWhy) : State :=
  ({ s with adm := { s.adm with queue := s.adm.queue ++ [w] } }).setFlag ADM_STATUS.BUSY true

/-- The admission registers show a result (R257, R259): 0 for a pass. -/
def State.admShow (s : State) (w : AdmWhy) (res : Option (Nat × Nat × Nat × Nat)) : State :=
  let s := s.bump ADM_RUNS.COUNT
  let s := (s.wr ADM_STATUS.SOURCE w.source).setFlag ADM_STATUS.BUSY (!s.adm.queue.isEmpty)
  match res with
  | none => ((s.setFlag ADM_STATUS.REFUSED false).wr ADM_STATUS.REASON 0).wr ADM_STATUS.INDEX 0
  | some (rsn, idx, need, cap) =>
    let s := ((s.setFlag ADM_STATUS.REFUSED true).wr ADM_STATUS.REASON rsn).wr ADM_STATUS.INDEX idx
    (((s.wr ADM_NEED.NEED need).wr ADM_CAP.CAP cap).bump ADM_REFUSALS.COUNT).emit .irqAdm

/-- BOUND_US (R314). -/
def State.showBound (s : State) : State :=
  s.wr PWR_RAMP.BOUND_US (min 0xFFFF (s.boundUs s.unretained (s.setting s.front.tclAct TCL_FAR0.FAR_0 0)))

/-! ### Commits (R250, R256) -/

/-- A write of TCL_CTL. The response waits for the check; an image operation refuses the commit (R271). -/
def State.writeTclCtl (s : State) (m : MgWrite) : State :=
  if !(m.word.getLsbD 31) then s.ok m.src
  else if s.flag TCL_CTL.CHECKING || s.flag CUR_IMG_STATUS.BUSY then s.refuse m.src rsnBusy
  else ((s.setFlag TCL_CTL.COMMIT true).setFlag TCL_CTL.CHECKING true).admSubmit (.tcl m.src)

/-- TCL_COMMIT (R250). -/
def execTclCommit (m : MgWrite) (s : State) : Host.Outcome State Fault Refusal :=
  settled (s.begin.mgWrite (.tclCommit m) TCL_CTL.word.off m (fun s => s.writeTclCtl m))

/-- A write of WIN_CTL. -/
def State.writeWinCtl (s : State) (m : MgWrite) : State :=
  if !(m.word.getLsbD 31) then s.ok m.src
  else if s.flag WIN_CTL.CHECKING || s.flag CUR_IMG_STATUS.BUSY then s.refuse m.src rsnBusy
  else ((s.setFlag WIN_CTL.COMMIT true).setFlag WIN_CTL.CHECKING true).admSubmit (.win m.src)

/-- WIN_COMMIT (R256). -/
def execWinCommit (m : MgWrite) (s : State) : Host.Outcome State Fault Refusal :=
  settled (s.begin.mgWrite (.winCommit m) WIN_CTL.word.off m (fun s => s.writeWinCtl m))

/-- A field of a staged register is outside the build's range (R245, R251, R256). -/
def State.stagedBad (s : State) (off : Nat) (w : Word) : Bool :=
  let g (f : Field) : Nat := fieldGet f w
  if 0x24010 ≤ off && off < 0x24090 then off % 16 = 4 && decide (8 ≤ g TCL_CRED.CRED)
  else if 0x25100 ≤ off && off < 0x25200 then
    off % 16 = 0 && (g WIN_ENT_CTL.DIR = 3 || (s.s64 && decide (2 ≤ g WIN_ENT_CTL.CASEMENT)))
  else if 0x25800 ≤ off && off < 0x26000 then
    s.s64 && (decide (0x25C00 ≤ off) || decide (8 ≤ g WIN_PLAN.BANK_ODD) || decide (8 ≤ g WIN_PLAN.BANK_EVEN))
  else false

/-- A write of a staged register: refused while a check of its kind runs. -/
def State.writeStaged (s : State) (off : Nat) (m : MgWrite) : State :=
  let busy := if off < 0x25000 then s.flag TCL_CTL.CHECKING else s.flag WIN_CTL.CHECKING
  if s.stagedBad off m.word then s.refuse m.src rsnField
  else if busy || s.flag CUR_IMG_STATUS.BUSY then s.refuse m.src rsnBusy
  else ((s.plain off m.word).showDirty).ok m.src

/-! ### Frames (R246, R248, R250, R252, R328) -/

/-- RATE + BURST of a label in a table of settings. -/
def State.bucketCap (s : State) (t : Tab Word) (l : Nat) : Nat := s.setting t TCL_RATE.RATE l + s.setting t TCL_RATE.BURST l

/-- An accepted TCL commit takes effect: buckets are clipped, and one whose cap rises from 0 starts at its cap. -/
def State.applyTcl (s : State) : State :=
  match s.adm.tclNext with
  | none => s
  | some t =>
    let old := s.front.tclAct
    let s := { s with adm := { s.adm with tclNext := none }, front := { s.front with tclAct := t } }
    let s := (List.range 8).foldl (fun s l =>
      if s.bucketCap old l = 0 && decide (0 < s.bucketCap t l) then s.setBucket l (s.bucketCap t l)
      else s.setBucket l (min (s.bucket l) (s.bucketCap t l))) s
    s.showBound

/-- The waiting window requests that a change of windows makes late (R256). -/
def State.planMarks (s : State) (t : Tab Word) : List (Instr × Nat × Nat) :=
  s.front.inbox.filterMap (fun i => match reqOf i with
    | some r => match s.winOf r with
      | some w =>
        let off := WIN_ENT_CTL.word.off + 16 * w
        let lane := s.lane r.line
        let mine (u : Tab Word) : List (Nat × Nat × Nat × Nat) := (s.plan u).filter (fun e => e.1 = lane && e.2.2.1 = w)
        if tget 0 t off != tget 0 s.front.winAct off || mine t != mine s.front.winAct then some (i, w, 7) else none
      | none => none
    | none => none)

/-- An accepted WIN commit takes effect. -/
def State.applyWin (s : State) : State :=
  match s.adm.winNext with
  | none => s
  | some t =>
    let marks := s.front.marks ++ s.planMarks t
    let gone := (List.range 16).filter (fun w => s.winOn w && s.setting t WIN_ENT_CTL.VALID w = 0)
    let s := { s with adm := { s.adm with winNext := none }, front := { s.front with winAct := t, marks := marks } }
    let s := gone.foldl (fun s w => s.setCredit (winPool w) 0) s
    s.wr WIN_CTL.ACTIVE ((s.winsOf t).foldl (fun m w => m ||| 2 ^ w) 0)

/-- P_BASE and E_ACC of R328. -/
def State.powerModel (s : State) : Nat × Nat := if s.s64 then (700, 425) else (1200, 375)

/-- The power of the last frame, in mW (R328). -/
def State.powerNow (s : State) : Nat :=
  let (base, e) := s.powerModel
  base + e * s.front.accLast / 512

/-- GRANTED of a cap under the settings in force (R328). -/
def State.grantOf (s : State) (c : Nat) : Nat :=
  let (base, e) := s.powerModel
  let a : AdmIn := { s.admNow with tcl := s.front.tclAct, win := s.front.winAct }
  let res := (s.plan a.win).length + s.admQ a + s.admM a
  max c (base + ceilDiv (res * e) 512)

/-- The cap takes effect (R328). -/
def State.applyCap (s : State) : State :=
  let (base, e) := s.powerModel
  match s.pwr.cap with
  | none =>
    ({ s with pwr := { s.pwr with granted := none }, front := { s.front with allow := none } }).wr PWR_CAP.GRANTED_MW 0xFFFF
  | some c =>
    let g := s.grantOf c
    ({ s with pwr := { s.pwr with granted := some g }, front := { s.front with allow := some ((g - base) * 512 / e) } }).wr
      PWR_CAP.GRANTED_MW (min g 0xFFFF)

/-- The refill of R246, and TCL_HELD. -/
def State.refill (s : State) : State :=
  (List.range 8).foldl (fun s l =>
    let rate := s.tcl TCL_RATE.RATE l
    let s := s.setBucket l (min (s.bucket l + rate) (rate + s.tcl TCL_RATE.BURST l))
    if s.bucket l < 0 then s.bumpI TCL_HELD.COUNT l else s) s

/-- A frame boundary: commits take effect, buckets are refilled, a new cap is in force, and the acceptances of the frame are counted. -/
def State.frame (s : State) : State :=
  let raised := match s.adm.tclNext with
    | some t => (List.range 8).filter (fun l => s.bucketCap s.front.tclAct l = 0 && decide (0 < s.bucketCap t l))
    | none => []
  let s := { s with front := { s.front with accLast := s.front.accN, accN := 0 } }
  let s := (s.applyTcl.applyWin).refill
  let s := raised.foldl (fun s l => s.setBucket l (s.bucketCap s.front.tclAct l)) s
  if s.online then s.applyCap else s

/-- FRAME_BOUNDARY (R246): POS is 0. In RETAIN and OFF_READY the front island has no frames. -/
def execFrameBoundary (s : State) : Host.Outcome State Fault Refusal :=
  let s := s.begin
  settled (if s.dark then s else s.frame.wr WIN_FRAME.POS 0)

/-- The frame-sync input (R252): POS restarts; a sync elsewhere than at POS = 0 is a slip, which makes every waiting window request
late. -/
def State.sync (s : State) : State :=
  if s.rd WIN_FRAME.POS = 0 then s
  else
    let marks := s.front.inbox.filterMap (fun i => match reqOf i with
      | some r => (s.winOf r).map (fun w => (i, w, 6))
      | none => none)
    let s := { s with front := { s.front with marks := s.front.marks ++ marks } }
    (s.bump WIN_FRAME.SLIPS).wr WIN_FRAME.POS 0

/-- FRAME_SYNC (R252). -/
def execFrameSync (s : State) : Host.Outcome State Fault Refusal :=
  let s := s.begin
  settled (if s.dark then s else s.sync)

/-! ### Owed credits (R247, R297, R436) -/

/-- The agents in the order in which casement `c` takes them: ascending, after the one last served. -/
def State.agentTurn (s : State) (c : Nat) : List Nat :=
  let from' := match tfind s.front.turn c with
    | some a => a + 1
    | none => 0
  (List.range 32).map (fun j => (from' + j) % 32)

/-- The credit words that casement `c` can send for agent `a`: pool key, POOL, LABEL, WIN and COUNT, in the order of R297. -/
def State.agentWords (s : State) (c a : Nat) : List (Nat × Nat × Nat × Nat × Nat) :=
  let ag := BitVec.ofNat 5 a
  let mine := s.casementOf a = some c
  let pools := (List.range 16).filterMap (fun j =>
    let kind := j / 8
    let l := BitVec.ofNat 3 (j % 8)
    let n := if mine then s.want kind l ag else 0
    if n = 0 then none else some (poolKey kind l ag, kind, j % 8, 0, n))
  let wins := (List.range 16).filterMap (fun w =>
    if s.win WIN_ENT_CTL.AGENT w = a && s.win WIN_ENT_CTL.CASEMENT w = c && s.wantWin w != 0 then
      some (winPool w, 6, 0, w, s.wantWin w) else none)
  pools ++ wins

/-- Send one credit word on casement `c`: for the next agent that is owed credits, or for a Porter egress pool. -/
def State.creditReturn (s : State) (c : Nat) : State :=
  if !(s.mesh.contains c) then s
  else match (s.agentTurn c).findSome? (fun a => (s.agentWords c a).head?.map (fun x => (a, x))) with
    | some (a, k, pool, label, win, n) =>
      let s := (s.setCredit k (s.credit k + min n 255)).creditOut c pool a label win (min n 255)
      { s with front := { s.front with turn := tset s.front.turn c a } }
    | none =>
      match (List.range 64).find? (fun p => s.casementOf p = some c && s.wantPorter (BitVec.ofNat 6 p) != 0) with
      | some p =>
        let k := porterPool (BitVec.ofNat 6 p)
        let n := s.wantPorter (BitVec.ofNat 6 p)
        (s.setCredit k (s.credit k + n)).creditOut c 0 0 0 0 n
      | none => s

/-- CREDIT_RETURN (R247). -/
def execCreditReturn (cas : BitVec 2) (s : State) : Host.Outcome State Fault Refusal := settled (s.begin.creditReturn cas.toNat)

/-- The grant of step 9 and of X5 (R248, R297, R319): every bucket starts at its cap, every Porter egress pool holds its credits, and every
casement sends one word for each pool of its agents and windows, in ascending agent, then pool, then label. -/
def State.grantAll (s : State) : State :=
  let s := (List.range 8).foldl (fun s l => s.setBucket l (s.bucketCap s.front.tclAct l)) s
  let s := { s with front := { s.front with poolCred := [], turn := [] } }
  let s := (List.range 64).foldl (fun s p =>
    let n := s.wantPorter (BitVec.ofNat 6 p)
    s.setCredit (porterPool (BitVec.ofNat 6 p)) n) s
  s.mesh.foldl (fun s c =>
    (List.range 32).foldl (fun s a =>
      (s.agentWords c a).foldl (fun s x => (s.setCredit x.1 (s.credit x.1 + x.2.2.2.2)).creditOut c x.2.1 a x.2.2.1 x.2.2.2.1 x.2.2.2.2) s) s) s

end Sys2Proof.Machine
end

