-- ==== Sys2Proof/Machine/StartOps.lean ====
section
/-! DEFINITION. What start-up is built from (spec/11_startup_daybook.md): Daybook entries (R298, R299), failure counts (R300), the
retirement of banks before any tag is valid (R64), the beginning and end of steps (R281, R282, R301), and the boot loader's stage 1
(R290, R367, R433). -/

namespace Sys2Proof.Machine

/-! ### The Daybook -/

abbrev ocPass : Nat := 0
abbrev ocAlt : Nat := 1
abbrev ocSkip : Nat := 2
abbrev ocFail : Nat := 3
abbrev ocInterrupted : Nat := 4
abbrev ocRetry : Nat := 5

/-- Write a Daybook entry; once all 64 are in use a further entry is counted in LOST (R298). -/
def State.daybook (s : State) (outcome step : Nat) (cause detail : Nat := 0) : State :=
  let n := s.rd DBK_STATUS.COUNT
  if 64 ≤ n then (s.setFlag DBK_STATUS.FULL true).bump DBK_STATUS.LOST
  else
    let info : Word := BitVec.ofNat 32 (2 ^ 31 + outcome * 2 ^ 28 + step * 2 ^ 24 + cause * 2 ^ 16 + s.rd DBK_STATUS.STARTS * 2 ^ 8 + detail)
    let s := (s.setWord (DBK_ENT_INFO.word.off + 8 * n) info).wrI DBK_ENT_TIME.US n ((s.now - s.start.t0) / 1000)
    (s.wr DBK_STATUS.COUNT (n + 1)).setFlag DBK_STATUS.FULL (n + 1 = 64)

/-- The failure count of a step (R300). -/
def failField (step : Nat) : Field := ⟨DBK_FAILS.word.off, 0, 2 * step, 2⟩
/-- The failure count of a link (R300). -/
def linkFailField (n : Nat) : Field := ⟨DBK_LINK_FAILS.word.off, 0, 2 * n, 2⟩

/-- The steps that keep a failure count. -/
def countedStep (step : Nat) : Bool := (1 ≤ step && step ≤ 5) || step = 7

/-- The failure count of a step rises by 1, saturating at 3. -/
def State.stepFailed (s : State) (step : Nat) : State := if countedStep step then s.bump (failField step) else s
/-- A step passed: its count is 0. -/
def State.stepPassed (s : State) (step : Nat) : State := if countedStep step then s.wr (failField step) 0 else s

/-- A step ends FAIL and the start stops (R282). -/
def State.stepFail (s : State) (step cause detail : Nat) : State :=
  ((s.daybook ocFail step cause detail).stepFailed step).wr SLC_START.STATE 3

/-- A step ends PASS. -/
def State.stepPass (s : State) (step : Nat) : State := (s.daybook ocPass step).stepPassed step

/-! ### Banks retired before a tag is valid (R64, R286 to R288) -/

/-- Retire a bank with no data to move: an unused spare replaces it, otherwise its logical bank is lost. -/
def State.retireEmpty (s : State) (phys : Nat) : State :=
  if s.isRetired phys then s
  else
    let k := s.logicalOf phys
    let s := s.recordRetired phys
    match k with
    | none => s
    | some k =>
      if !(s.flag STK_BANK_STATE.SPARE_USED) && !(s.isRetired s.spare) && phys != s.spare then
        let s := { s with stk := { s.stk with remap := tset s.stk.remap k s.spare } }
        (s.setFlag STK_BANK_STATE.SPARE_USED true).wr STK_BANK_STATE.SPARE_FOR k
      else if s.stk.lostLb.contains k then s
      else { s with stk := { s.stk with lostLb := s.stk.lostLb ++ [k] } }

/-- The limit of R77 for the image checks of this start (R288). -/
def State.pinLimit (s : State) : Nat :=
  if s.s64 then min 12 (14 - 2 * s.start.lost) else min 24 (30 - 2 * s.start.lost)

/-! ### The Curator (R290, R367, R433) -/

/-- The Curator is held in reset: the watchdog is disarmed, the mailbox flags are cleared and what waits in its lane is discarded. -/
def State.holdCurator (s : State) : State :=
  let s := { s with cur := { s.cur with stage := 0 }, front := { s.front with curLane := [] } }
  let s := (s.setFlag CUR_WDT_STATUS.ARMED false).wr CUR_WDT_STATUS.REMAIN 0
  ((s.setFlag CUR_MBX_DB.POST false).setFlag CUR_MBX_DB.C2H_PEND false).wr CUR_MBX_DB.C2H_LEN 0

/-- The boot loader starts stage 1 of the next attempt. -/
def State.loaderStart (s : State) : State :=
  let s := s.holdCurator
  let s := ((s.wr CUR_FW_STATUS.STATE 0).setFlag CUR_FW_CTL.DONE false).setFlag CUR_FW_CTL.ALIVE false
  { s with cur := { s.cur with stage := 1 } }

/-- The boot loader is released with attempts counted from 1 again. -/
def State.loaderRelease (s : State) : State := (s.wr CUR_FW_STATUS.ATTEMPT 0).loaderStart

/-! ### The beginning of steps (R281, R287, R301) -/

/-- Step 9 waits for GO_ONLINE. -/
def State.enterStep9 (s : State) : State := (s.wr SLC_START.STEP 9).wr SLC_START.STATE 0

/-- Step 8: admission of what step 5 staged. -/
def State.enterStep8 (s : State) : State := (s.wr SLC_START.STEP 8).admSubmit .image

/-- Step 7: skipped at count 3; otherwise the slice opens a calibration grant of 33,000 µs (R295). -/
def State.enterStep7 (s : State) : State :=
  let s := s.wr SLC_START.STEP 7
  if s.rd (failField 7) = 3 then
    (((s.daybook ocSkip 7).setFlag DBK_DEGRADED.CAL true).setFlag STK_REF_TIER.CAL_OK false).tierCheck.enterStep8
  else (s.setFlag STK_CAL_GRANT.OPEN true).wr STK_CAL_GRANT.LEN_US 33000

/-- Step 6: link training. -/
def State.enterStep6 (s : State) : State := (s.wr SLC_START.STEP 6).wr SLC_START.STATE 0

/-- Step 5 waits for the image (R292). -/
def State.enterStep5 (s : State) : State := ((s.wr SLC_START.STEP 5).wr SLC_START.STATE 1).emit .irqCur

/-- Step 4 fails and the slice takes the safe state (R290). -/
def State.safeState (s : State) (cause detail : Nat) : State :=
  (((s.daybook ocFail 4 cause detail).stepFailed 4).holdCurator.wr CUR_FW_STATUS.STATE 4).wr SLC_START.STATE 4

/-- Step 4: the boot loader starts; a Curator whose clock is not up fails the step at once (R287). -/
def State.enterStep4 (s : State) : State :=
  let s := s.wr SLC_START.STEP 4
  if s.start.curDown then s.safeState 0x10 1 else s.loaderRelease

/-- Step 3: skipped at count 3, and failed when the Ledger's clock is not up (R287, R301). -/
def State.enterStep3 (s : State) : State :=
  let s := s.wr SLC_START.STEP 3
  if s.rd (failField 3) = 3 then
    (((s.daybook ocSkip 3).setFlag DBK_DEGRADED.LEDGER true).setFlag LDG_CTL.EN false).enterStep4
  else if s.start.ldgDown then s.stepFail 3 0x10 0
  else s

end Sys2Proof.Machine
end

