-- ==== Sys2Proof/Machine/Image.lean ====
section
/-! DEFINITION. The Shelving image (spec/10_shelving_image.md): its layout (R263 to R268), the staging buffer (R270), the checks of
R272 in their order, and what an accepted image does (R273 to R276). -/

namespace Sys2Proof.Machine

/-! ### Reading the staging buffer (R8, R263) -/

/-- Word `i` of the staging buffer. -/
def State.imgW (s : State) (i : Nat) : Word := tget 0 s.img.buf i
/-- Word `i` as a number. -/
def State.imgN (s : State) (i : Nat) : Nat := (s.imgW i).toNat
/-- Bits [lo + w − 1 : lo] of word `i`. -/
def State.imgB (s : State) (i lo w : Nat) : Nat := s.imgN i / 2 ^ lo % 2 ^ w

/-- LENGTH. -/
def State.imgLen (s : State) : Nat := s.imgN 2
/-- KIND. -/
def State.imgKind (s : State) : Nat := s.imgB 5 16 8
/-- WILD. -/
def State.imgWild (s : State) : Nat := s.imgB 5 24 8

/-- The bytes of a word, lowest first (R8). -/
def wordBytes (w : Word) : List (BitVec 8) := [w.extractLsb' 0 8, w.extractLsb' 8 8, w.extractLsb' 16 8, w.extractLsb' 24 8]

/-- The CRC of the image, with bytes 28 to 31 taken as 0 (R265). -/
def State.imgCrc (s : State) : Word :=
  (List.range (s.imgLen / 4)).foldl (fun r i => crcList r (wordBytes (if i = 7 then 0 else s.imgW i))) 0xFFFFFFFF#32
    ^^^ 0xFFFFFFFF#32

/-- A section: TYPE, COUNT and the first word of its body. -/
structure Sec where
  typ   : Nat
  count : Nat
  at'   : Nat

/-- Entry size in bytes, most entries, mandatory in a full image, permitted in a partial one (R267). -/
def secRow (s64 : Bool) (typ : Nat) : Option (Nat × Nat × Bool × Bool) :=
  match typ with
  | 1 => some (8, 1, true, false)
  | 2 => some (8, 1, true, false)
  | 3 => some (16, 64, false, true)
  | 4 => some (8, 256, false, true)
  | 5 => some (24, 16, false, true)
  | 6 => some (72, 1, false, true)
  | 7 => some (if s64 then 1088 else 2112, 1, false, true)
  | 8 => some (16, 1, false, true)
  | 9 => some (16, 16, false, true)
  | 10 => some (32, 1, true, true)
  | 11 => some (16, 1, true, true)
  | _ => none

/-- The sections have one entry exactly (fixed size) or up to their most. -/
def fixedSec (typ : Nat) : Bool := typ = 1 || typ = 2 || typ = 6 || typ = 7 || typ = 8 || typ = 10 || typ = 11

/-- Read `n` section headers from word `i` on, with rising TYPE, and check that they fill the image to word `last` (R266, R267). -/
def State.imgSections (s : State) (part : Bool) (last : Nat) : Nat → Nat → Nat → Option (List Sec)
  | 0, i, _ => if i = last then some [] else none
  | n + 1, i, prev =>
    let typ := s.imgB i 0 8
    let count := s.imgB i 16 16
    let blen := s.imgN (i + 1)
    match secRow s.s64 typ with
    | none => none
    | some (size, most, _, inPart) =>
      if typ ≤ prev || s.imgB i 8 8 != 0 || blen != count * size || most < count || (fixedSec typ && count != 1)
          || (part && !inPart) || last < i + 2 + blen / 4 then none
      else match s.imgSections part last n (i + 2 + blen / 4) typ with
        | some rest => some (⟨typ, count, i + 2⟩ :: rest)
        | none => none

/-- The section of a type. -/
def findSec (secs : List Sec) (typ : Nat) : Option Sec := secs.find? (fun x => x.typ = typ)

/-- Words per entry of a section. -/
def State.secWords (s : State) (typ : Nat) : Nat := match secRow s.s64 typ with | some r => r.1 / 4 | none => 1

/-- The first words of the entries of a section; none when it is absent. -/
def State.entriesOf (s : State) (secs : List Sec) (typ : Nat) : List Nat :=
  match findSec secs typ with
  | some x => (List.range x.count).map (fun j => x.at' + j * s.secWords typ)
  | none => []

/-- The INDEX of an entry at word `e`, for the sections whose entries carry one. -/
def State.entIndex (s : State) (typ e : Nat) : Nat :=
  match typ with
  | 3 => s.imgB (e + 3) 0 6
  | 4 => s.imgB (e + 1) 16 8
  | 5 => s.imgB (e + 2) 4 4
  | _ => s.imgB e 28 4

/-- The words of an entry or body that must be 0 under a mask: word and mask (R268). -/
def zeroMasks (typ : Nat) : List (Nat × Nat) :=
  match typ with
  | 1 => [(0, 0xFFFF0000), (1, 0xFFFFFFFF)]
  | 2 => [(0, 0xFF000000), (1, 0xFFFFFFFF)]
  | 3 => [(0, 0xFF), (1, 0xFFF00000), (3, 0x3E0003C0)]
  | 4 => [(1, 0x7F00E000)]
  | 5 => [(0, 0xFFF), (1, 0xFFF00000), (2, 0x3FFFFF00), (3, 0xFFFFFFFF)]
  | 6 => (List.range 8).map (fun l => (2 * l + 1, 0xFFFFFF00)) ++ [(16, 0xFFFF0000), (17, 0xFFFFFFFF)]
  | 8 => [(0, 0xFFFFFFFC), (2, 0xFFFF0000), (3, 0xFFFFFFFF)]
  | 9 => [(0, 0xC080)]
  | 10 => [(3, 0xFFFFFFFC), (4, 0xFFFFFFFF), (5, 0xFFFFFFFF), (6, 0xFFFFFFFF), (7, 0xFFFFFFFF)]
  | 11 => [(1, 0xFFFC0000), (2, 0xFFFFFFFF), (3, 0xFFFFFFFF)]
  | _ => []

/-- Every 0 field of the sections is 0. -/
def State.imgZeros (s : State) (secs : List Sec) : Bool :=
  secs.all (fun x => (s.entriesOf secs x.typ).all (fun e =>
    (zeroMasks x.typ).all (fun z => (s.imgW (e + z.1) &&& BitVec.ofNat 32 z.2) = 0)))

/-- No repeats. -/
def noRepeat : List Nat → Bool
  | [] => true
  | a :: r => !(r.contains a) && noRepeat r

/-- No INDEX appears twice in one section. -/
def State.imgIndexes (s : State) (secs : List Sec) : Bool :=
  [3, 4, 5, 9].all (fun t => noRepeat ((s.entriesOf secs t).map (s.entIndex t)))

/-- TARGET agrees with the straps in every field that WILD does not ignore (R264). -/
def State.imgTarget (s : State) : Bool :=
  let c := s.rd SLC_ID.COORD
  let t := s.imgN 6
  let w := s.imgWild
  let same (lo n : Nat) : Bool := t / 2 ^ lo % 2 ^ n = c / 2 ^ lo % 2 ^ n
  (w.testBit 3 || same 16 8) && (w.testBit 2 || same 8 3) && (w.testBit 1 || same 3 3) && (w.testBit 0 || same 0 3)

/-! ### What the sections write (R267, R268, R273, R274) -/

/-- Write registers at an offset and on. -/
def State.putWords (s : State) (off : Nat) (ws : List Nat) : State :=
  ((List.range ws.length).zip ws).foldl (fun s x => s.setWord (off + 4 * x.1) (BitVec.ofNat 32 x.2)) s

/-- INTERLEAVE (R38). -/
def State.putInterleave (s : State) (e : Nat) : State :=
  let mask := s.imgB e 0 8
  ((s.wr SLC_LIVE.MASK mask).wr SLC_LIVE.GEN (s.imgB e 8 8)).wr SLC_LIVE.COUNT (liveList mask).length

/-- CASEMENTS. -/
def State.putCasements (s : State) (e : Nat) : State :=
  { s with cfg := { s.cfg with
    roles := BitVec.ofNat 8 (s.imgB e 0 8), pegN := s.imgB e 8 8, peg := BitVec.ofNat 8 (s.imgB e 16 8) } }

/-- A CARRELS entry: the carrel takes CUR := WAYS (R77); with VALID = 0 it is removed. -/
def State.putCarrel (s : State) (e : Nat) : State :=
  let c := s.imgB (e + 3) 0 6
  let off := ALT_CRL_BASE_LO.word.off + 16 * c
  if s.imgB (e + 3) 31 1 = 0 then s.putWords off [0, 0, 0, 0]
  else
    let ways := s.imgB (e + 3) 15 5
    s.putWords off [s.imgN e, s.imgB (e + 1) 0 20, s.imgN (e + 2),
      2 ^ 31 + s.imgB (e + 3) 30 1 * 2 ^ 30 + s.imgB (e + 3) 20 5 * 2 ^ 20 + ways * 2 ^ 15 + s.imgB (e + 3) 10 5 * 2 ^ 10 + ways * 2 ^ 5]

/-- A SHUTTERS entry, which is open (R88). -/
def State.putShutter (s : State) (e : Nat) : State :=
  let off := SHT_ENT_BASE.word.off + 8 * s.imgB (e + 1) 16 8
  if s.imgB (e + 1) 31 1 = 0 then s.putWords off [0, 0]
  else s.putWords off [s.imgN e, 2 ^ 31 + s.imgB (e + 1) 8 5 * 2 ^ 8 + s.imgB (e + 1) 0 8]

/-- A BYPASS entry. -/
def State.putBypass (s : State) (e : Nat) : State :=
  let off := ORD_WIN_BASE_LO.word.off + 32 * s.imgB (e + 2) 4 4
  if s.imgB (e + 2) 31 1 = 0 then (s.putWords off [0, 0, 0]).putWords (off + 16) [0, 0]
  else (s.putWords off [s.imgN e, s.imgB (e + 1) 0 20, s.imgB (e + 2) 30 2 * 2 ^ 30 + s.imgB (e + 2) 0 4]).putWords (off + 16)
    [s.imgN (e + 4), s.imgN (e + 5)]

/-- TRAFFIC, into the staged registers. -/
def State.putTraffic (s : State) (e : Nat) : State :=
  let s := (List.range 8).foldl (fun s l =>
    (s.setWord (TCL_RATE.word.off + 16 * l) (s.imgW (e + 2 * l))).setWord (TCL_CRED.word.off + 16 * l)
      (BitVec.ofNat 32 (s.imgB (e + 2 * l + 1) 0 4))) s
  s.setWord TCL_FAR0.word.off (BitVec.ofNat 32 (s.imgB (e + 16) 0 16))

/-- WINDOWS, into the staged registers. -/
def State.putWindows (s : State) (e : Nat) : State :=
  let s := (List.range 16).foldl (fun s w => s.plain (WIN_ENT_CTL.word.off + 16 * w) (s.imgW (e + w))) s
  (List.range (128 * s.lanes)).foldl (fun s j => s.plain (WIN_PLAN.word.off + 4 * j) (s.imgW (e + 16 + j))) s

/-- MIRROR of a full image. A configured pair is SINGLE until the capability exchange of step 6 (R335). -/
def State.putMirror (s : State) (e : Nat) : State :=
  let s := if s.imgB e 0 1 = 1 then (s.wr MIR_STATUS.STATE 3).setFlag MIR_STATUS.UNMIRRORED true else s
  (((s.wr MIR_CTL.PAIR_EN (s.imgB e 0 1)).wr MIR_CTL.DIRTY_MIR (s.imgB e 1 1)).wr MIR_PARTNER.COORD (s.imgB (e + 1) 0 24)).wr
    MIR_RATE.RATE (s.imgB (e + 2) 0 16)

/-- A CHAINS entry, with VALID = 0. -/
def State.putChain (s : State) (e : Nat) : State :=
  let c := s.imgB e 28 4
  let off := CHN_CTX_CTL.word.off + 32 * c
  let keep (o w : Nat) (s : State) : State := s.setWord (off + o) (BitVec.ofNat 32 w)
  let s := keep 0 (s.imgB e 16 12 * 2 ^ 16 + s.imgB e 8 6 * 2 ^ 8 + s.imgB e 0 7) s
  let s := (s.plain (off + 4) (s.imgW (e + 1))).plain (off + 8) (s.imgW (e + 2))
  s.plain (off + 12) (s.imgW (e + 3))

/-- BOUNDS. -/
def State.putBounds (s : State) (e : Nat) : State :=
  let s := (s.wr ALT_WINDOW.WIN_US (s.imgB e 0 16)).wr ALT_WINDOW.MIN_ACC (s.imgB e 16 16)
  let s := ((s.wr ALT_POLICY.HOLD (s.imgB (e + 1) 0 8)).wr ALT_POLICY.RESTORE (s.imgB (e + 1) 8 8)).wr ALT_POLICY.THRASH_PCT
    (s.imgB (e + 1) 16 7)
  let s := (s.wr ALT_POLICY.MIN_GROUPS (s.imgB (e + 1) 24 5)).setWord PFT_DEG_MAX.word.off (s.imgW (e + 2))
  let s := { s with cfg := { s.cfg with refMin := s.imgB (e + 3) 0 1 = 1 }, place := { s.place with grpAcc := [], grpMiss := [] } }
  ((s.wr ALT_ADAPT.FREEZE (s.imgB (e + 3) 1 1)).wr ALT_ADAPT.THRASH_RUN 0).wr ALT_ADAPT.CALM_RUN 0

/-- POWER. -/
def State.putPower (s : State) (e : Nat) : State :=
  let s := { s with cfg := { s.cfg with coolOk := s.imgB (e + 1) 16 1 = 1 } }
  (s.wr PWR_RETAIN.WAYS (s.imgN e)).wr PWR_RAMP.RAMP_US (s.imgB (e + 1) 0 16)

/-- Apply one section's writer to all its entries. -/
def State.putSec (s : State) (secs : List Sec) (typ : Nat) (f : State → Nat → State) : State := (s.entriesOf secs typ).foldl f s

/-- Registers `lo` to `hi − 1` return to their Reset values. -/
def State.clearRange (s : State) (lo hi : Nat) : State := { s with regs := tfilter (fun off _ => !(lo ≤ off && off < hi)) s.regs }

/-- What an accepted LOAD loads (R273); a RAMP message before step 8 keeps its RAMP_US (R330). -/
def State.loadImage (s : State) (secs : List Sec) : State :=
  let s := (((s.clearRange 0x6100 0x6500).clearRange 0x7800 0x8000).clearRange 0xA100 0xA300).clearRange 0x24010 0x24100
  let s := (s.clearRange 0x25100 0x26000).clearRange 0x27100 0x27300
  let s := ((s.wr MIR_CTL.PAIR_EN 0).wr MIR_CTL.DIRTY_MIR 0).wr MIR_PARTNER.COORD 0
  let s := (s.wr MIR_RATE.RATE 0)
  let s := ((s.putSec secs 1 State.putInterleave).putSec secs 2 State.putCasements).putSec secs 3 State.putCarrel
  let s := ((s.putSec secs 4 State.putShutter).putSec secs 5 State.putBypass).putSec secs 6 State.putTraffic
  let s := ((s.putSec secs 7 State.putWindows).putSec secs 8 State.putMirror).putSec secs 9 State.putChain
  let s := (s.putSec secs 10 State.putBounds).putSec secs 11 State.putPower
  let s := match s.start.ramp with
    | some v => s.wr PWR_RAMP.RAMP_US v
    | none => s
  let s := s.putSec secs 11 (fun s e => s.wr STK_REF_TIER.FLOOR (s.imgB (e + 1) 17 1))
  let s := (s.setWord CUR_IMG_ACTIVE.word.off (s.imgW 3)).setWord CUR_IMG_CRC.word.off (s.imgW 7)
  s.showDirty.showBound

/-- PFT_DEGREE nibbles above their new DEG_MAX take it, and FLOOR rises to 1 under REF_MIN (R276). -/
def State.boundSettings (s : State) : State :=
  let s := (List.range 8).foldl (fun s l =>
    let f : Field := ⟨PFT_DEGREE.word.off, 0, 4 * l, 4⟩
    let m := s.rd ⟨PFT_DEG_MAX.word.off, 0, 4 * l, 4⟩
    if m < s.rd f then s.wr f m else s) s
  if s.cfg.refMin && s.rd STK_REF_TIER.FLOOR = 0 then s.wr STK_REF_TIER.FLOOR 1 else s

/-- A window that an update writes has no walk pending (R274). -/
def State.clearPend (s : State) (e : Nat) : State :=
  let w := s.imgB (e + 2) 4 4
  { s with ord := { s.ord with pend := s.ord.pend.filter (fun x => x != w) } }

/-- What an accepted UPDATE changes (R274 to R276): TRAFFIC and WINDOWS wait for the frame boundary. -/
def State.updateImage (s : State) (secs : List Sec) : State :=
  let s := ((s.putSec secs 3 State.putCarrel).putSec secs 4 State.putShutter).putSec secs 5 (fun s e => (s.putBypass e).clearPend e)
  let s := (s.putSec secs 6 State.putTraffic).putSec secs 7 State.putWindows
  let s := if (findSec secs 6).isSome then { s with adm := { s.adm with tclNext := some s.tclStaged } } else s
  let s := if (findSec secs 7).isSome then { s with adm := { s.adm with winNext := some s.winStaged } } else s
  let s := (s.putSec secs 8 (fun s e => s.wr MIR_RATE.RATE (s.imgB (e + 2) 0 16))).putSec secs 9 State.putChain
  let s := s.putSec secs 10 (fun s e => (s.putBounds e).boundSettings)
  let s := s.putSec secs 11 State.putPower
  let s := (s.setWord CUR_IMG_ACTIVE.word.off (s.imgW 3)).setWord CUR_IMG_CRC.word.off (s.imgW 7)
  s.showDirty.showBound

/-! ### The checks (R272) -/

/-- A refusal: reason, SECTION, ENTRY. -/
structure ImgNo where
  rsn : Nat
  sec : Nat := 0
  ent : Nat := 0

/-- The first entry of a section at which a check gives a reason. -/
def State.entCheck (s : State) (secs : List Sec) (typ : Nat) (f : Nat → Option Nat) : Option ImgNo :=
  let es := s.entriesOf secs typ
  ((List.range es.length).zip es).findSome? (fun x => (f x.2).map (fun r => ⟨r, typ, x.1⟩))

/-- The first reason whose condition holds. -/
def firstOf : List (Bool × Nat) → Option Nat
  | [] => none
  | (b, r) :: rest => if b then some r else firstOf rest

/-- The ways FIRST to FIRST + WAYS − 1 of a carrel. -/
def State.carrelWays (s : State) (c : Nat) : Nat × Nat := (s.rdI ALT_CRL_CTL.FIRST c, s.rdI ALT_CRL_CTL.FIRST c + s.rdI ALT_CRL_CTL.WAYS c)

/-- The reason for which R77 refuses the carrels of a state, with the windows `win` that the image leaves. -/
def State.carrelRefusal (s : State) (win : Tab Word) : Option Nat :=
  let cs := s.carrels
  let union := (List.range 64).filter (fun w => cs.any (fun c => (s.carrelWays c).1 ≤ w && w < (s.carrelWays c).2))
  let meets (a b : Nat × Nat) : Bool := a.1 < b.2 && b.1 < a.2
  let range (c : Nat) : Nat × Nat := (s.carrelBase c, s.carrelBase c + s.rdI ALT_CRL_SIZE.SIZE c)
  let others (c : Nat) : List Nat := cs.filter (fun d => d != c)
  firstOf [
    (decide (s.pinLimit < union.length), rsnPinLimit),
    (cs.any (fun c => s.rdI ALT_CRL_SIZE.SIZE c = 0 || s.rdI ALT_CRL_CTL.WAYS c = 0 || decide (s.ways < (s.carrelWays c).2)
      || decide (s.rdI ALT_CRL_CTL.WAYS c < s.rdI ALT_CRL_CTL.FLOOR c)), rsnCarrel),
    (cs.any (fun c => !(s.flagI ALT_CRL_CTL.HARD c) && (others c).any (fun d => meets (s.carrelWays c) (s.carrelWays d))),
      rsnCarrelOverlap),
    (cs.any (fun c => (others c).any (fun d => meets (range c) (range d))), rsnCarrelOverlap),
    ((s.winsOf win).any (fun w => let c := s.setting win WIN_ENT_CTL.CARREL w
      s.flagI ALT_CRL_CTL.VALID c && !(s.flagI ALT_CRL_CTL.HARD c)), rsnCarrelSoft)]

/-- CARRELS: the entries are applied one at a time, and R77 is evaluated after each. -/
def State.carrelsCheck (win : Tab Word) : State → Nat → List Nat → Option ImgNo
  | _, _, [] => none
  | s, j, e :: rest =>
    let s := s.putCarrel e
    match s.carrelRefusal win with
    | some r => some ⟨r, 3, j⟩
    | none => carrelsCheck win s (j + 1) rest

/-- The walk of a bypass window runs or is pending (R152). -/
def State.walkOf (s : State) (w : Nat) : Bool :=
  s.ord.pend.contains w || (s.flag ORD_WIN_STATUS.BUSY && s.rd ORD_WIN_STATUS.RUN = w)

/-- The first and the last byte address, exclusive, of a bypass window. -/
def State.bypassRange (s : State) (w : Nat) : Nat × Nat :=
  let base := s.rdI ORD_WIN_BASE_HI.BASE_HI w * 2 ^ 32 + s.rdI ORD_WIN_BASE_LO.BASE_LO w * 2 ^ 12
  (base, base + 2 ^ (12 + s.rdI ORD_WIN_CTL.SIZE_LOG w))

/-- A bypass window overlaps another valid one. -/
def State.bypassOverlap (s : State) (w : Nat) : Bool :=
  let a := s.bypassRange w
  s.flagI ORD_WIN_CTL.VALID w && (List.range 16).any (fun v => v != w && s.flagI ORD_WIN_CTL.VALID v
    && decide (a.1 < (s.bypassRange v).2) && decide ((s.bypassRange v).1 < a.2))

/-- Step 6 of R272. `base` is the configuration to which the sections apply, `res` the one that results, `part` a partial image. -/
def State.imgSix (s : State) (base res : State) (secs : List Sec) (part : Bool) : Option ImgNo :=
  let b := s.imgB
  let cas (e c : Nat) : Nat := b e (2 * c) 2
  (s.entCheck secs 1 (fun e => firstOf [(b e 0 8 = 0 || !((b e 0 8).testBit (s.rd SLC_LIVE.SELF)), rsnLiveMap)])).orElse fun _ =>
  (s.entCheck secs 2 (fun e => firstOf [
    ((List.range 4).any (fun c => decide (2 ≤ cas e c) || (decide (s.casements ≤ c) && cas e c != 0)), rsnField),
    (b e 8 8 = 0 || decide (4 < b e 8 8), rsnField),
    ((List.range (b e 8 8)).any (fun i => cas e (b e (16 + 2 * i) 2) = 0), rsnField)])).orElse fun _ =>
  (State.carrelsCheck (if (findSec secs 7).isSome then res.winStaged else base.winCom) base 0 (s.entriesOf secs 3)).orElse fun _ =>
  (s.entCheck secs 4 (fun e =>
    let n := b (e + 1) 16 8
    let addr := b (e + 1) 0 8 * 2 ^ 32 + s.imgN e
    firstOf [(addr % 2 ^ (b (e + 1) 8 5) != 0, rsnShutter),
      (part && (s.flagI SHT_ENT_CTL.SEALED n || s.flagI SHT_ENT_CTL.WALK n), rsnBusy)])).orElse fun _ =>
  (s.entCheck secs 5 (fun e =>
    let w := b (e + 2) 4 4
    let page := b (e + 1) 0 20 * 2 ^ 20 + b e 12 20
    firstOf [(page % 2 ^ (b (e + 2) 0 4) != 0, rsnBypass), (decide (12 < b (e + 2) 0 4), rsnBypass), (res.bypassOverlap w, rsnBypass),
      (part && s.walkOf w, rsnBusy)])).orElse fun _ =>
  (s.entCheck secs 6 (fun e => firstOf [((List.range 8).any (fun l => decide (7 < b (e + 2 * l + 1) 0 8)), rsnField)])).orElse fun _ =>
  (s.entCheck secs 7 (fun e => firstOf [
    ((List.range 16).any (fun w => s.stagedBad (WIN_ENT_CTL.word.off + 16 * w) (s.imgW (e + w)))
      || (List.range (128 * s.lanes)).any (fun j => s.stagedBad (WIN_PLAN.word.off + 4 * j) (s.imgW (e + 16 + j))), rsnField)])).orElse fun _ =>
  (s.entCheck secs 8 (fun e => firstOf [(part && (b e 0 1 != s.rd MIR_CTL.PAIR_EN || b e 1 1 != s.rd MIR_CTL.DIRTY_MIR
    || b (e + 1) 0 24 != s.rd MIR_PARTNER.COORD), rsnField)])).orElse fun _ =>
  (s.entCheck secs 9 (fun e =>
    let c := b e 28 4
    let len := b e 0 7
    let slots := b (e + 1) 0 13
    let held := (s.entriesOf secs 9).any (fun x => x != e && b x 16 12 = b e 16 12)
      || (part && (List.range 16).any (fun d => d != c && s.flagI CHN_CTX_CTL.VALID d && s.rdI CHN_CTX_CTL.CHAIN d = b e 16 12))
    firstOf [(decide (len < 2) || decide (64 < len) || decide (len ≤ b e 8 6) || slots = 0 || decide (4096 < slots) || held, rsnField),
      (part && s.flagI CHN_CTX_CTL.VALID c, rsnField)])).orElse fun _ =>
  (s.entCheck secs 10 (fun e => firstOf [
    (b (e + 1) 0 8 = 0 || b (e + 1) 8 8 = 0 || (List.range 8).any (fun l => decide (8 < b (e + 2) (4 * l) 4))
      || decide (127 < b (e + 1) 16 8) || decide (31 < b (e + 1) 24 8), rsnField)])).orElse fun _ =>
  s.entCheck secs 11 (fun e => firstOf [(b (e + 1) 0 16 = 0 || decide (2 ^ s.ways ≤ s.imgN e), rsnField)])

/-- The admission check of step 7, for an UPDATE or a CHECK whose sections change what it judges: the result that a passing or failing
check shows, none when the check does not run. -/
def State.imgSeven (s : State) (res : State) (secs : List Sec) (part : Bool) : Option (Option (Nat × Nat × Nat × Nat)) :=
  let tcl := if (findSec secs 6).isSome || !part then res.tclStaged else s.tclCom
  let win := if (findSec secs 7).isSome || !part then res.winStaged else s.winCom
  let changed := tcl != s.tclCom || win != s.winCom || res.rd MIR_RATE.RATE != s.rd MIR_RATE.RATE
    || res.rd PWR_RETAIN.WAYS != s.rd PWR_RETAIN.WAYS || res.rd PWR_RAMP.RAMP_US != s.rd PWR_RAMP.RAMP_US
  if changed then some (res.admCheck ⟨tcl, win, res.rd PWR_RAMP.RAMP_US, res.rd MIR_RATE.RATE⟩) else none

/-- The checks of R272 for the image in the buffer: a refusal or the sections, and what step 7 shows. -/
def State.imgCheck (s : State) (op : Nat) : Except ImgNo (List Sec) × Option (Option (Nat × Nat × Nat × Nat)) :=
  let part := s.imgKind = 1
  let no (r : Nat) : Except ImgNo (List Sec) × Option (Option (Nat × Nat × Nat × Nat)) := (.error ⟨r, 0, 0⟩, none)
  if s.imgN 0 != 0x564C4853 || s.imgLen < 32 || 65536 < s.imgLen || s.imgLen % 8 != 0 then no rsnImageLayout
  else if s.imgCrc != s.imgW 7 then no rsnImageCrc
  else if s.imgB 1 8 8 != 1 || s.rd CUR_IMG_FORMAT.MINOR_MAX < s.imgB 1 0 8
      || (part && (s.imgW 4 != s.word CUR_IMG_ACTIVE.word.off || s.imgW 3 = s.word CUR_IMG_ACTIVE.word.off)) then no rsnImageVersion
  else match s.imgSections part (s.imgLen / 4) (s.imgB 1 16 16) 8 0 with
    | none => no rsnImageLayout
    | some secs =>
      let kindOk := (s.imgKind = 0 && op != 1) || (part && op != 0)
      let whole := part || [1, 2, 10, 11].all (fun t => (findSec secs t).isSome)
      if s.imgB 5 0 8 != (if s.s64 then 1 else 0) || !s.imgTarget || !kindOk || !whole || !(s.imgZeros secs) || !(s.imgIndexes secs)
          || (!part && s.imgN 4 != 0) || 16 ≤ s.imgWild
          || (s.imgWild != 0 && ((findSec secs 8).isSome || (findSec secs 9).isSome)) then no rsnImageLayout
      else if s.rd SLC_FEAT.RUN_LEVEL < s.imgB 5 8 8 then no rsnFeatureLevel
      else
        let base := if part then s else (s.clearRange 0x6100 0x6500).clearRange 0x25100 0x26000
        let base := if part then base else { base with adm := { base.adm with winNext := some [] } }
        let res := if part then s.updateImage secs else s.loadImage secs
        match s.imgSix base res secs part with
        | some x => (.error x, none)
        | none =>
          if op = 0 then (.ok secs, none)
          else match s.imgSeven res secs part with
            | some (some r) => (.error ⟨r.1, 0, 0⟩, some (some r))
            | some none => (.ok secs, some none)
            | none => (.ok secs, none)

/-! ### The staging buffer (R270) -/

/-- ADDR moves to the next word. -/
def State.imgNext (s : State) : State := s.wr CUR_IMG_ADDR.ADDR (s.rd CUR_IMG_ADDR.ADDR + 1)

/-- A write of CUR_IMG_DATA, refused while an operation runs (R271). -/
def State.writeImgData (s : State) (m : MgWrite) : State :=
  if s.flag CUR_IMG_STATUS.BUSY then s.refuse m.src rsnBusy
  else ({ s with img := { s.img with buf := tput 0 s.img.buf (s.rd CUR_IMG_ADDR.ADDR) m.word } }).imgNext.ok m.src

/-- A write of CUR_IMG_ADDR. -/
def State.writeImgAddr (s : State) (m : MgWrite) : State :=
  if s.flag CUR_IMG_STATUS.BUSY then s.refuse m.src rsnBusy else (s.plain CUR_IMG_ADDR.word.off m.word).ok m.src

/-- IMG_DATA_WRITE (R270). -/
def execImgDataWrite (m : MgWrite) (s : State) : Host.Outcome State Fault Refusal :=
  settled (s.begin.mgWrite (.imgDataWrite m) CUR_IMG_DATA.word.off m (fun s => s.writeImgData m))

/-! ### Operations (R271) -/

/-- CUR_IMG_STATUS shows a result, and GO reads 0. -/
def State.imgResult (s : State) (op : Nat) (no : Option ImgNo) : State :=
  let s := ((s.setFlag CUR_IMG_CTL.GO false).setFlag CUR_IMG_STATUS.BUSY false).wr CUR_IMG_STATUS.LAST_OP op
  let x := no.getD ⟨0, 0, 0⟩
  let s := ((s.setFlag CUR_IMG_STATUS.REFUSED no.isSome).wr CUR_IMG_STATUS.STATUS (if no.isSome then stRefused else stOk)).wr
    CUR_IMG_STATUS.REASON x.rsn
  (s.wr CUR_IMG_STATUS.SECTION x.sec).wr CUR_IMG_STATUS.ENTRY x.ent

/-- What step 7 shows; a CHECK raises no admission-event interrupt (R277). -/
def State.showSeven (s : State) (op : Nat) (seven : Option (Option (Nat × Nat × Nat × Nat))) : State :=
  match seven with
  | none => s
  | some res =>
    let s := s.admShow .image res
    if op = 2 then { s with out := s.out.filter (fun o => o != Out.irqAdm) } else s

/-- A refused LOAD is recorded, and the third ends the step (R292). -/
def State.loadRefused (s : State) (rsn : Nat) : State :=
  let s := { s with start := { s.start with refused := s.start.refused + 1 } }
  if 3 ≤ s.start.refused then s.stepFail 5 0x50 rsn else s.daybook ocRetry 5 0x50 rsn

/-- LOAD (R271, R273). -/
def State.imgLoad (s : State) (src : MgSrc) : State :=
  match (s.imgCheck 0).1 with
  | .error x => ((s.imgResult 0 (some x)).loadRefused x.rsn).refuse src x.rsn
  | .ok secs =>
    let s := (s.loadImage secs).imgResult 0 none
    let s := { s with start := { s.start with loaded := true } }
    (s.stepPass 5).enterStep6.ok src

/-- UPDATE: the checks; the response waits for the application point (R271, R275). -/
def State.imgUpdate (s : State) (src : MgSrc) : State :=
  let (r, seven) := s.imgCheck 1
  let s := s.showSeven 1 seven
  match r with
  | .error x => (s.imgResult 1 (some x)).refuse src x.rsn
  | .ok _ => ({ s with img := { s.img with held := some src } }).setFlag CUR_IMG_STATUS.BUSY true

/-- CHECK (R277). -/
def State.imgCheckOp (s : State) (src : MgSrc) : State :=
  let (r, seven) := s.imgCheck 2
  let s := s.showSeven 2 seven
  match r with
  | .error x => (s.imgResult 2 (some x)).refuse src x.rsn
  | .ok _ => (s.imgResult 2 none).ok src

/-- A write of CUR_IMG_CTL. -/
def State.writeImgCtl (s : State) (m : MgWrite) : State :=
  let op := fieldGet CUR_IMG_CTL.OP m.word
  if !(m.word.getLsbD 31) then (s.plain CUR_IMG_CTL.word.off m.word).ok m.src
  else if s.flag CUR_IMG_STATUS.BUSY || s.flag TCL_CTL.CHECKING || s.flag WIN_CTL.CHECKING then s.refuse m.src rsnBusy
  else if op = 3 || (op = 0 && !(s.rd SLC_START.STEP = 5 && s.rd SLC_START.STATE = 1)) || (op = 1 && !s.online) then
    s.refuse m.src rsnField
  else
    let s := (s.plain CUR_IMG_CTL.word.off m.word).setFlag CUR_IMG_CTL.GO true
    match op with
    | 0 => s.imgLoad m.src
    | 1 => s.imgUpdate m.src
    | _ => s.imgCheckOp m.src

/-- IMAGE_LOAD (R273). -/
def execImageLoad (m : MgWrite) (s : State) : Host.Outcome State Fault Refusal :=
  settled (s.begin.mgWrite (.imageLoad m) CUR_IMG_CTL.word.off m (fun s => s.writeImgCtl m))

/-- IMAGE_UPDATE (R271). -/
def execImageUpdate (m : MgWrite) (s : State) : Host.Outcome State Fault Refusal :=
  settled (s.begin.mgWrite (.imageUpdate m) CUR_IMG_CTL.word.off m (fun s => s.writeImgCtl m))

/-- IMAGE_CHECK (R277). -/
def execImageCheck (m : MgWrite) (s : State) : Host.Outcome State Fault Refusal :=
  settled (s.begin.mgWrite (.imageCheck m) CUR_IMG_CTL.word.off m (fun s => s.writeImgCtl m))

/-- The STATE_BUSY conditions of R272, which R275 evaluates a second time. -/
def State.imgBusy (s : State) (secs : List Sec) : Option ImgNo :=
  (s.entCheck secs 4 (fun e => let n := s.imgB (e + 1) 16 8
    firstOf [(s.flagI SHT_ENT_CTL.SEALED n || s.flagI SHT_ENT_CTL.WALK n, rsnBusy)])).orElse fun _ =>
  s.entCheck secs 5 (fun e => firstOf [(s.walkOf (s.imgB (e + 2) 4 4), rsnBusy)])

/-- The application point of an UPDATE (R275). -/
def State.imgApply (s : State) : State :=
  match s.img.held, s.imgSections true (s.imgLen / 4) (s.imgB 1 16 16) 8 0 with
  | some src, some secs =>
    let s := { s with img := { s.img with held := none } }
    match s.imgBusy secs with
    | some x => (s.imgResult 1 (some x)).refuse src x.rsn
    | none => ((s.updateImage secs).imgResult 1 none).ok src
  | _, _ => s

/-- IMAGE_UPDATE_APPLY (R275). -/
def execImageUpdateApply (s : State) : Host.Outcome State Fault Refusal := settled s.begin.imgApply

/-- IMAGE_TIMEOUT (R292): IMG_TMO runs out in step 5. -/
def execImageTimeout (s : State) : Host.Outcome State Fault Refusal :=
  let s := s.begin
  settled (if s.rd SLC_START.STEP = 5 && s.rd SLC_START.STATE = 1 then s.stepFail 5 0x51 0 else s)

end Sys2Proof.Machine
end

