-- ==== Sys2Proof/Machine/PorterOps.lean ====
section
/-! DEFINITION. The operations behind Porter's commands (spec/08_porter.md): requests and their routes (R220), the addresses of
transfer bytes (R227), bursts and pieces (R229), index reads (R228), completion (R236) and halting (R237). -/

namespace Sys2Proof.Machine

/-! ### Channels -/

/-- The transfer of a channel. -/
def State.xfer (s : State) (c : Nat) : Option Xfer := tfind s.por.xfers c
/-- Set the transfer of a channel. -/
def State.setXfer (s : State) (c : Nat) (x : Xfer) : State := { s with por := { s.por with xfers := tset s.por.xfers c x } }
/-- The channel has no transfer any more. -/
def State.dropXfer (s : State) (c : Nat) : State := { s with por := { s.por with xfers := tdel s.por.xfers c } }

/-- Requests of a channel in flight. -/
def State.porReqs (s : State) (c : Nat) : List PorReq := s.por.reqs.filter (fun q => q.ch = c)

/-- The request belongs to a running transfer's data, index or producer traffic. -/
def PorKind.moves : PorKind → Bool
  | .read _ _ _ _ | .write _ | .index _ | .producer => true
  | _ => false

/-- The channel may issue requests: it and Porter are enabled, and neither stops (R240, R242). -/
def State.porActive (s : State) (c : Nat) : Bool :=
  s.flag POR_CTL.EN && !(s.flag POR_CTL.STOPPING) && s.flagI POR_CH_CTL.EN c && !(s.flagI POR_CH_CTL.STOPPING c) && !s.winding

/-- STATE of a channel (POR_CH_CTL). -/
def State.porState (s : State) (c : Nat) : Nat :=
  if s.flagI POR_CH_CTL.STOPPING c then 7
  else match s.xfer c with
    | some x => if x.finish then 5 else if x.pace == .wait then 4 else 3
    | none =>
      if s.flagI POR_CH_CTL.HALT c then 6
      else if s.por.reqs.any (fun q => q.ch = c && q.kind == .descriptor) then 2
      else if s.porActive c && s.flagI POR_CH_CTL.MODE c then 1
      else 0

/-- Bursts that hold buffers. -/
def State.porBursts (s : State) : Nat := s.por.xfers.foldl (fun n e => n + e.2.bursts.length) 0

/-- The status registers show the channels. -/
def State.showPor (s : State) : State :=
  let s := (List.range 16).foldl (fun s c => s.wrI POR_CH_CTL.STATE c (s.porState c)) s
  let s := s.wr POR_STATUS.BURSTS s.porBursts
  s.wr POR_STATUS.ACTIVE (s.por.xfers.foldl (fun m e => m ||| 2 ^ e.1) 0)

/-! ### Requests (R220) -/

/-- The casement message of a request of Porter to another home. -/
def porMsg (r : Req) (typ : Nat) (home : Nat) (body : Body) (die : Nat) : Msg :=
  { cls := 0, typ := typ, label := r.label, who := r.who, tag := r.tag, psn := r.psn, line := r.line, scope := r.scope
    rel := r.rel, acq := r.acq, retry := r.retry, toSlice := some (BitVec.ofNat 6 (8 * die + home)), body := body }

/-- The payload of a request of Porter. -/
def porBody : Instr → Body
  | .wrLine _ d => .line d
  | .wrPart _ be d => .partialLine be d
  | _ => .none

/-- A request leaves Porter: to this slice's own tag lanes, or through the casement of the egress list (R220). While no home or no
egress casement is named it has no path. -/
def State.porRoute (s : State) (c : Nat) (i : Instr) (r : Req) : State :=
  if s.accepts r.line then { s with front := { s.front with inbox := s.front.inbox ++ [i] } }
  else match s.home r.line with
    | some h =>
      if s.cfg.pegN = 0 then s
      else s.sendAt (s.cfg.peg.toNat / 4 ^ (c % s.cfg.pegN) % 4) (porMsg r (typOf i) h (porBody i) s.pins.straps.die.toNat)
    | none => s

/-- Issue a request of channel `c` under a TAG that no other of its requests has; the choice is a free value
(notes/assumptions/4.md). -/
def State.porIssue (s : State) (c : Nat) (kind : PorKind) (label scope : Nat) (rel acq psn : Bool) (line : Nat)
    (mk : Req → Instr) : State :=
  let (f, s) := s.fresh
  let tag := pickTag (Config.freeNat f) ((s.porReqs c).map (fun (q : PorReq) => q.tag))
  let r : Req := { who := ⟨.porter, BitVec.ofNat 5 c, s.pslice⟩, cas := 0, tag := tag, label := BitVec.ofNat 3 label
                   line := BitVec.ofNat 45 line, scope := BitVec.ofNat 2 scope, rel := rel, acq := acq, winV := false, win := 0
                   noack := false, retry := 0, mcg := 0, psn := psn }
  let i := mk r
  { s with por := { s.por with reqs := s.por.reqs ++ [PorReq.mk c tag kind i false] } }.porRoute c i r

/-! ### Fields of a transfer (R225) -/

/-- PAT. -/
def Xfer.pat (x : Xfer) : Nat := x.ctl.toNat / 2 ^ 29 % 4
/-- SCATTER. -/
def Xfer.scatter (x : Xfer) : Bool := x.ctl.getLsbD 28
/-- PRIO. -/
def Xfer.prio (x : Xfer) : Nat := x.ctl.toNat / 2 ^ 26 % 4
/-- LABEL. -/
def Xfer.label (x : Xfer) : Nat := x.ctl.toNat / 2 ^ 23 % 8
/-- WSCOPE. -/
def Xfer.wscope (x : Xfer) : Nat := x.ctl.toNat / 2 ^ 21 % 4
/-- PACE. -/
def Xfer.paced (x : Xfer) : Bool := x.ctl.getLsbD 20
/-- LAST. -/
def Xfer.lastRead (x : Xfer) : Bool := x.ctl.getLsbD 18
/-- The number of transfer bytes. -/
def Xfer.total (x : Xfer) : Nat := if x.pat = 0 then x.x else x.x * x.y

/-! ### Addresses (R227, R228) -/

/-- off(i), when its index line is at hand. -/
def Xfer.off (x : Xfer) (i : Nat) : Option Nat :=
  let a := x.idx + 4 * i
  match tfind x.lines (a / 128) with
  | some d => some (d.extractLsb' (8 * (a % 128)) 32).toNat
  | none => none

/-- The source address of transfer byte `k`; none while its offset is not at hand. -/
def Xfer.srcOf (x : Xfer) (k : Nat) : Option Int :=
  match x.pat with
  | 0 => some (x.src + k)
  | 1 => some (x.src + (k / x.x : Nat) * x.ss + (k % x.x : Nat))
  | _ => if x.scatter then some (x.src + k) else (x.off (k / x.x)).map (fun o => ((x.src + o * x.x + k % x.x : Nat) : Int))

/-- The destination address of transfer byte `k`. -/
def Xfer.dstOf (x : Xfer) (k : Nat) : Option Int :=
  match x.pat with
  | 0 => some (x.dst + k)
  | 1 => some (x.dst + (k / x.x : Nat) * x.ds + (k % x.x : Nat))
  | _ => if x.scatter then (x.off (k / x.x)).map (fun o => ((x.dst + o * x.x + k % x.x : Nat) : Int)) else some (x.dst + k)

/-! ### Bursts and pieces (R229) -/

/-- The length of the burst that begins at transfer byte `k`. -/
def Xfer.burstLen (x : Xfer) (k : Nat) : Nat :=
  let side := if x.pat = 2 && x.scatter then x.srcOf k else x.dstOf k
  let align := match side with
    | some a => 512 - (a % 512).toNat
    | none => 512
  let row := if x.pat = 1 then x.x - k % x.x else x.total - k
  min (min align row) (x.total - k)

/-- Cut the bytes from `k` on, whose addresses `f` gives, into pieces: each a run of consecutive addresses within one line, as
address, first byte and length. An address that is not known counts as outside the space. -/
def cutPieces (f : Nat → Option Int) (k : Nat) : Nat → List (Int × Nat × Nat)
  | 0 => []
  | n + 1 =>
    let a := (f k).getD (-1)
    match cutPieces f (k + 1) n with
    | (b, j, len) :: rest =>
      if b = a + 1 && b % 128 != 0 then (a, k, len + 1) :: rest else (a, k, 1) :: (b, j, len) :: rest
    | [] => [(a, k, 1)]

/-- Every byte of a piece lies in the 52-bit space. -/
def inSpace (p : Int × Nat × Nat) : Bool := decide (0 ≤ p.1) && decide (p.1 < 2 ^ 52)

/-- The number of bursts of a LINEAR transfer: T of R232. -/
def Xfer.bursts' (x : Xfer) : Nat := (x.dst % 512 + x.x + 511) / 512

/-! ### Index reads (R228) -/

/-- The index lines that the next burst needs, and up to 4 ahead of the element being moved. -/
def Xfer.wantLine (x : Xfer) : Nat :=
  let here := (x.idx + 4 * (x.k / x.x)) / 128
  let stop := (x.idx + 4 * ((x.k + x.burstLen x.k - 1) / x.x)) / 128 + 1
  let last := (x.idx + 4 * (x.y - 1)) / 128 + 1
  min last (max stop (here + 4))

/-- Issue the index reads that are due, with up to 4 in flight: `n` bounds them. -/
def State.porIndex (s : State) (c : Nat) : Nat → State
  | 0 => s
  | n + 1 =>
    match s.xfer c with
    | some x =>
      let out := (s.porReqs c).filter (fun q => match q.kind with | .index _ => true | _ => false)
      if x.pat = 2 && x.stop.isNone && decide (x.k < x.total) && decide (out.length < 4) && decide (x.nextLn < x.wantLine) then
        let s := s.setXfer c { x with nextLn := x.nextLn + 1 }
        let s := s.porIssue c (.index x.nextLn) x.label (s.rdI POR_CH_CTL.DSC_SCOPE c) false false false x.nextLn .rdOnce
        s.porIndex c n
      else s
    | none => s

/-! ### Halting and completion (R234, R236, R237) -/

/-- The status word of R236. -/
def porWord (status reason : Nat) (crcv : Bool) (err : Option Nat) : Nat :=
  let e := match err with
    | some n => min n 0xFFFE
    | none => 0xFFFF
  status * 2 ^ 28 + (if status = stRefused then reason else 0) * 2 ^ 20 + crcv.toNat * 2 ^ 19 + e

/-- A channel halts. -/
def State.porHalt (s : State) (c status reason : Nat) : State :=
  let s := (s.setFlagI POR_CH_CTL.HALT c true).setBit POR_CTL.HALTED c true
  s.fault 7 1 2 (detail := c <<< 28 ||| status <<< 24 ||| (if status = stRefused then reason else 0) <<< 16 ||| s.rdI POR_CH_RING_CFG.HEAD c)
    (status := status) (srcKind := 2) (srcId := c) (irq := true)

/-- The final status and reason of a transfer (R234). -/
def Xfer.final (x : Xfer) : Nat × Nat :=
  let base := match x.stop with
    | some (st, _) => st
    | none => stOk
  let st := if x.pois then statusMax base stPoison else base
  let st := if x.sealed then statusMax st stSealed else st
  (st, match x.stop with | some (b, r) => if b = st then r else 0 | none => 0)

/-- A transfer that was rejected or stopped has no CRC. -/
def Xfer.crcOk (x : Xfer) : Bool := x.stop.isNone

/-- The end of a transfer: LAST and DONE, HEAD advances in ring mode, and a stopped transfer halts the channel (R236, R237). -/
def State.porEnd (s : State) (c : Nat) (x : Xfer) : State :=
  let (st, rsn) := x.final
  let s := (s.wrI POR_CH_LAST.STATUS c (porWord st rsn x.crcOk x.err)).wrI POR_CH_DONE.COUNT c (s.rdI POR_CH_DONE.COUNT c + 1)
  let s := s.dropXfer c
  let s := if x.ring then
      s.wrI POR_CH_RING_CFG.HEAD c ((x.head + 1) % 2 ^ s.rdI POR_CH_RING_CFG.LEN_LOG c)
    else s.setFlagI POR_CH_CTL.START c false
  if x.stop.isSome then s.porHalt c st rsn else s

/-- The scope of the completion writes: WSCOPE, or PACKAGE where a rejected descriptor names 0 or 1. -/
def Xfer.doneScope (x : Xfer) : Nat := if x.wscope < 2 then 2 else x.wscope

/-- Write `n` bytes at byte address `a` for a completion. -/
def State.porWrite (s : State) (c : Nat) (kind : PorKind) (x : Xfer) (rel : Bool) (a n : Nat) (v : BitVec 64) : State :=
  let o := a % 128
  let be := BitVec.ofNat 128 ((2 ^ n - 1) * 2 ^ o)
  s.porIssue c kind x.label x.doneScope rel false false (a / 128 % 2 ^ 45) (fun r => .wrPart r be (v.setWidth 1024 <<< (8 * o)))

/-- The status write: the status word and the CRC, which is a free value where CRCV = 0 (notes/assumptions/4.md). -/
def State.porStatus (s : State) (c : Nat) (x : Xfer) : State :=
  let (st, rsn) := x.final
  let w := BitVec.ofNat 32 (porWord st rsn x.crcOk x.err)
  let (f, s) := s.fresh
  let crc : Word := if x.crcOk then x.crc ^^^ 0xFFFFFFFF#32 else BitVec.ofNat 32 (Config.freeNat f)
  (s.setXfer c { x with finish := true }).porWrite c .status x false (x.desc + 56) 8 (crc ++ w)

/-- The OWN write: byte 3 with OWN = 0 and the other CTL bits as read. -/
def State.porOwn (s : State) (c : Nat) (x : Xfer) : State :=
  (s.porWrite c (.own x.head) x true (x.desc + 3) 1 ((x.ctl.extractLsb' 24 7).setWidth 64)).porEnd c x

/-- A transfer that has nothing more to move and nothing in flight completes. -/
def State.porCheck (s : State) (c : Nat) : State :=
  match s.xfer c with
  | none => s
  | some x =>
    if x.finish then s
    else
      let quiet := (s.porReqs c).all (fun q => !q.kind.moves)
      let ended := if x.stop.isSome then quiet else decide (x.total ≤ x.k) && x.bursts.isEmpty && quiet
      if !ended then s
      else
        let s := if x.reject then s else s.wrI POR_CH_CRC.CRC c x.crc.toNat
        if x.ring then s.porStatus c x else s.porEnd c x

/-- The transfer stops with a code (R234): the first code stands; bursts not written are discarded, and requests that wait for their
back-off are not sent again. -/
def State.porStop (s : State) (c status reason : Nat) : State :=
  match s.xfer c with
  | some x =>
    let s := s.setXfer c { x with stop := if x.stop.isSome then x.stop else some (status, reason), bursts := [] }
    { s with por := { s.por with reqs := s.por.reqs.filter (fun q => !(q.ch = c && q.wait && q.kind.moves)) } }
  | none => s

/-! ### Writes of bursts (R231, R235) -/

/-- Issue one write piece of a burst. -/
def State.porPiece (s : State) (c : Nat) (x : Xfer) (b : Burst) (p : Nat × Nat × Nat) : State :=
  let (a, k, len) := p
  let o := a % 128
  let d : BitVec 1024 := (b.data.extractLsb' (8 * k) 1024)
  let psn := b.bad.extractLsb' k len != 0
  s.porIssue c (.write b.n) x.label x.wscope false false psn (a / 128) (fun r =>
    if o = 0 && len = 128 then .wrLine r d
    else .wrPart r (BitVec.ofNat 128 ((2 ^ len - 1) * 2 ^ o)) (d <<< (8 * o)))

/-- Issue the writes of the next burst in transfer order whose reads have all returned, and enter its bytes into the CRC; `n`
bounds the bursts. -/
def State.porWrites (s : State) (c : Nat) : Nat → State
  | 0 => s
  | n + 1 =>
    match s.xfer c with
    | some x =>
      match x.bursts.find? (fun b => !b.issued) with
      | some b =>
        if b.reads != 0 || x.stop.isSome then s
        else
          let crc := crcBytes x.crc b.len b.data
          let s := (s.setXfer c { x with
            crc := crc
            bursts := x.bursts.map (fun v => if v.n = b.n then { v with issued := true, left := v.pieces.length } else v) }).wrI
              POR_CH_CRC.CRC c crc.toNat
          (b.pieces.foldl (fun s p => s.porPiece c x b p) s).porWrites c n
      | none => s
    | none => s

/-! ### Starting a transfer -/

/-- The registers show the progress of a transfer: next addresses, bytes not yet issued, C. An address whose offset is not at hand
stays as it is. -/
def State.porProgress (s : State) (c : Nat) (x : Xfer) : State :=
  let put (s : State) (lo hi : Field) (a : Option Int) : State := match a with
    | some a => (s.wrI lo c (a % 2 ^ 32).toNat).wrI hi c (a / 2 ^ 32 % 2 ^ 20).toNat
    | none => s
  let s := put s POR_CH_SRC_LO.SRC_LO POR_CH_SRC_HI.SRC_HI (x.srcOf x.k)
  let s := put s POR_CH_DST_LO.DST_LO POR_CH_DST_HI.DST_HI (x.dstOf x.k)
  (s.wrI POR_CH_COUNT.COUNT c (x.total - x.k)).wrI POR_CH_PACE.C c x.n

/-- The alignment of R229. -/
def Xfer.aligned (x : Xfer) : Bool :=
  decide (x.src % 64 = 0) && decide (x.dst % 64 = 0) && decide (x.x % 64 = 0)
    && (x.pat != 1 || (decide (x.ss % 64 = 0) && decide (x.ds % 64 = 0)))

/-- A side of a STRIDE2D transfer leaves the space (R226). -/
def rowsOut (base x y : Nat) (step : Int) : Bool :=
  let last : Int := base + (y - 1 : Nat) * step
  decide (2 ^ 52 ≤ base + x - 1) || decide (last < 0) || decide (2 ^ 52 ≤ last + x - 1)

/-- The conditions of R226 that reject a descriptor, in their order; `hi` says that an address field has bits [63:52] set. -/
def Xfer.invalid (x : Xfer) (s64 hi : Bool) : Option (Nat × Nat) :=
  if s64 && !x.aligned then some (stAlign, 0)
  else if x.wscope < 2 then some (stScopeErr, 0)
  else if x.pat = 3 || x.ctl.toNat % 2 ^ 18 != 0 || (x.scatter && x.pat != 2) || (x.paced && x.pat != 0)
      || x.x = 0 || (x.pat != 0 && x.y = 0) || (x.pat = 2 && decide (4096 < x.x))
      || hi || x.idx % 4 != 0 || x.prod % 4 != 0
      || (x.pat = 1 && (rowsOut x.src x.x x.y x.ss || rowsOut x.dst x.x x.y x.ds))
      || (x.paced && (x.high = 0 || decide (x.high < x.low))) then some (stRefused, rsnField)
  else none

/-- A transfer begins, or is rejected and completes without moving data (R226). -/
def State.porBegin (s : State) (c : Nat) (x : Xfer) (hi : Bool) : State :=
  match x.invalid s.s64 hi with
  | some e => (s.setXfer c { x with stop := some e, reject := true }).porCheck c
  | none =>
    let s := (s.setXfer c x).wrI POR_CH_CRC.CRC c x.crc.toNat
    (s.porProgress c x).porIndex c 4

/-- The transfer of register mode (R239). -/
def State.regXfer (s : State) (c : Nat) : Xfer :=
  let ctl := s.rdI POR_CH_CTL.PRIO c * 2 ^ 26 + s.rdI POR_CH_CTL.LABEL c * 2 ^ 23 + s.rdI POR_CH_CTL.WSCOPE c * 2 ^ 21
    + s.rdI POR_CH_CTL.LAST c * 2 ^ 18
  { ring := false, ctl := BitVec.ofNat 32 ctl, low := 0, high := 0
    src := s.rdI POR_CH_SRC_HI.SRC_HI c * 2 ^ 32 + s.rdI POR_CH_SRC_LO.SRC_LO c
    dst := s.rdI POR_CH_DST_HI.DST_HI c * 2 ^ 32 + s.rdI POR_CH_DST_LO.DST_LO c
    x := s.rdI POR_CH_COUNT.COUNT c, y := 0, ss := 0, ds := 0, idx := 0, prod := 0, desc := 0, head := 0
    crc0 := BitVec.ofNat 32 (s.rdI POR_CH_CRC.CRC c), crc := 0xFFFFFFFF#32, k := 0, n := 0, pace := .off, p := 0
    lines := [], nextLn := 0, bursts := [], stop := none, reject := false, pois := false, sealed := false, err := none
    finish := false }

/-- The transfer of a descriptor (R224), and whether an address field has bits [63:52] set. -/
def State.ringXfer (s : State) (c : Nat) (desc : Nat) (d : BitVec 512) : Xfer × Bool :=
  let ctl : Word := d.extractLsb' 0 32
  let u (b n : Nat) : Nat := (d.extractLsb' (8 * b) (8 * n)).toNat
  let old : Word := BitVec.ofNat 32 (s.rdI POR_CH_CRC.CRC c)
  let x : Xfer :=
    { ring := true, ctl := ctl, low := u 4 2, high := u 6 2, src := u 8 8 % 2 ^ 52, dst := u 16 8 % 2 ^ 52, x := u 24 4, y := u 28 4
      ss := (d.extractLsb' 256 32).toInt, ds := (d.extractLsb' 288 32).toInt, idx := u 40 8 % 2 ^ 52, prod := u 48 8 % 2 ^ 52
      desc := desc, head := s.rdI POR_CH_RING_CFG.HEAD c, crc0 := old
      crc := if ctl.getLsbD 19 then old else 0xFFFFFFFF#32
      k := 0, n := 0, pace := if ctl.getLsbD 20 then .wait else .off, p := 0, lines := [], nextLn := u 40 8 % 2 ^ 52 / 128
      bursts := [], stop := none, reject := false, pois := false, sealed := false, err := none, finish := false }
  (x, [8, 16, 40, 48].any (fun b => decide (2 ^ 52 ≤ u b 8)))

/-- A register-mode channel with START = 1 begins once it is active. -/
def State.porKick (s : State) (c : Nat) : State :=
  if s.porActive c && s.flagI POR_CH_CTL.START c && !(s.flagI POR_CH_CTL.MODE c) && (s.xfer c).isNone then
    s.porBegin c (s.regXfer c) false
  else s

end Sys2Proof.Machine
end

