-- ==== Sys2Proof/Machine/Porter.lean ====
section
/-! DEFINITION. The commands of Porter (spec/08_porter.md): descriptor and producer polls, grants, responses, register mode, and the
disabling and enabling of channels. -/

namespace Sys2Proof.Machine

/-! ### Polls (R221, R222, R232) -/

/-- A ring channel reads the descriptor at HEAD. -/
def State.descPoll (s : State) (c : Nat) : State :=
  if s.porActive c && s.flagI POR_CH_CTL.MODE c && !(s.flagI POR_CH_CTL.HALT c) && (s.xfer c).isNone
      && s.por.reqs.all (fun q => !(q.ch = c && q.kind == .descriptor)) then
    let base := s.rdI POR_CH_RING_HI.BASE_HI c * 2 ^ 32 + s.rdI POR_CH_RING_LO.BASE_LO c * 64
    let a := (base + 64 * s.rdI POR_CH_RING_CFG.HEAD c) % 2 ^ 52
    (s.porIssue c .descriptor (s.rdI POR_CH_CTL.LABEL c) (s.rdI POR_CH_CTL.DSC_SCOPE c) false true false (a / 128) .rdOnce).showPor
  else s

/-- DESCRIPTOR_POLL (R221). -/
def execDescriptorPoll (ch : BitVec 4) (s : State) : Host.Outcome State Fault Refusal := settled (s.begin.descPoll ch.toNat)

/-- A paced channel reads the producer word: in WAIT, or once F has fallen to LOW. -/
def State.prodPoll (s : State) (c : Nat) : State :=
  match s.xfer c with
  | some x =>
    if s.porActive c && x.stop.isNone && !x.finish && (x.pace == .wait || x.pace == .low)
        && s.por.reqs.all (fun q => !(q.ch = c && q.kind == .producer)) then
      (s.porIssue c .producer x.label (s.rdI POR_CH_CTL.DSC_SCOPE c) false true false (x.prod / 128) .rdOnce).showPor
    else s
  | none => s

/-- PRODUCER_POLL (R232). -/
def execProducerPoll (ch : BitVec 4) (s : State) : Host.Outcome State Fault Refusal := settled (s.begin.prodPoll ch.toNat)

/-! ### Grants (R233) -/

/-- F of R232. -/
def Xfer.ahead (x : Xfer) : Nat := min x.p x.bursts' - x.n
/-- R of R232. -/
def Xfer.rest (x : Xfer) : Nat := x.bursts' - x.n

/-- The channel is ready (R233, R249). -/
def State.porReady (s : State) (c : Nat) : Bool :=
  match s.xfer c with
  | some x =>
    s.porActive c && !s.capUsed && x.stop.isNone && !x.finish && decide (x.k < x.total) && decide (x.bursts.length < 16)
      && (x.pace == .off || (x.pace == .run && decide (0 < x.ahead))) && decide (0 ≤ s.bucket x.label)
      && (x.pat != 2 || (List.range (x.burstLen x.k)).all (fun j => (x.off ((x.k + j) / x.x)).isSome))
  | none => false

/-- Issue the reads of a burst. -/
def State.porReads (s : State) (c : Nat) (x : Xfer) (ps : List (Int × Nat × Nat)) : State :=
  ps.foldl (fun s p =>
    let a := p.1.toNat
    let full := x.lastRead && a % 128 = 0 && p.2.2 = 128
    s.porIssue c (.read x.n (p.2.1 - x.k) p.2.2 (a % 128)) x.label (if x.ring then s.rdI POR_CH_CTL.DSC_SCOPE c else x.wscope)
      false false false (a / 128) (if full then .rdLast else .rdOnce)) s

/-- The next burst of a channel is granted its buffer and its reads are issued; an address outside the space stops the
transfer (R234). -/
def State.porGrant (s : State) (c : Nat) (x : Xfer) : State :=
  let len := x.burstLen x.k
  let src := cutPieces x.srcOf x.k len
  let dst := cutPieces x.dstOf x.k len
  if !(src.all inSpace && dst.all inSpace) then (s.porStop c stRefused rsnField).porCheck c
  else
    let s := s.charge x.label ((len + 63) / 64 : Nat)
    let b : Burst := ⟨x.n, len, 0, 0, dst.map (fun p => (p.1.toNat, p.2.1 - x.k, p.2.2)), src.length, false, 0⟩
    let y : Xfer := { x with k := x.k + len, n := x.n + 1, bursts := x.bursts ++ [b] }
    let y : Xfer := { y with lines := if y.x = 0 then y.lines else tfilter (fun n _ => decide ((y.idx + 4 * (y.k / y.x)) / 128 ≤ n)) y.lines }
    let y : Xfer := if y.pace == .run && decide (y.ahead ≤ y.low) && decide (y.ahead < y.rest) then { y with pace := .low } else y
    let s := { (s.setXfer c y) with por := { (s.setXfer c y).por with last := tset s.por.last x.prio c } }
    ((s.porReads c x src).porProgress c y).porIndex c 4

/-- The buffers of Porter. -/
def State.porBuffers (s : State) : Nat := if s.s64 then 32 else 64

/-- The ready channel that is granted next: the highest PRIO, and among equals the first after the channel last granted there. -/
def State.porNext (s : State) : Option Nat :=
  [3, 2, 1, 0].findSome? (fun p =>
    let from' := match tfind s.por.last p with
      | some c => c + 1
      | none => 0
    ((List.range 16).map (fun j => (from' + j) % 16)).find? (fun c =>
      s.porReady c && (match s.xfer c with | some x => x.prio = p | none => false)))

/-- PORTER_BURST_GRANT: with a buffer free, the next burst is granted. -/
def State.porGrantNext (s : State) : State :=
  if s.porBuffers ≤ s.porBursts then s
  else match s.porNext with
    | some c => match s.xfer c with
      | some x => (s.porGrant c x).showPor
      | none => s
    | none => s

/-- PORTER_BURST_GRANT (R233). -/
def execPorterBurstGrant (s : State) : Host.Outcome State Fault Refusal := settled s.begin.porGrantNext

/-! ### Responses (R234, R236, R238) -/

/-- A burst received a code other than OK and NACK_RETRY. -/
def Xfer.noted (x : Xfer) (n status : Nat) : Xfer :=
  let x := if status = stPoison then { x with pois := true } else if status = stSealed then { x with sealed := true } else x
  { x with err := match x.err with | some m => some (min m n) | none => some n }

/-- The data of a read piece. -/
def Burst.take (b : Burst) (k len off : Nat) (d : LineData) (bad : Bool) : Burst :=
  let bytes := ((d >>> (8 * off)) &&& BitVec.ofNat 1024 (2 ^ (8 * len) - 1)).setWidth 4096 <<< (8 * k)
  { b with
    data := b.data ||| bytes
    bad := if bad then b.bad ||| BitVec.ofNat 512 ((2 ^ len - 1) * 2 ^ k) else b.bad
    reads := b.reads - 1 }

/-- A response to a data read. -/
def State.porRead (s : State) (c n k len off : Nat) (st rsn : Nat) (d : LineData) : State :=
  match s.xfer c with
  | none => s
  | some x =>
    let x := if st = stOk then x else x.noted n st
    if st = stOk || st = stPoison || st = stSealed then
      s.setXfer c { x with bursts := x.bursts.map (fun b => if b.n = n then b.take k len off d (st != stOk) else b) }
    else (s.setXfer c x).porStop c st rsn

/-- A response to an index read. -/
def State.porIndexed (s : State) (c n st rsn : Nat) (d : LineData) : State :=
  match s.xfer c with
  | none => s
  | some x =>
    if st = stOk then (s.setXfer c { x with lines := tset x.lines n d }).porIndex c 4 else s.porStop c st rsn

/-- A response to a producer read: the pacing states of R232. -/
def State.porProduced (s : State) (c st rsn : Nat) (d : LineData) : State :=
  match s.xfer c with
  | none => s
  | some x =>
    if st != stOk then s.porStop c st rsn
    else
      let p := (d.extractLsb' (8 * (x.prod % 128)) 32).toNat
      let x := { x with p := p }
      let s := s.wrI POR_CH_PACE.P c p
      let go := x.ahead
      let pace : Pace := match x.pace with
        | .wait => if decide (x.high ≤ go) || (decide (x.rest ≤ go) && decide (0 < go)) then .run else .wait
        | .low => if decide (go ≤ x.low) && decide (go < x.rest) then .wait else .run
        | z => z
      s.setXfer c { x with pace := pace }

/-- A response to a data write. -/
def State.porWritten (s : State) (c n st rsn : Nat) : State :=
  match s.xfer c with
  | none => s
  | some x =>
    if st = stOk then
      let bs := x.bursts.map (fun b => if b.n = n then { b with left := b.left - 1 } else b)
      s.setXfer c { x with bursts := bs.filter (fun b => !(b.issued && b.left = 0)) }
    else (s.setXfer c (x.noted n st)).porStop c st rsn

/-- A completion stops (R236): OWN stays 1, LAST receives the code, HEAD stands at the descriptor, and the channel halts. -/
def State.porBroken (s : State) (c st rsn : Nat) (head : Nat) : State :=
  let s := s.wrI POR_CH_LAST.STATUS c (porWord st rsn false none)
  let s := if (s.xfer c).isNone then s.wrI POR_CH_RING_CFG.HEAD c head else s
  s.porHalt c st rsn

/-- A response to the status write. -/
def State.porStatused (s : State) (c st rsn : Nat) : State :=
  match s.xfer c with
  | none => s
  | some x => if st = stOk then s.porOwn c x else (s.dropXfer c).porBroken c st rsn x.head

/-- A response to a descriptor read (R221, R238). -/
def State.porDescribed (s : State) (c st rsn : Nat) (d : LineData) : State :=
  if s.flagI POR_CH_CTL.HALT c then s
  else if st = stOk then
    let base := s.rdI POR_CH_RING_HI.BASE_HI c * 2 ^ 32 + s.rdI POR_CH_RING_LO.BASE_LO c * 64
    let a := (base + 64 * s.rdI POR_CH_RING_CFG.HEAD c) % 2 ^ 52
    let w : BitVec 512 := d.extractLsb' (8 * (a % 128)) 512
    if w.getLsbD 31 then
      let (x, hi) := s.ringXfer c a w
      s.porBegin c x hi
    else s
  else (s.wrI POR_CH_LAST.STATUS c (porWord st rsn false none)).porHalt c st rsn

/-- The RETRY count of a resent request (R124), saturating at 7. -/
def bumpRetry (r : Req) : Req := { r with retry := if r.retry = 7 then 7 else r.retry + 1 }

/-- A request of Porter with its RETRY count advanced. -/
def retried : Instr → Instr
  | .rdOnce r => .rdOnce (bumpRetry r)
  | .rdLast r => .rdLast (bumpRetry r)
  | .wrLine r d => .wrLine (bumpRetry r) d
  | .wrPart r be d => .wrPart (bumpRetry r) be d
  | i => i

/-- The answered request `q`, no longer in flight, has its effect on its channel; a channel that stops takes none (R240). -/
def State.porAct (s : State) (q : PorReq) (st rsn : Nat) (d : LineData) : State :=
  let c := q.ch
  if s.flagI POR_CH_CTL.STOPPING c then s
  else
    let s := match q.kind with
      | .read n k len off => s.porRead c n k len off st rsn d
      | .write n => s.porWritten c n st rsn
      | .index n => s.porIndexed c n st rsn d
      | .producer => s.porProduced c st rsn d
      | .descriptor => s.porDescribed c st rsn d
      | .status => s.porStatused c st rsn
      | .own head => if st = stOk then s else s.porBroken c st rsn head
    (s.porWrites c 16).porCheck c

/-- A NACK_RETRY: the request waits for its back-off, unless its channel or its transfer issues nothing more. -/
def State.porNacked (s : State) (q : PorReq) : State :=
  let ended := s.flagI POR_CH_CTL.STOPPING q.ch
    || (q.kind.moves && (match s.xfer q.ch with | some x => x.stop.isSome | none => true))
  if ended then ({ s with por := { s.por with reqs := s.por.reqs.erase q } }).porCheck q.ch
  else { s with por := { s.por with
    reqs := s.por.reqs.map (fun p => if p = q then { p with cmd := retried p.cmd, wait := true } else p) } }

/-- A response arrives for a request in flight. A reserved code counts as failed and is recorded (R14); one that answers nothing
in flight changes nothing. -/
def State.porAnswer (s : State) (c : Nat) (q? : Option PorReq) (a : Answer) : State :=
  match q? with
  | none => s
  | some q =>
    let st := a.status.toNat
    let s := if 10 ≤ st then s.protocol 2 0 none c st 2 else s
    let st := if 10 ≤ st then stRefused else st
    let rsn := if 10 ≤ a.status.toNat then 0 else a.reason.toNat
    if st = stNack then (s.porNacked q).showPor
    else ({ s with por := { s.por with reqs := s.por.reqs.erase q } }.porAct q st rsn a.data).showPor

/-- The request in flight of a channel under a TAG. -/
def State.porFind (s : State) (c : Nat) (tag : BitVec 11) : Option PorReq :=
  s.por.reqs.find? (fun q => q.ch = c && q.tag = tag && !q.wait)

/-- DESCRIPTOR_RESPONSE (R238). -/
def execDescriptorResponse (ch : BitVec 4) (a : Answer) (s : State) : Host.Outcome State Fault Refusal :=
  let s := s.begin
  settled (s.porAnswer ch.toNat (s.por.reqs.find? (fun q => q.ch = ch.toNat && q.kind == .descriptor && !q.wait)) a)

/-- PORTER_RESPONSE (R234). -/
def execPorterResponse (ch : BitVec 4) (tag : BitVec 11) (a : Answer) (s : State) : Host.Outcome State Fault Refusal :=
  let s := s.begin
  settled (s.porAnswer ch.toNat (s.porFind ch.toNat tag) a)

/-- A request answered NACK_RETRY is sent again (R220). -/
def State.porResend (s : State) (c : Nat) (tag : BitVec 11) : State :=
  match s.por.reqs.find? (fun q => q.ch = c && q.tag = tag && q.wait) with
  | some q =>
    if !(s.porActive c) then s
    else match reqOf q.cmd with
      | some r =>
        ({ s with por := { s.por with reqs := s.por.reqs.map (fun p => if p = q then { p with wait := false } else p) } }).porRoute c q.cmd r
      | none => s
  | none => s

/-- PORTER_RETRY_RESEND (R220). -/
def execPorterRetryResend (ch : BitVec 4) (tag : BitVec 11) (s : State) : Host.Outcome State Fault Refusal :=
  settled (s.begin.porResend ch.toNat tag)

/-! ### Disabling and enabling (R240 to R242) -/

/-- A value between two bounds that the spec leaves open (R240, notes/assumptions/4.md). -/
def between (c : Nat) (a b : Int) : Int :=
  let lo := min a b
  lo + (Config.freeNat c % ((max a b - lo).toNat + 1) : Nat)

/-- What a shutdown leaves in SRC, DST, COUNT and CRC: some value between start and end, and the CRC of some prefix (R240). -/
def State.porAbandon (s : State) (c : Nat) (x : Xfer) : State :=
  let put (s : State) (lo hi : Field) (start stop : Int) : State :=
    let (f, s) := s.fresh
    let a := between f start stop
    (s.wrI lo c (a % 2 ^ 32).toNat).wrI hi c (a / 2 ^ 32 % 2 ^ 20).toNat
  let reach (base : Nat) (of : Nat → Option Int) : Int := (of x.total).getD base
  let s := put s POR_CH_SRC_LO.SRC_LO POR_CH_SRC_HI.SRC_HI x.src (reach x.src x.srcOf)
  let s := put s POR_CH_DST_LO.DST_LO POR_CH_DST_HI.DST_HI x.dst (reach x.dst x.dstOf)
  let (f, s) := s.fresh
  let s := s.wrI POR_CH_COUNT.COUNT c (between f 0 x.total).toNat
  let (f, s) := s.fresh
  s.wrI POR_CH_CRC.CRC c (if Config.freeNat f % 2 = 0 then x.crc0 else x.crc).toNat

/-- A channel's work is dropped (R240): no further request, no completion; what waits for a back-off is not sent again. -/
def State.porShut (s : State) (c : Nat) : State :=
  let s := match s.xfer c with
    | some x =>
      let s := if x.reject || x.finish then s else s.porAbandon c x
      { (s.dropXfer c) with por := { (s.dropXfer c).por with saved := tset s.por.saved c x.crc0 } }
    | none => s
  { s with por := { s.por with reqs := s.por.reqs.filter (fun q => !(q.ch = c && q.wait)) } }

/-- A channel starts: a waiting START of register mode begins. -/
def State.porStart (s : State) (c : Nat) : State := s.porKick c

/-- The shutdown of Porter ends with that of its last channel. -/
def State.porAllStopped (s : State) : State :=
  if s.flag POR_CTL.STOPPING && s.por.reqs.isEmpty && (List.range 16).all (fun c => !(s.flagI POR_CH_CTL.STOPPING c)) then
    s.endStop POR_CTL.EN_PEND POR_CTL.STOPPING 0 (fun s => (List.range 16).foldl (fun s c => s.porKick c) s)
  else s

/-- The shutdown of a channel ends: CRC is restored, START reads 0, and a pending enable takes effect (R240, R241). -/
def State.porStopEnd (s : State) (c : Nat) : State :=
  let s := if s.flagI POR_CH_CTL.STOPPING c && (s.porReqs c).isEmpty then
      let s := match tfind s.por.saved c with
        | some w => { (s.wrI POR_CH_CRC.CRC c w.toNat) with por := { (s.wrI POR_CH_CRC.CRC c w.toNat).por with saved := tdel s.por.saved c } }
        | none => s
      let s := s.setFlagI POR_CH_CTL.START c false
      s.endStop POR_CH_CTL.EN_PEND POR_CH_CTL.STOPPING c (fun s => s.porStart c)
    else s
  s.porAllStopped.showPor

/-- PORTER_CHANNEL_STOP_END (R240, R241). -/
def execPorterChannelStopEnd (ch : BitVec 4) (s : State) : Host.Outcome State Fault Refusal :=
  settled (s.begin.porStopEnd ch.toNat)

/-- A write of POR_CTL.EN = 0 acts on every channel at once (R242). -/
def State.porShutAll (s : State) : State :=
  (List.range 16).foldl (fun s c =>
    if s.flagI POR_CH_CTL.STOPPING c then s
    else if s.flagI POR_CH_CTL.EN c || (s.xfer c).isSome || !(s.porReqs c).isEmpty then
      (s.setFlagI POR_CH_CTL.STOPPING c true).porShut c
    else s) s

/-- A write of POR_CTL (R242, R331). -/
def State.writePorCtl (s : State) (m : MgWrite) : State :=
  let s := s.writeEn POR_CTL.EN POR_CTL.EN_PEND POR_CTL.STOPPING 0 (m.word.getLsbD 31) State.porShutAll
    (fun s => (List.range 16).foldl (fun s c => s.porKick c) s)
  s.showPor.ok m.src

/-- PORTER_DISABLE (R242). -/
def execPorterDisable (m : MgWrite) (s : State) : Host.Outcome State Fault Refusal :=
  settled (s.begin.mgWrite (.porterDisable m) POR_CTL.word.off m (fun s => s.writePorCtl m))
/-- PORTER_ENABLE (R242). -/
def execPorterEnable (m : MgWrite) (s : State) : Host.Outcome State Fault Refusal :=
  settled (s.begin.mgWrite (.porterEnable m) POR_CTL.word.off m (fun s => s.writePorCtl m))

/-! ### POR_CH_CTL (R237, R239 to R241) -/

/-- A write of POR_CH_CTL is refused (R239). -/
def State.porCtlBad (s : State) (c : Nat) (w : Word) : Bool :=
  let ch (f : Field) : Bool := fieldGet f w != s.rdI f c
  let start := s.flagI POR_CH_CTL.START c
  let stop := s.flagI POR_CH_CTL.STOPPING c
  let goes := fieldGet POR_CH_CTL.START w != 0
  decide (fieldGet POR_CH_CTL.DSC_SCOPE w < 2) || decide (fieldGet POR_CH_CTL.WSCOPE w < 2)
    || (goes && (start || stop || fieldGet POR_CH_CTL.MODE w != 0 || s.rdI POR_CH_COUNT.COUNT c = 0))
    || ((ch POR_CH_CTL.MODE || ch POR_CH_CTL.DSC_SCOPE) && (s.flagI POR_CH_CTL.EN c || stop))
    || ((ch POR_CH_CTL.PRIO || ch POR_CH_CTL.LABEL || ch POR_CH_CTL.WSCOPE || ch POR_CH_CTL.LAST) && (start || stop))

/-- HALT is cleared: the CRC register is set to all ones, and the channel goes on at HEAD (R237). -/
def State.porUnhalt (s : State) (c : Nat) : State :=
  if s.flagI POR_CH_CTL.HALT c then
    ((s.setFlagI POR_CH_CTL.HALT c false).setBit POR_CTL.HALTED c false).wrI POR_CH_CRC.CRC c 0xFFFFFFFF
  else s

/-- A write of POR_CH_CTL. -/
def State.writePorCh (s : State) (c : Nat) (m : MgWrite) : State :=
  let w := m.word
  if s.porCtlBad c w then s.refuse m.src rsnField
  else
    let put (s : State) (f : Field) : State := s.wrI f c (fieldGet f w)
    let s := [POR_CH_CTL.MODE, POR_CH_CTL.DSC_SCOPE, POR_CH_CTL.PRIO, POR_CH_CTL.LABEL, POR_CH_CTL.WSCOPE, POR_CH_CTL.LAST].foldl put s
    let s := if fieldGet POR_CH_CTL.HALT w != 0 then s.porUnhalt c else s
    let s := s.writeEn POR_CH_CTL.EN POR_CH_CTL.EN_PEND POR_CH_CTL.STOPPING c (w.getLsbD 31) (fun s => s.porShut c) (fun s => s.porStart c)
    let s := if fieldGet POR_CH_CTL.START w != 0 && !(s.flagI POR_CH_CTL.STOPPING c) then
        (s.setFlagI POR_CH_CTL.START c true).porKick c
      else s
    s.showPor.ok m.src

/-- PORTER_START (R239). -/
def execPorterStart (ch : BitVec 4) (m : MgWrite) (s : State) : Host.Outcome State Fault Refusal :=
  settled (s.begin.mgWrite (.porterStart ch m) (POR_CH_CTL.word.off + 64 * ch.toNat) m (fun s => s.writePorCh ch.toNat m))
/-- PORTER_CHANNEL_DISABLE (R240). -/
def execPorterChannelDisable (ch : BitVec 4) (m : MgWrite) (s : State) : Host.Outcome State Fault Refusal :=
  settled (s.begin.mgWrite (.porterChannelDisable ch m) (POR_CH_CTL.word.off + 64 * ch.toNat) m (fun s => s.writePorCh ch.toNat m))
/-- PORTER_CHANNEL_ENABLE (R241). -/
def execPorterChannelEnable (ch : BitVec 4) (m : MgWrite) (s : State) : Host.Outcome State Fault Refusal :=
  settled (s.begin.mgWrite (.porterChannelEnable ch m) (POR_CH_CTL.word.off + 64 * ch.toNat) m (fun s => s.writePorCh ch.toNat m))
/-- PORTER_HALT_CLEAR (R237). -/
def execPorterHaltClear (ch : BitVec 4) (m : MgWrite) (s : State) : Host.Outcome State Fault Refusal :=
  settled (s.begin.mgWrite (.porterHaltClear ch m) (POR_CH_CTL.word.off + 64 * ch.toNat) m (fun s => s.writePorCh ch.toNat m))

/-- A write of the other registers of a channel (R239): ring registers only while EN and STOPPING are 0, SRC, DST and COUNT only
while START and STOPPING are 0; LEN_LOG of 13 to 15 and HEAD of 2^LEN_LOG or more are refused. -/
def State.writePorField (s : State) (off : Nat) (m : MgWrite) : State :=
  let c := (off - POR_CH_CTL.word.off) / 64
  let o := (off - POR_CH_CTL.word.off) % 64
  let stop := s.flagI POR_CH_CTL.STOPPING c
  let len := fieldGet POR_CH_RING_CFG.LEN_LOG m.word
  if o = 0x04 || o = 0x08 || o = 0x0C then
    if s.flagI POR_CH_CTL.EN c || stop then s.refuse m.src rsnField
    else if o = 0x0C && (decide (13 ≤ len) || decide (2 ^ len ≤ fieldGet POR_CH_RING_CFG.HEAD m.word)) then s.refuse m.src rsnField
    else (s.plain off m.word).ok m.src
  else if 0x10 ≤ o && o ≤ 0x20 then
    if s.flagI POR_CH_CTL.START c || stop then s.refuse m.src rsnField else (s.plain off m.word).ok m.src
  else (s.plain off m.word).ok m.src

end Sys2Proof.Machine
end

