-- ==== Sys2Proof/Machine/Link.lean ====
section
/-! DEFINITION. The casements and the link layer (R392 to R402): headers and payloads of messages, the checks of R245 and R400, flits with
their sequence and CRC, replay, link credits, and what arrives at the far port. -/

namespace Sys2Proof.Machine

/-! ### Headers (R397, R398) -/

/-- Bits `lo` to `lo + w − 1` of a header. -/
def hb (h : BitVec 256) (lo w : Nat) : Nat := (h.extractLsb' lo w).toNat

/-- CLASS. -/
def mCls (h : BitVec 256) : Nat := hb h 0 3
/-- TYPE. -/
def mTyp (h : BitVec 256) : Nat := hb h 3 5
/-- STATUS. -/
def mStatus (h : BitVec 256) : Nat := hb h 8 4
/-- KIND. -/
def mKind (h : BitVec 256) : Nat := hb h 27 2
/-- PLEN. -/
def mPlen (h : BitVec 256) : Nat := hb h 45 3
/-- TAG. -/
def mTag (h : BitVec 256) : BitVec 11 := h.extractLsb' 32 11
/-- ID. -/
def mId (h : BitVec 256) : BitVec 5 := h.extractLsb' 16 5
/-- PSLICE. -/
def mSlice (h : BitVec 256) : BitVec 6 := h.extractLsb' 21 6
/-- LINE. -/
def mLine (h : BitVec 256) : LineAddr := h.extractLsb' 64 45
/-- PSN. -/
def mPsn (h : BitVec 256) : Bool := h.getLsbD 29

/-- The requester that a header names; KIND 3 is taken as 2 in the answer that refuses it (notes/assumptions/31.md). -/
def mWho (h : BitVec 256) : Requester :=
  ⟨match mKind h with | 0 => .agent | 1 => .porter | _ => .slice, mId h, mSlice h⟩

/-- The message is a REQ of the types 0x10 to 0x17. -/
def mLedger (h : BitVec 256) : Bool := mCls h = 0 && decide (0x10 ≤ mTyp h) && decide (mTyp h ≤ 0x17)

/-- Class and type are in the table of R116, the reserved Ledger types apart (R171). -/
def mKnown (h : BitVec 256) : Bool :=
  let t := mTyp h
  match mCls h with
  | 0 => decide (t ≤ 9) || mLedger h
  | 1 => decide (t ≤ 6)
  | 2 => decide (t ≤ 5)
  | 3 => decide (t ≤ 8)
  | 4 => decide (t ≤ 1)
  | _ => false

/-- Reserved bits that are 0 in every message of R397. -/
def commonZero (h : BitVec 256) : Bool :=
  hb h 15 1 = 0 && hb h 30 2 = 0 && hb h 43 2 = 0 && hb h 54 10 = 0 && hb h 109 19 = 0
    && (mKind h != 0 || hb h 21 6 = 0) && (mKind h != 1 || hb h 20 1 = 0) && (mKind h != 2 || hb h 16 5 = 0)
    && (mCls h = 1 || mCls h = 3 || hb h 48 6 = 0)

/-- Bits of R398 that are 0 for the class and type. -/
def extZero (h : BitVec 256) : Bool :=
  match mCls h with
  | 0 => if mLedger h then hb h 194 62 = 0 else hb h 169 23 = 0 && hb h 224 32 = 0
  | 1 => if mTyp h = 5 then hb h 169 23 = 0 && hb h 224 32 = 0 else hb h 128 128 = 0
  | 2 => hb h 133 3 = 0 && hb h 144 112 = 0
  | 3 => hb h 133 123 = 0
  | 4 => hb h 130 2 = 0 && hb h 137 7 = 0 && hb h 153 103 = 0
  | _ => true

/-- PLEN of R399. -/
def plenOf (h : BitVec 256) : Nat :=
  match mCls h, mTyp h with
  | 0, 5 => 4
  | 0, 6 => 5
  | 0, 7 => 1
  | 0, 0x10 | 0, 0x11 => if h.getLsbD 163 then 4 else 2
  | 0, 0x14 | 0, 0x15 => if h.getLsbD 181 then 1 else 0
  | 1, 5 => 1
  | 3, 8 => 1
  | 3, _ => 4
  | _, _ => 0

/-- A message has a fault of R400. -/
def mFaulty (h : BitVec 256) : Bool := !(commonZero h && extZero h) || mPlen h != plenOf h || mKind h = 3

/-! ### Requests -/

/-- The operation of a Ledger type (R169). -/
def ledgerKindOf (t : Nat) : LedgerKind :=
  match t with
  | 0x10 => .lacc | 0x11 => .laccS | 0x12 => .lmerge | 0x13 => .lsnap | 0x14 => .ldrain | 0x15 => .lclr | _ => .reserved

/-- The request of a REQ header. -/
def mReq (cas : Nat) (h : BitVec 256) : Req :=
  let led := mLedger h
  { who := mWho h, cas := BitVec.ofNat 2 cas, tag := mTag h, label := h.extractLsb' 12 3, line := mLine h
    scope := if led then h.extractLsb' 182 2 else h.extractLsb' 128 2
    rel := !led && h.getLsbD 130, acq := !led && h.getLsbD 131, winV := !led && h.getLsbD 132
    win := if led then 0 else h.extractLsb' 133 4
    noack := if led then h.getLsbD 174 else h.getLsbD 137
    retry := if led then h.extractLsb' 184 3 else h.extractLsb' 138 3
    mcg := if led then 0 else h.extractLsb' 141 5
    psn := mPsn h }

/-- The Ledger operation of a REQ header and its payload. -/
def mLedgerOp (h : BitVec 256) (d : LineData) : LedgerOp :=
  { kind := ledgerKindOf (mTyp h), epoch := h.extractLsb' 128 32, cfmt := h.extractLsb' 160 3, beats := h.getLsbD 163
    shape := h.extractLsb' 164 2, sidx := h.extractLsb' 166 8, ridx := h.extractLsb' 175 2, half := h.getLsbD 177
    rmode := h.extractLsb' 178 2, sat := h.getLsbD 180, seedV := h.getLsbD 181, offset := h.extractLsb' 187 7
    data := d, image := 0, ctx := 0, seq := 0 }

/-- The atomic of a header and its payload slot. -/
def mAtom (h p : BitVec 256) : AtomOp :=
  { op := h.extractLsb' 146 4, size := h.getLsbD 150, offset := h.extractLsb' 151 7, operand := p.extractLsb' 0 64
    compare := p.extractLsb' 64 64 }

/-- The command of a REQ message in slot `i` of a flit. -/
def mInstr (cas : Nat) (flit : BitVec 2048) (i : Nat) : Instr :=
  let h : BitVec 256 := flit.extractLsb' (256 * i) 256
  let p1 : BitVec 256 := flit.extractLsb' (256 * (i + 1)) 256
  let d1 : LineData := flit.extractLsb' (256 * (i + 1)) 1024
  let d2 : LineData := flit.extractLsb' (256 * (i + 2)) 1024
  let r := mReq cas h
  match mTyp h with
  | 0 => .rdS r | 1 => .rdX r | 2 => .upg r | 3 => .rdOnce r | 4 => .rdLast r
  | 5 => .wrLine r d1
  | 6 => .wrPart r (p1.extractLsb' 0 128) d2
  | 7 => .atom r (mAtom h p1)
  | 8 => .evict r
  | 9 => .range r ⟨h.extractLsb' 158 3, h.extractLsb' 161 8, h.extractLsb' 192 32⟩
  | _ => .ledgerOpAccept r (mLedgerOp h (if h.getLsbD 163 then d1 else d1 &&& BitVec.ofNat 1024 (2 ^ 512 - 1)))

/-- A REQ message that the link layer has separated enters the request buffer with its credit (R28, R245); without one in hand it is
refused. Before step 9 no credit has been granted, and the request is answered PARKED at its lane (R283). -/
def State.enterReq (s : State) (i : Instr) (r : Req) : State :=
  let k := s.poolOf r (poolKind i)
  let room (s : State) : State := { s with front := { s.front with inbox := s.front.inbox ++ [i] } }
  if !s.online then room s
  else if s.credit k = 0 then
    let s := s.fault 8 1 1 (detail := r.label.toNat ||| (poolKind i) <<< 8) (loc := some r.line) (status := stRefused)
      (srcKind := srcKindOf r.who) (srcId := r.who.id.toNat)
    s.complete r stRefused rsnField
  else room (s.setCredit k (s.credit k - 1))

/-! ### Answers from agents, slices and homes -/

/-- The agent that a RSP or DAT message about a line comes from. The header names the original requester (R397) and no field the
answering agent: it is the one named, where the line's transaction awaits it; otherwise the agent whose forward is awaited, otherwise the
lowest whose invalidation is (notes/assumptions/31.md). -/
def State.answerer (s : State) (line : LineAddr) (id : BitVec 5) : BitVec 5 :=
  match s.txn line with
  | some t =>
    if t.fwd = some id || t.awaitsAck id || t.wbFrom = some id then id
    else match t.fwd with
      | some a => a
      | none => match agentsOf t.acks with
        | a :: _ => BitVec.ofNat 5 a
        | [] => match t.wbFrom with
          | some a => a
          | none => match s.ownerOf line with
            | some o => if t.copy then o else id
            | none => id
  | none => id

/-- A response to this slice's own Porter. -/
def State.porterRsp (s : State) (h : BitVec 256) (d : LineData) : State :=
  let c := (mId h).toNat
  (s.porAnswer c (s.porFind c (mTag h)) ⟨BitVec.ofNat 4 (mStatus h), if mCls h = 2 then h.extractLsb' 136 8 else 0, d⟩)

/-- A RSP message. -/
def State.rspIn (s : State) (h : BitVec 256) : State :=
  let line := mLine h
  let w := mWho h
  let a := s.answerer line (mId h)
  match mTyp h with
  | 0 =>
    if s.ownPorter w then s.porterRsp h 0
    else if w.kind = .slice && w.pslice = s.pslice && mStatus h = stParked then
      match s.ord.acqs.findSome? (fun q => (q.slices.find? (fun x => x.2 = mTag h)).map (fun x => (q, x.1))) with
      | some (q, p) => s.acquireParked q.r.who q.r.tag p
      | none => s.protocol 2 0 (some line) (mId h).toNat
    else s.protocol 2 0 (some line) (mId h).toNat
  | 1 => s.ackInv a line
  | 2 => s.fwdDone a line (h.getLsbD 131)
  | 3 => s.fwdMiss a line (h.getLsbD 132)
  | t => s.protocol 2 t (some line) (mId h).toNat

/-- A DAT message. -/
def State.datIn (s : State) (h : BitVec 256) (d : LineData) : State :=
  let line := mLine h
  match mTyp h with
  | 5 => s.writeBackFrom (mId h) (mTag h) (h.extractLsb' 12 3) line d (mPsn h)
  | 6 => s.wbCopyFrom (s.answerer line (mId h)) line d (mPsn h)
  | 7 => s.binvDataFrom (s.answerer line (mId h)) line d (mPsn h)
  | t =>
    if s.ownPorter (mWho h) then
      let st := if mPsn h && mStatus h = stOk then BitVec.ofNat 4 stPoison else BitVec.ofNat 4 (mStatus h)
      let c := (mId h).toNat
      s.porAnswer c (s.porFind c (mTag h)) ⟨st, 0, d⟩
    else s.protocol 3 t (some line) (mId h).toNat

/-- A BAR message: FENCE enters the buffer, FENCE_DONE is counted for the acquire whose FENCE had its TAG. -/
def State.barIn (s : State) (cas : Nat) (h : BitVec 256) : State :=
  if mTyp h = 0 then
    let f : FenceReq := ⟨mWho h, BitVec.ofNat 2 cas, mTag h, h.extractLsb' 12 3, h.extractLsb' 128 2, h.getLsbD 132, h.extractLsb' 133 4⟩
    { s with front := { s.front with inbox := s.front.inbox ++ [.fence f] } }
  else
    match s.ord.acqs.findSome? (fun q => (q.slices.find? (fun x => x.2 = mTag h)).map (fun x => (q, x.1))) with
    | some (q, p) => s.fenceDoneIn p q.r.win (mTag h)
    | none => s.protocol 4 1 none (mId h).toNat

/-- The CMP that refuses a message of a reserved class or type, or a faulty REQ (R116, R400), with the PROTOCOL entry. -/
def State.refuseMsg (s : State) (cas : Nat) (h : BitVec 256) (answer : Bool) : State :=
  let s := s.protocol (mCls h) (mTyp h) (some (mLine h)) (mId h).toNat (if answer then stRefused else 0)
    (if mKind h = 0 then 1 else 2)
  if answer then s.complete (mReq cas h) stRefused rsnField else s

/-- The POOL code of a class in a credit word (R396): RSP 3, DAT 4, BAR 5. -/
def barPool (cls : Nat) : Nat := cls + 1

/-- The message in slot `i` of a flit takes effect. A FWD is none of this slice's to receive; it is discarded with the entry. -/
def State.msgIn (s : State) (cas : Nat) (flit : BitVec 2048) (i : Nat) : State :=
  let h : BitVec 256 := flit.extractLsb' (256 * i) 256
  let d : LineData := flit.extractLsb' (256 * (i + 1)) 1024
  let s := s.event 0x50 (inc := 2 * (1 + mPlen h))
  let s := if 2 ≤ mCls h && mCls h ≤ 4 then s.creditOut cas (barPool (mCls h)) (mId h).toNat 0 0 1 else s
  if !(mKnown h) then s.refuseMsg cas h true
  else if mFaulty h || decide (8 < i + 1 + mPlen h) then s.refuseMsg cas h (mCls h = 0)
  else match mCls h with
    | 0 => s.enterReq (mInstr cas flit i) (mReq cas h)
    | 2 => s.rspIn h
    | 3 => s.datIn h d
    | 4 => s.barIn cas h
    | _ => s.refuseMsg cas h false

/-- A message that an injector holds is kept as the flit that carries it, in its slot. -/
def heldFlit (cas : Nat) (flit : BitVec 2048) (i : Nat) : Instr :=
  .casementFlitReceive (BitVec.ofNat 2 cas) flit (BitVec.ofNat 64 i) 0

/-- The effect of a held casement message. -/
def heldRun : Instr → State → State
  | .casementFlitReceive cas flit i _, s => s.msgIn cas.toNat flit i.toNat
  | _, s => s

/-- Inverted bits of a held casement message's flit. -/
def heldFlip (f : Flip) : Instr → Instr
  | .casementFlitReceive cas flit i z => .casementFlitReceive cas (flipAt flit 0 f) i z
  | i => i

/-- The credit of a dropped message returns to its sender (R372). -/
def State.dropMsg (s : State) (cas : Nat) (flit : BitVec 2048) (i : Nat) : State :=
  let h : BitVec 256 := flit.extractLsb' (256 * i) 256
  if mCls h = 0 then
    let kind := if mLedger h then 1 else 0
    let r := mReq cas h
    let k := s.poolOf r kind
    (s.setCredit k (s.credit k - 1)).creditBack r kind
  else if mCls h ≤ 4 then s.creditOut cas (barPool (mCls h)) (mId h).toNat 0 0 1
  else s

/-- The message in slot `i` passes the injector of its casement. -/
def State.msgThrough (s : State) (cas : Nat) (flit : BitVec 2048) (i : Nat) : State :=
  let c := hb (flit.extractLsb' (256 * i) 256) 0 3
  s.receive cas c c (heldFlit cas flit i) heldRun heldFlip (fun s => s.dropMsg cas flit i)

/-! ### Flits (R394, R395) -/

/-- Every flit that was sent and not acknowledged leaves again. -/
def State.replayAll (s : State) (n : Nat) : State := (s.link n).replay.foldl (fun s x => s.emit x.2) s

/-- A link that was up reports itself down: the entry, and nothing more travels on it. -/
def State.linkDown (s : State) (n : Nat) : State :=
  if s.bit LNK_STATUS.UP n then
    let s := (s.setBit LNK_STATUS.UP n false).setBit LNK_STATUS.HALF n false
    (s.setLink n Link.init).fault 10 1 2 (detail := n) (srcKind := 3) (srcId := n)
  else s

/-- A replay from the oldest unacknowledged flit; the sixteenth of one flit takes the link down. -/
def State.replayLink (s : State) (n : Nat) : State :=
  let l := s.link n
  if l.replay.isEmpty then s
  else if 16 ≤ l.replays + 1 then s.linkDown n
  else (s.setLink n { l with replays := l.replays + 1 }).replayAll n

/-- ACK_SEQ and NAK of a beat: flits up to ACK_SEQ were received good; NAK asks for a replay from the next. -/
def State.ackIn (s : State) (n : Nat) (sb : BitVec 64) : State :=
  if !(sb.getLsbD 44) then s
  else
    let q : BitVec 10 := sb.extractLsb' 34 10
    let l := s.link n
    let left := l.replay.filter (fun x => !(decide ((q - x.1).toNat < 512)))
    let s := s.setLink n { l with replay := left, replays := if left.length < l.replay.length then 0 else l.replays }
    if sb.getLsbD 33 then s.replayLink n else s

/-- The casement exists, has a role, and its link is up (R392). -/
def State.casementUp (s : State) (cas : Nat) : Bool :=
  decide (cas < s.casements) && s.isMesh cas && s.bit LNK_STATUS.UP cas && !s.dark

/-- A flit arrives on a casement: CRC and sequence are checked, then each message that begins in it is separated. -/
def State.flitIn (s : State) (cas : Nat) (flit : BitVec 2048) (sb0 sb1 : BitVec 64) : State :=
  let s := (s.ackIn cas sb0).ackIn cas sb1
  let l := s.link cas
  let seq : BitVec 10 := sb0.extractLsb' 53 10
  let good := crc32c 256 flit = sb1.extractLsb' 0 32 && sb0.getLsbD 63 && !(sb1.getLsbD 63)
  if !good then (s.setLink cas { l with rxNak := true }).emit (.ack cas true (l.rxNext - 1))
  else if seq != l.rxNext then
    if 512 ≤ (seq - l.rxNext).toNat then s.emit (.ack cas false (l.rxNext - 1))
    else if l.rxNak then s
    else (s.setLink cas { l with rxNak := true }).emit (.ack cas true (l.rxNext - 1))
  else
    let s := (s.setLink cas { l with rxNext := l.rxNext + 1, rxNak := false }).emit (.ack cas false seq)
    (List.range 8).foldl (fun s i => if sb0.getLsbD (45 + i) then s.msgThrough cas flit i else s) s

/-- CASEMENT_FLIT_RECEIVE (R395). -/
def execCasementFlitReceive (cas : BitVec 2) (flit : BitVec 2048) (sb0 sb1 : BitVec 64) (s : State) :
    Host.Outcome State Fault Refusal :=
  let s := s.begin
  settled (if s.casementUp cas.toNat then s.flitIn cas.toNat flit sb0 sb1 else s)

/-- LINK_REPLAY_TIMEOUT (R395). -/
def execLinkReplayTimeout (link : BitVec 3) (s : State) : Host.Outcome State Fault Refusal :=
  let s := s.begin
  settled (if s.bit LNK_STATUS.UP link.toNat then s.replayLink link.toNat else s)

/-! ### Link credits (R396) -/

/-- The class of a POOL code on CSn_CRD_IN. -/
def poolClass (pool : Nat) : Option Nat :=
  match pool with
  | 0 => some 0 | 2 => some 1 | 3 => some 2 | 4 => some 3 | 5 => some 4 | _ => none

/-- Messages of a class that wait leave while link credits last: `n` bounds them. -/
def State.drainLink (s : State) (cas cls : Nat) : Nat → State
  | 0 => s
  | n + 1 =>
    let l := s.link cas
    let cr := tget 0 l.credits cls
    match l.queue.find? (fun m => m.cls = cls) with
    | some m =>
      if cr = 0 then s
      else ((s.setLink cas { l with credits := tput 0 l.credits cls (cr - 1), queue := l.queue.erase m }).depart cas m).drainLink cas cls n
    | none => s

/-- A credit word arrives on CSn_CRD_IN. -/
def State.creditWordIn (s : State) (cas : Nat) (w : Word) : State :=
  match poolClass (w.toNat / 2 ^ 28 % 8), w.getLsbD 31 with
  | some cls, true =>
    let l := s.link cas
    let n := w.toNat / 2 ^ 8 % 256
    (s.setLink cas { l with credits := tput 0 l.credits cls (tget 0 l.credits cls + n) }).drainLink cas cls (n + l.queue.length)
  | _, _ => s

/-- CREDIT_WORD_RECEIVE (R396). -/
def execCreditWordReceive (cas : BitVec 2) (word : Word) (s : State) : Host.Outcome State Fault Refusal :=
  let s := s.begin
  settled (if s.casementUp cas.toNat then s.creditWordIn cas.toNat word else s)

/-! ### The far port (R30, R402) -/

/-- The command of a far-port transfer that arrives. -/
def farRun : Instr → State → State
  | .farReadData sub tag st d, s => s.farData sub tag st.toNat d
  | .farWriteResponse sub tag _, s => s.farResponse sub tag
  | _, s => s

/-- Inverted bits of a far-port transfer: the line's data, or the fields of a write response. -/
def farFlip (f : Flip) : Instr → Instr
  | .farReadData sub tag st d => .farReadData sub tag st (flipAt d 0 f)
  | .farWriteResponse sub tag st => .farWriteResponse sub (flipAt tag 4 f) (flipAt st 0 f)
  | i => i

/-- FAR_READ_DATA (R30). -/
def execFarReadData (sub : Bool) (tag : BitVec 11) (status : BitVec 4) (d : LineData) (s : State) :
    Host.Outcome State Fault Refusal :=
  settled (s.begin.receive 4 2 2 (.farReadData sub tag status d) farRun farFlip id)
/-- FAR_WRITE_RESPONSE (R402). -/
def execFarWriteResponse (sub : Bool) (tag : BitVec 11) (status : BitVec 4) (s : State) : Host.Outcome State Fault Refusal :=
  settled (s.begin.receive 4 3 3 (.farWriteResponse sub tag status) farRun farFlip id)

end Sys2Proof.Machine
end

