-- ==== Sys2Proof/Machine/Power.lean ====
section
/-! DEFINITION. Power states, budgets and retention (spec/12_power_retention.md): commands and their refusals (R309, R332), DOZE (R310,
R311), the phases of entry and exit (R313, R319), retention power (R324, R325), and budget messages (R326 to R330). -/

namespace Sys2Proof.Machine

/-! ### Retention power (R324, R325) -/

/-- RETAIN keeps a way of the pair. -/
def State.pairKept (s : State) (q : Nat) : Bool := (s.rd PWR_RETAIN.WAYS).testBit (2 * q) || (s.rd PWR_RETAIN.WAYS).testBit (2 * q + 1)

/-- The commands of R324 per sweep of a logical bank. -/
def State.retCmds (s : State) (lb : Nat) : Nat :=
  let need (j : Nat) : Bool :=
    let a := (lb + 2 * s.nb - 2 * (j % s.nb)) % s.nb
    s.pairKept a || s.pairKept ((a + s.nb - 1) % s.nb)
  ((List.range s.nb).filter need).length * (1024 / s.nb)

/-- The logical banks in service. -/
def State.liveBanks (s : State) : List Nat := (List.range s.nb).filter (fun k => !(s.stk.lostLb.contains k))

/-- RET_EST in units of 0.1 mW (R325). Where the sum is not a whole number of units, whether it is rounded down or up is left open
(notes/assumptions/4.md). -/
def State.retEst (s : State) : Nat :=
  let n := ((List.range s.ways).filter (fun w => (s.rd PWR_RETAIN.WAYS).testBit w)).length
  let live := s.liveBanks
  let issued := live.foldl (fun a k => a + s.retCmds k) 0
  let all := max 1 (live.length * 1024)
  let warm := decide (85 < s.rd STK_REF_TIER.TEMP)
  let cool := !warm && s.rd STK_REF_TIER.TIER = 0
  let base := if warm then 4 else 3
  let perWay := if s.s64 then (if warm then 8125 else 5625) else (if warm then 5625 else 3750)
  let full := (if s.s64 then 36 else 80) / (if cool then 2 else 1)
  let num := (base * 10000 + perWay * n) * all + full * 10000 * issued
  let q := num / (1000 * all)
  if num % (1000 * all) = 0 then q else q + Config.freeNat num % 2

/-- PWR_RET_EST as it reads. -/
def State.retEstWord (s : State) : Word := BitVec.ofNat 32 (s.retCmds 0 * 2 ^ 16 + min 0xFFFF s.retEst)

/-! ### Budget answers (R327, R409) -/

/-- BOUND_US under the configuration in force (R314). -/
def State.boundNow (s : State) : Nat := min 0xFFFF (s.boundUs s.unretained (s.setting s.front.tclAct TCL_FAR0.FAR_0 0))

/-- The 16 B answer of R327. -/
def State.budgetWord (s : State) (typ status : Nat) (seq : BitVec 8) (reason : Nat) (granted : Nat) : BitVec 128 :=
  let pend := if s.flag PWR_STATUS.PEND_V then s.rd PWR_STATUS.PEND + 8 else 0
  let put (lo v : Nat) : Nat := v * 2 ^ lo
  BitVec.ofNat 128 (put 0 (typ % 16) + put 4 (status % 16) + put 8 seq.toNat + put 16 reason + put 24 (s.rd PWR_STATUS.STATE) + put 28 pend
    + put 32 granted + put 64 s.boundNow + put 80 (min 0xFFFF s.retEst) + put 96 (min 0xFFFF s.powerNow))

/-- Send a budget answer, which takes one of the places that BM_OUT_ACK frees. -/
def State.budgetSend (s : State) (typ status : Nat) (seq : BitVec 8) (reason : Nat) (granted : Nat) : State :=
  let a := s.budgetWord typ status seq reason granted
  ({ s with pwr := { s.pwr with answers := s.pwr.answers ++ [a] } }).emit (.budget a)

/-- GRANTED of an answer: the cap in force, all ones without one. -/
def State.capNow (s : State) : Nat := s.pwr.granted.getD 0xFFFFFFFF

/-! ### Commands (R309, R332) -/

/-- The present power state as a target, while no transition runs. -/
def State.pwrNow (s : State) : Nat := s.rd PWR_STATUS.STATE

/-- The pair is on (R335). -/
def State.pairFull (s : State) : Bool := s.rd MIR_STATUS.STATE = 2

/-- The reason for which R309 refuses a command now, with no transition running. -/
def State.pwrRefusal (s : State) (c : PwrCmd) : Option Nat :=
  let st := s.pwrNow
  let partner := match c.by' with | .partner => true | _ => false
  firstOf [
    (!s.online, rsnPower),
    (c.target = 1 && s.rd WIN_CTL.ACTIVE != 0, rsnPower),
    (st = 2 && (c.target = 1 || c.target = 3), rsnPower),
    (st = 3 && (c.target = 1 || c.target = 2), rsnPower),
    (decide (2 ≤ c.target) && s.pairFull && !c.pair && !partner, rsnPower),
    (c.target = st, rsnField)]

/-- PWR_STATUS shows how the last command was answered. -/
def State.pwrShow (s : State) (status reason : Nat) : State := (s.wr PWR_STATUS.LAST_STATUS status).wr PWR_STATUS.REASON reason

/-- Answer a command. -/
def State.pwrAnswer (s : State) (c : PwrCmd) (status reason : Nat) : State :=
  let s := s.pwrShow status reason
  match c.by' with
  | .reg src => s.answer src status reason
  | .msg seq => s.budgetSend 2 status seq reason s.capNow
  | .partner => s

/-- DONE of a command that a message sent (R327). -/
def State.pwrDone (s : State) (c : PwrCmd) (status reason : Nat) : State :=
  match c.by' with
  | .msg seq => s.budgetSend 4 status seq reason s.capNow
  | _ => s

/-- A transition starts. -/
def State.pwrStart (s : State) (c : PwrCmd) : State :=
  let st := s.pwrNow
  let s := { s with pwr := { s.pwr with run := some c, t0 := s.now } }
  let go (st ph : Nat) (s : State) : State := (s.wr PWR_STATUS.STATE st).wr PWR_STATUS.PHASE ph
  match c.target with
  | 0 => if st = 1 then go 5 0 s else go 7 1 s
  | 1 => go 4 0 s
  | t =>
    let told := match c.by' with | .partner => true | _ => false
    let s := if s.pairFull && !told then s.mirSend ⟨8, ⟨0, 0, false, false, 0, 0, BitVec.ofNat 32 t⟩, none, none, none, 0, none⟩ else s
    go (if t = 3 then 8 else 6) 1 s

/-- A power command arrives. The answer to a DOZE command waits for its outcome (R310). -/
def State.pwrCommand (s : State) (c : PwrCmd) : State :=
  match s.pwr.run with
  | some r =>
    if !s.online then s.pwrAnswer c stRefused rsnPower
    else if c.target = r.target then
      let s := { s with pwr := { s.pwr with pend := none } }
      ((s.setFlag PWR_STATUS.PEND_V false).wr PWR_STATUS.PEND 0).pwrAnswer c stOk rsnNone
    else
      let s := { s with pwr := { s.pwr with pend := some { c with told := true } } }
      ((s.setFlag PWR_STATUS.PEND_V true).wr PWR_STATUS.PEND c.target).pwrAnswer c stOk rsnNone
  | none =>
    match s.pwrRefusal c with
    | some r => s.pwrAnswer c stRefused r
    | none =>
      if c.target = 1 then s.pwrStart c
      else (s.pwrStart { c with told := true }).pwrAnswer c stOk rsnNone

/-- A write of PWR_CMD. -/
def State.writePwrCmd (s : State) (m : MgWrite) : State :=
  let s := s.plain PWR_CMD.word.off m.word
  if !(m.word.getLsbD 31) then s.ok m.src
  else s.pwrCommand ⟨fieldGet PWR_CMD.TARGET m.word, fieldGet PWR_CMD.PAIR m.word != 0, .reg m.src, false⟩

/-- PWR_CMD_ACTIVE (R308). -/
def execPwrCmdActive (m : MgWrite) (s : State) : Host.Outcome State Fault Refusal :=
  settled (s.begin.mgWrite (.pwrCmdActive m) PWR_CMD.word.off m (fun s => s.writePwrCmd m))
/-- PWR_CMD_DOZE (R310). -/
def execPwrCmdDoze (m : MgWrite) (s : State) : Host.Outcome State Fault Refusal :=
  settled (s.begin.mgWrite (.pwrCmdDoze m) PWR_CMD.word.off m (fun s => s.writePwrCmd m))
/-- PWR_CMD_RETAIN (R313, R316). -/
def execPwrCmdRetain (m : MgWrite) (s : State) : Host.Outcome State Fault Refusal :=
  settled (s.begin.mgWrite (.pwrCmdRetain m) PWR_CMD.word.off m (fun s => s.writePwrCmd m))
/-- PWR_CMD_OFF (R323). -/
def execPwrCmdOff (m : MgWrite) (s : State) : Host.Outcome State Fault Refusal :=
  settled (s.begin.mgWrite (.pwrCmdOff m) PWR_CMD.word.off m (fun s => s.writePwrCmd m))

/-! ### DOZE (R310, R311) -/

/-- The front core is idle (R310). -/
def State.idle (s : State) : Bool :=
  s.front.inbox.isEmpty && s.front.presented.isEmpty && s.coh.txns.isEmpty && s.front.f2b.isEmpty && s.front.atBank.isEmpty
    && s.por.reqs.isEmpty && s.por.xfers.isEmpty
    && (List.range 16).all (fun c => let st := s.porState c; st = 0 || st = 6)
    && s.place.running.isNone && s.place.queue.isEmpty && s.ord.pend.isEmpty && !(s.flag ORD_WIN_STATUS.BUSY)
    && s.ldg.lane.isEmpty && s.ldg.unit.isEmpty

/-- The front core has been idle for 64 cycles: it is gated. -/
def State.dozeEnter (s : State) : State :=
  match s.pwr.run with
  | some c =>
    if s.rd PWR_STATUS.STATE = 4 && s.idle then
      let s := s.wr PWR_STATUS.STATE 1
      if c.told then s else ({ s with pwr := { s.pwr with run := some { c with told := true } } }).pwrAnswer c stOk rsnNone
    else s
  | none => s

/-- DOZE_ENTER (R310). -/
def execDozeEnter (s : State) : Host.Outcome State Fault Refusal := settled s.begin.dozeEnter

/-- After a transition has ended, the pending command starts unless R309 refuses it (R332). -/
def State.pwrNext (s : State) : State :=
  match s.pwr.pend with
  | none => s
  | some c =>
    let s := { s with pwr := { s.pwr with pend := none } }
    let s := (s.setFlag PWR_STATUS.PEND_V false).wr PWR_STATUS.PEND 0
    match s.pwrRefusal c with
    | some r => (s.pwrShow stRefused r).pwrDone c stRefused r
    | none => s.pwrStart c

/-- The front core is not idle in time: the command is refused and the slice stays ACTIVE (R310). -/
def State.dozeTimeout (s : State) : State :=
  match s.pwr.run with
  | some c =>
    if s.rd PWR_STATUS.STATE = 4 then
      let s := ({ s with pwr := { s.pwr with run := none } }).wr PWR_STATUS.STATE 0
      (if c.told then (s.pwrShow stRefused rsnBusy).pwrDone c stRefused rsnBusy else s.pwrAnswer c stRefused rsnBusy).pwrNext
    else s
  | none => s

/-- DOZE_TIMEOUT (R310). -/
def execDozeTimeout (s : State) : Host.Outcome State Fault Refusal := settled s.begin.dozeTimeout

/-- A flit arrives on a casement, the Wicket or the mirror port in DOZE: the slice wakes (R311). -/
def State.dozeWake (s : State) (link : Nat) : State :=
  if s.rd PWR_STATUS.STATE = 1 && (decide (link < 4) || link = 5 || link = 6) then
    let s := match s.pwr.run with
      | some c => ({ s with pwr := { s.pwr with run := none } }).pwrDone c stOk rsnNone
      | none => s
    ((s.wr PWR_STATUS.STATE 0).bump PWR_WAKES.COUNT).pwrNext
  else s

/-- DOZE_WAKE (R311). -/
def execDozeWake (link : BitVec 3) (s : State) : Host.Outcome State Fault Refusal := settled (s.begin.dozeWake link.toNat)

/-! ### Entry (R313) -/

/-- One entry of a walk of the Catalogue: INV to every SHR holder, BINV to an EXC owner, an entry that no agent holds is freed. A BUSY
entry and an entry for which the transaction table has no place wait. -/
def State.dirVisit (s : State) (mode : TxnMode) (c : CatEnt) : State :=
  if c.st == .free || (s.txn c.line).isSome then s
  else
    let s := s.normalize c.line
    let v := s.entryVec c.line
    if s.entrySt c.line == .free then s
    else if v = 0 then s.freeEntry c.line
    else if s.txnFull then s
    else (s.begin' { txnNew c.line mode none none with acks := v }).snoopAll (s.walkReq c.line) (if s.entrySt c.line == .exc then 4 else 3) v

/-- A walk of the whole Catalogue (R313, R355). -/
def State.dirWalk (s : State) (mode : TxnMode) : State := s.coh.cat.foldl (fun s e => s.dirVisit mode e.2) s

/-- A way that the running entry keeps (R312, R323). -/
def State.keeps (s : State) (way : Nat) : Bool := s.rd PWR_STATUS.STATE != 8 && (s.rd PWR_RETAIN.WAYS).testBit way

/-- E4 for one line: a DIRTY line of this home is written back and counted; copies are dropped (R313, R315). -/
def State.flushLine (s : State) (set way : Nat) (bit : Bool) : State :=
  let t := s.tag set way
  let line := lineOf t.sector bit
  let s := s.releaseAtom line
  if t.st bit != .dirty || s.isCopy line then s
  else if s.adopted line && s.flag MIR_STATUS.REACH then s.lossLines 4 [line]
  else (s.wr PWR_FLUSHED.COUNT (s.rd PWR_FLUSHED.COUNT + 1)).writeBackLine set way bit .flush

/-- E4: every unretained way is flushed and becomes INV. -/
def State.flushWays (s : State) : State :=
  let s := s.coh.atoms.foldl (fun s a => s.releaseAtom a.line) s
  let s := s.wr PWR_FLUSHED.COUNT 0
  s.stk.tags.foldl (fun s e =>
    let set := e.1 / 32
    let way := e.1 % 32
    if s.keeps way then s
    else ((s.flushLine set way false).flushLine set way true).setTag set way TagW.empty) s

/-- The engines have stopped (E2). -/
def State.enginesQuiet (s : State) : Bool :=
  s.por.reqs.isEmpty && (List.range 16).all (fun c => !(s.flagI POR_CH_CTL.STOPPING c)) && s.place.pfOut = 0
    && s.place.running.isNone && s.rshQuiet && s.ldgQuiet && s.ord.pend.isEmpty && !(s.flag ORD_WIN_STATUS.BUSY)

/-- Every write-back has been acknowledged, and nothing is on its way to or from a bank or the far port. -/
def State.memQuiet (s : State) : Bool :=
  s.stk.farReads.isEmpty && s.stk.farWrites.isEmpty && s.stk.farQ.isEmpty && s.front.f2b.isEmpty && s.front.atBank.isEmpty

/-- E2 starts: the shutdowns, with EN unchanged. -/
def State.enterE2 (s : State) : State := s.porShutAll.pftShut.rshShut

/-- E5 starts: the watchdog is disarmed, every injector has EN = 0, and the links are announced down (R366, R373, R433). -/
def State.enterE5 (s : State) : State :=
  let s := { s with pwr := { s.pwr with links := BitVec.ofNat 8 (s.rd LNK_STATUS.UP), half := BitVec.ofNat 8 (s.rd LNK_STATUS.HALF) } }
  let s := s.holdCurator.wr CUR_FW_STATUS.STATE 0
  let s := (List.range 8).foldl (fun s n => s.setFlagI LNK_INJ_CTL.EN n false) s
  (s.wr LNK_STATUS.UP 0).setFlag MIR_STATUS.LINK_UP false

/-- A phase of entry ends when what it does is done, and the next begins (R313). -/
def State.entryPhase (s : State) : State :=
  let st := s.rd PWR_STATUS.STATE
  if st != 6 && st != 8 then s
  else match s.rd PWR_STATUS.PHASE with
    | 1 => (s.wr PWR_STATUS.PHASE 2).enterE2
    | 2 => if s.enginesQuiet then (s.wr PWR_STATUS.PHASE 3).dirWalk .flush else s
    | 3 =>
      if s.coh.txns.isEmpty && s.coh.cat.isEmpty then (s.wr PWR_STATUS.PHASE 4).flushWays else s.dirWalk .flush
    | 4 => if s.memQuiet then (s.wr PWR_STATUS.PHASE 5).enterE5 else s
    | _ => s

/-- RETAIN_ENTRY_PHASE (R313). -/
def execRetainEntryPhase (s : State) : Host.Outcome State Fault Refusal := settled s.begin.entryPhase

/-- What RETAIN and OFF_READY do not keep (R318): the front island's queues, the directory, the Ledger, the chains' tokens, the staging
buffer and the Curator's SRAM. -/
def State.powerDown (s : State) : State :=
  let s := (s.clearRange 0xC100 0xC300).clearRange 0x18000 0x20000
  let s := (s.setWord LDG_SEED_HEAD.word.off 0).wr LDG_STATUS.DRAINS_RUN 0
  let f := s.front
  let s := { s with front := { Front.init with
    failed := f.failed, mgWait := f.mgWait, bucket := f.bucket, tclAct := f.tclAct, winAct := f.winAct, accN := f.accN
    accLast := f.accLast, allow := f.allow, inject := [] } }
  { s with
    coh := Coh.init
    ldg := { Ledger.init with master := s.ldg.master, scale := s.ldg.scale }
    chn := { Chain.init with nextId := s.chn.nextId }
    por := { s.por with reqs := [], xfers := [] }
    place := { s.place with trackers := [], pfIssued := [], pfOut := 0 }
    ord := { s.ord with recs := [], covers := [], fences := [], acqs := [], revisit := [] }
    stk := { s.stk with pend := [], corr := [], dirtyVec := s.stk.dirtyVec, farCred := [] }
    img := ⟨[], none⟩
    cur := ⟨0, [], [], 0, 0⟩
    mir := { s.mir with queue := [], unacked := [], used := [], waiting := [], scaleQ := [], sent := false }
    tran := ⟨[], [], []⟩ }

/-! ### Exit (R319 to R321) -/

/-- X5 starts: links that failed to retrain stay down and are recorded; credits are granted; without a casement the slice fails
(R320). -/
def State.enterX5 (s : State) (up : BitVec 8) : State :=
  let was := s.pwr.links
  let now := was &&& up
  let s := (s.wr LNK_STATUS.UP now.toNat).wr LNK_STATUS.HALF (s.pwr.half &&& now).toNat
  let s := s.setFlag MIR_STATUS.LINK_UP (now.getLsbD 6)
  let lost := (List.range 8).filter (fun n => was.getLsbD n && !(now.getLsbD n))
  let s := lost.foldl (fun s n => (s.fault 10 2 2 (detail := n) (srcKind := 3) (srcId := n)).setBit DBK_DEGRADED.LINKS n true) s
  if s.mesh.isEmpty then s.fail 10 2 else s.grantAll

/-- A phase of exit ends and the next begins; `up` are the links that X4 retrained. -/
def State.exitPhase (s : State) (up : BitVec 8) : State :=
  if s.rd PWR_STATUS.STATE != 7 then s
  else match s.rd PWR_STATUS.PHASE with
    | 1 => ((s.wr PWR_STATUS.PHASE 2).setFlag SLC_ISLAND_STATUS.CUR_UP (!s.start.curDown)).loaderRelease
    | 2 => s.wr PWR_STATUS.PHASE 3
    | 3 => (s.wr PWR_STATUS.PHASE 4).scaleReload
    | 4 => (s.wr PWR_STATUS.PHASE 5).enterX5 up
    | _ => s

/-- RETAIN_EXIT_PHASE (R319). -/
def execRetainExitPhase (up : BitVec 8) (s : State) : Host.Outcome State Fault Refusal := settled (s.begin.exitPhase up)

/-- The engines whose EN is 1 resume (R319). -/
def State.resume (s : State) : State := (List.range 16).foldl (fun s c => s.porKick c) s

/-- The duration of the transition in µs. -/
def State.pwrUs (s : State) : Nat := min 0xFFFF ((s.now - s.pwr.t0) / 1000)

/-- A transition ends: its state is in force, DONE is sent, and a pending target starts (R327, R332). -/
def State.pwrEnd (s : State) (c : PwrCmd) (s' : State) : State :=
  let t := ({ s' with pwr := { s.pwr with run := none } }).wr PWR_STATUS.PHASE 0
  (t.pwrDone c stOk rsnNone).pwrNext

/-- The transition in progress has reached its end. -/
def State.transitionEnd (s : State) : State :=
  match s.pwr.run with
  | none => s
  | some c =>
    let st := s.rd PWR_STATUS.STATE
    let last := s.rd PWR_STATUS.PHASE = 5
    if st = 1 then s.pwrEnd c s
    else if st = 5 then s.pwrEnd c (s.wr PWR_STATUS.STATE 0)
    else if st = 6 && last then s.pwrEnd c ((s.powerDown.wr PWR_STATUS.STATE 2).wr PWR_TIMES.ENTRY_US s.pwrUs)
    else if st = 8 && last then
      s.pwrEnd c ((s.powerDown.wr PWR_STATUS.STATE 3).wr PWR_TIMES.ENTRY_US s.pwrUs)
    else if st = 7 && last then
      s.pwrEnd c ((s.wr PWR_STATUS.STATE 0).wr PWR_TIMES.EXIT_US s.pwrUs).resume
    else s

/-- TRANSITION_END (R327, R332). -/
def execTransitionEnd (s : State) : Host.Outcome State Fault Refusal := settled s.begin.transitionEnd

/-! ### Budget messages (R326 to R330) -/

/-- A CAP (R328): GRANTED of the answer is what the cap will grant; it takes effect at a frame boundary, and at step 9 before that. -/
def State.budgetCap (s : State) (seq : BitVec 8) (arg : Nat) : State :=
  let cap := if arg = 0xFFFFFFFF then none else some arg
  let s := ({ s with pwr := { s.pwr with cap := cap } }).wr PWR_CAP.CAP_MW (min 0xFFFF arg)
  s.budgetSend 1 stOk seq 0 (match cap with | some c => s.grantOf c | none => 0xFFFFFFFF)

/-- A RAMP (R329, R330): before step 8 it replaces what step 8 checks, later the admission check decides. -/
def State.budgetRamp (s : State) (seq : BitVec 8) (v : Nat) : State :=
  if v = 0 then s.budgetSend 3 stRefused seq rsnField s.capNow
  else if s.rd SLC_START.STEP < 8 then
    let s := ({ s with start := { s.start with ramp := some v } }).wr PWR_RAMP.RAMP_US v
    s.budgetSend 3 stOk seq 0 s.capNow
  else s.admSubmit (.rampMsg seq.toNat v)

/-- A budget message is served. -/
def State.budgetServe (s : State) (m : BitVec 64) : State :=
  let typ := (m.extractLsb' 0 4).toNat
  let seq : BitVec 8 := m.extractLsb' 8 8
  let arg := (m.extractLsb' 32 32).toNat
  match typ with
  | 0 => s.budgetSend 0 stOk seq 0 s.capNow
  | 1 => s.budgetCap seq arg
  | 2 => s.pwrCommand ⟨arg % 4, arg / 2 ^ 8 % 2 = 1, .msg seq, false⟩
  | 3 => s.budgetRamp seq (arg % 2 ^ 16)
  | t => s.budgetSend t stRefused seq rsnField s.capNow

/-- The port serves messages: step 1 has ended, and an answer place is free (R330, R409). -/
def State.budgetOpen (s : State) : Bool := s.mgReady && decide (s.pwr.answers.length < 8)

/-- Serve the messages that wait, as far as answer places are free. -/
def State.budgetDrain (s : State) : Nat → State
  | 0 => s
  | n + 1 =>
    match s.pwr.msgs with
    | m :: rest =>
      if s.budgetOpen then (({ s with pwr := { s.pwr with msgs := rest } }).budgetServe m).budgetDrain n else s
    | [] => s

/-- A budget message arrives. -/
def State.budgetIn (s : State) (m : BitVec 64) : State :=
  ({ s with pwr := { s.pwr with msgs := s.pwr.msgs ++ [m] } }).budgetDrain (s.pwr.msgs.length + 1)

/-- BUDGET_QUERY (R327). -/
def execBudgetQuery (msg : BitVec 64) (s : State) : Host.Outcome State Fault Refusal := settled (s.begin.budgetIn msg)
/-- BUDGET_CAP (R328). -/
def execBudgetCap (msg : BitVec 64) (s : State) : Host.Outcome State Fault Refusal := settled (s.begin.budgetIn msg)
/-- BUDGET_STATE (R309). -/
def execBudgetState (msg : BitVec 64) (s : State) : Host.Outcome State Fault Refusal := settled (s.begin.budgetIn msg)
/-- BUDGET_RAMP (R329). -/
def execBudgetRamp (msg : BitVec 64) (s : State) : Host.Outcome State Fault Refusal := settled (s.begin.budgetIn msg)

/-- BM_OUT_ACK frees a place (R409). -/
def State.budgetAck (s : State) : State :=
  ({ s with pwr := { s.pwr with answers := s.pwr.answers.tail } }).budgetDrain s.pwr.msgs.length

/-- BUDGET_ANSWER_ACK (R409). -/
def execBudgetAnswerAck (s : State) : Host.Outcome State Fault Refusal := settled s.begin.budgetAck

/-- A write of PWR_RAMP (R329). -/
def State.writeRamp (s : State) (m : MgWrite) : State :=
  let v := fieldGet PWR_RAMP.RAMP_US m.word
  if v = 0 then s.refuse m.src rsnField else s.admSubmit (.rampReg m.src v)

/-- PWR_RAMP_WRITE (R329). -/
def execPwrRampWrite (m : MgWrite) (s : State) : Host.Outcome State Fault Refusal :=
  settled (s.begin.mgWrite (.pwrRampWrite m) PWR_RAMP.word.off m (fun s => s.writeRamp m))

/-! ### Loss of the supplies (R308, R322) -/

/-- The slice without power: what the next power-up finds. The inputs keep what drives them, and the commands that wait stay. -/
def State.unpowered (s : State) : State :=
  let r := State.resetOf s.s64
  { r with
    pins := { r.pins with ns := s.pins.ns, wrap := s.pins.wrap, peerLive := s.pins.peerLive, dbgEn := s.pins.dbgEn, fpReady := s.pins.fpReady
                          straps := s.pins.straps }
    freeCtr := s.freeCtr
    pending := s.pending }

/-- SUPPLY_REMOVAL (R308): OFF. -/
def execSupplyRemoval (s : State) : Host.Outcome State Fault Refusal := settled s.begin.unpowered

/-- RETENTION_SUPPLY_LOSS (R322): in RETAIN, nothing is kept, and the next power-up is a cold start. -/
def execRetentionSupplyLoss (s : State) : Host.Outcome State Fault Refusal :=
  let s := s.begin
  settled (if s.rd PWR_STATUS.STATE = 2 then s.unpowered else s)

end Sys2Proof.Machine
end

