-- ==== Sys2Proof/Machine/Startup.lean ====
section
/-! DEFINITION. Start-up (spec/11_startup_daybook.md): the kinds of start and step 0 (R279, R280, R302), steps 1 to 3 (R287, R288, R301),
firmware (R289 to R291), links (R293, R417, R419), calibration (R295), admission (R257, R296), step 9 (R286, R297), and the driver's
writes to the Daybook and to RUN_LEVEL (R303, R305). -/

namespace Sys2Proof.Machine

/-! ### Step 0 (R279, R280, R302) -/

/-- The coordinates of the straps, in the layout of CHN_CTX_PRED (R412). -/
def strapCoord (p : Straps) : BitVec 24 :=
  BitVec.ofNat 24 (p.node.toNat * 2 ^ 16 + p.pkg.toNat * 2 ^ 8 + p.die.toNat * 2 ^ 3 + p.half.toNat * 4 + p.slice.toNat)

/-- The ones among the low `w` bits of a number. -/
def ones (n w : Nat) : Nat := ((List.range w).filter n.testBit).length

/-- The strap parity is odd (R280, R412). -/
def strapOk (p : Straps) : Bool := (ones (strapCoord p).toNat 24 + p.par.toNat) % 2 = 1

/-- The straps are latched (R4). -/
def State.latchStraps (s : State) (p : Straps) : State :=
  let s := { s with pins := { s.pins with straps := p } }
  let s := (s.wr SLC_ID.COORD (strapCoord p).toNat).setFlag SLC_ID.STRAP_OK (strapOk p)
  s.wr SLC_LIVE.SELF (p.half.toNat * 4 + p.slice.toNat)

/-- The rest of step 0, after the straps have been latched: a wrong parity stops the start; otherwise it passes and step 1 begins. -/
def State.stepZero (s : State) (alt : Bool) : State :=
  if !(s.flag SLC_ID.STRAP_OK) then s.stepFail 0 0x01 0
  else
    let s := { s with start := { s.start with coord := some (strapCoord s.pins.straps) } }
    (if alt then s.daybook ocAlt 0 0x02 else s.daybook ocPass 0).wr SLC_START.STEP 1

/-- A cold start: every field at its Reset value. -/
def State.coldStart (s : State) (p : Straps) : State :=
  let u := s.unpowered
  let u := { u with start := { u.start with t0 := s.now } }
  (u.latchStraps p).stepZero false

/-- COLD_START (R279). -/
def execColdStart (straps : Straps) (s : State) : Host.Outcome State Fault Refusal := settled (s.begin.coldStart straps)

/-- The register words that a warm reset keeps: the retained bits, with the Reset value in the others (R12). -/
def State.keptRegs (s : State) : Tab Word :=
  s.regs.foldl (fun t e =>
    match regRow s.s64 e.1 with
    | some r =>
      let k : Word := BitVec.ofNat 32 r.keep
      let d := resetWord s.s64 e.1
      tput d t e.1 ((d &&& ~~~k) ||| (s.word e.1 &&& k))
    | none => t) []

/-- A start is in progress: a warm reset interrupts its step (R302). -/
def State.inStep (s : State) : Bool := s.rd SLC_START.STATE = 0 || s.rd SLC_START.STATE = 1

/-- The step waits on the driver, so that an interruption does not count (R300). -/
def State.waitsDriver (s : State) : Bool :=
  s.rd SLC_START.STATE = 1 || (s.rd SLC_START.STEP = 4 && s.cur.stage = 3)

/-- Treat a start as cold (R280): the Daybook, the counts, the record of retired banks and the scale entries are cleared. -/
def State.strapsChanged (s : State) : State :=
  let s := (s.clearRange 0x1004 0x1014).clearRange 0x1100 0x1300
  let s := s.clearRange 0x10000 0x11000
  { s with ldg := { s.ldg with master := [] } }

/-- A warm reset: the night-latch state is kept, everything else takes its Reset value (R12, R279, R318). -/
def State.warmReset (s : State) (p : Straps) : State :=
  let step := s.rd SLC_START.STEP
  let broke := s.inStep
  let s0 := if broke && !s.waitsDriver then s.stepFailed step else s
  let u := s0.unpowered
  let u := { u with
    regs := s0.keptRegs
    stk := { Stacks.init with beats := s0.stk.beats }
    ldg := { Ledger.init with master := s0.ldg.master }
    start := { Start.init with coord := s0.start.coord, t0 := s0.now } }
  let u := ((u.wrapAdd DBK_STATUS.STARTS).setFlag SLC_START.WARM true).latchStraps p
  let changed := u.flag SLC_ID.STRAP_OK && u.start.coord != some (strapCoord p) && u.start.coord.isSome
  let u := if changed then u.strapsChanged else u
  let u := if broke then u.daybook ocInterrupted 0 0x90 step else u
  u.stepZero changed

/-- WARM_RESET (R279). -/
def execWarmReset (straps : Straps) (s : State) : Host.Outcome State Fault Refusal := settled (s.begin.warmReset straps)

/-! ### Steps 1 to 3 (R287, R288, R301) -/

/-- The start is at a step and runs. -/
def State.atStep (s : State) (n : Nat) : Bool := s.rd SLC_START.STEP = n && s.rd SLC_START.STATE = 0

/-- The bank pairs of the build. -/
def State.pairs (s : State) : List Nat := List.range (s.nb / 2) ++ [8]

/-- The banks of a pair. -/
def State.banksOf (s : State) (pair : Nat) : List Nat := if pair = 8 then [s.spare] else [2 * pair, 2 * pair + 1]

/-- A bank pair whose clock is not up: both banks are retired, with no data (R68, R287). -/
def State.pairDown (s : State) (k : Nat) : State :=
  let s := s.daybook ocAlt 1 0x10 (3 + k)
  (s.banksOf k).foldl (fun s b => if s.isRetired b then s
    else (s.retireEmpty b).fault 1 3 2 (detail := stacksDetail b 0 0) (srcKind := 4) (srcId := b)) s

/-- Step 1 ends: the islands whose clocks are up. -/
def State.clocksUp (s : State) (front ldg cur : Bool) (pairs : BitVec 9) : State :=
  if !(s.atStep 1) then s
  else if !front then s.stepFail 1 0x10 2
  else
    let up := s.pairs.filter (fun k => pairs.getLsbD k)
    let down := s.pairs.filter (fun k => !(pairs.getLsbD k))
    let s := s.wr SLC_ISLAND_STATUS.BP_UP (up.foldl (fun m k => m + 2 ^ k) 0)
    let s := ((s.setFlag SLC_ISLAND_STATUS.NL_UP true).setFlag SLC_ISLAND_STATUS.CUR_UP cur).setFlag SLC_ISLAND_STATUS.LDG_UP ldg
    let s := { s with start := { s.start with ldgDown := !ldg, curDown := !cur }, pins := { s.pins with selfLive := true } }
    let s := if down.isEmpty then s.stepPass 1 else down.foldl State.pairDown s
    let s := (s.wr SLC_START.STEP 2).wr STK_REF_TIER.TIER 1
    s.budgetDrain s.pwr.msgs.length

/-- ISLAND_CLOCKS_UP (R287). -/
def execIslandClocksUp (front ldg cur : Bool) (pairs : BitVec 9) (s : State) : Host.Outcome State Fault Refusal :=
  settled (s.begin.clocksUp front ldg cur pairs)

/-- Retire a bank with an entry of step 2. -/
def State.bistRetire (s : State) (cause : Nat) (b : Nat) : State := (s.daybook ocAlt 2 cause b).retireEmpty b

/-- Step 2 ends: recorded banks are retired untested, then those that failed (R288); mirrored halves begin (R284). -/
def State.bist (s : State) (failed : BitVec 17) : State :=
  if !(s.atStep 2) then s
  else
    let all := List.range (s.nb + 1)
    let recorded := all.filter (fun b => s.bit DBK_RETIRED.BANKS b && !(s.isRetired b))
    let bad := all.filter (fun b => failed.getLsbD b && !(s.bit DBK_RETIRED.BANKS b) && !(s.isRetired b))
    let s := recorded.foldl (fun s b => s.bistRetire 0x22 b) s
    let s := bad.foldl (fun s b => s.bistRetire 0x20 b) s
    let k := s.stk.lostLb.length
    let s := { s with start := { s.start with lost := k } }
    if (if s.s64 then 2 else 4) < k then s.stepFail 2 0x21 k
    else
      let s := if recorded.isEmpty && bad.isEmpty then s.stepPass 2 else s
      let s := ({ s with stk := { s.stk with halves := true } }).setFlag SLC_START.HALVES true
      s.enterStep3

/-- BANK_BIST (R64, R288). -/
def execBankBist (failed : BitVec 17) (s : State) : Host.Outcome State Fault Refusal := settled (s.begin.bist failed)

/-- Step 3 ends: a failing adder unit fails the step; otherwise the working copy is reloaded after a warm reset (R43, R301). -/
def State.ldgBist (s : State) (failed : Option (BitVec 2)) : State :=
  if !(s.atStep 3) then s
  else match failed with
    | some u => s.stepFail 3 0x30 u.toNat
    | none => ((if s.flag SLC_START.WARM then s.scaleReload else s).stepPass 3).enterStep4

/-- LEDGER_BIST (R301). -/
def execLedgerBist (failed : Option (BitVec 2)) (s : State) : Host.Outcome State Fault Refusal := settled (s.begin.ldgBist failed)

/-! ### Firmware (R289 to R291) -/

/-- Word `i` of the Curator's SRAM. -/
def State.sram (s : State) (i : Nat) : Word := tget 0 s.cur.sram i

/-- The CRC of the firmware, with bytes 28 to 31 taken as 0 (R289). -/
def State.fwCrc (s : State) (len : Nat) : Word :=
  (List.range (len / 4)).foldl (fun r i => crcList r (wordBytes (if i = 7 then 0 else s.sram i))) 0xFFFFFFFF#32 ^^^ 0xFFFFFFFF#32

/-- The header of the firmware keeps R289. -/
def State.fwHeader (s : State) : Bool :=
  let len := (s.sram 1).toNat
  let entry := (s.sram 2).toNat
  (s.sram 0) = 0x46525543#32 && len % 4 = 0 && decide (64 ≤ len) && decide (len ≤ 229376) && entry % 4 = 0 && decide (32 ≤ entry)
    && decide (entry < len) && decide ((s.sram 3).toNat % 256 ≤ s.rd SLC_FEAT.RUN_LEVEL) && (s.sram 3).toNat / 256 = 0
    && s.sram 4 = 0 && s.sram 5 = 0 && s.sram 6 = 0

/-- An attempt fails: the next one starts, and after the third step 4 fails (R290) or, outside a start, the Curator stays held (R321). -/
def State.fwFail (s : State) (cause : Nat) : State :=
  let a := s.rd CUR_FW_STATUS.ATTEMPT
  let s := s.wr CUR_FW_STATUS.LAST_CAUSE cause
  let starting := s.atStep 4
  if 3 ≤ a then
    if starting then s.safeState cause a else s.holdCurator.wr CUR_FW_STATUS.STATE 4
  else (if starting then s.daybook ocRetry 4 cause a else s).loaderStart

/-- Stage 1 ends: the SRAM is zero, and stage 2 opens the window (R290). -/
def State.sramZeroed (s : State) : State :=
  if s.cur.stage != 1 then s
  else
    let s := { s with cur := { s.cur with sram := [], ecc := [], stage := 3 } }
    ((s.wr CUR_FW_STATUS.STATE 1).wr CUR_FW_STATUS.ATTEMPT (s.rd CUR_FW_STATUS.ATTEMPT + 1)).emit .irqCur

/-- CURATOR_SRAM_ZEROED (R290). -/
def execCuratorSramZeroed (s : State) : Host.Outcome State Fault Refusal := settled s.begin.sramZeroed

/-- Stage 4: the header is checked and the CRC is computed. -/
def State.fwVerify (s : State) : State :=
  if !s.fwHeader then s.fwFail 0x40
  else
    let len := (s.sram 1).toNat
    let crc := s.fwCrc len
    let s := ({ s with cur := { s.cur with len := len } }).setWord CUR_FW_CRC.word.off crc
    if crc != s.sram 7 then s.fwFail 0x41
    else ({ s with cur := { s.cur with stage := 5 } }).wr CUR_FW_STATUS.STATE 2

/-- Firmware writes ALIVE in time: step 4 passes (R290). -/
def State.fwAlive (s : State) : State :=
  let s := ({ s with cur := { s.cur with stage := 8 } }).setFlag CUR_FW_CTL.ALIVE true
  if s.atStep 4 then (s.stepPass 4).enterStep5 else s

/-- A write of CUR_FW_CTL: DONE is the driver's at stage 3, ALIVE the firmware's. -/
def State.writeFwCtl (s : State) (m : MgWrite) : State :=
  let done := m.word.getLsbD 31
  let alive := m.word.getLsbD 30
  if done && (s.cur.stage != 3 || isCurator m.src) then s.refuse m.src rsnField
  else if alive && !(isCurator m.src) then s.refuse m.src rsnField
  else
    let s := if done then ((s.setFlag CUR_FW_CTL.DONE true).fwVerify) else s
    let s := if alive && s.cur.stage = 7 then s.fwAlive else s
    s.ok m.src

/-- FW_DONE (R290). -/
def execFwDone (m : MgWrite) (s : State) : Host.Outcome State Fault Refusal :=
  settled (s.begin.mgWrite (.fwDone m) CUR_FW_CTL.word.off m (fun s => s.writeFwCtl m))
/-- FW_ALIVE (R290). -/
def execFwAlive (m : MgWrite) (s : State) : Host.Outcome State Fault Refusal :=
  settled (s.begin.mgWrite (.fwAlive m) CUR_FW_CTL.word.off m (fun s => s.writeFwCtl m))

/-- The period of the watchdog in ms; 0 acts as 1. -/
def State.wdtMs (s : State) : Nat := max 1 (s.rd CUR_WDT_CTL.PERIOD_MS)

/-- The watchdog counts a full period from now (R366). -/
def State.wdtRestart (s : State) : State :=
  ({ s with cur := { s.cur with wdtEnd := s.now + s.wdtMs * 1000000 } }).wr CUR_WDT_STATUS.REMAIN (s.wdtMs * 10)

/-- Stage 5: what the root of trust attested. -/
def State.fwAttested (s : State) : State :=
  if s.cur.stage != 5 then s
  else if !(s.flag CUR_FW_ATTEST.VERIFIED) then s.fwFail 0x45
  else if s.rd CUR_FW_ATTEST.LEN != s.cur.len then s.fwFail 0x43
  else
    let s := ({ s with cur := { s.cur with stage := 7 } }).wr CUR_FW_STATUS.STATE 3
    (s.setFlag CUR_WDT_STATUS.ARMED true).wdtRestart

/-- A write of CUR_FW_ATTEST, by the root of trust alone (R291). -/
def State.writeAttest (s : State) (m : MgWrite) : State :=
  match m.src with
  | .rootOfTrust => ((s.plain CUR_FW_ATTEST.word.off m.word).fwAttested).ok m.src
  | src => s.refuse src rsnField

/-- FW_ATTEST (R290). -/
def execFwAttest (m : MgWrite) (s : State) : Host.Outcome State Fault Refusal :=
  settled (s.begin.mgWrite (.fwAttest m) CUR_FW_ATTEST.word.off m (fun s => s.writeAttest m))

/-- FW_TIMEOUT (R290): FW_TMO expires at stage 3 or 5. -/
def execFwTimeout (s : State) : Host.Outcome State Fault Refusal :=
  let s := s.begin
  settled (if s.cur.stage = 3 || s.cur.stage = 5 then s.fwFail 0x42 else s)

/-- FW_ALIVE_TIMEOUT (R290). -/
def execFwAliveTimeout (s : State) : Host.Outcome State Fault Refusal :=
  let s := s.begin
  settled (if s.cur.stage = 7 then s.fwFail 0x44 else s)

/-! ### Links (R293, R294, R304, R417, R419) -/

/-- The capability message of link `n` (R304). -/
def State.capMsg (s : State) (n : Nat) : BitVec 64 :=
  BitVec.ofNat 64 (2 ^ 60 + s.rd SLC_CAP.FEAT_MAX * 2 ^ 56 + s.rd SLC_FEAT.RUN_LEVEL * 2 ^ 52 + s.s64.toNat * 2 ^ 51 + (n - 4) * 2 ^ 48
    + s.rd SLC_ID.COORD)

/-- Send the capability message on a link, past its injector (R370). -/
def State.capSend (s : State) (n : Nat) : State :=
  let k := if n = 5 then 4 else 3
  if n = 7 then s.emit (.capability n (s.capMsg n))
  else
    let (act, s) := s.inject n false k
    match act with
    | .drop => s
    | .flip f => s.emit (.corrupted (!(s.flagI LNK_INJ_CTL.LAYER n)) f (.capability n (s.capMsg n)))
    | _ => s.emit (.capability n (s.capMsg n))

/-- The links that step 6 trains (R293). -/
def State.trains (s : State) (n : Nat) : Bool :=
  if n < 4 then decide (n < s.casements) && s.isMesh n else if n = 6 then s.flag MIR_CTL.PAIR_EN else true

/-- The mirror link's state shows in MIR_STATUS. -/
def State.showMirLink (s : State) : State := s.setFlag MIR_STATUS.LINK_UP (s.bit LNK_STATUS.UP 6)

/-- A link fails training: its count, its DEGRADED bit and its entry. -/
def State.linkFails (s : State) (n : Nat) (outcome : Nat) : State :=
  let s := (s.bump (linkFailField n)).setBit DBK_DEGRADED.LINKS n true
  ((s.setBit LNK_STATUS.UP n false).setBit LNK_STATUS.HALF n false).daybook outcome 6 0x60 n

/-- A link comes up, at half width or in full. -/
def State.linkUp (s : State) (n : Nat) (half : Bool) : State :=
  let s := (s.setBit LNK_STATUS.UP n true).setBit LNK_STATUS.HALF n half
  let s := if half then s.daybook ocAlt 6 0x61 n else s.wr (linkFailField n) 0
  if 5 ≤ n && !(s.flagI LNK_UCIE.VALID (n - 5)) then s.capSend n else s

/-- One link of step 6: skipped at count 3, half width only at count 1 or 2 (R301). -/
def State.trainLink (s : State) (full half : BitVec 8) (failOutcome : Nat) (n : Nat) : State :=
  let count := s.rd (linkFailField n)
  if count = 3 then (s.setBit DBK_DEGRADED.LINKS n true).daybook ocSkip 6 0x62 n
  else if full.getLsbD n || half.getLsbD n then
    if n = 4 then { (s.linkUp 4 false) with pins := { (s.linkUp 4 false).pins with fpReady := true } }
    else s.linkUp n (decide (0 < count) || !(full.getLsbD n))
  else s.linkFails n failOutcome

/-- Step 6 ends with the links that trained: it fails without the far port or without a casement (R293). -/
def State.training (s : State) (full half : BitVec 8) : State :=
  if !(s.atStep 6) then s
  else
    let n0 := s.rd DBK_STATUS.COUNT + s.rd DBK_STATUS.LOST
    let can (n : Nat) : Bool := s.trains n && s.rd (linkFailField n) != 3 && (full.getLsbD n || half.getLsbD n)
    let noCas := (List.range 4).all (fun n => !(can n))
    let noFar := !(can 4)
    let s := (List.range 8).foldl (fun s n =>
      if !(s.trains n) then s
      else s.trainLink full half (if (decide (n < 4) && noCas) || (n = 4 && noFar) then ocFail else ocAlt) n) s
    let s := s.showMirLink
    if noCas || noFar then s.wr SLC_START.STATE 3
    else (if s.rd DBK_STATUS.COUNT + s.rd DBK_STATUS.LOST = n0 then s.stepPass 6 else s).enterStep7

/-- LINK_TRAINING (R293). -/
def execLinkTraining (full half : BitVec 8) (s : State) : Host.Outcome State Fault Refusal := settled (s.begin.training full half)

/-- A link that was up reports down outside step 6 (R361). -/
def State.linkLost (s : State) (n : Nat) : State :=
  if s.atStep 6 then s.linkFails n ocAlt
  else if s.bit LNK_STATUS.UP n then
    ((s.setBit LNK_STATUS.UP n false).setBit LNK_STATUS.HALF n false).fault 10 1 2 (detail := n) (srcKind := 3) (srcId := n)
  else s

/-- The payload of a UCIe link in 64 B units per frame (R417), and whether it runs at half width; none for a rate or width not listed. -/
def ucieFrame (advanced : Bool) (rate width : Nat) : Option (Nat × Bool) :=
  let x := if rate = 32 then 2 else 1
  if rate != 16 && rate != 32 then none
  else match advanced, width with
    | false, 16 => some (224 * x, false)
    | false, 8 => some (112 * x, true)
    | true, 64 => some (896 * x, false)
    | true, 32 => some (448 * x, true)
    | _, _ => none

/-- The adapter reports the mainband of the Wicket or the mirror port active: the capability message leaves (R419); a rate or a width
that R417 does not list counts as failed training. -/
def State.ucieActive (s : State) (mirror advanced : Bool) (rate width : Nat) : State :=
  let n := if mirror then 6 else 5
  let k := n - 5
  match ucieFrame advanced rate width with
  | none => (s.setFlagI LNK_UCIE.VALID k false).linkLost n
  | some (frame, half) =>
    let s := ((s.setFlagI LNK_UCIE.VALID k true).setFlagI LNK_UCIE.CAP_RX k false).setFlagI LNK_UCIE.PKG k advanced
    let s := ((s.wrI LNK_UCIE.RATE k rate).wrI LNK_UCIE.WIDTH k width).wrI LNK_UCIE.FRAME_64B k frame
    (s.setBit LNK_STATUS.HALF n half).capSend n

/-- UCIE_MAINBAND_ACTIVE (R416, R419). -/
def execUcieMainbandActive (mirror : Bool) (advanced : Bool) (rate : BitVec 5) (width : BitVec 8) (s : State) :
    Host.Outcome State Fault Refusal := settled ((s.begin.ucieActive mirror advanced rate.toNat width.toNat))

/-- A UCIe link without the far end's message in time counts as failed training (R419). -/
def State.capTimeout (s : State) (n : Nat) : State :=
  if (n = 5 || n = 6) && s.flagI LNK_UCIE.VALID (n - 5) && !(s.flagI LNK_UCIE.CAP_RX (n - 5)) then
    (s.setFlagI LNK_UCIE.VALID (n - 5) false).linkLost n
  else s

/-- CAPABILITY_TIMEOUT (R419). -/
def execCapabilityTimeout (link : BitVec 3) (s : State) : Host.Outcome State Fault Refusal := settled (s.begin.capTimeout link.toNat)

/-! ### Steps 7 and 8 (R295, R296, R257) -/

/-- The weak banks of a calibration (R63). -/
def State.weakBanks (s : State) : List Nat :=
  s.serviceBanks.filter (fun b => (List.range 8).any (fun g => s.rdI STK_CAL_RESULT.CODE (8 * b + g) = 1))

/-- Step 7 ends with the calibration's results, or at its bound (R295, R301). -/
def State.calStep (s : State) (inTime : Bool) : State :=
  if !(s.atStep 7) then s
  else
    let s := s.setFlag STK_CAL_GRANT.OPEN false
    let count := s.rd (failField 7)
    let weak := if inTime then s.weakBanks else []
    let pass := inTime && s.serviceBanks.all (fun b => (List.range 8).all (fun g => decide (4 ≤ s.rdI STK_CAL_RESULT.CODE (8 * b + g))))
    let s := weak.foldl (fun s b => ((s.daybook ocAlt 7 0x72 b).retireEmpty b).fault 1 3 2 (detail := stacksDetail b 0 0)
      (srcKind := 4) (srcId := b)) s
    let held := decide (0 < count)
    let s := { s with start := { s.start with calHeld := held } }
    let s := (s.setFlag STK_REF_TIER.CAL_OK (pass && !held)).tierCheck
    let s := if !pass then (s.daybook ocAlt 7 (if held then 0x71 else 0x70)).stepFailed 7
      else if held then (s.daybook ocAlt 7 0x71).stepPassed 7
      else s.stepPass 7
    s.enterStep8

/-- REFRESH_CALIBRATION_STEP (R295). -/
def execRefreshCalibrationStep (inTime : Bool) (s : State) : Host.Outcome State Fault Refusal := settled (s.begin.calStep inTime)

/-- Step 8 ends; with HOLD the slice waits for RELEASE (R297). -/
def State.endStep8 (s : State) : State := if s.flag SLC_START_CTL.HOLD then s.wr SLC_START.STATE 2 else s.enterStep9

/-- A check that passed takes effect (R257). -/
def State.admPass (s : State) (w : AdmWhy) : State :=
  match w with
  | .image =>
    let s := { s with adm := { s.adm with tclNext := some s.tclStaged, winNext := some s.winStaged } }
    (s.applyTcl.applyWin.showDirty.stepPass 8).endStep8
  | .tcl src =>
    let s := { s with adm := { s.adm with tclNext := some s.tclStaged } }
    (((s.setFlag TCL_CTL.COMMIT false).setFlag TCL_CTL.CHECKING false).showDirty).ok src
  | .win src =>
    let s := { s with adm := { s.adm with winNext := some s.winStaged } }
    (((s.setFlag WIN_CTL.COMMIT false).setFlag WIN_CTL.CHECKING false).showDirty).ok src
  | .rampReg src v => (s.wr PWR_RAMP.RAMP_US v).ok src
  | .rampMsg seq v => (s.wr PWR_RAMP.RAMP_US v).budgetSend 3 stOk (BitVec.ofNat 8 seq) 0 s.capNow
  | .mirRate src v => (s.wr MIR_RATE.RATE v).ok src

/-- A check that failed leaves the configuration (R257, R296). -/
def State.admFail (s : State) (w : AdmWhy) (rsn : Nat) : State :=
  match w with
  | .image => ((s.daybook ocAlt 8 0x80 rsn).setFlag DBK_DEGRADED.ADMISSION true).endStep8
  | .tcl src => ((s.setFlag TCL_CTL.COMMIT false).setFlag TCL_CTL.CHECKING false).refuse src rsn
  | .win src => ((s.setFlag WIN_CTL.COMMIT false).setFlag WIN_CTL.CHECKING false).refuse src rsn
  | .rampReg src _ => s.refuse src rsn
  | .rampMsg seq _ => s.budgetSend 3 stRefused (BitVec.ofNat 8 seq) rsn s.capNow
  | .mirRate src _ => s.refuse src rsn

/-- The check at the head of the queue runs (R257). -/
def State.admission (s : State) : State :=
  match s.adm.queue with
  | [] => s
  | w :: rest =>
    let s := { s with adm := { s.adm with queue := rest } }
    let res := s.admCheck (s.admIn w)
    let s := s.admShow w res
    match res with
    | none => s.admPass w
    | some r => s.admFail w r.1

/-- ADMISSION_CHECK (R257). -/
def execAdmissionCheck (s : State) : Host.Outcome State Fault Refusal := settled s.begin.admission

/-- A write of SLC_START_CTL: RELEASE leaves HELD (R297). -/
def State.writeStartCtl (s : State) (m : MgWrite) : State :=
  let s := s.plain SLC_START_CTL.word.off m.word
  (if m.word.getLsbD 30 && s.rd SLC_START.STATE = 2 then s.enterStep9 else s).ok m.src

/-- START_RELEASE (R297). -/
def execStartRelease (m : MgWrite) (s : State) : Host.Outcome State Fault Refusal :=
  settled (s.begin.mgWrite (.startRelease m) SLC_START_CTL.word.off m (fun s => s.writeStartCtl m))

/-! ### Step 9 (R286, R297) -/

/-- A line in mirrored halves is written back from its serving copy (R286). -/
def State.halvesLine (s : State) (set way : Nat) (bit : Bool) : State :=
  let t := s.tag set way
  let s := s.releaseAtom (lineOf t.sector bit)
  if t.st bit = .dirty then s.farWrite (lineOf t.sector bit) (s.lineData set way bit) (t.p bit) .halves else s

/-- Bank `k` charged at least LIMIT times is retired, with an entry (R286). -/
def State.retireCharged (s : State) (k : Nat) : State :=
  let lim := s.rd STK_ECC_LIMIT.LIMIT
  let b := s.phys k
  if lim = 0 || tget 0 s.stk.halfBad k < lim || s.isRetired b then s
  else ((s.daybook ocAlt 9 0x20 b).retireEmpty b).fault 1 3 2 (detail := stacksDetail b 0 0) (srcKind := 4) (srcId := b)

/-- The roles of the ways of a bank lost beyond the spare move to replacement ways in every set (R67). -/
def State.moveRoles (s : State) (k : Nat) : State :=
  let w := s.stk.walk
  let q := s.stk.walkQ
  let s := { s with stk := { s.stk with walk := some ⟨k, 0, true, false⟩, walkQ := [] } }
  let s := (List.range 16384).foldl (fun s set => s.walkSet set) s
  { s with stk := { s.stk with walk := w, walkQ := q } }

/-- The slice leaves mirrored halves (R286). -/
def State.leaveHalves (s : State) : State :=
  let s := s.stk.tags.foldl (fun s e =>
    ((s.halvesLine (e.1 / 32) (e.1 % 32) false).halvesLine (e.1 / 32) (e.1 % 32) true).setTag (e.1 / 32) (e.1 % 32) TagW.empty) s
  let s := (List.range s.nb).foldl State.retireCharged s
  let s := ({ s with stk := { s.stk with halves := false } }).setFlag SLC_START.HALVES false
  s.stk.lostLb.foldl State.moveRoles s

/-- Step 9: mirrored halves end, credits are granted, and the slice is ONLINE (R297, R330). -/
def State.goOnline (s : State) : State :=
  if !(s.atStep 9) then s
  else
    let s := (s.leaveHalves.stepPass 9).wr SLC_START.STATE 5
    s.grantAll.applyCap.mirForm

/-- GO_ONLINE (R297). -/
def execGoOnline (s : State) : Host.Outcome State Fault Refusal := settled s.begin.goOnline

/-! ### Bounds and the driver's writes (R281, R303, R305) -/

/-- The bound of a step passes (R281): step 7 ends as a failed calibration, every other step fails. Steps 4 and 5 have timeouts
instead. -/
def State.stepTimeout (s : State) (n : Nat) : State :=
  if !(s.atStep n) || n = 4 || n = 5 then s
  else if n = 7 then s.calStep false
  else s.stepFail n 0 0

/-- STEP_TIMEOUT (R281). -/
def execStepTimeout (step : BitVec 4) (s : State) : Host.Outcome State Fault Refusal := settled (s.begin.stepTimeout step.toNat)

/-- A write of DBK_CTL (R303). -/
def State.writeDbkCtl (s : State) (m : MgWrite) : State :=
  let w := m.word
  let s := if w.getLsbD 31 then
      (((s.clearRange 0x1100 0x1300).wr DBK_STATUS.COUNT 0).setFlag DBK_STATUS.FULL false).wr DBK_STATUS.LOST 0
    else s
  let s := if w.getLsbD 30 then (s.setWord DBK_FAILS.word.off 0).setWord DBK_LINK_FAILS.word.off 0 else s
  let s := if w.getLsbD 29 then s.setWord DBK_RETIRED.word.off 0 else s
  s.ok m.src

/-- DAYBOOK_CLEAR (R303). -/
def execDaybookClear (m : MgWrite) (s : State) : Host.Outcome State Fault Refusal :=
  settled (s.begin.mgWrite (.daybookClear m) DBK_CTL.word.off m (fun s => s.writeDbkCtl m))
/-- CLR_FAILS (R303). -/
def execClrFails (m : MgWrite) (s : State) : Host.Outcome State Fault Refusal :=
  settled (s.begin.mgWrite (.clrFails m) DBK_CTL.word.off m (fun s => s.writeDbkCtl m))
/-- CLR_RETIRED (R303). -/
def execClrRetired (m : MgWrite) (s : State) : Host.Outcome State Fault Refusal :=
  settled (s.begin.mgWrite (.clrRetired m) DBK_CTL.word.off m (fun s => s.writeDbkCtl m))

/-- A write of SLC_FEAT (R305). -/
def State.writeRunLevel (s : State) (m : MgWrite) : State :=
  let v := fieldGet SLC_FEAT.RUN_LEVEL m.word
  match firstOf [(s.start.loaded, rsnField), (s.rd CUR_FW_STATUS.STATE = 2, rsnBusy), (v = 0, rsnField),
      (decide (s.rd SLC_CAP.FEAT_MAX < v), rsnFeatureLevel)] with
  | some r => s.refuse m.src r
  | none => (s.wr SLC_FEAT.RUN_LEVEL v).ok m.src

/-- RUN_LEVEL_WRITE (R305). -/
def execRunLevelWrite (m : MgWrite) (s : State) : Host.Outcome State Fault Refusal :=
  settled (s.begin.mgWrite (.runLevelWrite m) SLC_FEAT.word.off m (fun s => s.writeRunLevel m))

end Sys2Proof.Machine
end

