-- ==== Sys2Proof/Machine/Mirror.lean ====
section
/-! DEFINITION. The mirror commands (spec/13_mirror_failover.md): messages of the partner (R338 to R342), the capability message (R306),
link checks and takeover (R343, R344, R347), the seam and the Transom (R348, R349, R406), re-pairing (R350), the loss report (R351),
re-striping (R354 to R356), and MIR_LDG and MIR_RATE (R342, R257). -/

namespace Sys2Proof.Machine

/-! ### Messages as they arrive (R339) -/

/-- The mirror message that a command is. -/
def mirOf : Instr → Option MirMsg
  | .mwr h d => some ⟨0, h, some d, none, none, 0, none⟩
  | .mclean h => some ⟨1, h, none, none, none, 0, none⟩
  | .mdead h => some ⟨2, h, none, none, none, 0, none⟩
  | .minv h => some ⟨3, h, none, none, none, 0, none⟩
  | .mevict h => some ⟨4, h, none, none, none, 0, none⟩
  | .mldg h p => some ⟨5, h, none, some p, none, 0, none⟩
  | .mrow h p => some ⟨6, h, none, none, some p, 0, none⟩
  | .mscale h p => some ⟨7, h, none, none, none, p, none⟩
  | .mpwr h => some ⟨8, h, none, none, none, 0, none⟩
  | .mchk h => some ⟨9, h, none, none, none, 0, none⟩
  | .mack h => some ⟨10, h, none, none, none, 0, none⟩
  | _ => none

/-- The 16 B header of R339. -/
def mirHdrBits (typ : Nat) (h : MirHdr) : BitVec 128 :=
  BitVec.ofNat 128 (typ + h.lane.toNat * 2 ^ 4 + h.st.toNat * 2 ^ 6 + h.pin.toNat * 2 ^ 8 + h.psn.toNat * 2 ^ 9 + h.seq.toNat * 2 ^ 16
    + h.line.toNat * 2 ^ 39 + h.arg.toNat * 2 ^ 96)

/-- The TYPE of a header. -/
def mirTypeOf (b : BitVec 128) : Nat := (b.extractLsb' 0 4).toNat

/-- The other fields of a header. -/
def mirHdrOf (b : BitVec 128) : MirHdr :=
  ⟨b.extractLsb' 4 2, b.extractLsb' 6 2, b.getLsbD 8, b.getLsbD 9, b.extractLsb' 16 16, b.extractLsb' 39 45, b.extractLsb' 96 32⟩

/-- A mirror message with inverted bits: its header, then its payload. -/
def mirFlip (f : Flip) (m : MirMsg) : MirMsg :=
  let b := flipAt (mirHdrBits m.typ m.h) 0 f
  { m with
    typ := mirTypeOf b
    h := mirHdrOf b
    data := m.data.map (fun d => flipAt d 128 f)
    ldg := m.ldg.map (fun p => { p with op := { p.op with data := flipAt p.op.data 128 f, image := flipAt p.op.image 128 f } })
    row := m.row.map (fun p => { p with even := flipAt p.even 128 f })
    scale := flipAt m.scale 128 f }

/-! ### Copies (R338, R339) -/

/-- The line state in S of MWR. -/
def copySt (v : BitVec 2) : LineSt :=
  match v.toNat with
  | 1 => .clean
  | 2 => .dirty
  | 3 => .dead
  | _ => .inv

/-- MWR: the copy takes data, state, PIN and poison; an absent one is allocated. Where its way cannot be taken, it counts as evicted. -/
def State.copyWrite (s : State) (h : MirHdr) (d : LineData) : State :=
  if !(s.isCopy h.line) then s
  else
    let set := lineSet h.line
    let s := s.readTags set
    let (w?, s) := match s.lookup h.line with
      | some w => (some w, s.touch set w)
      | none => s.allocate h.line
    match w? with
    | some w =>
      let s := s.setTag set w { (s.tag set w).put (lineBit h.line) (copySt h.st) h.psn with pin := h.pin }
      s.writeJob set w h.line d
    | none => if copySt h.st = .dirty && (s.carrelOf h.line).isNone then s.mirEvict h.line else s

/-- MCLEAN: a carrel copy becomes CLEAN, any other INV. -/
def State.copyClean (s : State) (line : LineAddr) : State :=
  if !(s.isCopy line) then s
  else if (s.carrelOf line).isNone then s.dropLine line
  else if s.lineSt line = .dirty then s.setLine line .clean (s.lineP line) else s

/-- MDEAD. -/
def State.copyDead (s : State) (line : LineAddr) : State :=
  if s.isCopy line && (s.lineSt line).live then s.setLine line .dead (s.lineP line) else s

/-- MINV. -/
def State.copyInv (s : State) (line : LineAddr) : State := if s.isCopy line then s.dropLine line else s

/-- MEVICT at the home: the line is written back, and counts in MIR_UNMIR until memory has it. A line whose data are on their way is
mirrored anew when they arrive. -/
def State.copyGone (s : State) (line : LineAddr) : State :=
  if !(s.homesSelf line) || s.lineSt line != .dirty || s.dataPending line then s
  else
    let s := s.releaseAtom line
    match s.lookup line with
    | some w =>
      let bad := s.lineP line
      let s := s.writeBackLine (lineSet line) w (lineBit line) .evicted
      let s := (s.setLine line .clean bad).mirLine 1 line true
      { s with mir := { s.mir with evicted := s.mir.evicted ++ [line] } }
    | none => s

/-! ### Ledger copies (R342) -/

/-- The copy binding of the partner's entry. -/
def State.copyBind (s : State) (n : Nat) : Option Nat :=
  (List.range 32).find? (fun k => s.bindOk k && s.flagI MIR_LDG.COPY k && s.rdI MIR_LDG.PEER k = n)

/-- The physical row of a half that the message names. -/
def RowRef.half (f : RowRef) (odd : Bool) : Nat := if f.shadow then f.base + odd.toNat else f.base

/-- The contributions of an MLDG, with the MUL and SHIFT that it carries. -/
def mirNums (p : MirLedger) : List Num :=
  if p.op.kind = .laccS then (laccNums p.op).map (fun x => scaled x p.mul p.shift) else laccNums p.op

/-- MLDG on one tile row. -/
def State.copyRow (s : State) (h : MirHdr) (p : MirLedger) (f : RowRef) : State :=
  let r := f.half p.odd
  match p.op.kind with
  | .lacc | .laccS =>
    if h.psn then s.setRowSt f (fun t => { t with psn := true }) else (s.addRow p.op (mirNums p) f r h.line).1
  | .lmerge =>
    let live := s.halfRow f true = r
    ((s.mergeRow p.op.image f r h.line).1).setRowSt f (fun t => { t with
      psn := t.psn || h.psn, tokl := t.tokl || live, toks := t.toks || !live })
  | .ldrain =>
    ((s.setRowSt f (fun t => { t.d1 f.shadow p.op.epoch (seedOf p.op) with draining := false })).clearRow r f.fast)
  | .lclr => s.clearTile f p.op.epoch (seedOf p.op)
  | .lsnap | .reserved => s

/-- MLDG. -/
def State.copyLedger (s : State) (h : MirHdr) (p : MirLedger) : State :=
  match s.copyBind h.arg.toNat with
  | some n => if s.ldgFieldBad p.op (some n) then s else (s.jobRows h.line p.op n).foldl (fun s f => s.copyRow h p f) s
  | none => s

/-- MROW: the copy row takes the image and the row's state. -/
def State.copyImage (s : State) (h : MirHdr) (p : MirRow) : State :=
  match s.copyBind (h.arg.toNat % 2 ^ 8) with
  | none => s
  | some n =>
    match (s.lineRows n h.line)[h.arg.toNat / 2 ^ 8 % 4]? with
    | none => s
    | some f =>
      let s := (s.setRowImg f.base p.even).wroteCells f.base (List.range 32)
      let s := if f.shadow then (s.setRowImg (f.base + 1) p.odd).wroteCells (f.base + 1) (List.range 32) else s
      s.setRowSt f (fun _ => ⟨p.cur, p.live, false, p.psn, p.seed, false, false⟩)

/-! ### The scale table (R42, R336) -/

/-- The fields of an MSCALE (notes/assumptions/27.md): entry, VALID, SHIFT, MUL and GEN. -/
def scaleOf (p : BitVec 128) : Nat × ScaleEnt × BitVec 16 :=
  ((p.extractLsb' 0 8).toNat, ⟨p.getLsbD 63, p.extractLsb' 56 7, p.extractLsb' 64 32⟩, p.extractLsb' 32 16)

/-- An entry of the partner is reconciled with this slice's own (R336). -/
def State.scaleMeet (s : State) (n : Nat) (e : ScaleEnt) (gen : BitVec 16) : State :=
  let own := tget ScaleEnt.init s.ldg.master n
  let d := (gen - BitVec.ofNat 16 (s.rdI LDG_SCALE_CTL.GEN n)).toNat
  if !e.valid then s
  else if !own.valid then s.scaleInstall n e
  else if d = 0 then
    if e = own then s
    else
      let s := s.fault 9 3 1 (detail := n) (srcKind := 3) (srcId := 6)
      if s.rd MIR_PARTNER.COORD % 8 < s.rd SLC_LIVE.SELF then s.scaleInstall n e else s
  else if d < 2 ^ 15 then s.scaleInstall n e
  else s

/-- A commit of the scale queue completes. -/
def State.scaleTake (s : State) (p : BitVec 128) : State :=
  let (n, e, gen) := scaleOf p
  if s.rd MIR_STATUS.STATE = 2 then s.scaleInstall n e
  else
    let s := s.scaleMeet n e gen
    { s with mir := { s.mir with scales := s.mir.scales ||| BitVec.twoPow 256 n } }

/-! ### Sequence and credits (R340, R341) -/

/-- The SEQ expected in a lane. -/
def State.mirExpect (s : State) (lane : Nat) : BitVec 16 := tget 0 s.mir.rxSeq lane

/-- Return the credits of a lane: MACK up to the message before the oldest MSCALE that is not committed. -/
def State.mirCredits (s : State) (lane : Nat) : State :=
  let upTo := match s.mir.scaleQ.find? (fun x => x.1.lane.toNat = lane) with
    | some x => x.1.seq - 1
    | none => s.mirExpect lane - 1
  s.mirPlain 10 lane upTo.toNat

/-- A message has been applied: counted, with its time. -/
def State.mirApplied (s : State) : State :=
  let s := s.bump MIR_RX.COUNT
  let s := s.wr MIR_LAST_TS_LO.TS_LO s.pins.ns.toNat
  (s.wr MIR_LAST_TS_HI.TS_HI (s.pins.ns.toNat / 2 ^ 32)).wr MIR_LAST_TS_HI.WRAP (s.pins.wrap.toNat % 2 ^ 16)

/-- The effect of a message that takes a SEQ. -/
def State.mirEffect (s : State) (m : MirMsg) : State :=
  match m.typ with
  | 0 => s.copyWrite m.h (m.data.getD 0)
  | 1 => s.copyClean m.h.line
  | 2 => s.copyDead m.h.line
  | 3 => s.copyInv m.h.line
  | 4 => s.copyGone m.h.line
  | 5 => match m.ldg with
    | some p => s.copyLedger m.h p
    | none => s
  | 6 => match m.row with
    | some p => s.copyImage m.h p
    | none => s
  | 7 => { s with mir := { s.mir with scaleQ := s.mir.scaleQ ++ [(m.h, m.scale)] } }
  | 8 => s.pwrCommand ⟨m.h.arg.toNat % 4, true, .partner, false⟩
  | _ => s.fault 9 4 1 (srcKind := 3) (srcId := 6)

/-- Take the messages of a lane that are next in SEQ; a full scale queue holds an MSCALE and what follows it. -/
def State.mirPump (s : State) (lane : Nat) : Nat → State
  | 0 => s
  | k + 1 =>
    match s.mir.waiting.find? (fun m => m.h.lane.toNat = lane && m.h.seq = s.mirExpect lane) with
    | none => s
    | some m =>
      if m.typ = 7 && decide (16 ≤ s.mir.scaleQ.length) then s
      else
        let s := { s with mir := { s.mir with
          waiting := s.mir.waiting.erase m, rxSeq := tput 0 s.mir.rxSeq lane (s.mirExpect lane + 1) } }
        let s := (s.mirEffect m).mirApplied
        let s := if m.typ = 7 then s else s.mirCredits lane
        s.mirPump lane k

/-- Messages of a lane that wait leave while credits last. -/
def State.mirDrain (s : State) (lane : Nat) : Nat → State
  | 0 => s
  | k + 1 =>
    match s.mir.queue.find? (fun m => m.h.lane.toNat = lane) with
    | none => s
    | some m =>
      if s.mirCredit lane = 0 || s.mirShut then s
      else (({ s with mir := { s.mir with queue := s.mir.queue.erase m } }).mirDepart m).mirDrain lane k

/-- MACK: credits up to a SEQ return, and writes that waited for their messages are acknowledged. -/
def State.mirAcked (s : State) (lane : Nat) (q : BitVec 16) : State :=
  let hit (u : MirSent) : Bool := u.lane = lane && decide ((q - u.seq).toNat < 2 ^ 15)
  let gone := s.mir.unacked.filter hit
  let s := { s with mir := { s.mir with
    unacked := s.mir.unacked.filter (fun u => !(hit u))
    used := tput 0 s.mir.used lane (tget 0 s.mir.used lane - gone.length) } }
  let s := gone.foldl (fun s u => match u.wait with
    | some id => s.setWrite id (fun w => { w with mir := false })
    | none => s) s
  ((s.mirDrain lane s.mir.queue.length).ackCheck).mirProgress

/-! ### Link checks (R343, R347) -/

/-- ARG of MCHK: the layout of MIR_PEER_MAP with STATE in [23:21] and ADOPT in [10:8] (notes/assumptions/33.md). -/
def State.checkArg (s : State) : Nat :=
  s.rd SLC_LIVE.GEN * 2 ^ 24 + s.rd MIR_STATUS.STATE * 2 ^ 21 + s.rd SLC_LIVE.SELF * 2 ^ 16 + s.rd MIR_STATUS.ADOPT * 2 ^ 8
    + s.rd SLC_LIVE.MASK

/-- MCHK: the partner's map, its STATE, and whether it has adopted this slice's share. -/
def State.mirCheck (s : State) (arg : Nat) : State :=
  let peer := arg / 2 ^ 21 % 8
  let s := ((s.wr MIR_PEER_MAP.GEN (arg / 2 ^ 24)).wr MIR_PEER_MAP.SELF (arg / 2 ^ 16 % 8)).wr MIR_PEER_MAP.MASK (arg % 2 ^ 8)
  let s := { s with mir := { s.mir with peer := peer } }
  let st := s.rd MIR_STATUS.STATE
  if peer = 4 && arg / 2 ^ 8 % 8 = s.rd SLC_LIVE.SELF && st != 4 then
    (if st = 2 then s.mirSingle 1 else s).setFlag MIR_STATUS.DISPLACED true
  else if peer = 3 && st = 2 then s.mirSingle 5
  else if peer = 5 && st = 5 && !s.mir.sentAll then s.mirWalk
  else s

/-- This slice takes messages of its partner: paired, forming or re-pairing. -/
def State.mirTakes (s : State) : Bool :=
  s.rd MIR_STATUS.STATE = 1 || s.rd MIR_STATUS.STATE = 2 || s.rd MIR_STATUS.STATE = 5

/-- A message of the partner, past the injector. -/
def State.mirArrive (s : State) (m : MirMsg) : State :=
  if s.front.failed || s.dark || !(s.flag MIR_CTL.PAIR_EN) then s
  else
    let s := if s.bit LNK_STATUS.UP 6 then s.setFlag MIR_STATUS.LINK_UP true else s
    if m.typ = 9 then s.mirApplied.mirCheck m.h.arg.toNat
    else if m.typ = 10 then (if s.mirTakes then s.mirApplied.mirAcked m.h.lane.toNat (BitVec.ofNat 16 m.h.arg.toNat) else s)
    else if !s.mirTakes then (if 11 ≤ m.typ then s.mirEffect m else s)
    else if 2 ^ 15 ≤ (m.h.seq - s.mirExpect m.h.lane.toNat).toNat then s
    else
      let s := { s with mir := { s.mir with waiting := s.mir.waiting ++ [m] } }
      s.mirPump m.h.lane.toNat s.mir.waiting.length

/-- A held message is applied. -/
def mirRun : Instr → State → State
  | i, s => match mirOf i with
    | some m => s.mirArrive m
    | none => s

/-- A message arrives on the mirror port: over the Transom past its injector too (R370). -/
def State.mirIn (s : State) (i : Instr) : State :=
  match mirOf i with
  | none => s
  | some m =>
    let k := mirKind m.typ
    let run (m : MirMsg) (s : State) : State :=
      let (act, s) := s.inject 6 true k
      let above := s.flagI LNK_INJ_CTL.LAYER 6
      match act with
      | .pass =>
        let s := s.mirArrive m
        match (s.injector 6).held with
        | some (c, .received h) =>
          if c = k then mirRun h (s.setInjector 6 { s.injector 6 with held := none }) else s
        | _ => s
      | .drop => if above then s else s.mirArrive m
      | .flip f => s.mirArrive (if above then mirFlip f m else m)
      | .hold => s.setInjector 6 { s.injector 6 with held := some (k, .received i) }
    if !s.mirAcross then run m s
    else
      let (act, s) := s.inject 7 true 0
      let above := s.flagI LNK_INJ_CTL.LAYER 7
      match act with
      | .pass =>
        let s := run m s
        match (s.injector 7).held with
        | some (0, .received h) => mirRun h (s.setInjector 7 { s.injector 7 with held := none })
        | _ => s
      | .drop => if above then s else run m s
      | .flip f => run (if above then mirFlip f m else m) s
      | .hold => s.setInjector 7 { s.injector 7 with held := some (0, .received i) }

/-- MWR (R339). -/
def execMwr (h : MirHdr) (d : LineData) (s : State) : Host.Outcome State Fault Refusal := settled (s.begin.mirIn (.mwr h d))
/-- MCLEAN (R339). -/
def execMclean (h : MirHdr) (s : State) : Host.Outcome State Fault Refusal := settled (s.begin.mirIn (.mclean h))
/-- MDEAD (R339). -/
def execMdead (h : MirHdr) (s : State) : Host.Outcome State Fault Refusal := settled (s.begin.mirIn (.mdead h))
/-- MINV (R339). -/
def execMinv (h : MirHdr) (s : State) : Host.Outcome State Fault Refusal := settled (s.begin.mirIn (.minv h))
/-- MEVICT (R338). -/
def execMevict (h : MirHdr) (s : State) : Host.Outcome State Fault Refusal := settled (s.begin.mirIn (.mevict h))
/-- MLDG (R342). -/
def execMldg (h : MirHdr) (p : MirLedger) (s : State) : Host.Outcome State Fault Refusal := settled (s.begin.mirIn (.mldg h p))
/-- MROW (R339). -/
def execMrow (h : MirHdr) (p : MirRow) (s : State) : Host.Outcome State Fault Refusal := settled (s.begin.mirIn (.mrow h p))
/-- MSCALE (R42). -/
def execMscale (h : MirHdr) (p : BitVec 128) (s : State) : Host.Outcome State Fault Refusal := settled (s.begin.mirIn (.mscale h p))
/-- MPWR (R316). -/
def execMpwr (h : MirHdr) (s : State) : Host.Outcome State Fault Refusal := settled (s.begin.mirIn (.mpwr h))
/-- MCHK (R343). -/
def execMchk (h : MirHdr) (s : State) : Host.Outcome State Fault Refusal := settled (s.begin.mirIn (.mchk h))
/-- MACK (R341). -/
def execMack (h : MirHdr) (s : State) : Host.Outcome State Fault Refusal := settled (s.begin.mirIn (.mack h))

/-- The scale queue applies its oldest commit; its credit returns, and a held message of its lane goes on (R42). -/
def State.scaleApply (s : State) : State :=
  match s.mir.scaleQ with
  | [] => s
  | (h, p) :: rest =>
    let s := ({ s with mir := { s.mir with scaleQ := rest } }).scaleTake p
    let lane := h.lane.toNat
    let s := (s.mirCredits lane).mirPump lane s.mir.waiting.length
    s.mirProgress

/-- SCALE_QUEUE_APPLY (R42). -/
def execScaleQueueApply (s : State) : Host.Outcome State Fault Refusal := settled s.begin.scaleApply

/-! ### The capability message (R306) -/

/-- Fields of a capability message: FEAT_MAX, RUN_LEVEL, BUILD, COORD. -/
def capLevel (m : BitVec 64) : Nat := (m.extractLsb' 52 4).toNat
/-- BUILD. -/
def capBuild (m : BitVec 64) : Bool := m.getLsbD 51
/-- COORD. -/
def capCoord (m : BitVec 64) : Nat := (m.extractLsb' 0 24).toNat

/-- The mirror partner's message: pairing is refused, or the pair forms. -/
def State.capMirror (s : State) (m : BitVec 64) : State :=
  if !(s.flag MIR_CTL.PAIR_EN) then s
  else if capBuild m != s.s64 || capLevel m != s.rd SLC_FEAT.RUN_LEVEL || capCoord m != s.rd MIR_PARTNER.COORD then
    s.daybook ocAlt 6 0x63
  else if s.rd MIR_STATUS.STATE = 3 && s.rd MIR_STATUS.CAUSE = 0 && !(s.flag MIR_STATUS.DISPLACED) then
    ((s.wr MIR_STATUS.STATE 1).mirFresh).mirForm
  else s

/-- A capability message of the Wicket or the Transom: another RUN_LEVEL within the package is logged. -/
def State.capChain (s : State) (n : Nat) (m : BitVec 64) : State :=
  if capCoord m / 2 ^ 8 = s.rd SLC_ID.COORD / 2 ^ 8 && capLevel m != s.rd SLC_FEAT.RUN_LEVEL then
    s.fault 10 3 1 (detail := n) (srcKind := 3) (srcId := n)
  else s

/-- A capability message has arrived. -/
def State.capApply (s : State) (n : Nat) (m : BitVec 64) : State :=
  if n < 5 || (m.extractLsb' 60 4).toNat != 1 then s
  else
    let s := if n < 7 && s.flagI LNK_UCIE.VALID (n - 5) then s.setFlagI LNK_UCIE.CAP_RX (n - 5) true else s
    if n = 6 then s.capMirror m else s.capChain n m

/-- The command of a capability message. -/
def capRun : Instr → State → State
  | .capabilityMessage link m, s => s.capApply link.toNat m
  | _, s => s

/-- Its inverted bits. -/
def capFlip (f : Flip) : Instr → Instr
  | .capabilityMessage link m => .capabilityMessage link (flipAt m 0 f)
  | i => i

/-- CAPABILITY_MESSAGE (R306). -/
def execCapabilityMessage (link : BitVec 3) (msg : BitVec 64) (s : State) : Host.Outcome State Fault Refusal :=
  let n := link.toNat
  settled (if n = 5 then s.begin.receive 5 4 4 (.capabilityMessage link msg) capRun capFlip id
    else if n = 6 then s.begin.receive 6 3 3 (.capabilityMessage link msg) capRun capFlip id
    else s.begin.capApply n msg)

/-! ### Link down and takeover (R343, R344) -/

/-- A microsecond ends: MCHK leaves when nothing else was sent in it (R343). -/
def State.checkSend (s : State) : State :=
  let quiet := s.front.failed || s.dark || !(s.flag MIR_CTL.PAIR_EN) || !(s.bit LNK_STATUS.UP 6)
  let s := if s.mir.sent || quiet then s else s.mirPlain 9 0 s.checkArg
  { s with mir := { s.mir with sent := false } }

/-- MCHK_SEND (R343). -/
def execMchkSend (s : State) : Host.Outcome State Fault Refusal := settled s.begin.checkSend

/-- T1 of a takeover, and the probe of T2 (R344): mirroring stops, waiting writes are acknowledged, and a request for an address of the
adopted share, which the spec leaves open, leaves for its memory controller. -/
def State.takeoverStart (s : State) : State :=
  let s := s.mirSingle 1
  let (c, s) := s.fresh
  ({ s with mir := { s.mir with probing := true } }).sendOn 7 2 2 (fun _ => .probe (BitVec.ofNat 45 (Config.freeNat c)))

/-- The mirror link is declared down (R343). -/
def State.mirDown (s : State) : State :=
  let s := s.setFlag MIR_STATUS.LINK_UP false
  if !s.mirTakes || s.winding then s
  else if s.pins.peerLive then (s.mirSingle 2).fault 9 2 2 (srcKind := 3) (srcId := 6) (irq := true)
  else if s.mirAcross && s.flag MIR_SEAM.TIMED_OUT then s.mirSingle 3
  else if !(s.flag MIR_CTL.TAKE_EN) then s.mirSingle 6
  else if s.rd MIR_STATUS.STATE = 2 then s.takeoverStart
  else s.mirSingle 0

/-- MIRROR_LINK_DOWN (R343): no message for MIR_TMO, or the link layer's report; `live` is the PEER_LIVE input. -/
def execMirrorLinkDown (reported live : Bool) (s : State) : Host.Outcome State Fault Refusal :=
  let s := s.begin
  let s := { s with pins := { s.pins with peerLive := live } }
  settled (if s.front.failed || s.dark then s else (if reported then s.linkLost 6 else s).mirDown)

/-- The time of the last message, bits [47:16] of the package timestamp. -/
def State.mirLastTs (s : State) : Nat := (s.rd MIR_LAST_TS_HI.TS_HI * 2 ^ 32 + s.rd MIR_LAST_TS_LO.TS_LO) / 2 ^ 16

/-- T3: the share is adopted (R344). -/
def State.takeover (s : State) (copyOnly : Bool) : State :=
  if !s.mir.probing then s
  else
    let share := s.rd MIR_PARTNER.COORD % 8
    let s := { s with
      mir := { s.mir with probing := false }
      pins := { s.pins with takeover := true, share := BitVec.ofNat 3 share } }
    let s := ((s.wr MIR_STATUS.STATE 4).wr MIR_STATUS.ADOPT share).setFlag MIR_STATUS.REACH copyOnly
    let s := s.fault 9 1 2 (detail := share + 8 * copyOnly.toNat) (srcKind := 3) (srcId := 6) (irq := true)
    (s.lossEntry (if s.flag MIR_CTL.DIRTY_MIR then 2 else 3) 6 0 (s.rd MIR_PARTNER.COORD) s.mirLastTs).bump MIR_TAKEOVERS.COUNT

/-- REACH_PROBE_ANSWER (R344): OK gives FULL, any other answer COPY_ONLY. -/
def execReachProbeAnswer (status : BitVec 4) (s : State) : Host.Outcome State Fault Refusal :=
  settled (s.begin.takeover (status.toNat != stOk))

/-- REACH_PROBE_TIMEOUT (R344). -/
def execReachProbeTimeout (s : State) : Host.Outcome State Fault Refusal := settled (s.begin.takeover true)

/-! ### The seam (R348, R349) and the Transom (R406) -/

/-- The seam has stalled for 8 µs without announcement. -/
def State.seamTimeout (s : State) : State :=
  if s.flag MIR_SEAM.TIMED_OUT || s.mir.shut || s.flag MIR_SEAM.READY then s
  else
    let s := { (s.setFlag MIR_SEAM.TIMED_OUT true) with tran := { s.tran with wait := [] } }
    let s := s.fault 9 5 2 (srcKind := 3) (srcId := 7) (irq := true)
    let s := if s.mirAcross && s.mirTakes then s.mirSingle 3 else s
    (List.range 16).foldl (fun s c =>
      match s.chn.tokens.find? (fun t => t.ctx = c) with
      | some t => if s.chnOk c && s.chnAcross c then s.chainFault c t.seq.toNat else s
      | none => s) s

/-- SEAM_TIMEOUT (R348). -/
def execSeamTimeout (s : State) : Host.Outcome State Fault Refusal := settled s.begin.seamTimeout

/-- A write of MIR_SEAM (R349): RESUME lets traffic cross again, ANNOUNCE begins a clock-down. -/
def State.writeSeam (s : State) (m : MgWrite) : State :=
  let s := s.plain MIR_SEAM.word.off m.word
  let s := if m.word.getLsbD 30 then
      let s := (s.setFlag MIR_SEAM.READY false).setFlag MIR_SEAM.TIMED_OUT false
      { s with mir := { s.mir with shut := false } }
    else s
  let s := if m.word.getLsbD 31 && !(s.flag MIR_SEAM.READY) then { s with mir := { s.mir with shut := true } } else s
  s.ok m.src

/-- SEAM_ANNOUNCE (R349). -/
def execSeamAnnounce (m : MgWrite) (s : State) : Host.Outcome State Fault Refusal :=
  settled (s.begin.mgWrite (.seamAnnounce m) MIR_SEAM.word.off m (fun s => s.writeSeam m))
/-- SEAM_RESUME (R349). -/
def execSeamResume (m : MgWrite) (s : State) : Host.Outcome State Fault Refusal :=
  settled (s.begin.mgWrite (.seamResume m) MIR_SEAM.word.off m (fun s => s.writeSeam m))

/-- The crossing is drained: READY, and a pair across the seam is SINGLE. -/
def State.seamReady (s : State) : State :=
  let quiet := (!s.mirAcross || s.mir.unacked.isEmpty) && s.chn.tokens.all (fun t => !(s.chnAcross t.ctx))
  if !s.mir.shut || !quiet then s
  else
    let s := { (s.setFlag MIR_SEAM.READY true) with mir := { s.mir with shut := false } }
    if s.mirAcross && s.mirTakes then s.mirSingle 4 else s

/-- SEAM_READY (R349). -/
def execSeamReady (s : State) : Host.Outcome State Fault Refusal := settled s.begin.seamReady

/-- A beat arrives on a Transom lane, into its FIFO of 64 entries. -/
def State.transomBeat (s : State) (lane : Nat) (b : LineData × BitVec 64) : State :=
  let q := tget [] s.tran.fifo lane
  if lane = 3 || decide (64 ≤ q.length) then s
  else { s with tran := { s.tran with fifo := tput [] s.tran.fifo lane (q ++ [b]) } }

/-- TRANSOM_BEAT (R406). -/
def execTransomBeat (lane : BitVec 2) (d : LineData) (sb : BitVec 64) (s : State) : Host.Outcome State Fault Refusal :=
  settled (s.begin.transomBeat lane.toNat (d, sb))

/-- Messages that wait in a Transom lane leave while its credits last. -/
def State.tranDrain (s : State) (lane : Nat) : Nat → State
  | 0 => s
  | k + 1 =>
    match s.tran.wait.find? (fun w => w.1 = lane) with
    | none => s
    | some w =>
      if s.tranCredit lane < w.2.1 then s
      else
        (({ s with tran := { s.tran with
          wait := s.tran.wait.erase w, credits := tput 64 s.tran.credits lane (s.tranCredit lane - w.2.1) } }).emit w.2.2).tranDrain lane k

/-- A credit returns on a Transom lane. -/
def State.transomCredit (s : State) (lane : Nat) : State :=
  if lane = 3 then s
  else
    let s := { s with tran := { s.tran with credits := tput 64 s.tran.credits lane (min 64 (s.tranCredit lane + 1)) } }
    s.tranDrain lane s.tran.wait.length

/-- TRANSOM_CREDIT (R406). -/
def execTransomCredit (lane : BitVec 2) (s : State) : Host.Outcome State Fault Refusal := settled (s.begin.transomCredit lane.toNat)

/-! ### Re-pairing (R350) and planned unpairing (R335) -/

/-- REPAIR is refused: the share of a partner is adopted, this one is displaced, or the link is down. -/
def State.repairBusy (s : State) : Bool :=
  s.rd MIR_STATUS.STATE = 4 || s.flag MIR_STATUS.DISPLACED || !(s.flag MIR_STATUS.LINK_UP)

/-- A re-pairing begins: copies are invalidated, and the walk is sent when the partner re-pairs too. -/
def State.repairStart (s : State) : State :=
  if s.rd MIR_STATUS.STATE != 3 && s.rd MIR_STATUS.STATE != 1 then s
  else
    let s := ((s.wr MIR_STATUS.STATE 5).setFlag MIR_CTL.REPAIR true).mirFresh.dropCopies
    if s.mir.peer = 5 then s.mirWalk else s

/-- A write of MIR_CTL. -/
def State.writeMirCtl (s : State) (m : MgWrite) : State :=
  let rep := m.word.getLsbD 31
  if rep && s.repairBusy then s.refuse m.src rsnBusy
  else
    let s := s.plain MIR_CTL.word.off m.word
    let s := if m.word.getLsbD 30 && s.rd MIR_STATUS.STATE = 2 then (s.setFlag MIR_CTL.SPLIT true).mirProgress else s
    (if rep then s.repairStart else s).ok m.src

/-- REPAIR (R350). -/
def execRepair (m : MgWrite) (s : State) : Host.Outcome State Fault Refusal :=
  settled (s.begin.mgWrite (.repair m) MIR_CTL.word.off m (fun s => s.writeMirCtl m))
/-- SPLIT (R335). -/
def execSplit (m : MgWrite) (s : State) : Host.Outcome State Fault Refusal :=
  settled (s.begin.mgWrite (.split m) MIR_CTL.word.off m (fun s => s.writeMirCtl m))

/-- Both walks have been acknowledged: the pair is PAIRED (R350). -/
def State.resyncDone (s : State) : State := if s.rd MIR_STATUS.STATE = 5 && s.mirDone then s.mirPaired else s

/-- RESYNC_DONE (R350). -/
def execResyncDone (s : State) : Host.Outcome State Fault Refusal := settled s.begin.resyncDone

/-! ### Re-striping (R355, R356) -/

/-- PREPARE's tag walk for one line: a DIRTY line is written back, except a copy, and except a line of an adopted share out of reach,
which is discarded and reported. -/
def State.stripeLine (s : State) (set way : Nat) (bit : Bool) : State :=
  let t := s.tag set way
  let line := lineOf t.sector bit
  let s := s.releaseAtom line
  if t.st bit != .dirty || s.isCopy line then s
  else if s.adopted line && s.flag MIR_STATUS.REACH then s.lossLines 5 [line]
  else s.writeBackLine set way bit .prepare

/-- PREPARE's tag walk: every line becomes INV. -/
def State.stripeTags (s : State) : State :=
  let s := s.coh.atoms.foldl (fun s a => s.releaseAtom a.line) s
  s.stk.tags.foldl (fun s e =>
    ((s.stripeLine (e.1 / 32) (e.1 % 32) false).stripeLine (e.1 / 32) (e.1 % 32) true).setTag (e.1 / 32) (e.1 % 32) TagW.empty) s

/-- PREPARE goes on as far as it can: Reshelver commands and window walks complete, the Catalogue walk ends, then the tags are walked. -/
def State.stripeStep (s : State) : State :=
  if s.rd MIR_RESTRIPE.STATE != 1 || s.mir.stripe.walked then s
  else if s.place.running.isSome || !s.place.queue.isEmpty || !s.ord.pend.isEmpty || s.flag ORD_WIN_STATUS.BUSY then s
  else if !(s.coh.cat.isEmpty) then s.dirWalk .prepare
  else if !(s.coh.txns.isEmpty) || !(s.stk.farReads.isEmpty) then s
  else
    let s := s.stripeTags
    { s with mir := { s.mir with stripe := { s.mir.stripe with walked := true } } }

/-- PREPARE ends when every write-back has been acknowledged; a pending ABORT then takes effect. -/
def State.stripeReady (s : State) : State :=
  let s := s.stripeStep
  if s.rd MIR_RESTRIPE.STATE = 1 && s.mir.stripe.walked && s.memQuiet then
    let s' := { s with mir := { s.mir with stripe := ⟨false, false⟩ } }
    s'.wr MIR_RESTRIPE.STATE (if s.mir.stripe.abort then 0 else 2)
  else s

/-- RESTRIPE_READY (R355). -/
def execRestripeReady (s : State) : Host.Outcome State Fault Refusal := settled s.begin.stripeReady

/-- COMMIT: the map in force serves, an adopted share is dropped, and DISPLACED clears. -/
def State.stripeCommit (s : State) : State :=
  let s := (s.wr MIR_RESTRIPE.STATE 0).setFlag MIR_STATUS.DISPLACED false
  if s.rd MIR_STATUS.STATE = 4 then
    { (s.wr MIR_STATUS.STATE 3) with pins := { s.pins with takeover := false, share := 0 } }
  else s

/-- A write of MIR_RESTRIPE. -/
def State.writeRestripe (s : State) (m : MgWrite) : State :=
  let op := fieldGet MIR_RESTRIPE.OP m.word
  let st := s.rd MIR_RESTRIPE.STATE
  if !(m.word.getLsbD 31) then (s.plain MIR_RESTRIPE.word.off m.word).ok m.src
  else if op = 3 then s.refuse m.src rsnField
  else if op = 1 && st != 2 then s.refuse m.src rsnBusy
  else
    let s := s.plain MIR_RESTRIPE.word.off m.word
    let s := match op with
      | 0 => if st = 0 then (s.wr MIR_RESTRIPE.STATE 1).stripeStep else s
      | 1 => s.stripeCommit
      | _ =>
        if st = 1 then { s with mir := { s.mir with stripe := { s.mir.stripe with abort := true } } }
        else s.wr MIR_RESTRIPE.STATE 0
    s.ok m.src

/-- PREPARE (R355). -/
def execPrepare (m : MgWrite) (s : State) : Host.Outcome State Fault Refusal :=
  settled (s.begin.mgWrite (.prepare m) MIR_RESTRIPE.word.off m (fun s => s.writeRestripe m))
/-- COMMIT (R356). -/
def execCommit (m : MgWrite) (s : State) : Host.Outcome State Fault Refusal :=
  settled (s.begin.mgWrite (.commit m) MIR_RESTRIPE.word.off m (fun s => s.writeRestripe m))
/-- ABORT (R356). -/
def execAbort (m : MgWrite) (s : State) : Host.Outcome State Fault Refusal :=
  settled (s.begin.mgWrite (.abort m) MIR_RESTRIPE.word.off m (fun s => s.writeRestripe m))

/-! ### Other registers -/

/-- A write of MIR_LDG_n (R342). -/
def State.writeMirLdg (s : State) (n : Nat) (m : MgWrite) : State :=
  if (m.word.getLsbD 31 || m.word.getLsbD 30) && !(s.bindOk n) then s.refuse m.src rsnBindInvalid
  else (s.plain (MIR_LDG.word.off + 4 * n) m.word).ok m.src

/-- MIR_LDG_WRITE (R342). -/
def execMirLdgWrite (n : BitVec 5) (m : MgWrite) (s : State) : Host.Outcome State Fault Refusal :=
  settled (s.begin.mgWrite (.mirLdgWrite n m) (MIR_LDG.word.off + 4 * n.toNat) m (fun s => s.writeMirLdg n.toNat m))

/-- A write of MIR_RATE runs admission (R257). -/
def State.writeMirRate (s : State) (m : MgWrite) : State := s.admSubmit (.mirRate m.src (fieldGet MIR_RATE.RATE m.word))

/-- MIR_RATE_WRITE (R257). -/
def execMirRateWrite (m : MgWrite) (s : State) : Host.Outcome State Fault Refusal :=
  settled (s.begin.mgWrite (.mirRateWrite m) MIR_RATE.word.off m (fun s => s.writeMirRate m))

/-- A write of MIR_LOSS_CTL: CLEAR empties the ring (R351). -/
def State.writeLoss (s : State) (m : MgWrite) : State :=
  let s := if m.word.getLsbD 31 then (s.clearRange 0x26800 0x27000).setWord MIR_LOSS_CTL.word.off 0 else s
  s.ok m.src

/-- LOSS_REPORT_CLEAR (R351). -/
def execLossReportClear (m : MgWrite) (s : State) : Host.Outcome State Fault Refusal :=
  settled (s.begin.mgWrite (.lossReportClear m) MIR_LOSS_CTL.word.off m (fun s => s.writeLoss m))

end Sys2Proof.Machine
end

