-- ==== Sys2Proof/Machine/Errors.lean ====
section
/-! DEFINITION. Errors (spec/14_errors_injection.md): the fault log's ring (R362 to R364), stalls of crossing lanes (R24), the Curator
watchdog (R366 to R368), and fault injectors (R370 to R373). -/

namespace Sys2Proof.Machine

/-! ### The fault log (R362 to R364) -/

/-- The oldest entry of the intake queue is written to the ring; over the oldest unread entry when 512 are unread. -/
def State.logWrite (s : State) : State :=
  match s.err.intake with
  | [] => s
  | e :: rest =>
    let seq := s.word ERR_LOG_SEQ.word.off
    let full := (seq - s.word ERR_LOG_TAIL.word.off).toNat = 512
    let s := if full then
        (s.setWord ERR_LOG_TAIL.word.off (s.word ERR_LOG_TAIL.word.off + 1)).bump ERR_LOG_LOST.COUNT
      else s
    let s := s.setWord ERR_LOG_SEQ.word.off (seq + 1)
    { s with err := { s.err with intake := rest, ring := tset s.err.ring (seq.toNat % 512) (e, seq) } }

/-- FAULT_LOG_WRITE (R362). -/
def execFaultLogWrite (s : State) : Host.Outcome State Fault Refusal := settled s.begin.logWrite

/-- A write of ERR_LOG_TAIL: forward by no more than SEQ − TAIL (R363). -/
def State.writeTail (s : State) (m : MgWrite) : State :=
  let tail := s.word ERR_LOG_TAIL.word.off
  if (m.word - tail).toNat ≤ (s.word ERR_LOG_SEQ.word.off - tail).toNat then (s.setWord ERR_LOG_TAIL.word.off m.word).ok m.src
  else s.refuse m.src rsnField

/-- ERR_LOG_TAIL_WRITE (R363). -/
def execErrLogTailWrite (m : MgWrite) (s : State) : Host.Outcome State Fault Refusal :=
  settled (s.begin.mgWrite (.errLogTailWrite m) ERR_LOG_TAIL.word.off m (fun s => s.writeTail m))

/-- The words of an entry (R361). -/
def entryWords (e : ErrEnt) (seq : Word) : List (Nat × Word) :=
  let line := (e.loc.getD 0).toNat
  [(ERR_ENT_TS_LO.word.off, BitVec.ofNat 32 e.ns.toNat),
   (ERR_ENT_TS_HI.word.off, BitVec.ofNat 32 (e.wrap.toNat * 2 ^ 16 + e.ns.toNat / 2 ^ 32)),
   (ERR_ENT_LOC_LO.word.off, BitVec.ofNat 32 (line % 2 ^ 25 * 2 ^ 7)),
   (ERR_ENT_LOC_HI.word.off, BitVec.ofNat 32 (line / 2 ^ 25)),
   (ERR_ENT_DETAIL.word.off, BitVec.ofNat 32 e.detail),
   (ERR_ENT_INFO.word.off, BitVec.ofNat 32 (2 ^ 31 + e.loc.isSome.toNat * 2 ^ 30 + e.cls * 2 ^ 26 + e.sev * 2 ^ 24 + e.code * 2 ^ 16
     + e.status * 2 ^ 12 + e.srcKind * 2 ^ 8 + e.srcId % 2 ^ 8)),
   (ERR_ENT_SEQ.word.off, seq)]

/-- The words of an index that was never written. -/
def emptyWords : List (Nat × Word) :=
  [ERR_ENT_TS_LO.word.off, ERR_ENT_TS_HI.word.off, ERR_ENT_LOC_LO.word.off, ERR_ENT_LOC_HI.word.off, ERR_ENT_DETAIL.word.off,
   ERR_ENT_INFO.word.off, ERR_ENT_SEQ.word.off].map (fun off => (off, 0))

/-- A write of ERR_LOG_SEL latches the selected entry into the entry words (R364). -/
def State.writeSel (s : State) (m : MgWrite) : State :=
  let n := fieldGet ERR_LOG_SEL.INDEX m.word
  let words := match tfind s.err.ring n with
    | some (e, seq) => entryWords e seq
    | none => emptyWords
  (words.foldl (fun s w => s.setWord w.1 w.2) (s.wr ERR_LOG_SEL.INDEX n)).ok m.src

/-- ERR_LOG_SELECT (R364). -/
def execErrLogSelect (m : MgWrite) (s : State) : Host.Outcome State Fault Refusal :=
  settled (s.begin.mgWrite (.errLogSelect m) ERR_LOG_SEL.word.off m (fun s => s.writeSel m))

/-! ### The Curator watchdog (R366 to R368) -/

/-- An event that counts as a watchdog expiry, with its CODE (R367). -/
def State.wdtEvent (s : State) (code : Nat) : State :=
  let s := (s.holdCurator.bump CUR_WDT_STATUS.EXPIRIES).wr CUR_FW_STATUS.STATE 0
  let n := s.rd CUR_WDT_STATUS.EXPIRIES
  let s := s.fault 11 code 2 (detail := n) (srcKind := 8) (irq := true)
  if n < max 1 (s.rd CUR_WDT_CTL.LIMIT) && !(s.flag CUR_WDT_STATUS.HELD) then s.loaderRelease
  else
    let s := (s.setFlag CUR_WDT_STATUS.HELD true).wr CUR_FW_STATUS.STATE 4
    s.fault 11 3 2 (detail := n) (srcKind := 8)

/-- The watchdog expires while it is armed, or the Curator's SRAM shows an uncorrectable error. -/
def State.wdtExpire (s : State) : WdtCause → State
  | .expiry => if s.flag CUR_WDT_STATUS.ARMED then s.wdtEvent 1 else s
  | .sramUe => s.wdtEvent 2

/-- WATCHDOG_EXPIRE (R367). -/
def execWatchdogExpire (cause : WdtCause) (s : State) : Host.Outcome State Fault Refusal := settled (s.begin.wdtExpire cause)

/-- A write of CUR_WDT_CTL (R366): the Curator kicks, the driver sets PERIOD_MS and LIMIT. -/
def State.writeWdt (s : State) (m : MgWrite) : State :=
  let kick := m.word.getLsbD 31
  match m.src with
  | .curator =>
    if fieldGet CUR_WDT_CTL.LIMIT m.word != s.rd CUR_WDT_CTL.LIMIT || fieldGet CUR_WDT_CTL.PERIOD_MS m.word != s.rd CUR_WDT_CTL.PERIOD_MS
    then s.refuse m.src rsnField
    else (if kick && s.flag CUR_WDT_STATUS.ARMED then s.wdtRestart else s).ok m.src
  | src => if kick then s.refuse src rsnField else (s.plain CUR_WDT_CTL.word.off m.word).ok src

/-- WATCHDOG_KICK (R366). -/
def execWatchdogKick (m : MgWrite) (s : State) : Host.Outcome State Fault Refusal :=
  settled (s.begin.mgWrite (.watchdogKick m) CUR_WDT_CTL.word.off m (fun s => s.writeWdt m))

/-- A write of CUR_WDT_STATUS: 1 to HELD clears it and the count, and releases the boot loader (R368). -/
def State.writeWdtStatus (s : State) (m : MgWrite) : State :=
  let s := if m.word.getLsbD 30 && s.flag CUR_WDT_STATUS.HELD then
      ((s.setFlag CUR_WDT_STATUS.HELD false).wr CUR_WDT_STATUS.EXPIRIES 0).loaderRelease
    else s
  s.ok m.src

/-- WATCHDOG_HELD_CLEAR (R368). -/
def execWatchdogHeldClear (m : MgWrite) (s : State) : Host.Outcome State Fault Refusal :=
  settled (s.begin.mgWrite (.watchdogHeldClear m) CUR_WDT_STATUS.word.off m (fun s => s.writeWdtStatus m))

/-! ### Stalls of crossing lanes (R24) -/

/-- A lane of bank pair `k` has stalled: both banks are retired as failed. -/
def State.stallPair (s : State) (k : Nat) : State :=
  if k = 8 || decide (k < s.nb / 2) then
    let s := s.setBit SLC_ISLAND_STATUS.BP_STALL k true
    (s.fault 2 1 2 (detail := 23 + k) (srcKind := 8) (irq := true)).retireAbrupt k
  else s

/-- A lane of the Ledger or of the night-latch island has stalled: the slice fails. -/
def State.stallFail (s : State) (f : Field) : State :=
  ((s.setFlag f true).fault 2 1 3 (detail := f.lo) (srcKind := 8) (irq := true)).fail 2 1

/-- A lane of the Curator has stalled: it counts as a watchdog expiry. -/
def State.stallCurator (s : State) : State :=
  ((s.setFlag SLC_ISLAND_STATUS.CUR_STALL true).fault 2 1 2 (detail := 18) (srcKind := 8) (irq := true)).wdtEvent 1

/-- A lane has held an entry for 10 µs. -/
def State.stall (s : State) : Crossing → State
  | .frontToBank k _ | .bankToFront k _ | .nightToBank k | .bankToNight k => s.stallPair k.toNat
  | .frontToLedger _ | .ledgerToFront _ => s.stallFail SLC_ISLAND_STATUS.LDG_STALL
  | .frontToCurator | .curatorToFront => s.stallCurator
  | .frontToNight | .nightToFront => s.stallFail SLC_ISLAND_STATUS.NL_STALL

/-- LANE_STALL (R24). -/
def execLaneStall (x : Crossing) (s : State) : Host.Outcome State Fault Refusal := settled (s.begin.stall x)

/-! ### Injectors (R369 to R372) -/

/-- A write of LNK_INJ_CTL: EN = 1 arms the injector, with its count at 0 and its feedback register loaded from SEED. -/
def State.writeInjCtl (s : State) (n : Nat) (m : MgWrite) : State :=
  if (s.s64 && (n = 2 || n = 3)) || 5 ≤ fieldGet LNK_INJ_CTL.MODE m.word then s.refuse m.src rsnField
  else
    let s := s.plain (LNK_INJ_CTL.word.off + 32 * n) m.word
    let s := if m.word.getLsbD 31 then
        s.setInjector n { s.injector n with count := 0, lfsr := BitVec.ofNat 32 (s.rdI LNK_INJ_SEED.SEED n) }
      else s
    s.ok m.src

/-- INJECTOR_ARM (R371). -/
def execInjectorArm (link : BitVec 3) (m : MgWrite) (s : State) : Host.Outcome State Fault Refusal :=
  settled (s.begin.mgWrite (.injectorArm link m) (LNK_INJ_CTL.word.off + 32 * link.toNat) m (fun s => s.writeInjCtl link.toNat m))

/-- A message that a link's injector held is received in place. -/
def State.heldIn (s : State) (n : Nat) (i : Instr) : State :=
  if n < 4 then heldRun i s
  else if n = 4 then farRun i s
  else match i with
    | .capabilityMessage _ _ => capRun i s
    | .token _ _ | .tack _ | .tnack _ | .tref _ => chainRun i s
    | _ => mirRun i s

/-- No eligible message of the class has followed the held one in 64 front cycles: it goes in place (R372). -/
def State.reorderOut (s : State) (n : Nat) : State :=
  match (s.injector n).held with
  | none => s
  | some (c, h) =>
    let s := (s.setInjector n { s.injector n with held := none }).bumpI LNK_INJ_MISS.COUNT n
    match h with
    | .sent o => if n = 7 then s.tranOut c o else s.transmit n (fun _ => o) id true
    | .received i => s.heldIn n i

/-- REORDER_TIMEOUT (R372). -/
def execReorderTimeout (link : BitVec 3) (s : State) : Host.Outcome State Fault Refusal := settled (s.begin.reorderOut link.toNat)

end Sys2Proof.Machine
end

