-- ==== Sys2Proof/Machine/Pmu.lean ====
section
/-! DEFINITION. The performance counters (spec/15_performance_counters.md): snapshot, clear and freeze in one write (R385), writes of
counters and of their selections (R378, R386), and an increment that wraps a counter (R388). -/

namespace Sys2Proof.Machine

/-- The event codes of the table of R378, 0x00 among them. -/
def eventListed (c : Nat) : Bool :=
  c = 0 || c = 0x01 || (0x10 ≤ c && c ≤ 0x1A) || (0x20 ≤ c && c ≤ 0x28) || (0x30 ≤ c && c ≤ 0x33) || (0x40 ≤ c && c ≤ 0x43)
    || (0x50 ≤ c && c ≤ 0x57) || (0x60 ≤ c && c ≤ 0x64) || (0x80 ≤ c && c ≤ 0x89)

/-- Copy every programmable counter and PMU_CYC into the snapshot registers, and count the snapshot (R385). -/
def State.pmuSnap (s : State) : State :=
  let s := (List.range 8).foldl (fun s n =>
    (s.wrI PMU_SNAP_LO.SNAP_LO n (s.rdI PMU_CNT_LO.CNT_LO n)).wrI PMU_SNAP_HI.SNAP_HI n (s.rdI PMU_CNT_HI.CNT_HI n)) s
  let s := (s.wr PMU_SCYC_LO.SCYC_LO (s.rd PMU_CYC_LO.CYC_LO)).wr PMU_SCYC_HI.SCYC_HI (s.rd PMU_CYC_HI.CYC_HI)
  s.wrapAdd PMU_STATUS.SNAPS

/-- Zero the programmable counters of a mask (R385). -/
def State.pmuZero (s : State) (mask : Nat) : State :=
  (List.range 8).foldl (fun s n => if mask.testBit n then s.setPmu n 0 else s) s

/-- A write of PMU_GCTL: snapshot, then clear, then the new EN, FREEZE and FRZ_ON_OVF (R385). -/
def State.writeGctl (s : State) (m : MgWrite) : State :=
  let s := if m.word.getLsbD 31 then s.pmuSnap else s
  let s := if m.word.getLsbD 28 then s.pmuZero (fieldGet PMU_GCTL.EN m.word) else s
  (s.plain PMU_GCTL.word.off m.word).ok m.src

/-- A write of PMU_EVSEL or PMU_THR of counter `n`: refused while the counter is enabled, and for a code that the table does not list
(R378, R386). -/
def State.writeSelect (s : State) (off n : Nat) (m : MgWrite) : State :=
  if s.bit PMU_GCTL.EN n then s.refuse m.src rsnBusy
  else if off % 32 = 0 && !(eventListed (fieldGet PMU_EVSEL.EVENT m.word)) then s.refuse m.src rsnField
  else (s.plain off m.word).ok m.src

/-- A write of a register of the PMU block. The Curator may not write one (R389). -/
def State.writePmu (s : State) (off : Nat) (m : MgWrite) : State :=
  if isCurator m.src then s.refuse m.src rsnField
  else if off = PMU_GCTL.word.off then s.writeGctl m
  else if PMU_EVSEL.word.off ≤ off && off % 32 < 8 then s.writeSelect off ((off - PMU_EVSEL.word.off) / 32) m
  else (s.plain off m.word).ok m.src

/-- PMU_SNAPSHOT (R385). -/
def execPmuSnapshot (m : MgWrite) (s : State) : Host.Outcome State Fault Refusal :=
  settled (s.begin.mgWrite (.pmuSnapshot m) PMU_GCTL.word.off m (fun s => s.writePmu PMU_GCTL.word.off m))
/-- PMU_CLEAR (R385). -/
def execPmuClear (m : MgWrite) (s : State) : Host.Outcome State Fault Refusal :=
  settled (s.begin.mgWrite (.pmuClear m) PMU_GCTL.word.off m (fun s => s.writePmu PMU_GCTL.word.off m))

/-- The offset of a counter's low or high word. -/
def pmuOff (n : BitVec 3) (hi : Bool) : Nat := PMU_CNT_LO.word.off + 32 * n.toNat + 4 * hi.toNat

/-- PMU_COUNTER_WRITE (R386). -/
def execPmuCounterWrite (n : BitVec 3) (hi : Bool) (m : MgWrite) (s : State) : Host.Outcome State Fault Refusal :=
  settled (s.begin.mgWrite (.pmuCounterWrite n hi m) (pmuOff n hi) m (fun s => s.writePmu (pmuOff n hi) m))

/-- A front cycle's increment, 32 at most, carries a counter that counts past 2^48 − 1 (R377, R388); any other increment is no wrap. -/
def State.pmuWrap (s : State) (n inc : Nat) : State :=
  if s.bit PMU_GCTL.EN n && !(s.flag PMU_GCTL.FREEZE) && s.rdI PMU_EVSEL.EVENT n != 0 && inc ≤ 32 && 2 ^ 48 ≤ s.pmuVal n + inc
  then s.pmuAdd n inc else s

/-- PMU_COUNTER_WRAP (R388). -/
def execPmuCounterWrap (n : BitVec 3) (inc : BitVec 6) (s : State) : Host.Outcome State Fault Refusal :=
  settled (s.begin.pmuWrap n.toNat inc.toNat)

end Sys2Proof.Machine
end

