-- ==== Sys2Proof/Machine/Mgmt.lean ====
section
/-! DEFINITION. The management port and the Curator lane (spec/17_register_index.md): what a read returns, clears and latches (R424,
R425, R427 to R430), where a write of each offset goes (R425, R426), the live map and the hash registers (R39, R41), the Curator's SRAM
and mailbox (R291, R430 to R433), the package timestamp (R415) and the IEEE 1149.1 port (R420). -/

namespace Sys2Proof.Machine

/-! ### The selected Ledger row (spec/06_ledger.md, LDG_ROW_SEL) -/

/-- The valid binding whose rows hold a physical row. -/
def State.bindOfRow (s : State) (p : Nat) : Option Nat :=
  (List.range 32).find? (fun n => s.bindOk n && decide ((s.bindRowsOf n).1 ≤ p) && decide (p < (s.bindRowsOf n).1 + (s.bindRowsOf n).2))

/-- The selected row is one of a pair. -/
def State.selPair (s : State) : Bool :=
  match s.bindOfRow (s.rd LDG_ROW_SEL.ROW) with
  | some n => s.flagI LDG_BIND_CTL.SHADOW n
  | none => false

/-- The state of the tile row that the selected row is, or is a half of. -/
def State.selSt (s : State) : RowSt :=
  let p := s.rd LDG_ROW_SEL.ROW
  let base := match s.bindOfRow p with
    | some n => if s.flagI LDG_BIND_CTL.SHADOW n then p - (p - (s.bindRowsOf n).1) % 2 else p
    | none => p
  tget RowSt.init s.ldg.st base

/-- LDG_ROW_STATE of the selected row; OVF describes the cells of the physical row alone. -/
def State.rowStateWord (s : State) : Word :=
  let p := s.rd LDG_ROW_SEL.ROW
  let t := s.selSt
  let mode := match s.bindOfRow p with
    | some n => s.flagI LDG_BIND_CTL.MODE n
    | none => false
  let put (b : Bool) (k : Nat) : Nat := b.toNat * 2 ^ k
  BitVec.ofNat 32 (put (s.bindOfRow p).isSome 31 + put s.selPair 30 + put t.live 29 + put t.draining 28 + put t.psn 27
    + put (!mode && rowOvf (s.rowImg p)) 26 + put mode 25)

/-- Word `w` of the selected cell of the selected row. -/
def State.cellWord (s : State) (w : Nat) : Word :=
  (s.rowImg (s.rd LDG_ROW_SEL.ROW)).extractLsb' (320 * s.rd LDG_ROW_SEL.CELL + 32 * w) 32

/-! ### Reads (R425, R427, R428, R430) -/

/-- What an offset below the SRAM window shows: 0 when it is reserved (R425), the values that follow the state, and otherwise the
stored word. -/
def State.live (s : State) (off : Nat) : Word :=
  let w := s.word off
  if (regRow s.s64 off).isNone then 0
  else if off = ALT_PIN_MASK.word.off then BitVec.ofNat 32 s.pinMask
  else if off = PWR_RET_EST.word.off then (if s.start.loaded then s.retEstWord else w)
  else if off = MIR_STATUS.word.off then fieldPut MIR_STATUS.PEER_LIVE w s.pins.peerLive.toNat
  else if off = MIR_UNMIR.word.off then BitVec.ofNat 32 s.unmirrored
  else if off = PMU_STATUS.word.off then fieldPut PMU_STATUS.FROZEN w (s.rd PMU_GCTL.FREEZE)
  else if off = LDG_ROW_STATE.word.off then s.rowStateWord
  else if off = LDG_ROW_CUR.word.off then s.selSt.cur
  else if off = LDG_ROW_SEED_LO.word.off then s.selSt.seed.setWidth 32
  else if off = LDG_ROW_SEED_HI.word.off then s.selSt.seed.extractLsb' 32 32
  else if LDG_CELL_W.word.off ≤ off && off < LDG_CELL_W.word.off + 40 then s.cellWord ((off - LDG_CELL_W.word.off) / 4)
  else if off = CHN_ROW_TOK.word.off then BitVec.ofNat 32 (2 * s.selSt.toks.toNat + s.selSt.tokl.toNat)
  else if off = CUR_IMG_DATA.word.off then tget 0 s.img.buf (s.rd CUR_IMG_ADDR.ADDR)
  else w

/-- The registers that a read of this one latches (R428). -/
def latchGroup (off : Nat) : List Nat :=
  if off = PMU_CYC_LO.word.off then [PMU_CYC_HI.word.off]
  else if PMU_EVSEL.word.off ≤ off && off < PMU_EVSEL.word.off + 256 && off % 32 = 8 then [off + 4]
  else if off = LDG_ROW_SEED_LO.word.off then [LDG_ROW_SEED_HI.word.off]
  else if off = LDG_CELL_W.word.off then (List.range 9).map (fun w => off + 4 * (w + 1))
  else if off = MIR_LAST_TS_LO.word.off then [MIR_LAST_TS_HI.word.off]
  else []

/-- The offset belongs to the cell group, whose latch outlives other reads. -/
def cellLatch (off : Nat) : Bool := decide (LDG_CELL_W.word.off ≤ off) && decide (off < LDG_CELL_W.word.off + 40)

/-- A management read ends every latch but that of the cell group (R428). -/
def State.endLatch (s : State) : State := { s with latch := tfilter (fun k _ => cellLatch k) s.latch }

/-- A write of LDG_ROW_SEL ends the latch of the cell group. -/
def State.endCells (s : State) : State := { s with latch := tfilter (fun k _ => !(cellLatch k)) s.latch }

/-- Latch the group that this read begins. -/
def State.startLatch (s : State) (off : Nat) : State :=
  (latchGroup off).foldl (fun t k => { t with latch := tset t.latch k (s.live k) }) s

/-- What a management read changes: the latches, the RC fields it returns (R427), and the values staged in a binding entry (R160). -/
def State.afterRead (s : State) (off : Nat) : State :=
  let s := s.endLatch.startLatch off
  let s := match regRow s.s64 off with
    | some r => if r.rc = 0 then s else s.setWord off (s.word off &&& ~~~(BitVec.ofNat 32 r.rc))
    | none => s
  if LDG_BIND_BASE_LO.word.off ≤ off && off < LDG_BIND_BASE_LO.word.off + 512
  then s.unstage ((off - LDG_BIND_BASE_LO.word.off) / 16) else s

/-- A read of the SRAM window (R430): 0 in state RESET; an uncorrectable word is answered POISON and is an event of R367. -/
def State.sramRead (s : State) (x : Nat) (src : MgSrc) : State :=
  if s.rd CUR_FW_STATUS.STATE = 0 then s.ok src
  else
    let w := tget 0 s.cur.sram (x / 4)
    match tget Ecc.ok s.cur.ecc (x / 4) with
    | .double => (s.answer src stPoison rsnNone w).wdtEvent 2
    | _ => s.answer src stOk rsnNone w

/-- A read once the gate has passed it. The Curator sees the live word and changes nothing but CUR_IMG_ADDR (R270, R427). -/
def State.readAs (s : State) (off : Nat) (src : MgSrc) : State :=
  let mg := !(isCurator src)
  if mg && 0x30000 ≤ off && off < 0x31000 && s.rd CUR_FW_STATUS.STATE != 3 then (s.endLatch).refuse src rsnFwUnverified
  else if 0x40000 ≤ off && off < 0x80000 then (if mg then s.endLatch else s).sramRead (off - 0x40000) src
  else
    let v := if mg then (tfind s.latch off).getD (s.live off) else s.live off
    let s := if mg then s.afterRead off else s
    let s := if off = CUR_IMG_DATA.word.off then s.imgNext else s
    s.answer src stOk rsnNone v

/-- The gate of a read (R408, R429). The failed state serves every read. -/
def State.mgRead (s : State) (c : Instr) (off : Nat) (src : MgSrc) : State :=
  if isCurator src then s.readAs off src
  else if !s.mgReady then { s with front := { s.front with mgWait := some c } }
  else if s.dark && !(darkBlock off) then s.endLatch.answer src stParked rsnNone
  else if isReserved src then s.refuse src rsnField
  else s.readAs off src

/-- RC_REGISTER_READ (R427): a management read of any register. -/
def execRcRegisterRead (off : BitVec 18) (src : MgSrc) (s : State) : Host.Outcome State Fault Refusal :=
  settled (s.begin.mgRead (.rcRegisterRead off src) (4 * off.toNat) src)
/-- LATCHED_GROUP_READ (R428). -/
def execLatchedGroupRead (off : BitVec 18) (src : MgSrc) (s : State) : Host.Outcome State Fault Refusal :=
  settled (s.begin.mgRead (.latchedGroupRead off src) (4 * off.toNat) src)
/-- BIND_ENTRY_READ (R160). -/
def execBindEntryRead (n : BitVec 5) (reg : BitVec 2) (src : MgSrc) (s : State) : Host.Outcome State Fault Refusal :=
  settled (s.begin.mgRead (.bindEntryRead n reg src) (LDG_BIND_BASE_LO.word.off + 16 * n.toNat + 4 * reg.toNat) src)
/-- IMG_DATA_READ (R270). -/
def execImgDataRead (src : MgSrc) (s : State) : Host.Outcome State Fault Refusal :=
  settled (s.begin.mgRead (.imgDataRead src) CUR_IMG_DATA.word.off src)

/-! ### The live map and the hash registers (R39, R41) -/

/-- A write of SLC_LIVE: a MASK that is empty or lacks SELF is refused; a changed MASK clears every binding (R39, R161). -/
def State.writeLive (s : State) (m : MgWrite) : State :=
  let mask := fieldGet SLC_LIVE.MASK m.word
  if mask = 0 || !(mask.testBit (s.rd SLC_LIVE.SELF)) then s.refuse m.src rsnLiveMap
  else
    let changed := mask != s.rd SLC_LIVE.MASK
    let s := (s.plain SLC_LIVE.word.off m.word).wr SLC_LIVE.COUNT (liveList mask).length
    (if changed then s.unbindAll else s).ok m.src

/-- SLC_LIVE_WRITE (R39). -/
def execSlcLiveWrite (m : MgWrite) (s : State) : Host.Outcome State Fault Refusal :=
  settled (s.begin.mgWrite (.slcLiveWrite m) SLC_LIVE.word.off m (fun s => s.writeLive m))

/-- The granule of the test address. -/
def State.hashGranule (s : State) : BitVec 44 :=
  BitVec.ofNat 44 (s.rd SLC_HASH_PA_HI.PA_HI * 2 ^ 24 + s.rd SLC_HASH_PA_LO.PA_LO / 256)

/-- SLC_HASH_OUT for the test address: while MASK is 0, only SET (R41, R434). -/
def State.hashOut (s : State) : Word :=
  let g := s.hashGranule
  match posOf (s.rd SLC_LIVE.MASK) g, homeOf (s.rd SLC_LIVE.MASK) g with
  | some p, some h => BitVec.ofNat 32 (2 ^ 31 + (if h = s.rd SLC_LIVE.SELF then 2 ^ 30 else 0) + p * 2 ^ 24 + h * 2 ^ 20 + setOf g)
  | _, _ => BitVec.ofNat 32 (setOf g)

/-- A write of SLC_HASH_PA_HI evaluates R36 for the test address. -/
def State.writeHashHi (s : State) (m : MgWrite) : State :=
  let s := s.plain SLC_HASH_PA_HI.word.off m.word
  (s.setWord SLC_HASH_OUT.word.off s.hashOut).ok m.src

/-- HASH_EVALUATE (R41). -/
def execHashEvaluate (m : MgWrite) (s : State) : Host.Outcome State Fault Refusal :=
  settled (s.begin.mgWrite (.hashEvaluate m) SLC_HASH_PA_HI.word.off m (fun s => s.writeHashHi m))

/-- A write of SLC_HASH_PA_LO clears VALID. -/
def State.writeHashLo (s : State) (m : MgWrite) : State :=
  ((s.plain SLC_HASH_PA_LO.word.off m.word).setFlag SLC_HASH_OUT.VALID false).ok m.src

/-- HASH_PA_LO_WRITE (R41). -/
def execHashPaLoWrite (m : MgWrite) (s : State) : Host.Outcome State Fault Refusal :=
  settled (s.begin.mgWrite (.hashPaLoWrite m) SLC_HASH_PA_LO.word.off m (fun s => s.writeHashLo m))

/-! ### The Curator's SRAM and mailbox (R291, R430 to R433) -/

/-- A write at byte offset `x` of the Curator's SRAM: the driver's at stage 3 alone (R291), the firmware's while it runs. -/
def State.sramWrite (s : State) (x : Nat) (m : MgWrite) : State :=
  let may := if isCurator m.src then decide (6 ≤ s.cur.stage) else s.cur.stage = 3
  if !may then s.refuse m.src rsnField
  else ({ s with cur := { s.cur with
    sram := tput 0 s.cur.sram (x / 4) m.word, ecc := tput Ecc.ok s.cur.ecc (x / 4) Ecc.ok } }).ok m.src

/-- CURATOR_SRAM_WRITE (R291), at a byte offset of the SRAM. -/
def execCuratorSramWrite (off : BitVec 18) (m : MgWrite) (s : State) : Host.Outcome State Fault Refusal :=
  settled (s.begin.mgWrite (.curatorSramWrite off m) (0x40000 + off.toNat) m (fun s => s.sramWrite off.toNat m))

/-- The Curator posts a message of `len` words: C2H_PEND rises, with a pulse of the Curator-message interrupt (R432). -/
def State.postC2h (s : State) (len : Nat) : State :=
  ((s.wr CUR_MBX_DB.C2H_LEN len).setFlag CUR_MBX_DB.C2H_PEND true).emit .irqCur

/-- A write of CUR_MBX_DB over the management port (R431, R432). -/
def State.writeDb (s : State) (m : MgWrite) : State :=
  let post := m.word.getLsbD 31
  let len := fieldGet CUR_MBX_DB.H2C_LEN m.word
  if post && (len = 0 || 512 < len) then s.refuse m.src rsnField
  else if s.flag CUR_MBX_DB.POST && (post || len != s.rd CUR_MBX_DB.H2C_LEN) then s.refuse m.src rsnBusy
  else
    let s := s.plain CUR_MBX_DB.word.off m.word
    (if post then s.setFlag CUR_MBX_DB.POST true else s).ok m.src

/-- A write of CUR_MBX_DB by the Curator: 1 in POST clears POST, 1 in C2H_PEND posts a message of C2H_LEN words
(notes/assumptions/35.md). -/
def State.writeDbCurator (s : State) (m : MgWrite) : State :=
  let len := fieldGet CUR_MBX_DB.C2H_LEN m.word
  let pend := m.word.getLsbD 30
  if pend && s.flag CUR_MBX_DB.C2H_PEND then s.refuse m.src rsnBusy
  else if pend && 508 < len then s.refuse m.src rsnField
  else
    let s := if m.word.getLsbD 31 then s.setFlag CUR_MBX_DB.POST false else s
    (if pend then s.postC2h len else s).ok m.src

/-- A write in the mailbox range (R291, R431, R432). -/
def State.writeMbx (s : State) (off : Nat) (m : MgWrite) : State :=
  let cur := isCurator m.src
  if !cur && s.rd CUR_FW_STATUS.STATE != 3 then s.refuse m.src rsnFwUnverified
  else if (regRow s.s64 off).isNone then s.refuse m.src rsnField
  else if off = CUR_MBX_DB.word.off then (if cur then s.writeDbCurator m else s.writeDb m)
  else if off < CUR_MBX_C2H.word.off then
    (if s.flag CUR_MBX_DB.POST then s.refuse m.src rsnBusy else (s.plain off m.word).ok m.src)
  else if !cur then s.ok m.src
  else if s.flag CUR_MBX_DB.C2H_PEND then s.refuse m.src rsnBusy
  else (s.setWord off m.word).ok m.src

/-- MAILBOX_POST (R431). -/
def execMailboxPost (m : MgWrite) (s : State) : Host.Outcome State Fault Refusal :=
  settled (s.begin.mgWrite (.mailboxPost m) CUR_MBX_DB.word.off m (fun s => s.writeMbx CUR_MBX_DB.word.off m))
/-- MAILBOX_C2H_CLEAR (R432). -/
def execMailboxC2hClear (m : MgWrite) (s : State) : Host.Outcome State Fault Refusal :=
  settled (s.begin.mgWrite (.mailboxC2hClear m) CUR_MBX_DB.word.off m (fun s => s.writeMbx CUR_MBX_DB.word.off m))

/-- The Curator runs its firmware. -/
def State.curRuns (s : State) : Bool := s.rd CUR_FW_STATUS.STATE = 3

/-- MAILBOX_POST_CLEAR (R431): the Curator has read the message. -/
def execMailboxPostClear (s : State) : Host.Outcome State Fault Refusal :=
  let s := s.begin
  settled (if s.curRuns then s.setFlag CUR_MBX_DB.POST false else s)

/-- MAILBOX_C2H_POST (R432): the Curator posts a message. -/
def execMailboxC2hPost (len : BitVec 9) (s : State) : Host.Outcome State Fault Refusal :=
  let s := s.begin
  settled (if !s.curRuns then s
    else if s.flag CUR_MBX_DB.C2H_PEND then s.refuse .curator rsnBusy
    else if 508 < len.toNat then s.refuse .curator rsnField
    else (s.postC2h len.toNat).ok .curator)

/-! ### Writes by offset (R425, R426) -/

/-- A write of STK_REF_TIER (R54): the Curator changes FLOOR alone, and lowers it no further than the image allows. -/
def State.writeRefTier (s : State) (m : MgWrite) : State :=
  let f := fieldGet STK_REF_TIER.FLOOR m.word
  if 2 ≤ f then s.refuse m.src rsnField
  else if isCurator m.src then
    (if f < s.rd STK_REF_TIER.FLOOR && f < s.cfg.refMin.toNat then s.refuse m.src rsnBound
     else ((s.wr STK_REF_TIER.FLOOR f).tierCheck).ok m.src)
  else ((s.plain STK_REF_TIER.word.off m.word).tierCheck).ok m.src

/-- A plain write that answers OK. -/
def State.writePlain (s : State) (off : Nat) (m : MgWrite) : State := (s.plain off m.word).ok m.src

/-- A write of the blocks SLC to ORD. -/
def State.writeLow (s : State) (off : Nat) (m : MgWrite) : State :=
  if off = SLC_FEAT.word.off then s.writeRunLevel m
  else if off = SLC_START_CTL.word.off then s.writeStartCtl m
  else if off = SLC_LIVE.word.off then s.writeLive m
  else if off = SLC_HASH_PA_LO.word.off then s.writeHashLo m
  else if off = SLC_HASH_PA_HI.word.off then s.writeHashHi m
  else if off = DBK_CTL.word.off then s.writeDbkCtl m
  else if off = PWR_CMD.word.off then s.writePwrCmd m
  else if off = PWR_RAMP.word.off then s.writeRamp m
  else if off = STK_RETIRE.word.off then s.writeRetire m
  else if off = STK_REF_TIER.word.off then s.writeRefTier m
  else if off = STK_CAL_GRANT.word.off then s.writeCalGrant m
  else if off = ALT_ADJUST.word.off then s.writeAltAdjust m
  else if off = SHT_RSH_CTL.word.off then s.writeRshCtl m
  else if off = SHT_RSH_OP.word.off then s.writeRshOp m
  else if off = PFT_CTL.word.off then s.writePftCtl m
  else if off = PFT_DEGREE.word.off then s.writePftDegree m
  else if off = CAT_CTL.word.off then s.writeCatCtl m
  else if off = CAT_MCG.word.off then s.ok m.src
  else if off = ORD_CTL.word.off then s.writeOrdCtl m
  else if off = ORD_WIN_INV.word.off then s.writeWinInv m
  else s.writePlain off m

/-- A write of the LDG block. -/
def State.writeLdg (s : State) (off : Nat) (m : MgWrite) : State :=
  if off = LDG_CTL.word.off then s.writeLdgCtl m
  else if off = LDG_ROW_SEL.word.off then
    (((s.plain off m.word).wr LDG_ROW_SEL.ROW (fieldGet LDG_ROW_SEL.ROW m.word % (if s.s64 then 2048 else 4096))).endCells).ok m.src
  else if off = LDG_ROW_DRAIN.word.off then s.writeRowDrain m
  else if LDG_BIND_BASE_LO.word.off ≤ off && off < LDG_BIND_BASE_LO.word.off + 512 then
    (if off % 16 = 12 then s.writeBindCtl ((off - LDG_BIND_BASE_LO.word.off) / 16) m else s.stageBind off m)
  else if LDG_SCALE_CTL.word.off ≤ off && off < LDG_SCALE_CTL.word.off + 4096 && off % 16 = 0 then
    s.writeScale ((off - LDG_SCALE_CTL.word.off) / 16) m
  else s.writePlain off m

/-- A write of the blocks POR to MIR. -/
def State.writeMid (s : State) (off : Nat) (m : MgWrite) : State :=
  if off = POR_CTL.word.off then s.writePorCtl m
  else if POR_CH_CTL.word.off ≤ off && off < POR_CH_CTL.word.off + 1024 then
    (if off % 64 = 0 then s.writePorCh ((off - POR_CH_CTL.word.off) / 64) m else s.writePorField off m)
  else if off = TCL_CTL.word.off then s.writeTclCtl m
  else if TCL_RATE.word.off ≤ off && off ≤ TCL_FAR0.word.off then s.writeStaged off m
  else if off = WIN_CTL.word.off then s.writeWinCtl m
  else if (WIN_ENT_CTL.word.off ≤ off && off < WIN_ENT_CTL.word.off + 256 && off % 16 = 0)
      || (WIN_PLAN.word.off ≤ off && off < WIN_PLAN.word.off + 2048) then s.writeStaged off m
  else if off = MIR_CTL.word.off then s.writeMirCtl m
  else if off = MIR_RATE.word.off then s.writeMirRate m
  else if off = MIR_SEAM.word.off then s.writeSeam m
  else if off = MIR_RESTRIPE.word.off then s.writeRestripe m
  else if off = MIR_LOSS_CTL.word.off then s.writeLoss m
  else if MIR_LDG.word.off ≤ off && off < MIR_LDG.word.off + 128 then s.writeMirLdg ((off - MIR_LDG.word.off) / 4) m
  else s.writePlain off m

/-- A write of the blocks CHN to CUR. -/
def State.writeHigh (s : State) (off : Nat) (m : MgWrite) : State :=
  if CHN_CTX_CTL.word.off ≤ off && off < CHN_CTX_CTL.word.off + 512 then
    let c := (off - CHN_CTX_CTL.word.off) / 32
    if off % 32 = 0 then s.writeChnCtl c m else s.writeChnField off c m
  else if LNK_INJ_CTL.word.off ≤ off && off < LNK_INJ_CTL.word.off + 256 && off % 32 = 0 then
    s.writeInjCtl ((off - LNK_INJ_CTL.word.off) / 32) m
  else if off = ERR_LOG_TAIL.word.off then s.writeTail m
  else if off = ERR_LOG_SEL.word.off then s.writeSel m
  else if PMU_GCTL.word.off ≤ off && off < 0x30000 then s.writePmu off m
  else if off = CUR_IMG_CTL.word.off then s.writeImgCtl m
  else if off = CUR_IMG_ADDR.word.off then s.writeImgAddr m
  else if off = CUR_IMG_DATA.word.off then s.writeImgData m
  else if off = CUR_FW_CTL.word.off then s.writeFwCtl m
  else if off = CUR_FW_ATTEST.word.off then s.writeAttest m
  else if off = CUR_WDT_CTL.word.off then s.writeWdt m
  else if off = CUR_WDT_STATUS.word.off then s.writeWdtStatus m
  else s.writePlain off m

/-- A write of an offset of the window (R425): a reserved one is refused; every other goes where its rule says. -/
def State.writeReg (s : State) (off : Nat) (m : MgWrite) : State :=
  if 0x40000 ≤ off && off < 0x80000 then s.sramWrite (off - 0x40000) m
  else if 0x30000 ≤ off && off < 0x31000 then s.writeMbx off m
  else if (regRow s.s64 off).isNone then s.refuse m.src rsnField
  else if off < 0xC000 then s.writeLow off m
  else if off < 0x20000 then s.writeLdg off m
  else if off < 0x27000 then s.writeMid off m
  else s.writeHigh off m

/-- REGISTER_WRITE (R426). The Curator's writes enter its lane and take effect when they have crossed it (R19). -/
def execRegisterWrite (off : BitVec 18) (m : MgWrite) (s : State) : Host.Outcome State Fault Refusal :=
  let s := s.begin
  settled (if isCurator m.src then
      (if s.curRuns then { s with front := { s.front with curLane := s.front.curLane ++ [(4 * off.toNat, m.word)] } } else s)
    else s.mgWrite (.registerWrite off m) (4 * off.toNat) m (fun s => s.writeReg (4 * off.toNat) m))

/-- The Curator's oldest write that has crossed its lane takes effect. -/
def State.curatorArrives (s : State) : State :=
  match s.front.curLane with
  | [] => s
  | (off, w) :: rest =>
    let s := { s with front := { s.front with curLane := rest } }
    if curatorMay off then s.writeReg off ⟨.curator, w⟩ else s.refuse .curator rsnField

/-! ### The package timestamp and the test port -/

/-- TIMESTAMP_UPDATE (R415): the new time, and what it leaves of the watchdog's period. -/
def execTimestampUpdate (ns : BitVec 48) (wrap : Word) (s : State) : Host.Outcome State Fault Refusal :=
  let s := s.begin
  let s := { s with pins := { s.pins with ns := ns, wrap := wrap } }
  settled (if s.flag CUR_WDT_STATUS.ARMED then s.wr CUR_WDT_STATUS.REMAIN ((s.cur.wdtEnd - s.now) / 100000) else s)

/-- The IDCODE word. -/
def State.idcode (s : State) : Word :=
  BitVec.ofNat 32 (s.rd SLC_CAP.REV * 2 ^ 28 + (if s.s64 then 0x5C40 else 0x5C80) * 2 ^ 12 + Config.jep106.toNat * 2 + 1)

/-- JTAG_INSTRUCTION (R420): the register holds the instruction in force; every code but IDCODE and, with DBG_EN, IJTAG acts as BYPASS. -/
def execJtagInstruction (code : BitVec 8) (dbgEn : Bool) (s : State) : Host.Outcome State Fault Refusal :=
  let s := s.begin
  let ir : BitVec 8 := if code = 0x01 || (code = 0x20 && dbgEn) then code else 0xFF
  let s := { s with pins := { s.pins with ir := ir, dbgEn := dbgEn } }
  settled (if code = 0x01 then s.emit (.jtag s.idcode) else s)

end Sys2Proof.Machine
end

