-- ==== Sys2Proof/Machine/Crossing.lean ====
section
/-! DEFINITION. The crossings (R19 to R22): an entry of a lane is taken by the receiving island. -/

namespace Sys2Proof.Machine

/-- The bank takes the oldest entry of its lane. -/
def State.bankTakes (s : State) (k : Nat) : State :=
  match s.jobs k with
  | [] => s
  | j :: rest =>
    let s := s.setBankJobs k (s.bankJobs k ++ [j])
    { s with front := { s.front with f2b := tput [] s.front.f2b k rest } }

/-- The receiver takes an entry of a lane that the model counts. -/
def State.countedTakes (s : State) (k : Nat) : State := s.setLane k (s.lane' k - 1)

/-- A Ledger unit takes the oldest entry of its lane, which returns a Ledger credit (R28); a token that waited for the place moves up. -/
def State.ledgerTakes (s : State) (k : Nat) : State :=
  match s.ldgLane k with
  | [] => s
  | j :: rest =>
    let s := (s.setLdgLane k rest).setLdgUnit k (s.ldgUnit k ++ [j])
    (if j.credit then s.creditBack j.r 1 else s).tokensNext

/-- An entry crosses. The lanes front → Curator carry telemetry, of which the model holds nothing. -/
def State.cross (s : State) : Crossing → State
  | .frontToBank k l => s.bankTakes (laneKey k.toNat l)
  | .bankToFront k l => s.countedTakes (bankFrontKey k.toNat l)
  | .frontToLedger k => s.ledgerTakes k.toNat
  | .ledgerToFront k => s.countedTakes (ledgerFrontKey k.toNat)
  | .nightToBank k => s.countedTakes (nightBankKey k.toNat)
  | .bankToNight k => s.countedTakes (bankNightKey k.toNat)
  | .frontToCurator => s
  | .curatorToFront => s.curatorArrives
  | .frontToNight => s.countedTakes (nightKey true)
  | .nightToFront => s.countedTakes (nightKey false)

/-- CROSSING_ENTRY_TRANSFER (R20). -/
def execCrossingEntryTransfer (x : Crossing) (s : State) : Host.Outcome State Fault Refusal := settled (s.begin.cross x)

end Sys2Proof.Machine
end

