-- ==== Sys2Proof/Machine/Dispatch.lean ====
section
/-! DEFINITION. The dispatch: one arm per command, each a call of its meaning. -/

namespace Sys2Proof.Machine

/-- The effect of a command on everything but the queue. -/
def exec (i : Instr) (s : State) : Host.Outcome State Fault Refusal :=
  match i with
  | .casementFlitReceive cas flit sb0 sb1 => Sys2Proof.Machine.execCasementFlitReceive cas flit sb0 sb1 s
  | .linkReplayTimeout link => Sys2Proof.Machine.execLinkReplayTimeout link s
  | .creditWordReceive cas word => Sys2Proof.Machine.execCreditWordReceive cas word s
  | .crossingEntryTransfer x => Sys2Proof.Machine.execCrossingEntryTransfer x s
  | .laneStall x => Sys2Proof.Machine.execLaneStall x s
  | .rdS r => Sys2Proof.Machine.execRdS r s
  | .rdX r => Sys2Proof.Machine.execRdX r s
  | .upg r => Sys2Proof.Machine.execUpg r s
  | .rdOnce r => Sys2Proof.Machine.execRdOnce r s
  | .rdLast r => Sys2Proof.Machine.execRdLast r s
  | .wrLine r d => Sys2Proof.Machine.execWrLine r d s
  | .wrPart r be d => Sys2Proof.Machine.execWrPart r be d s
  | .atom r a => Sys2Proof.Machine.execAtom r a s
  | .evict r => Sys2Proof.Machine.execEvict r s
  | .range r c => Sys2Proof.Machine.execRange r c s
  | .ackInv agent line => Sys2Proof.Machine.execAckInv agent line s
  | .fwdDone agent line dirty => Sys2Proof.Machine.execFwdDone agent line dirty s
  | .fwdMiss agent line wb => Sys2Proof.Machine.execFwdMiss agent line wb s
  | .wb agent tag label line d psn => Sys2Proof.Machine.execWb agent tag label line d psn s
  | .wbCopy agent line d psn => Sys2Proof.Machine.execWbCopy agent line d psn s
  | .binvData agent line d psn => Sys2Proof.Machine.execBinvData agent line d psn s
  | .fwdTimeout agent line => Sys2Proof.Machine.execFwdTimeout agent line s
  | .adoptedWbTimeout line => Sys2Proof.Machine.execAdoptedWbTimeout line s
  | .reservationExpire line => Sys2Proof.Machine.execReservationExpire line s
  | .atomUnitRelease line => Sys2Proof.Machine.execAtomUnitRelease line s
  | .predClr m => Sys2Proof.Machine.execPredClr m s
  | .fence f => Sys2Proof.Machine.execFence f s
  | .fenceDone pslice win tag => Sys2Proof.Machine.execFenceDone pslice win tag s
  | .acquireReadReplay who tag => Sys2Proof.Machine.execAcquireReadReplay who tag s
  | .windowFenceTimeout who tag pslice => Sys2Proof.Machine.execWindowFenceTimeout who tag pslice s
  | .ordWinInv m => Sys2Proof.Machine.execOrdWinInv m s
  | .windowWalkStart => Sys2Proof.Machine.execWindowWalkStart s
  | .windowWalkLookup line => Sys2Proof.Machine.execWindowWalkLookup line s
  | .windowWalkEnd => Sys2Proof.Machine.execWindowWalkEnd s
  | .releaseRecordClear m => Sys2Proof.Machine.execReleaseRecordClear m s
  | .slcLiveWrite m => Sys2Proof.Machine.execSlcLiveWrite m s
  | .hashEvaluate m => Sys2Proof.Machine.execHashEvaluate m s
  | .hashPaLoWrite m => Sys2Proof.Machine.execHashPaLoWrite m s
  | .farReadData sub tag status d => Sys2Proof.Machine.execFarReadData sub tag status d s
  | .farWriteResponse sub tag status => Sys2Proof.Machine.execFarWriteResponse sub tag status s
  | .farCredit sub write n => Sys2Proof.Machine.execFarCredit sub write n s
  | .bankBeatComplete pair lane lower upper delayed => Sys2Proof.Machine.execBankBeatComplete pair lane lower upper delayed s
  | .correctiveWrite bank => Sys2Proof.Machine.execCorrectiveWrite bank s
  | .refreshRequest bank => Sys2Proof.Machine.execRefreshRequest bank s
  | .refreshCommand bank => Sys2Proof.Machine.execRefreshCommand bank s
  | .sensorRead t0 t1 => Sys2Proof.Machine.execSensorRead t0 t1 s
  | .scrubRow bank beats => Sys2Proof.Machine.execScrubRow bank beats s
  | .scrubLate bank => Sys2Proof.Machine.execScrubLate bank s
  | .calGrantOpen m => Sys2Proof.Machine.execCalGrantOpen m s
  | .calGrantExpire => Sys2Proof.Machine.execCalGrantExpire s
  | .calibrationTrial bank group trial pass => Sys2Proof.Machine.execCalibrationTrial bank group trial pass s
  | .calibrationComplete => Sys2Proof.Machine.execCalibrationComplete s
  | .stkRetire m => Sys2Proof.Machine.execStkRetire m s
  | .retirementCopy o => Sys2Proof.Machine.execRetirementCopy o s
  | .retirementCopyDone => Sys2Proof.Machine.execRetirementCopyDone s
  | .retireWayPairWalk set => Sys2Proof.Machine.execRetireWayPairWalk set s
  | .adaptWindowEnd => Sys2Proof.Machine.execAdaptWindowEnd s
  | .altDemote m => Sys2Proof.Machine.execAltDemote m s
  | .altRestore m => Sys2Proof.Machine.execAltRestore m s
  | .rshClean m => Sys2Proof.Machine.execRshClean m s
  | .rshInvalidate m => Sys2Proof.Machine.execRshInvalidate m s
  | .rshCleanInv m => Sys2Proof.Machine.execRshCleanInv m s
  | .seal m => Sys2Proof.Machine.execSeal m s
  | .reopen m => Sys2Proof.Machine.execReopen m s
  | .invBank m => Sys2Proof.Machine.execInvBank m s
  | .reshelverStart => Sys2Proof.Machine.execReshelverStart s
  | .reshelverLookup line => Sys2Proof.Machine.execReshelverLookup line s
  | .reshelverDone => Sys2Proof.Machine.execReshelverDone s
  | .reshelverDisable m => Sys2Proof.Machine.execReshelverDisable m s
  | .reshelverEnable m => Sys2Proof.Machine.execReshelverEnable m s
  | .reshelverShutdownEnd => Sys2Proof.Machine.execReshelverShutdownEnd s
  | .prefetchRead line => Sys2Proof.Machine.execPrefetchRead line s
  | .prefetchDisable m => Sys2Proof.Machine.execPrefetchDisable m s
  | .prefetchEnable m => Sys2Proof.Machine.execPrefetchEnable m s
  | .prefetchShutdownEnd => Sys2Proof.Machine.execPrefetchShutdownEnd s
  | .pftDegreeWrite m => Sys2Proof.Machine.execPftDegreeWrite m s
  | .ledgerOpAccept r o => Sys2Proof.Machine.execLedgerOpAccept r o s
  | .lacc lane => Sys2Proof.Machine.execLacc lane s
  | .laccS lane => Sys2Proof.Machine.execLaccS lane s
  | .lmerge lane => Sys2Proof.Machine.execLmerge lane s
  | .lsnap lane => Sys2Proof.Machine.execLsnap lane s
  | .ldrain lane => Sys2Proof.Machine.execLdrain lane s
  | .lclr lane => Sys2Proof.Machine.execLclr lane s
  | .drainRead lane => Sys2Proof.Machine.execDrainRead lane s
  | .drainWriteOut lane => Sys2Proof.Machine.execDrainWriteOut lane s
  | .ldgRowDrain m => Sys2Proof.Machine.execLdgRowDrain m s
  | .heldDrainTimeout line => Sys2Proof.Machine.execHeldDrainTimeout line s
  | .ledgerDisable m => Sys2Proof.Machine.execLedgerDisable m s
  | .ledgerEnable m => Sys2Proof.Machine.execLedgerEnable m s
  | .ledgerShutdownEnd => Sys2Proof.Machine.execLedgerShutdownEnd s
  | .bindCommit n m => Sys2Proof.Machine.execBindCommit n m s
  | .bindCommitApply n => Sys2Proof.Machine.execBindCommitApply n s
  | .bindRemove n m => Sys2Proof.Machine.execBindRemove n m s
  | .bindEntryRead n reg src => Sys2Proof.Machine.execBindEntryRead n reg src s
  | .scaleCommit n m => Sys2Proof.Machine.execScaleCommit n m s
  | .scaleQueueApply => Sys2Proof.Machine.execScaleQueueApply s
  | .token hdr image => Sys2Proof.Machine.execToken hdr image s
  | .tack hdr => Sys2Proof.Machine.execTack hdr s
  | .tnack hdr => Sys2Proof.Machine.execTnack hdr s
  | .tref hdr => Sys2Proof.Machine.execTref hdr s
  | .tnackResend ctx => Sys2Proof.Machine.execTnackResend ctx s
  | .tokenRetransmitTimeout ctx => Sys2Proof.Machine.execTokenRetransmitTimeout ctx s
  | .chainCommit c m => Sys2Proof.Machine.execChainCommit c m s
  | .chainRemove c m => Sys2Proof.Machine.execChainRemove c m s
  | .descriptorPoll ch => Sys2Proof.Machine.execDescriptorPoll ch s
  | .descriptorResponse ch a => Sys2Proof.Machine.execDescriptorResponse ch a s
  | .porterBurstGrant => Sys2Proof.Machine.execPorterBurstGrant s
  | .porterResponse ch tag a => Sys2Proof.Machine.execPorterResponse ch tag a s
  | .porterRetryResend ch tag => Sys2Proof.Machine.execPorterRetryResend ch tag s
  | .producerPoll ch => Sys2Proof.Machine.execProducerPoll ch s
  | .porterStart ch m => Sys2Proof.Machine.execPorterStart ch m s
  | .porterChannelDisable ch m => Sys2Proof.Machine.execPorterChannelDisable ch m s
  | .porterChannelEnable ch m => Sys2Proof.Machine.execPorterChannelEnable ch m s
  | .porterChannelStopEnd ch => Sys2Proof.Machine.execPorterChannelStopEnd ch s
  | .porterHaltClear ch m => Sys2Proof.Machine.execPorterHaltClear ch m s
  | .porterDisable m => Sys2Proof.Machine.execPorterDisable m s
  | .porterEnable m => Sys2Proof.Machine.execPorterEnable m s
  | .frameBoundary => Sys2Proof.Machine.execFrameBoundary s
  | .frameSync => Sys2Proof.Machine.execFrameSync s
  | .creditReturn cas => Sys2Proof.Machine.execCreditReturn cas s
  | .tclCommit m => Sys2Proof.Machine.execTclCommit m s
  | .winCommit m => Sys2Proof.Machine.execWinCommit m s
  | .admissionCheck => Sys2Proof.Machine.execAdmissionCheck s
  | .windowRequestSlot r w => Sys2Proof.Machine.execWindowRequestSlot r w s
  | .windowResponseDepart win => Sys2Proof.Machine.execWindowResponseDepart win s
  | .imgDataWrite m => Sys2Proof.Machine.execImgDataWrite m s
  | .imgDataRead src => Sys2Proof.Machine.execImgDataRead src s
  | .imageLoad m => Sys2Proof.Machine.execImageLoad m s
  | .imageUpdate m => Sys2Proof.Machine.execImageUpdate m s
  | .imageUpdateApply => Sys2Proof.Machine.execImageUpdateApply s
  | .imageCheck m => Sys2Proof.Machine.execImageCheck m s
  | .coldStart straps => Sys2Proof.Machine.execColdStart straps s
  | .warmReset straps => Sys2Proof.Machine.execWarmReset straps s
  | .islandClocksUp front ldg cur pairs => Sys2Proof.Machine.execIslandClocksUp front ldg cur pairs s
  | .bankBist failed => Sys2Proof.Machine.execBankBist failed s
  | .ledgerBist failed => Sys2Proof.Machine.execLedgerBist failed s
  | .stepTimeout step => Sys2Proof.Machine.execStepTimeout step s
  | .fwDone m => Sys2Proof.Machine.execFwDone m s
  | .fwAttest m => Sys2Proof.Machine.execFwAttest m s
  | .fwAlive m => Sys2Proof.Machine.execFwAlive m s
  | .fwTimeout => Sys2Proof.Machine.execFwTimeout s
  | .fwAliveTimeout => Sys2Proof.Machine.execFwAliveTimeout s
  | .imageTimeout => Sys2Proof.Machine.execImageTimeout s
  | .linkTraining full half => Sys2Proof.Machine.execLinkTraining full half s
  | .capabilityMessage link msg => Sys2Proof.Machine.execCapabilityMessage link msg s
  | .ucieMainbandActive mirror advanced rate width => Sys2Proof.Machine.execUcieMainbandActive mirror advanced rate width s
  | .capabilityTimeout link => Sys2Proof.Machine.execCapabilityTimeout link s
  | .refreshCalibrationStep inTime => Sys2Proof.Machine.execRefreshCalibrationStep inTime s
  | .startRelease m => Sys2Proof.Machine.execStartRelease m s
  | .goOnline => Sys2Proof.Machine.execGoOnline s
  | .daybookClear m => Sys2Proof.Machine.execDaybookClear m s
  | .clrFails m => Sys2Proof.Machine.execClrFails m s
  | .clrRetired m => Sys2Proof.Machine.execClrRetired m s
  | .runLevelWrite m => Sys2Proof.Machine.execRunLevelWrite m s
  | .pwrCmdActive m => Sys2Proof.Machine.execPwrCmdActive m s
  | .pwrCmdDoze m => Sys2Proof.Machine.execPwrCmdDoze m s
  | .pwrCmdRetain m => Sys2Proof.Machine.execPwrCmdRetain m s
  | .pwrCmdOff m => Sys2Proof.Machine.execPwrCmdOff m s
  | .dozeEnter => Sys2Proof.Machine.execDozeEnter s
  | .dozeTimeout => Sys2Proof.Machine.execDozeTimeout s
  | .dozeWake link => Sys2Proof.Machine.execDozeWake link s
  | .retainEntryPhase => Sys2Proof.Machine.execRetainEntryPhase s
  | .retainExitPhase up => Sys2Proof.Machine.execRetainExitPhase up s
  | .transitionEnd => Sys2Proof.Machine.execTransitionEnd s
  | .budgetQuery msg => Sys2Proof.Machine.execBudgetQuery msg s
  | .budgetCap msg => Sys2Proof.Machine.execBudgetCap msg s
  | .budgetState msg => Sys2Proof.Machine.execBudgetState msg s
  | .budgetRamp msg => Sys2Proof.Machine.execBudgetRamp msg s
  | .pwrRampWrite m => Sys2Proof.Machine.execPwrRampWrite m s
  | .supplyRemoval => Sys2Proof.Machine.execSupplyRemoval s
  | .retentionSupplyLoss => Sys2Proof.Machine.execRetentionSupplyLoss s
  | .mwr h d => Sys2Proof.Machine.execMwr h d s
  | .mclean h => Sys2Proof.Machine.execMclean h s
  | .mdead h => Sys2Proof.Machine.execMdead h s
  | .minv h => Sys2Proof.Machine.execMinv h s
  | .mevict h => Sys2Proof.Machine.execMevict h s
  | .mldg h p => Sys2Proof.Machine.execMldg h p s
  | .mrow h p => Sys2Proof.Machine.execMrow h p s
  | .mscale h p => Sys2Proof.Machine.execMscale h p s
  | .mpwr h => Sys2Proof.Machine.execMpwr h s
  | .mchk h => Sys2Proof.Machine.execMchk h s
  | .mack h => Sys2Proof.Machine.execMack h s
  | .mchkSend => Sys2Proof.Machine.execMchkSend s
  | .mirrorLinkDown reported live => Sys2Proof.Machine.execMirrorLinkDown reported live s
  | .reachProbeAnswer status => Sys2Proof.Machine.execReachProbeAnswer status s
  | .reachProbeTimeout => Sys2Proof.Machine.execReachProbeTimeout s
  | .seamTimeout => Sys2Proof.Machine.execSeamTimeout s
  | .seamAnnounce m => Sys2Proof.Machine.execSeamAnnounce m s
  | .seamReady => Sys2Proof.Machine.execSeamReady s
  | .seamResume m => Sys2Proof.Machine.execSeamResume m s
  | .transomBeat lane d sb => Sys2Proof.Machine.execTransomBeat lane d sb s
  | .transomCredit lane => Sys2Proof.Machine.execTransomCredit lane s
  | .repair m => Sys2Proof.Machine.execRepair m s
  | .resyncDone => Sys2Proof.Machine.execResyncDone s
  | .split m => Sys2Proof.Machine.execSplit m s
  | .prepare m => Sys2Proof.Machine.execPrepare m s
  | .restripeReady => Sys2Proof.Machine.execRestripeReady s
  | .commit m => Sys2Proof.Machine.execCommit m s
  | .abort m => Sys2Proof.Machine.execAbort m s
  | .mirLdgWrite n m => Sys2Proof.Machine.execMirLdgWrite n m s
  | .mirRateWrite m => Sys2Proof.Machine.execMirRateWrite m s
  | .lossReportClear m => Sys2Proof.Machine.execLossReportClear m s
  | .faultLogWrite => Sys2Proof.Machine.execFaultLogWrite s
  | .errLogTailWrite m => Sys2Proof.Machine.execErrLogTailWrite m s
  | .errLogSelect m => Sys2Proof.Machine.execErrLogSelect m s
  | .watchdogKick m => Sys2Proof.Machine.execWatchdogKick m s
  | .watchdogExpire cause => Sys2Proof.Machine.execWatchdogExpire cause s
  | .watchdogHeldClear m => Sys2Proof.Machine.execWatchdogHeldClear m s
  | .injectorArm link m => Sys2Proof.Machine.execInjectorArm link m s
  | .reorderTimeout link => Sys2Proof.Machine.execReorderTimeout link s
  | .pmuSnapshot m => Sys2Proof.Machine.execPmuSnapshot m s
  | .pmuClear m => Sys2Proof.Machine.execPmuClear m s
  | .pmuCounterWrite n hi m => Sys2Proof.Machine.execPmuCounterWrite n hi m s
  | .pmuCounterWrap n inc => Sys2Proof.Machine.execPmuCounterWrap n inc s
  | .latchedGroupRead off src => Sys2Proof.Machine.execLatchedGroupRead off src s
  | .rcRegisterRead off src => Sys2Proof.Machine.execRcRegisterRead off src s
  | .timestampUpdate ns wrap => Sys2Proof.Machine.execTimestampUpdate ns wrap s
  | .mailboxPost m => Sys2Proof.Machine.execMailboxPost m s
  | .mailboxPostClear => Sys2Proof.Machine.execMailboxPostClear s
  | .mailboxC2hPost len => Sys2Proof.Machine.execMailboxC2hPost len s
  | .mailboxC2hClear m => Sys2Proof.Machine.execMailboxC2hClear m s
  | .curatorSramWrite off m => Sys2Proof.Machine.execCuratorSramWrite off m s
  | .registerWrite off m => Sys2Proof.Machine.execRegisterWrite off m s
  | .curatorSramZeroed => Sys2Proof.Machine.execCuratorSramZeroed s
  | .budgetAnswerAck => Sys2Proof.Machine.execBudgetAnswerAck s
  | .wicketCredit word => Sys2Proof.Machine.execWicketCredit word s
  | .jtagInstruction code dbgEn => Sys2Proof.Machine.execJtagInstruction code dbgEn s

end Sys2Proof.Machine
end

