-- ==== Sys2Proof/Machine/Tick.lean ====
section
/-! DEFINITION. A front cycle in which no command takes effect: what time alone changes (R252, R376, R380, R381), the walks that go on
by themselves, and the requests and the management access that wait for the next cycle (R27, R429). It is what a step does on an empty
queue (notes/assumptions/2.md). -/

namespace Sys2Proof.Machine

/-- The lanes of a counter's mask: 0 acts as all (R379). -/
def State.maskLanes (s : State) (n : Nat) : List Nat :=
  let m := s.rdI PMU_EVSEL.LANES n % 2 ^ s.lanes
  (List.range s.lanes).filter (fun l => m = 0 || m.testBit l)

/-- The occupancy that an event code names, at the lanes of counter `n` (R378, R380). -/
def State.occupancy (s : State) (n code : Nat) : Nat :=
  match code with
  | 0x80 => s.coh.txns.length
  | 0x81 => (s.front.presented.filter (fun p => (s.maskLanes n).contains p.lane)).length
  | 0x82 => s.front.f2b.foldl (fun m e => max m (min 16 e.2.length)) 0
  | 0x83 => (s.maskLanes n).foldl (fun m l => m + min 16 (s.ldgLane l).length) 0
  | 0x84 => s.stk.farReads.length
  | 0x85 => s.por.xfers.foldl (fun m e => m + e.2.bursts.length) 0
  | 0x86 => s.place.queue.length
  | 0x87 => s.chn.tokens.length
  | 0x88 => s.err.intake.length
  | 0x89 => s.coh.atoms.length
  | _ => 0

/-- Some label of a counter's mask has a negative bucket (event 0x56). -/
def State.labelHeld (s : State) (n : Nat) : Bool :=
  let m := s.rdI PMU_EVSEL.LABELS n
  (List.range 8).any (fun l => (m = 0 || m.testBit l) && decide (s.bucket l < 0))

/-- The events of the cycle's end that look at a state rather than at a change. -/
def State.tickEvents (s : State) : State :=
  let s := (List.range 8).foldl (fun (s : State) n =>
    let code := s.rdI PMU_EVSEL.EVENT n
    let above := (0x80 ≤ code && code ≤ 0x89 && decide (s.rdI PMU_THR.THRESH n < s.occupancy n code))
      || (code = 0x56 && s.labelHeld n)
    if above && s.pmuCounts n code none none then s.pmuAdd n 1 else s) s
  let s := s.event 0x01
  if s.capUsed then s.event 0x57 else s

/-- The slot of a lane that accepted nothing: STARVED_BACK with the cause of the request that waits longest, or STARVED_FRONT (R381,
R383). -/
def State.idleSlot (s : State) (l : Nat) : State :=
  if tget 0 s.front.used l != 0 then s
  else
    let s := s.event 0x10 (lane := some l)
    match s.front.presented.find? (fun p => p.lane = l) with
    | some p => (s.event 0x14 (lane := some l)).event (0x17 + min 3 p.cause) (lane := some l)
    | none => s.event 0x13 (lane := some l)

/-- The slots of the cycle; there are none in DOZE. -/
def State.tickSlots (s : State) : State :=
  let s := if s.dozing then s else (List.range s.lanes).foldl State.idleSlot s
  { s with front := { s.front with used := [] } }

/-- PMU_CYC and POS. -/
def State.tickCount (s : State) : State :=
  let lo := s.rd PMU_CYC_LO.CYC_LO + 1
  let s := s.wr PMU_CYC_LO.CYC_LO (lo % 2 ^ 32)
  let s := if lo = 2 ^ 32 then s.wrapAdd PMU_CYC_HI.CYC_HI else s
  s.wr WIN_FRAME.POS ((s.rd WIN_FRAME.POS + 1) % 1024)

/-- The oldest beat of each Transom lane leaves its FIFO, and its credit returns (R406). -/
def State.tickTransom (s : State) : State :=
  (List.range 3).foldl (fun s l =>
    match tget [] s.tran.fifo l with
    | [] => s
    | _ :: rest => ({ s with tran := { s.tran with fifo := tput [] s.tran.fifo l rest } }).emit (.linkCredit 7 l 1)) s

/-- One front cycle. In RETAIN and OFF_READY the front island has none. -/
def State.tick (s : State) : State :=
  if s.dark then s else ((s.tickEvents.tickSlots.tickCount).tickTransom).stripeStep

/-- The commands that wait inside the slice for the next cycle: the management access held at its port until the end of step 1, and the
requests presented to a tag lane and not accepted. -/
def State.waiting (s : State) : List Instr :=
  (match s.front.mgWait with | some c => if s.mgReady then [c] else [] | none => []) ++ s.front.presented.map (·.cmd)

/-- A step without a command: one front cycle, after which what waited is tried again. -/
def State.idleStep (s : State) : State :=
  let s := s.begin.tick
  let cmds := s.waiting
  let s := if s.mgReady then { s with front := { s.front with mgWait := none } } else s
  { s with pending := cmds }

end Sys2Proof.Machine
end

