-- ==== Sys2Proof/Safety.lean ====
section
/-! DEFINITION. The terms in which claims speak about the machine: what a management access meets at its gate (R408, R429), what it
sends, which registers and which units a command leaves alone, the canonical form of a sparse table, and the level outputs of the
slice (R323, R365, R388, R415). -/

namespace Sys2Proof.Machine

/-- Strictly rising keys, and no entry equal to what an unlisted key reads as: the canonical form of a table. -/
def tabWf {α : Type} [DecidableEq α] (d : α) (t : Tab α) : Bool := tsorted t && t.all (fun e => decide (e.2 ≠ d))

/-- The gate passes a write of the register at `off` from a source: the Curator's where R269, R290, R366, R431 and R432 let it write,
the driver's, the root of trust's and the test port's once step 1 is over, outside RETAIN, OFF_READY and the failed state or in the
blocks that these serve (R408, R429). -/
def Admits (s : State) (off : Nat) (src : MgSrc) : Prop :=
  match src with
  | .curator => curatorMay off = true
  | .reserved _ => False
  | _ => s.mgReady = true ∧ (s.dark = true → darkBlock off = true) ∧ (s.front.failed = true → failedBlock off = true)

/-- What the answer to a management or Curator access is. -/
def answerOut (src : MgSrc) (status reason : Nat) (data : Word) : Out :=
  match src with
  | .curator => .curator data status reason
  | _ => .mg data status reason

/-- Between two states at most the registers change, with what follows from registers: the level outputs and the freeze that is due;
besides, what the step sends, and the model's mark of the log entries of the step. -/
def OnlyRegs (s t : State) : Prop :=
  t = { s with
    regs := t.regs, out := t.out, pmuFrz := t.pmuFrz, err := { s.err with fresh := t.err.fresh }
    pins := { s.pins with irqFault := t.irqFault, irqPmu := t.irqPmu, offReady := t.pwrOffReady } }

/-- The PMU's registers, which count events of every command (R377). -/
def pmuBlock (off : Nat) : Bool := 0x2A000 ≤ off && off < 0x2B000

/-- Outside the PMU's block, at most the registers at the listed offsets change. -/
def RegsBut (l : List Nat) (s t : State) : Prop := ∀ off, off ∉ l → pmuBlock off = false → t.word off = s.word off

/-- The level outputs show what the state says: the fault interrupt, the PMU overflow interrupt, the power-off-ready output
(R323, R365, R388, R415). -/
def OutputsFollow (s : State) : Prop :=
  s.pins.irqFault = s.irqFault ∧ s.pins.irqPmu = s.irqPmu ∧ s.pins.offReady = s.pwrOffReady

/-- The registers a fault event changes: the pending bits, its class's count, the count of entries dropped (R361, R362). -/
def faultRegs (cls : Nat) : List Nat :=
  [ERR_STATUS.word.off, ERR_CNT.COUNT.off + ERR_CNT.COUNT.stride * cls, ERR_LOG_DROP.word.off]

/-- The register that a management write of the table writes, and its word: every row that is the write of one register (R425). -/
def writeTarget : Instr → Option (Nat × MgWrite)
  | .chainCommit c m => some (CHN_CTX_CTL.word.off + 32 * c.toNat, m)
  | .chainRemove c m => some (CHN_CTX_CTL.word.off + 32 * c.toNat, m)
  | .predClr m => some (CAT_CTL.word.off, m)
  | .errLogTailWrite m => some (ERR_LOG_TAIL.word.off, m)
  | .errLogSelect m => some (ERR_LOG_SEL.word.off, m)
  | .watchdogKick m => some (CUR_WDT_CTL.word.off, m)
  | .watchdogHeldClear m => some (CUR_WDT_STATUS.word.off, m)
  | .injectorArm link m => some (LNK_INJ_CTL.word.off + 32 * link.toNat, m)
  | .imgDataWrite m => some (CUR_IMG_DATA.word.off, m)
  | .imageLoad m => some (CUR_IMG_CTL.word.off, m)
  | .imageUpdate m => some (CUR_IMG_CTL.word.off, m)
  | .imageCheck m => some (CUR_IMG_CTL.word.off, m)
  | .ldgRowDrain m => some (LDG_ROW_DRAIN.word.off, m)
  | .ledgerDisable m => some (LDG_CTL.word.off, m)
  | .ledgerEnable m => some (LDG_CTL.word.off, m)
  | .bindCommit n m => some (LDG_BIND_CTL.word.off + 16 * n.toNat, m)
  | .bindRemove n m => some (LDG_BIND_CTL.word.off + 16 * n.toNat, m)
  | .scaleCommit n m => some (LDG_SCALE_CTL.word.off + 16 * n.toNat, m)
  | .slcLiveWrite m => some (SLC_LIVE.word.off, m)
  | .hashEvaluate m => some (SLC_HASH_PA_HI.word.off, m)
  | .hashPaLoWrite m => some (SLC_HASH_PA_LO.word.off, m)
  | .curatorSramWrite off m => some (0x40000 + off.toNat, m)
  | .mailboxPost m => some (CUR_MBX_DB.word.off, m)
  | .mailboxC2hClear m => some (CUR_MBX_DB.word.off, m)
  | .registerWrite off m => some (4 * off.toNat, m)
  | .seamAnnounce m => some (MIR_SEAM.word.off, m)
  | .seamResume m => some (MIR_SEAM.word.off, m)
  | .repair m => some (MIR_CTL.word.off, m)
  | .split m => some (MIR_CTL.word.off, m)
  | .prepare m => some (MIR_RESTRIPE.word.off, m)
  | .commit m => some (MIR_RESTRIPE.word.off, m)
  | .abort m => some (MIR_RESTRIPE.word.off, m)
  | .mirLdgWrite n m => some (MIR_LDG.word.off + 4 * n.toNat, m)
  | .mirRateWrite m => some (MIR_RATE.word.off, m)
  | .lossReportClear m => some (MIR_LOSS_CTL.word.off, m)
  | .ordWinInv m => some (ORD_WIN_INV.word.off, m)
  | .releaseRecordClear m => some (ORD_CTL.word.off, m)
  | .altDemote m => some (ALT_ADJUST.word.off, m)
  | .altRestore m => some (ALT_ADJUST.word.off, m)
  | .rshClean m => some (SHT_RSH_OP.word.off, m)
  | .rshInvalidate m => some (SHT_RSH_OP.word.off, m)
  | .rshCleanInv m => some (SHT_RSH_OP.word.off, m)
  | .seal m => some (SHT_RSH_OP.word.off, m)
  | .reopen m => some (SHT_RSH_OP.word.off, m)
  | .invBank m => some (SHT_RSH_OP.word.off, m)
  | .reshelverDisable m => some (SHT_RSH_CTL.word.off, m)
  | .reshelverEnable m => some (SHT_RSH_CTL.word.off, m)
  | .prefetchDisable m => some (PFT_CTL.word.off, m)
  | .prefetchEnable m => some (PFT_CTL.word.off, m)
  | .pftDegreeWrite m => some (PFT_DEGREE.word.off, m)
  | .pmuSnapshot m => some (PMU_GCTL.word.off, m)
  | .pmuClear m => some (PMU_GCTL.word.off, m)
  | .pmuCounterWrite n hi m => some (pmuOff n hi, m)
  | .porterDisable m => some (POR_CTL.word.off, m)
  | .porterEnable m => some (POR_CTL.word.off, m)
  | .porterStart ch m => some (POR_CH_CTL.word.off + 64 * ch.toNat, m)
  | .porterChannelDisable ch m => some (POR_CH_CTL.word.off + 64 * ch.toNat, m)
  | .porterChannelEnable ch m => some (POR_CH_CTL.word.off + 64 * ch.toNat, m)
  | .porterHaltClear ch m => some (POR_CH_CTL.word.off + 64 * ch.toNat, m)
  | .pwrCmdActive m => some (PWR_CMD.word.off, m)
  | .pwrCmdDoze m => some (PWR_CMD.word.off, m)
  | .pwrCmdRetain m => some (PWR_CMD.word.off, m)
  | .pwrCmdOff m => some (PWR_CMD.word.off, m)
  | .pwrRampWrite m => some (PWR_RAMP.word.off, m)
  | .calGrantOpen m => some (STK_CAL_GRANT.word.off, m)
  | .stkRetire m => some (STK_RETIRE.word.off, m)
  | .fwDone m => some (CUR_FW_CTL.word.off, m)
  | .fwAlive m => some (CUR_FW_CTL.word.off, m)
  | .fwAttest m => some (CUR_FW_ATTEST.word.off, m)
  | .startRelease m => some (SLC_START_CTL.word.off, m)
  | .daybookClear m => some (DBK_CTL.word.off, m)
  | .clrFails m => some (DBK_CTL.word.off, m)
  | .clrRetired m => some (DBK_CTL.word.off, m)
  | .runLevelWrite m => some (SLC_FEAT.word.off, m)
  | .tclCommit m => some (TCL_CTL.word.off, m)
  | .winCommit m => some (WIN_CTL.word.off, m)
  | _ => none

/-- The register that a management read of the table reads, and its source. -/
def readTarget : Instr → Option (Nat × MgSrc)
  | .rcRegisterRead off src => some (4 * off.toNat, src)
  | .latchedGroupRead off src => some (4 * off.toNat, src)
  | .bindEntryRead n reg src => some (LDG_BIND_BASE_LO.word.off + 16 * n.toNat + 4 * reg.toNat, src)
  | .imgDataRead src => some (CUR_IMG_DATA.word.off, src)
  | _ => none

/-! ### Tables, messages, requests -/

/-- Outside the listed keys two tables read alike. -/
def TabBut {α : Type} (d : α) (l : List Nat) (a b : Tab α) : Prop := ∀ k, k ∉ l → tget d a k = tget d b k

/-- Message `m` has been handed to casement `c`: it has left, or waits there for a link credit (R113, R392). -/
def State.hands (t : State) (c : Nat) (m : Msg) : Bool :=
  t.out.any (fun o => match o with
    | .casement k _ x => k = c && x = m
    | _ => false) || (t.link c).queue.contains m

/-- Messages with route key `k` take casement `c`, and no injector is armed there (R369, R436). -/
def Route (s : State) (k c : Nat) : Prop := s.casementOf k = some c ∧ s.flagI LNK_INJ_CTL.EN c = false

/-- The read of a resident line from its bank, with what is done with its data (R27, R45). -/
def State.readOf (s : State) (line : LineAddr) (w : Nat) (act : Act) : BankJob :=
  ⟨s.serving (lineSet line) w, rowOf (lineSet line), beatOf (lineSet line) w (lineBit line), lineSet line, w, line, false, act.win,
    s.lineData (lineSet line) w (lineBit line), (s.tag (lineSet line) w).p (lineBit line), act, none⟩

/-- The keys of the beats that hold a line of a way, in every bank that a write of it reaches. -/
def State.lineKeys (s : State) (set w : Nat) (bit : Bool) : List Nat :=
  (s.writeBanks set w).flatMap (fun p => [beatKey p (rowOf set) (beatOf set w bit), beatKey p (rowOf set) (beatOf set w bit + 1)])

/-- The tag words and Catalogue entries of a line's sets are free of errors (R50, R110). -/
def WordsOk (s : State) (line : LineAddr) : Prop :=
  (∀ w, w < 32 → (s.tag (lineSet line) w).ecc = .ok) ∧ (∀ e, e < 16 → (s.cat (s.catSet line) e).ecc = .ok)

/-- The register that shows the bucket of a request's label (R246). -/
def bucketReg (r : Req) : Nat := TCL_BUCKET.BUCKET.off + TCL_BUCKET.BUCKET.stride * r.label.toNat

/-- The registers that an accepted request may change wherever it goes: its label's bucket (R246), the record of a mismatch and its
fault event (R146), the counts of prefetch (R99), and the end of a drain whose ack point is reached (R139). -/
def reqRegs (r : Req) : List Nat :=
  [bucketReg r, ORD_MISMATCH.word.off, ORD_MIS_LINE_LO.word.off,
    ORD_MIS_LINE_HI.word.off, ORD_MIS_INFO.word.off, PFT_ISSUED.word.off, PFT_DROPPED.word.off, PFT_USEFUL.word.off,
    LDG_ROW_DRAIN.word.off] ++ faultRegs 4

/-- A request that its tag lane accepts as it arrives (R15, R124, R383): it passes the checks, no window takes it, no seal covers a
line it reads, its line is neither BUSY nor reserved, and nothing it needs is lacking. -/
def Accepted (s : State) (i : Instr) (r : Req) : Prop :=
  s.dozing = false ∧ s.verdict i r = none ∧ r.winV = false ∧ s.winOf r = none ∧ s.preparing = false ∧ WordsOk s r.line
  ∧ (if isWrite i && !(isAtom i) then s.sealWalk r.line else s.isSealed r.line) = false
  ∧ s.txn r.line = none ∧ s.reservedFor r.line r.who = false ∧ s.tableFull i r = false
  ∧ (s.mirShut && s.needsMirror i r) = false ∧ s.mirBlocked i r = false ∧ s.blockCause i r = none

/-- A line of this slice's own share is resident in way `w`, CLEAN or DIRTY, with its data in the array. -/
def HomeHit (s : State) (line : LineAddr) (w : Nat) : Prop :=
  s.homesSelf line = true ∧ s.isCatLost (s.catSet line) = false ∧ s.lookup line = some w ∧ (s.lineSt line).live = true
  ∧ s.atomLine line = none ∧ s.dataPending line = false

/-- A line of this slice's own share is not resident, and its data are not being fetched. -/
def HomeMiss (s : State) (line : LineAddr) : Prop :=
  s.homesSelf line = true ∧ s.isCatLost (s.catSet line) = false ∧ s.lineSt line = .inv ∧ s.dataPending line = false
  ∧ s.isTagLost (lineSet line) = false

/-- The words of the Daybook: its state, its counts and its entries (R298, R300). -/
def dbkRegs : List Nat :=
  [DBK_STATUS.word.off, DBK_FAILS.word.off, DBK_LINK_FAILS.word.off, DBK_DEGRADED.word.off]
    ++ (List.range 64).flatMap (fun n => [DBK_ENT_INFO.word.off + 8 * n, DBK_ENT_TIME.word.off + 8 * n])

/-- A Daybook entry is written in the first place free, while one is (R298, R299). -/
def Entered (s t : State) (outcome step cause detail : Nat) : Prop :=
  s.rd DBK_STATUS.COUNT < 64 →
    t.word (DBK_ENT_INFO.word.off + 8 * s.rd DBK_STATUS.COUNT) = BitVec.ofNat 32
      (2 ^ 31 + outcome * 2 ^ 28 + step * 2 ^ 24 + cause * 2 ^ 16 + s.rd DBK_STATUS.STARTS * 2 ^ 8 + detail)

/-- The start is not at step `n`, or does not run: nothing changes. -/
def Untouched (s t : State) : Prop := t.out = [] ∧ OnlyRegs s t ∧ RegsBut [] s t

/-- An attempt of the boot loader has failed with a cause: the next begins with stage 1, or after the third the slice takes the safe
state, or outside a start the Curator stays held (R290, R321). -/
def AttemptFailed (s t : State) (cause : Nat) : Prop :=
  t.rd CUR_FW_STATUS.LAST_CAUSE = cause ∧ t.front.curLane = []
    ∧ (s.rd CUR_FW_STATUS.ATTEMPT < 3 → t.cur.stage = 1 ∧ t.rd CUR_FW_STATUS.STATE = 0 ∧ t.flag CUR_FW_CTL.DONE = false
        ∧ (s.atStep 4 = true → Entered s t ocRetry 4 cause (s.rd CUR_FW_STATUS.ATTEMPT)))
    ∧ (3 ≤ s.rd CUR_FW_STATUS.ATTEMPT → t.cur.stage = 0 ∧ t.rd CUR_FW_STATUS.STATE = 4
        ∧ (s.atStep 4 = true → t.rd SLC_START.STATE = 4 ∧ Entered s t ocFail 4 cause (s.rd CUR_FW_STATUS.ATTEMPT)))

/-- The refusal of an image, if it is refused (R272). -/
def imgNo : Except ImgNo (List Sec) → Option ImgNo
  | .error x => some x
  | .ok _ => none

/-- Who awaits the answer of an admission check at the management port (R257). -/
def admWriter : AdmWhy → Option MgSrc
  | .tcl src | .win src | .rampReg src _ | .mirRate src _ => some src
  | _ => none

/-- The registers in which Porter shows its channels: POR_STATUS and the control words. -/
def porShown : List Nat := POR_STATUS.word.off :: (List.range 16).map (fun c => POR_CH_CTL.word.off + 64 * c)

/-- The registers of one channel of Porter, and those that show all. -/
def porRegs (c : Nat) : List Nat := porShown ++ (List.range 16).map (fun k => POR_CH_CTL.word.off + 64 * c + 4 * k)

/-- The fault injector of a link is off and holds no message back (R369, R372). -/
def Uninjected (s : State) (n : Nat) : Prop := s.flagI LNK_INJ_CTL.EN n = false ∧ (s.injector n).held = none

/-- A message of the chain is sent: it takes a Wicket credit and leaves, unless it crosses the seam, or it waits behind those that
wait for a credit (R209, R403). -/
def ChainSent (s t : State) (h : BitVec 256) (image : Option RowImage) : Prop :=
  let m := withCrc h image
  if s.chn.credits = 0 ∨ s.chn.queue ≠ [] then
    t.chn.queue = s.chn.queue ++ [(m, image)] ∧ t.chn.credits = s.chn.credits
  else t.chn.queue = [] ∧ t.chn.credits + 1 = s.chn.credits ∧ (s.tranLane (.chain m image) = none → .chain m image ∈ t.out)

/-- The mirror port takes what arrives: no injector is armed on it or on the seam it crosses, the slice runs, and pairing is enabled
(R335, R369, R370). -/
def MirReady (s : State) : Prop :=
  Uninjected s 6 ∧ (s.mirAcross = true → Uninjected s 7) ∧ s.front.failed = false ∧ s.dark = false ∧ s.flag MIR_CTL.PAIR_EN = true

/-- A message of the partner that is next in its lane, in a state that takes messages, with none waiting (R340). -/
def MirNext (s : State) (h : MirHdr) : Prop :=
  MirReady s ∧ s.mirTakes = true ∧ s.mir.waiting = [] ∧ h.seq = s.mirExpect h.lane.toNat

/-- A message of the partner has been taken: the next SEQ is expected, it is counted, and MACK returns its credit, up to the message
before the oldest scale update of the lane that is not committed (R340, R341). -/
def MirTaken (s t : State) (h : MirHdr) : Prop :=
  t.mirExpect h.lane.toNat = h.seq + 1 ∧ t.mir.waiting = [] ∧ t.rd MIR_RX.COUNT = min (s.rd MIR_RX.COUNT + 1) (2 ^ MIR_RX.COUNT.w - 1)
    ∧ (s.mirAcross = false →
      .mirror 10 ⟨h.lane, 0, false, false, 0, 0,
        BitVec.ofNat 32 (((s.mir.scaleQ.find? (fun x => x.1.lane = h.lane)).map (fun x => x.1.seq - 1)).getD h.seq).toNat⟩
        none none none 0 ∈ t.out)

/-- The management source that wrote a power command, if a write sent it. -/
def PwrCmd.regOf (c : PwrCmd) : Option MgSrc := match c.by' with | .reg x => some x | _ => none

/-- The SEQ of the STATE message that carried a power command, if one did. -/
def PwrCmd.seqOf (c : PwrCmd) : Option (BitVec 8) := match c.by' with | .msg x => some x | _ => none

end Sys2Proof.Machine
end

