-- ==== Sys2Proof/Certificates/Slice0/Obligations.lean ====
section
/-! DEFINITION. The statements for the provers. -/

open Sys2Proof Sys2Proof.Machine

/-- For every state whose queue begins with a command c, a step is exec of c on the state with the queue's rest: commands take effect in
  the order in which they stand in the queue, and in no other way. -/
def Obligations.StepRunsFrontCommand : Prop :=
  ∀ (s : State) (c : Instr) (rest : List Instr), s.pending = c :: rest → step s = exec c { s with pending := rest }

/-- In the state after reset every register reads its Reset value of the S128 build, five of them written out; no tag, Catalogue entry,
  transaction, Ledger row or log entry is listed, the queue is empty and nothing has been sent. That the build is S128 is the model's
  choice (notes/assumptions/1.md). -/
def Obligations.ResetHoldsResetValues : Prop :=
  (∀ off, State.reset.word off = resetWord false off)
    ∧ State.reset.word SLC_CAP.word.off = 0x11000000#32 ∧ State.reset.word PWR_CAP.word.off = 0xFFFFFFFF#32
    ∧ State.reset.word STK_CFG.word.off = 0x00201010#32 ∧ State.reset.word MIR_CTL.word.off = 0x20000008#32
    ∧ (∀ n, n < 256 → State.reset.rdI LDG_SCALE_MUL.MUL n = 0x3F800000)
    ∧ (∀ set way, State.reset.tag set way = TagW.empty) ∧ State.reset.coh.cat = [] ∧ State.reset.coh.txns = []
    ∧ State.reset.ldg.rows = [] ∧ State.reset.err.intake = [] ∧ State.reset.err.ring = []
    ∧ State.reset.pending = [] ∧ State.reset.out = []

/-- From every state in which the fault interrupt shows a pending and enabled class or a stopped start, the PMU interrupt an overflowed
  and enabled counter, both 0 in RETAIN and OFF_READY, and the power-off-ready output the state OFF_READY, every step leads to such a
  state, whatever the command. -/
def Obligations.OutputsFollowEveryStep : Prop :=
  ∀ s t : State, OutputsFollow s → step s = .next t → OutputsFollow t

/-- In the state after reset the fault interrupt, the PMU interrupt and the power-off-ready output show what the registers say. -/
def Obligations.OutputsFollowAtReset : Prop :=
  OutputsFollow State.reset

/-- Whatever the state, each of the 227 commands answers a next state: the slice answers, waits or ignores, and never stops. -/
def Obligations.EveryCommandAnswersNextState : Prop :=
  ∀ (c : Instr) (s : State), ∃ t, exec c s = .next t

/-- For every management write of the table from a source other than the Curator: before the end of step 1 it waits at the port and
  nothing else changes; in RETAIN and OFF_READY a register outside the PWR and DBK blocks, and in the failed state one outside the SLC,
  DBK, ERR and PMU blocks, is answered PARKED and nothing changes; otherwise a reserved requester is answered REFUSED with FIELD_INVALID
  and nothing changes. -/
def Obligations.ManagementWriteGate : Prop :=
  ∀ (i : Instr) (off : Nat) (m : MgWrite) (s : State), writeTarget i = some (off, m) → m.src ≠ .curator →
    (s.mgReady = false → ∃ t, exec i s = .next t ∧ t.front = { s.front with mgWait := some i } ∧ t.out = []
      ∧ OnlyRegs { s with front := t.front } t ∧ RegsBut [] s t)
    ∧ (s.mgReady = true → (s.dark = true ∧ darkBlock off = false) ∨ (s.front.failed = true ∧ failedBlock off = false) →
      ∃ t, exec i s = .next t ∧ t.out = [.mg 0 stParked rsnNone] ∧ OnlyRegs s t ∧ RegsBut [] s t)
    ∧ (∀ c, m.src = .reserved c → s.mgReady = true → (s.dark = true → darkBlock off = true) →
        (s.front.failed = true → failedBlock off = true) →
      ∃ t, exec i s = .next t ∧ t.out = [.mg 0 stRefused rsnField] ∧ OnlyRegs s t ∧ RegsBut [] s t)

/-- Every management write of the table that its gate passes has exactly the effect of REGISTER_WRITE at its register's offset with its
  word: the 75 commands with names of their own are no other way into a register. -/
def Obligations.NamedWritesAreRegisterWrites : Prop :=
  ∀ (i : Instr) (off : Nat) (m : MgWrite) (s : State), writeTarget i = some (off, m) → m.src ≠ .curator → Admits s off m.src →
    exec i s = exec (.registerWrite (BitVec.ofNat 18 (off / 4)) m) s

/-- A write of SLC_LIVE whose MASK is empty or lacks this slice is refused as LIVE_MAP_INVALID and changes nothing. Every other write is
  taken: MASK and GEN hold the written values, COUNT the number of live slices, SELF and the contents of the Ledger's rows stay; while
  MASK is unchanged nothing else changes, and when it changes VALID of every binding is clear. -/
def Obligations.LiveMapWrite : Prop :=
  (∀ (s : State) (m : MgWrite),
    let mask := fieldGet SLC_LIVE.MASK m.word
    Admits s SLC_LIVE.word.off m.src →
    mask = 0 ∨ mask.testBit (s.rd SLC_LIVE.SELF) = false →
    ∃ t, exec (.slcLiveWrite m) s = .next t ∧ t.out = [answerOut m.src stRefused rsnLiveMap 0]
      ∧ OnlyRegs s t
      ∧ RegsBut [] s t)
  ∧ (∀ (s : State) (m : MgWrite),
    let mask := fieldGet SLC_LIVE.MASK m.word
    Admits s SLC_LIVE.word.off m.src →
    mask ≠ 0 →
    mask.testBit (s.rd SLC_LIVE.SELF) = true →
    ∃ t, exec (.slcLiveWrite m) s = .next t ∧ t.rd SLC_LIVE.MASK = mask
      ∧ t.rd SLC_LIVE.GEN = fieldGet SLC_LIVE.GEN m.word
      ∧ t.rd SLC_LIVE.SELF = s.rd SLC_LIVE.SELF
      ∧ t.rd SLC_LIVE.COUNT = (liveList mask).length
      ∧ t.ldg.rows = s.ldg.rows
      ∧ (mask = s.rd SLC_LIVE.MASK → t.out = [answerOut m.src stOk rsnNone 0] ∧ OnlyRegs s t ∧ RegsBut [SLC_LIVE.word.off] s t)
      ∧ (mask ≠ s.rd SLC_LIVE.MASK → ∀ n : Nat, n < 32 → t.flagI LDG_BIND_CTL.VALID n = false))

/-- A write of SLC_HASH_PA_LO holds its word and clears VALID. A write of SLC_HASH_PA_HI evaluates R36 for the test address under the
  live map in force: SET is the set index of its granule; with live slices, POS is the fold of its granule modulo their number, HOME the
  live slice at that position, IS_SELF tells whether that is this slice, and VALID is set; without any, these four read 0. No other
  register and no unit changes. -/
def Obligations.HashRegisters : Prop :=
  (∀ (s : State) (m : MgWrite),
    Admits s SLC_HASH_PA_LO.word.off m.src →
    ∃ t, exec (.hashPaLoWrite m) s = .next t ∧ t.word SLC_HASH_PA_LO.word.off = m.word
      ∧ t.rd SLC_HASH_OUT.VALID = 0
      ∧ t.out = [answerOut m.src stOk rsnNone 0]
      ∧ OnlyRegs s t
      ∧ RegsBut [SLC_HASH_PA_LO.word.off, SLC_HASH_OUT.word.off] s t)
  ∧ (∀ (s : State) (m : MgWrite),
    let mask := s.rd SLC_LIVE.MASK
    let g := BitVec.ofNat 44 (fieldGet SLC_HASH_PA_HI.PA_HI m.word * 2 ^ 24 + s.rd SLC_HASH_PA_LO.PA_LO / 2 ^ 8)
    let f := g.extractLsb' 0 16 ^^^ g.extractLsb' 16 16 ^^^ (g.extractLsb' 32 12).setWidth 16
    let p := f.toNat % (liveList mask).length
    Admits s SLC_HASH_PA_HI.word.off m.src →
    ∃ t, exec (.hashEvaluate m) s = .next t ∧ t.rd SLC_HASH_PA_HI.PA_HI = fieldGet SLC_HASH_PA_HI.PA_HI m.word
      ∧ t.rd SLC_HASH_OUT.SET = (g.extractLsb' 3 14 ^^^ g.extractLsb' 17 14).toNat
      ∧ (mask = 0 → t.rd SLC_HASH_OUT.VALID = 0 ∧ t.rd SLC_HASH_OUT.IS_SELF = 0 ∧ t.rd SLC_HASH_OUT.POS = 0 ∧ t.rd SLC_HASH_OUT.HOME = 0)
      ∧ (mask ≠ 0 → t.rd SLC_HASH_OUT.VALID = 1 ∧ t.rd SLC_HASH_OUT.POS = p ∧ (liveList mask)[p]? = some (t.rd SLC_HASH_OUT.HOME) ∧ (t.rd
        SLC_HASH_OUT.IS_SELF = 1 ↔ t.rd SLC_HASH_OUT.HOME = s.rd SLC_LIVE.SELF))
      ∧ t.out = [answerOut m.src stOk rsnNone 0]
      ∧ OnlyRegs s t
      ∧ RegsBut [SLC_HASH_PA_HI.word.off, SLC_HASH_OUT.word.off] s t)

/-- A management read that its gate passes, of a register outside the mailbox, the SRAM and CUR_IMG_DATA, answers OK with the word
  latched for that register, or else the word the register shows; it clears the register's RC fields, latches the words of the group that
  the register begins and ends every other latch but that of the cell group; a read of a binding entry's register drops the values staged
  for that entry and no other; no other register and no other unit changes. A read of CUR_IMG_DATA answers the staged word at ADDR and
  advances ADDR. -/
def Obligations.ManagementReads : Prop :=
  (∀ (s : State) (i : Instr) (off : BitVec 18) (src : MgSrc),
    i = .rcRegisterRead off src ∨ i = .latchedGroupRead off src →
    let o := 4 * off.toNat
    src = .driver ∨ src = .rootOfTrust ∨ src = .test →
    s.mgReady = true →
    s.dark = true → darkBlock o = true →
    o < 0x30000 ∨ (0x31000 ≤ o ∧ o < 0x40000) →
    o ≠ CUR_IMG_DATA.word.off →
    ∃ t, exec i s = .next t ∧ t.out = [.mg ((tfind s.latch o).getD (s.begin.live o)) stOk rsnNone]
      ∧ (∀ r, regRow s.s64 o = some r → t.word o = s.begin.word o &&& ~~~(BitVec.ofNat 32 r.rc))
      ∧ (∀ k, k ∈ latchGroup o → tfind t.latch k = some (s.begin.live k))
      ∧ OnlyRegs { s with latch := t.latch, ldg := { s.ldg with stage := t.ldg.stage } } t
      ∧ RegsBut [o] s t)
  ∧ (∀ (s : State) (n : BitVec 5) (reg : BitVec 2) (src : MgSrc),
    let o := LDG_BIND_BASE_LO.word.off + 16 * n.toNat + 4 * reg.toNat
    src = .driver ∨ src = .rootOfTrust ∨ src = .test →
    s.mgReady = true →
    s.dark = false →
    ∃ t, exec (.bindEntryRead n reg src) s = .next t ∧ t.out = [.mg ((tfind s.latch o).getD (s.word o)) stOk rsnNone]
      ∧ (∀ r : Nat, r < 4 → tfind t.ldg.stage (LDG_BIND_BASE_LO.word.off + 16 * n.toNat + 4 * r) = none)
      ∧ (∀ k : BitVec 5, k ≠ n → ∀ r : Nat, r < 4 → tfind t.ldg.stage (LDG_BIND_BASE_LO.word.off + 16 * k.toNat + 4 * r) = tfind
        s.ldg.stage (LDG_BIND_BASE_LO.word.off + 16 * k.toNat + 4 * r))
      ∧ OnlyRegs { s with latch := t.latch, ldg := { s.ldg with stage := t.ldg.stage } } t
      ∧ RegsBut [] s t)
  ∧ (∀ (s : State) (src : MgSrc),
    src = .driver ∨ src = .rootOfTrust ∨ src = .test →
    s.mgReady = true →
    s.dark = false →
    tfind s.latch CUR_IMG_DATA.word.off = none →
    ∃ t, exec (.imgDataRead src) s = .next t ∧ t.out = [.mg (tget 0 s.img.buf (s.rd CUR_IMG_ADDR.ADDR)) stOk rsnNone]
      ∧ t.rd CUR_IMG_ADDR.ADDR = (s.rd CUR_IMG_ADDR.ADDR + 1) % 2 ^ CUR_IMG_ADDR.ADDR.w
      ∧ OnlyRegs { s with latch := t.latch } t
      ∧ RegsBut [CUR_IMG_ADDR.word.off] s t)

/-- A register write of the driver, the root of trust or the test port that its gate passes: at an offset of no listed register it is
  refused and changes nothing; of one of the interrupt enables, log enables, pending bits or Ledger row registers named in the Lean,
  which have no rule of their own, it sets RW bits to the written ones, clears the W1C bits written 1, and changes no other register and
  no unit. A register write of the Curator enters its lane while the firmware runs, with its place and word at the end, and changes
  nothing else. -/
def Obligations.RegisterWriteReservedAndPlain : Prop :=
  (∀ (s : State) (off : BitVec 18) (m : MgWrite),
    let o := 4 * off.toNat
    m.src ≠ .curator →
    Admits s o m.src →
    o < 0x30000 ∨ (0x31000 ≤ o ∧ o < 0x40000) →
    regRow s.s64 o = none →
    ∃ t, exec (.registerWrite off m) s = .next t ∧ t.out = [answerOut m.src stRefused rsnField 0]
      ∧ OnlyRegs s t
      ∧ RegsBut [] s t)
  ∧ (∀ (s : State) (off : BitVec 18) (m : MgWrite),
    let o := 4 * off.toNat
    m.src ≠ .curator →
    Admits s o m.src →
    o ∈ [ERR_STATUS.word.off, ERR_IRQ_EN.word.off, ERR_LOG_EN.word.off, ERR_LOG_DROP.word.off, SLC_START_TMO.word.off,
      STK_SCRUB_CTL.word.off, STK_ECC_LIMIT.word.off, CHN_CTL.word.off, SHT_DEAD_CTL.word.off, CAT_AGENT_LOST.word.off] →
    ∃ t, exec (.registerWrite off m) s = .next t ∧ (∀ r, regRow s.s64 o = some r → t.word o = (s.word o &&& ~~~BitVec.ofNat 32 r.rw &&&
      ~~~(BitVec.ofNat 32 r.w1c &&& m.word)) ||| (m.word &&& BitVec.ofNat 32 r.rw))
      ∧ t.out = [answerOut m.src stOk rsnNone 0]
      ∧ OnlyRegs s t
      ∧ RegsBut [o] s t)
  ∧ (∀ (s : State) (off : BitVec 18) (w : Word),
    s.rd CUR_FW_STATUS.STATE = 3 →
    ∃ t, exec (.registerWrite off ⟨.curator, w⟩) s = .next t ∧ t.front =
      { s.front with curLane := s.front.curLane ++ [(4 * off.toNat, w)] }
      ∧ t.out = []
      ∧ OnlyRegs { s with front := t.front } t
      ∧ RegsBut [] s t)

/-- A driver's write of the Curator's SRAM is stored at stage 3 and refused at any other stage; the firmware's is stored from stage 6 on.
  With firmware that runs: a write of the doorbell with POST and 1 to 512 words sets POST and LEN when POST is clear; a write with a bad
  length is refused; the Curator's reading clears POST; the Curator's message of up to 508 words sets C2H_PEND and C2H_LEN and pulses its
  interrupt when none is pending, else it is refused; the driver's write of 1 to C2H_PEND clears it. Nothing else changes. -/
def Obligations.SramAndMailbox : Prop :=
  (∀ (s : State) (off : BitVec 18) (m : MgWrite),
    Admits s (0x40000 + off.toNat) m.src →
    (m.src ≠ .curator ∧ s.cur.stage = 3) ∨ (m.src = .curator ∧ 6 ≤ s.cur.stage) →
    ∃ t, exec (.curatorSramWrite off m) s = .next t ∧ tget 0 t.cur.sram (off.toNat / 4) = m.word
      ∧ tget Ecc.ok t.cur.ecc (off.toNat / 4) = .ok
      ∧ t.cur.sram = tput 0 s.cur.sram (off.toNat / 4) m.word
      ∧ t.out = [answerOut m.src stOk rsnNone 0]
      ∧ OnlyRegs { s with cur := { s.cur with sram := t.cur.sram, ecc := t.cur.ecc } } t
      ∧ RegsBut [] s t)
  ∧ (∀ (s : State) (off : BitVec 18) (m : MgWrite),
    Admits s (0x40000 + off.toNat) m.src →
    (m.src ≠ .curator ∧ s.cur.stage ≠ 3) ∨ (m.src = .curator ∧ s.cur.stage < 6) →
    ∃ t, exec (.curatorSramWrite off m) s = .next t ∧ t.out = [answerOut m.src stRefused rsnField 0]
      ∧ OnlyRegs s t
      ∧ RegsBut [] s t)
  ∧ (∀ (s : State) (m : MgWrite),
    let len := fieldGet CUR_MBX_DB.H2C_LEN m.word
    m.src ≠ .curator →
    Admits s CUR_MBX_DB.word.off m.src →
    s.rd CUR_FW_STATUS.STATE = 3 →
    m.word.getLsbD 31 = true →
    ∃ t, exec (.mailboxPost m) s = .next t ∧ (len = 0 ∨ 512 < len → t.out = [answerOut m.src stRefused rsnField 0] ∧ RegsBut [] s t)
      ∧ (0 < len → len ≤ 512 → s.rd CUR_MBX_DB.POST = 1 → t.out = [answerOut m.src stRefused rsnBusy 0] ∧ RegsBut [] s t)
      ∧ (0 < len → len ≤ 512 → s.rd CUR_MBX_DB.POST = 0 → t.rd CUR_MBX_DB.POST = 1 ∧ t.rd CUR_MBX_DB.H2C_LEN = len ∧ t.out = [answerOut
        m.src stOk rsnNone 0])
      ∧ OnlyRegs s t
      ∧ RegsBut [CUR_MBX_DB.word.off] s t)
  ∧ (∀ (s : State),
    s.rd CUR_FW_STATUS.STATE = 3 →
    ∃ t, exec (.mailboxPostClear) s = .next t ∧ t.rd CUR_MBX_DB.POST = 0
      ∧ t.rd CUR_MBX_DB.C2H_PEND = s.rd CUR_MBX_DB.C2H_PEND
      ∧ t.out = []
      ∧ OnlyRegs s t
      ∧ RegsBut [CUR_MBX_DB.word.off] s t)
  ∧ (∀ (s : State) (len : BitVec 9),
    s.rd CUR_FW_STATUS.STATE = 3 →
    ∃ t, exec (.mailboxC2hPost len) s = .next t ∧ (s.rd CUR_MBX_DB.C2H_PEND = 1 → t.out = [.curator 0 stRefused rsnBusy] ∧ RegsBut [] s
    t)
      ∧ (s.rd CUR_MBX_DB.C2H_PEND = 0 → len.toNat ≤ 508 → t.rd CUR_MBX_DB.C2H_PEND = 1 ∧ t.rd CUR_MBX_DB.C2H_LEN = len.toNat ∧ t.out =
        [.irqCur, .curator 0 stOk rsnNone])
      ∧ OnlyRegs s t
      ∧ RegsBut [CUR_MBX_DB.word.off] s t)
  ∧ (∀ (s : State) (m : MgWrite),
    m.src ≠ .curator →
    Admits s CUR_MBX_DB.word.off m.src →
    s.rd CUR_FW_STATUS.STATE = 3 →
    m.word.getLsbD 31 = false →
    m.word.getLsbD 30 = true →
    s.rd CUR_MBX_DB.POST = 0 ∨ fieldGet CUR_MBX_DB.H2C_LEN m.word = s.rd CUR_MBX_DB.H2C_LEN →
    ∃ t, exec (.mailboxC2hClear m) s = .next t ∧ t.rd CUR_MBX_DB.C2H_PEND = 0
      ∧ t.rd CUR_MBX_DB.POST = s.rd CUR_MBX_DB.POST
      ∧ t.out = [answerOut m.src stOk rsnNone 0]
      ∧ OnlyRegs s t
      ∧ RegsBut [CUR_MBX_DB.word.off] s t)

/-- TIMESTAMP_UPDATE holds the package time and its wrap count in their pins; while the watchdog is armed REMAIN shows the 100 µs units
  left of its period, and no other register changes. JTAG_INSTRUCTION puts IDCODE in force and shifts out the identity, puts IJTAG in
  force with DBG_EN, and acts as BYPASS for every other code; it changes no register. -/
def Obligations.TimestampAndTestPort : Prop :=
  (∀ (s : State) (ns : BitVec 48) (wrap : Word),
    ∃ t, exec (.timestampUpdate ns wrap) s = .next t ∧ t.pins.ns = ns
      ∧ t.pins.wrap = wrap
      ∧ (s.flag CUR_WDT_STATUS.ARMED = true → t.rd CUR_WDT_STATUS.REMAIN = (s.cur.wdtEnd - (wrap.toNat * 2 ^ 48 + ns.toNat)) / 100000 % 2
        ^ CUR_WDT_STATUS.REMAIN.w)
      ∧ (s.flag CUR_WDT_STATUS.ARMED = false → RegsBut [] s t)
      ∧ t.out = []
      ∧ OnlyRegs { s with pins := t.pins } t
      ∧ RegsBut [CUR_WDT_STATUS.word.off] s t)
  ∧ (∀ (s : State) (code : BitVec 8) (dbgEn : Bool),
    ∃ t, exec (.jtagInstruction code dbgEn) s = .next t ∧ (code = 0x01 → t.pins.ir = 0x01 ∧ t.out = [.jtag s.idcode])
      ∧ (code = 0x20 → dbgEn = true → t.pins.ir = 0x20 ∧ t.out = [])
      ∧ (code ≠ 0x01 → (code ≠ 0x20 ∨ dbgEn = false) → t.pins.ir = 0xFF ∧ t.out = [])
      ∧ OnlyRegs { s with pins := t.pins } t
      ∧ RegsBut [] s t)

/-- A write of PMU_GCTL by the driver, the root of trust or the test port holds EN, FREEZE and FRZ_ON_OVF. With SNAP the eight
  programmable counters and PMU_CYC are copied, as they stood, into the snapshot registers and SNAPS is one more; without it the snapshot
  registers stay. With CLR every counter of the written EN mask reads 0, and every other counter keeps its value. No register outside the
  PMU's block and no unit changes. -/
def Obligations.PmuSnapshotClearFreeze : Prop :=
  ∀ (s : State) (i : Instr) (m : MgWrite),
    i = .pmuSnapshot m ∨ i = .pmuClear m →
    m.src ≠ .curator →
    Admits s PMU_GCTL.word.off m.src →
    ∃ t, exec i s = .next t ∧ t.rd PMU_GCTL.EN = fieldGet PMU_GCTL.EN m.word
      ∧ t.rd PMU_GCTL.FREEZE = fieldGet PMU_GCTL.FREEZE m.word
      ∧ t.rd PMU_GCTL.FRZ_ON_OVF = fieldGet PMU_GCTL.FRZ_ON_OVF m.word
      ∧ (m.word.getLsbD 31 = true → (∀ n : Nat, n < 8 → t.rdI PMU_SNAP_LO.SNAP_LO n = s.rdI PMU_CNT_LO.CNT_LO n ∧ t.rdI
        PMU_SNAP_HI.SNAP_HI n = s.rdI PMU_CNT_HI.CNT_HI n) ∧ t.rd PMU_SCYC_LO.SCYC_LO = s.rd PMU_CYC_LO.CYC_LO ∧ t.rd PMU_SCYC_HI.SCYC_HI
        = s.rd PMU_CYC_HI.CYC_HI ∧ t.rd PMU_STATUS.SNAPS = (s.rd PMU_STATUS.SNAPS + 1) % 65536)
      ∧ (m.word.getLsbD 31 = false → ∀ n : Nat, n < 8 → t.word (PMU_SNAP_LO.word.off + 32 * n) = s.word (PMU_SNAP_LO.word.off + 32 * n) ∧
        t.word (PMU_SNAP_HI.word.off + 32 * n) = s.word (PMU_SNAP_HI.word.off + 32 * n))
      ∧ (∀ n : Nat, n < 8 → t.pmuVal n = if m.word.getLsbD 28 = true ∧ m.word.getLsbD n = true then 0 else s.pmuVal n)
      ∧ t.out = [answerOut m.src stOk rsnNone 0]
      ∧ OnlyRegs s t
      ∧ RegsBut [] s t

/-- A write of a counter's low or high word holds the written bits and leaves the other half and every other counter alone. An increment
  of at most 32 that carries a running counter past 2^48 - 1 leaves it the sum less 2^48, sets its OVF bit and, with FRZ_ON_OVF, makes a
  freeze due; no other counter changes; a counter that stands or does not reach 2^48 keeps its value. A freeze that is due is in force at
  the next command. No register outside the PMU's block and no unit changes. -/
def Obligations.PmuCounterWriteAndWrap : Prop :=
  (∀ (s : State) (n : BitVec 3) (hi : Bool) (m : MgWrite),
    m.src ≠ .curator →
    Admits s (pmuOff n hi) m.src →
    ∃ t, exec (.pmuCounterWrite n hi m) s = .next t ∧ (t.pmuVal n.toNat = if hi then m.word.toNat % 2 ^ 16 * 2 ^ 32 + s.pmuVal n.toNat %
      2 ^ 32 else s.pmuVal n.toNat / 2 ^ 32 * 2 ^ 32 + m.word.toNat)
      ∧ (∀ k : Nat, k < 8 → k ≠ n.toNat → t.pmuVal k = s.pmuVal k)
      ∧ t.out = [answerOut m.src stOk rsnNone 0]
      ∧ OnlyRegs s t
      ∧ RegsBut [] s t)
  ∧ (∀ (s : State) (n : BitVec 3) (inc : BitVec 6),
    let wraps := s.bit PMU_GCTL.EN n.toNat = true ∧ s.rd PMU_GCTL.FREEZE = 0 ∧ s.rdI PMU_EVSEL.EVENT n.toNat ≠ 0 ∧ inc.toNat ≤ 32 ∧ 2 ^
      48 ≤ s.pmuVal n.toNat + inc.toNat
    s.pmuFrz = false →
    ∃ t, exec (.pmuCounterWrap n inc) s = .next t ∧ (wraps → t.pmuVal n.toNat = s.pmuVal n.toNat + inc.toNat - 2 ^ 48 ∧ (t.rd
      PMU_OVF.OVF).testBit n.toNat = true ∧ t.pmuFrz = (s.rd PMU_GCTL.FRZ_ON_OVF == 1))
      ∧ (¬ wraps → t.pmuVal n.toNat = s.pmuVal n.toNat)
      ∧ (∀ k : Nat, k < 8 → k ≠ n.toNat → t.pmuVal k = s.pmuVal k)
      ∧ t.out = []
      ∧ OnlyRegs s t
      ∧ RegsBut [] s t)
  ∧ (∀ (s : State) (code : BitVec 8) (dbgEn : Bool),
    s.pmuFrz = true →
    ∃ t, exec (.jtagInstruction code dbgEn) s = .next t ∧ t.rd PMU_GCTL.FREEZE = 1
      ∧ t.pmuFrz = false)

/-- FAULT_LOG_WRITE moves the oldest entry of the intake queue, with SEQ as its number, to ring index SEQ mod 512, and SEQ is one more;
  with 512 unread entries TAIL is one more and LOST counts it, otherwise both stay; with an empty intake queue nothing changes. A write
  of TAIL no further than SEQ is held, any other refused. A write of ERR_LOG_SEL shows the entry at its index in the entry words: its
  time, line, detail, class, severity, code and number, or 0 for an index never written. Nothing else changes. -/
def Obligations.FaultLogRing : Prop :=
  (∀ (s : State),
    s.err.intake ≠ [] →
    let seq := s.word ERR_LOG_SEQ.word.off
    let full := (seq - s.word ERR_LOG_TAIL.word.off).toNat = 512
    ∃ t, exec (.faultLogWrite) s = .next t ∧ t.err.intake = s.err.intake.tail
      ∧ (∀ e, s.err.intake.head? = some e → t.err.ring = tset s.err.ring (seq.toNat % 512) (e, seq))
      ∧ t.word ERR_LOG_SEQ.word.off = seq + 1
      ∧ (t.word ERR_LOG_TAIL.word.off = if full then s.word ERR_LOG_TAIL.word.off + 1 else s.word ERR_LOG_TAIL.word.off)
      ∧ (t.rd ERR_LOG_LOST.COUNT = if full then min (s.rd ERR_LOG_LOST.COUNT + 1) (2 ^ 32 - 1) else s.rd ERR_LOG_LOST.COUNT)
      ∧ t.out = []
      ∧ OnlyRegs { s with err := t.err } t
      ∧ RegsBut [ERR_LOG_SEQ.word.off, ERR_LOG_TAIL.word.off, ERR_LOG_LOST.word.off] s t)
  ∧ (∀ (s : State),
    s.err.intake = [] →
    ∃ t, exec (.faultLogWrite) s = .next t ∧ t.out = []
      ∧ OnlyRegs s t
      ∧ RegsBut [] s t)
  ∧ (∀ (s : State) (m : MgWrite),
    Admits s ERR_LOG_TAIL.word.off m.src →
    let ahead := (m.word - s.word ERR_LOG_TAIL.word.off).toNat ≤ (s.word ERR_LOG_SEQ.word.off - s.word ERR_LOG_TAIL.word.off).toNat
    ∃ t, exec (.errLogTailWrite m) s = .next t ∧ (ahead → t.word ERR_LOG_TAIL.word.off = m.word ∧ t.out = [answerOut m.src stOk rsnNone
      0])
      ∧ (¬ ahead → t.word ERR_LOG_TAIL.word.off = s.word ERR_LOG_TAIL.word.off ∧ t.out = [answerOut m.src stRefused rsnField 0])
      ∧ OnlyRegs s t
      ∧ RegsBut [ERR_LOG_TAIL.word.off] s t)
  ∧ (∀ (s : State) (m : MgWrite),
    Admits s ERR_LOG_SEL.word.off m.src →
    let n := fieldGet ERR_LOG_SEL.INDEX m.word
    ∃ t, exec (.errLogSelect m) s = .next t ∧ t.rd ERR_LOG_SEL.INDEX = n
      ∧ (tfind s.err.ring n = none → ∀ o, o ∈ [ERR_ENT_TS_LO.word.off, ERR_ENT_TS_HI.word.off, ERR_ENT_LOC_LO.word.off,
        ERR_ENT_LOC_HI.word.off, ERR_ENT_DETAIL.word.off, ERR_ENT_INFO.word.off, ERR_ENT_SEQ.word.off] → t.word o = 0)
      ∧ (∀ x, tfind s.err.ring n = some x → t.word ERR_ENT_SEQ.word.off = x.2 ∧ t.word ERR_ENT_TS_LO.word.off = x.1.ns.extractLsb' 0 32 ∧
        t.rd ERR_ENT_TS_HI.TS_HI = x.1.ns.toNat / 2 ^ 32 ∧ t.rd ERR_ENT_TS_HI.WRAP = x.1.wrap.toNat ∧ t.rd ERR_ENT_INFO.VALID = 1 ∧ t.rd
        ERR_ENT_INFO.LOC_V = x.1.loc.isSome.toNat ∧ t.word ERR_ENT_DETAIL.word.off = BitVec.ofNat 32 x.1.detail ∧ t.rd
        ERR_ENT_LOC_LO.LOC_LO = (x.1.loc.getD 0).toNat % 2 ^ 25 ∧ t.word ERR_ENT_LOC_HI.word.off = (x.1.loc.getD 0 >>> 25).setWidth 32)
      ∧ t.out = [answerOut m.src stOk rsnNone 0]
      ∧ OnlyRegs s t
      ∧ RegsBut [ERR_LOG_SEL.word.off, ERR_ENT_TS_LO.word.off, ERR_ENT_TS_HI.word.off, ERR_ENT_LOC_LO.word.off, ERR_ENT_LOC_HI.word.off,
        ERR_ENT_DETAIL.word.off, ERR_ENT_INFO.word.off, ERR_ENT_SEQ.word.off] s t)

/-- The Curator's write of CUR_WDT_CTL with KICK that keeps LIMIT and PERIOD_MS restarts an armed watchdog's period, and is refused when
  it would change them; the driver's write with KICK is refused and without it holds LIMIT and PERIOD_MS. An expiry of an armed watchdog,
  or an uncorrectable SRAM word, disarms it and counts an expiry and a fault of class 11: below LIMIT (0 acting as 1) and not held the
  boot loader starts again at stage 1 with STATE 0; otherwise HELD is set, STATE reads 4 and the Curator stays in reset. A disarmed
  watchdog does not expire. A write of 1 to a set HELD clears it and the count and starts the boot loader. -/
def Obligations.CuratorWatchdog : Prop :=
  (∀ (s : State) (m : MgWrite),
    Admits s CUR_WDT_CTL.word.off m.src →
    m.src = .curator →
    let same := fieldGet CUR_WDT_CTL.LIMIT m.word = s.rd CUR_WDT_CTL.LIMIT ∧ fieldGet CUR_WDT_CTL.PERIOD_MS m.word = s.rd
      CUR_WDT_CTL.PERIOD_MS
    ∃ t, exec (.watchdogKick m) s = .next t ∧ (¬ same → t.out = [.curator 0 stRefused rsnField] ∧ OnlyRegs s t ∧ RegsBut [] s t)
      ∧ (same → t.out = [.curator 0 stOk rsnNone] ∧ RegsBut [CUR_WDT_STATUS.word.off] s t ∧ OnlyRegs { s with cur := t.cur } t)
      ∧ (same → m.word.getLsbD 31 = true → s.rd CUR_WDT_STATUS.ARMED = 1 → t.cur =
        { s.cur with wdtEnd := s.now + max 1 (s.rd CUR_WDT_CTL.PERIOD_MS) * 1000000 } ∧ t.rd CUR_WDT_STATUS.REMAIN = max 1 (s.rd
        CUR_WDT_CTL.PERIOD_MS) * 10))
  ∧ (∀ (s : State) (m : MgWrite),
    Admits s CUR_WDT_CTL.word.off m.src →
    m.src ≠ .curator →
    ∃ t, exec (.watchdogKick m) s = .next t ∧ (m.word.getLsbD 31 = true → t.out = [answerOut m.src stRefused rsnField 0] ∧ RegsBut [] s
    t)
      ∧ (m.word.getLsbD 31 = false → t.out = [answerOut m.src stOk rsnNone 0] ∧ t.rd CUR_WDT_CTL.LIMIT = fieldGet CUR_WDT_CTL.LIMIT
        m.word ∧ t.rd CUR_WDT_CTL.PERIOD_MS = fieldGet CUR_WDT_CTL.PERIOD_MS m.word)
      ∧ OnlyRegs s t
      ∧ RegsBut [CUR_WDT_CTL.word.off] s t)
  ∧ (∀ (s : State) (cause : WdtCause),
    cause = .sramUe ∨ s.rd CUR_WDT_STATUS.ARMED = 1 →
    let n := min (s.rd CUR_WDT_STATUS.EXPIRIES + 1) 255
    let again := n < max 1 (s.rd CUR_WDT_CTL.LIMIT) ∧ s.rd CUR_WDT_STATUS.HELD = 0
    ∃ t, exec (.watchdogExpire cause) s = .next t ∧ t.rd CUR_WDT_STATUS.EXPIRIES = n
      ∧ t.rd CUR_WDT_STATUS.ARMED = 0
      ∧ (s.rd ERR_STATUS.PEND ||| 2 ^ 11) = t.rd ERR_STATUS.PEND
      ∧ (again → t.cur.stage = 1 ∧ t.rd CUR_FW_STATUS.STATE = 0 ∧ t.rd CUR_FW_STATUS.ATTEMPT = 0 ∧ t.rd CUR_WDT_STATUS.HELD = 0)
      ∧ (¬ again → t.cur.stage = 0 ∧ t.rd CUR_FW_STATUS.STATE = 4 ∧ t.rd CUR_WDT_STATUS.HELD = 1)
      ∧ t.cur = { s.cur with stage := t.cur.stage }
      ∧ t.out = []
      ∧ OnlyRegs { s with front := { s.front with curLane := [] }, cur := t.cur, err := t.err } t
      ∧ RegsBut ([CUR_WDT_STATUS.word.off, CUR_FW_STATUS.word.off, CUR_FW_CTL.word.off, CUR_MBX_DB.word.off] ++ faultRegs 11) s t)
  ∧ (∀ (s : State),
    s.rd CUR_WDT_STATUS.ARMED = 0 →
    ∃ t, exec (.watchdogExpire .expiry) s = .next t ∧ t.out = []
      ∧ OnlyRegs s t
      ∧ RegsBut [] s t)
  ∧ (∀ (s : State) (m : MgWrite),
    Admits s CUR_WDT_STATUS.word.off m.src →
    let act := m.word.getLsbD 30 = true ∧ s.rd CUR_WDT_STATUS.HELD = 1
    ∃ t, exec (.watchdogHeldClear m) s = .next t ∧ (act → t.rd CUR_WDT_STATUS.HELD = 0 ∧ t.rd CUR_WDT_STATUS.EXPIRIES = 0 ∧ t.cur =
      { s.cur with stage := 1 } ∧ t.rd CUR_FW_STATUS.STATE = 0)
      ∧ (¬ act → t.cur = s.cur ∧ RegsBut [] s t)
      ∧ t.out = [answerOut m.src stOk rsnNone 0]
      ∧ OnlyRegs { s with front := { s.front with curLane := t.front.curLane }, cur := t.cur } t
      ∧ RegsBut [CUR_WDT_STATUS.word.off, CUR_FW_STATUS.word.off, CUR_FW_CTL.word.off, CUR_MBX_DB.word.off] s t)

/-- CROSSING_ENTRY_TRANSFER on a front to bank lane moves its oldest job to the end of the bank's queue and changes nothing else; on a
  front to Ledger lane it moves the oldest operation to the end of its unit's queue; on a counted lane it takes one entry; on the
  Curator's lane it takes the oldest write, which is refused and changes nothing where the Curator may not write. LANE_STALL of a bank
  pair's lane sets the pair's BP_STALL bit and the pending bit of class 2 and retires every bank of the pair; of a Ledger or night-latch
  lane it puts the slice in the failed state and deasserts its live output; of a Curator lane it sets CUR_STALL and counts an expiry. -/
def Obligations.CrossingsAndStalls : Prop :=
  (∀ (s : State) (p : BitVec 4) (l : Bool),
    let k := laneKey p.toNat l
    ∃ t, exec (.crossingEntryTransfer (.frontToBank p l)) s = .next t ∧ (s.jobs k ≠ [] → t.jobs k = (s.jobs k).tail ∧ t.bankJobs k =
      s.bankJobs k ++ (s.jobs k).take 1)
      ∧ (s.jobs k = [] → t.front = s.front)
      ∧ (∀ j : Nat, j < 18 → j ≠ k → t.jobs j = s.jobs j ∧ t.bankJobs j = s.bankJobs j)
      ∧ t.out = []
      ∧ OnlyRegs { s with front := { s.front with f2b := t.front.f2b, atBank := t.front.atBank } } t
      ∧ RegsBut [] s t)
  ∧ (∀ (s : State) (k : BitVec 2),
    s.ldgLane k.toNat ≠ [] →
    ∃ t, exec (.crossingEntryTransfer (.frontToLedger k)) s = .next t ∧ t.ldgUnit k.toNat = s.ldgUnit k.toNat ++ (s.ldgLane k.toNat).take
      1
      ∧ (s.ldgLane k.toNat).tail <+: t.ldgLane k.toNat
      ∧ t.ldg.rows = s.ldg.rows
      ∧ t.stk = s.stk)
  ∧ (∀ (s : State),
    ∃ t, exec (.crossingEntryTransfer .nightToFront) s = .next t ∧ t.lane' (nightKey false) = s.lane' (nightKey false) - 1
      ∧ t.out = []
      ∧ OnlyRegs { s with front := { s.front with lanes := t.front.lanes } } t
      ∧ RegsBut [] s t)
  ∧ (∀ (s : State),
    ∃ t, exec (.crossingEntryTransfer .curatorToFront) s = .next t ∧ (s.front.curLane = [] → t.out = [])
      ∧ (∀ e, s.front.curLane.head? = some e → curatorMay e.1 = false → t.out = [.curator 0 stRefused rsnField])
      ∧ t.front.curLane = s.front.curLane.tail
      ∧ (∀ e, s.front.curLane.head? = some e → curatorMay e.1 = false → OnlyRegs { s with front := t.front } t ∧ RegsBut [] s t))
  ∧ (∀ (s : State) (i : Instr) (k : BitVec 4) (l : Bool),
    i = .laneStall (.frontToBank k l) ∨ i = .laneStall (.bankToFront k l) →
    k.toNat = 8 ∨ k.toNat < s.nb / 2 →
    ∃ t, exec i s = .next t ∧ (t.rd SLC_ISLAND_STATUS.BP_STALL).testBit k.toNat = true
      ∧ (t.rd ERR_STATUS.PEND).testBit 2 = true
      ∧ (∀ b : Nat, b < 17 → s.pairOf b = k.toNat → b ≤ s.spare → t.isRetired b = true)
      ∧ t.ldg = s.ldg)
  ∧ (∀ (s : State) (i : Instr) (k : BitVec 2),
    i = .laneStall (.frontToLedger k) ∨ i = .laneStall (.ledgerToFront k) →
    ∃ t, exec i s = .next t ∧ t.rd SLC_ISLAND_STATUS.LDG_STALL = 1
      ∧ t.front.failed = true
      ∧ (s.front.failed = false → t.pins.selfLive = false)
      ∧ t.stk = s.stk
      ∧ t.ldg = s.ldg)
  ∧ (∀ (s : State) (i : Instr),
    i = .laneStall .frontToNight ∨ i = .laneStall .nightToFront →
    ∃ t, exec i s = .next t ∧ t.rd SLC_ISLAND_STATUS.NL_STALL = 1
      ∧ t.front.failed = true
      ∧ (s.front.failed = false → t.pins.selfLive = false)
      ∧ t.stk = s.stk
      ∧ t.ldg = s.ldg)
  ∧ (∀ (s : State) (i : Instr),
    i = .laneStall .frontToCurator ∨ i = .laneStall .curatorToFront →
    ∃ t, exec i s = .next t ∧ t.rd SLC_ISLAND_STATUS.CUR_STALL = 1
      ∧ t.rd CUR_WDT_STATUS.EXPIRIES = min (s.rd CUR_WDT_STATUS.EXPIRIES + 1) 255
      ∧ (t.rd ERR_STATUS.PEND).testBit 2 = true
      ∧ (t.rd ERR_STATUS.PEND).testBit 11 = true
      ∧ t.front = { s.front with curLane := [] })

/-- A write of LNK_INJ_CTL of a link of the build with a MODE of 0 to 4 holds its fields; with EN the injector's count is 0 and its
  feedback register SEED, and the message it holds stays. A MODE above 4 is refused and changes nothing. When no other eligible message
  follows in time the held one is released and counted in MISS; with none held nothing changes. -/
def Obligations.FaultInjectors : Prop :=
  (∀ (s : State) (n : BitVec 3) (m : MgWrite),
    Admits s (LNK_INJ_CTL.word.off + 32 * n.toNat) m.src →
    let good := fieldGet LNK_INJ_CTL.MODE m.word ≤ 4 ∧ (s.s64 = false ∨ (n.toNat ≠ 2 ∧ n.toNat ≠ 3))
    ∃ t, exec (.injectorArm n m) s = .next t ∧ (¬ good → t.out = [answerOut m.src stRefused rsnField 0] ∧ OnlyRegs s t ∧ RegsBut [] s t)
      ∧ (good → t.out = [answerOut m.src stOk rsnNone 0] ∧ t.rdI LNK_INJ_CTL.EN n.toNat = fieldGet LNK_INJ_CTL.EN m.word ∧ t.rdI
        LNK_INJ_CTL.MODE n.toNat = fieldGet LNK_INJ_CTL.MODE m.word ∧ t.rdI LNK_INJ_CTL.MASK n.toNat = fieldGet LNK_INJ_CTL.MASK m.word)
      ∧ (good → m.word.getLsbD 31 = true → t.injector n.toNat = ⟨0, s.word (LNK_INJ_SEED.SEED.off + 32 * n.toNat), (s.injector
        n.toNat).held⟩)
      ∧ (good → m.word.getLsbD 31 = false → t.front = s.front)
      ∧ OnlyRegs { s with front := { s.front with inject := t.front.inject } } t
      ∧ RegsBut [LNK_INJ_CTL.word.off + 32 * n.toNat] s t)
  ∧ (∀ (s : State) (n : BitVec 3),
    ∃ t, exec (.reorderTimeout n) s = .next t ∧ ((s.injector n.toNat).held = none → OnlyRegs s t ∧ RegsBut [] s t ∧ t.out = [])
      ∧ ((s.injector n.toNat).held ≠ none → (t.injector n.toNat).held = none ∧ t.rdI LNK_INJ_MISS.COUNT n.toNat = min (s.rdI
        LNK_INJ_MISS.COUNT n.toNat + 1) (2 ^ LNK_INJ_MISS.COUNT.w - 1)))

/-- An accepted read of a line of the slice's own share that is resident CLEAN or DIRTY reads the line from its bank and sends it to the
  requester. Without a Catalogue entry, RD_S leaves the requester in a new entry, EXC with E_GRANT and SHR as forwarder without it, or
  the whole group of a multicast read as SHR; RD_X and UPG leave EXC; RD_ONCE and RD_LAST leave none; RD_LAST turns the line DEAD and
  keeps its poison. No beat of data, no other sector's tag word, no other entry and no transaction changes. -/
def Obligations.ReadsServedAtHome : Prop :=
  (∀ (s : State) (r : Req) (w : Nat) (e : Nat),
    s.lookup r.line = some w →
    s.catVictim (s.catSet r.line) = some e →
    let k := s.jobLane (s.serving (lineSet r.line) w) false
    let one := agentBit r.who.id.toNat
    Accepted s (.rdS r) r →
    HomeHit s r.line w →
    s.catFind r.line = none →
    (s.cat (s.catSet r.line) e).st = .free →
    ∃ t, exec (.rdS r) s = .next t ∧ (t.cat (s.catSet r.line) e = (if r.mcg ≠ 0 then ⟨.shr, false, true, r.who.id, s.group r ||| one,
      r.line, .ok⟩ else if s.flag CAT_CTL.E_GRANT = true then ⟨.exc, false, false, r.who.id, one, r.line, .ok⟩ else ⟨.shr, false, true,
      r.who.id, one, r.line, .ok⟩))
      ∧ (t.jobs k = s.jobs k ++ [s.readOf r.line w (.send (if r.mcg ≠ 0 then readMsg r 3 true else if s.flag CAT_CTL.E_GRANT = true then
        datMsg r 0 true else datMsg r 2 true))])
      ∧ (∀ j : Nat, j < 18 → j ≠ k → t.jobs j = s.jobs j)
      ∧ t.stk.beats = s.stk.beats
      ∧ TabBut TagW.empty [32 * lineSet r.line + w] s.stk.tags t.stk.tags
      ∧ t.tag (lineSet r.line) w = { s.tag (lineSet r.line) w with pf := false }
      ∧ TabBut CatEnt.empty [16 * s.catSet r.line + e] s.coh.cat t.coh.cat
      ∧ t.coh.txns = s.coh.txns
      ∧ OnlyRegs { s with front := t.front, stk := t.stk, coh := t.coh, place := t.place, ord := t.ord, err := t.err } t
      ∧ RegsBut (reqRegs r) s t)
  ∧ (∀ (s : State) (i : Instr) (r : Req) (w : Nat) (e : Nat),
    i = .rdX r ∨ i = .upg r →
    s.lookup r.line = some w →
    s.catVictim (s.catSet r.line) = some e →
    let k := s.jobLane (s.serving (lineSet r.line) w) false
    Accepted s i r →
    HomeHit s r.line w →
    s.catFind r.line = none →
    (s.cat (s.catSet r.line) e).st = .free →
    ∃ t, exec i s = .next t ∧ t.cat (s.catSet r.line) e = ⟨.exc, false, false, r.who.id, agentBit r.who.id.toNat, r.line, .ok⟩
      ∧ t.jobs k = s.jobs k ++ [s.readOf r.line w (.send (datMsg r 0 true))]
      ∧ (∀ j : Nat, j < 18 → j ≠ k → t.jobs j = s.jobs j)
      ∧ t.stk.beats = s.stk.beats
      ∧ TabBut TagW.empty [32 * lineSet r.line + w] s.stk.tags t.stk.tags
      ∧ t.tag (lineSet r.line) w = { s.tag (lineSet r.line) w with pf := false }
      ∧ TabBut CatEnt.empty [16 * s.catSet r.line + e] s.coh.cat t.coh.cat
      ∧ t.coh.txns = s.coh.txns
      ∧ OnlyRegs { s with front := t.front, stk := t.stk, coh := t.coh, place := t.place, ord := t.ord, err := t.err } t
      ∧ RegsBut (reqRegs r) s t)
  ∧ (∀ (s : State) (i : Instr) (r : Req) (w : Nat),
    i = .rdOnce r ∨ i = .rdLast r →
    s.lookup r.line = some w →
    let k := s.jobLane (s.serving (lineSet r.line) w) false
    Accepted s i r →
    HomeHit s r.line w →
    s.catFind r.line = none →
    ∃ t, exec i s = .next t ∧ t.coh.cat = s.coh.cat
      ∧ (t.jobs k = s.jobs k ++ [s.readOf r.line w (.send (if i = .rdOnce r then readMsg r 4 false else datMsg r 4 false))])
      ∧ (∀ j : Nat, j < 18 → j ≠ k → t.jobs j = s.jobs j)
      ∧ t.stk.beats = s.stk.beats
      ∧ TabBut TagW.empty [32 * lineSet r.line + w] s.stk.tags t.stk.tags
      ∧ (i = .rdOnce r → t.tag (lineSet r.line) w = { s.tag (lineSet r.line) w with pf := false })
      ∧ (i = .rdLast r → t.tag (lineSet r.line) w =
        { (s.tag (lineSet r.line) w).put (lineBit r.line) .dead (s.lineP r.line) with pf := false })
      ∧ t.coh.txns = s.coh.txns
      ∧ (i = .rdOnce r ∨ s.mirrors r.line = false → OnlyRegs
        { s with front := t.front, stk := t.stk, coh := t.coh, place := t.place, ord := t.ord, err := t.err } t ∧ RegsBut (reqRegs r) s
        t)
      ∧ (i = .rdLast r → s.mirAcross = false → Uninjected s 6 → OnlyRegs
        { s with front := t.front, stk := t.stk, coh := t.coh, place := t.place, ord := t.ord, err := t.err, mir := t.mir } t ∧ RegsBut
        (MIR_TX.word.off :: reqRegs r) s t))

/-- An accepted read of a line whose Catalogue entry names another agent as its owner, and RD_S, RD_X or UPG of a shared line with
  another agent as its forwarder, sends the forward of its row of R117 to that agent and puts the line's entry BUSY, with a transaction
  that awaits the answers; RD_LAST recalls the line from every holder. An upgrade of a shared line invalidates every other holder, or is
  granted at once when there is none. The rest of the Catalogue, every tag word and all data stay. -/
def Obligations.ReadsSnoopTheHolder : Prop :=
  (∀ (s : State) (i : Instr) (r : Req) (e : Nat) (k : Nat),
    i = .rdS r ∨ i = .rdX r ∨ i = .upg r ∨ i = .rdOnce r ∨ i = .rdLast r →
    s.catFind r.line = some e →
    let c := s.cat (s.catSet r.line) e
    s.casementOf c.ptr.toNat = some k →
    let typ := if i = .rdS r then (if r.mcg = 0 then 0 else 4) else if i = .rdX r ∨ i = .upg r then 1 else if i = .rdOnce r then (if
      r.mcg = 0 then 2 else 6) else 4
    let mode := if typ = 4 then TxnMode.recall else if typ = 0 then .fwdS else if typ = 1 then .fwdX else .fwdOnce
    Accepted s i r →
    Route s c.ptr.toNat k →
    c.st = .exc →
    c.vec &&& s.lostAgents = 0 →
    r.who.kind = .agent → c.ptr ≠ r.who.id →
    ∃ t, exec i s = .next t ∧ t.hands k (fwdMsg r typ c.ptr.toNat) = true
      ∧ t.cat (s.catSet r.line) e = { c with busy := true }
      ∧ (t.coh.txns = s.coh.txns ++ [if typ = 4 then { txnNew r.line mode (some i) (some 0) with acks := agentBit c.ptr.toNat } else
        { txnNew r.line mode (some i) (some 0) with fwd := some c.ptr }])
      ∧ TabBut CatEnt.empty [16 * s.catSet r.line + e] s.coh.cat t.coh.cat
      ∧ t.stk = s.stk
      ∧ t.front.f2b = s.front.f2b
      ∧ OnlyRegs { s with front := t.front, coh := t.coh, place := t.place, ord := t.ord, err := t.err } t
      ∧ RegsBut (CAT_STATUS.word.off :: reqRegs r) s t)
  ∧ (∀ (s : State) (i : Instr) (r : Req) (e : Nat) (k : Nat),
    i = .rdS r ∨ i = .rdX r ∨ i = .upg r →
    s.catFind r.line = some e →
    let c := s.cat (s.catSet r.line) e
    s.casementOf c.ptr.toNat = some k →
    let rest := c.vec &&& ~~~(agentBit r.who.id.toNat) &&& ~~~(agentBit c.ptr.toNat)
    Accepted s i r →
    Route s c.ptr.toNat k →
    c.st = .shr →
    c.fv = true →
    c.ptr ≠ r.who.id →
    r.mcg = 0 →
    c.vec &&& s.lostAgents = 0 →
    i = .upg r → c.vec.getLsbD r.who.id.toNat = false →
    ∃ t, exec i s = .next t ∧ (t.hands k (fwdMsg r (if i = .rdS r then 0 else 1) c.ptr.toNat) = true)
      ∧ (i ≠ .rdS r → ∀ a : Nat, a < 32 → rest.getLsbD a = true → ∀ b : Nat, s.casementOf a = some b → s.flagI LNK_INJ_CTL.EN b = false →
        t.hands b (fwdMsg r 3 a) = true)
      ∧ t.cat (s.catSet r.line) e = { c with busy := true }
      ∧ (t.coh.txns = s.coh.txns ++ [if i = .rdS r then { txnNew r.line .fwdS (some i) (some 0) with fwd := some c.ptr } else
        { txnNew r.line .fwdX (some i) (some 0) with fwd := some c.ptr, acks := rest }])
      ∧ TabBut CatEnt.empty [16 * s.catSet r.line + e] s.coh.cat t.coh.cat
      ∧ t.stk = s.stk
      ∧ t.front.f2b = s.front.f2b
      ∧ OnlyRegs { s with front := t.front, coh := t.coh, place := t.place, ord := t.ord, err := t.err } t
      ∧ RegsBut (CAT_STATUS.word.off :: reqRegs r) s t)
  ∧ (∀ (s : State) (r : Req) (e : Nat),
    s.catFind r.line = some e →
    let c := s.cat (s.catSet r.line) e
    let others := c.vec &&& ~~~(agentBit r.who.id.toNat)
    Accepted s (.upg r) r →
    c.st = .shr →
    c.vec.getLsbD r.who.id.toNat = true →
    c.vec &&& s.lostAgents = 0 →
    ∃ t, exec (.upg r) s = .next t ∧ (others ≠ 0 → t.coh.txns = s.coh.txns ++
      [{ txnNew r.line .upg (some (.upg r)) (some 0) with acks := others }] ∧ t.cat (s.catSet r.line) e = { c with busy := true })
      ∧ (others ≠ 0 → ∀ a : Nat, a < 32 → others.getLsbD a = true → ∀ b : Nat, s.casementOf a = some b → s.flagI LNK_INJ_CTL.EN b = false
        → t.hands b (fwdMsg r 3 a) = true)
      ∧ (others = 0 → t.coh.txns = s.coh.txns ∧ t.cat (s.catSet r.line) e = ⟨.exc, false, false, r.who.id, agentBit r.who.id.toNat,
        r.line, .ok⟩)
      ∧ (others = 0 → ∀ b : Nat, s.casementOf r.who.id.toNat = some b → s.flagI LNK_INJ_CTL.EN b = false → t.hands b
        { cmpMsg r stOk with typ := 4 } = true)
      ∧ TabBut CatEnt.empty [16 * s.catSet r.line + e] s.coh.cat t.coh.cat
      ∧ t.stk = s.stk
      ∧ OnlyRegs { s with front := t.front, coh := t.coh, place := t.place, ord := t.ord, err := t.err } t
      ∧ RegsBut (CAT_STATUS.word.off :: reqRegs r) s t)

/-- An accepted read of a line of the slice's own share that is not resident and that no agent holds issues one read at the line's
  sub-port, with a TAG that no outstanding command of the sub-port uses, and the line's data go to the requester when they arrive.
  RD_LAST and a read in a NOALLOC window allocate nothing; every other read takes the line's way of R74, in which the line stands CLEAN
  until its data come. Tag words of other ways stay. -/
def Obligations.ReadsMissToMemory : Prop :=
  (∀ (s : State) (i : Instr) (r : Req),
    i = .rdOnce r ∨ i = .rdLast r →
    let alloc := i = .rdOnce r ∧ s.noAlloc r.line = false
    let m := if i = .rdOnce r then readMsg r 4 false else datMsg r 4 false
    Accepted s i r →
    HomeMiss s r.line →
    s.catFind r.line = none →
    s.flagI LNK_INJ_CTL.EN 4 = false →
    s.stk.farReads.length + s.stk.farWrites.length < 2000 →
    ∃ t, exec i s = .next t ∧ t.stk.farReads.dropLast = s.stk.farReads
      ∧ (∀ x : FarRead, t.stk.farReads.getLast? = some x → x = ⟨s.subOf r.line, x.tag, r.line, if alloc then (s.wayFor r.line).map (fun w
        => (lineSet r.line, w)) else none, false, [.send m]⟩ ∧ Out.farRead x.sub x.tag r.line ∈ t.out ∧ (∀ y : FarRead, y ∈
        s.stk.farReads → y.sub = x.sub → y.tag ≠ x.tag) ∧ (∀ y : FarWrite, y ∈ s.stk.farWrites → y.sub = x.sub → y.tag ≠ x.tag))
      ∧ t.stk.farReads ≠ s.stk.farReads
      ∧ (alloc → t.lineSt r.line = .clean)
      ∧ (∀ w : Nat, s.wayFor r.line = some w → TabBut TagW.empty [32 * lineSet r.line + w] s.stk.tags t.stk.tags)
      ∧ (¬ alloc → t.stk.tags = s.stk.tags)
      ∧ t.coh.cat = s.coh.cat
      ∧ t.coh.txns = s.coh.txns
      ∧ t.ldg = s.ldg
      ∧ (s.rd MIR_STATUS.STATE ∉ [2, 4, 5] → RegsBut (ALT_SPILL.word.off :: reqRegs r) s t))
  ∧ (∀ (s : State) (i : Instr) (r : Req) (e : Nat),
    i = .rdS r ∨ i = .rdX r ∨ i = .upg r →
    s.catVictim (s.catSet r.line) = some e →
    let grant := (i = .rdS r ∧ r.mcg = 0 ∧ s.flag CAT_CTL.E_GRANT = true) ∨ i ≠ .rdS r
    let m := if i = .rdS r ∧ r.mcg ≠ 0 then readMsg r 3 true else if grant then datMsg r 0 true else datMsg r 2 true
    let fill := if s.noAlloc r.line then none else (s.wayFor r.line).map (fun w => (lineSet r.line, w))
    Accepted s i r →
    HomeMiss s r.line →
    s.catFind r.line = none →
    (s.cat (s.catSet r.line) e).st = .free →
    ∃ t, exec i s = .next t ∧ t.stk.farReads.dropLast = s.stk.farReads
      ∧ t.stk.farReads ≠ s.stk.farReads
      ∧ (∀ x : FarRead, t.stk.farReads.getLast? = some x → x = ⟨s.subOf r.line, x.tag, r.line, fill, false, [.send m]⟩)
      ∧ ((t.cat (s.catSet r.line) e).st = (if grant then .exc else .shr))
      ∧ (t.cat (s.catSet r.line) e).line = r.line
      ∧ (t.cat (s.catSet r.line) e).ptr = r.who.id
      ∧ TabBut CatEnt.empty [16 * s.catSet r.line + e] s.coh.cat t.coh.cat
      ∧ t.coh.txns = s.coh.txns
      ∧ t.ldg = s.ldg
      ∧ (s.rd MIR_STATUS.STATE ∉ [2, 4, 5] → RegsBut (ALT_SPILL.word.off :: reqRegs r) s t))

/-- Data for an outstanding read end it; a requester that waits alone gets the line, POISON when the answer's status is not OK, and the
  bank of a CLEAN line takes it. A write response ends its write, completes what it stands for (the Reshelver's write-back, the
  NODE-scope write at its ack point, the partner's evicted copy) and lets a waiting write go. Data or a response that no outstanding
  command of the sub-port names change nothing but the fault log's FAR_STRAY event of class 10. Credits are added to those in hand; in
  S64 sub-port 1 has none. -/
def Obligations.FarPortAnswers : Prop :=
  (∀ (s : State) (sub : Bool) (tag : BitVec 11) (status : BitVec 4) (d : LineData),
    s.stk.farReads.any (fun x => x.sub = sub && x.tag = tag) = false →
    ∃ t, exec (.farReadData sub tag status d) s = .next t ∧ t.out = []
      ∧ OnlyRegs { s with err := t.err } t
      ∧ RegsBut (faultRegs 10) s t
      ∧ t.rdI ERR_CNT.COUNT 10 = min (s.rdI ERR_CNT.COUNT 10 + 1) (2 ^ ERR_CNT.COUNT.w - 1))
  ∧ (∀ (s : State) (sub : Bool) (tag : BitVec 11) (status : BitVec 4),
    s.stk.farWrites.any (fun x => x.sub = sub && x.tag = tag) = false →
    ∃ t, exec (.farWriteResponse sub tag status) s = .next t ∧ t.out = []
      ∧ OnlyRegs { s with err := t.err } t
      ∧ RegsBut (faultRegs 10) s t
      ∧ t.rdI ERR_CNT.COUNT 10 = min (s.rdI ERR_CNT.COUNT 10 + 1) (2 ^ ERR_CNT.COUNT.w - 1))
  ∧ (∀ (s : State) (sub : Bool) (tag : BitVec 11) (status : BitVec 4) (d : LineData) (x : FarRead) (m : Msg) (c : Nat),
    s.stk.farReads.find? (fun x => x.sub = sub && x.tag = tag) = some x →
    x.acts = [.send m] →
    m.hold = none →
    s.ownPorter m.who = false →
    s.casementOf (routeKey m.who) = some c →
    Route s (routeKey m.who) c →
    ∃ t, exec (.farReadData sub tag status d) s = .next t ∧ t.hands c (m.withLine d (status ≠ 0)) = true
      ∧ t.stk.farReads = s.stk.farReads.erase x
      ∧ (x.fill = none → t.stk.tags = s.stk.tags ∧ t.stk.beats = s.stk.beats)
      ∧ (∀ p : Nat × Nat, x.fill = some p → ((s.tag p.1 p.2).isInv = false ∧ (s.tag p.1 p.2).sector = granule x.line ∧ s.atomLine x.line
        = none ∧ (s.tag p.1 p.2).st (lineBit x.line) = .clean ∧ s.serving p.1 p.2 ∈ s.writeBanks p.1 p.2) → t.lineData p.1 p.2 (lineBit
        x.line) = d ∧ t.tag p.1 p.2 = (s.tag p.1 p.2).put (lineBit x.line) .clean ((s.tag p.1 p.2).p (lineBit x.line) || status ≠ 0))
      ∧ t.coh = s.coh
      ∧ t.stk.farWrites = s.stk.farWrites)
  ∧ (∀ (s : State) (sub : Bool) (tag : BitVec 11) (status : BitVec 4) (x : FarWrite),
    s.stk.farWrites.find? (fun x => x.sub = sub && x.tag = tag) = some x →
    s.stk.farQ = [] →
    ∃ t, exec (.farWriteResponse sub tag status) s = .next t ∧ t.stk = { s.stk with farWrites := s.stk.farWrites.erase x }
      ∧ (x.why = .reshelver → t.place.unacked = s.place.unacked - 1)
      ∧ (x.why = .evicted → t.mir.evicted = s.mir.evicted.erase x.line)
      ∧ (∀ w : PendW, w ∈ s.ord.writes → x.why = .node w.id → w.far = true → w.exec = false → w.txn = false → w.mir = false → w ∉
        t.ord.writes)
      ∧ t.coh = s.coh)
  ∧ (∀ (s : State) (sub write : Bool) (n : BitVec 6),
    ∃ t, exec (.farCredit sub write n) s = .next t ∧ (s.s64 = true ∧ sub = true → t.stk = s.stk)
      ∧ (s.stk.farQ = [] → ¬ (s.s64 = true ∧ sub = true) → t.farCredit sub write = s.farCredit sub write + n.toNat ∧ (∀ b c : Bool, b ≠
        sub ∨ c ≠ write → t.farCredit b c = s.farCredit b c))
      ∧ (∀ w : FarWrite, s.stk.farQ.head? = some w → (s.stk.farQ = [w] ∧ w.sub = sub ∧ write = true ∧ n ≠ 0 ∧ ¬ (s.s64 = true ∧ sub =
        true) ∧ (s.stk.farWrites.filter (fun x => x.sub = sub)).length < 64) → t.stk.farQ = [] ∧ t.stk.farWrites.map (fun x => (x.line,
        x.data, x.psn)) = s.stk.farWrites.map (fun x => (x.line, x.data, x.psn)) ++ [(w.line, w.data, w.psn)])
      ∧ t.coh = s.coh
      ∧ t.stk.beats = s.stk.beats)

/-- An accepted WR_LINE or WR_PART of a line of the slice's own share that is resident and that no agent holds leaves the line DIRTY with
  the written data, poisoned for a poisoned write, for WR_PART in the enabled bytes alone and poisoned as before besides; a write of NODE
  scope also goes to memory and leaves the line CLEAN. Seals that cover the line are opened. A write of a scope below NODE outside a
  mirroring pair is answered OK at once unless NOACK suppresses it. Other beats, other sectors, the Catalogue and the transactions stay.
  -/
def Obligations.WritesAtHome : Prop :=
  ∀ (s : State) (i : Instr) (r : Req) (be : BitVec 128) (d : LineData) (w : Nat),
    i = .wrLine r d ∨ i = .wrPart r be d →
    s.lookup r.line = some w →
    let set := lineSet r.line
    let bit := lineBit r.line
    Accepted s i r →
    HomeHit s r.line w →
    s.catFind r.line = none →
    s.serving set w ∈ s.writeBanks set w →
    ∃ t, exec i s = .next t ∧ (t.lineData set w bit = (if i = .wrLine r d then d else mergeBytes be d (s.lineData set w bit)))
      ∧ ((t.tag set w).st bit = (if r.scope = 3 then .clean else .dirty))
      ∧ ((t.tag set w).p bit = (if i = .wrLine r d then r.psn else (s.lineP r.line || r.psn)))
      ∧ (t.tag set w).st (!bit) = (s.tag set w).st (!bit)
      ∧ TabBut 0 (s.lineKeys set w bit) s.stk.beats t.stk.beats
      ∧ TabBut TagW.empty [32 * set + w] s.stk.tags t.stk.tags
      ∧ (∀ c : Nat, s.casementOf (routeKey r.who) = some c → (s.flagI LNK_INJ_CTL.EN c = false ∧ s.pairOn = false ∧ r.scope ≠ 3 ∧ r.noack
        = false ∧ s.ownPorter r.who = false) → t.hands c (cmpMsg r stOk) = true)
      ∧ (∀ n, n ∈ s.sealedBy r.line → t.flagI SHT_ENT_CTL.SEALED n = false)
      ∧ t.coh.cat = s.coh.cat
      ∧ t.coh.txns = s.coh.txns
      ∧ (s.pairOn = false → OnlyRegs
        { s with front := t.front, stk := t.stk, coh := t.coh, place := t.place, ord := t.ord, err := t.err, freeCtr := t.freeCtr } t)
      ∧ (s.pairOn = false → s.flagI LNK_INJ_CTL.EN 4 = false → RegsBut ((s.sealedBy r.line).map (fun n => SHT_ENT_CTL.word.off + 8 * n)
        ++ reqRegs r) s t)

/-- An accepted ATOM of a line of the slice's own share that no agent holds and that the atomic unit holds is performed there at once:
  the unit holds the line with the operation's result, the line is DIRTY, and its answer carries the old value; at a scope below NODE
  outside a mirroring pair it leaves at once. When the line is resident in the array and not poisoned, its data are read from their bank
  into the unit, and the atomic waits for them there. No beat of data, no other sector and no Catalogue entry changes. -/
def Obligations.AtomicsAtHome : Prop :=
  (∀ (s : State) (r : Req) (a : AtomOp) (u : AtomLine) (d : LineData),
    s.atomLine r.line = some u →
    u.data = some d →
    Accepted s (.atom r a) r →
    s.homesSelf r.line = true →
    s.isCatLost (s.catSet r.line) = false →
    s.catFind r.line = none →
    r.scope ≠ 3 →
    ∃ t, exec (.atom r a) s = .next t ∧ ((t.atomLine r.line).map (fun x => (x.data, x.acts)) = some (some (atomRun a d).2, []))
      ∧ (∀ w : Nat, s.lookup r.line = some w → t.lineSt r.line = .dirty)
      ∧ (∀ c : Nat, s.casementOf (routeKey r.who) = some c → (s.flagI LNK_INJ_CTL.EN c = false ∧ s.pairOn = false ∧ r.noack = false ∧
        s.ownPorter r.who = false) → t.hands c { datMsg r 8 false with body := .old (atomRun a d).1 } = true)
      ∧ t.stk.beats = s.stk.beats
      ∧ (∀ w : Nat, s.lookup r.line = some w → TabBut TagW.empty [32 * lineSet r.line + w] s.stk.tags t.stk.tags)
      ∧ t.coh.cat = s.coh.cat
      ∧ t.coh.txns = s.coh.txns
      ∧ (s.pairOn = false → RegsBut (CAT_ATOM_HOME.word.off :: reqRegs r) s t))
  ∧ (∀ (s : State) (r : Req) (a : AtomOp) (w : Nat),
    s.lookup r.line = some w →
    let k := s.jobLane (s.serving (lineSet r.line) w) false
    Accepted s (.atom r a) r →
    HomeHit s r.line w →
    s.catFind r.line = none →
    s.lineP r.line = false →
    s.coh.atoms.length < 32 →
    ∃ t, exec (.atom r a) s = .next t ∧ t.jobs k = s.jobs k ++ [s.readOf r.line w .unit]
      ∧ (t.coh.atoms = s.coh.atoms ++ [⟨r.line, none, .atomic s.ord.nextId a :: (if r.scope = 3 then [.through s.ord.nextId] else [])⟩])
      ∧ (∀ p : PendW, p ∈ t.ord.writes → p.id = s.ord.nextId → p ∉ s.ord.writes → p.exec = true ∧ p.r = r)
      ∧ t.stk.beats = s.stk.beats
      ∧ TabBut TagW.empty [32 * lineSet r.line + w] s.stk.tags t.stk.tags
      ∧ t.coh.cat = s.coh.cat
      ∧ t.coh.txns = s.coh.txns
      ∧ OnlyRegs { s with front := t.front, stk := t.stk, coh := t.coh, place := t.place, ord := t.ord, err := t.err } t
      ∧ RegsBut (CAT_ATOM_HOME.word.off :: reqRegs r) s t)

/-- An accepted EVICT removes the agent from the line's Catalogue entry, which is freed when no agent is left; an agent that the entry
  does not name changes nothing; while the line is BUSY its transaction notes the eviction. It is never answered, and no data or tag word
  changes. An accepted RANGE enters the Reshelver's queue with its operation, range and index; with 8 commands there it is answered
  NACK_RETRY. -/
def Obligations.EvictionsAndRange : Prop :=
  (∀ (s : State) (r : Req),
    s.dozing = false →
    s.verdict (.evict r) r = none →
    s.preparing = false →
    WordsOk s r.line →
    ∃ t, exec (.evict r) s = .next t ∧ (∀ x : Txn, s.txn r.line = some x → (t.txn r.line).map (·.evicts) = some (x.evicts ||| agentBit
      r.who.id.toNat) ∧ t.coh.cat = s.coh.cat)
      ∧ (∀ e : Nat, s.catFind r.line = some e → (s.txn r.line = none ∧ (s.cat (s.catSet r.line) e).vec.getLsbD r.who.id.toNat = true) →
        t.cat (s.catSet r.line) e = (if (s.cat (s.catSet r.line) e).vec &&& ~~~(agentBit r.who.id.toNat) = 0 then CatEnt.empty else
        { s.cat (s.catSet r.line) e with vec := (s.cat (s.catSet r.line) e).vec &&& ~~~(agentBit r.who.id.toNat), fv := (s.cat (s.catSet r.line) e).fv && (s.cat (s.catSet r.line) e).ptr != r.who.id && (s.cat (s.catSet r.line) e).vec.getLsbD (s.cat (s.catSet r.line) e).ptr.toNat }))
      ∧ (∀ e : Nat, s.catFind r.line = some e → TabBut CatEnt.empty [16 * s.catSet r.line + e] s.coh.cat t.coh.cat)
      ∧ (s.catFind r.line = none → t.coh.cat = s.coh.cat)
      ∧ t.stk = s.stk
      ∧ t.ord = s.ord
      ∧ OnlyRegs { s with front := t.front, coh := t.coh } t
      ∧ RegsBut [bucketReg r] s t)
  ∧ (∀ (s : State) (r : Req) (c : RangeCmd),
    let cmd := RshCmd.mk c.op.toNat (granule r.line) c.size.toNat c.index.toNat (some r)
    s.dozing = false →
    s.parkedFor r.who = false →
    scopeBad (.range r c) r = false →
    r.who.kind = .agent → s.lostAgents.getLsbD r.who.id.toNat = false →
    r.noack = false →
    lineBit r.line = false →
    s.rshBad cmd = false →
    s.preparing = false →
    ∃ t, exec (.range r c) s = .next t ∧ (s.place.queue.length < 8 → t.place = { s.place with queue := s.place.queue ++ [cmd] } ∧ t.rd
      SHT_RSH_CTL.DEPTH = s.place.queue.length + 1)
      ∧ (8 ≤ s.place.queue.length → t.place = s.place ∧ (∀ k : Nat, s.casementOf (routeKey r.who) = some k → s.flagI LNK_INJ_CTL.EN k =
        false → s.ownPorter r.who = false → t.hands k (cmpMsg r stNack 0 2) = true))
      ∧ t.stk = s.stk
      ∧ t.coh = s.coh
      ∧ OnlyRegs { s with front := t.front, place := t.place } t
      ∧ RegsBut [bucketReg r, SHT_RSH_CTL.word.off, CAT_NACKS.word.off] s t)

/-- While a line's transaction awaits more than this one answer, an awaited ACK_INV or BINV_DATA takes the agent off the transaction's
  list, an awaited FWD_DONE ends the forward and awaits the copy when it says dirty, WB_COPY brings the awaited data, FWD_MISS notes that
  the forwarder holds nothing and awaits its write-back when it says so and none has come; the transaction takes exactly that. The last
  ACK_INV of an upgrade leaves the requester the only holder, EXC, clears BUSY and sends GRANT_X. WB of the owner, without a transaction,
  leaves the resident line DIRTY with its data, frees the entry and answers WB_ACK. -/
def Obligations.AgentAnswersAwaited : Prop :=
  (∀ (s : State) (i : Instr) (agent : BitVec 5) (line : LineAddr) (d : LineData) (psn : Bool) (x : Txn),
    i = .ackInv agent line ∨ i = .binvData agent line d psn →
    s.txn line = some x →
    x.acks.getLsbD agent.toNat = true →
    x.acks &&& ~~~(agentBit agent.toNat) ≠ 0 →
    ∃ t, exec i s = .next t ∧ (t.txn line = some
      { x with acks := x.acks &&& ~~~(agentBit agent.toNat), got := if i = .ackInv agent line then x.got else some (d, psn) })
      ∧ (∀ u, u ∈ s.coh.txns → u.line ≠ line → t.txn u.line = s.txn u.line)
      ∧ t.coh.cat = s.coh.cat
      ∧ t.stk = s.stk
      ∧ OnlyRegs { s with coh := t.coh, ord := t.ord, front := t.front } t
      ∧ RegsBut [LDG_ROW_DRAIN.word.off] s t)
  ∧ (∀ (s : State) (agent : BitVec 5) (line : LineAddr) (x : Txn) (r : Req) (e : Nat),
    s.txn line = some x →
    x.req = some (.upg r) →
    s.catFind line = some e →
    x.mode = .upg →
    x.acks = agentBit agent.toNat →
    x.fwd = none →
    x.copy = false →
    x.wbFrom = none →
    r.line = line →
    ∃ t, exec (.ackInv agent line) s = .next t ∧ t.cat (s.catSet line) e = ⟨.exc, false, false, r.who.id, agentBit r.who.id.toNat, line,
      .ok⟩
      ∧ t.txn line = none
      ∧ (∀ c : Nat, s.casementOf (routeKey r.who) = some c → s.flagI LNK_INJ_CTL.EN c = false → s.ownPorter r.who = false → t.hands c
        { cmpMsg r stOk with typ := 4 } = true)
      ∧ TabBut CatEnt.empty [16 * s.catSet line + e] s.coh.cat t.coh.cat
      ∧ t.stk = s.stk
      ∧ RegsBut [CAT_STATUS.word.off, LDG_ROW_DRAIN.word.off] s t)
  ∧ (∀ (s : State) (i : Instr) (agent : BitVec 5) (line : LineAddr) (b : Bool) (x : Txn),
    i = .fwdDone agent line b ∨ i = .fwdMiss agent line b →
    s.txn line = some x →
    let wait := b && !(x.evicts.getLsbD agent.toNat)
    x.fwd = some agent →
    x.acks ≠ 0 →
    ∃ t, exec i s = .next t ∧ (i = .fwdDone agent line b → t.txn line = some { x with fwd := none, copy := b && x.got.isNone })
      ∧ (i ≠ .fwdDone agent line b → t.txn line = some
        { x with fwd := none, missed := true, evicts := x.evicts ||| agentBit agent.toNat, wbFrom := if wait then some agent else x.wbFrom })
      ∧ (∀ u, u ∈ s.coh.txns → u.line ≠ line → t.txn u.line = s.txn u.line)
      ∧ t.coh.cat = s.coh.cat
      ∧ t.stk = s.stk
      ∧ RegsBut [LDG_ROW_DRAIN.word.off] s t)
  ∧ (∀ (s : State) (agent : BitVec 5) (line : LineAddr) (d : LineData) (psn : Bool) (x : Txn),
    s.txn line = some x →
    x.fwd = some agent →
    x.got = none →
    ∃ t, exec (.wbCopy agent line d psn) s = .next t ∧ t.txn line = some { x with got := some (d, psn), copy := false }
      ∧ (∀ u, u ∈ s.coh.txns → u.line ≠ line → t.txn u.line = s.txn u.line)
      ∧ t.coh.cat = s.coh.cat
      ∧ t.stk = s.stk
      ∧ RegsBut [LDG_ROW_DRAIN.word.off] s t)
  ∧ (∀ (s : State) (agent : BitVec 5) (tag : BitVec 11) (label : BitVec 3) (line : LineAddr) (d : LineData) (psn : Bool) (e : Nat) (w :
    Nat),
    s.catFind line = some e →
    s.lookup line = some w →
    s.txn line = none →
    s.ownerOf line = some agent →
    s.sealWalk line = false →
    s.atomLine line = none →
    s.dataPending line = false →
    s.serving (lineSet line) w ∈ s.writeBanks (lineSet line) w →
    ∃ t, exec (.wb agent tag label line d psn) s = .next t ∧ t.lineData (lineSet line) w (lineBit line) = d
      ∧ t.tag (lineSet line) w = (s.tag (lineSet line) w).put (lineBit line) .dirty psn
      ∧ t.cat (s.catSet line) e = CatEnt.empty
      ∧ TabBut CatEnt.empty [16 * s.catSet line + e] s.coh.cat t.coh.cat
      ∧ TabBut TagW.empty [32 * lineSet line + w] s.stk.tags t.stk.tags
      ∧ TabBut 0 (s.lineKeys (lineSet line) w (lineBit line)) s.stk.beats t.stk.beats
      ∧ (∀ c : Nat, s.casementOf agent.toNat = some c → s.flagI LNK_INJ_CTL.EN c = false → t.hands c
        { cls := 2, typ := 5, label := label, who := ⟨.agent, agent, 0⟩, tag := tag, line := line } = true)
      ∧ (s.pairOn = false → OnlyRegs { s with front := t.front, stk := t.stk, coh := t.coh, mir := t.mir } t ∧ RegsBut [] s t))

/-- ACK_INV, FWD_DONE, FWD_MISS, WB_COPY or BINV_DATA for a line that is not BUSY, and a WB of an agent that does not own a line that is
  not BUSY and lies in no seal walk, are one PROTOCOL event of class 3 and nothing else changes; the WB is answered WB_ACK. -/
def Obligations.AgentAnswersUnawaited : Prop :=
  (∀ (s : State) (i : Instr) (agent : BitVec 5) (line : LineAddr) (d : LineData) (b : Bool),
    i = .ackInv agent line ∨ i = .fwdDone agent line b ∨ i = .fwdMiss agent line b ∨ i = .wbCopy agent line d b ∨ i = .binvData agent
      line d b →
    s.txn line = none →
    ∃ t, exec i s = .next t ∧ t.out = []
      ∧ t.rdI ERR_CNT.COUNT 3 = min (s.rdI ERR_CNT.COUNT 3 + 1) (2 ^ ERR_CNT.COUNT.w - 1)
      ∧ OnlyRegs { s with err := t.err } t
      ∧ RegsBut (faultRegs 3) s t)
  ∧ (∀ (s : State) (agent : BitVec 5) (tag : BitVec 11) (label : BitVec 3) (line : LineAddr) (d : LineData) (b : Bool),
    s.txn line = none →
    s.ownerOf line ≠ some agent →
    s.sealWalk line = false →
    ∃ t, exec (.wb agent tag label line d b) s = .next t ∧ t.rdI ERR_CNT.COUNT 3 = min (s.rdI ERR_CNT.COUNT 3 + 1) (2 ^ ERR_CNT.COUNT.w -
      1)
      ∧ (∀ c : Nat, s.casementOf agent.toNat = some c → s.flagI LNK_INJ_CTL.EN c = false → t.hands c
        { cls := 2, typ := 5, label := label, who := ⟨.agent, agent, 0⟩, tag := tag, line := line } = true)
      ∧ (∀ c : Nat, s.casementOf agent.toNat = some c → s.flagI LNK_INJ_CTL.EN c = false → RegsBut (faultRegs 3) s t)
      ∧ OnlyRegs { s with err := t.err, front := t.front } t)

/-- FWD_TIMEOUT of an awaited agent sets its CAT_AGENT_LOST bit and is a fatal event of class 3; of an agent that is not awaited it
  changes nothing. ADOPTED_WB_TIMEOUT of an adopted line whose write-back is awaited ends that wait and adds an entry to the loss report.
  RESERVATION_EXPIRE removes the line's reservation once the line is not BUSY. ATOM_UNIT_RELEASE writes a held line's data into its way
  and empties the unit's place; a line that the unit does not hold, or whose data it awaits, stays. PRED_CLR clears every predictor
  counter and reads 0. -/
def Obligations.CoherenceTimers : Prop :=
  (∀ (s : State) (agent : BitVec 5) (line : LineAddr) (x : Txn),
    s.txn line = some x →
    x.fwd = some agent ∨ x.acks.getLsbD agent.toNat = true →
    ∃ t, exec (.fwdTimeout agent line) s = .next t ∧ (t.rd CAT_AGENT_LOST.AGENT).testBit agent.toNat = true
      ∧ (t.rd ERR_STATUS.PEND).testBit 3 = true
      ∧ t.ldg = s.ldg
      ∧ t.chn = s.chn)
  ∧ (∀ (s : State) (agent : BitVec 5) (line : LineAddr),
    ∀ x : Txn, s.txn line = some x → x.fwd ≠ some agent ∧ x.acks.getLsbD agent.toNat = false →
    ∃ t, exec (.fwdTimeout agent line) s = .next t ∧ t.out = []
      ∧ OnlyRegs s t
      ∧ RegsBut [] s t)
  ∧ (∀ (s : State) (line : LineAddr) (x : Txn),
    s.txn line = some x →
    s.adopted line = true →
    x.wbFrom.isSome = true →
    x.acks ≠ 0 →
    ∃ t, exec (.adoptedWbTimeout line) s = .next t ∧ t.txn line = some { x with wbFrom := none }
      ∧ (t.rd MIR_LOSS_CTL.COUNT = (if s.rd MIR_LOSS_CTL.COUNT < 128 then s.rd MIR_LOSS_CTL.COUNT + 1 else s.rd MIR_LOSS_CTL.COUNT))
      ∧ t.coh.cat = s.coh.cat)
  ∧ (∀ (s : State) (line : LineAddr),
    s.adopted line = false ∨ s.txn line = none →
    ∃ t, exec (.adoptedWbTimeout line) s = .next t ∧ t.out = []
      ∧ OnlyRegs s t
      ∧ RegsBut [] s t)
  ∧ (∀ (s : State) (line : LineAddr),
    ∃ t, exec (.reservationExpire line) s = .next t ∧ (s.txn line = none → t.coh =
      { s.coh with resv := s.coh.resv.filter (fun v => v.line != line) })
      ∧ ((s.txn line).isSome = true → t.coh = s.coh)
      ∧ t.out = []
      ∧ OnlyRegs { s with coh := t.coh } t
      ∧ RegsBut [] s t)
  ∧ (∀ (s : State) (line : LineAddr) (u : AtomLine) (d : LineData),
    s.atomLine line = some u →
    u.data = some d →
    ∃ t, exec (.atomUnitRelease line) s = .next t ∧ (t.coh = { s.coh with atoms := s.coh.atoms.filter (fun a => a.line != line) })
      ∧ (∀ w : Nat, s.lookup line = some w → s.serving (lineSet line) w ∈ s.writeBanks (lineSet line) w → t.lineData (lineSet line) w
        (lineBit line) = d)
      ∧ (∀ w : Nat, s.lookup line = some w → TabBut 0 (s.lineKeys (lineSet line) w (lineBit line)) s.stk.beats t.stk.beats)
      ∧ t.stk.tags = s.stk.tags
      ∧ OnlyRegs { s with front := t.front, stk := t.stk, coh := t.coh } t
      ∧ RegsBut [] s t)
  ∧ (∀ (s : State) (line : LineAddr),
    ∀ a : AtomLine, s.atomLine line = some a → a.data = none →
    ∃ t, exec (.atomUnitRelease line) s = .next t ∧ t.out = []
      ∧ OnlyRegs s t
      ∧ RegsBut [] s t)
  ∧ (∀ (s : State) (m : MgWrite),
    Admits s CAT_CTL.word.off m.src →
    ∃ t, exec (.predClr m) s = .next t ∧ (m.word.getLsbD 30 = true → t.coh = { s.coh with pred := [] })
      ∧ (m.word.getLsbD 30 = false → t.coh = s.coh)
      ∧ t.rd CAT_CTL.E_GRANT = fieldGet CAT_CTL.E_GRANT m.word
      ∧ t.rd CAT_CTL.DELEG_EN = fieldGet CAT_CTL.DELEG_EN m.word
      ∧ t.rd CAT_CTL.STARVE_N = fieldGet CAT_CTL.STARVE_N m.word
      ∧ t.word CAT_CTL.word.off &&& 0x40000000#32 = s.word CAT_CTL.word.off &&& 0x40000000#32
      ∧ t.out = [answerOut m.src stOk rsnNone 0]
      ∧ OnlyRegs { s with coh := t.coh } t
      ∧ RegsBut [CAT_CTL.word.off] s t)

/-- In DOZE a request of the nine types waits at its lane. Otherwise a request of no window that meets a parked slice is answered PARKED;
  one with a bad scope SCOPE_ERR; one whose line the slice does not home REFUSED with NOT_HOME, with one event of class 3. None of these
  changes a tag word, data, the Catalogue or a transaction. -/
def Obligations.RequestsTurnedAway : Prop :=
  (∀ (s : State) (i : Instr) (r : Req) (be : BitVec 128) (d : LineData) (a : AtomOp),
    i = .rdS r ∨ i = .rdX r ∨ i = .upg r ∨ i = .rdOnce r ∨ i = .rdLast r ∨ i = .wrLine r d ∨ i = .wrPart r be d ∨ i = .atom r a ∨ i =
      .evict r →
    let st := if s.parkedFor r.who = true then stParked else if scopeBad i r = true then stScopeErr else stRefused
    let rsn := if st = stRefused then rsnNotHome else rsnNone
    s.winOf r = none →
    s.dozing = false →
    s.parkedFor r.who = true ∨ scopeBad i r = true ∨ (noHolder i r = false ∧ s.accepts r.line = false) →
    ∃ t, exec i s = .next t ∧ (∀ c : Nat, s.casementOf (routeKey r.who) = some c → s.flagI LNK_INJ_CTL.EN c = false → s.ownPorter r.who =
      false → t.hands c (cmpMsg r st rsn) = true)
      ∧ (s.ownPorter r.who = true → Out.porter (cmpMsg r st rsn) ∈ t.out)
      ∧ (st = stRefused → t.rdI ERR_CNT.COUNT 3 = min (s.rdI ERR_CNT.COUNT 3 + 1) (2 ^ ERR_CNT.COUNT.w - 1))
      ∧ OnlyRegs { s with front := t.front, err := t.err } t
      ∧ (st ≠ stRefused → t.err = { s.err with fresh := 0 })
      ∧ (∀ c : Nat, s.casementOf (routeKey r.who) = some c → s.flagI LNK_INJ_CTL.EN c = false → RegsBut (bucketReg r :: (if st =
        stRefused then faultRegs 3 else [])) s t))
  ∧ (∀ (s : State) (i : Instr) (r : Req) (be : BitVec 128) (d : LineData) (a : AtomOp),
    i = .rdS r ∨ i = .rdX r ∨ i = .upg r ∨ i = .rdOnce r ∨ i = .rdLast r ∨ i = .wrLine r d ∨ i = .wrPart r be d ∨ i = .atom r a ∨ i =
      .evict r →
    s.winOf r = none →
    s.dozing = true →
    ∃ t, exec i s = .next t ∧ (t.front =
      { s.front with presented := s.front.presented.filter (fun p => p.cmd != i) ++ [⟨s.lane r.line, 3, i⟩] })
      ∧ t.out = []
      ∧ OnlyRegs { s with front := t.front } t
      ∧ RegsBut [] s t)

/-- A request that passes the checks and finds its line BUSY is answered NACK_RETRY, with the number of earlier NACK_RETRY answers of the
  BUSY period, at most 7, as its hint, or 0 when the answer records a starvation reservation; the transaction counts it, and CAT_NACKS
  too. A read or atomic under a sealed entry is answered SEALED with poisoned data. Neither changes a tag word, data or the Catalogue, or
  begins a transaction. -/
def Obligations.BusyAndSealedLines : Prop :=
  (∀ (s : State) (i : Instr) (r : Req) (be : BitVec 128) (d : LineData) (a : AtomOp) (x : Txn),
    i = .rdS r ∨ i = .rdX r ∨ i = .upg r ∨ i = .rdOnce r ∨ i = .rdLast r ∨ i = .wrLine r d ∨ i = .wrPart r be d ∨ i = .atom r a →
    s.txn r.line = some x →
    let starve := s.rd CAT_CTL.STARVE_N ≠ 0 ∧ s.rd CAT_CTL.STARVE_N ≤ r.retry.toNat ∧ s.coh.resv.length < 16 ∧ s.coh.resv.all (fun v =>
      v.line != r.line) = true
    s.dozing = false →
    s.verdict i r = none →
    r.winV = false →
    s.winOf r = none →
    s.preparing = false →
    WordsOk s r.line →
    s.isSealed r.line = false →
    ∃ t, exec i s = .next t ∧ (∀ c : Nat, s.casementOf (routeKey r.who) = some c → s.flagI LNK_INJ_CTL.EN c = false → s.ownPorter r.who =
      false → t.hands c (cmpMsg r stNack 0 (if starve then 0 else min x.nacks 7)) = true)
      ∧ t.txn r.line = some { x with nacks := x.nacks + 1 }
      ∧ (t.coh.resv = (if starve then s.coh.resv ++ [⟨r.line, r.who⟩] else s.coh.resv))
      ∧ t.rd CAT_NACKS.COUNT = min (s.rd CAT_NACKS.COUNT + 1) (2 ^ CAT_NACKS.COUNT.w - 1)
      ∧ t.coh.cat = s.coh.cat
      ∧ t.coh.txns.length = s.coh.txns.length
      ∧ t.stk = s.stk
      ∧ t.ord = s.ord
      ∧ OnlyRegs { s with front := t.front, coh := t.coh } t
      ∧ RegsBut [bucketReg r, CAT_NACKS.word.off, CAT_STARVE.word.off] s t)
  ∧ (∀ (s : State) (i : Instr) (r : Req) (a : AtomOp),
    i = .rdS r ∨ i = .rdX r ∨ i = .upg r ∨ i = .rdOnce r ∨ i = .rdLast r ∨ i = .atom r a →
    s.dozing = false →
    s.verdict i r = none →
    r.winV = false →
    s.winOf r = none →
    WordsOk s r.line →
    s.isSealed r.line = true →
    ∃ t, exec i s = .next t ∧ (∀ c : Nat, s.casementOf (routeKey r.who) = some c → s.flagI LNK_INJ_CTL.EN c = false → s.ownPorter r.who =
      false → (t.out.any (fun o => match o with | .casement k _ m => k = c && m.who = r.who && m.tag = r.tag && m.status = stSealed &&
      m.psn && m.cls = 3 && m.typ = (if isAtom i then 8 else 4) | _ => false) || (t.link c).queue.any (fun m => m.who = r.who && m.tag =
      r.tag && m.status = stSealed && m.psn && m.cls = 3 && m.typ = (if isAtom i then 8 else 4))) = true)
      ∧ t.coh = s.coh
      ∧ t.stk = s.stk
      ∧ t.ord = s.ord
      ∧ OnlyRegs { s with front := t.front, freeCtr := t.freeCtr } t
      ∧ RegsBut [bucketReg r] s t)

/-- A FENCE that the slice serves is answered FENCE_DONE at once, with the posted writes since the last FENCE and whether a narrower
  scope was named, when the requester has no write before its ack point and no walk is due; otherwise it waits for those writes, and for
  the walk of its window when the window's HOMES names this slice. FENCE_DONE of a slice ends an acquire's wait for it; once nothing is
  awaited the acquire's read is served and the acquire ends, here when it fails a check. A slice that did not answer, or answered PARKED,
  ends the acquire with PARKED and an event of class 4. No data and no tag word changes. -/
def Obligations.FencesAndAcquires : Prop :=
  (∀ (s : State) (f : FenceReq),
    let cover := (s.ord.covers.find? (fun c => c.who = f.who)).getD ⟨f.who, 0, 0⟩
    let narrow := (List.range f.scope.toNat).any (fun k => cover.scopes.testBit k)
    let walk := f.winV && s.homesHere f.win.toNat
    let mine := (s.ord.writes.filter (fun p => p.r.who = f.who)).map (·.id)
    let w := FenceWait.mk f mine (if walk then .pending else .none) cover.posted narrow
    s.dozing = false →
    s.parkedFor f.who = false →
    f.who.kind = .agent → s.lostAgents.getLsbD f.who.id.toNat = false →
    f.winV = true → s.winValid f.win.toNat = true →
    ∃ t, exec (.fence f) s = .next t ∧ (mine = [] → walk = false → ∀ c : Nat, s.casementOf (routeKey f.who) = some c → s.flagI
      LNK_INJ_CTL.EN c = false → s.ownPorter f.who = false → t.hands c (fenceDoneMsg w) = true)
      ∧ (mine ≠ [] ∨ walk = true → t.ord.fences.getLast? = some w)
      ∧ (t.ord.covers = s.ord.covers.filter (fun c => c.who != f.who))
      ∧ (walk = true → f.win.toNat ∈ t.ord.pend ∧ (t.rd ORD_WIN_STATUS.PEND).testBit f.win.toNat = true)
      ∧ (walk = false → t.ord.pend = s.ord.pend)
      ∧ t.ord.writes = s.ord.writes
      ∧ OnlyRegs { s with front := t.front, ord := t.ord } t
      ∧ RegsBut [ORD_WIN_STATUS.word.off] s t)
  ∧ (∀ (s : State) (p : BitVec 6) (win : BitVec 4) (tag : BitVec 11),
    ∃ t, exec (.fenceDone p win tag) s = .next t ∧ (∀ a, a ∈ t.ord.acqs → a.r.win = win → (p, tag) ∉ a.slices)
      ∧ (t.ord.acqs.map (fun a => (a.req, a.r, a.walk)) = s.ord.acqs.map (fun a => (a.req, a.r, a.walk)))
      ∧ (∀ a, a ∈ s.ord.acqs → a.r.win ≠ win → a ∈ t.ord.acqs)
      ∧ t.ord = { s.ord with acqs := t.ord.acqs }
      ∧ t.out = []
      ∧ OnlyRegs { s with ord := t.ord } t
      ∧ RegsBut [] s t)
  ∧ (∀ (s : State) (who : Requester) (tag : BitVec 11) (a : Acquire),
    s.acquire who tag = some a →
    a.slices = [] →
    a.walk = .none →
    ∃ t, exec (.acquireReadReplay who tag) s = .next t ∧ (s.parkedFor a.r.who = true → ∀ c : Nat, s.casementOf (routeKey a.r.who) = some
      c → s.flagI LNK_INJ_CTL.EN c = false → s.ownPorter a.r.who = false → t.hands c (cmpMsg a.r stParked) = true)
      ∧ (s.verdict a.req a.r ≠ none → t.ord = { s.ord with acqs := s.ord.acqs.filter (fun x => !(x.r.who = who && x.r.tag = tag)) } ∧
        t.stk = s.stk ∧ t.coh = s.coh)
      ∧ (∀ w : Nat, s.lookup a.r.line = some w → (Accepted s a.req { a.r with winV := false } ∧ HomeHit s a.r.line w ∧ a.req = .rdOnce
        a.r ∧ s.catFind a.r.line = none ∧ s.verdict a.req a.r = none) → t.jobs (s.jobLane (s.serving (lineSet a.r.line) w) false) =
        s.jobs (s.jobLane (s.serving (lineSet a.r.line) w) false) ++ [s.readOf a.r.line w (.send (readMsg a.r 4 false))] ∧ t.acquire who
        tag = none)
      ∧ t.ldg = s.ldg)
  ∧ (∀ (s : State) (who : Requester) (tag : BitVec 11),
    ∀ a : Acquire, s.acquire who tag = some a → a.slices ≠ [] ∨ a.walk ≠ .none →
    ∃ t, exec (.acquireReadReplay who tag) s = .next t ∧ t.out = []
      ∧ OnlyRegs { s with front := { s.front with presented := t.front.presented } } t
      ∧ RegsBut [] s t)
  ∧ (∀ (s : State) (who : Requester) (tag : BitVec 11) (p : BitVec 6) (a : Acquire),
    s.acquire who tag = some a →
    a.slices.any (fun x => x.1 = p) = true →
    ∃ t, exec (.windowFenceTimeout who tag p) s = .next t ∧ (∀ c : Nat, s.casementOf (routeKey a.r.who) = some c → s.flagI LNK_INJ_CTL.EN
      c = false → s.ownPorter a.r.who = false → t.hands c (cmpMsg a.r stParked) = true)
      ∧ (t.ord = { s.ord with acqs := s.ord.acqs.filter (fun x => !(x.r.who = who && x.r.tag = tag)) })
      ∧ t.rdI ERR_CNT.COUNT 4 = min (s.rdI ERR_CNT.COUNT 4 + 1) (2 ^ ERR_CNT.COUNT.w - 1)
      ∧ OnlyRegs { s with front := t.front, ord := t.ord, err := t.err } t)

/-- A write of ORD_WIN_INV with GO makes its valid window pending and is refused for an invalid one. The first pending window's walk
  starts when none runs; a lookup of the window's next homed line that is not BUSY and that no agent holds drops the line unless it is
  DIRTY, which is counted in ORD_WIN_DIRTY, and a BUSY line is visited again later; the walk ends when no line is left and every snoop is
  answered, and then the triggers that waited for it go on. A write of ORD_CTL with REC_EN clear empties the release records. -/
def Obligations.WindowWalks : Prop :=
  (∀ (s : State) (m : MgWrite),
    let w := fieldGet ORD_WIN_INV.WIN m.word
    Admits s ORD_WIN_INV.word.off m.src →
    ∃ t, exec (.ordWinInv m) s = .next t ∧ (s.winValid w = false → t.out = [answerOut m.src stRefused rsnField 0] ∧ t.ord = s.ord ∧
      RegsBut [] s t)
      ∧ (s.winValid w = true → m.word.getLsbD 31 = true → w ∈ t.ord.pend ∧ t.ord.go = some w ∧ t.rd ORD_WIN_INV.GO = 1 ∧ t.rd
        ORD_WIN_INV.WIN = w)
      ∧ (s.winValid w = true → t.out = [answerOut m.src stOk rsnNone 0])
      ∧ OnlyRegs { s with ord := t.ord } t
      ∧ t.ord = { s.ord with pend := t.ord.pend, go := t.ord.go }
      ∧ RegsBut [ORD_WIN_INV.word.off, ORD_WIN_STATUS.word.off] s t)
  ∧ (∀ (s : State) (w : Nat),
    s.ord.pend.head? = some w →
    s.flag ORD_WIN_STATUS.BUSY = false →
    s.dozing = false →
    w < 16 →
    ∃ t, exec (.windowWalkStart) s = .next t ∧ t.rd ORD_WIN_STATUS.BUSY = 1
      ∧ t.rd ORD_WIN_STATUS.RUN = w
      ∧ t.ord.pend = s.ord.pend.tail
      ∧ t.ord.next = (s.winLines w).1
      ∧ (∀ f, f ∈ t.ord.fences → f.f.win.toNat = w → f.walk ≠ .pending)
      ∧ (t.ord.fences.map (fun f => (f.f, f.writes)) = s.ord.fences.map (fun f => (f.f, f.writes)))
      ∧ t.out = []
      ∧ OnlyRegs { s with ord := t.ord } t
      ∧ RegsBut [ORD_WIN_STATUS.word.off] s t)
  ∧ (∀ (s : State) (line : LineAddr),
    let base := (s.winLines (s.rd ORD_WIN_STATUS.RUN)).1
    let n := (s.winLines (s.rd ORD_WIN_STATUS.RUN)).2
    s.flag ORD_WIN_STATUS.BUSY = true →
    s.capUsed = false →
    line ∉ s.ord.revisit →
    s.ord.next ≤ line.toNat →
    line.toNat < base + n →
    s.homesSelf line = true →
    s.noneHomed s.ord.next (line.toNat - s.ord.next) = true →
    WordsOk s line →
    ∃ t, exec (.windowWalkLookup line) s = .next t ∧ t.ord.next = line.toNat + 1
      ∧ ((s.txn line).isSome = true → t.ord.revisit = s.ord.revisit ++ [line] ∧ t.stk = s.stk ∧ t.coh = s.coh)
      ∧ (s.txn line = none → s.catFind line = none → s.dataPending line = false → s.lineSt line ≠ .dirty → (∀ w : Nat, s.lookup line =
        some w → (t.tag (lineSet line) w).st (lineBit line) = .inv) ∧ t.stk.beats = s.stk.beats)
      ∧ (s.txn line = none → s.lineSt line = .dirty → t.lineSt line = .dirty ∧ t.rd ORD_WIN_DIRTY.COUNT = min (s.rd ORD_WIN_DIRTY.COUNT +
        1) (2 ^ ORD_WIN_DIRTY.COUNT.w - 1))
      ∧ (∀ w : Nat, s.lookup line = some w → TabBut TagW.empty [32 * lineSet line + w] s.stk.tags t.stk.tags)
      ∧ t.ord.pend = s.ord.pend
      ∧ t.ldg = s.ldg)
  ∧ (∀ (s : State),
    let w := s.rd ORD_WIN_STATUS.RUN
    s.flag ORD_WIN_STATUS.BUSY = true →
    s.ord.revisit = [] →
    s.windowBusy = false →
    s.noneHomed s.ord.next ((s.winLines w).1 + (s.winLines w).2 - s.ord.next) = true →
    ∃ t, exec (.windowWalkEnd) s = .next t ∧ t.rd ORD_WIN_STATUS.BUSY = 0
      ∧ t.rd ORD_WIN_WALKS.COUNT = min (s.rd ORD_WIN_WALKS.COUNT + 1) (2 ^ ORD_WIN_WALKS.COUNT.w - 1)
      ∧ t.rd ORD_WIN_INV.GO = s.ord.go.isSome.toNat
      ∧ (∀ a, a ∈ t.ord.acqs → a.r.win.toNat = w → a.walk ≠ .running)
      ∧ (∀ f, f ∈ s.ord.fences → f.f.win.toNat = w → f.walk = .running → f.writes = [] → ∀ c : Nat, s.casementOf (routeKey f.f.who) =
        some c → s.flagI LNK_INJ_CTL.EN c = false → s.ownPorter f.f.who = false → t.hands c (fenceDoneMsg f) = true)
      ∧ OnlyRegs { s with front := t.front, ord := t.ord } t
      ∧ t.stk = s.stk)
  ∧ (∀ (s : State) (m : MgWrite),
    Admits s ORD_CTL.word.off m.src →
    ∃ t, exec (.releaseRecordClear m) s = .next t ∧ t.rd ORD_CTL.REC_EN = fieldGet ORD_CTL.REC_EN m.word
      ∧ t.rd ORD_CTL.MIS_LOG = fieldGet ORD_CTL.MIS_LOG m.word
      ∧ (t.ord = (if fieldGet ORD_CTL.REC_EN m.word = 0 then { s.ord with recs := [] } else s.ord))
      ∧ t.out = [answerOut m.src stOk rsnNone 0]
      ∧ OnlyRegs { s with ord := t.ord } t
      ∧ RegsBut [ORD_CTL.word.off] s t)

/-- With a free completion lane and no forced refresh due, a beat of the command at the head of a bank lane is noted, and the command
  leaves after its second beat. Outside mirrored halves a clean beat brings its stored half, or the wrong data that the code passed
  unseen, and a read answers with both halves, POISON when the line was poisoned. An uncorrectable beat of a line that still stands in
  its way counts in STK_ECC_UE and poisons the line. With a full lane or a forced refresh due, or without a command, nothing changes. -/
def Obligations.BankBeats : Prop :=
  (∀ (s : State) (p : BitVec 4) (l : Bool) (lo up : BeatOutcome) (delayed : Bool),
    let k := laneKey p.toNat l
    ∀ j : BankJob, (s.bankJobs k).head? = some j → 16 ≤ s.lane' (bankFrontKey p.toNat l) ∨ 9 ≤ s.pendRef j.phys →
    ∃ t, exec (.bankBeatComplete p l lo up delayed) s = .next t ∧ t.out = []
      ∧ OnlyRegs s t
      ∧ RegsBut [] s t)
  ∧ (∀ (s : State) (p : BitVec 4) (l : Bool) (lo up : BeatOutcome) (delayed : Bool) (j : BankJob),
    let k := laneKey p.toNat l
    (s.bankJobs k).head? = some j →
    s.lane' (bankFrontKey p.toNat l) < 16 →
    s.pendRef j.phys < 9 →
    j.write = true →
    ∃ t, exec (.bankBeatComplete p l lo up delayed) s = .next t ∧ (t.bankJobs k = (if j.got = none then { j with got := some (0, false) }
      :: (s.bankJobs k).tail else (s.bankJobs k).tail))
      ∧ t.lane' (bankFrontKey p.toNat l) = s.lane' (bankFrontKey p.toNat l) + 1
      ∧ t.out = []
      ∧ OnlyRegs { s with front := t.front } t
      ∧ t.front = { s.front with atBank := t.front.atBank, lanes := t.front.lanes }
      ∧ RegsBut [] s t)
  ∧ (∀ (s : State) (p : BitVec 4) (l : Bool) (v : Option Beat) (up : BeatOutcome) (delayed : Bool) (j : BankJob),
    let k := laneKey p.toNat l
    (s.bankJobs k).head? = some j →
    s.lane' (bankFrontKey p.toNat l) < 16 →
    s.pendRef j.phys < 9 →
    j.write = false →
    j.got = none →
    s.stk.halves = false →
    ∃ t, exec (.bankBeatComplete p l (.clean v) up delayed) s = .next t ∧ t.bankJobs k =
      { j with got := some (v.getD (j.data.extractLsb' 0 512), false) } :: (s.bankJobs k).tail
      ∧ t.lane' (bankFrontKey p.toNat l) = s.lane' (bankFrontKey p.toNat l) + 1
      ∧ t.out = []
      ∧ OnlyRegs { s with front := t.front } t
      ∧ t.front = { s.front with atBank := t.front.atBank, lanes := t.front.lanes }
      ∧ RegsBut [] s t)
  ∧ (∀ (s : State) (p : BitVec 4) (l : Bool) (v : Option Beat) (up : BeatOutcome) (delayed : Bool) (j : BankJob) (g : (Beat × Bool)) (m :
    Msg) (c : Nat),
    let k := laneKey p.toNat l
    (s.bankJobs k).head? = some j →
    j.got = some g →
    j.act = .send m →
    s.casementOf (routeKey m.who) = some c →
    s.lane' (bankFrontKey p.toNat l) < 16 →
    s.pendRef j.phys < 9 →
    j.write = false →
    s.stk.halves = false →
    m.hold = none →
    s.ownPorter m.who = false →
    s.flagI LNK_INJ_CTL.EN c = false →
    ∃ t, exec (.bankBeatComplete p l (.clean v) up delayed) s = .next t ∧ t.hands c (m.withLine (v.getD (j.data.extractLsb' 512 512) ++
      g.1) (j.psn || g.2)) = true
      ∧ t.bankJobs k = (s.bankJobs k).tail
      ∧ t.stk = s.stk
      ∧ t.coh = s.coh
      ∧ RegsBut [LDG_ROW_DRAIN.word.off] s t)
  ∧ (∀ (s : State) (p : BitVec 4) (l : Bool) (d : Beat) (up : BeatOutcome) (delayed : Bool) (j : BankJob),
    let k := laneKey p.toNat l
    (s.bankJobs k).head? = some j →
    s.lane' (bankFrontKey p.toNat l) < 16 →
    s.pendRef j.phys < 9 →
    j.write = false →
    j.got = none →
    s.stk.halves = false →
    s.marksLine j.set j.way j.line = true →
    s.laterWrite j.phys j.row j.beat = false →
    s.rd STK_ECC_LIMIT.LIMIT = 0 →
    ∃ t, exec (.bankBeatComplete p l (.uncorrectable d) up delayed) s = .next t ∧ t.bankJobs k = { j with got := some (d, true) } ::
      (s.bankJobs k).tail
      ∧ t.tag j.set j.way = (s.tag j.set j.way).put (lineBit j.line) ((s.tag j.set j.way).st (lineBit j.line)) true
      ∧ t.rd STK_ECC_UE.COUNT = min (s.rd STK_ECC_UE.COUNT + 1) (2 ^ STK_ECC_UE.COUNT.w - 1)
      ∧ t.rdI ERR_CNT.COUNT 1 = min (s.rdI ERR_CNT.COUNT 1 + 1) (2 ^ ERR_CNT.COUNT.w - 1)
      ∧ TabBut TagW.empty [32 * j.set + j.way] s.stk.tags t.stk.tags
      ∧ t.stk.beats = s.stk.beats
      ∧ OnlyRegs { s with front := t.front, stk := t.stk, err := t.err } t
      ∧ RegsBut (STK_ECC_UE.word.off :: faultRegs 1) s t)

/-- A corrective write of a bank in service without a forced refresh due stores its oldest queued beat. A refresh request of a bank in
  service with room in its lane raises P, at most to 9, and MAX_PEND; a refresh command with P above 0 and room lowers it, waits behind
  foreground commands below 9 and sets FORCED at 9. SENSOR_READ shows the higher reading, goes to the HOT tier from 83 degrees on, and
  above 105 sets OVER_TEMP with its interrupt. A scrubbed row without errors moves the bank's row on; SCRUB_LATE sets LATE with an event
  of class 1. With scrub off or the bank out of service nothing changes. -/
def Obligations.RefreshAndScrub : Prop :=
  (∀ (s : State) (bank : BitVec 5) (x : (Nat × Beat)),
    (tget [] s.stk.corr bank.toNat).head? = some x →
    s.inService bank.toNat = true →
    s.pendRef bank.toNat < 9 →
    ∃ t, exec (.correctiveWrite bank) s = .next t ∧ t.beat bank.toNat (x.1 / 16) (x.1 % 16) = x.2
      ∧ tget [] t.stk.corr bank.toNat = (tget [] s.stk.corr bank.toNat).tail
      ∧ TabBut 0 [beatKey bank.toNat (x.1 / 16) (x.1 % 16)] s.stk.beats t.stk.beats
      ∧ t.stk = { s.stk with corr := t.stk.corr, beats := t.stk.beats }
      ∧ t.out = []
      ∧ OnlyRegs { s with stk := t.stk } t
      ∧ RegsBut [] s t)
  ∧ (∀ (s : State) (bank : BitVec 5),
    let k := nightBankKey (s.pairOf bank.toNat)
    let p := min 9 (s.pendRef bank.toNat + 1)
    s.inService bank.toNat = true →
    s.lane' k < 4 →
    ∃ t, exec (.refreshRequest bank) s = .next t ∧ t.pendRef bank.toNat = p
      ∧ t.lane' k = s.lane' k + 1
      ∧ t.rd STK_REF_STATUS.MAX_PEND = max p (s.rd STK_REF_STATUS.MAX_PEND)
      ∧ (∀ b : Nat, b < 17 → b ≠ bank.toNat → t.pendRef b = s.pendRef b)
      ∧ t.out = []
      ∧ OnlyRegs { s with stk := { s.stk with pend := t.stk.pend }, front := { s.front with lanes := t.front.lanes } } t
      ∧ RegsBut [STK_REF_STATUS.word.off] s t)
  ∧ (∀ (s : State) (bank : BitVec 5),
    let k := bankNightKey (s.pairOf bank.toNat)
    let p := s.pendRef bank.toNat
    let go := p ≠ 0 ∧ s.lane' k < 4 ∧ (9 ≤ p ∨ s.foreground bank.toNat = false)
    ∃ t, exec (.refreshCommand bank) s = .next t ∧ (go → t.pendRef bank.toNat = p - 1 ∧ t.lane' k = s.lane' k + 1)
      ∧ (go → bank.toNat < 17 → (t.rd STK_REF_STATUS.FORCED).testBit bank.toNat = ((s.rd STK_REF_STATUS.FORCED).testBit bank.toNat ||
        decide (9 ≤ p)))
      ∧ (¬ go → t.pendRef bank.toNat = p ∧ t.front = s.front ∧ RegsBut [] s t)
      ∧ (∀ b : Nat, b < 17 → b ≠ bank.toNat → t.pendRef b = s.pendRef b)
      ∧ t.out = []
      ∧ OnlyRegs { s with stk := { s.stk with pend := t.stk.pend }, front := { s.front with lanes := t.front.lanes } } t
      ∧ RegsBut [STK_REF_STATUS.word.off] s t)
  ∧ (∀ (s : State) (t0 t1 : BitVec 8),
    let x := max t0.toNat t1.toNat
    ∃ t, exec (.sensorRead t0 t1) s = .next t ∧ t.rd STK_REF_TIER.TEMP = x
      ∧ (83 ≤ x → t.rd STK_REF_TIER.TIER = 1)
      ∧ (x ≤ 80 → s.stk.coolRun = 99 → s.flag STK_REF_TIER.CAL_OK = true → s.cfg.coolOk = true → s.rd STK_REF_TIER.FLOOR = 0 → t.rd
        STK_REF_TIER.TIER = 0)
      ∧ (t.stk.coolRun = (if x ≤ 80 then min 100 (s.stk.coolRun + 1) else 0))
      ∧ (105 < x → t.rd STK_REF_TIER.OVER_TEMP = 1 ∧ (t.rd ERR_STATUS.PEND).testBit 1 = true)
      ∧ (x ≤ 105 → t.rd STK_REF_TIER.OVER_TEMP = s.rd STK_REF_TIER.OVER_TEMP ∧ RegsBut [STK_REF_TIER.word.off] s t)
      ∧ t.out = []
      ∧ OnlyRegs { s with stk := { s.stk with coolRun := t.stk.coolRun }, err := t.err } t
      ∧ RegsBut (STK_REF_TIER.word.off :: faultRegs 1) s t)
  ∧ (∀ (s : State) (bank : BitVec 5) (beats : List (BitVec 4 × BeatOutcome)),
    let row := tget 0 s.stk.scrubRow bank.toNat
    let on := s.flag STK_SCRUB_CTL.EN = true ∧ s.inService bank.toNat = true
    ∀ x, x ∈ beats → (match x.2 with | .clean _ => true | _ => false) = true →
    ∃ t, exec (.scrubRow bank beats) s = .next t ∧ (on → tget 0 t.stk.scrubRow bank.toNat = (row + 1) % 8192)
      ∧ (on → row = 8191 → tget 0 t.stk.ueCnt bank.toNat = 0)
      ∧ (on → s.serviceBanks.head? = some bank.toNat → t.rd STK_SCRUB_STATUS.ROW = (row + 1) % 8192)
      ∧ (¬ on → t.stk = s.stk ∧ RegsBut [] s t)
      ∧ t.stk = { s.stk with scrubRow := t.stk.scrubRow, ueCnt := t.stk.ueCnt }
      ∧ t.out = []
      ∧ OnlyRegs { s with stk := t.stk } t
      ∧ RegsBut [STK_SCRUB_STATUS.word.off] s t)
  ∧ (∀ (s : State) (bank : BitVec 5),
    let on := s.flag STK_SCRUB_CTL.EN = true ∧ s.inService bank.toNat = true
    ∃ t, exec (.scrubLate bank) s = .next t ∧ (on → t.rd STK_SCRUB_STATUS.LATE = 1 ∧ t.rdI ERR_CNT.COUNT 1 = min (s.rdI ERR_CNT.COUNT 1 +
      1) (2 ^ ERR_CNT.COUNT.w - 1))
      ∧ (¬ on → RegsBut [] s t ∧ t.err = { s.err with fresh := 0 })
      ∧ t.out = []
      ∧ OnlyRegs { s with err := t.err } t
      ∧ RegsBut (STK_SCRUB_STATUS.word.off :: faultRegs 1) s t)

/-- A write of STK_CAL_GRANT opens the grant of its length, which a length of 0 leaves closed; the end of its time closes it. Under an
  open grant a passed trial k of a bank in service leaves result k + 2, and a failed one 1 for k = 0 and otherwise at most k + 1, with
  the temperature; without a grant, for a bank out of service or beyond trial 4 nothing changes. A complete calibration sets CAL_OK when
  every group of every bank in service has a result of at least 4 and this start does not hold it back, and the tier is HOT wherever COOL
  is not permitted. -/
def Obligations.CalibrationOfRefresh : Prop :=
  (∀ (s : State) (m : MgWrite),
    Admits s STK_CAL_GRANT.word.off m.src →
    ∃ t, exec (.calGrantOpen m) s = .next t ∧ t.rd STK_CAL_GRANT.LEN_US = fieldGet STK_CAL_GRANT.LEN_US m.word
      ∧ (t.rd STK_CAL_GRANT.OPEN = (if fieldGet STK_CAL_GRANT.LEN_US m.word = 0 then 0 else fieldGet STK_CAL_GRANT.OPEN m.word))
      ∧ t.out = [answerOut m.src stOk rsnNone 0]
      ∧ OnlyRegs s t
      ∧ RegsBut [STK_CAL_GRANT.word.off] s t)
  ∧ (∀ (s : State),
    ∃ t, exec (.calGrantExpire) s = .next t ∧ t.rd STK_CAL_GRANT.OPEN = 0
      ∧ t.rd STK_CAL_GRANT.LEN_US = s.rd STK_CAL_GRANT.LEN_US
      ∧ t.out = []
      ∧ OnlyRegs s t
      ∧ RegsBut [STK_CAL_GRANT.word.off] s t)
  ∧ (∀ (s : State) (bank : BitVec 5) (g k : BitVec 3) (pass : Bool),
    let n := 8 * bank.toNat + g.toNat
    let on := s.flag STK_CAL_GRANT.OPEN = true ∧ s.inService bank.toNat = true ∧ k.toNat ≤ 4
    ∃ t, exec (.calibrationTrial bank g k pass) s = .next t ∧ (on → t.rdI STK_CAL_RESULT.CODE n = (if pass then k.toNat + 2 else if
      k.toNat = 0 then 1 else min (s.rdI STK_CAL_RESULT.CODE n) (k.toNat + 1)))
      ∧ (on → t.rdI STK_CAL_RESULT.TEMP n = s.rd STK_REF_TIER.TEMP)
      ∧ (¬ on → RegsBut [] s t)
      ∧ t.out = []
      ∧ OnlyRegs s t
      ∧ RegsBut [STK_CAL_RESULT.word.off + STK_CAL_RESULT.word.stride * n] s t)
  ∧ (∀ (s : State),
    let good := s.serviceBanks.all (fun b => (List.range 8).all (fun g => decide (4 ≤ s.rdI STK_CAL_RESULT.CODE (8 * b + g))))
    let weak := s.serviceBanks.filter (fun b => (List.range 8).any (fun g => s.rdI STK_CAL_RESULT.CODE (8 * b + g) = 1))
    ∃ t, exec (.calibrationComplete) s = .next t ∧ t.rd STK_REF_TIER.CAL_OK = (good && !s.start.calHeld).toNat
      ∧ (s.cfg.coolOk = false ∨ s.rd STK_REF_TIER.FLOOR ≠ 0 ∨ good = false → t.rd STK_REF_TIER.TIER = 1)
      ∧ (weak = [] → t.stk = s.stk ∧ RegsBut [STK_REF_TIER.word.off] s t)
      ∧ (weak.length = 1 → s.flag STK_BANK_STATE.SPARE_USED = false → s.flag STK_BANK_STATE.COPY_BUSY = false → s.isRetired s.spare =
        false → ∀ k : Nat, weak.head?.bind s.logicalOf = some k → s.retiring k = false → t.rd STK_BANK_STATE.COPY_BUSY = 1 ∧ t.rd
        STK_BANK_STATE.COPY_SRC = k)
      ∧ t.out = []
      ∧ OnlyRegs { s with stk := { s.stk with walk := t.stk.walk, walkQ := t.stk.walkQ, copyPos := t.stk.copyPos } } t
      ∧ RegsBut [STK_REF_TIER.word.off, STK_BANK_STATE.word.off] s t)

/-- A write of STK_RETIRE with GO for an existing bank that is neither being retired nor lost, while no copy runs, and when the spare is
  used only with four cache ways left, is taken and GO stands; otherwise it is refused with the reason of R69 and nothing changes. The
  copy takes the source's beats in order into the spare; after the last the bank is served by the spare, the source is retired in
  STK_BANK_STATE and in the Daybook's record, and GO ends. The walk empties the two ways of its bank in the next set and moves on; any
  other set changes nothing. -/
def Obligations.BankRetirement : Prop :=
  (∀ (s : State) (m : MgWrite),
    let k := fieldGet STK_RETIRE.BANK m.word
    let rsn := if s.nb ≤ k then rsnField else if s.retiring k || s.flag STK_BANK_STATE.COPY_BUSY then rsnBankBusy else if s.flag
      STK_BANK_STATE.SPARE_USED && decide (s.cacheWaysLeft < 4) then rsnRetireLimit else 0
    Admits s STK_RETIRE.word.off m.src →
    m.word.getLsbD 31 = true →
    ∃ t, exec (.stkRetire m) s = .next t ∧ (rsn ≠ 0 → t.out = [answerOut m.src stRefused rsn 0] ∧ t.stk = s.stk ∧ RegsBut [] s t)
      ∧ (rsn = 0 → t.out = [answerOut m.src stOk rsnNone 0] ∧ t.rd STK_RETIRE.GO = 1 ∧ t.rd STK_RETIRE.BANK = k)
      ∧ (rsn = 0 → s.flag STK_BANK_STATE.SPARE_USED = false → s.isRetired s.spare = false → t.rd STK_BANK_STATE.COPY_BUSY = 1 ∧ t.rd
        STK_BANK_STATE.COPY_SRC = k ∧ t.stk = { s.stk with copyPos := 0 })
      ∧ (rsn = 0 → s.flag STK_BANK_STATE.SPARE_USED = true → s.stk.walk = none → s.stk.walkQ = [] → t.stk =
        { s.stk with walk := some ⟨k, 0, false, false⟩ })
      ∧ OnlyRegs { s with stk := t.stk } t
      ∧ RegsBut [STK_RETIRE.word.off, STK_BANK_STATE.word.off] s t)
  ∧ (∀ (s : State) (v : Option Beat),
    let p := s.stk.copyPos
    let src := s.phys (s.rd STK_BANK_STATE.COPY_SRC)
    let on := s.flag STK_BANK_STATE.COPY_BUSY = true ∧ p < 131072
    ∃ t, exec (.retirementCopy (.clean v)) s = .next t ∧ (on → t.beat s.spare (p / 16) (p % 16) = v.getD (s.beat src (p / 16) (p % 16)))
      ∧ (on → t.stk.copyPos = p + 1)
      ∧ (on → TabBut 0 [beatKey s.spare (p / 16) (p % 16)] s.stk.beats t.stk.beats)
      ∧ (¬ on → t.stk = s.stk)
      ∧ t.stk = { s.stk with beats := t.stk.beats, copyPos := t.stk.copyPos }
      ∧ t.out = []
      ∧ OnlyRegs { s with stk := t.stk } t
      ∧ RegsBut [] s t)
  ∧ (∀ (s : State),
    let k := s.rd STK_BANK_STATE.COPY_SRC
    let on := s.flag STK_BANK_STATE.COPY_BUSY = true ∧ 131072 ≤ s.stk.copyPos
    ∃ t, exec (.retirementCopyDone) s = .next t ∧ (on → t.phys k = s.spare ∧ t.rd STK_BANK_STATE.COPY_BUSY = 0 ∧ t.rd
      STK_BANK_STATE.SPARE_USED = 1 ∧ t.rd STK_BANK_STATE.SPARE_FOR = k)
      ∧ (on → s.phys k < 17 → (t.rd STK_BANK_STATE.RETIRED).testBit (s.phys k) = true ∧ (t.rd DBK_RETIRED.BANKS).testBit (s.phys k) =
        true)
      ∧ (on → t.rd STK_RETIRE.GO = (if s.rd STK_RETIRE.BANK = k then 0 else s.rd STK_RETIRE.GO))
      ∧ (∀ j : Nat, j < 16 → j ≠ k → t.phys j = s.phys j)
      ∧ (¬ on → t.stk = s.stk ∧ RegsBut [] s t)
      ∧ t.out = []
      ∧ OnlyRegs { s with stk := { s.stk with remap := t.stk.remap, copyPos := t.stk.copyPos }, err := t.err } t
      ∧ RegsBut ([STK_BANK_STATE.word.off, STK_RETIRE.word.off, DBK_RETIRED.word.off, DBK_DEGRADED.word.off] ++ faultRegs 1) s t)
  ∧ (∀ (s : State) (set : BitVec 14) (x : RetWalk),
    s.stk.walk = some x →
    let q := (x.lb + s.nb * (set.toNat / s.nb + 1) - set.toNat) % s.nb
    set.toNat = x.next →
    set.toNat < 16383 →
    s.cacheWay set.toNat (2 * q) = true →
    s.cacheWay set.toNat (2 * q + 1) = true →
    ∃ t, exec (.retireWayPairWalk set) s = .next t ∧ t.tag set.toNat (2 * q) = TagW.empty
      ∧ t.tag set.toNat (2 * q + 1) = TagW.empty
      ∧ ((t.stk.walk.map (fun y => (y.lb, y.next, y.abrupt))) = some (x.lb, set.toNat + 1, x.abrupt))
      ∧ TabBut TagW.empty [32 * set.toNat + 2 * q, 32 * set.toNat + 2 * q + 1] s.stk.tags t.stk.tags
      ∧ t.stk.remap = s.stk.remap
      ∧ t.coh.cat = s.coh.cat
      ∧ t.ldg = s.ldg)
  ∧ (∀ (s : State) (set : BitVec 14),
    ∀ x : RetWalk, s.stk.walk = some x → set.toNat ≠ x.next →
    ∃ t, exec (.retireWayPairWalk set) s = .next t ∧ t.out = []
      ∧ OnlyRegs s t
      ∧ RegsBut [] s t)

/-- The end of a measurement window moves one run counter on and zeroes the other, and restarts the counts; with WIN_US 0 it does
  nothing. ALT_ADJUST demotes or restores one way of an adjustable carrel, zeroes both run counters, counts and logs the change, or is
  refused with its reason and changes nothing. A write of PFT_CTL disables (STOPPING, trackers cleared) or enables; the shutdown ends
  once no prefetch read is outstanding, and starts the engine again when EN_PEND stands. PFT_DEGREE is held when no nibble exceeds 8 or
  its maximum. An issued prefetch read of a missing line takes a way with PF and one far-port read. -/
def Obligations.CarrelAdjustAndPrefetch : Prop :=
  (∀ (s : State),
    let n := ((List.range 16).filter s.thrashes).length
    let thrash := max 1 (s.rd ALT_POLICY.MIN_GROUPS) ≤ n
    s.rd ALT_WINDOW.WIN_US ≠ 0 →
    ∃ t, exec (.adaptWindowEnd) s = .next t ∧ (t.rd ALT_ADAPT.THRASH_RUN = (if thrash then min (s.rd ALT_ADAPT.THRASH_RUN + 1) (2 ^
      ALT_ADAPT.THRASH_RUN.w - 1) else 0))
      ∧ (t.rd ALT_ADAPT.CALM_RUN = (if thrash then 0 else min (s.rd ALT_ADAPT.CALM_RUN + 1) (2 ^ ALT_ADAPT.CALM_RUN.w - 1)))
      ∧ (∀ g : Nat, g < 16 → t.rdI ALT_GRP_ACC.COUNT g = min (2 ^ 24 - 1) (tget 0 s.place.grpAcc g) ∧ t.rdI ALT_GRP_MISS.COUNT g = min (2
        ^ 24 - 1) (tget 0 s.place.grpMiss g))
      ∧ t.place = { s.place with grpAcc := [], grpMiss := [] }
      ∧ t.out = []
      ∧ OnlyRegs { s with place := t.place } t
      ∧ (RegsBut (ALT_ADAPT.word.off :: (List.range 16).flatMap (fun g => [ALT_GRP_ACC.word.off + ALT_GRP_ACC.word.stride * g,
        ALT_GRP_MISS.word.off + ALT_GRP_MISS.word.stride * g])) s t))
  ∧ (∀ (s : State),
    s.rd ALT_WINDOW.WIN_US = 0 →
    ∃ t, exec (.adaptWindowEnd) s = .next t ∧ OnlyRegs s t
      ∧ RegsBut [] s t)
  ∧ (∀ (s : State) (i : Instr) (m : MgWrite),
    i = .altDemote m ∨ i = .altRestore m →
    let op := fieldGet ALT_ADJUST.OP m.word
    let c := fieldGet ALT_ADJUST.CARREL m.word
    let rsn := s.altRefusal (isCurator m.src) op c
    let old := s.rdI ALT_CRL_CTL.CUR c
    Admits s ALT_ADJUST.word.off m.src →
    op ≠ 0 →
    ∃ t, exec i s = .next t ∧ (rsn ≠ 0 → t.out = [answerOut m.src stRefused rsn 0] ∧ RegsBut [] s t)
      ∧ (rsn = 0 → t.out = [answerOut m.src stOk rsnNone 0] ∧ t.rdI ALT_CRL_CTL.CUR c = (if op = 1 then old - 1 else old + 1) % 2 ^
        ALT_CRL_CTL.CUR.w ∧ t.rd ALT_ADAPT.THRASH_RUN = 0 ∧ t.rd ALT_ADAPT.CALM_RUN = 0)
      ∧ (rsn = 0 → t.rd ALT_ADJ_TOTAL.COUNT = min (s.rd ALT_ADJ_TOTAL.COUNT + 1) (2 ^ ALT_ADJ_TOTAL.COUNT.w - 1) ∧ t.rd
        ALT_ADAPT.LOG_HEAD = (s.rd ALT_ADAPT.LOG_HEAD + 1) % 32)
      ∧ OnlyRegs s t
      ∧ RegsBut [ALT_ADJUST.word.off, ALT_ADAPT.word.off, ALT_ADJ_TOTAL.word.off, ALT_CRL_CTL.word.off + ALT_CRL_CTL.word.stride * c,
        ALT_LOG_TIME.TS.off + ALT_LOG_TIME.TS.stride * s.rd ALT_ADAPT.LOG_HEAD, ALT_LOG_INFO.word.off + ALT_LOG_INFO.word.stride * s.rd
        ALT_ADAPT.LOG_HEAD] s t)
  ∧ (∀ (s : State) (i : Instr) (m : MgWrite),
    i = .prefetchDisable m ∨ i = .prefetchEnable m →
    let en := m.word.getLsbD 31
    Admits s PFT_CTL.word.off m.src →
    s.flag PFT_CTL.STOPPING = false →
    ∃ t, exec i s = .next t ∧ t.rd PFT_CTL.PF_MAX = fieldGet PFT_CTL.PF_MAX m.word
      ∧ t.rd PFT_CTL.EN = en.toNat
      ∧ t.rd PFT_CTL.STOPPING = (s.flag PFT_CTL.EN && !en).toNat
      ∧ (t.place = (if s.flag PFT_CTL.EN && !en then { s.place with trackers := [] } else s.place))
      ∧ t.out = [answerOut m.src stOk rsnNone 0]
      ∧ OnlyRegs { s with place := t.place } t
      ∧ RegsBut [PFT_CTL.word.off] s t)
  ∧ (∀ (s : State),
    let on := s.flag PFT_CTL.STOPPING = true ∧ s.pfOut = 0
    ∃ t, exec (.prefetchShutdownEnd) s = .next t ∧ (on → t.rd PFT_CTL.STOPPING = 0 ∧ t.rd PFT_CTL.EN_PEND = 0 ∧ t.rd PFT_CTL.EN = s.rd
      PFT_CTL.EN)
      ∧ (¬ on → RegsBut [] s t)
      ∧ t.out = []
      ∧ OnlyRegs s t
      ∧ RegsBut [PFT_CTL.word.off] s t)
  ∧ (∀ (s : State) (m : MgWrite),
    let nib := fun (w l : Nat) => w / 16 ^ l % 16
    let high := (List.range 8).any (fun l => decide (9 ≤ nib m.word.toNat l))
    let above := (List.range 8).any (fun l => decide (nib (s.word PFT_DEG_MAX.word.off).toNat l < nib m.word.toNat l))
    Admits s PFT_DEGREE.word.off m.src →
    ∃ t, exec (.pftDegreeWrite m) s = .next t ∧ (high = true → t.out = [answerOut m.src stRefused rsnField 0])
      ∧ (high = false → above = true → t.out = [answerOut m.src stRefused rsnBound 0])
      ∧ (high = false → above = false → t.out = [answerOut m.src stOk rsnNone 0] ∧ t.word PFT_DEGREE.word.off = m.word)
      ∧ ((high || above) = true → RegsBut [] s t)
      ∧ OnlyRegs s t
      ∧ RegsBut [PFT_DEGREE.word.off] s t)
  ∧ (∀ (s : State) (line : LineAddr) (w : Nat),
    let set := lineSet line
    s.place.pfIssued.any (fun p => p.1 = line) = true →
    s.dozing = false →
    s.lookup line = none →
    s.isSealed line = false →
    s.isTagLost set = false →
    s.homesSelf line = true →
    s.preparing = false →
    s.served = true →
    s.farReadRoom line = true →
    s.wayFor line = some w →
    (s.tag set w).dirty = false →
    s.atomLine (lineOf (s.tag set w).sector false) = none →
    s.atomLine (lineOf (s.tag set w).sector true) = none →
    ∃ t, exec (.prefetchRead line) s = .next t ∧ (t.tag set w =
      { TagW.empty with sector := granule line, s0 := if lineBit line then .inv else .clean, s1 := if lineBit line then .clean else .inv, pin := (s.chooseWay set line).2.1, pf := true })
      ∧ t.stk.farReads.dropLast = s.stk.farReads
      ∧ (∀ x : FarRead, t.stk.farReads.getLast? = some x → x = ⟨s.subOf line, x.tag, line, some (set, w), true, [.fill]⟩)
      ∧ t.stk.farReads ≠ s.stk.farReads
      ∧ t.place.pfIssued.length + 1 = s.place.pfIssued.length
      ∧ TabBut TagW.empty [32 * set + w] s.stk.tags t.stk.tags
      ∧ t.stk.beats = s.stk.beats
      ∧ t.coh.cat = s.coh.cat
      ∧ RegsBut [ALT_SPILL.word.off] s t)

/-- A write of SHT_RSH_OP with GO of a valid operation and range enters the queue of 8 and DEPTH shows it; a bad field or a full queue is
  refused and changes nothing. The oldest command starts on an idle, enabled Reshelver: SEAL seals its entry and marks its walk, REOPEN
  opens it. A lookup of the running command's next homed line, not BUSY and held by no agent, makes the line INV, writing a DIRTY one
  back for CLEAN_INV; CLEAN leaves it CLEAN. When all lookups, snoops and write-backs are over the command ends OK, or POISON after a
  poisoned line, is counted, and a seal's walk ends. Disabling abandons the running command; the shutdown ends when its write-backs are
  acknowledged. -/
def Obligations.ReshelverCommands : Prop :=
  (∀ (s : State) (i : Instr) (m : MgWrite),
    i = .rshClean m ∨ i = .rshInvalidate m ∨ i = .rshCleanInv m ∨ i = .seal m ∨ i = .reopen m ∨ i = .invBank m →
    let op := fieldGet SHT_RSH_OP.OP m.word
    let c := RshCmd.mk op (BitVec.ofNat 44 (s.rd SHT_RSH_BASE_HI.BASE_HI * 2 ^ 24 + s.rd SHT_RSH_BASE_LO.BASE_LO)) (s.rd
      SHT_RSH_SIZE.SIZE) (fieldGet SHT_RSH_OP.INDEX m.word) none
    Admits s SHT_RSH_OP.word.off m.src →
    m.word.getLsbD 31 = true →
    ∃ t, exec i s = .next t ∧ (s.rshBad c = true → t.out = [answerOut m.src stRefused rsnField 0] ∧ t.place = s.place ∧ RegsBut [] s t)
      ∧ (s.rshBad c = false → 8 ≤ s.place.queue.length → t.out = [answerOut m.src stRefused rsnQueueFull 0] ∧ t.place = s.place ∧ RegsBut
        [] s t)
      ∧ (s.rshBad c = false → s.place.queue.length < 8 → t.out = [answerOut m.src stOk rsnNone 0] ∧ t.place =
        { s.place with queue := s.place.queue ++ [c] } ∧ t.rd SHT_RSH_CTL.DEPTH = s.place.queue.length + 1)
      ∧ OnlyRegs { s with place := t.place } t
      ∧ RegsBut [SHT_RSH_OP.word.off, SHT_RSH_CTL.word.off] s t)
  ∧ (∀ (s : State) (c : RshCmd),
    s.place.queue.head? = some c →
    s.place.running = none →
    s.rshOn = true →
    s.dozing = false →
    ∃ t, exec (.reshelverStart) s = .next t ∧ t.place.queue = s.place.queue.tail
      ∧ ((t.place.running.map (fun x => (x.op, x.index, x.req))) = some (c.op, c.index, c.req))
      ∧ (c.op ≠ 3 → t.place.running = some c)
      ∧ t.rd SHT_RSH_CTL.BUSY = 1
      ∧ (c.op = 3 → t.flagI SHT_ENT_CTL.SEALED c.index = true ∧ t.flagI SHT_ENT_CTL.WALK c.index = true)
      ∧ (c.op = 4 → t.flagI SHT_ENT_CTL.SEALED c.index = false ∧ t.flagI SHT_ENT_CTL.WALK c.index = false)
      ∧ t.out = []
      ∧ OnlyRegs { s with place := t.place } t
      ∧ (RegsBut (SHT_RSH_CTL.word.off :: (if c.op = 3 ∨ c.op = 4 then [SHT_ENT_CTL.word.off + SHT_ENT_CTL.word.stride * c.index] else
        [])) s t))
  ∧ (∀ (s : State) (line : LineAddr) (c : RshCmd),
    s.place.running = some c →
    c.op < 4 →
    s.rshOn = true →
    s.capUsed = false →
    line ∉ s.place.todo →
    s.place.next ≤ line.toNat →
    line.toNat < 2 * (c.base.toNat + c.size) →
    s.homesSelf line = true →
    s.noneHomed s.place.next (line.toNat - s.place.next) = true →
    WordsOk s line →
    ∃ t, exec (.reshelverLookup line) s = .next t ∧ t.place.next = line.toNat + 1
      ∧ ((s.txn line).isSome = true → t.place.todo = s.place.todo ++ [line] ∧ t.stk = s.stk ∧ t.coh = s.coh)
      ∧ (s.txn line = none → s.catFind line = none → s.atomLine line = none → s.dataPending line = false → ∀ w : Nat, s.lookup line =
        some w → (t.tag (lineSet line) w).st (lineBit line) = (if c.op = 0 ∧ s.lineSt line ≠ .inv then (if s.lineSt line = .dirty then
        .clean else s.lineSt line) else .inv))
      ∧ (s.txn line = none → s.catFind line = none → s.atomLine line = none → s.lineSt line = .dirty → ∀ w : Nat, s.lookup line = some w
        → (c.op = 0 ∨ c.op = 2) → t.jobs (s.jobLane (s.serving (lineSet line) w) false) = s.jobs (s.jobLane (s.serving (lineSet line) w)
        false) ++ [s.readOf (lineOf (s.tag (lineSet line) w).sector (lineBit line)) w (.writeBack .reshelver (s.lineP line))] ∧
        t.place.unacked = s.place.unacked + 1)
      ∧ (∀ w : Nat, s.lookup line = some w → TabBut TagW.empty [32 * lineSet line + w] s.stk.tags t.stk.tags)
      ∧ t.place.running = some c
      ∧ t.place.queue = s.place.queue
      ∧ t.ldg = s.ldg)
  ∧ (∀ (s : State) (c : RshCmd),
    s.place.running = some c →
    s.rshLooked c = true →
    s.place.todo = [] →
    s.rshQuiet = true →
    let st := if s.place.poison then stPoison else stOk
    ∃ t, exec (.reshelverDone) s = .next t ∧ t.place = { s.place with running := none }
      ∧ t.rd SHT_RSH_DONE.LAST_STATUS = st
      ∧ t.rd SHT_RSH_DONE.COUNT = (s.rd SHT_RSH_DONE.COUNT + 1) % 2 ^ SHT_RSH_DONE.COUNT.w
      ∧ t.rd SHT_RSH_CTL.BUSY = 0
      ∧ (c.op = 3 → t.flagI SHT_ENT_CTL.WALK c.index = false ∧ t.flagI SHT_ENT_CTL.SEALED c.index = s.flagI SHT_ENT_CTL.SEALED c.index)
      ∧ (∀ r : Req, c.req = some r → ∀ k : Nat, s.casementOf (routeKey r.who) = some k → s.flagI LNK_INJ_CTL.EN k = false → s.ownPorter
        r.who = false → t.hands k (cmpMsg r st) = true)
      ∧ t.stk = s.stk
      ∧ t.coh = s.coh
      ∧ OnlyRegs { s with place := t.place, front := t.front } t)
  ∧ (∀ (s : State) (i : Instr) (m : MgWrite),
    i = .reshelverDisable m ∨ i = .reshelverEnable m →
    let en := m.word.getLsbD 31
    Admits s SHT_RSH_CTL.word.off m.src →
    s.flag SHT_RSH_CTL.STOPPING = false →
    ∃ t, exec i s = .next t ∧ t.rd SHT_RSH_CTL.PACE = fieldGet SHT_RSH_CTL.PACE m.word
      ∧ t.rd SHT_RSH_CTL.EN = en.toNat
      ∧ t.rd SHT_RSH_CTL.STOPPING = (s.flag SHT_RSH_CTL.EN && !en).toNat
      ∧ ((s.flag SHT_RSH_CTL.EN && !en) = true → t.place =
        { s.place with running := none, todo := if s.place.running.isSome then [] else s.place.todo })
      ∧ ((s.flag SHT_RSH_CTL.EN && !en) = false → t.place = s.place ∧ t.out = [answerOut m.src stOk rsnNone 0])
      ∧ answerOut m.src stOk rsnNone 0 ∈ t.out
      ∧ OnlyRegs { s with place := t.place, front := t.front } t
      ∧ t.stk = s.stk)
  ∧ (∀ (s : State),
    let on := s.flag SHT_RSH_CTL.STOPPING = true ∧ s.rshQuiet = true
    ∃ t, exec (.reshelverShutdownEnd) s = .next t ∧ (on → t.rd SHT_RSH_CTL.STOPPING = 0 ∧ t.rd SHT_RSH_CTL.EN_PEND = 0 ∧ t.rd
      SHT_RSH_CTL.EN = s.rd SHT_RSH_CTL.EN)
      ∧ (¬ on → RegsBut [] s t)
      ∧ t.out = []
      ∧ OnlyRegs s t
      ∧ RegsBut [SHT_RSH_CTL.word.off] s t)

/-- A Ledger operation that the slice serves and that neither a transition nor the mirror port holds back enters, behind those that wait,
  the lane of its line, with its tile rows and the reason for which it will be refused, if any; an operation on a line that the slice
  does not home is also an event of class 3. A full lane leaves it waiting. LMERGE and the reserved type from a casement are refused with
  FIELD_INVALID. No cell, no row state, no other lane and no line of the Stacks changes. Disabling and enabling the Ledger: EN and
  STOPPING as written, unless the Ledger failed at start; the shutdown ends when nothing is left in it. -/
def Obligations.LedgerAcceptance : Prop :=
  (∀ (s : State) (r : Req) (o : LedgerOp),
    let k := s.lane r.line
    let j := s.ldgJob r o .request (s.front.inbox.contains (.ledgerOpAccept r o))
    s.dozing = false →
    s.flag LDG_STATUS.RELOAD = false →
    s.parkedFor r.who = false →
    o.kind ≠ .reserved →
    o.kind ≠ .lmerge →
    r.who.kind = .agent → s.lostAgents.getLsbD r.who.id.toNat = false →
    s.preparing = false →
    (s.mirShut && s.ldgMirrored j) = false →
    s.ldgMirBlocked j = false →
    ∃ t, exec (.ledgerOpAccept r o) s = .next t ∧ ((s.ldgLane k).length < 16 → t.ldgLane k = s.ldgLane k ++ [j])
      ∧ (16 ≤ (s.ldgLane k).length → t.ldg = s.ldg ∧ t.front.presented.getLast? = some ⟨k, 2, .ledgerOpAccept r o⟩ ∧ RegsBut [] s t)
      ∧ (∀ n : Nat, n < 4 → n ≠ k → t.ldgLane n = s.ldgLane n)
      ∧ (j.refused = some rsnNotHome → (s.ldgLane k).length < 16 → t.rdI ERR_CNT.COUNT 3 = min (s.rdI ERR_CNT.COUNT 3 + 1) (2 ^
        ERR_CNT.COUNT.w - 1))
      ∧ t.ldg = { s.ldg with lane := t.ldg.lane }
      ∧ OnlyRegs { s with front := t.front, ldg := t.ldg, err := t.err } t
      ∧ RegsBut (bucketReg r :: faultRegs 3) s t)
  ∧ (∀ (s : State) (r : Req) (o : LedgerOp),
    s.dozing = false →
    s.flag LDG_STATUS.RELOAD = false →
    s.parkedFor r.who = false →
    o.kind = .reserved ∨ o.kind = .lmerge →
    ∃ t, exec (.ledgerOpAccept r o) s = .next t ∧ (∀ c : Nat, s.casementOf (routeKey r.who) = some c → s.flagI LNK_INJ_CTL.EN c = false →
      s.ownPorter r.who = false → t.hands c (cmpMsg r stRefused rsnField) = true)
      ∧ OnlyRegs { s with front := t.front } t
      ∧ (∀ c : Nat, s.casementOf (routeKey r.who) = some c → s.flagI LNK_INJ_CTL.EN c = false → RegsBut [bucketReg r] s t))
  ∧ (∀ (s : State) (i : Instr) (m : MgWrite),
    i = .ledgerDisable m ∨ i = .ledgerEnable m →
    let en := m.word.getLsbD 31
    Admits s LDG_CTL.word.off m.src →
    s.flag LDG_CTL.STOPPING = false →
    ∃ t, exec i s = .next t ∧ (s.flag DBK_DEGRADED.LEDGER = true → RegsBut [] s t)
      ∧ (s.flag DBK_DEGRADED.LEDGER = false → t.rd LDG_CTL.EN = en.toNat ∧ t.rd LDG_CTL.STOPPING = (s.flag LDG_CTL.EN && !en).toNat)
      ∧ t.out = [answerOut m.src stOk rsnNone 0]
      ∧ OnlyRegs s t
      ∧ RegsBut [LDG_CTL.word.off] s t)
  ∧ (∀ (s : State),
    let on := s.flag LDG_CTL.STOPPING = true ∧ s.ldgQuiet = true
    ∃ t, exec (.ledgerShutdownEnd) s = .next t ∧ (on → t.rd LDG_CTL.STOPPING = 0 ∧ t.rd LDG_CTL.EN_PEND = 0 ∧ t.rd LDG_CTL.EN = s.rd
      LDG_CTL.EN)
      ∧ (¬ on → RegsBut [] s t)
      ∧ t.out = []
      ∧ OnlyRegs s t
      ∧ RegsBut [LDG_CTL.word.off] s t)

/-- The operation at the head of a unit, with a free lane back: LACC and LACC.S, which nothing turns away, add their numbers, for LACC.S
  scaled by the working entry, to the covered cells of the live or the shadow half, and are answered OVERFLOW when that sets OVF in a
  cell, POISON without adding anything when the request is poisoned, and otherwise OK; LCLR empties both halves, takes the epoch and the
  seed, and clears the token flags and PSN; LSNAP changes no cell and sends the row in ten beats. An operation that is turned away is
  answered with its status and changes no row. -/
def Obligations.LedgerContributions : Prop :=
  (∀ (s : State) (i : Instr) (k : BitVec 2) (j : LdgJob) (z : (Nat × Nat)),
    i = .lacc k ∨ i = .laccS k →
    (s.ldgUnit k.toNat).head? = some j →
    s.ldgTurn j (j.rows.map (fun f => s.contribution f j.o.epoch)) = some z →
    j.o.kind = (if i = .lacc k then .lacc else .laccS) →
    s.ldgFull k.toNat = false →
    ∃ t, exec i s = .next t ∧ t.ldg = { s.ldg with unit := t.ldg.unit }
      ∧ t.ldgUnit k.toNat = (s.ldgUnit k.toNat).tail
      ∧ (j.src = .request → ∀ c : Nat, s.casementOf (routeKey j.r.who) = some c → s.flagI LNK_INJ_CTL.EN c = false → s.ownPorter j.r.who
        = false → (z.1 ≠ stOk ∨ j.r.noack = false) → t.hands c (cmpMsg j.r z.1 z.2 (if z.1 = stNack then 1 else 0)) = true)
      ∧ t.stk = s.stk
      ∧ t.coh = s.coh
      ∧ RegsBut [LDG_OPS.word.off, LDG_NACKS.word.off, LDG_LATE.word.off, LDG_ROW_DRAIN.word.off] s t)
  ∧ (∀ (s : State) (i : Instr) (k : BitVec 2) (j : LdgJob) (f : RowRef),
    i = .lacc k ∨ i = .laccS k →
    (s.ldgUnit k.toNat).head? = some j →
    j.rows.head? = some f →
    let p := s.halfRow f (s.contribution f j.o.epoch == .live)
    let cells := coveredCells j.o f
    let old := s.rowImg p
    let new := cells.foldl (fun v x => rowPut v x.1 (cellUpdate f.fast j.o.shape.toNat (rowCell v x.1) (cellNums j.o (s.jobNums j.o)
      x.2))) old
    let ovf := (List.range 32).any (fun n => !f.fast && cellOvf (rowCell new n) && !(cellOvf (rowCell old n)))
    let st := if j.r.psn then stPoison else if ovf then stOverflow else stOk
    j.o.kind = (if i = .lacc k then .lacc else .laccS) →
    s.ldgFull k.toNat = false →
    j.rows = [f] →
    s.ldg.ecc = [] →
    s.ldgTurn j [s.contribution f j.o.epoch] = none →
    ∃ t, exec i s = .next t ∧ (t.rowImg p = (if j.r.psn then old else new))
      ∧ (t.rowSt f = (if j.r.psn then { s.rowSt f with psn := true } else s.rowSt f))
      ∧ TabBut (rowEmpty false) [p] s.ldg.rows t.ldg.rows
      ∧ TabBut RowSt.init [f.base] s.ldg.st t.ldg.st
      ∧ t.ldgUnit k.toNat = (s.ldgUnit k.toNat).tail
      ∧ (j.src = .request → ∀ c : Nat, s.casementOf (routeKey j.r.who) = some c → s.flagI LNK_INJ_CTL.EN c = false → s.ownPorter j.r.who
        = false → (st ≠ stOk ∨ j.r.noack = false) → t.hands c (cmpMsg j.r st) = true)
      ∧ t.ldg = { s.ldg with unit := t.ldg.unit, rows := t.ldg.rows, st := t.ldg.st }
      ∧ t.stk = s.stk
      ∧ t.coh = s.coh
      ∧ (s.pairOn = false → RegsBut ([LDG_OPS.word.off, LDG_OVERFLOWS.word.off, LDG_ROW_DRAIN.word.off] ++ (if ovf then faultRegs 5 else
        [])) s t))
  ∧ (∀ (s : State) (k : BitVec 2) (j : LdgJob) (f : RowRef),
    (s.ldgUnit k.toNat).head? = some j →
    j.rows.head? = some f →
    j.o.kind = .lclr →
    s.ldgFull k.toNat = false →
    j.rows = [f] →
    s.ldgTurn j (if (s.rowSt f).draining || s.ldg.held.any (fun h => h.job.r.line = j.r.line) then [.nack] else []) = none →
    ∃ t, exec (.lclr k) s = .next t ∧ t.rowImg f.base = rowEmpty f.fast
      ∧ (f.shadow = true → t.rowImg (f.base + 1) = rowEmpty f.fast)
      ∧ t.rowSt f =
        { s.rowSt f with cur := j.o.epoch, tokl := false, toks := false, psn := false, seed := (seedOf j.o).getD (s.rowSt f).seed }
      ∧ (TabBut (rowEmpty false) [f.base, if f.shadow then f.base + 1 else f.base] s.ldg.rows t.ldg.rows)
      ∧ TabBut RowSt.init [f.base] s.ldg.st t.ldg.st
      ∧ (j.src = .request → ∀ c : Nat, s.casementOf (routeKey j.r.who) = some c → s.flagI LNK_INJ_CTL.EN c = false → s.ownPorter j.r.who
        = false → t.hands c (cmpMsg j.r stOk) = true)
      ∧ t.stk = s.stk
      ∧ (s.pairOn = false → RegsBut [LDG_OPS.word.off, LDG_ROW_DRAIN.word.off] s t))
  ∧ (∀ (s : State) (k : BitVec 2) (j : LdgJob) (f : RowRef),
    (s.ldgUnit k.toNat).head? = some j →
    j.rows.head? = some f →
    let img := s.rowImg (s.halfRow f (!j.o.half))
    let st := if !f.fast && rowOvf img then stOverflow else if (s.rowSt f).psn then stPoison else stOk
    j.o.kind = .lsnap →
    s.ldgFull k.toNat = false →
    s.ldg.ecc = [] →
    s.ldgTurn j [] = none →
    ∃ t, exec (.lsnap k) s = .next t ∧ t.ldg = { s.ldg with unit := t.ldg.unit }
      ∧ (∀ c : Nat, s.casementOf (routeKey j.r.who) = some c → s.flagI LNK_INJ_CTL.EN c = false → s.ownPorter j.r.who = false → ∀ b :
        Nat, b < 10 → t.hands c
        { datMsg j.r 4 false with status := st, psn := (s.rowSt f).psn, beat := b, body := .rowBeat (img.extractLsb' (1024 * b) 1024) } =
        true)
      ∧ t.stk = s.stk
      ∧ t.coh = s.coh
      ∧ (∀ c : Nat, s.casementOf (routeKey j.r.who) = some c → s.flagI LNK_INJ_CTL.EN c = false → RegsBut [LDG_OPS.word.off] s t))

/-- LDRAIN of one row outside every chain that nothing turns away sets DRAINING and CUR to the next epoch and swaps the halves of a
  shadow row; DRAIN_READ reads the drained half, leaves it empty and DRAINING clear, and hands the rounded line to the write-out;
  DRAIN_WRITE_OUT of a line that is resident and free writes it DIRTY and answers the drain at its ack point. LDG_ROW_DRAIN with GO
  enters the drain of the line in the drain registers, is refused while one runs or for RMODE 3. HELD_DRAIN_TIMEOUT of a held drain puts
  its context into FAULT unless HOLD_TMO is 0; of any other line it changes nothing. -/
def Obligations.LedgerDrains : Prop :=
  (∀ (s : State) (k : BitVec 2) (j : LdgJob) (f : RowRef),
    (s.ldgUnit k.toNat).head? = some j →
    j.rows.head? = some f →
    j.o.kind = .ldrain →
    s.ldgFull k.toNat = false →
    j.rows = [f] →
    s.chnOfJob j = none →
    s.ldgTurn j [s.drainCls f j.o.epoch] = none →
    s.ldg.held.any (fun h => h.job.r.line = j.r.line) = false →
    ∃ t, exec (.ldrain k) s = .next t ∧ (t.rowSt f =
      { s.rowSt f with draining := true, cur := j.o.epoch + 1, live := if f.shadow then !(s.rowSt f).live else (s.rowSt f).live, tokl := (s.rowSt f).toks, toks := false, seed := (seedOf j.o).getD (s.rowSt f).seed })
      ∧ tget [] t.ldg.drains k.toNat = tget [] s.ldg.drains k.toNat ++ [Drain.mk j [(f, s.halfRow f true)] none]
      ∧ t.ldg = { s.ldg with unit := t.ldg.unit, st := t.ldg.st, drains := t.ldg.drains }
      ∧ TabBut RowSt.init [f.base] s.ldg.st t.ldg.st
      ∧ t.stk = s.stk
      ∧ t.coh = s.coh
      ∧ (s.pairOn = false → OnlyRegs { s with ldg := t.ldg } t ∧ RegsBut [] s t))
  ∧ (∀ (s : State) (k : BitVec 2) (d : Drain) (x : (RowRef × Nat)),
    (tget [] s.ldg.drains k.toNat).head? = some d →
    d.rows.head? = some x →
    let o := d.job.o
    let st := if !x.1.fast && rowOvf (s.rowImg x.2) then stOverflow else if (s.rowSt x.1).psn then stPoison else stOk
    d.rows = [x] →
    d.ctx = none →
    s.ldgFull k.toNat = false →
    s.ldg.ecc = [] →
    ∃ t, exec (.drainRead k) s = .next t ∧ t.rowImg x.2 = rowEmpty x.1.fast
      ∧ t.rowSt x.1 = { s.rowSt x.1 with draining := false }
      ∧ (tget [] t.ldg.outs k.toNat) = tget [] s.ldg.outs k.toNat ++ [⟨d.job, roundRow o d.job.r.line (s.rowSt x.1).seed x.1 (s.rowImg
        x.2) 0, (s.rowSt x.1).psn, st, 1⟩]
      ∧ tget [] t.ldg.drains k.toNat = (tget [] s.ldg.drains k.toNat).tail
      ∧ TabBut (rowEmpty false) [x.2] s.ldg.rows t.ldg.rows
      ∧ TabBut RowSt.init [x.1.base] s.ldg.st t.ldg.st
      ∧ t.rd LDG_DRAINS.COUNT = min (s.rd LDG_DRAINS.COUNT + 1) (2 ^ LDG_DRAINS.COUNT.w - 1)
      ∧ t.out = []
      ∧ OnlyRegs { s with ldg := t.ldg, front := t.front } t
      ∧ (o.rmode ≠ 2 → RegsBut [LDG_DRAINS.word.off] s t))
  ∧ (∀ (s : State) (k : BitVec 2) (x : WriteOut) (w : Nat),
    (tget [] s.ldg.outs k.toNat).head? = some x →
    let r := s.outReq x
    s.lookup r.line = some w →
    let set := lineSet r.line
    s.front.failed = false →
    s.dozing = false →
    WordsOk s r.line →
    s.sealWalk r.line = false →
    s.txn r.line = none →
    s.coh.resv.any (fun v => v.line = r.line) = false →
    s.tableFull (.wrLine r x.data) r = false →
    s.mirBlocked (.wrLine r x.data) r = false →
    (s.mirShut && s.needsMirror (.wrLine r x.data) r) = false →
    s.blockCause (.wrLine r x.data) r = none →
    HomeHit s r.line w →
    s.catFind r.line = none →
    s.serving set w ∈ s.writeBanks set w →
    ∃ t, exec (.drainWriteOut k) s = .next t ∧ t.lineData set w (lineBit r.line) = x.data
      ∧ ((t.tag set w).st (lineBit r.line) = (if r.scope = 3 then .clean else .dirty))
      ∧ (t.tag set w).p (lineBit r.line) = x.psn
      ∧ tget [] t.ldg.outs k.toNat = (tget [] s.ldg.outs k.toNat).tail
      ∧ TabBut 0 (s.lineKeys set w (lineBit r.line)) s.stk.beats t.stk.beats
      ∧ TabBut TagW.empty [32 * set + w] s.stk.tags t.stk.tags
      ∧ (x.job.src = .request → s.pairOn = false → r.scope ≠ 3 → ∀ c : Nat, s.casementOf (routeKey x.job.r.who) = some c → s.flagI
        LNK_INJ_CTL.EN c = false → s.ownPorter x.job.r.who = false → t.hands c (cmpMsg x.job.r x.status) = true)
      ∧ t.coh.cat = s.coh.cat
      ∧ t.ldg = { s.ldg with outs := t.ldg.outs })
  ∧ (∀ (s : State) (m : MgWrite),
    let line := BitVec.ofNat 45 (s.rd LDG_DRN_PA_HI.PA_HI * 2 ^ 25 + s.rd LDG_DRN_PA_LO.PA_LO)
    let k := s.lane line
    let bad := s.flag LDG_ROW_DRAIN.GO = true ∨ fieldGet LDG_ROW_DRAIN.RMODE m.word = 3
    Admits s LDG_ROW_DRAIN.word.off m.src →
    m.word.getLsbD 31 = true →
    s.served = true →
    s.front.failed = false →
    s.preparing = false →
    s.pairOn = false →
    ∃ t, exec (.ldgRowDrain m) s = .next t ∧ (bad → t.out = [answerOut m.src stRefused (if s.flag LDG_ROW_DRAIN.GO = true then rsnBusy
      else rsnField) 0] ∧ t.ldg = s.ldg ∧ RegsBut [] s t)
      ∧ (¬ bad → t.out = [answerOut m.src stOk rsnNone 0] ∧ t.rd LDG_ROW_DRAIN.GO = 1 ∧ (t.ldgLane k).dropLast = s.ldgLane k)
      ∧ (¬ bad → ((t.ldgLane k).getLast?.map (fun j => (j.r.line, j.o.kind, j.o.epoch, j.src))) = some (line, .ldrain, s.word
        LDG_DRN_EPOCH.word.off, .register))
      ∧ t.ldg = { s.ldg with lane := t.ldg.lane }
      ∧ OnlyRegs { s with ldg := t.ldg, front := t.front } t
      ∧ RegsBut [LDG_ROW_DRAIN.word.off] s t)
  ∧ (∀ (s : State) (line : LineAddr) (h : Held),
    s.ldg.held.find? (fun h => h.job.r.line = line) = some h →
    h.job.rows ≠ [] →
    h.ctx < 16 →
    ∃ t, exec (.heldDrainTimeout line) s = .next t ∧ (s.rd CHN_CTL.HOLD_TMO ≠ 0 → s.chnFaulty h.ctx = false → t.chnFaulty h.ctx = true ∧
      (t.rd CHN_STATUS.FAULT).testBit h.ctx = true ∧ (t.rd ERR_STATUS.PEND).testBit 6 = true ∧ t.ldg.held = s.ldg.held.filter (fun x =>
      x.ctx != h.ctx))
      ∧ (s.rd CHN_CTL.HOLD_TMO = 0 ∨ s.chnFaulty h.ctx = true → t.ldg = s.ldg ∧ t.chn = s.chn ∧ RegsBut [] s t)
      ∧ t.stk = s.stk)
  ∧ (∀ (s : State) (line : LineAddr),
    s.ldg.held.any (fun h => h.job.r.line = line) = false →
    ∃ t, exec (.heldDrainTimeout line) s = .next t ∧ t.out = []
      ∧ OnlyRegs s t
      ∧ RegsBut [] s t)

/-- BIND_COMMIT that breaks a rule of bindings is refused with its reason and changes no register; one that keeps them, and every
  BIND_REMOVE, waits, its answer held, and the valid chain contexts of the binding fail and lose VALID. BIND_COMMIT_APPLY does nothing
  while an operation or a drain is on the old or the new rows; otherwise the four words of the entry take the committed values and its
  rows are cleared, or VALID is cleared, and the answer is given. SCALE_COMMIT refuses a NaN or an infinity in MUL; otherwise master and
  working copy take the entry, the replaced one enters history slot GEN mod 8, and GEN advances. SCALE_QUEUE_APPLY with an empty queue
  changes nothing; otherwise the oldest commit is installed in the same way. -/
def Obligations.LedgerBindingsAndScales : Prop :=
  (∀ (s : State) (i : Instr) (n : BitVec 5) (m : MgWrite),
    i = .bindCommit n m ∨ i = .bindRemove n m →
    let off := LDG_BIND_CTL.word.off + 16 * n.toNat
    let ctl := match regRow s.s64 off with | some row => plainWrite row (s.word off) m.word | none => s.word off
    let b := BindWait.mk n.toNat m.src (s.bindWord n.toNat 0) (s.bindWord n.toNat 1) (s.bindWord n.toNat 2) ctl
    let bad := m.word.getLsbD 31 = true ∧ s.bindRefusal b ≠ 0
    Admits s off m.src →
    ∃ t, exec i s = .next t ∧ (bad → t.out = [answerOut m.src stRefused (s.bindRefusal b) 0] ∧ OnlyRegs s t ∧ RegsBut [] s t)
      ∧ (¬ bad → t.ldg.commits = s.ldg.commits ++ [b])
      ∧ (¬ bad → ∀ c : Nat, c < 16 → s.chnOk c = true → s.rdI CHN_CTX_SLOTS.BIND c = n.toNat → t.chnOk c = false ∧ t.chnFaulty c = true)
      ∧ (¬ bad → (∀ c : Nat, c < 16 → s.chnOk c = true → s.rdI CHN_CTX_SLOTS.BIND c ≠ n.toNat) → t.out = [] ∧ OnlyRegs
        { s with ldg := t.ldg } t ∧ t.ldg = { s.ldg with commits := t.ldg.commits } ∧ RegsBut [] s t))
  ∧ (∀ (s : State) (n : BitVec 5) (b : BindWait),
    s.ldg.commits.find? (fun b => b.n = n.toNat) = some b →
    let base := LDG_BIND_BASE_LO.word.off + 16 * n.toNat
    let old := if s.bindOk n.toNat then s.bindRowsOf n.toNat else (0, 0)
    let new := if b.ctl.getLsbD 31 then bindRows b.size b.ctl else (0, 0)
    let busy := s.rowsBusy old new = true
    ∃ t, exec (.bindCommitApply n) s = .next t ∧ (busy → t.ldg = s.ldg ∧ t.out = [] ∧ OnlyRegs s t ∧ RegsBut [] s t)
      ∧ (¬ busy → t.ldg.commits = s.ldg.commits.erase b ∧ t.out = [answerOut b.src stOk rsnNone 0])
      ∧ (¬ busy → b.ctl.getLsbD 31 = true → t.word base = b.baseLo ∧ t.word (base + 4) = b.baseHi ∧ t.word (base + 8) = b.size ∧ t.word
        (base + 12) = b.ctl)
      ∧ (¬ busy → b.ctl.getLsbD 31 = false → t.bindOk n.toNat = false)
      ∧ (¬ busy → ∀ p : Nat, p < 4096 → (new.1 ≤ p ∧ p < new.1 + new.2 → t.rowImg p = rowEmpty (b.ctl.getLsbD 30)) ∧ (¬ (new.1 ≤ p ∧ p <
        new.1 + new.2) → t.rowImg p = s.rowImg p))
      ∧ OnlyRegs { s with ldg := t.ldg } t
      ∧ t.ldg = { s.ldg with commits := t.ldg.commits, stage := t.ldg.stage, rows := t.ldg.rows, st := t.ldg.st, ecc := t.ldg.ecc }
      ∧ RegsBut [base, base + 4, base + 8, base + 12] s t)
  ∧ (∀ (s : State) (n : BitVec 8) (m : MgWrite),
    let k := n.toNat
    let mul := BitVec.ofNat 32 (s.rdI LDG_SCALE_MUL.MUL k)
    let bad := f32Nan mul = true ∨ f32Inf mul = true
    let e := ScaleEnt.mk (m.word.getLsbD 31) (BitVec.ofNat 7 (fieldGet LDG_SCALE_CTL.SHIFT m.word)) mul
    let old := tget ScaleEnt.init s.ldg.master k
    let slot := 8 * k + s.rdI LDG_SCALE_CTL.GEN k % 8
    Admits s (LDG_SCALE_CTL.word.off + 16 * k) m.src →
    s.scalePaired = false →
    ∃ t, exec (.scaleCommit n m) s = .next t ∧ (bad → t.out = [answerOut m.src stRefused rsnField 0] ∧ t.ldg = s.ldg ∧ RegsBut [] s t)
      ∧ (¬ bad → t.out = [answerOut m.src stOk rsnNone 0] ∧ tget ScaleEnt.init t.ldg.master k = e ∧ t.scaleEnt k = e)
      ∧ (¬ bad → t.flagI LDG_SCALE_CTL.VALID k = e.valid ∧ t.rdI LDG_SCALE_CTL.SHIFT k = e.shift.toNat ∧ t.rdI LDG_SCALE_MUL.MUL k =
        mul.toNat ∧ t.rdI LDG_SCALE_CTL.GEN k = (s.rdI LDG_SCALE_CTL.GEN k + 1) % 2 ^ LDG_SCALE_CTL.GEN.w)
      ∧ (¬ bad → t.rdI LDG_SHIST_MUL.MUL slot = old.mul.toNat ∧ t.flagI LDG_SHIST_INFO.VALID slot = old.valid ∧ t.rdI
        LDG_SHIST_INFO.SHIFT slot = old.shift.toNat ∧ t.rdI LDG_SHIST_INFO.GEN slot = s.rdI LDG_SCALE_CTL.GEN k % 2 ^
        LDG_SHIST_INFO.GEN.w)
      ∧ TabBut ScaleEnt.init [k] s.ldg.master t.ldg.master
      ∧ TabBut ScaleEnt.init [k] s.ldg.scale t.ldg.scale
      ∧ t.ldg = { s.ldg with master := t.ldg.master, scale := t.ldg.scale }
      ∧ OnlyRegs { s with ldg := t.ldg } t
      ∧ RegsBut [LDG_SCALE_CTL.word.off + 16 * k, LDG_SCALE_MUL.MUL.off + LDG_SCALE_MUL.MUL.stride * k, LDG_SHIST_MUL.MUL.off +
        LDG_SHIST_MUL.MUL.stride * slot, LDG_SHIST_INFO.VALID.off + LDG_SHIST_INFO.VALID.stride * slot] s t)
  ∧ (∀ (s : State),
    ∃ t, exec (.scaleQueueApply) s = .next t ∧ (s.mir.scaleQ = [] → OnlyRegs s t ∧ t.out = [] ∧ RegsBut [] s t)
      ∧ (∀ x : MirHdr × BitVec 128, s.mir.scaleQ.head? = some x → s.mir.waiting = [] → s.rd MIR_STATUS.STATE = 2 → t.mir.scaleQ =
        s.mir.scaleQ.tail ∧ tget ScaleEnt.init t.ldg.master (x.2.toNat % 256) = tget ScaleEnt.init t.ldg.scale (x.2.toNat % 256) ∧ (tget
        ScaleEnt.init t.ldg.master (x.2.toNat % 256)).mul = x.2.extractLsb' 64 32)
      ∧ (TabBut ScaleEnt.init ((s.mir.scaleQ.head?.map (fun x => x.2.toNat % 256)).toList) s.ldg.master t.ldg.master))

/-- Where no injector is armed on the Wicket or the Transom: a message whose CRC fails is counted and returns its credit, nothing more; a
  TOKEN of no context is answered TREF; one of a failed context TREF, one already merged TACK, one past a gap TNACK at most, and the
  expected one enters the Ledger lane of its row as LMERGE with its credit returned. LMERGE that nothing turns away adds the image to the
  row's half, sets its token flag, advances RX_EXPECT and answers TACK with the status. TACK acknowledges every token up to its SEQ and
  sets TX_ACKED, TNACK those before it and schedules a resend, TREF puts the context into FAULT and discards its tokens. -/
def Obligations.ChainMessages : Prop :=
  (∀ (s : State) (h : BitVec 256) (image : RowImage),
    let good := h.extractLsb' 224 32 = chainCrc h (some image)
    hdrMsg h = 0 →
    Uninjected s 5 →
    Uninjected s 7 →
    ∃ t, exec (.token h image) s = .next t ∧ (¬ good → t.rd CHN_CRC_ERR.COUNT = min (s.rd CHN_CRC_ERR.COUNT + 1) (2 ^ CHN_CRC_ERR.COUNT.w
      - 1) ∧ t.out = [.linkCredit 5 0 1] ∧ OnlyRegs s t ∧ RegsBut [CHN_CRC_ERR.COUNT.off] s t)
      ∧ (good → s.rxContext h = none → ChainSent s t (chainHdr 3 stRefused (hdrChain h) ((hdrPos h + 1) % 64) false (hdrSeq h) rsnField 0
        0 0 (hdrSrc h) s.coord) none ∧ t.ldg = s.ldg ∧ RegsBut (faultRegs 6) s t)
      ∧ (∀ c : Nat, s.rxContext h = some c → good → s.chn.waiting = [] → tget false s.chn.merging c = false → s.chnFaulty c = true →
        ChainSent s t (chainHdr 3 stRefused (hdrChain h) (s.rdI CHN_CTX_CTL.POS c) false (hdrSeq h) rsnChainFault 0 0 0 (hdrSrc h)
        s.coord) none ∧ t.ldg = s.ldg ∧ RegsBut [] s t)
      ∧ (∀ c : Nat, s.rxContext h = some c → good → s.chn.waiting = [] → tget false s.chn.merging c = false → s.chnFaulty c = false →
        32768 ≤ (hdrSeq h - BitVec.ofNat 16 (s.rdI CHN_CTX_SEQ.RX_EXPECT c)).toNat → ChainSent s t (chainHdr 1 stOk (hdrChain h) (s.rdI
        CHN_CTX_CTL.POS c) false (BitVec.ofNat 16 (s.rdI CHN_CTX_SEQ.RX_EXPECT c) - 1) 0 0 0 0 (hdrSrc h) s.coord) none ∧ t.ldg = s.ldg ∧
        RegsBut [CHN_DUP.COUNT.off] s t)
      ∧ (∀ c : Nat, s.rxContext h = some c → good → s.chn.waiting = [] → tget false s.chn.merging c = false → s.chnFaulty c = false → 0 <
        (hdrSeq h - BitVec.ofNat 16 (s.rdI CHN_CTX_SEQ.RX_EXPECT c)).toNat → (hdrSeq h - BitVec.ofNat 16 (s.rdI CHN_CTX_SEQ.RX_EXPECT
        c)).toNat < 32768 → tfind s.chn.nacked c = none → ChainSent s t (chainHdr 2 stOk (hdrChain h) (s.rdI CHN_CTX_CTL.POS c) false
        (BitVec.ofNat 16 (s.rdI CHN_CTX_SEQ.RX_EXPECT c)) 0 0 0 0 (hdrSrc h) s.coord) none ∧ t.ldg = s.ldg ∧ RegsBut [] s t)
      ∧ (good → (s.rxContext h).isSome = true → Out.linkCredit 5 0 1 ∈ t.out ∨ t.chn =
        { s.chn with waiting := s.chn.waiting ++ [((s.rxContext h).getD 0, h, image)] } ∧ t.ldg = s.ldg))
  ∧ (∀ (s : State) (h : BitVec 256) (image : RowImage) (c : Nat) (p : (LineAddr × Nat)),
    s.rxContext h = some c →
    s.tokenPlace c (hdrTrow h) = some p →
    let j := s.tokenJob c h image p.1 p.2
    let k := s.lane p.1
    hdrMsg h = 0 →
    h.extractLsb' 224 32 = chainCrc h (some image) →
    Uninjected s 5 →
    Uninjected s 7 →
    s.chn.waiting = [] →
    tget false s.chn.merging c = false →
    s.chnFaulty c = false →
    BitVec.ofNat 16 (s.rdI CHN_CTX_SEQ.RX_EXPECT c) = hdrSeq h →
    s.front.failed = false →
    s.served = true →
    s.dozing = false →
    s.flag LDG_STATUS.RELOAD = false →
    s.preparing = false →
    (s.mirShut && s.ldgMirrored j) = false →
    s.ldgMirBlocked j = false →
    (s.ldgLane k).length < 16 →
    ∃ t, exec (.token h image) s = .next t ∧ t.ldgLane k = s.ldgLane k ++ [j]
      ∧ (∀ n : Nat, n < 4 → n ≠ k → t.ldgLane n = s.ldgLane n)
      ∧ tget false t.chn.merging c = true
      ∧ t.out = [.linkCredit 5 0 1]
      ∧ t.ldg = { s.ldg with lane := t.ldg.lane }
      ∧ OnlyRegs { s with front := t.front, ldg := t.ldg, chn := { s.chn with merging := t.chn.merging } } t
      ∧ RegsBut [] s t)
  ∧ (∀ (s : State) (k : BitVec 2) (j : LdgJob) (f : RowRef),
    (s.ldgUnit k.toNat).head? = some j →
    j.rows.head? = some f →
    let c := j.o.ctx.toNat
    let h := s.jobHdr c j
    let live := s.contribution f j.o.epoch == .live
    let p := s.halfRow f live
    let old := s.rowImg p
    let new := (List.range 32).foldl (fun v x => rowPut v x (cellAdd (rowCell v x) (rowCell j.o.image x))) old
    let ovf := (List.range 32).any (fun x => cellOvf (rowCell new x) && !(cellOvf (rowCell old x)))
    let st := if ovf then stOverflow else if j.r.psn then stPoison else stOk
    let due := BitVec.ofNat 16 (s.rdI CHN_CTX_SEQ.RX_EXPECT c) = hdrSeq h
    j.o.kind = .lmerge →
    s.ldgFull k.toNat = false →
    j.rows = [f] →
    s.ldg.ecc = [] →
    s.ldg.held = [] →
    s.chn.waiting = [] →
    s.ldgTurn j [s.contribution f j.o.epoch] = none →
    (if live then (s.rowSt f).tokl else (s.rowSt f).toks) = false →
    Uninjected s 5 →
    Uninjected s 7 →
    s.pairOn = false →
    ∃ t, exec (.lmerge k) s = .next t ∧ t.rowImg p = new
      ∧ t.rowSt f =
        { s.rowSt f with psn := (s.rowSt f).psn || j.r.psn, tokl := (s.rowSt f).tokl || live, toks := (s.rowSt f).toks || !live }
      ∧ TabBut (rowEmpty false) [p] s.ldg.rows t.ldg.rows
      ∧ TabBut RowSt.init [f.base] s.ldg.st t.ldg.st
      ∧ t.ldgUnit k.toNat = (s.ldgUnit k.toNat).tail
      ∧ t.ldg = { s.ldg with unit := t.ldg.unit, rows := t.ldg.rows, st := t.ldg.st }
      ∧ ChainSent s t (chainHdr 1 st (hdrChain h) (s.rdI CHN_CTX_CTL.POS c) false (hdrSeq h) 0 0 0 0 (hdrSrc h) s.coord) none
      ∧ (due → t.rdI CHN_CTX_SEQ.RX_EXPECT c = (hdrSeq h + 1).toNat)
      ∧ (¬ due → t.rdI CHN_CTX_SEQ.RX_EXPECT c = s.rdI CHN_CTX_SEQ.RX_EXPECT c)
      ∧ tget false t.chn.merging c = false
      ∧ t.chn.tokens = s.chn.tokens
      ∧ t.stk = s.stk
      ∧ t.coh = s.coh
      ∧ (RegsBut ([LDG_OPS.word.off, LDG_OVERFLOWS.word.off, CHN_TOK_RX.word.off, CHN_STATUS.word.off, CHN_CTX_SEQ.RX_EXPECT.off +
        CHN_CTX_SEQ.RX_EXPECT.stride * c] ++ (List.range 16).map (fun x => CHN_CTX_ACKED.UNACKED.off + CHN_CTX_ACKED.UNACKED.stride * x)
        ++ (if ovf then faultRegs 5 else [])) s t))
  ∧ (∀ (s : State) (h : BitVec 256) (c : Nat),
    s.txContext h = some c →
    let gone := s.chn.tokens.filter (fun x => x.ctx = c && decide (s.afterAcked c x.seq ≤ s.afterAcked c (hdrSeq h)))
    hdrMsg h = 1 →
    h.extractLsb' 224 32 = chainCrc h none →
    hdrStatus h < 10 →
    Uninjected s 5 →
    Uninjected s 7 →
    s.chnFaulty c = false →
    s.afterAcked c (hdrSeq h) < s.afterAcked c (BitVec.ofNat 16 (s.rdI CHN_CTX_SEQ.TX_NEXT c)) →
    ∃ t, exec (.tack h) s = .next t ∧ t.rdI CHN_CTX_ACKED.TX_ACKED c = (hdrSeq h).toNat
      ∧ (t.chn.tokens = s.chn.tokens.filter (fun x => !(gone.contains x)))
      ∧ (∀ d : ChainDrain, d ∈ s.chn.drains → gone.any (fun x => x.drain = d.id) = false → d ∈ t.chn.drains)
      ∧ (∀ x : Token, gone.head? = some x → gone.length = 1 → ∀ d : ChainDrain, s.chn.drains.find? (fun d => d.id = x.drain) = some d →
        (1 < d.left → ({ d with left := d.left - 1, status := statusMax d.status (hdrStatus h) } : ChainDrain) ∈ t.chn.drains) ∧ (d.left
        = 1 → d.job.src = .request → ∀ a : Nat, s.casementOf (routeKey d.job.r.who) = some a → s.flagI LNK_INJ_CTL.EN a = false →
        s.ownPorter d.job.r.who = false → t.hands a (cmpMsg d.job.r (statusMax d.status (hdrStatus h))) = true))
      ∧ (gone = [] → t.out = [.linkCredit 5 0 1] ∧ t.chn.drains = s.chn.drains)
      ∧ t.stk = s.stk
      ∧ t.coh = s.coh
      ∧ t.ldg = s.ldg
      ∧ (RegsBut ([CHN_STATUS.word.off, LDG_OPS.word.off, LDG_NACKS.word.off, LDG_ROW_DRAIN.word.off] ++ (List.range 16).map (fun x =>
        CHN_CTX_ACKED.UNACKED.off + CHN_CTX_ACKED.UNACKED.stride * x)) s t))
  ∧ (∀ (s : State) (i : Instr) (h : BitVec 256) (c : Nat),
    i = .tnack h ∨ i = .tref h →
    s.txContext h = some c →
    hdrMsg h = (if i = .tnack h then 2 else 3) →
    h.extractLsb' 224 32 = chainCrc h none →
    hdrStatus h < 10 →
    Uninjected s 5 →
    Uninjected s 7 →
    ∃ t, exec i s = .next t ∧ (i = .tnack h → s.chn.tokens.any (fun x => x.ctx = c && x.seq = hdrSeq h) = true → tfind t.chn.resend c =
      some (hdrSeq h) ∧ t.rdI CHN_CTX_ACKED.TX_ACKED c = (hdrSeq h - 1).toNat ∧ t.chn.tokens = s.chn.tokens.filter (fun x => !(x.ctx = c
      && decide (s.afterAcked c x.seq ≤ s.afterAcked c (hdrSeq h - 1)))))
      ∧ (i = .tnack h → s.chn.tokens.any (fun x => x.ctx = c && x.seq = hdrSeq h) = false → t.out = [.linkCredit 5 0 1] ∧ OnlyRegs s t ∧
        RegsBut [] s t)
      ∧ (i = .tref h → t.chnFaulty c = true)
      ∧ (i = .tref h → s.chnFaulty c = false → t.chn.tokens.all (fun x => x.ctx != c) = true ∧ t.ldg.held.all (fun x => x.ctx != c) =
        true)
      ∧ (i = .tref h → ∀ x : Token, x ∈ s.chn.tokens → x.ctx ≠ c → x ∈ t.chn.tokens)
      ∧ t.stk = s.stk
      ∧ t.coh = s.coh)

/-- CHAIN_COMMIT and CHAIN_REMOVE that change CHAIN, POS or LEN of a valid context are refused with FIELD_INVALID, a commit that breaks a
  rule with its reason, and neither changes a register. Otherwise the fields and the role are as written and FAULT, for a commit, is
  clear, its sequence numbers start again, and its tokens and held drains are gone. TNACK_RESEND and TOKEN_RETRANSMIT_TIMEOUT send the
  unacknowledged tokens of the context again from their first on, counted, unless one was already resent RETRY_MAX times, which puts the
  context into FAULT. Credits that arrive on the Wicket let as many waiting messages leave. -/
def Obligations.ChainContexts : Prop :=
  (∀ (s : State) (i : Instr) (c : BitVec 4) (m : MgWrite),
    i = .chainCommit c m ∨ i = .chainRemove c m →
    let k := c.toNat
    let v := m.word.getLsbD 31
    let pos := fieldGet CHN_CTX_CTL.POS m.word
    let len := fieldGet CHN_CTX_CTL.LEN m.word
    let rsn := if s.chnOk k && !(s.chnSame k m.word) then rsnField else if v then s.chnRefusal k m.word else 0
    Admits s (CHN_CTX_CTL.word.off + 32 * k) m.src →
    ∃ t, exec i s = .next t ∧ (rsn ≠ 0 → t.out = [answerOut m.src stRefused rsn 0] ∧ OnlyRegs s t ∧ RegsBut [] s t)
      ∧ (rsn = 0 → answerOut m.src stOk rsnNone 0 ∈ t.out)
      ∧ (rsn = 0 → t.chnOk k = v ∧ t.rdI CHN_CTX_CTL.CHAIN k = fieldGet CHN_CTX_CTL.CHAIN m.word ∧ t.rdI CHN_CTX_CTL.POS k = pos ∧ t.rdI
        CHN_CTX_CTL.LEN k = len ∧ t.rdI CHN_CTX_CTL.ROLE k = (if pos = 0 then 0 else if pos + 1 = len then 2 else 1))
      ∧ (rsn = 0 → v = true → t.chnFaulty k = false ∧ t.rdI CHN_CTX_SEQ.TX_NEXT k = 0 ∧ t.rdI CHN_CTX_SEQ.RX_EXPECT k = 0 ∧ t.rdI
        CHN_CTX_ACKED.TX_ACKED k = 0xFFFF)
      ∧ (rsn = 0 → s.chnOk k = true → t.chn.tokens.all (fun x => x.ctx != k) = true ∧ t.ldg.held.all (fun x => x.ctx != k) = true)
      ∧ (rsn = 0 → s.chnOk k = false → t.out = [answerOut m.src stOk rsnNone 0] ∧ OnlyRegs
        { s with chn := { s.chn with nacked := t.chn.nacked } } t ∧ RegsBut ([CHN_CTX_CTL.word.off + 32 * k, CHN_CTX_SEQ.TX_NEXT.off +
        CHN_CTX_SEQ.TX_NEXT.stride * k, CHN_STATUS.word.off] ++ (List.range 16).map (fun x => CHN_CTX_ACKED.UNACKED.off +
        CHN_CTX_ACKED.UNACKED.stride * x)) s t)
      ∧ t.stk = s.stk
      ∧ t.coh = s.coh)
  ∧ (∀ (s : State) (i : Instr) (c : BitVec 4),
    i = .tnackResend c ∨ i = .tokenRetransmitTimeout c →
    let k := c.toNat
    let q := if i = .tnackResend c then tfind s.chn.resend k else (s.chn.tokens.find? (fun x => x.ctx = k)).map (fun x => x.seq)
    let mine := fun x : Token => x.ctx = k ∧ s.afterAcked k (q.getD 0) ≤ s.afterAcked k x.seq
    let spent := s.chn.tokens.any (fun x => decide (mine x) && decide (max 1 (s.rd CHN_CTL.RETRY_MAX) ≤ x.resent))
    Uninjected s 5 →
    Uninjected s 7 →
    ∃ t, exec i s = .next t ∧ (q = none → t.out = [] ∧ OnlyRegs s t ∧ RegsBut [] s t)
      ∧ (i = .tnackResend c → tfind t.chn.resend k = none)
      ∧ (q.isSome = true → spent = true → t.chnFaulty k = true)
      ∧ (q.isSome = true → spent = false → t.chn.tokens = s.chn.tokens.map (fun x => if mine x then { x with resent := x.resent + 1 }
        else x))
      ∧ (q.isSome = true → spent = false → t.chn.queue.length + s.chn.credits = s.chn.queue.length + t.chn.credits + (s.chn.tokens.filter
        (fun x => decide (mine x))).length)
      ∧ (q.isSome = true → spent = false → t.rd CHN_RETX.COUNT = min (s.rd CHN_RETX.COUNT + (s.chn.tokens.filter (fun x => decide (mine
        x))).length) (2 ^ CHN_RETX.COUNT.w - 1))
      ∧ (q.isSome = true → spent = false → t.ldg = s.ldg ∧ RegsBut [CHN_RETX.COUNT.off] s t)
      ∧ t.stk = s.stk
      ∧ t.coh = s.coh)
  ∧ (∀ (s : State) (w : BitVec 8),
    let total := s.chn.credits + w.toNat % 128
    let n := min total s.chn.queue.length
    Uninjected s 5 →
    Uninjected s 7 →
    ∃ t, exec (.wicketCredit w) s = .next t ∧ (w.getLsbD 7 = false → t.out = [] ∧ OnlyRegs s t)
      ∧ (w.getLsbD 7 = true → t.chn = { s.chn with credits := total - n, queue := s.chn.queue.drop n })
      ∧ (w.getLsbD 7 = true → ∀ x : BitVec 256 × Option RowImage, x ∈ s.chn.queue.take n → s.tranLane (.chain x.1 x.2) = none → Out.chain
        x.1 x.2 ∈ t.out)
      ∧ OnlyRegs { s with chn := t.chn, front := t.front, tran := t.tran } t
      ∧ RegsBut [] s t)

/-- DESCRIPTOR_POLL of an active ring channel that is idle, and PRODUCER_POLL of an active paced one that waits, issue one acquiring
  read; otherwise they change nothing. A valid descriptor with OWN begins its transfer with the fields of R224, an invalid one goes
  straight to its completion, OWN = 0 nothing; a failed read halts the channel. A grant takes the next channel in turn, charges a label
  with a rate, reserves a buffer and issues the reads. A data read enters its bytes, and the last of a burst enters them into the CRC and
  issues the writes; the last write of a transfer ends it; a failure stops it; NACK_RETRY keeps the request, which a resend sends once
  more with its RETRY advanced. -/
def Obligations.PorterTransfers : Prop :=
  (∀ (s : State) (c : BitVec 4),
    let k := c.toNat
    let go := s.porActive k = true ∧ s.flagI POR_CH_CTL.MODE k = true ∧ s.flagI POR_CH_CTL.HALT k = false ∧ s.xfer k = none ∧
      s.por.reqs.all (fun q => !(q.ch = k && q.kind == .descriptor)) = true
    let a := (s.rdI POR_CH_RING_HI.BASE_HI k * 2 ^ 32 + s.rdI POR_CH_RING_LO.BASE_LO k * 64 + 64 * s.rdI POR_CH_RING_CFG.HEAD k) % 2 ^ 52
    ∃ t, exec (.descriptorPoll c) s = .next t ∧ (¬ go → t.out = [] ∧ OnlyRegs s t ∧ RegsBut [] s t)
      ∧ (go → t.por.reqs.length = s.por.reqs.length + 1 ∧ t.por.reqs.dropLast = s.por.reqs)
      ∧ (go → ∀ q : PorReq, t.por.reqs.getLast? = some q → q.ch = k ∧ q.kind = .descriptor ∧ q.wait = false ∧ (∀ r : Req, reqOf q.cmd =
        some r → q.cmd = .rdOnce r ∧ r.line = BitVec.ofNat 45 (a / 128) ∧ r.acq = true ∧ r.rel = false ∧ r.scope = BitVec.ofNat 2 (s.rdI
        POR_CH_CTL.DSC_SCOPE k) ∧ r.label = BitVec.ofNat 3 (s.rdI POR_CH_CTL.LABEL k)) ∧ (s.accepts (BitVec.ofNat 45 (a / 128)) = true →
        t.front.inbox = s.front.inbox ++ [q.cmd]))
      ∧ t.por = { s.por with reqs := t.por.reqs }
      ∧ t.stk = s.stk
      ∧ t.coh = s.coh
      ∧ (s.accepts (BitVec.ofNat 45 (a / 128)) = true → RegsBut porShown s t))
  ∧ (∀ (s : State) (c : BitVec 4) (x : Xfer),
    s.xfer c.toNat = some x →
    let k := c.toNat
    let go := s.porActive k = true ∧ x.stop = none ∧ x.finish = false ∧ (x.pace = .wait ∨ x.pace = .low) ∧ s.por.reqs.all (fun q =>
      !(q.ch = k && q.kind == .producer)) = true
    ∃ t, exec (.producerPoll c) s = .next t ∧ (¬ go → t.out = [] ∧ OnlyRegs s t ∧ RegsBut [] s t)
      ∧ (go → t.por.reqs.length = s.por.reqs.length + 1 ∧ t.por.reqs.dropLast = s.por.reqs)
      ∧ (go → ∀ q : PorReq, t.por.reqs.getLast? = some q → q.ch = k ∧ q.kind = .producer ∧ q.wait = false ∧ (∀ r : Req, reqOf q.cmd =
        some r → q.cmd = .rdOnce r ∧ r.line = BitVec.ofNat 45 (x.prod / 128) ∧ r.acq = true) ∧ (s.accepts (BitVec.ofNat 45 (x.prod /
        128)) = true → t.front.inbox = s.front.inbox ++ [q.cmd]))
      ∧ t.por = { s.por with reqs := t.por.reqs }
      ∧ t.stk = s.stk
      ∧ t.coh = s.coh
      ∧ (s.accepts (BitVec.ofNat 45 (x.prod / 128)) = true → RegsBut porShown s t))
  ∧ (∀ (s : State),
    let none' := s.porBuffers ≤ s.porBursts ∨ s.porNext = none
    ∃ t, exec (.porterBurstGrant) s = .next t ∧ (none' → t.out = [] ∧ OnlyRegs s t ∧ RegsBut [] s t)
      ∧ t.stk = s.stk
      ∧ t.coh = s.coh
      ∧ t.ldg = s.ldg)
  ∧ (∀ (s : State) (c : Nat) (x : Xfer),
    s.porNext = some c →
    s.xfer c = some x →
    let len := x.burstLen x.k
    let src := cutPieces x.srcOf x.k len
    let dst := cutPieces x.dstOf x.k len
    let ok := src.all inSpace = true ∧ dst.all inSpace = true
    s.porBursts < s.porBuffers →
    ∃ t, exec (.porterBurstGrant) s = .next t ∧ (ok → ∀ y : Xfer, t.xfer c = some y → y.k = x.k + len ∧ y.n = x.n + 1 ∧ y.stop = none ∧
      y.bursts = x.bursts ++ [Burst.mk x.n len 0 0 (dst.map (fun p => (p.1.toNat, p.2.1 - x.k, p.2.2))) src.length false 0])
      ∧ (ok → (t.xfer c).isSome = true)
      ∧ (ok → (x.label = 0 ∨ s.tcl TCL_RATE.RATE x.label ≠ 0) → t.bucket x.label = s.bucket x.label - ((len + 63) / 64 : Nat))
      ∧ (ok → (t.por.reqs.filter (fun q => q.ch = c && (match q.kind with | .read _ _ _ _ => true | _ => false))).length =
        (s.por.reqs.filter (fun q => q.ch = c && (match q.kind with | .read _ _ _ _ => true | _ => false))).length + src.length)
      ∧ (ok → x.pat ≠ 2 → t.rdI POR_CH_PACE.C c = (x.n + 1) % 2 ^ POR_CH_PACE.C.w)
      ∧ (¬ ok → ∀ y : Xfer, t.xfer c = some y → y.stop = some (stRefused, rsnField))
      ∧ (∀ d : Nat, d < 16 → d ≠ c → t.xfer d = s.xfer d))
  ∧ (∀ (s : State) (c : BitVec 4) (a : Answer) (q : PorReq),
    s.por.reqs.find? (fun q => q.ch = c.toNat && q.kind == .descriptor && !q.wait) = some q →
    let k := c.toNat
    let st := if 10 ≤ a.status.toNat then stRefused else a.status.toNat
    let base := (s.rdI POR_CH_RING_HI.BASE_HI k * 2 ^ 32 + s.rdI POR_CH_RING_LO.BASE_LO k * 64 + 64 * s.rdI POR_CH_RING_CFG.HEAD k) % 2 ^
      52
    let w := (a.data.extractLsb' (8 * (base % 128)) 512 : BitVec 512)
    let x := (s.ringXfer k base w).1
    let bad := x.invalid s.s64 (s.ringXfer k base w).2
    s.flagI POR_CH_CTL.STOPPING k = false →
    s.flagI POR_CH_CTL.HALT k = false →
    s.xfer k = none →
    ∃ t, exec (.descriptorResponse c a) s = .next t ∧ (st = stNack → t.por.reqs = s.por.reqs.map (fun p => if p = q then
      { p with cmd := retried p.cmd, wait := true } else p) ∧ t.xfer k = none)
      ∧ (st = stOk → w.getLsbD 31 = false → t.xfer k = none ∧ t.por.reqs = s.por.reqs.erase q ∧ t.out = [] ∧ RegsBut porShown s t)
      ∧ (st = stOk → w.getLsbD 31 = true → bad = none → ∃ y, t.xfer k = some y ∧ y = { x with nextLn := y.nextLn })
      ∧ (st = stOk → w.getLsbD 31 = true → bad = none → t.rdI POR_CH_CRC.CRC k = x.crc.toNat)
      ∧ (st = stOk → w.getLsbD 31 = true → bad.isSome = true → (s.porReqs k).all (fun p => !p.kind.moves) = true → t.xfer k = some
        { x with stop := bad, reject := true, finish := true })
      ∧ (st ≠ stOk → st ≠ stNack → t.flagI POR_CH_CTL.HALT k = true ∧ t.bit POR_CTL.HALTED k = true ∧ t.rdI POR_CH_LAST.STATUS k =
        porWord st (if 10 ≤ a.status.toNat then 0 else a.reason.toNat) false none ∧ t.por.reqs = s.por.reqs.erase q ∧ RegsBut (porRegs k
        ++ POR_CTL.word.off :: (faultRegs 7 ++ faultRegs 3)) s t)
      ∧ t.stk = s.stk
      ∧ t.coh = s.coh
      ∧ (∀ d : Nat, d < 16 → d ≠ k → t.xfer d = s.xfer d))
  ∧ (∀ (s : State) (c : BitVec 4) (tag : BitVec 11) (a : Answer),
    ∃ t, exec (.porterResponse c tag a) s = .next t ∧ (s.porFind c.toNat tag = none → t.out = [] ∧ OnlyRegs s t ∧ RegsBut [] s t)
      ∧ t.stk = s.stk
      ∧ t.coh = s.coh
      ∧ t.ldg = s.ldg
      ∧ t.chn = s.chn
      ∧ (∀ d : Nat, d < 16 → d ≠ c.toNat → t.xfer d = s.xfer d))
  ∧ (∀ (s : State) (c : BitVec 4) (tag : BitVec 11) (a : Answer) (q : PorReq) (x : Xfer) (b : Burst),
    s.porFind c.toNat tag = some q →
    s.xfer c.toNat = some x →
    x.bursts.head? = some b →
    let k := c.toNat
    let st := a.status.toNat
    let part := match q.kind with | .read _ j len off => b.take j len off a.data (st != stOk) | _ => b
    st < 10 →
    s.flagI POR_CH_CTL.STOPPING k = false →
    x.stop = none →
    x.finish = false →
    x.bursts = [b] →
    b.issued = false →
    0 < b.reads →
    0 < b.pieces.length →
    (match q.kind with | .read n _ _ _ => n | _ => b.n + 1) = b.n →
    ∃ t, exec (.porterResponse c tag a) s = .next t ∧ (st = stOk → 1 < b.reads → t.xfer k = some { x with bursts := [part] } ∧ t.por.reqs
      = s.por.reqs.erase q ∧ t.out = [] ∧ RegsBut porShown s t)
      ∧ (st = stOk → b.reads = 1 → t.xfer k = some
        { x with crc := crcBytes x.crc b.len part.data, bursts := [{ part with issued := true, left := b.pieces.length }] } ∧
        t.por.reqs.length + 1 = s.por.reqs.length + b.pieces.length ∧ t.rdI POR_CH_CRC.CRC k = (crcBytes x.crc b.len part.data).toNat)
      ∧ (st ≠ stOk → st ≠ stNack → st ≠ stPoison → st ≠ stSealed → ∀ y : Xfer, t.xfer k = some y → y.stop = some (st, a.reason.toNat) ∧
        y.bursts = [] ∧ y.k = x.k)
      ∧ (st = stPoison ∨ st = stSealed → ∀ y : Xfer, t.xfer k = some y → y.stop = none ∧ y.k = x.k ∧ y.pois = (x.pois || st = stPoison) ∧
        y.sealed = (x.sealed || st = stSealed) ∧ y.err.isSome = true)
      ∧ (st = stNack → t.por.reqs = s.por.reqs.map (fun p => if p = q then { p with cmd := retried p.cmd, wait := true } else p) ∧ t.xfer
        k = some x ∧ t.out = [] ∧ RegsBut porShown s t))
  ∧ (∀ (s : State) (c : BitVec 4) (tag : BitVec 11) (a : Answer) (q : PorReq) (x : Xfer) (b : Burst),
    s.porFind c.toNat tag = some q →
    s.xfer c.toNat = some x →
    x.bursts.head? = some b →
    let k := c.toNat
    a.status = 0 →
    s.flagI POR_CH_CTL.STOPPING k = false →
    x.stop = none →
    x.finish = false →
    x.bursts = [b] →
    b.issued = true →
    q.kind = .write b.n →
    ∃ t, exec (.porterResponse c tag a) s = .next t ∧ (1 < b.left → t.xfer k = some { x with bursts := [{ b with left := b.left - 1 }] }
      ∧ t.por.reqs = s.por.reqs.erase q ∧ RegsBut porShown s t)
      ∧ (b.left = 1 → x.k < x.total → t.xfer k = some { x with bursts := [] } ∧ RegsBut porShown s t)
      ∧ (b.left = 1 → x.total ≤ x.k → (s.porReqs k).length = 1 → x.ring = true → t.xfer k = some { x with bursts := [], finish := true }
        ∧ t.rdI POR_CH_CRC.CRC k = x.crc.toNat)
      ∧ (b.left = 1 → x.total ≤ x.k → (s.porReqs k).length = 1 → x.ring = false → t.xfer k = none ∧ t.flagI POR_CH_CTL.START k = false ∧
        t.rdI POR_CH_CRC.CRC k = x.crc.toNat ∧ t.rdI POR_CH_DONE.COUNT k = (s.rdI POR_CH_DONE.COUNT k + 1) % 2 ^ POR_CH_DONE.COUNT.w ∧
        RegsBut (porRegs k) s t))
  ∧ (∀ (s : State) (c : BitVec 4) (tag : BitVec 11) (q : PorReq) (r : Req),
    s.por.reqs.find? (fun q => q.ch = c.toNat && q.tag = tag && q.wait) = some q →
    reqOf q.cmd = some r →
    ∃ t, exec (.porterRetryResend c tag) s = .next t ∧ (s.porActive c.toNat = false → t.out = [] ∧ OnlyRegs s t ∧ RegsBut [] s t)
      ∧ (s.porActive c.toNat = true → t.por =
        { s.por with reqs := s.por.reqs.map (fun p => if p = q then { p with wait := false } else p) })
      ∧ (s.porActive c.toNat = true → s.accepts r.line = true → t.front.inbox = s.front.inbox ++ [q.cmd] ∧ t.out = [] ∧ RegsBut [] s t)
      ∧ t.stk = s.stk
      ∧ t.coh = s.coh)

/-- A write of POR_CH_CTL that R239 forbids is refused with FIELD_INVALID and changes no register. Otherwise the plain fields are as
  written; EN = 0 of an enabled channel sets STOPPING and drops its transfer, EN = 1 of a stopped one enables it, and while STOPPING it
  sets EN_PEND; HALT written 1 clears HALT and sets CRC to all ones; START of an idle register channel begins the transfer of its
  registers, or completes it at once where R226 rejects it. The end of a channel's shutdown clears STOPPING and START and restores CRC.
  POR_CTL.EN = 0 stops every channel that works. -/
def Obligations.PorterControl : Prop :=
  (∀ (s : State) (i : Instr) (c : BitVec 4) (m : MgWrite),
    i = .porterStart c m ∨ i = .porterChannelDisable c m ∨ i = .porterChannelEnable c m ∨ i = .porterHaltClear c m →
    let k := c.toNat
    let w := m.word
    let bad := s.porCtlBad k w = true
    let en := w.getLsbD 31
    let start := fieldGet POR_CH_CTL.START w ≠ 0
    let stop := s.flagI POR_CH_CTL.STOPPING k = true
    Admits s (POR_CH_CTL.word.off + 64 * k) m.src →
    ∃ t, exec i s = .next t ∧ (bad → t.out = [answerOut m.src stRefused rsnField 0] ∧ OnlyRegs s t ∧ RegsBut [] s t)
      ∧ (¬ bad → answerOut m.src stOk rsnNone 0 ∈ t.out)
      ∧ (¬ bad → t.rdI POR_CH_CTL.MODE k = fieldGet POR_CH_CTL.MODE w ∧ t.rdI POR_CH_CTL.DSC_SCOPE k = fieldGet POR_CH_CTL.DSC_SCOPE w ∧
        t.rdI POR_CH_CTL.PRIO k = fieldGet POR_CH_CTL.PRIO w ∧ t.rdI POR_CH_CTL.LABEL k = fieldGet POR_CH_CTL.LABEL w ∧ t.rdI
        POR_CH_CTL.WSCOPE k = fieldGet POR_CH_CTL.WSCOPE w ∧ t.rdI POR_CH_CTL.LAST k = fieldGet POR_CH_CTL.LAST w)
      ∧ (¬ bad → stop → en = true → t.flagI POR_CH_CTL.STOPPING k = true ∧ t.flagI POR_CH_CTL.EN_PEND k = true)
      ∧ (¬ bad → stop → en = false → t.flagI POR_CH_CTL.STOPPING k = true ∧ t.flagI POR_CH_CTL.EN_PEND k = false)
      ∧ (¬ bad → ¬ stop → en = true → t.flagI POR_CH_CTL.EN k = true ∧ t.flagI POR_CH_CTL.STOPPING k = false)
      ∧ (¬ bad → ¬ stop → en = false → s.flagI POR_CH_CTL.EN k = true → t.flagI POR_CH_CTL.EN k = false ∧ t.flagI POR_CH_CTL.STOPPING k =
        true ∧ t.xfer k = none ∧ t.por.reqs = s.por.reqs.filter (fun q => !(q.ch = k && q.wait)))
      ∧ (¬ bad → fieldGet POR_CH_CTL.HALT w ≠ 0 → fieldGet POR_CH_CTL.START w = 0 → s.flagI POR_CH_CTL.START k = false → s.flagI
        POR_CH_CTL.HALT k = true → s.xfer k = none → t.flagI POR_CH_CTL.HALT k = false ∧ t.bit POR_CTL.HALTED k = false ∧ t.rdI
        POR_CH_CRC.CRC k = 0xFFFFFFFF)
      ∧ (¬ bad → start → t.porActive k = true → s.xfer k = none → s.flagI POR_CH_CTL.HALT k = false → ∀ x : Xfer, t.xfer k = some x →
        x.ring = false ∧ x.total = s.rdI POR_CH_COUNT.COUNT k ∧ x.src = s.rdI POR_CH_SRC_HI.SRC_HI k * 2 ^ 32 + s.rdI
        POR_CH_SRC_LO.SRC_LO k ∧ x.dst = s.rdI POR_CH_DST_HI.DST_HI k * 2 ^ 32 + s.rdI POR_CH_DST_LO.DST_LO k ∧ x.wscope = fieldGet
        POR_CH_CTL.WSCOPE w ∧ x.label = fieldGet POR_CH_CTL.LABEL w)
      ∧ (¬ bad → start → t.porActive k = true → s.s64 = false → s.xfer k = none → t.flagI POR_CH_CTL.START k = true ∧ (t.xfer k).isSome =
        true)
      ∧ (¬ bad → start → t.flagI POR_CH_CTL.EN k = false → t.flagI POR_CH_CTL.START k = true ∧ t.xfer k = s.xfer k)
      ∧ OnlyRegs { s with por := t.por, err := t.err, freeCtr := t.freeCtr } t
      ∧ RegsBut (porRegs k ++ POR_CTL.word.off :: faultRegs 7) s t)
  ∧ (∀ (s : State) (c : BitVec 4),
    let k := c.toNat
    let ended := s.flagI POR_CH_CTL.STOPPING k = true ∧ s.porReqs k = []
    s.flag POR_CTL.STOPPING = false →
    ∃ t, exec (.porterChannelStopEnd c) s = .next t ∧ (ended → t.flagI POR_CH_CTL.STOPPING k = false ∧ t.flagI POR_CH_CTL.START k = false
      ∧ t.flagI POR_CH_CTL.EN_PEND k = false ∧ t.flagI POR_CH_CTL.EN k = s.flagI POR_CH_CTL.EN k)
      ∧ (ended → ∀ w : Word, tfind s.por.saved k = some w → t.rdI POR_CH_CRC.CRC k = w.toNat ∧ tfind t.por.saved k = none)
      ∧ (¬ ended → t.por = s.por ∧ RegsBut porShown s t)
      ∧ t.out = []
      ∧ OnlyRegs { s with por := { s.por with saved := t.por.saved } } t
      ∧ RegsBut (porRegs k) s t)
  ∧ (∀ (s : State) (i : Instr) (m : MgWrite),
    i = .porterDisable m ∨ i = .porterEnable m →
    let en := m.word.getLsbD 31
    let stop := s.flag POR_CTL.STOPPING = true
    Admits s POR_CTL.word.off m.src →
    ∃ t, exec i s = .next t ∧ (stop → t.flag POR_CTL.STOPPING = true ∧ t.flag POR_CTL.EN_PEND = en)
      ∧ (¬ stop → en = true → t.flag POR_CTL.EN = true ∧ t.flag POR_CTL.STOPPING = false)
      ∧ (¬ stop → en = false → t.flag POR_CTL.EN = false ∧ t.flag POR_CTL.STOPPING = s.flag POR_CTL.EN)
      ∧ (¬ stop → en = false → s.flag POR_CTL.EN = true → ∀ c : Nat, c < 16 → s.flagI POR_CH_CTL.STOPPING c = false → (s.flagI
        POR_CH_CTL.EN c = true ∨ (s.xfer c).isSome = true ∨ s.porReqs c ≠ []) → t.flagI POR_CH_CTL.STOPPING c = true ∧ t.xfer c = none)
      ∧ answerOut m.src stOk rsnNone 0 ∈ t.out
      ∧ OnlyRegs { s with por := t.por, err := t.err, freeCtr := t.freeCtr } t
      ∧ RegsBut (POR_CTL.word.off :: (List.range 16).flatMap porRegs ++ faultRegs 7) s t)

/-- FRAME_BOUNDARY sets POS to 0 and every bucket to the smaller of its value plus RATE and its cap, a bucket whose cap rises from 0 to
  its cap; settings that wait take effect, TCL_HELD counts the buckets still negative, and the acceptances of the frame start from 0.
  FRAME_SYNC away from POS 0 counts a slip, sets POS to 0, and marks every waiting window request late with cause 6. In RETAIN and
  OFF_READY both do nothing. CREDIT_RETURN sends one word for the next agent that is owed credits. -/
def Obligations.FramesAndCredits : Prop :=
  (∀ (s : State),
    let x := s.adm.tclNext.getD s.front.tclAct
    let u := { s with front := { s.front with tclAct := x } }
    let cap : Nat → Nat := fun l => u.tcl TCL_RATE.RATE l + u.tcl TCL_RATE.BURST l
    let rises := fun l : Nat => (s.tcl TCL_RATE.RATE l + s.tcl TCL_RATE.BURST l) = 0 ∧ 0 < cap l ∧ s.adm.tclNext.isSome = true
    ∃ t, exec (.frameBoundary) s = .next t ∧ (s.dark = true → t.out = [] ∧ OnlyRegs s t ∧ RegsBut [] s t)
      ∧ (s.dark = false → t.rd WIN_FRAME.POS = 0 ∧ t.front.tclAct = x ∧ t.front.winAct = s.adm.winNext.getD s.front.winAct ∧
        t.adm.tclNext = none ∧ t.adm.winNext = none)
      ∧ (s.dark = false → ∀ l : Nat, l < 8 → t.bucket l = (if rises l then (cap l : Int) else min (s.bucket l + u.tcl TCL_RATE.RATE l)
        (cap l)))
      ∧ (s.dark = false → s.adm.tclNext = none → ∀ l : Nat, l < 8 → t.rdI TCL_HELD.COUNT l = (if t.bucket l < 0 then min (s.rdI
        TCL_HELD.COUNT l + 1) (2 ^ TCL_HELD.COUNT.w - 1) else s.rdI TCL_HELD.COUNT l))
      ∧ (s.dark = false → t.front.accLast = s.front.accN ∧ t.front.accN = 0)
      ∧ (s.dark = false → s.adm.winNext.isSome = true → ∀ w : Nat, w < 16 → t.winOn w = (t.win WIN_ENT_CTL.VALID w != 0))
      ∧ OnlyRegs
        { s with front := t.front, adm := { s.adm with tclNext := t.adm.tclNext, winNext := t.adm.winNext }, pwr := { s.pwr with granted := t.pwr.granted } }
        t
      ∧ t.out = []
      ∧ (RegsBut ([WIN_FRAME.word.off, WIN_CTL.word.off, PWR_CAP.word.off, PWR_RAMP.word.off] ++ (List.range 8).flatMap (fun l =>
        [TCL_BUCKET.BUCKET.off + TCL_BUCKET.BUCKET.stride * l, TCL_HELD.COUNT.off + TCL_HELD.COUNT.stride * l])) s t))
  ∧ (∀ (s : State),
    let idle := s.dark = true ∨ s.rd WIN_FRAME.POS = 0
    ∃ t, exec (.frameSync) s = .next t ∧ (idle → t.out = [] ∧ OnlyRegs s t ∧ RegsBut [] s t)
      ∧ (¬ idle → t.rd WIN_FRAME.POS = 0 ∧ t.rd WIN_FRAME.SLIPS = min (s.rd WIN_FRAME.SLIPS + 1) (2 ^ WIN_FRAME.SLIPS.w - 1))
      ∧ (¬ idle → ∀ c : Instr, c ∈ s.front.inbox → ∀ r : Req, reqOf c = some r → ∀ w : Nat, s.winOf r = some w → (c, w, 6) ∈
        t.front.marks)
      ∧ t.front = { s.front with marks := t.front.marks }
      ∧ t.out = []
      ∧ OnlyRegs { s with front := t.front } t
      ∧ RegsBut [WIN_FRAME.word.off] s t)
  ∧ (∀ (s : State) (c : BitVec 2),
    let k := c.toNat
    let next := (s.agentTurn k).findSome? (fun a => (s.agentWords k a).head?.map (fun x => (a, x)))
    ∃ t, exec (.creditReturn c) s = .next t ∧ (s.mesh.contains k = false → t.out = [] ∧ OnlyRegs s t)
      ∧ (s.mesh.contains k = true → ∀ x : Nat × Nat × Nat × Nat × Nat × Nat, next = some x → t.credit x.2.1 = s.credit x.2.1 + min
        x.2.2.2.2.2 255 ∧ t.out = [.credit k (creditWord x.2.2.1 x.1 x.2.2.2.1 x.2.2.2.2.1 (min x.2.2.2.2.2 255))] ∧ tfind t.front.turn k
        = some x.1 ∧ TabBut 0 [x.2.1] s.front.poolCred t.front.poolCred)
      ∧ t.front = { s.front with poolCred := t.front.poolCred, turn := t.front.turn }
      ∧ OnlyRegs { s with front := t.front } t
      ∧ RegsBut [] s t)

/-- TCL_COMMIT and WIN_COMMIT queue their check and hold the answer, or are refused with STATE_BUSY while one runs or an image operation
  is in progress. ADMISSION_CHECK judges the oldest queued configuration, shows the result, answers its writer, and stages or drops the
  settings. WINDOW_REQUEST_SLOT of an on-time request in the acceptance cycle of its slot takes it uncharged: a read of the line, in the
  window's lane, or a whole-line write, with the answer held for its departure; WINDOW_RESPONSE_DEPART sends the window's oldest held
  response on its casement. -/
def Obligations.WindowsAndAdmission : Prop :=
  (∀ (s : State) (m : MgWrite),
    let go := m.word.getLsbD 31 = true
    let busy := s.flag TCL_CTL.CHECKING = true ∨ s.flag CUR_IMG_STATUS.BUSY = true
    Admits s TCL_CTL.word.off m.src →
    ∃ t, exec (.tclCommit m) s = .next t ∧ (¬ go → t.out = [answerOut m.src stOk rsnNone 0] ∧ OnlyRegs s t ∧ RegsBut [] s t)
      ∧ (go → busy → t.out = [answerOut m.src stRefused rsnBusy 0] ∧ OnlyRegs s t ∧ RegsBut [] s t)
      ∧ (go → ¬ busy → t.adm = { s.adm with queue := s.adm.queue ++ [.tcl m.src] } ∧ t.flag TCL_CTL.CHECKING = true ∧ t.flag
        TCL_CTL.COMMIT = true ∧ t.flag ADM_STATUS.BUSY = true ∧ t.out = [])
      ∧ OnlyRegs { s with adm := t.adm } t
      ∧ RegsBut [TCL_CTL.word.off, ADM_STATUS.word.off] s t)
  ∧ (∀ (s : State) (m : MgWrite),
    let go := m.word.getLsbD 31 = true
    let busy := s.flag WIN_CTL.CHECKING = true ∨ s.flag CUR_IMG_STATUS.BUSY = true
    Admits s WIN_CTL.word.off m.src →
    ∃ t, exec (.winCommit m) s = .next t ∧ (¬ go → t.out = [answerOut m.src stOk rsnNone 0] ∧ OnlyRegs s t ∧ RegsBut [] s t)
      ∧ (go → busy → t.out = [answerOut m.src stRefused rsnBusy 0] ∧ OnlyRegs s t ∧ RegsBut [] s t)
      ∧ (go → ¬ busy → t.adm = { s.adm with queue := s.adm.queue ++ [.win m.src] } ∧ t.flag WIN_CTL.CHECKING = true ∧ t.flag
        WIN_CTL.COMMIT = true ∧ t.flag ADM_STATUS.BUSY = true ∧ t.out = [])
      ∧ OnlyRegs { s with adm := t.adm } t
      ∧ RegsBut [WIN_CTL.word.off, ADM_STATUS.word.off] s t)
  ∧ (∀ (s : State),
    ∃ t, exec (.admissionCheck) s = .next t ∧ (s.adm.queue = [] → t.out = [] ∧ OnlyRegs s t ∧ RegsBut [] s t)
      ∧ t.stk = s.stk
      ∧ t.coh = s.coh)
  ∧ (∀ (s : State) (w : AdmWhy),
    s.adm.queue.head? = some w →
    let res := s.admCheck (s.admIn w)
    w ≠ .image →
    ∃ t, exec (.admissionCheck) s = .next t ∧ t.adm.queue = s.adm.queue.tail
      ∧ (res = none → t.flag ADM_STATUS.REFUSED = false ∧ t.rd ADM_STATUS.REASON = 0)
      ∧ (∀ x : Nat × Nat × Nat × Nat, res = some x → t.flag ADM_STATUS.REFUSED = true ∧ t.rd ADM_STATUS.REASON = x.1 % 256 ∧ t.rd
        ADM_NEED.NEED = x.2.2.1 % 2 ^ ADM_NEED.NEED.w ∧ t.rd ADM_CAP.CAP = x.2.2.2 % 2 ^ ADM_CAP.CAP.w ∧ Out.irqAdm ∈ t.out)
      ∧ t.rd ADM_RUNS.COUNT = min (s.rd ADM_RUNS.COUNT + 1) (2 ^ ADM_RUNS.COUNT.w - 1)
      ∧ (∀ src : MgSrc, admWriter w = some src → answerOut src (if res = none then stOk else stRefused) ((res.map (fun x : Nat × Nat ×
        Nat × Nat => x.1)).getD 0) 0 ∈ t.out)
      ∧ (w.source = 1 → t.adm.tclNext = (if res = none then some s.tclStaged else s.adm.tclNext) ∧ t.flag TCL_CTL.CHECKING = false ∧
        t.adm.winNext = s.adm.winNext)
      ∧ (w.source = 2 → t.adm.winNext = (if res = none then some s.winStaged else s.adm.winNext) ∧ t.flag WIN_CTL.CHECKING = false ∧
        t.adm.tclNext = s.adm.tclNext)
      ∧ (w.source = 3 → t.rd PWR_RAMP.RAMP_US = (if res = none then (s.admIn w).ramp % 2 ^ 16 else s.rd PWR_RAMP.RAMP_US))
      ∧ (w.source = 4 → t.rd MIR_RATE.RATE = (if res = none then (s.admIn w).mir % 2 ^ 16 else s.rd MIR_RATE.RATE))
      ∧ OnlyRegs { s with adm := t.adm, pwr := { s.pwr with answers := t.pwr.answers } } t
      ∧ RegsBut [ADM_STATUS.word.off, ADM_RUNS.word.off, ADM_NEED.word.off, ADM_CAP.word.off, ADM_REFUSALS.word.off, TCL_CTL.word.off,
        WIN_CTL.word.off, PWR_RAMP.word.off, MIR_RATE.word.off] s t)
  ∧ (∀ (s : State) (r : Req) (q : WinReq) (w : Nat) (v : Nat),
    s.winOf r = some w →
    s.lookup r.line = some v →
    let cmd := winCmd r q
    let set := lineSet r.line
    let bit := lineBit r.line
    let pos := s.rd WIN_FRAME.POS
    let k := s.jobLane (s.serving set v) true
    let whole := (match q with | .wrLine d => some d | _ => none)
    WordsOk s r.line →
    pos % 4 = 0 →
    s.slot (s.lane r.line) (pos / 4) = some (w, s.lbank set v) →
    s.lateCause w cmd r (some (s.lbank set v)) = 0 →
    s.dozing = false →
    s.verdict cmd r = none →
    s.preparing = false →
    s.needsMirror cmd r = false →
    s.front.failed = false →
    s.homesSelf r.line = true →
    s.serving set v ∈ s.writeBanks set v →
    ∃ t, exec (.windowRequestSlot r q) s = .next t ∧ t.front.inbox = s.front.inbox.erase cmd
      ∧ t.front.bucket = s.front.bucket
      ∧ t.rdI WIN_ENT_SERVED.COUNT w = min (s.rdI WIN_ENT_SERVED.COUNT w + 1) (2 ^ WIN_ENT_SERVED.COUNT.w - 1)
      ∧ (q = .rdOnce → t.jobs k = s.jobs k ++ [s.readOf r.line v (.send { datMsg r 4 false with hold := some (BitVec.ofNat 4 w) })])
      ∧ (q = .rdOnce → t.stk.beats = s.stk.beats)
      ∧ (whole.isSome = true → whole = some (t.lineData set v bit) ∧ (t.tag set v).st bit = .dirty ∧ (t.tag set v).p bit = r.psn)
      ∧ TabBut TagW.empty [32 * set + v] s.stk.tags t.stk.tags
      ∧ TabBut 0 (s.lineKeys set v bit) s.stk.beats t.stk.beats
      ∧ t.coh.txns = s.coh.txns
      ∧ t.coh.cat = s.coh.cat)
  ∧ (∀ (s : State) (w : BitVec 4) (x : (Nat × Nat × Msg)),
    s.front.winResp.find? (fun x => x.1 = w.toNat) = some x →
    ∃ t, exec (.windowResponseDepart w) s = .next t ∧ t.front.winResp = s.front.winResp.erase x
      ∧ (s.flagI LNK_INJ_CTL.EN x.2.1 = false → t.hands x.2.1 x.2.2 = true ∧ RegsBut [] s t)
      ∧ t.stk = s.stk
      ∧ t.coh = s.coh)

/-- A write of CUR_IMG_DATA stores its word at ADDR and advances ADDR, unless an operation runs. GO is refused with STATE_BUSY while an
  operation or a check runs, and with FIELD_INVALID for OP 3, for LOAD outside step 5 and for UPDATE before ONLINE. LOAD, UPDATE and
  CHECK judge the image by R272: a refused one shows its reason, section and entry and is answered with it; an accepted LOAD passes step
  5, an accepted CHECK changes no configuration, and an accepted UPDATE holds its answer until the application point, where it shows
  VERSION and CRC of the image, unless a shutter or a walk is then busy. The image timeout ends step 5 with cause 51H. -/
def Obligations.Images : Prop :=
  (∀ (s : State) (m : MgWrite),
    let busy := s.flag CUR_IMG_STATUS.BUSY = true
    Admits s CUR_IMG_DATA.word.off m.src →
    ∃ t, exec (.imgDataWrite m) s = .next t ∧ (busy → t.out = [answerOut m.src stRefused rsnBusy 0] ∧ OnlyRegs s t ∧ RegsBut [] s t)
      ∧ (¬ busy → t.imgW (s.rd CUR_IMG_ADDR.ADDR) = m.word ∧ t.rd CUR_IMG_ADDR.ADDR = (s.rd CUR_IMG_ADDR.ADDR + 1) % 2 ^
        CUR_IMG_ADDR.ADDR.w ∧ t.out = [answerOut m.src stOk rsnNone 0])
      ∧ TabBut 0 [s.rd CUR_IMG_ADDR.ADDR] s.img.buf t.img.buf
      ∧ t.img.held = s.img.held
      ∧ OnlyRegs { s with img := t.img } t
      ∧ RegsBut [CUR_IMG_ADDR.word.off] s t)
  ∧ (∀ (s : State) (i : Instr) (m : MgWrite),
    i = .imageLoad m ∨ i = .imageUpdate m ∨ i = .imageCheck m →
    let op := fieldGet CUR_IMG_CTL.OP m.word
    let go := m.word.getLsbD 31 = true
    let busy := s.flag CUR_IMG_STATUS.BUSY = true ∨ s.flag TCL_CTL.CHECKING = true ∨ s.flag WIN_CTL.CHECKING = true
    let bad := op = 3 ∨ (op = 0 ∧ ¬ (s.rd SLC_START.STEP = 5 ∧ s.rd SLC_START.STATE = 1)) ∨ (op = 1 ∧ s.online = false)
    let judged := (s.imgCheck op).1
    Admits s CUR_IMG_CTL.word.off m.src →
    ∃ t, exec i s = .next t ∧ (go → busy → t.out = [answerOut m.src stRefused rsnBusy 0] ∧ OnlyRegs s t ∧ RegsBut [] s t)
      ∧ (go → ¬ busy → bad → t.out = [answerOut m.src stRefused rsnField 0] ∧ OnlyRegs s t ∧ RegsBut [] s t)
      ∧ (¬ go → t.out = [answerOut m.src stOk rsnNone 0] ∧ OnlyRegs s t ∧ RegsBut [CUR_IMG_CTL.word.off] s t)
      ∧ (go → ¬ busy → ¬ bad → ∀ x : ImgNo, imgNo judged = some x → answerOut m.src stRefused x.rsn 0 ∈ t.out ∧ t.flag
        CUR_IMG_STATUS.REFUSED = true ∧ t.rd CUR_IMG_STATUS.REASON = x.rsn % 256 ∧ t.rd CUR_IMG_STATUS.SECTION = x.sec % 2 ^
        CUR_IMG_STATUS.SECTION.w ∧ t.rd CUR_IMG_STATUS.ENTRY = x.ent % 2 ^ CUR_IMG_STATUS.ENTRY.w ∧ t.rd CUR_IMG_STATUS.LAST_OP = op ∧
        t.flag CUR_IMG_CTL.GO = false)
      ∧ (go → ¬ busy → ¬ bad → imgNo judged = none → op ≠ 1 → answerOut m.src stOk rsnNone 0 ∈ t.out ∧ t.flag CUR_IMG_STATUS.REFUSED =
        false ∧ t.rd CUR_IMG_STATUS.LAST_OP = op)
      ∧ (go → ¬ busy → ¬ bad → imgNo judged = none → op = 0 → t.start.loaded = true ∧ t.rd SLC_START.STEP = 6 ∧ t.word
        CUR_IMG_ACTIVE.word.off = s.imgW 3 ∧ t.word CUR_IMG_CRC.word.off = s.imgW 7)
      ∧ (go → ¬ busy → ¬ bad → imgNo judged = none → op = 1 → t.img = { s.img with held := some m.src } ∧ t.flag CUR_IMG_STATUS.BUSY =
        true ∧ t.out = [])
      ∧ (go → ¬ busy → ¬ bad → op ≠ 0 → RegsBut [CUR_IMG_CTL.word.off, CUR_IMG_STATUS.word.off, ADM_STATUS.word.off, ADM_RUNS.word.off,
        ADM_NEED.word.off, ADM_CAP.word.off, ADM_REFUSALS.word.off] s t)
      ∧ (op ≠ 0 ∨ ¬ go ∨ busy ∨ bad → OnlyRegs { s with img := { s.img with held := t.img.held } } t)
      ∧ t.coh = s.coh
      ∧ t.stk = s.stk)
  ∧ (∀ (s : State) (src : MgSrc) (secs : (List Sec)),
    s.img.held = some src →
    s.imgSections true (s.imgLen / 4) (s.imgB 1 16 16) 8 0 = some secs →
    ∃ t, exec (.imageUpdateApply) s = .next t ∧ (∀ x : ImgNo, s.imgBusy secs = some x → t.out = [answerOut src stRefused x.rsn 0] ∧
      t.flag CUR_IMG_STATUS.REFUSED = true ∧ t.rd CUR_IMG_STATUS.REASON = x.rsn % 256 ∧ OnlyRegs { s with img := t.img } t ∧ RegsBut
      [CUR_IMG_CTL.word.off, CUR_IMG_STATUS.word.off] s t)
      ∧ (s.imgBusy secs = none → t.out = [answerOut src stOk rsnNone 0] ∧ t.flag CUR_IMG_STATUS.REFUSED = false ∧ t.word
        CUR_IMG_ACTIVE.word.off = s.imgW 3 ∧ t.word CUR_IMG_CRC.word.off = s.imgW 7)
      ∧ (s.imgBusy secs = none → (findSec secs 6).isSome = true → t.adm.tclNext.isSome = true)
      ∧ t.img = { s.img with held := none }
      ∧ t.flag CUR_IMG_STATUS.BUSY = false
      ∧ t.stk = s.stk
      ∧ t.coh = s.coh
      ∧ t.por = s.por
      ∧ t.front = s.front)
  ∧ (∀ (s : State),
    let due := s.rd SLC_START.STEP = 5 ∧ s.rd SLC_START.STATE = 1
    ∃ t, exec (.imageTimeout) s = .next t ∧ (¬ due → t.out = [] ∧ OnlyRegs s t ∧ RegsBut [] s t)
      ∧ (due → t.rd SLC_START.STATE = 3 ∧ t.rd (failField 5) = min 3 (s.rd (failField 5) + 1))
      ∧ (due → s.rd DBK_STATUS.COUNT < 64 → (t.word (DBK_ENT_INFO.word.off + 8 * s.rd DBK_STATUS.COUNT)).toNat / 2 ^ 16 % 2 ^ 16 =
    0xB551)
      ∧ OnlyRegs s t
      ∧ RegsBut [SLC_START.word.off, DBK_FAILS.word.off, DBK_STATUS.word.off, DBK_ENT_INFO.word.off + 8 * s.rd DBK_STATUS.COUNT,
        DBK_ENT_TIME.word.off + 8 * s.rd DBK_STATUS.COUNT] s t)

/-- A cold start leaves every unit and register as power-up does and the latched straps, a warm reset keeps the retained bits, the
  arrays' data and the scale master and counts in STARTS; both go on with step 1, or stop in step 0 on a wrong parity. ISLAND_CLOCKS_UP,
  BANK_BIST, LEDGER_BIST, REFRESH_CALIBRATION_STEP and GO_ONLINE end steps 1, 2, 3, 7 and 9: each does nothing outside its step, passes
  to the next, or stops the start with its count raised. STEP_TIMEOUT stops a bounded step. RELEASE of a held start goes on with step 9.
  A RUN_LEVEL is taken, or refused. -/
def Obligations.StartsAndSteps : Prop :=
  (∀ (s : State) (p : Straps),
    let u := State.resetOf s.s64
    ∃ t, exec (.coldStart p) s = .next t ∧ (strapOk p = true → t.rd SLC_START.STEP = 1 ∧ t.rd SLC_START.STATE = 0)
      ∧ (strapOk p = false → t.rd SLC_START.STEP = 0 ∧ t.rd SLC_START.STATE = 3)
      ∧ t.rd SLC_ID.COORD = (strapCoord p).toNat
      ∧ t.flag SLC_ID.STRAP_OK = strapOk p
      ∧ t.rd SLC_LIVE.SELF = p.half.toNat * 4 + p.slice.toNat
      ∧ t.pins.straps = p
      ∧ (Entered u t (if strapOk p then ocPass else ocFail) 0 (if strapOk p then 0 else 1) 0)
      ∧ t.out = []
      ∧ OnlyRegs
        { u with pins := { u.pins with ns := s.pins.ns, wrap := s.pins.wrap, peerLive := s.pins.peerLive, dbgEn := s.pins.dbgEn, fpReady := s.pins.fpReady, straps := p }, start := { u.start with t0 := s.now, coord := t.start.coord }, freeCtr := s.freeCtr, pending := s.pending }
        t
      ∧ RegsBut ([SLC_ID.word.off, SLC_LIVE.word.off, SLC_START.word.off] ++ dbkRegs) u t)
  ∧ (∀ (s : State) (p : Straps),
    let u := State.resetOf s.s64
    let changed := strapOk p = true ∧ s.start.coord.isSome = true ∧ s.start.coord ≠ some (strapCoord p)
    let k := s.rd SLC_START.STEP
    ∃ t, exec (.warmReset p) s = .next t ∧ (strapOk p = true → t.rd SLC_START.STEP = 1 ∧ t.rd SLC_START.STATE = 0)
      ∧ (strapOk p = false → t.rd SLC_START.STATE = 3)
      ∧ t.flag SLC_START.WARM = true
      ∧ (¬ changed → t.rd DBK_STATUS.STARTS = (s.rd DBK_STATUS.STARTS + 1) % 256)
      ∧ (changed → t.rd DBK_STATUS.STARTS = 0 ∧ t.ldg.master = [])
      ∧ (¬ changed → t.ldg = { Ledger.init with master := s.ldg.master })
      ∧ (¬ changed → countedStep k = true → t.rd (failField k) = (if s.inStep && !s.waitsDriver then min 3 (s.rd (failField k) + 1) else
        s.rd (failField k)))
      ∧ t.stk = { Stacks.init with beats := s.stk.beats }
      ∧ t.coh = Coh.init
      ∧ t.chn = u.chn
      ∧ t.por = u.por
      ∧ t.front = u.front
      ∧ t.pending = s.pending
      ∧ (¬ changed → ∀ row, row ∈ regRows → ∀ n : Nat, n < row.count → ∀ x : RegRow, regRow s.s64 (row.base + row.stride * n) = some x →
        row.base + row.stride * n ∉ [SLC_ID.word.off, SLC_LIVE.word.off, SLC_START.word.off] ++ dbkRegs → t.word (row.base + row.stride *
        n) = (resetWord s.s64 (row.base + row.stride * n) &&& ~~~(BitVec.ofNat 32 x.keep)) ||| (s.word (row.base + row.stride * n) &&&
        BitVec.ofNat 32 x.keep)))
  ∧ (∀ (s : State) (front ldg cur : Bool) (pairs : BitVec 9),
    ∃ t, exec (.islandClocksUp front ldg cur pairs) s = .next t ∧ (s.atStep 1 = false → Untouched s t)
      ∧ (s.atStep 1 = true → front = false → t.rd SLC_START.STATE = 3 ∧ t.rd (failField 1) = min 3 (s.rd (failField 1) + 1) ∧ Entered s t
        ocFail 1 0x10 2)
      ∧ (s.atStep 1 = true → front = true → t.rd SLC_START.STEP = 2 ∧ t.rd SLC_START.STATE = 0 ∧ t.flag SLC_ISLAND_STATUS.NL_UP = true ∧
        t.flag SLC_ISLAND_STATUS.CUR_UP = cur ∧ t.flag SLC_ISLAND_STATUS.LDG_UP = ldg ∧ t.start.ldgDown = (!ldg) ∧ t.start.curDown =
        (!cur) ∧ t.pins.selfLive = true)
      ∧ (s.atStep 1 = true → front = true → ∀ k, k ∈ s.pairs → t.bit SLC_ISLAND_STATUS.BP_UP k = pairs.getLsbD k)
      ∧ (s.atStep 1 = true → front = true → ∀ k, k ∈ s.pairs → pairs.getLsbD k = false → ∀ b, b ∈ s.banksOf k → t.isRetired b = true)
      ∧ (s.atStep 1 = true → front = true → s.pairs.all (fun k => pairs.getLsbD k) = true → Entered s t ocPass 1 0 0 ∧ t.rd (failField 1)
        = 0 ∧ t.stk = s.stk)
      ∧ t.coh = s.coh
      ∧ t.ldg = s.ldg)
  ∧ (∀ (s : State) (failed : BitVec 17),
    let gone := (List.range (s.nb + 1)).filter (fun b => (s.bit DBK_RETIRED.BANKS b || failed.getLsbD b) && !(s.isRetired b))
    let most := if s.s64 then 2 else 4
    ∃ t, exec (.bankBist failed) s = .next t ∧ (s.atStep 2 = false → Untouched s t)
      ∧ (s.atStep 2 = true → ∀ b, b ∈ gone → t.isRetired b = true)
      ∧ (s.atStep 2 = true → most < t.stk.lostLb.length → t.rd SLC_START.STATE = 3 ∧ t.rd (failField 2) = min 3 (s.rd (failField 2) + 1))
      ∧ (s.atStep 2 = true → t.stk.lostLb.length ≤ most → t.stk.halves = true ∧ t.flag SLC_START.HALVES = true ∧ (t.rd SLC_START.STEP = 3
        ∨ t.rd SLC_START.STEP = 4 ∧ t.flag DBK_DEGRADED.LEDGER = true))
      ∧ (s.atStep 2 = true → gone = [] → t.stk.lostLb = s.stk.lostLb ∧ t.stk.remap = s.stk.remap)
      ∧ t.coh = s.coh
      ∧ t.stk.tags = s.stk.tags)
  ∧ (∀ (s : State) (u : Option (BitVec 2)),
    ∃ t, exec (.ledgerBist u) s = .next t ∧ (s.atStep 3 = false → Untouched s t)
      ∧ (s.atStep 3 = true → u.isSome = true → t.rd SLC_START.STATE = 3 ∧ t.rd SLC_START.STEP = 3 ∧ Entered s t ocFail 3 0x30 ((u.getD
        0).toNat))
      ∧ (s.atStep 3 = true → u = none → t.rd SLC_START.STEP = 4 ∧ Entered s t ocPass 3 0 0 ∧ t.ldg.scale = (if s.flag SLC_START.WARM then
        s.ldg.master else s.ldg.scale))
      ∧ (s.atStep 3 = true → u = none → s.start.curDown = false → t.cur.stage = 1)
      ∧ t.ldg = { s.ldg with scale := t.ldg.scale }
      ∧ t.stk = s.stk)
  ∧ (∀ (s : State) (n : BitVec 4),
    let k := n.toNat
    ∃ t, exec (.stepTimeout n) s = .next t ∧ (s.atStep k = false ∨ k = 4 ∨ k = 5 → Untouched s t)
      ∧ (s.atStep k = true → k ≠ 4 → k ≠ 5 → k ≠ 7 → t.rd SLC_START.STATE = 3 ∧ t.rd SLC_START.STEP = k ∧ Entered s t ocFail k 0 0 ∧
        (countedStep k = true → t.rd (failField k) = min 3 (s.rd (failField k) + 1)))
      ∧ (s.atStep 7 = true → k = 7 → t.rd SLC_START.STEP = 8 ∧ t.flag STK_REF_TIER.CAL_OK = false ∧ t.rd (failField 7) = min 3 (s.rd
        (failField 7) + 1))
      ∧ t.stk.tags = s.stk.tags
      ∧ t.coh = s.coh)
  ∧ (∀ (s : State) (ok : Bool),
    let good := ok = true ∧ s.serviceBanks.all (fun b => (List.range 8).all (fun g => decide (4 ≤ s.rdI STK_CAL_RESULT.CODE (8 * b +
      g)))) = true
    ∃ t, exec (.refreshCalibrationStep ok) s = .next t ∧ (s.atStep 7 = false → Untouched s t)
      ∧ (s.atStep 7 = true → t.rd SLC_START.STEP = 8 ∧ t.rd SLC_START.STATE = 0 ∧ t.adm.queue = s.adm.queue ++ [.image] ∧ t.flag
        STK_CAL_GRANT.OPEN = false)
      ∧ (s.atStep 7 = true → good → t.rd (failField 7) = 0 ∧ t.flag STK_REF_TIER.CAL_OK = decide (s.rd (failField 7) = 0))
      ∧ (s.atStep 7 = true → ¬ good → t.rd (failField 7) = min 3 (s.rd (failField 7) + 1) ∧ t.flag STK_REF_TIER.CAL_OK = false)
      ∧ t.coh = s.coh
      ∧ t.ldg = s.ldg)
  ∧ (∀ (s : State) (m : MgWrite),
    let go := m.word.getLsbD 30 = true ∧ s.rd SLC_START.STATE = 2
    Admits s SLC_START_CTL.word.off m.src →
    ∃ t, exec (.startRelease m) s = .next t ∧ (go → t.rd SLC_START.STEP = 9 ∧ t.rd SLC_START.STATE = 0)
      ∧ (¬ go → t.word SLC_START.word.off = s.word SLC_START.word.off)
      ∧ t.flag SLC_START_CTL.HOLD = m.word.getLsbD 31
      ∧ t.out = [answerOut m.src stOk rsnNone 0]
      ∧ OnlyRegs s t
      ∧ RegsBut [SLC_START_CTL.word.off, SLC_START.word.off] s t)
  ∧ (∀ (s : State),
    ∃ t, exec (.goOnline) s = .next t ∧ (s.atStep 9 = false → Untouched s t)
      ∧ (s.atStep 9 = true → t.online = true ∧ t.rd SLC_START.STEP = 9 ∧ t.stk.halves = false ∧ t.flag SLC_START.HALVES = false)
      ∧ (s.atStep 9 = true → s.stk.lostLb = [] → t.stk.tags = [])
      ∧ (s.atStep 9 = true → ∀ l : Nat, l < 8 → t.bucket l = s.tcl TCL_RATE.RATE l + s.tcl TCL_RATE.BURST l)
      ∧ (s.atStep 9 = true → ∀ b, b ∈ List.range s.nb → s.rd STK_ECC_LIMIT.LIMIT ≠ 0 → s.rd STK_ECC_LIMIT.LIMIT ≤ tget 0 s.stk.halfBad b
        → t.isRetired (s.phys b) = true)
      ∧ t.front.tclAct = s.front.tclAct
      ∧ t.coh.cat = s.coh.cat)
  ∧ (∀ (s : State) (m : MgWrite),
    let v := fieldGet SLC_FEAT.RUN_LEVEL m.word
    let rsn := if s.start.loaded = true then rsnField else if s.rd CUR_FW_STATUS.STATE = 2 then rsnBusy else if v = 0 then rsnField else
      if s.rd SLC_CAP.FEAT_MAX < v then rsnFeatureLevel else 0
    Admits s SLC_FEAT.word.off m.src →
    ∃ t, exec (.runLevelWrite m) s = .next t ∧ (rsn = 0 → t.rd SLC_FEAT.RUN_LEVEL = v ∧ t.out = [answerOut m.src stOk rsnNone 0])
      ∧ (rsn ≠ 0 → t.out = [answerOut m.src stRefused rsn 0] ∧ RegsBut [] s t)
      ∧ OnlyRegs s t
      ∧ RegsBut [SLC_FEAT.word.off] s t)

/-- The end of stage 1 leaves the SRAM empty, counts the attempt and opens the window. DONE in the window judges the firmware: a bad
  header or CRC fails the attempt, a good one waits for the root of trust, whose attestation starts the firmware with its watchdog or
  fails the attempt. ALIVE of running firmware ends step 4. A failed attempt begins the next, and the third leaves the safe state in a
  start, or holds the Curator. The timeouts fail the attempt in their stages and do nothing in others. DONE outside the window or from
  the Curator, ALIVE from any other source, and an attestation from another source than the root of trust are refused. -/
def Obligations.FirmwareAttempts : Prop :=
  (∀ (s : State),
    ∃ t, exec (.curatorSramZeroed) s = .next t ∧ (s.cur.stage ≠ 1 → Untouched s t)
      ∧ (s.cur.stage = 1 → t.cur = { s.cur with sram := [], ecc := [], stage := 3 } ∧ t.rd CUR_FW_STATUS.STATE = 1 ∧ t.rd
        CUR_FW_STATUS.ATTEMPT = (s.rd CUR_FW_STATUS.ATTEMPT + 1) % 2 ^ CUR_FW_STATUS.ATTEMPT.w ∧ t.out = [.irqCur])
      ∧ OnlyRegs { s with cur := t.cur } t
      ∧ RegsBut [CUR_FW_STATUS.word.off] s t)
  ∧ (∀ (s : State) (i : Instr) (m : MgWrite),
    i = .fwDone m ∨ i = .fwAlive m →
    let done := m.word.getLsbD 31 = true
    let alive := m.word.getLsbD 30 = true
    let bad := (done ∧ (s.cur.stage ≠ 3 ∨ isCurator m.src = true)) ∨ (alive ∧ isCurator m.src = false)
    let len := (s.sram 1).toNat
    Admits s CUR_FW_CTL.word.off m.src →
    ∃ t, exec i s = .next t ∧ (bad → t.out = [answerOut m.src stRefused rsnField 0] ∧ OnlyRegs s t ∧ RegsBut [] s t)
      ∧ (¬ bad → answerOut m.src stOk rsnNone 0 ∈ t.out)
      ∧ (¬ bad → ¬ done → ¬ alive → OnlyRegs s t ∧ RegsBut [] s t)
      ∧ (¬ bad → done → s.fwHeader = false → AttemptFailed s t 0x40)
      ∧ (¬ bad → done → s.fwHeader = true → s.fwCrc len ≠ s.sram 7 → AttemptFailed s t 0x41 ∧ t.word CUR_FW_CRC.word.off = s.fwCrc len)
      ∧ (¬ bad → done → s.fwHeader = true → s.fwCrc len = s.sram 7 → t.cur = { s.cur with len := len, stage := 5 } ∧ t.rd
        CUR_FW_STATUS.STATE = 2 ∧ t.flag CUR_FW_CTL.DONE = true ∧ t.word CUR_FW_CRC.word.off = s.fwCrc len)
      ∧ (¬ bad → alive → s.cur.stage = 7 → t.cur = { s.cur with stage := 8 } ∧ t.flag CUR_FW_CTL.ALIVE = true ∧ (s.atStep 4 = true → t.rd
        SLC_START.STEP = 5 ∧ t.rd SLC_START.STATE = 1 ∧ Entered s t ocPass 4 0 0))
      ∧ (¬ bad → alive → s.cur.stage ≠ 7 → OnlyRegs s t ∧ RegsBut [] s t)
      ∧ OnlyRegs { s with cur := t.cur, front := { s.front with curLane := t.front.curLane } } t
      ∧ RegsBut ([CUR_FW_CTL.word.off, CUR_FW_STATUS.word.off, CUR_FW_CRC.word.off, CUR_WDT_STATUS.word.off, CUR_MBX_DB.word.off,
        SLC_START.word.off] ++ dbkRegs) s t)
  ∧ (∀ (s : State) (m : MgWrite),
    let root := m.src = .rootOfTrust
    let good := fieldGet CUR_FW_ATTEST.VERIFIED m.word = 1
    let len := fieldGet CUR_FW_ATTEST.LEN m.word
    Admits s CUR_FW_ATTEST.word.off m.src →
    ∃ t, exec (.fwAttest m) s = .next t ∧ (¬ root → t.out = [answerOut m.src stRefused rsnField 0] ∧ OnlyRegs s t ∧ RegsBut [] s t)
      ∧ (root → answerOut m.src stOk rsnNone 0 ∈ t.out ∧ t.rd CUR_FW_ATTEST.LEN = len)
      ∧ (root → s.cur.stage ≠ 5 → t.cur = s.cur ∧ RegsBut [CUR_FW_ATTEST.word.off] s t)
      ∧ (root → s.cur.stage = 5 → ¬ good → AttemptFailed s t 0x45)
      ∧ (root → s.cur.stage = 5 → good → len ≠ s.cur.len → AttemptFailed s t 0x43)
      ∧ (root → s.cur.stage = 5 → good → len = s.cur.len → t.cur = { s.cur with stage := 7, wdtEnd := s.now + s.wdtMs * 1000000 } ∧ t.rd
        CUR_FW_STATUS.STATE = 3 ∧ t.flag CUR_WDT_STATUS.ARMED = true)
      ∧ OnlyRegs { s with cur := t.cur, front := { s.front with curLane := t.front.curLane } } t
      ∧ RegsBut ([CUR_FW_ATTEST.word.off, CUR_FW_CTL.word.off, CUR_FW_STATUS.word.off, CUR_WDT_STATUS.word.off, CUR_MBX_DB.word.off,
        SLC_START.word.off] ++ dbkRegs) s t)
  ∧ (∀ (s : State) (i : Instr),
    i = .fwTimeout ∨ i = .fwAliveTimeout →
    let due := if i = .fwTimeout then s.cur.stage = 3 ∨ s.cur.stage = 5 else s.cur.stage = 7
    ∃ t, exec i s = .next t ∧ (¬ due → Untouched s t)
      ∧ (due → AttemptFailed s t (if i = .fwTimeout then 0x42 else 0x44))
      ∧ t.out = []
      ∧ OnlyRegs { s with cur := t.cur, front := { s.front with curLane := t.front.curLane } } t
      ∧ RegsBut ([CUR_FW_CTL.word.off, CUR_FW_STATUS.word.off, CUR_WDT_STATUS.word.off, CUR_MBX_DB.word.off, SLC_START.word.off] ++
        dbkRegs) s t)

/-- LINK_TRAINING ends step 6: every trained link that is not skipped is up, at half width where it trained so or has failed before;
  without the far port or a casement the start stops. A capability message of the partner that agrees forms the pair; another RUN_LEVEL
  within the package is logged. UCIE_MAINBAND_ACTIVE shows the mainband and sends this slice's message, or takes the link down for a rate
  or width not listed; without the far message in time the link goes down. A flit with a wrong CRC or a gap is answered NAK, a repeated
  one ACK, and the next one ACK, and its request enters the buffer for its credit. A replay sends every unacknowledged flit, the
  sixteenth takes the link down. Link credits let waiting messages leave. -/
def Obligations.LinksAndFlits : Prop :=
  (∀ (s : State) (full half : BitVec 8),
    let can := fun n : Nat => s.trains n = true ∧ s.rd (linkFailField n) ≠ 3 ∧ (full.getLsbD n = true ∨ half.getLsbD n = true)
    let stops := (∀ n : Nat, n < 4 → ¬ can n) ∨ ¬ can 4
    ∃ t, exec (.linkTraining full half) s = .next t ∧ (s.atStep 6 = false → Untouched s t)
      ∧ (s.atStep 6 = true → stops → t.rd SLC_START.STATE = 3 ∧ t.rd SLC_START.STEP = 6)
      ∧ (s.atStep 6 = true → ¬ stops → t.rd SLC_START.STEP = 7 ∨ t.rd SLC_START.STEP = 8)
      ∧ (s.atStep 6 = true → ∀ n : Nat, n < 8 → s.trains n = true → s.rd (linkFailField n) ≠ 3 → t.bit LNK_STATUS.UP n = decide (can n))
      ∧ (s.atStep 6 = true → ∀ n : Nat, n < 8 → s.trains n = true → s.rd (linkFailField n) ≠ 3 → t.bit LNK_STATUS.HALF n = decide (can n
        ∧ n ≠ 4 ∧ (0 < s.rd (linkFailField n) ∨ full.getLsbD n = false)))
      ∧ (s.atStep 6 = true → ∀ n : Nat, n < 8 → s.trains n = true → t.rd (linkFailField n) = (if s.rd (linkFailField n) = 3 then 3 else
        if ¬ can n then s.rd (linkFailField n) + 1 else if n ≠ 4 ∧ (0 < s.rd (linkFailField n) ∨ full.getLsbD n = false) then s.rd
        (linkFailField n) else 0))
      ∧ t.stk.tags = s.stk.tags
      ∧ t.coh = s.coh)
  ∧ (∀ (s : State) (link : BitVec 3) (m : BitVec 64),
    let n := link.toNat
    let agrees := capBuild m = s.s64 ∧ capLevel m = s.rd SLC_FEAT.RUN_LEVEL ∧ capCoord m = s.rd MIR_PARTNER.COORD
    n = 7 ∨ Uninjected s n →
    ∃ t, exec (.capabilityMessage link m) s = .next t ∧ (n < 5 ∨ (m.extractLsb' 60 4).toNat ≠ 1 → Untouched s t)
      ∧ ((m.extractLsb' 60 4).toNat = 1 → n = 5 ∨ n = 6 → s.flagI LNK_UCIE.VALID (n - 5) = true → t.flagI LNK_UCIE.CAP_RX (n - 5) = true)
      ∧ ((m.extractLsb' 60 4).toNat = 1 → n = 6 → s.flag MIR_CTL.PAIR_EN = true → agrees → s.rd MIR_STATUS.STATE = 3 → s.rd
        MIR_STATUS.CAUSE = 0 → s.flag MIR_STATUS.DISPLACED = false → t.rd MIR_STATUS.STATE = 1 ∧ t.mir.rxSeq = [] ∧ (s.online = false →
        t.mir.txSeq = []))
      ∧ ((m.extractLsb' 60 4).toNat = 1 → n = 6 → s.flag MIR_CTL.PAIR_EN = true → ¬ agrees → t.rd MIR_STATUS.STATE = s.rd
        MIR_STATUS.STATE ∧ t.mir = s.mir ∧ Entered s t ocAlt 6 0x63 0)
      ∧ ((m.extractLsb' 60 4).toNat = 1 → n = 5 ∨ n = 7 → t.rdI ERR_CNT.COUNT 10 = (if capCoord m / 2 ^ 8 = s.rd SLC_ID.COORD / 2 ^ 8 ∧
        capLevel m ≠ s.rd SLC_FEAT.RUN_LEVEL then min (s.rdI ERR_CNT.COUNT 10 + 1) (2 ^ ERR_CNT.COUNT.w - 1) else s.rdI ERR_CNT.COUNT 10)
        ∧ t.out = [])
      ∧ t.stk = s.stk
      ∧ t.coh = s.coh)
  ∧ (∀ (s : State) (mirror advanced : Bool) (rate : BitVec 5) (width : BitVec 8),
    let n := if mirror then 6 else 5
    let frame := ucieFrame advanced rate.toNat width.toNat
    Uninjected s n →
    ∃ t, exec (.ucieMainbandActive mirror advanced rate width) s = .next t ∧ (frame = none → t.flagI LNK_UCIE.VALID (n - 5) = false ∧
      (s.bit LNK_STATUS.UP n = true → t.bit LNK_STATUS.UP n = false) ∧ t.out = [])
      ∧ (∀ x : Nat × Bool, frame = some x → t.flagI LNK_UCIE.VALID (n - 5) = true ∧ t.flagI LNK_UCIE.CAP_RX (n - 5) = false ∧ t.flagI
        LNK_UCIE.PKG (n - 5) = advanced ∧ t.rdI LNK_UCIE.RATE (n - 5) = rate.toNat % 2 ^ LNK_UCIE.RATE.w ∧ t.rdI LNK_UCIE.WIDTH (n - 5) =
        width.toNat % 2 ^ LNK_UCIE.WIDTH.w ∧ t.rdI LNK_UCIE.FRAME_64B (n - 5) = x.1 % 2 ^ LNK_UCIE.FRAME_64B.w ∧ t.bit LNK_STATUS.HALF n
        = x.2 ∧ t.out = [.capability n (s.capMsg n)])
      ∧ t.stk = s.stk
      ∧ t.coh = s.coh
      ∧ t.mir = s.mir
      ∧ RegsBut ([LNK_UCIE.word.off + LNK_UCIE.word.stride * (n - 5), LNK_STATUS.word.off] ++ faultRegs 10 ++ dbkRegs) s t)
  ∧ (∀ (s : State) (link : BitVec 3),
    let n := link.toNat
    let due := (n = 5 ∨ n = 6) ∧ s.flagI LNK_UCIE.VALID (n - 5) = true ∧ s.flagI LNK_UCIE.CAP_RX (n - 5) = false
    ∃ t, exec (.capabilityTimeout link) s = .next t ∧ (¬ due → Untouched s t)
      ∧ (due → t.flagI LNK_UCIE.VALID (n - 5) = false ∧ (s.bit LNK_STATUS.UP n = true → t.bit LNK_STATUS.UP n = false))
      ∧ (due → s.atStep 6 = true → t.rd (linkFailField n) = min 3 (s.rd (linkFailField n) + 1))
      ∧ t.out = []
      ∧ OnlyRegs { s with err := t.err } t
      ∧ RegsBut ([LNK_UCIE.word.off + LNK_UCIE.word.stride * (n - 5), LNK_STATUS.word.off] ++ faultRegs 10 ++ dbkRegs) s t)
  ∧ (∀ (s : State) (cas : BitVec 2) (flit : BitVec 2048) (sb0 sb1 : BitVec 64),
    let c := cas.toNat
    let l := s.link c
    let seq := (sb0.extractLsb' 53 10 : BitVec 10)
    let good := crc32c 256 flit = sb1.extractLsb' 0 32 ∧ sb0.getLsbD 63 = true ∧ sb1.getLsbD 63 = false
    let h := (flit.extractLsb' 0 256 : BitVec 256)
    let req := mInstr c flit 0
    let pool := s.poolOf (mReq c h) (poolKind req)
    sb0.getLsbD 44 = false →
    sb1.getLsbD 44 = false →
    ∃ t, exec (.casementFlitReceive cas flit sb0 sb1) s = .next t ∧ (s.casementUp c = false → Untouched s t)
      ∧ (s.casementUp c = true → ¬ good → t.out = [.ack c true (l.rxNext - 1)] ∧ t.link c = { l with rxNak := true } ∧ RegsBut [] s t)
      ∧ (s.casementUp c = true → good → 512 ≤ (seq - l.rxNext).toNat → t.out = [.ack c false (l.rxNext - 1)] ∧ t.link c = l ∧ RegsBut []
        s t)
      ∧ (s.casementUp c = true → good → seq ≠ l.rxNext → (seq - l.rxNext).toNat < 512 → t.out = (if l.rxNak then [] else [.ack c true
        (l.rxNext - 1)]) ∧ t.link c = { l with rxNak := true } ∧ RegsBut [] s t)
      ∧ (s.casementUp c = true → good → seq = l.rxNext → sb0.extractLsb' 45 8 = 0 → t.out = [.ack c false seq] ∧ t.link c =
        { l with rxNext := l.rxNext + 1, rxNak := false } ∧ t.front.inbox = s.front.inbox ∧ RegsBut [] s t)
      ∧ (s.casementUp c = true → good → seq = l.rxNext → sb0.extractLsb' 45 8 = 1 → Uninjected s c → mKnown h = true → mFaulty h = false
        → mCls h = 0 → s.online = true → 0 < s.credit pool → t.front.inbox = s.front.inbox ++ [req] ∧ t.credit pool + 1 = s.credit pool ∧
        t.out = [.ack c false seq] ∧ RegsBut [] s t)
      ∧ (s.casementUp c = true → good → seq = l.rxNext → sb0.extractLsb' 45 8 = 1 → Uninjected s c → mKnown h = true → mFaulty h = false
        → mCls h = 0 → s.online = true → s.credit pool = 0 → t.front.inbox = s.front.inbox ∧ (∀ d : Nat, s.casementOf (routeKey (mReq c
        h).who) = some d → s.flagI LNK_INJ_CTL.EN d = false → s.ownPorter (mReq c h).who = false → t.hands d (cmpMsg (mReq c h) stRefused
        rsnField) = true))
      ∧ (s.casementUp c = true → ¬ good ∨ seq ≠ l.rxNext ∨ sb0.extractLsb' 45 8 = 0 → OnlyRegs
        { s with front := { s.front with links := t.front.links } } t))
  ∧ (∀ (s : State) (link : BitVec 3),
    let n := link.toNat
    let l := s.link n
    let idle := s.bit LNK_STATUS.UP n = false ∨ l.replay = []
    ∃ t, exec (.linkReplayTimeout link) s = .next t ∧ (idle → Untouched s t)
      ∧ (¬ idle → 15 ≤ l.replays → t.bit LNK_STATUS.UP n = false ∧ t.bit LNK_STATUS.HALF n = false ∧ t.link n = Link.init ∧ t.out = [])
      ∧ (¬ idle → l.replays < 15 → t.link n = { l with replays := l.replays + 1 } ∧ t.out = l.replay.map (fun x => x.2) ∧ RegsBut [] s t)
      ∧ OnlyRegs { s with front := { s.front with links := t.front.links }, err := t.err } t
      ∧ RegsBut (LNK_STATUS.word.off :: faultRegs 10) s t)
  ∧ (∀ (s : State) (cas : BitVec 2) (w : Word),
    let c := cas.toNat
    let l := s.link c
    let pool := w.toNat / 2 ^ 28 % 8
    let taken := s.casementUp c = true ∧ w.getLsbD 31 = true ∧ (poolClass pool).isSome = true
    Uninjected s c →
    ∃ t, exec (.creditWordReceive cas w) s = .next t ∧ (¬ taken → Untouched s t)
      ∧ (∀ k : Nat, poolClass pool = some k → taken → tget 0 (t.link c).credits k + min (tget 0 l.credits k + w.toNat / 2 ^ 8 % 256)
        (l.queue.filter (fun m => m.cls = k)).length = tget 0 l.credits k + w.toNat / 2 ^ 8 % 256)
      ∧ (∀ k : Nat, poolClass pool = some k → taken → (t.link c).queue.filter (fun m => m.cls = k) = (l.queue.filter (fun m => m.cls =
        k)).drop (tget 0 l.credits k + w.toNat / 2 ^ 8 % 256) ∧ (t.link c).queue.filter (fun m => m.cls ≠ k) = l.queue.filter (fun m =>
        m.cls ≠ k))
      ∧ (∀ k : Nat, poolClass pool = some k → TabBut 0 [k] l.credits (t.link c).credits)
      ∧ (∀ n : Nat, n < 8 → n ≠ c → t.link n = s.link n)
      ∧ OnlyRegs { s with front := t.front } t
      ∧ RegsBut [] s t)

/-- A PWR_CMD write with GO 0 only stores the word. With GO 1 and no transition running it is refused with its reason, or starts its
  transition: DOZE answers later, every other target at once. While a transition runs, its own target clears the pending command and
  another target becomes the pending one. DOZE_ENTER gates an idle front core, DOZE_TIMEOUT refuses and returns to ACTIVE, a flit on a
  casement, the Wicket or the mirror port wakes. The entry phases go on when engines, directory and memory are quiet, the exit phases in
  turn; TRANSITION_END shows the new state, clears PHASE and sends DONE to a message's sender. Removal of the supply, and its loss in
  RETAIN, leave the state of power-up. -/
def Obligations.PowerCommands : Prop :=
  (∀ (s : State) (i : Instr) (m : MgWrite),
    i = .pwrCmdActive m ∨ i = .pwrCmdDoze m ∨ i = .pwrCmdRetain m ∨ i = .pwrCmdOff m →
    let c : PwrCmd := ⟨fieldGet PWR_CMD.TARGET m.word, fieldGet PWR_CMD.PAIR m.word != 0, .reg m.src, false⟩
    let go := m.word.getLsbD 31 = true
    let st := s.rd PWR_STATUS.STATE
    Admits s PWR_CMD.word.off m.src →
    ∃ t, exec i s = .next t ∧ (¬ go → t.out = [answerOut m.src stOk rsnNone 0] ∧ t.pwr = s.pwr ∧ t.word PWR_STATUS.word.off = s.word
      PWR_STATUS.word.off)
      ∧ (go → s.pwr.run = none → ∀ r : Nat, s.pwrRefusal c = some r → t.out = [answerOut m.src stRefused r 0] ∧ t.pwr = s.pwr ∧ t.rd
        PWR_STATUS.LAST_STATUS = stRefused ∧ t.rd PWR_STATUS.REASON = r ∧ t.rd PWR_STATUS.STATE = st)
      ∧ (go → s.pwr.run = none → s.pwrRefusal c = none → c.target = 1 → t.out = [] ∧ t.pwr = { s.pwr with run := some c, t0 := s.now } ∧
        t.rd PWR_STATUS.STATE = 4 ∧ t.rd PWR_STATUS.PHASE = 0)
      ∧ (go → s.pwr.run = none → s.pwrRefusal c = none → c.target = 0 → t.out = [answerOut m.src stOk rsnNone 0] ∧ t.pwr =
        { s.pwr with run := some { c with told := true }, t0 := s.now } ∧ t.rd PWR_STATUS.STATE = (if st = 1 then 5 else 7) ∧ t.rd
        PWR_STATUS.PHASE = (if st = 1 then 0 else 1))
      ∧ (go → s.pwr.run = none → s.pwrRefusal c = none → 2 ≤ c.target → t.out.getLast? = some (answerOut m.src stOk rsnNone 0) ∧ t.pwr =
        { s.pwr with run := some { c with told := true }, t0 := s.now } ∧ t.rd PWR_STATUS.STATE = (if c.target = 3 then 8 else 6) ∧ t.rd
        PWR_STATUS.PHASE = 1)
      ∧ (go → s.pwr.run.isSome = true → s.online = false → t.out = [answerOut m.src stRefused rsnPower 0] ∧ t.pwr = s.pwr)
      ∧ (go → s.online = true → ∀ r : PwrCmd, s.pwr.run = some r → r.target = c.target → t.out = [answerOut m.src stOk rsnNone 0] ∧ t.pwr
        = { s.pwr with pend := none } ∧ t.flag PWR_STATUS.PEND_V = false ∧ t.rd PWR_STATUS.STATE = st)
      ∧ (go → s.online = true → ∀ r : PwrCmd, s.pwr.run = some r → r.target ≠ c.target → t.out = [answerOut m.src stOk rsnNone 0] ∧ t.pwr
        = { s.pwr with pend := some { c with told := true } } ∧ t.flag PWR_STATUS.PEND_V = true ∧ t.rd PWR_STATUS.PEND = c.target ∧ t.rd
        PWR_STATUS.STATE = st)
      ∧ (s.pairFull = false → OnlyRegs { s with pwr := t.pwr } t ∧ RegsBut [PWR_CMD.word.off, PWR_STATUS.word.off] s t)
      ∧ t.stk = s.stk
      ∧ t.coh = s.coh
      ∧ t.ldg = s.ldg)
  ∧ (∀ (s : State),
    let done := s.rd PWR_STATUS.STATE = 4 ∧ s.idle = true
    ∃ t, exec (.dozeEnter) s = .next t ∧ (∀ c : PwrCmd, s.pwr.run = some c → done → t.rd PWR_STATUS.STATE = 1 ∧ t.pwr.run = some
      { c with told := true })
      ∧ (∀ c : PwrCmd, s.pwr.run = some c → done → c.told = false → ∀ x : MgSrc, c.regOf = some x → t.out = [answerOut x stOk rsnNone 0]
        ∧ t.rd PWR_STATUS.LAST_STATUS = stOk)
      ∧ (∀ c : PwrCmd, s.pwr.run = some c → done → c.told = true → t.out = [])
      ∧ (s.pwr.run = none ∨ ¬ done → Untouched s t)
      ∧ OnlyRegs { s with pwr := t.pwr } t
      ∧ RegsBut [PWR_STATUS.word.off] s t)
  ∧ (∀ (s : State),
    let doze := s.rd PWR_STATUS.STATE = 4
    s.pwr.pend = none →
    ∃ t, exec (.dozeTimeout) s = .next t ∧ (∀ c : PwrCmd, s.pwr.run = some c → doze → t.rd PWR_STATUS.STATE = 0 ∧ t.pwr.run = none ∧ t.rd
      PWR_STATUS.LAST_STATUS = stRefused ∧ t.rd PWR_STATUS.REASON = rsnBusy)
      ∧ (∀ c : PwrCmd, s.pwr.run = some c → doze → c.told = false → ∀ x : MgSrc, c.regOf = some x → t.out = [answerOut x stRefused
        rsnBusy 0])
      ∧ (s.pwr.run = none ∨ ¬ doze → Untouched s t)
      ∧ OnlyRegs { s with pwr := t.pwr } t
      ∧ RegsBut [PWR_STATUS.word.off] s t)
  ∧ (∀ (s : State) (link : BitVec 3),
    let wakes := s.rd PWR_STATUS.STATE = 1 ∧ (link.toNat < 4 ∨ link.toNat = 5 ∨ link.toNat = 6)
    s.pwr.pend = none →
    ∃ t, exec (.dozeWake link) s = .next t ∧ (wakes → t.rd PWR_STATUS.STATE = 0 ∧ t.rd PWR_WAKES.COUNT = min (s.rd PWR_WAKES.COUNT + 1)
      (2 ^ PWR_WAKES.COUNT.w - 1) ∧ t.pwr.run = none)
      ∧ (¬ wakes → Untouched s t)
      ∧ OnlyRegs { s with pwr := t.pwr } t
      ∧ RegsBut [PWR_STATUS.word.off, PWR_WAKES.word.off] s t)
  ∧ (∀ (s : State),
    let st := s.rd PWR_STATUS.STATE
    let ph := s.rd PWR_STATUS.PHASE
    let on := st = 6 ∨ st = 8
    ∃ t, exec (.retainEntryPhase) s = .next t ∧ (¬ on → Untouched s t)
      ∧ (on → ph = 1 → t.rd PWR_STATUS.PHASE = 2 ∧ t.stk.tags = s.stk.tags ∧ t.coh = s.coh)
      ∧ (on → ph = 2 → s.enginesQuiet = true → t.rd PWR_STATUS.PHASE = 3 ∧ t.stk = s.stk ∧ t.ldg = s.ldg)
      ∧ (on → ph = 2 → s.enginesQuiet = false → Untouched s t)
      ∧ (on → ph = 3 → s.coh.txns = [] → s.coh.cat = [] → t.rd PWR_STATUS.PHASE = 4 ∧ (∀ e, e ∈ s.stk.tags → s.keeps (e.1 % 32) = false →
        t.tag (e.1 / 32) (e.1 % 32) = TagW.empty) ∧ (∀ e, e ∈ s.stk.tags → s.keeps (e.1 % 32) = true → (t.tag (e.1 / 32) (e.1 %
        32)).sector = (s.tag (e.1 / 32) (e.1 % 32)).sector))
      ∧ (on → ph = 3 → s.coh.txns ≠ [] → t.rd PWR_STATUS.PHASE = 3 ∧ t.stk = s.stk)
      ∧ (on → ph = 4 → s.memQuiet = true → t.rd PWR_STATUS.PHASE = 5 ∧ t.rd LNK_STATUS.UP = 0 ∧ t.cur.stage = 0 ∧ t.rd
        CUR_FW_STATUS.STATE = 0 ∧ t.flag MIR_STATUS.LINK_UP = false ∧ t.pwr =
        { s.pwr with links := BitVec.ofNat 8 (s.rd LNK_STATUS.UP), half := BitVec.ofNat 8 (s.rd LNK_STATUS.HALF) })
      ∧ (on → ph = 4 → s.memQuiet = true → ∀ n : Nat, n < 8 → t.flagI LNK_INJ_CTL.EN n = false)
      ∧ (on → ph = 4 → s.memQuiet = false → Untouched s t)
      ∧ (on → ph = 0 ∨ 4 < ph → Untouched s t)
      ∧ t.rd PWR_STATUS.STATE = st
      ∧ t.pwr.run = s.pwr.run)
  ∧ (∀ (s : State) (up : BitVec 8),
    let on := s.rd PWR_STATUS.STATE = 7
    let ph := s.rd PWR_STATUS.PHASE
    let now := s.pwr.links &&& up
    ∃ t, exec (.retainExitPhase up) s = .next t ∧ (¬ on → Untouched s t)
      ∧ (on → ph = 1 → t.rd PWR_STATUS.PHASE = 2 ∧ t.flag SLC_ISLAND_STATUS.CUR_UP = (!s.start.curDown))
      ∧ (on → ph = 2 → t.rd PWR_STATUS.PHASE = 3 ∧ OnlyRegs s t ∧ RegsBut [PWR_STATUS.word.off] s t)
      ∧ (on → ph = 3 → t.rd PWR_STATUS.PHASE = 4 ∧ t.ldg = { s.ldg with scale := t.ldg.scale } ∧ ∀ e : Nat, e < 256 → tget ScaleEnt.init
        t.ldg.scale e = tget ScaleEnt.init s.ldg.master e)
      ∧ (on → ph = 4 → t.rd PWR_STATUS.PHASE = 5 ∧ t.rd LNK_STATUS.UP = now.toNat ∧ t.flag MIR_STATUS.LINK_UP = now.getLsbD 6)
      ∧ (on → ph = 4 → ∀ n : Nat, n < 8 → s.pwr.links.getLsbD n = true → up.getLsbD n = false → t.bit DBK_DEGRADED.LINKS n = true)
      ∧ (on → ph = 0 ∨ 4 < ph → Untouched s t)
      ∧ t.stk.tags = s.stk.tags
      ∧ t.coh = s.coh)
  ∧ (∀ (s : State),
    let st := s.rd PWR_STATUS.STATE
    let last := s.rd PWR_STATUS.PHASE = 5
    let ends := st = 1 ∨ st = 5 ∨ last ∧ (st = 6 ∨ st = 7 ∨ st = 8)
    let us := min 0xFFFF ((s.now - s.pwr.t0) / 1000)
    s.pwr.pend = none →
    ∃ t, exec (.transitionEnd) s = .next t ∧ (s.pwr.run = none ∨ ¬ ends → Untouched s t)
      ∧ (∀ c : PwrCmd, s.pwr.run = some c → ends → t.pwr.run = none ∧ t.rd PWR_STATUS.PHASE = 0 ∧ t.rd PWR_STATUS.STATE = (if st = 6 then
        2 else if st = 8 then 3 else if st = 1 then 1 else 0))
      ∧ (∀ c : PwrCmd, s.pwr.run = some c → ends → st = 6 ∨ st = 8 → t.rd PWR_TIMES.ENTRY_US = us ∧ t.coh = Coh.init ∧ t.stk.tags =
        s.stk.tags ∧ t.stk.beats = s.stk.beats ∧ t.ldg.master = s.ldg.master ∧ t.ldg.rows = [] ∧ t.front.inbox = [] ∧ t.por.xfers = [] ∧
        t.img.buf = [] ∧ t.cur.sram = [])
      ∧ (∀ c : PwrCmd, s.pwr.run = some c → ends → st = 7 → t.rd PWR_TIMES.EXIT_US = us)
      ∧ (∀ c : PwrCmd, s.pwr.run = some c → ends → st ≠ 7 → ∀ q : BitVec 8, c.seqOf = some q → t.out = [.budget (t.budgetWord 4 stOk q
        rsnNone s.capNow)] ∧ t.pwr.answers = s.pwr.answers ++ [t.budgetWord 4 stOk q rsnNone s.capNow])
      ∧ (∀ c : PwrCmd, s.pwr.run = some c → ends → st ≠ 7 → c.seqOf = none → t.out = [])
      ∧ (st = 1 ∨ st = 5 → OnlyRegs { s with pwr := t.pwr } t ∧ RegsBut [PWR_STATUS.word.off] s t))
  ∧ (∀ (s : State),
    let r := State.resetOf s.s64
    ∃ t, exec (.supplyRemoval) s = .next t ∧ t.out = []
      ∧ OnlyRegs
        { r with pins := { r.pins with ns := s.pins.ns, wrap := s.pins.wrap, peerLive := s.pins.peerLive, dbgEn := s.pins.dbgEn, fpReady := s.pins.fpReady, straps := s.pins.straps }, freeCtr := s.freeCtr, pending := s.pending }
        t
      ∧ t.regs = r.regs)
  ∧ (∀ (s : State),
    let r := State.resetOf s.s64
    ∃ t, exec (.retentionSupplyLoss) s = .next t ∧ (s.rd PWR_STATUS.STATE ≠ 2 → Untouched s t)
      ∧ (s.rd PWR_STATUS.STATE = 2 → t.out = [] ∧ OnlyRegs
        { r with pins := { r.pins with ns := s.pins.ns, wrap := s.pins.wrap, peerLive := s.pins.peerLive, dbgEn := s.pins.dbgEn, fpReady := s.pins.fpReady, straps := s.pins.straps }, freeCtr := s.freeCtr, pending := s.pending }
        t ∧ t.regs = r.regs))

/-- While the port serves messages, a QUERY is answered with the cap in force; a CAP is stored, shown in CAP_MW and answered with what it
  will grant; a RAMP of 0 is refused, one before step 8 replaces what step 8 checks, a later one goes to the admission check; a STATE
  message is the power command that it carries. While it does not serve, a message waits with no answer. BUDGET_ANSWER_ACK frees the
  oldest place. A write of PWR_RAMP with 0 is refused; another is queued for the admission check and its answer waits. -/
def Obligations.BudgetMessages : Prop :=
  (∀ (s : State) (i : Instr) (x : BitVec 64),
    i = .budgetQuery x ∨ i = .budgetCap x ∨ i = .budgetState x ∨ i = .budgetRamp x →
    let typ := (x.extractLsb' 0 4).toNat
    let q : BitVec 8 := x.extractLsb' 8 8
    let arg := (x.extractLsb' 32 32).toNat
    let cap : Option Nat := if arg = 0xFFFFFFFF then none else some arg
    let ramp := arg % 2 ^ 16
    let serves := s.mgReady = true ∧ s.pwr.answers.length < 8
    s.pwr.msgs = [] →
    ∃ t, exec i s = .next t ∧ (¬ serves → t.pwr = { s.pwr with msgs := [x] } ∧ t.out = [] ∧ OnlyRegs { s with pwr := t.pwr } t ∧ RegsBut
      [] s t)
      ∧ (serves → typ = 0 → t.out = [.budget (s.budgetWord 0 stOk q 0 s.capNow)] ∧ t.pwr =
        { s.pwr with answers := s.pwr.answers ++ [s.budgetWord 0 stOk q 0 s.capNow] } ∧ OnlyRegs { s with pwr := t.pwr } t ∧ RegsBut [] s
        t)
      ∧ (serves → typ = 1 → t.pwr.cap = cap ∧ t.rd PWR_CAP.CAP_MW = min 0xFFFF arg ∧ t.pwr.granted = s.pwr.granted ∧ t.out = [.budget
        (s.budgetWord 1 stOk q 0 ((cap.map s.grantOf).getD 0xFFFFFFFF))] ∧ OnlyRegs { s with pwr := t.pwr } t ∧ RegsBut
        [PWR_CAP.word.off] s t)
      ∧ (serves → typ = 3 → ramp = 0 → t.out = [.budget (s.budgetWord 3 stRefused q rsnField s.capNow)] ∧ OnlyRegs
        { s with pwr := t.pwr } t ∧ RegsBut [] s t)
      ∧ (serves → typ = 3 → ramp ≠ 0 → s.rd SLC_START.STEP < 8 → t.rd PWR_RAMP.RAMP_US = ramp ∧ t.start =
        { s.start with ramp := some ramp } ∧ t.out = [.budget (t.budgetWord 3 stOk q 0 s.capNow)] ∧ OnlyRegs
        { s with pwr := t.pwr, start := t.start } t ∧ RegsBut [PWR_RAMP.word.off] s t)
      ∧ (serves → typ = 3 → ramp ≠ 0 → ¬ s.rd SLC_START.STEP < 8 → t.adm = { s.adm with queue := s.adm.queue ++ [.rampMsg q.toNat ramp] }
        ∧ t.flag ADM_STATUS.BUSY = true ∧ t.out = [] ∧ t.pwr = s.pwr)
      ∧ (serves → typ = 2 → s.pwr.run = none → ∀ r : Nat, s.pwrRefusal ⟨arg % 4, arg / 2 ^ 8 % 2 = 1, .msg q, false⟩ = some r → t.rd
        PWR_STATUS.LAST_STATUS = stRefused ∧ t.rd PWR_STATUS.REASON = r ∧ t.out = [.budget (t.budgetWord 2 stRefused q r s.capNow)] ∧
        RegsBut [PWR_STATUS.word.off] s t)
      ∧ (serves → typ = 2 → s.pwr.run = none → s.pwrRefusal ⟨arg % 4, arg / 2 ^ 8 % 2 = 1, .msg q, false⟩ = none → t.pwr.run = some ⟨arg
        % 4, arg / 2 ^ 8 % 2 = 1, .msg q, decide (arg % 4 ≠ 1)⟩ ∧ t.pwr.t0 = s.now)
      ∧ (serves → 4 ≤ typ → t.out = [.budget (s.budgetWord typ stRefused q rsnField s.capNow)] ∧ OnlyRegs { s with pwr := t.pwr } t ∧
        RegsBut [] s t)
      ∧ t.stk = s.stk
      ∧ t.coh = s.coh)
  ∧ (∀ (s : State),
    s.pwr.msgs = [] →
    ∃ t, exec (.budgetAnswerAck) s = .next t ∧ t.pwr = { s.pwr with answers := s.pwr.answers.tail }
      ∧ t.out = []
      ∧ OnlyRegs { s with pwr := t.pwr } t
      ∧ RegsBut [] s t)
  ∧ (∀ (s : State) (z : (BitVec 64)),
    s.pwr.msgs.head? = some z →
    s.mgReady = true →
    s.pwr.answers.length = 8 →
    s.pwr.msgs.length = 1 →
    (z.extractLsb' 0 4).toNat = 0 →
    ∃ t, exec (.budgetAnswerAck) s = .next t ∧ t.pwr.msgs = s.pwr.msgs.tail
      ∧ t.pwr.answers = s.pwr.answers.tail ++ [s.budgetWord 0 stOk (z.extractLsb' 8 8) 0 s.capNow]
      ∧ t.out = [.budget (s.budgetWord 0 stOk (z.extractLsb' 8 8) 0 s.capNow)]
      ∧ RegsBut [] s t)
  ∧ (∀ (s : State) (m : MgWrite),
    let v := fieldGet PWR_RAMP.RAMP_US m.word
    Admits s PWR_RAMP.word.off m.src →
    ∃ t, exec (.pwrRampWrite m) s = .next t ∧ (v = 0 → t.out = [answerOut m.src stRefused rsnField 0] ∧ OnlyRegs s t ∧ RegsBut [] s t)
      ∧ (v ≠ 0 → t.adm = { s.adm with queue := s.adm.queue ++ [.rampReg m.src v] } ∧ t.flag ADM_STATUS.BUSY = true ∧ t.out = [] ∧ t.rd
        PWR_RAMP.RAMP_US = s.rd PWR_RAMP.RAMP_US)
      ∧ OnlyRegs { s with adm := t.adm } t
      ∧ RegsBut [ADM_STATUS.word.off] s t)

/-- A message next in its lane is applied, counted, and covered by MACK. MWR gives a resident copy its state, poison, PIN and data;
  MCLEAN, MDEAD and MINV change its state; MEVICT makes the home write the line back; none of these touches a line that is no copy. MLDG
  and MROW act on the rows of the copy binding, MSCALE joins the scale queue or waits behind a full one, MPWR is a power command. A
  message with an older SEQ is dropped, one ahead of its SEQ waits. MCHK shows the partner's map and state, and may end the pair; MACK
  returns credits; MCHK leaves when nothing else did. Without PAIR_EN, in RETAIN, OFF_READY or the failed state nothing is taken. -/
def Obligations.MirrorMessages : Prop :=
  (∀ (s : State) (h : MirHdr) (d : LineData),
    let set := lineSet h.line
    let bit := lineBit h.line
    let cp := s.isCopy h.line = true
    MirNext s h →
    WordsOk s h.line →
    ∃ t, exec (.mwr h d) s = .next t ∧ MirTaken s t h
      ∧ (¬ cp → t.stk = s.stk)
      ∧ (cp → ∀ w : Nat, s.lookup h.line = some w → t.tag set w = { (s.tag set w).put bit (copySt h.st) h.psn with pin := h.pin })
      ∧ (cp → ∀ w : Nat, s.lookup h.line = some w → s.serving set w ∈ s.writeBanks set w → t.lineData set w bit = d)
      ∧ (cp → s.lookup h.line = none → ∀ w : Nat, t.lookup h.line = some w → (t.tag set w).st bit = copySt h.st ∧ (t.tag set w).pin =
        h.pin)
      ∧ t.ldg = s.ldg)
  ∧ (∀ (s : State) (i : Instr) (h : MirHdr),
    i = .mclean h ∨ i = .mdead h ∨ i = .minv h →
    let cp := s.isCopy h.line = true
    let st := s.lineSt h.line
    MirNext s h →
    ∃ t, exec i s = .next t ∧ MirTaken s t h
      ∧ (¬ cp → t.stk = s.stk)
      ∧ (cp → i = .minv h → ∀ w : Nat, s.lookup h.line = some w → (t.tag (lineSet h.line) w).st (lineBit h.line) = .inv)
      ∧ (cp → i = .mclean h → ∀ w : Nat, s.lookup h.line = some w → (t.tag (lineSet h.line) w).st (lineBit h.line) = (if s.carrelOf
        h.line = none then .inv else if st = .dirty then .clean else st))
      ∧ (cp → i = .mdead h → t.lineSt h.line = (if st.live = true then .dead else st))
      ∧ (∀ e, e ∈ s.stk.tags → e.1 / 32 ≠ lineSet h.line → t.tag (e.1 / 32) (e.1 % 32) = s.tag (e.1 / 32) (e.1 % 32))
      ∧ t.stk.beats = s.stk.beats
      ∧ t.coh.cat = s.coh.cat
      ∧ t.ldg = s.ldg)
  ∧ (∀ (s : State) (h : MirHdr),
    let ok := s.homesSelf h.line = true ∧ s.lineSt h.line = .dirty ∧ s.dataPending h.line = false
    MirNext s h →
    ∃ t, exec (.mevict h) s = .next t ∧ MirTaken s t h
      ∧ (¬ ok → t.stk = s.stk ∧ t.mir.evicted = s.mir.evicted)
      ∧ (ok → ∀ w : Nat, s.lookup h.line = some w → t.lineSt h.line = .clean ∧ t.mir.evicted = s.mir.evicted ++ [h.line])
      ∧ t.coh.cat = s.coh.cat
      ∧ t.ldg = s.ldg)
  ∧ (∀ (s : State) (h : MirHdr) (p : MirLedger),
    let k := p.op.kind
    let b := s.copyBind h.arg.toNat
    MirNext s h →
    ∃ t, exec (.mldg h p) s = .next t ∧ MirTaken s t h
      ∧ (b = none ∨ s.ldgFieldBad p.op b = true ∨ k = .lsnap ∨ k = .reserved → t.ldg = s.ldg)
      ∧ (s.ldgFieldBad p.op b = false → ∀ n : Nat, b = some n → ∀ f : RowRef, (s.jobRows h.line p.op n).head? = some f → (s.jobRows
        h.line p.op n).length = 1 → (k = .lacc ∨ k = .laccS → h.psn = true → t.rowSt f = { s.rowSt f with psn := true } ∧ t.ldg.rows =
        s.ldg.rows) ∧ (k = .ldrain → t.rowSt f = { (s.rowSt f).d1 f.shadow p.op.epoch (seedOf p.op) with draining := false } ∧ t.rowImg
        (f.half p.odd) = rowEmpty f.fast) ∧ (k = .lmerge → (h.psn = true → (t.rowSt f).psn = true) ∧ (if s.halfRow f true = f.half p.odd
        then (t.rowSt f).tokl = true else (t.rowSt f).toks = true)))
      ∧ t.stk = s.stk
      ∧ t.coh = s.coh)
  ∧ (∀ (s : State) (h : MirHdr) (p : MirRow),
    let b := s.copyBind (h.arg.toNat % 2 ^ 8)
    MirNext s h →
    ∃ t, exec (.mrow h p) s = .next t ∧ MirTaken s t h
      ∧ (b = none → t.ldg = s.ldg)
      ∧ (∀ n : Nat, b = some n → ∀ f : RowRef, (s.lineRows n h.line)[h.arg.toNat / 2 ^ 8 % 4]? = some f → t.rowImg f.base = p.even ∧
        (f.shadow = true → t.rowImg (f.base + 1) = p.odd) ∧ t.rowSt f = ⟨p.cur, p.live, false, p.psn, p.seed, false, false⟩)
      ∧ t.stk = s.stk
      ∧ t.coh = s.coh)
  ∧ (∀ (s : State) (h : MirHdr) (p : BitVec 128),
    let full := 16 ≤ s.mir.scaleQ.length
    MirNext s h →
    ∃ t, exec (.mscale h p) s = .next t ∧ (full → t.mir = { s.mir with waiting := [⟨7, h, none, none, none, p, none⟩] } ∧ t.out = [])
      ∧ (¬ full → t.mir = { s.mir with scaleQ := s.mir.scaleQ ++ [(h, p)], rxSeq := t.mir.rxSeq } ∧ t.mirExpect h.lane.toNat = h.seq + 1
        ∧ TabBut 0 [h.lane.toNat] s.mir.rxSeq t.mir.rxSeq ∧ t.out = [])
      ∧ OnlyRegs { s with mir := t.mir } t
      ∧ RegsBut [MIR_STATUS.word.off, MIR_RX.word.off, MIR_LAST_TS_LO.word.off, MIR_LAST_TS_HI.word.off] s t)
  ∧ (∀ (s : State) (h : MirHdr),
    let c : PwrCmd := ⟨h.arg.toNat % 4, true, .partner, false⟩
    MirNext s h →
    ∃ t, exec (.mpwr h) s = .next t ∧ MirTaken s t h
      ∧ (s.pwr.run = none → ∀ r : Nat, s.pwrRefusal c = some r → t.pwr = s.pwr ∧ t.rd PWR_STATUS.LAST_STATUS = stRefused ∧ t.rd
        PWR_STATUS.REASON = r)
      ∧ (s.pwr.run = none → s.pwrRefusal c = none → t.pwr.run = some { c with told := decide (c.target ≠ 1) } ∧ (2 ≤ c.target → t.rd
        PWR_STATUS.STATE = (if c.target = 3 then 8 else 6) ∧ t.rd PWR_STATUS.PHASE = 1))
      ∧ t.stk = s.stk
      ∧ t.coh = s.coh)
  ∧ (∀ (s : State) (h : MirHdr),
    let a := h.arg.toNat
    let st := s.rd MIR_STATUS.STATE
    let peer := a / 2 ^ 21 % 8
    let taken := peer = 4 ∧ a / 2 ^ 8 % 8 = s.rd SLC_LIVE.SELF ∧ st ≠ 4
    MirReady s →
    ∃ t, exec (.mchk h) s = .next t ∧ t.rd MIR_PEER_MAP.GEN = a / 2 ^ 24
      ∧ t.rd MIR_PEER_MAP.SELF = a / 2 ^ 16 % 8
      ∧ t.rd MIR_PEER_MAP.MASK = a % 2 ^ 8
      ∧ t.mir.peer = peer
      ∧ t.rd MIR_RX.COUNT = min (s.rd MIR_RX.COUNT + 1) (2 ^ MIR_RX.COUNT.w - 1)
      ∧ (taken → t.flag MIR_STATUS.DISPLACED = true ∧ (st = 2 → t.rd MIR_STATUS.STATE = 3 ∧ t.rd MIR_STATUS.CAUSE = 1))
      ∧ (¬ taken → peer = 3 → st = 2 → t.rd MIR_STATUS.STATE = 3 ∧ t.rd MIR_STATUS.CAUSE = 5 ∧ t.flag MIR_STATUS.UNMIRRORED = true ∧
        t.mir.queue = [] ∧ t.mir.unacked = [])
      ∧ (¬ taken → ¬ (peer = 3 ∧ st = 2) → t.rd MIR_STATUS.STATE = st ∧ (¬ (peer = 5 ∧ st = 5) → t.mir = { s.mir with peer := peer } ∧
        t.out = []))
      ∧ t.stk = s.stk
      ∧ t.ldg = s.ldg)
  ∧ (∀ (s : State) (h : MirHdr),
    let lane := h.lane.toNat
    let q := BitVec.ofNat 16 h.arg.toNat
    let hit := fun x : MirSent => x.lane = lane ∧ (q - x.seq).toNat < 2 ^ 15
    let ack := s.mir.unacked.filter (fun x => decide (hit x))
    MirReady s →
    ∃ t, exec (.mack h) s = .next t ∧ (s.mirTakes = false → OnlyRegs s t ∧ RegsBut [MIR_STATUS.word.off] s t)
      ∧ (s.mirTakes = true → t.rd MIR_RX.COUNT = min (s.rd MIR_RX.COUNT + 1) (2 ^ MIR_RX.COUNT.w - 1))
      ∧ (s.mirTakes = true → s.mir.queue = [] → s.rd MIR_STATUS.STATE = 2 → s.flag MIR_CTL.SPLIT = false → t.mir =
        { s.mir with unacked := s.mir.unacked.filter (fun x => !(decide (hit x))), used := t.mir.used } ∧ tget 0 t.mir.used lane = tget 0
        s.mir.used lane - ack.length ∧ TabBut 0 [lane] s.mir.used t.mir.used)
      ∧ (s.mirTakes = true → ∀ x, x ∈ ack → ∀ n : Nat, x.wait = some n → ∀ y, y ∈ t.ord.writes → y.id = n → y.mir = false)
      ∧ t.ldg.rows = s.ldg.rows)
  ∧ (∀ (s : State),
    let quiet := s.front.failed = true ∨ s.dark = true ∨ s.flag MIR_CTL.PAIR_EN = false ∨ s.bit LNK_STATUS.UP 6 = false
    Uninjected s 6 →
    s.mirAcross = false →
    ∃ t, exec (.mchkSend) s = .next t ∧ (s.mir.sent = true ∨ quiet → t.out = [] ∧ RegsBut [] s t)
      ∧ (s.mir.sent = false → ¬ quiet → t.out = [.mirror 9 ⟨0, 0, false, false, 0, 0, BitVec.ofNat 32 s.checkArg⟩ none none none 0] ∧
        RegsBut [MIR_TX.word.off] s t)
      ∧ t.mir = { s.mir with sent := false }
      ∧ OnlyRegs { s with mir := t.mir, front := { s.front with links := t.front.links } } t)
  ∧ (∀ (s : State) (i : Instr) (h : MirHdr) (d : LineData) (p : MirLedger) (row : MirRow) (x : BitVec 128),
    i = .mwr h d ∨ i = .mclean h ∨ i = .mdead h ∨ i = .minv h ∨ i = .mevict h ∨ i = .mldg h p ∨ i = .mrow h row ∨ i = .mscale h x ∨ i =
      .mpwr h →
    let older := 2 ^ 15 ≤ (h.seq - s.mirExpect h.lane.toNat).toNat
    MirReady s →
    h.seq ≠ s.mirExpect h.lane.toNat →
    s.mir.waiting = [] →
    ∃ t, exec i s = .next t ∧ (s.mirTakes = false ∨ older → t.mir = s.mir)
      ∧ (s.mirTakes = true → ¬ older → t.mir = { s.mir with waiting := t.mir.waiting } ∧ t.mir.waiting.map (fun y => y.h) = [h])
      ∧ t.out = []
      ∧ OnlyRegs { s with mir := t.mir } t
      ∧ RegsBut [MIR_STATUS.word.off] s t)
  ∧ (∀ (s : State) (i : Instr) (h : MirHdr) (d : LineData) (p : MirLedger) (row : MirRow) (x : BitVec 128),
    i = .mwr h d ∨ i = .mclean h ∨ i = .mdead h ∨ i = .minv h ∨ i = .mevict h ∨ i = .mldg h p ∨ i = .mrow h row ∨ i = .mscale h x ∨ i =
      .mpwr h ∨ i = .mchk h ∨ i = .mack h →
    Uninjected s 6 ∧ Uninjected s 7 →
    s.front.failed = true ∨ s.dark = true ∨ s.flag MIR_CTL.PAIR_EN = false →
    ∃ t, exec i s = .next t ∧ Untouched s t)

/-- When the mirror link is declared down a pairing or paired slice becomes SINGLE, with the cause that holds first: the partner lives,
  the seam timed out, takeover is off; from PAIRED with takeover on it probes the partner's share. The probe's answer or its timeout
  adopts the share, full or copy-only, and enters it in the loss report. REPAIR is refused while displaced, adopting or without a link;
  from SINGLE or FORMING it drops all copies and re-pairs until RESYNC_DONE. SPLIT ends a pair once all messages are acknowledged.
  MIR_LDG needs a valid binding, MIR_RATE its admission check, and CLEAR empties the loss report. -/
def Obligations.MirrorPartner : Prop :=
  (∀ (s : State) (reported live : Bool),
    let st := s.rd MIR_STATUS.STATE
    let acts := s.front.failed = false ∧ s.dark = false
    let takes := s.mirTakes = true ∧ s.winding = false
    let cut := s.mirAcross = true ∧ s.flag MIR_SEAM.TIMED_OUT = true
    let take := s.flag MIR_CTL.TAKE_EN = true
    s.atStep 6 = false →
    ∃ t, exec (.mirrorLinkDown reported live) s = .next t ∧ t.pins.peerLive = live
      ∧ (¬ acts → t.out = [] ∧ OnlyRegs { s with pins := { s.pins with peerLive := live } } t ∧ RegsBut [] s t)
      ∧ (acts → t.flag MIR_STATUS.LINK_UP = false)
      ∧ (acts → reported = true → t.bit LNK_STATUS.UP 6 = false)
      ∧ (acts → ¬ takes → t.rd MIR_STATUS.STATE = st ∧ t.mir = s.mir)
      ∧ (acts → takes → t.rd MIR_STATUS.STATE = 3 ∧ t.flag MIR_STATUS.UNMIRRORED = true ∧ t.mir.queue = [] ∧ t.mir.unacked = [] ∧
        t.mir.waiting = [] ∧ t.mir.scaleQ = [])
      ∧ (acts → takes → ∀ w, w ∈ t.ord.writes → w.mir = false)
      ∧ (acts → takes → st = 2 → t.rd MIR_STATUS.CAUSE = (if live = true then 2 else if cut then 3 else if take then 1 else 6))
      ∧ (acts → takes → t.mir.probing = (if st = 2 ∧ live = false ∧ ¬ cut ∧ take then true else s.mir.probing))
      ∧ t.ldg.rows = s.ldg.rows
      ∧ t.stk.beats = s.stk.beats)
  ∧ (∀ (s : State) (i : Instr) (status : BitVec 4),
    i = .reachProbeAnswer status ∨ i = .reachProbeTimeout →
    let copyOnly := i = .reachProbeTimeout ∨ status.toNat ≠ stOk
    let share := s.rd MIR_PARTNER.COORD % 8
    let n := s.rd MIR_LOSS_CTL.COUNT
    ∃ t, exec i s = .next t ∧ (s.mir.probing = false → Untouched s t)
      ∧ (s.mir.probing = true → t.rd MIR_STATUS.STATE = 4 ∧ t.rd MIR_STATUS.ADOPT = share ∧ t.flag MIR_STATUS.REACH = decide copyOnly ∧
        t.pins.takeover = true ∧ t.pins.share = BitVec.ofNat 3 share)
      ∧ (s.mir.probing = true → t.rd MIR_TAKEOVERS.COUNT = min (s.rd MIR_TAKEOVERS.COUNT + 1) (2 ^ MIR_TAKEOVERS.COUNT.w - 1))
      ∧ (s.mir.probing = true → n < 128 → t.rd MIR_LOSS_CTL.COUNT = n + 1 ∧ t.word (MIR_LOSS_INFO.word.off + 16 * n) = BitVec.ofNat 32 (2
        ^ 31 + (if s.flag MIR_CTL.DIRTY_MIR then 2 else 3) * 2 ^ 28 + 6 * 2 ^ 24 + s.rd MIR_PARTNER.COORD))
      ∧ (s.mir.probing = true → 128 ≤ n → t.flag MIR_LOSS_CTL.OVERFLOW = true)
      ∧ t.mir = { s.mir with probing := false }
      ∧ t.stk = s.stk
      ∧ t.coh = s.coh
      ∧ t.ldg = s.ldg
      ∧ t.out = [])
  ∧ (∀ (s : State) (i : Instr) (m : MgWrite),
    i = .repair m ∨ i = .split m →
    let rep := m.word.getLsbD 31 = true
    let spl := m.word.getLsbD 30 = true
    let st := s.rd MIR_STATUS.STATE
    let busy := st = 4 ∨ s.flag MIR_STATUS.DISPLACED = true ∨ s.flag MIR_STATUS.LINK_UP = false
    Admits s MIR_CTL.word.off m.src →
    ∃ t, exec i s = .next t ∧ (rep → busy → t.out = [answerOut m.src stRefused rsnBusy 0] ∧ OnlyRegs s t ∧ RegsBut [] s t)
      ∧ (¬ (rep ∧ busy) → t.out.getLast? = some (answerOut m.src stOk rsnNone 0))
      ∧ (rep → ¬ busy → st = 1 ∨ st = 3 → t.rd MIR_STATUS.STATE = 5 ∧ t.flag MIR_CTL.REPAIR = true ∧ t.mir.rxSeq = [] ∧ t.mir.waiting =
        [])
      ∧ (rep → ¬ busy → st = 1 ∨ st = 3 → s.mir.peer ≠ 5 → ∀ e, e ∈ s.stk.tags → e.2.isInv = false → s.isCopy (lineOf e.2.sector false) =
        true → t.tag (e.1 / 32) (e.1 % 32) = TagW.empty)
      ∧ (¬ rep → spl → st = 2 → s.mir.queue = [] → s.mir.unacked = [] → t.rd MIR_STATUS.STATE = 3 ∧ t.rd MIR_STATUS.CAUSE = 5 ∧ t.flag
        MIR_STATUS.UNMIRRORED = true ∧ t.flag MIR_CTL.SPLIT = false)
      ∧ (¬ rep → spl → st = 2 → s.mir.unacked ≠ [] → t.rd MIR_STATUS.STATE = 2 ∧ t.flag MIR_CTL.SPLIT = true ∧ t.mir = s.mir)
      ∧ (¬ rep → ¬ (spl ∧ st = 2) → t.out = [answerOut m.src stOk rsnNone 0] ∧ OnlyRegs s t ∧ RegsBut [MIR_CTL.word.off] s t)
      ∧ t.stk.beats = s.stk.beats
      ∧ t.ldg.rows = s.ldg.rows)
  ∧ (∀ (s : State),
    let done := s.rd MIR_STATUS.STATE = 5 ∧ s.mir.sentAll = true ∧ s.mir.queue = [] ∧ s.mir.unacked = [] ∧ s.mir.scales = BitVec.allOnes
      256
    ∃ t, exec (.resyncDone) s = .next t ∧ (done → t.rd MIR_STATUS.STATE = 2 ∧ t.flag MIR_STATUS.UNMIRRORED = false ∧ t.flag
      MIR_CTL.REPAIR = false)
      ∧ (¬ done → RegsBut [] s t)
      ∧ t.out = []
      ∧ OnlyRegs s t
      ∧ RegsBut [MIR_STATUS.word.off, MIR_CTL.word.off] s t)
  ∧ (∀ (s : State) (n : BitVec 5) (m : MgWrite),
    let k := n.toNat
    let bad := (m.word.getLsbD 31 = true ∨ m.word.getLsbD 30 = true) ∧ s.bindOk k = false
    Admits s (MIR_LDG.word.off + 4 * k) m.src →
    ∃ t, exec (.mirLdgWrite n m) s = .next t ∧ (bad → t.out = [answerOut m.src stRefused rsnBindInvalid 0] ∧ RegsBut [] s t)
      ∧ (¬ bad → t.out = [answerOut m.src stOk rsnNone 0] ∧ t.flagI MIR_LDG.MIRROR k = m.word.getLsbD 31 ∧ t.flagI MIR_LDG.COPY k =
        m.word.getLsbD 30 ∧ t.rdI MIR_LDG.PEER k = fieldGet MIR_LDG.PEER m.word)
      ∧ OnlyRegs s t
      ∧ RegsBut [MIR_LDG.word.off + 4 * k] s t)
  ∧ (∀ (s : State) (m : MgWrite),
    Admits s MIR_RATE.word.off m.src →
    ∃ t, exec (.mirRateWrite m) s = .next t ∧ t.adm =
      { s.adm with queue := s.adm.queue ++ [.mirRate m.src (fieldGet MIR_RATE.RATE m.word)] }
      ∧ t.flag ADM_STATUS.BUSY = true
      ∧ t.out = []
      ∧ OnlyRegs { s with adm := t.adm } t
      ∧ RegsBut [ADM_STATUS.word.off] s t)
  ∧ (∀ (s : State) (m : MgWrite),
    let go := m.word.getLsbD 31 = true
    Admits s MIR_LOSS_CTL.word.off m.src →
    ∃ t, exec (.lossReportClear m) s = .next t ∧ (go → t.word MIR_LOSS_CTL.word.off = 0 ∧ ∀ n : Nat, n < 128 → t.word
      (MIR_LOSS_INFO.word.off + 16 * n) = 0 ∧ t.word (MIR_LOSS_LO.word.off + 16 * n) = 0 ∧ t.word (MIR_LOSS_HI.word.off + 16 * n) = 0 ∧
      t.word (MIR_LOSS_TS.word.off + 16 * n) = 0)
      ∧ (¬ go → RegsBut [] s t)
      ∧ t.out = [answerOut m.src stOk rsnNone 0]
      ∧ OnlyRegs s t
      ∧ (RegsBut (MIR_LOSS_CTL.word.off :: (List.range 512).map (fun n => MIR_LOSS_LO.word.off + 4 * n)) s t))

/-- SEAM_TIMEOUT marks the seam, drops what waits to cross, makes a pair across it SINGLE and puts the chain contexts with tokens across
  it in FAULT; an announced or drained seam does not time out. MIR_SEAM announces a clock-down or resumes; SEAM_READY follows when
  nothing across is unacknowledged and ends a pair across the seam. A Transom beat joins its lane's FIFO of 64; a credit returns, at most
  64, and what waits leaves in order. PREPARE walks the tags, COMMIT from READY serves the map in force, ABORT leaves PREPARE, OP 3 and a
  COMMIT elsewhere are refused; RESTRIPE_READY ends PREPARE when memory is quiet. -/
def Obligations.SeamAndRestripe : Prop :=
  (∀ (s : State),
    let none' := s.flag MIR_SEAM.TIMED_OUT = true ∨ s.mir.shut = true ∨ s.flag MIR_SEAM.READY = true
    let pair := s.mirAcross = true ∧ s.mirTakes = true
    ∃ t, exec (.seamTimeout) s = .next t ∧ (none' → Untouched s t)
      ∧ (¬ none' → t.flag MIR_SEAM.TIMED_OUT = true ∧ t.tran = { s.tran with wait := [] })
      ∧ (¬ none' → pair → t.rd MIR_STATUS.STATE = 3 ∧ (s.rd MIR_STATUS.STATE = 2 → t.rd MIR_STATUS.CAUSE = 3))
      ∧ (¬ none' → ¬ pair → t.mir = s.mir ∧ t.rd MIR_STATUS.STATE = s.rd MIR_STATUS.STATE)
      ∧ (¬ none' → ∀ c : Nat, c < 16 → s.chnOk c = true → s.chnAcross c = true → s.chn.tokens.any (fun x => x.ctx = c) = true →
        t.chnFaulty c = true)
      ∧ t.ldg.rows = s.ldg.rows
      ∧ t.stk.beats = s.stk.beats)
  ∧ (∀ (s : State) (i : Instr) (m : MgWrite),
    i = .seamAnnounce m ∨ i = .seamResume m →
    let down := m.word.getLsbD 31 = true
    let resume := m.word.getLsbD 30 = true
    Admits s MIR_SEAM.word.off m.src →
    ∃ t, exec i s = .next t ∧ t.out = [answerOut m.src stOk rsnNone 0]
      ∧ (resume → t.flag MIR_SEAM.READY = false ∧ t.flag MIR_SEAM.TIMED_OUT = false)
      ∧ (down → resume ∨ s.flag MIR_SEAM.READY = false → t.mir = { s.mir with shut := true })
      ∧ (down → ¬ resume → s.flag MIR_SEAM.READY = true → t.mir = s.mir)
      ∧ (¬ down → t.mir = { s.mir with shut := decide (¬ resume) && s.mir.shut })
      ∧ OnlyRegs { s with mir := t.mir } t
      ∧ RegsBut [MIR_SEAM.word.off] s t)
  ∧ (∀ (s : State),
    let drained := (s.mirAcross = true → s.mir.unacked = []) ∧ ∀ x, x ∈ s.chn.tokens → s.chnAcross x.ctx = false
    let go := s.mir.shut = true ∧ drained
    let pair := s.mirAcross = true ∧ s.mirTakes = true
    ∃ t, exec (.seamReady) s = .next t ∧ (¬ go → Untouched s t)
      ∧ (go → t.flag MIR_SEAM.READY = true ∧ t.mir.shut = false)
      ∧ (go → pair → t.rd MIR_STATUS.STATE = 3 ∧ (s.rd MIR_STATUS.STATE = 2 → t.rd MIR_STATUS.CAUSE = 4))
      ∧ (go → ¬ pair → t.out = [] ∧ OnlyRegs { s with mir := { s.mir with shut := false } } t ∧ RegsBut [MIR_SEAM.word.off] s t))
  ∧ (∀ (s : State) (lane : BitVec 2) (d : LineData) (sb : BitVec 64),
    let k := lane.toNat
    let q := tget [] s.tran.fifo k
    ∃ t, exec (.transomBeat lane d sb) s = .next t ∧ (k = 3 ∨ 64 ≤ q.length → t.tran = s.tran)
      ∧ (k ≠ 3 → q.length < 64 → tget [] t.tran.fifo k = q ++ [(d, sb)] ∧ TabBut [] [k] s.tran.fifo t.tran.fifo ∧ t.tran.credits =
        s.tran.credits)
      ∧ t.out = []
      ∧ OnlyRegs { s with tran := { s.tran with fifo := t.tran.fifo } } t
      ∧ RegsBut [] s t)
  ∧ (∀ (s : State) (lane : BitVec 2),
    let k := lane.toNat
    let n := min 64 (s.tranCredit k + 1)
    let q := s.tran.wait.filter (fun x => x.1 = k)
    ∃ t, exec (.transomCredit lane) s = .next t ∧ (k = 3 → Untouched s t)
      ∧ (k ≠ 3 → q = [] → t.tranCredit k = n ∧ t.tran.wait = s.tran.wait ∧ t.out = [])
      ∧ (k ≠ 3 → ∀ x, q.head? = some x → n < x.2.1 → t.tranCredit k = n ∧ t.tran.wait = s.tran.wait ∧ t.out = [])
      ∧ (k ≠ 3 → ∀ x, q.head? = some x → x.2.1 ≤ n → t.out.head? = some x.2.2 ∧ t.tran.wait.length < s.tran.wait.length ∧ t.tranCredit k
        ≤ n - x.2.1)
      ∧ TabBut 64 [k] s.tran.credits t.tran.credits
      ∧ OnlyRegs { s with tran := { s.tran with wait := t.tran.wait, credits := t.tran.credits } } t
      ∧ RegsBut [] s t)
  ∧ (∀ (s : State) (i : Instr) (m : MgWrite),
    i = .prepare m ∨ i = .commit m ∨ i = .abort m →
    let go := m.word.getLsbD 31 = true
    let op := fieldGet MIR_RESTRIPE.OP m.word
    let st := s.rd MIR_RESTRIPE.STATE
    let adopted := s.rd MIR_STATUS.STATE = 4
    Admits s MIR_RESTRIPE.word.off m.src →
    ∃ t, exec i s = .next t ∧ (¬ go → t.out = [answerOut m.src stOk rsnNone 0] ∧ t.rd MIR_RESTRIPE.STATE = st ∧ OnlyRegs s t ∧ RegsBut
      [MIR_RESTRIPE.word.off] s t)
      ∧ (go → op = 3 → t.out = [answerOut m.src stRefused rsnField 0] ∧ OnlyRegs s t ∧ RegsBut [] s t)
      ∧ (go → op = 1 → st ≠ 2 → t.out = [answerOut m.src stRefused rsnBusy 0] ∧ OnlyRegs s t ∧ RegsBut [] s t)
      ∧ (go → op = 1 → st = 2 → t.rd MIR_RESTRIPE.STATE = 0 ∧ t.flag MIR_STATUS.DISPLACED = false ∧ t.rd MIR_STATUS.STATE = (if adopted
        then 3 else s.rd MIR_STATUS.STATE) ∧ t.pins.takeover = (if adopted then false else s.pins.takeover) ∧ t.out = [answerOut m.src
        stOk rsnNone 0] ∧ RegsBut [MIR_RESTRIPE.word.off, MIR_STATUS.word.off] s t)
      ∧ (go → op = 0 → st = 0 → t.rd MIR_RESTRIPE.STATE = 1 ∧ t.out.getLast? = some (answerOut m.src stOk rsnNone 0))
      ∧ (go → op = 0 → st ≠ 0 → t.rd MIR_RESTRIPE.STATE = st ∧ t.out = [answerOut m.src stOk rsnNone 0] ∧ OnlyRegs s t ∧ RegsBut
        [MIR_RESTRIPE.word.off] s t)
      ∧ (go → op = 2 → t.rd MIR_RESTRIPE.STATE = (if st = 1 then 1 else 0) ∧ t.mir =
        { s.mir with stripe := { s.mir.stripe with abort := decide (st = 1) || s.mir.stripe.abort } } ∧ t.out = [answerOut m.src stOk
        rsnNone 0])
      ∧ (go → op ≠ 0 → t.ldg = s.ldg ∧ t.stk = s.stk ∧ t.coh = s.coh))
  ∧ (∀ (s : State),
    let on := s.rd MIR_RESTRIPE.STATE = 1
    let walked := s.mir.stripe.walked = true
    let free := s.place.running = none ∧ s.place.queue = [] ∧ s.ord.pend = [] ∧ s.flag ORD_WIN_STATUS.BUSY = false ∧ s.coh.cat = [] ∧
      s.coh.txns = [] ∧ s.stk.farReads = []
    ∃ t, exec (.restripeReady) s = .next t ∧ (¬ on → Untouched s t)
      ∧ (on → walked → s.memQuiet = false → Untouched s t)
      ∧ (on → walked → s.memQuiet = true → t.rd MIR_RESTRIPE.STATE = (if s.mir.stripe.abort then 0 else 2) ∧ t.mir =
        { s.mir with stripe := ⟨false, false⟩ } ∧ t.stk = s.stk ∧ t.out = [])
      ∧ (on → ¬ walked → free → (∀ e, e ∈ s.stk.tags → t.tag (e.1 / 32) (e.1 % 32) = TagW.empty) ∧ (t.rd MIR_RESTRIPE.STATE = 1 →
        t.mir.stripe.walked = true))
      ∧ (walked → t.ldg = s.ldg ∧ t.coh = s.coh ∧ t.stk.beats = s.stk.beats))

/-- A write of DBK_CTL that the management port takes is answered OK whatever the step, and online. CLEAR empties the 64 entries and
  clears FULL and LOST, CLR_FAILS sets every failure count to 0, CLR_RETIRED empties the record of retired banks; the part whose bit is 0
  keeps its words. CLR_RETIRED changes no bank in this start: the Stacks and STK_BANK_STATE are as before, so that it takes effect at the
  next start. -/
def Obligations.DaybookControlClears : Prop :=
  ∀ (s : State) (i : Instr) (m : MgWrite),
    i = .daybookClear m ∨ i = .clrFails m ∨ i = .clrRetired m →
    let w := m.word
    Admits s DBK_CTL.word.off m.src →
    ∃ t, exec i s = .next t ∧ t.out = [answerOut m.src stOk rsnNone 0]
      ∧ (w.getLsbD 31 = true → t.rd DBK_STATUS.COUNT = 0 ∧ t.flag DBK_STATUS.FULL = false ∧ t.rd DBK_STATUS.LOST = 0 ∧ (∀ n : Nat, n < 64
        → t.word (DBK_ENT_INFO.word.off + 8 * n) = 0 ∧ t.word (DBK_ENT_TIME.word.off + 8 * n) = 0))
      ∧ (w.getLsbD 31 = false → t.word DBK_STATUS.word.off = s.word DBK_STATUS.word.off ∧ (∀ n : Nat, n < 64 → t.word
        (DBK_ENT_INFO.word.off + 8 * n) = s.word (DBK_ENT_INFO.word.off + 8 * n)))
      ∧ (w.getLsbD 30 = true → t.word DBK_FAILS.word.off = 0 ∧ t.word DBK_LINK_FAILS.word.off = 0)
      ∧ (w.getLsbD 30 = false → t.word DBK_FAILS.word.off = s.word DBK_FAILS.word.off ∧ t.word DBK_LINK_FAILS.word.off = s.word
        DBK_LINK_FAILS.word.off)
      ∧ (t.word DBK_RETIRED.word.off = if w.getLsbD 29 then 0 else s.word DBK_RETIRED.word.off)
      ∧ t.rd DBK_STATUS.STARTS = s.rd DBK_STATUS.STARTS
      ∧ t.word STK_BANK_STATE.word.off = s.word STK_BANK_STATE.word.off
      ∧ OnlyRegs s t
      ∧ RegsBut (DBK_RETIRED.word.off :: dbkRegs) s t

/-- While a start runs a step or waits on the driver in it, a warm reset writes the next Daybook entry with outcome INTERRUPTED, cause
  RESET_IN_STEP and the step's number in DETAIL; the entry after it is step 0's own, with another outcome. The Daybook goes on where it
  stood, or from its first entry when the coordinates have changed (R280). An entry is written while one of the 64 is free (R298). -/
def Obligations.InterruptedStepRecorded : Prop :=
  ∀ (s : State) (p : Straps),
    let k := s.rd SLC_START.STEP
    let changed := strapOk p = true ∧ s.start.coord.isSome = true ∧ s.start.coord ≠ some (strapCoord p)
    let n := if changed then 0 else s.rd DBK_STATUS.COUNT
    s.rd SLC_START.STATE = 0 ∨ s.rd SLC_START.STATE = 1 →
    ∃ t, exec (.warmReset p) s = .next t ∧ (n < 64 → t.flagI DBK_ENT_INFO.VALID n = true ∧ t.rdI DBK_ENT_INFO.OUTCOME n = ocInterrupted ∧
      t.rdI DBK_ENT_INFO.CAUSE n = 0x90 ∧ t.rdI DBK_ENT_INFO.DETAIL n = k)
      ∧ (n < 63 → t.flagI DBK_ENT_INFO.VALID (n + 1) = true ∧ t.rdI DBK_ENT_INFO.STEP (n + 1) = 0 ∧ t.rdI DBK_ENT_INFO.OUTCOME (n + 1) =
        (if strapOk p = false then ocFail else if changed then ocAlt else ocPass) ∧ t.rd DBK_STATUS.COUNT = n + 2)
      ∧ (¬ changed → ∀ j : Nat, j < n → t.word (DBK_ENT_INFO.word.off + 8 * j) = s.word (DBK_ENT_INFO.word.off + 8 * j))
end

