-- ==== Sys2Proof/Laws/State.lean ====
section
/-! SUPPORT. The fields of State after each named operation: one lemma per field that the operation leaves alone, so that no later proof
unfolds a record update. -/

namespace Sys2Proof.Machine

/-- A field that every round of a fold keeps is kept by the fold. -/
theorem foldl_field {α β : Type} (g : State → α → State) (p : State → β) (h : ∀ u a, p (g u a) = p u) (l : List α) (s : State) :
    p (l.foldl g s) = p s := by
  induction l generalizing s with
  | nil => rfl
  | cons a l ih => rw [List.foldl_cons, ih, h]

variable (s : State)


/-! ### setWord -/

@[simp] theorem State.setWord_s64 (off : Nat) (v : Word) : (s.setWord off v).s64 = s.s64 := rfl
@[simp] theorem State.setWord_pins (off : Nat) (v : Word) : (s.setWord off v).pins = s.pins := rfl
@[simp] theorem State.setWord_front (off : Nat) (v : Word) : (s.setWord off v).front = s.front := rfl
@[simp] theorem State.setWord_stk (off : Nat) (v : Word) : (s.setWord off v).stk = s.stk := rfl
@[simp] theorem State.setWord_coh (off : Nat) (v : Word) : (s.setWord off v).coh = s.coh := rfl
@[simp] theorem State.setWord_ord (off : Nat) (v : Word) : (s.setWord off v).ord = s.ord := rfl
@[simp] theorem State.setWord_mir (off : Nat) (v : Word) : (s.setWord off v).mir = s.mir := rfl
@[simp] theorem State.setWord_ldg (off : Nat) (v : Word) : (s.setWord off v).ldg = s.ldg := rfl
@[simp] theorem State.setWord_chn (off : Nat) (v : Word) : (s.setWord off v).chn = s.chn := rfl
@[simp] theorem State.setWord_por (off : Nat) (v : Word) : (s.setWord off v).por = s.por := rfl
@[simp] theorem State.setWord_adm (off : Nat) (v : Word) : (s.setWord off v).adm = s.adm := rfl
@[simp] theorem State.setWord_pwr (off : Nat) (v : Word) : (s.setWord off v).pwr = s.pwr := rfl
@[simp] theorem State.setWord_img (off : Nat) (v : Word) : (s.setWord off v).img = s.img := rfl
@[simp] theorem State.setWord_cur (off : Nat) (v : Word) : (s.setWord off v).cur = s.cur := rfl
@[simp] theorem State.setWord_start (off : Nat) (v : Word) : (s.setWord off v).start = s.start := rfl
@[simp] theorem State.setWord_tran (off : Nat) (v : Word) : (s.setWord off v).tran = s.tran := rfl
@[simp] theorem State.setWord_place (off : Nat) (v : Word) : (s.setWord off v).place = s.place := rfl
@[simp] theorem State.setWord_cfg (off : Nat) (v : Word) : (s.setWord off v).cfg = s.cfg := rfl
@[simp] theorem State.setWord_err (off : Nat) (v : Word) : (s.setWord off v).err = s.err := rfl
@[simp] theorem State.setWord_pmuFrz (off : Nat) (v : Word) : (s.setWord off v).pmuFrz = s.pmuFrz := rfl
@[simp] theorem State.setWord_latch (off : Nat) (v : Word) : (s.setWord off v).latch = s.latch := rfl
@[simp] theorem State.setWord_freeCtr (off : Nat) (v : Word) : (s.setWord off v).freeCtr = s.freeCtr := rfl
@[simp] theorem State.setWord_out (off : Nat) (v : Word) : (s.setWord off v).out = s.out := rfl
@[simp] theorem State.setWord_pending (off : Nat) (v : Word) : (s.setWord off v).pending = s.pending := rfl

/-! ### wrI -/

@[simp] theorem State.wrI_s64 (f : Field) (i v : Nat) : (s.wrI f i v).s64 = s.s64 := rfl
@[simp] theorem State.wrI_pins (f : Field) (i v : Nat) : (s.wrI f i v).pins = s.pins := rfl
@[simp] theorem State.wrI_front (f : Field) (i v : Nat) : (s.wrI f i v).front = s.front := rfl
@[simp] theorem State.wrI_stk (f : Field) (i v : Nat) : (s.wrI f i v).stk = s.stk := rfl
@[simp] theorem State.wrI_coh (f : Field) (i v : Nat) : (s.wrI f i v).coh = s.coh := rfl
@[simp] theorem State.wrI_ord (f : Field) (i v : Nat) : (s.wrI f i v).ord = s.ord := rfl
@[simp] theorem State.wrI_mir (f : Field) (i v : Nat) : (s.wrI f i v).mir = s.mir := rfl
@[simp] theorem State.wrI_ldg (f : Field) (i v : Nat) : (s.wrI f i v).ldg = s.ldg := rfl
@[simp] theorem State.wrI_chn (f : Field) (i v : Nat) : (s.wrI f i v).chn = s.chn := rfl
@[simp] theorem State.wrI_por (f : Field) (i v : Nat) : (s.wrI f i v).por = s.por := rfl
@[simp] theorem State.wrI_adm (f : Field) (i v : Nat) : (s.wrI f i v).adm = s.adm := rfl
@[simp] theorem State.wrI_pwr (f : Field) (i v : Nat) : (s.wrI f i v).pwr = s.pwr := rfl
@[simp] theorem State.wrI_img (f : Field) (i v : Nat) : (s.wrI f i v).img = s.img := rfl
@[simp] theorem State.wrI_cur (f : Field) (i v : Nat) : (s.wrI f i v).cur = s.cur := rfl
@[simp] theorem State.wrI_start (f : Field) (i v : Nat) : (s.wrI f i v).start = s.start := rfl
@[simp] theorem State.wrI_tran (f : Field) (i v : Nat) : (s.wrI f i v).tran = s.tran := rfl
@[simp] theorem State.wrI_place (f : Field) (i v : Nat) : (s.wrI f i v).place = s.place := rfl
@[simp] theorem State.wrI_cfg (f : Field) (i v : Nat) : (s.wrI f i v).cfg = s.cfg := rfl
@[simp] theorem State.wrI_err (f : Field) (i v : Nat) : (s.wrI f i v).err = s.err := rfl
@[simp] theorem State.wrI_pmuFrz (f : Field) (i v : Nat) : (s.wrI f i v).pmuFrz = s.pmuFrz := rfl
@[simp] theorem State.wrI_latch (f : Field) (i v : Nat) : (s.wrI f i v).latch = s.latch := rfl
@[simp] theorem State.wrI_freeCtr (f : Field) (i v : Nat) : (s.wrI f i v).freeCtr = s.freeCtr := rfl
@[simp] theorem State.wrI_out (f : Field) (i v : Nat) : (s.wrI f i v).out = s.out := rfl
@[simp] theorem State.wrI_pending (f : Field) (i v : Nat) : (s.wrI f i v).pending = s.pending := rfl

/-! ### wr -/

@[simp] theorem State.wr_s64 (f : Field) (v : Nat) : (s.wr f v).s64 = s.s64 := rfl
@[simp] theorem State.wr_pins (f : Field) (v : Nat) : (s.wr f v).pins = s.pins := rfl
@[simp] theorem State.wr_front (f : Field) (v : Nat) : (s.wr f v).front = s.front := rfl
@[simp] theorem State.wr_stk (f : Field) (v : Nat) : (s.wr f v).stk = s.stk := rfl
@[simp] theorem State.wr_coh (f : Field) (v : Nat) : (s.wr f v).coh = s.coh := rfl
@[simp] theorem State.wr_ord (f : Field) (v : Nat) : (s.wr f v).ord = s.ord := rfl
@[simp] theorem State.wr_mir (f : Field) (v : Nat) : (s.wr f v).mir = s.mir := rfl
@[simp] theorem State.wr_ldg (f : Field) (v : Nat) : (s.wr f v).ldg = s.ldg := rfl
@[simp] theorem State.wr_chn (f : Field) (v : Nat) : (s.wr f v).chn = s.chn := rfl
@[simp] theorem State.wr_por (f : Field) (v : Nat) : (s.wr f v).por = s.por := rfl
@[simp] theorem State.wr_adm (f : Field) (v : Nat) : (s.wr f v).adm = s.adm := rfl
@[simp] theorem State.wr_pwr (f : Field) (v : Nat) : (s.wr f v).pwr = s.pwr := rfl
@[simp] theorem State.wr_img (f : Field) (v : Nat) : (s.wr f v).img = s.img := rfl
@[simp] theorem State.wr_cur (f : Field) (v : Nat) : (s.wr f v).cur = s.cur := rfl
@[simp] theorem State.wr_start (f : Field) (v : Nat) : (s.wr f v).start = s.start := rfl
@[simp] theorem State.wr_tran (f : Field) (v : Nat) : (s.wr f v).tran = s.tran := rfl
@[simp] theorem State.wr_place (f : Field) (v : Nat) : (s.wr f v).place = s.place := rfl
@[simp] theorem State.wr_cfg (f : Field) (v : Nat) : (s.wr f v).cfg = s.cfg := rfl
@[simp] theorem State.wr_err (f : Field) (v : Nat) : (s.wr f v).err = s.err := rfl
@[simp] theorem State.wr_pmuFrz (f : Field) (v : Nat) : (s.wr f v).pmuFrz = s.pmuFrz := rfl
@[simp] theorem State.wr_latch (f : Field) (v : Nat) : (s.wr f v).latch = s.latch := rfl
@[simp] theorem State.wr_freeCtr (f : Field) (v : Nat) : (s.wr f v).freeCtr = s.freeCtr := rfl
@[simp] theorem State.wr_out (f : Field) (v : Nat) : (s.wr f v).out = s.out := rfl
@[simp] theorem State.wr_pending (f : Field) (v : Nat) : (s.wr f v).pending = s.pending := rfl

/-! ### setFlag -/

@[simp] theorem State.setFlag_s64 (f : Field) (b : Bool) : (s.setFlag f b).s64 = s.s64 := rfl
@[simp] theorem State.setFlag_pins (f : Field) (b : Bool) : (s.setFlag f b).pins = s.pins := rfl
@[simp] theorem State.setFlag_front (f : Field) (b : Bool) : (s.setFlag f b).front = s.front := rfl
@[simp] theorem State.setFlag_stk (f : Field) (b : Bool) : (s.setFlag f b).stk = s.stk := rfl
@[simp] theorem State.setFlag_coh (f : Field) (b : Bool) : (s.setFlag f b).coh = s.coh := rfl
@[simp] theorem State.setFlag_ord (f : Field) (b : Bool) : (s.setFlag f b).ord = s.ord := rfl
@[simp] theorem State.setFlag_mir (f : Field) (b : Bool) : (s.setFlag f b).mir = s.mir := rfl
@[simp] theorem State.setFlag_ldg (f : Field) (b : Bool) : (s.setFlag f b).ldg = s.ldg := rfl
@[simp] theorem State.setFlag_chn (f : Field) (b : Bool) : (s.setFlag f b).chn = s.chn := rfl
@[simp] theorem State.setFlag_por (f : Field) (b : Bool) : (s.setFlag f b).por = s.por := rfl
@[simp] theorem State.setFlag_adm (f : Field) (b : Bool) : (s.setFlag f b).adm = s.adm := rfl
@[simp] theorem State.setFlag_pwr (f : Field) (b : Bool) : (s.setFlag f b).pwr = s.pwr := rfl
@[simp] theorem State.setFlag_img (f : Field) (b : Bool) : (s.setFlag f b).img = s.img := rfl
@[simp] theorem State.setFlag_cur (f : Field) (b : Bool) : (s.setFlag f b).cur = s.cur := rfl
@[simp] theorem State.setFlag_start (f : Field) (b : Bool) : (s.setFlag f b).start = s.start := rfl
@[simp] theorem State.setFlag_tran (f : Field) (b : Bool) : (s.setFlag f b).tran = s.tran := rfl
@[simp] theorem State.setFlag_place (f : Field) (b : Bool) : (s.setFlag f b).place = s.place := rfl
@[simp] theorem State.setFlag_cfg (f : Field) (b : Bool) : (s.setFlag f b).cfg = s.cfg := rfl
@[simp] theorem State.setFlag_err (f : Field) (b : Bool) : (s.setFlag f b).err = s.err := rfl
@[simp] theorem State.setFlag_pmuFrz (f : Field) (b : Bool) : (s.setFlag f b).pmuFrz = s.pmuFrz := rfl
@[simp] theorem State.setFlag_latch (f : Field) (b : Bool) : (s.setFlag f b).latch = s.latch := rfl
@[simp] theorem State.setFlag_freeCtr (f : Field) (b : Bool) : (s.setFlag f b).freeCtr = s.freeCtr := rfl
@[simp] theorem State.setFlag_out (f : Field) (b : Bool) : (s.setFlag f b).out = s.out := rfl
@[simp] theorem State.setFlag_pending (f : Field) (b : Bool) : (s.setFlag f b).pending = s.pending := rfl

/-! ### setFlagI -/

@[simp] theorem State.setFlagI_s64 (f : Field) (i : Nat) (b : Bool) : (s.setFlagI f i b).s64 = s.s64 := rfl
@[simp] theorem State.setFlagI_pins (f : Field) (i : Nat) (b : Bool) : (s.setFlagI f i b).pins = s.pins := rfl
@[simp] theorem State.setFlagI_front (f : Field) (i : Nat) (b : Bool) : (s.setFlagI f i b).front = s.front := rfl
@[simp] theorem State.setFlagI_stk (f : Field) (i : Nat) (b : Bool) : (s.setFlagI f i b).stk = s.stk := rfl
@[simp] theorem State.setFlagI_coh (f : Field) (i : Nat) (b : Bool) : (s.setFlagI f i b).coh = s.coh := rfl
@[simp] theorem State.setFlagI_ord (f : Field) (i : Nat) (b : Bool) : (s.setFlagI f i b).ord = s.ord := rfl
@[simp] theorem State.setFlagI_mir (f : Field) (i : Nat) (b : Bool) : (s.setFlagI f i b).mir = s.mir := rfl
@[simp] theorem State.setFlagI_ldg (f : Field) (i : Nat) (b : Bool) : (s.setFlagI f i b).ldg = s.ldg := rfl
@[simp] theorem State.setFlagI_chn (f : Field) (i : Nat) (b : Bool) : (s.setFlagI f i b).chn = s.chn := rfl
@[simp] theorem State.setFlagI_por (f : Field) (i : Nat) (b : Bool) : (s.setFlagI f i b).por = s.por := rfl
@[simp] theorem State.setFlagI_adm (f : Field) (i : Nat) (b : Bool) : (s.setFlagI f i b).adm = s.adm := rfl
@[simp] theorem State.setFlagI_pwr (f : Field) (i : Nat) (b : Bool) : (s.setFlagI f i b).pwr = s.pwr := rfl
@[simp] theorem State.setFlagI_img (f : Field) (i : Nat) (b : Bool) : (s.setFlagI f i b).img = s.img := rfl
@[simp] theorem State.setFlagI_cur (f : Field) (i : Nat) (b : Bool) : (s.setFlagI f i b).cur = s.cur := rfl
@[simp] theorem State.setFlagI_start (f : Field) (i : Nat) (b : Bool) : (s.setFlagI f i b).start = s.start := rfl
@[simp] theorem State.setFlagI_tran (f : Field) (i : Nat) (b : Bool) : (s.setFlagI f i b).tran = s.tran := rfl
@[simp] theorem State.setFlagI_place (f : Field) (i : Nat) (b : Bool) : (s.setFlagI f i b).place = s.place := rfl
@[simp] theorem State.setFlagI_cfg (f : Field) (i : Nat) (b : Bool) : (s.setFlagI f i b).cfg = s.cfg := rfl
@[simp] theorem State.setFlagI_err (f : Field) (i : Nat) (b : Bool) : (s.setFlagI f i b).err = s.err := rfl
@[simp] theorem State.setFlagI_pmuFrz (f : Field) (i : Nat) (b : Bool) : (s.setFlagI f i b).pmuFrz = s.pmuFrz := rfl
@[simp] theorem State.setFlagI_latch (f : Field) (i : Nat) (b : Bool) : (s.setFlagI f i b).latch = s.latch := rfl
@[simp] theorem State.setFlagI_freeCtr (f : Field) (i : Nat) (b : Bool) : (s.setFlagI f i b).freeCtr = s.freeCtr := rfl
@[simp] theorem State.setFlagI_out (f : Field) (i : Nat) (b : Bool) : (s.setFlagI f i b).out = s.out := rfl
@[simp] theorem State.setFlagI_pending (f : Field) (i : Nat) (b : Bool) : (s.setFlagI f i b).pending = s.pending := rfl

/-! ### bumpI -/

@[simp] theorem State.bumpI_s64 (f : Field) (i n : Nat) : (s.bumpI f i n).s64 = s.s64 := rfl
@[simp] theorem State.bumpI_pins (f : Field) (i n : Nat) : (s.bumpI f i n).pins = s.pins := rfl
@[simp] theorem State.bumpI_front (f : Field) (i n : Nat) : (s.bumpI f i n).front = s.front := rfl
@[simp] theorem State.bumpI_stk (f : Field) (i n : Nat) : (s.bumpI f i n).stk = s.stk := rfl
@[simp] theorem State.bumpI_coh (f : Field) (i n : Nat) : (s.bumpI f i n).coh = s.coh := rfl
@[simp] theorem State.bumpI_ord (f : Field) (i n : Nat) : (s.bumpI f i n).ord = s.ord := rfl
@[simp] theorem State.bumpI_mir (f : Field) (i n : Nat) : (s.bumpI f i n).mir = s.mir := rfl
@[simp] theorem State.bumpI_ldg (f : Field) (i n : Nat) : (s.bumpI f i n).ldg = s.ldg := rfl
@[simp] theorem State.bumpI_chn (f : Field) (i n : Nat) : (s.bumpI f i n).chn = s.chn := rfl
@[simp] theorem State.bumpI_por (f : Field) (i n : Nat) : (s.bumpI f i n).por = s.por := rfl
@[simp] theorem State.bumpI_adm (f : Field) (i n : Nat) : (s.bumpI f i n).adm = s.adm := rfl
@[simp] theorem State.bumpI_pwr (f : Field) (i n : Nat) : (s.bumpI f i n).pwr = s.pwr := rfl
@[simp] theorem State.bumpI_img (f : Field) (i n : Nat) : (s.bumpI f i n).img = s.img := rfl
@[simp] theorem State.bumpI_cur (f : Field) (i n : Nat) : (s.bumpI f i n).cur = s.cur := rfl
@[simp] theorem State.bumpI_start (f : Field) (i n : Nat) : (s.bumpI f i n).start = s.start := rfl
@[simp] theorem State.bumpI_tran (f : Field) (i n : Nat) : (s.bumpI f i n).tran = s.tran := rfl
@[simp] theorem State.bumpI_place (f : Field) (i n : Nat) : (s.bumpI f i n).place = s.place := rfl
@[simp] theorem State.bumpI_cfg (f : Field) (i n : Nat) : (s.bumpI f i n).cfg = s.cfg := rfl
@[simp] theorem State.bumpI_err (f : Field) (i n : Nat) : (s.bumpI f i n).err = s.err := rfl
@[simp] theorem State.bumpI_pmuFrz (f : Field) (i n : Nat) : (s.bumpI f i n).pmuFrz = s.pmuFrz := rfl
@[simp] theorem State.bumpI_latch (f : Field) (i n : Nat) : (s.bumpI f i n).latch = s.latch := rfl
@[simp] theorem State.bumpI_freeCtr (f : Field) (i n : Nat) : (s.bumpI f i n).freeCtr = s.freeCtr := rfl
@[simp] theorem State.bumpI_out (f : Field) (i n : Nat) : (s.bumpI f i n).out = s.out := rfl
@[simp] theorem State.bumpI_pending (f : Field) (i n : Nat) : (s.bumpI f i n).pending = s.pending := rfl

/-! ### bump -/

@[simp] theorem State.bump_s64 (f : Field) (n : Nat) : (s.bump f n).s64 = s.s64 := rfl
@[simp] theorem State.bump_pins (f : Field) (n : Nat) : (s.bump f n).pins = s.pins := rfl
@[simp] theorem State.bump_front (f : Field) (n : Nat) : (s.bump f n).front = s.front := rfl
@[simp] theorem State.bump_stk (f : Field) (n : Nat) : (s.bump f n).stk = s.stk := rfl
@[simp] theorem State.bump_coh (f : Field) (n : Nat) : (s.bump f n).coh = s.coh := rfl
@[simp] theorem State.bump_ord (f : Field) (n : Nat) : (s.bump f n).ord = s.ord := rfl
@[simp] theorem State.bump_mir (f : Field) (n : Nat) : (s.bump f n).mir = s.mir := rfl
@[simp] theorem State.bump_ldg (f : Field) (n : Nat) : (s.bump f n).ldg = s.ldg := rfl
@[simp] theorem State.bump_chn (f : Field) (n : Nat) : (s.bump f n).chn = s.chn := rfl
@[simp] theorem State.bump_por (f : Field) (n : Nat) : (s.bump f n).por = s.por := rfl
@[simp] theorem State.bump_adm (f : Field) (n : Nat) : (s.bump f n).adm = s.adm := rfl
@[simp] theorem State.bump_pwr (f : Field) (n : Nat) : (s.bump f n).pwr = s.pwr := rfl
@[simp] theorem State.bump_img (f : Field) (n : Nat) : (s.bump f n).img = s.img := rfl
@[simp] theorem State.bump_cur (f : Field) (n : Nat) : (s.bump f n).cur = s.cur := rfl
@[simp] theorem State.bump_start (f : Field) (n : Nat) : (s.bump f n).start = s.start := rfl
@[simp] theorem State.bump_tran (f : Field) (n : Nat) : (s.bump f n).tran = s.tran := rfl
@[simp] theorem State.bump_place (f : Field) (n : Nat) : (s.bump f n).place = s.place := rfl
@[simp] theorem State.bump_cfg (f : Field) (n : Nat) : (s.bump f n).cfg = s.cfg := rfl
@[simp] theorem State.bump_err (f : Field) (n : Nat) : (s.bump f n).err = s.err := rfl
@[simp] theorem State.bump_pmuFrz (f : Field) (n : Nat) : (s.bump f n).pmuFrz = s.pmuFrz := rfl
@[simp] theorem State.bump_latch (f : Field) (n : Nat) : (s.bump f n).latch = s.latch := rfl
@[simp] theorem State.bump_freeCtr (f : Field) (n : Nat) : (s.bump f n).freeCtr = s.freeCtr := rfl
@[simp] theorem State.bump_out (f : Field) (n : Nat) : (s.bump f n).out = s.out := rfl
@[simp] theorem State.bump_pending (f : Field) (n : Nat) : (s.bump f n).pending = s.pending := rfl

/-! ### wrapAdd -/

@[simp] theorem State.wrapAdd_s64 (f : Field) (n : Nat) : (s.wrapAdd f n).s64 = s.s64 := rfl
@[simp] theorem State.wrapAdd_pins (f : Field) (n : Nat) : (s.wrapAdd f n).pins = s.pins := rfl
@[simp] theorem State.wrapAdd_front (f : Field) (n : Nat) : (s.wrapAdd f n).front = s.front := rfl
@[simp] theorem State.wrapAdd_stk (f : Field) (n : Nat) : (s.wrapAdd f n).stk = s.stk := rfl
@[simp] theorem State.wrapAdd_coh (f : Field) (n : Nat) : (s.wrapAdd f n).coh = s.coh := rfl
@[simp] theorem State.wrapAdd_ord (f : Field) (n : Nat) : (s.wrapAdd f n).ord = s.ord := rfl
@[simp] theorem State.wrapAdd_mir (f : Field) (n : Nat) : (s.wrapAdd f n).mir = s.mir := rfl
@[simp] theorem State.wrapAdd_ldg (f : Field) (n : Nat) : (s.wrapAdd f n).ldg = s.ldg := rfl
@[simp] theorem State.wrapAdd_chn (f : Field) (n : Nat) : (s.wrapAdd f n).chn = s.chn := rfl
@[simp] theorem State.wrapAdd_por (f : Field) (n : Nat) : (s.wrapAdd f n).por = s.por := rfl
@[simp] theorem State.wrapAdd_adm (f : Field) (n : Nat) : (s.wrapAdd f n).adm = s.adm := rfl
@[simp] theorem State.wrapAdd_pwr (f : Field) (n : Nat) : (s.wrapAdd f n).pwr = s.pwr := rfl
@[simp] theorem State.wrapAdd_img (f : Field) (n : Nat) : (s.wrapAdd f n).img = s.img := rfl
@[simp] theorem State.wrapAdd_cur (f : Field) (n : Nat) : (s.wrapAdd f n).cur = s.cur := rfl
@[simp] theorem State.wrapAdd_start (f : Field) (n : Nat) : (s.wrapAdd f n).start = s.start := rfl
@[simp] theorem State.wrapAdd_tran (f : Field) (n : Nat) : (s.wrapAdd f n).tran = s.tran := rfl
@[simp] theorem State.wrapAdd_place (f : Field) (n : Nat) : (s.wrapAdd f n).place = s.place := rfl
@[simp] theorem State.wrapAdd_cfg (f : Field) (n : Nat) : (s.wrapAdd f n).cfg = s.cfg := rfl
@[simp] theorem State.wrapAdd_err (f : Field) (n : Nat) : (s.wrapAdd f n).err = s.err := rfl
@[simp] theorem State.wrapAdd_pmuFrz (f : Field) (n : Nat) : (s.wrapAdd f n).pmuFrz = s.pmuFrz := rfl
@[simp] theorem State.wrapAdd_latch (f : Field) (n : Nat) : (s.wrapAdd f n).latch = s.latch := rfl
@[simp] theorem State.wrapAdd_freeCtr (f : Field) (n : Nat) : (s.wrapAdd f n).freeCtr = s.freeCtr := rfl
@[simp] theorem State.wrapAdd_out (f : Field) (n : Nat) : (s.wrapAdd f n).out = s.out := rfl
@[simp] theorem State.wrapAdd_pending (f : Field) (n : Nat) : (s.wrapAdd f n).pending = s.pending := rfl

/-! ### setBit -/

@[simp] theorem State.setBit_s64 (f : Field) (k : Nat) (b : Bool) : (s.setBit f k b).s64 = s.s64 := rfl
@[simp] theorem State.setBit_pins (f : Field) (k : Nat) (b : Bool) : (s.setBit f k b).pins = s.pins := rfl
@[simp] theorem State.setBit_front (f : Field) (k : Nat) (b : Bool) : (s.setBit f k b).front = s.front := rfl
@[simp] theorem State.setBit_stk (f : Field) (k : Nat) (b : Bool) : (s.setBit f k b).stk = s.stk := rfl
@[simp] theorem State.setBit_coh (f : Field) (k : Nat) (b : Bool) : (s.setBit f k b).coh = s.coh := rfl
@[simp] theorem State.setBit_ord (f : Field) (k : Nat) (b : Bool) : (s.setBit f k b).ord = s.ord := rfl
@[simp] theorem State.setBit_mir (f : Field) (k : Nat) (b : Bool) : (s.setBit f k b).mir = s.mir := rfl
@[simp] theorem State.setBit_ldg (f : Field) (k : Nat) (b : Bool) : (s.setBit f k b).ldg = s.ldg := rfl
@[simp] theorem State.setBit_chn (f : Field) (k : Nat) (b : Bool) : (s.setBit f k b).chn = s.chn := rfl
@[simp] theorem State.setBit_por (f : Field) (k : Nat) (b : Bool) : (s.setBit f k b).por = s.por := rfl
@[simp] theorem State.setBit_adm (f : Field) (k : Nat) (b : Bool) : (s.setBit f k b).adm = s.adm := rfl
@[simp] theorem State.setBit_pwr (f : Field) (k : Nat) (b : Bool) : (s.setBit f k b).pwr = s.pwr := rfl
@[simp] theorem State.setBit_img (f : Field) (k : Nat) (b : Bool) : (s.setBit f k b).img = s.img := rfl
@[simp] theorem State.setBit_cur (f : Field) (k : Nat) (b : Bool) : (s.setBit f k b).cur = s.cur := rfl
@[simp] theorem State.setBit_start (f : Field) (k : Nat) (b : Bool) : (s.setBit f k b).start = s.start := rfl
@[simp] theorem State.setBit_tran (f : Field) (k : Nat) (b : Bool) : (s.setBit f k b).tran = s.tran := rfl
@[simp] theorem State.setBit_place (f : Field) (k : Nat) (b : Bool) : (s.setBit f k b).place = s.place := rfl
@[simp] theorem State.setBit_cfg (f : Field) (k : Nat) (b : Bool) : (s.setBit f k b).cfg = s.cfg := rfl
@[simp] theorem State.setBit_err (f : Field) (k : Nat) (b : Bool) : (s.setBit f k b).err = s.err := rfl
@[simp] theorem State.setBit_pmuFrz (f : Field) (k : Nat) (b : Bool) : (s.setBit f k b).pmuFrz = s.pmuFrz := rfl
@[simp] theorem State.setBit_latch (f : Field) (k : Nat) (b : Bool) : (s.setBit f k b).latch = s.latch := rfl
@[simp] theorem State.setBit_freeCtr (f : Field) (k : Nat) (b : Bool) : (s.setBit f k b).freeCtr = s.freeCtr := rfl
@[simp] theorem State.setBit_out (f : Field) (k : Nat) (b : Bool) : (s.setBit f k b).out = s.out := rfl
@[simp] theorem State.setBit_pending (f : Field) (k : Nat) (b : Bool) : (s.setBit f k b).pending = s.pending := rfl

/-! ### setPmu -/

@[simp] theorem State.setPmu_s64 (n v : Nat) : (s.setPmu n v).s64 = s.s64 := rfl
@[simp] theorem State.setPmu_pins (n v : Nat) : (s.setPmu n v).pins = s.pins := rfl
@[simp] theorem State.setPmu_front (n v : Nat) : (s.setPmu n v).front = s.front := rfl
@[simp] theorem State.setPmu_stk (n v : Nat) : (s.setPmu n v).stk = s.stk := rfl
@[simp] theorem State.setPmu_coh (n v : Nat) : (s.setPmu n v).coh = s.coh := rfl
@[simp] theorem State.setPmu_ord (n v : Nat) : (s.setPmu n v).ord = s.ord := rfl
@[simp] theorem State.setPmu_mir (n v : Nat) : (s.setPmu n v).mir = s.mir := rfl
@[simp] theorem State.setPmu_ldg (n v : Nat) : (s.setPmu n v).ldg = s.ldg := rfl
@[simp] theorem State.setPmu_chn (n v : Nat) : (s.setPmu n v).chn = s.chn := rfl
@[simp] theorem State.setPmu_por (n v : Nat) : (s.setPmu n v).por = s.por := rfl
@[simp] theorem State.setPmu_adm (n v : Nat) : (s.setPmu n v).adm = s.adm := rfl
@[simp] theorem State.setPmu_pwr (n v : Nat) : (s.setPmu n v).pwr = s.pwr := rfl
@[simp] theorem State.setPmu_img (n v : Nat) : (s.setPmu n v).img = s.img := rfl
@[simp] theorem State.setPmu_cur (n v : Nat) : (s.setPmu n v).cur = s.cur := rfl
@[simp] theorem State.setPmu_start (n v : Nat) : (s.setPmu n v).start = s.start := rfl
@[simp] theorem State.setPmu_tran (n v : Nat) : (s.setPmu n v).tran = s.tran := rfl
@[simp] theorem State.setPmu_place (n v : Nat) : (s.setPmu n v).place = s.place := rfl
@[simp] theorem State.setPmu_cfg (n v : Nat) : (s.setPmu n v).cfg = s.cfg := rfl
@[simp] theorem State.setPmu_err (n v : Nat) : (s.setPmu n v).err = s.err := rfl
@[simp] theorem State.setPmu_pmuFrz (n v : Nat) : (s.setPmu n v).pmuFrz = s.pmuFrz := rfl
@[simp] theorem State.setPmu_latch (n v : Nat) : (s.setPmu n v).latch = s.latch := rfl
@[simp] theorem State.setPmu_freeCtr (n v : Nat) : (s.setPmu n v).freeCtr = s.freeCtr := rfl
@[simp] theorem State.setPmu_out (n v : Nat) : (s.setPmu n v).out = s.out := rfl
@[simp] theorem State.setPmu_pending (n v : Nat) : (s.setPmu n v).pending = s.pending := rfl

/-! ### emit -/

@[simp] theorem State.emit_s64 (o : Out) : (s.emit o).s64 = s.s64 := rfl
@[simp] theorem State.emit_regs (o : Out) : (s.emit o).regs = s.regs := rfl
@[simp] theorem State.emit_pins (o : Out) : (s.emit o).pins = s.pins := rfl
@[simp] theorem State.emit_front (o : Out) : (s.emit o).front = s.front := rfl
@[simp] theorem State.emit_stk (o : Out) : (s.emit o).stk = s.stk := rfl
@[simp] theorem State.emit_coh (o : Out) : (s.emit o).coh = s.coh := rfl
@[simp] theorem State.emit_ord (o : Out) : (s.emit o).ord = s.ord := rfl
@[simp] theorem State.emit_mir (o : Out) : (s.emit o).mir = s.mir := rfl
@[simp] theorem State.emit_ldg (o : Out) : (s.emit o).ldg = s.ldg := rfl
@[simp] theorem State.emit_chn (o : Out) : (s.emit o).chn = s.chn := rfl
@[simp] theorem State.emit_por (o : Out) : (s.emit o).por = s.por := rfl
@[simp] theorem State.emit_adm (o : Out) : (s.emit o).adm = s.adm := rfl
@[simp] theorem State.emit_pwr (o : Out) : (s.emit o).pwr = s.pwr := rfl
@[simp] theorem State.emit_img (o : Out) : (s.emit o).img = s.img := rfl
@[simp] theorem State.emit_cur (o : Out) : (s.emit o).cur = s.cur := rfl
@[simp] theorem State.emit_start (o : Out) : (s.emit o).start = s.start := rfl
@[simp] theorem State.emit_tran (o : Out) : (s.emit o).tran = s.tran := rfl
@[simp] theorem State.emit_place (o : Out) : (s.emit o).place = s.place := rfl
@[simp] theorem State.emit_cfg (o : Out) : (s.emit o).cfg = s.cfg := rfl
@[simp] theorem State.emit_err (o : Out) : (s.emit o).err = s.err := rfl
@[simp] theorem State.emit_pmuFrz (o : Out) : (s.emit o).pmuFrz = s.pmuFrz := rfl
@[simp] theorem State.emit_latch (o : Out) : (s.emit o).latch = s.latch := rfl
@[simp] theorem State.emit_freeCtr (o : Out) : (s.emit o).freeCtr = s.freeCtr := rfl
@[simp] theorem State.emit_pending (o : Out) : (s.emit o).pending = s.pending := rfl

/-! ### answer -/

@[simp] theorem State.answer_s64 (src : MgSrc) (a b : Nat) (d : Word) : (s.answer src a b d).s64 = s.s64 := by cases src <;> rfl
@[simp] theorem State.answer_regs (src : MgSrc) (a b : Nat) (d : Word) : (s.answer src a b d).regs = s.regs := by cases src <;> rfl
@[simp] theorem State.answer_pins (src : MgSrc) (a b : Nat) (d : Word) : (s.answer src a b d).pins = s.pins := by cases src <;> rfl
@[simp] theorem State.answer_front (src : MgSrc) (a b : Nat) (d : Word) : (s.answer src a b d).front = s.front := by cases src <;> rfl
@[simp] theorem State.answer_stk (src : MgSrc) (a b : Nat) (d : Word) : (s.answer src a b d).stk = s.stk := by cases src <;> rfl
@[simp] theorem State.answer_coh (src : MgSrc) (a b : Nat) (d : Word) : (s.answer src a b d).coh = s.coh := by cases src <;> rfl
@[simp] theorem State.answer_ord (src : MgSrc) (a b : Nat) (d : Word) : (s.answer src a b d).ord = s.ord := by cases src <;> rfl
@[simp] theorem State.answer_mir (src : MgSrc) (a b : Nat) (d : Word) : (s.answer src a b d).mir = s.mir := by cases src <;> rfl
@[simp] theorem State.answer_ldg (src : MgSrc) (a b : Nat) (d : Word) : (s.answer src a b d).ldg = s.ldg := by cases src <;> rfl
@[simp] theorem State.answer_chn (src : MgSrc) (a b : Nat) (d : Word) : (s.answer src a b d).chn = s.chn := by cases src <;> rfl
@[simp] theorem State.answer_por (src : MgSrc) (a b : Nat) (d : Word) : (s.answer src a b d).por = s.por := by cases src <;> rfl
@[simp] theorem State.answer_adm (src : MgSrc) (a b : Nat) (d : Word) : (s.answer src a b d).adm = s.adm := by cases src <;> rfl
@[simp] theorem State.answer_pwr (src : MgSrc) (a b : Nat) (d : Word) : (s.answer src a b d).pwr = s.pwr := by cases src <;> rfl
@[simp] theorem State.answer_img (src : MgSrc) (a b : Nat) (d : Word) : (s.answer src a b d).img = s.img := by cases src <;> rfl
@[simp] theorem State.answer_cur (src : MgSrc) (a b : Nat) (d : Word) : (s.answer src a b d).cur = s.cur := by cases src <;> rfl
@[simp] theorem State.answer_start (src : MgSrc) (a b : Nat) (d : Word) : (s.answer src a b d).start = s.start := by cases src <;> rfl
@[simp] theorem State.answer_tran (src : MgSrc) (a b : Nat) (d : Word) : (s.answer src a b d).tran = s.tran := by cases src <;> rfl
@[simp] theorem State.answer_place (src : MgSrc) (a b : Nat) (d : Word) : (s.answer src a b d).place = s.place := by cases src <;> rfl
@[simp] theorem State.answer_cfg (src : MgSrc) (a b : Nat) (d : Word) : (s.answer src a b d).cfg = s.cfg := by cases src <;> rfl
@[simp] theorem State.answer_err (src : MgSrc) (a b : Nat) (d : Word) : (s.answer src a b d).err = s.err := by cases src <;> rfl
@[simp] theorem State.answer_pmuFrz (src : MgSrc) (a b : Nat) (d : Word) : (s.answer src a b d).pmuFrz = s.pmuFrz := by cases src <;> rfl
@[simp] theorem State.answer_latch (src : MgSrc) (a b : Nat) (d : Word) : (s.answer src a b d).latch = s.latch := by cases src <;> rfl
@[simp] theorem State.answer_freeCtr (src : MgSrc) (a b : Nat) (d : Word) : (s.answer src a b d).freeCtr = s.freeCtr := by cases src <;> rfl
@[simp] theorem State.answer_pending (src : MgSrc) (a b : Nat) (d : Word) : (s.answer src a b d).pending = s.pending := by cases src <;> rfl

/-! ### ok -/

@[simp] theorem State.ok_s64 (src : MgSrc) : (s.ok src).s64 = s.s64 := by cases src <;> rfl
@[simp] theorem State.ok_regs (src : MgSrc) : (s.ok src).regs = s.regs := by cases src <;> rfl
@[simp] theorem State.ok_pins (src : MgSrc) : (s.ok src).pins = s.pins := by cases src <;> rfl
@[simp] theorem State.ok_front (src : MgSrc) : (s.ok src).front = s.front := by cases src <;> rfl
@[simp] theorem State.ok_stk (src : MgSrc) : (s.ok src).stk = s.stk := by cases src <;> rfl
@[simp] theorem State.ok_coh (src : MgSrc) : (s.ok src).coh = s.coh := by cases src <;> rfl
@[simp] theorem State.ok_ord (src : MgSrc) : (s.ok src).ord = s.ord := by cases src <;> rfl
@[simp] theorem State.ok_mir (src : MgSrc) : (s.ok src).mir = s.mir := by cases src <;> rfl
@[simp] theorem State.ok_ldg (src : MgSrc) : (s.ok src).ldg = s.ldg := by cases src <;> rfl
@[simp] theorem State.ok_chn (src : MgSrc) : (s.ok src).chn = s.chn := by cases src <;> rfl
@[simp] theorem State.ok_por (src : MgSrc) : (s.ok src).por = s.por := by cases src <;> rfl
@[simp] theorem State.ok_adm (src : MgSrc) : (s.ok src).adm = s.adm := by cases src <;> rfl
@[simp] theorem State.ok_pwr (src : MgSrc) : (s.ok src).pwr = s.pwr := by cases src <;> rfl
@[simp] theorem State.ok_img (src : MgSrc) : (s.ok src).img = s.img := by cases src <;> rfl
@[simp] theorem State.ok_cur (src : MgSrc) : (s.ok src).cur = s.cur := by cases src <;> rfl
@[simp] theorem State.ok_start (src : MgSrc) : (s.ok src).start = s.start := by cases src <;> rfl
@[simp] theorem State.ok_tran (src : MgSrc) : (s.ok src).tran = s.tran := by cases src <;> rfl
@[simp] theorem State.ok_place (src : MgSrc) : (s.ok src).place = s.place := by cases src <;> rfl
@[simp] theorem State.ok_cfg (src : MgSrc) : (s.ok src).cfg = s.cfg := by cases src <;> rfl
@[simp] theorem State.ok_err (src : MgSrc) : (s.ok src).err = s.err := by cases src <;> rfl
@[simp] theorem State.ok_pmuFrz (src : MgSrc) : (s.ok src).pmuFrz = s.pmuFrz := by cases src <;> rfl
@[simp] theorem State.ok_latch (src : MgSrc) : (s.ok src).latch = s.latch := by cases src <;> rfl
@[simp] theorem State.ok_freeCtr (src : MgSrc) : (s.ok src).freeCtr = s.freeCtr := by cases src <;> rfl
@[simp] theorem State.ok_pending (src : MgSrc) : (s.ok src).pending = s.pending := by cases src <;> rfl

/-! ### refuse -/

@[simp] theorem State.refuse_s64 (src : MgSrc) (r : Nat) : (s.refuse src r).s64 = s.s64 := by cases src <;> rfl
@[simp] theorem State.refuse_regs (src : MgSrc) (r : Nat) : (s.refuse src r).regs = s.regs := by cases src <;> rfl
@[simp] theorem State.refuse_pins (src : MgSrc) (r : Nat) : (s.refuse src r).pins = s.pins := by cases src <;> rfl
@[simp] theorem State.refuse_front (src : MgSrc) (r : Nat) : (s.refuse src r).front = s.front := by cases src <;> rfl
@[simp] theorem State.refuse_stk (src : MgSrc) (r : Nat) : (s.refuse src r).stk = s.stk := by cases src <;> rfl
@[simp] theorem State.refuse_coh (src : MgSrc) (r : Nat) : (s.refuse src r).coh = s.coh := by cases src <;> rfl
@[simp] theorem State.refuse_ord (src : MgSrc) (r : Nat) : (s.refuse src r).ord = s.ord := by cases src <;> rfl
@[simp] theorem State.refuse_mir (src : MgSrc) (r : Nat) : (s.refuse src r).mir = s.mir := by cases src <;> rfl
@[simp] theorem State.refuse_ldg (src : MgSrc) (r : Nat) : (s.refuse src r).ldg = s.ldg := by cases src <;> rfl
@[simp] theorem State.refuse_chn (src : MgSrc) (r : Nat) : (s.refuse src r).chn = s.chn := by cases src <;> rfl
@[simp] theorem State.refuse_por (src : MgSrc) (r : Nat) : (s.refuse src r).por = s.por := by cases src <;> rfl
@[simp] theorem State.refuse_adm (src : MgSrc) (r : Nat) : (s.refuse src r).adm = s.adm := by cases src <;> rfl
@[simp] theorem State.refuse_pwr (src : MgSrc) (r : Nat) : (s.refuse src r).pwr = s.pwr := by cases src <;> rfl
@[simp] theorem State.refuse_img (src : MgSrc) (r : Nat) : (s.refuse src r).img = s.img := by cases src <;> rfl
@[simp] theorem State.refuse_cur (src : MgSrc) (r : Nat) : (s.refuse src r).cur = s.cur := by cases src <;> rfl
@[simp] theorem State.refuse_start (src : MgSrc) (r : Nat) : (s.refuse src r).start = s.start := by cases src <;> rfl
@[simp] theorem State.refuse_tran (src : MgSrc) (r : Nat) : (s.refuse src r).tran = s.tran := by cases src <;> rfl
@[simp] theorem State.refuse_place (src : MgSrc) (r : Nat) : (s.refuse src r).place = s.place := by cases src <;> rfl
@[simp] theorem State.refuse_cfg (src : MgSrc) (r : Nat) : (s.refuse src r).cfg = s.cfg := by cases src <;> rfl
@[simp] theorem State.refuse_err (src : MgSrc) (r : Nat) : (s.refuse src r).err = s.err := by cases src <;> rfl
@[simp] theorem State.refuse_pmuFrz (src : MgSrc) (r : Nat) : (s.refuse src r).pmuFrz = s.pmuFrz := by cases src <;> rfl
@[simp] theorem State.refuse_latch (src : MgSrc) (r : Nat) : (s.refuse src r).latch = s.latch := by cases src <;> rfl
@[simp] theorem State.refuse_freeCtr (src : MgSrc) (r : Nat) : (s.refuse src r).freeCtr = s.freeCtr := by cases src <;> rfl
@[simp] theorem State.refuse_pending (src : MgSrc) (r : Nat) : (s.refuse src r).pending = s.pending := by cases src <;> rfl

/-! ### plain -/

@[simp] theorem State.plain_s64 (off : Nat) (w : Word) : (s.plain off w).s64 = s.s64 := by unfold State.plain; split <;> rfl
@[simp] theorem State.plain_pins (off : Nat) (w : Word) : (s.plain off w).pins = s.pins := by unfold State.plain; split <;> rfl
@[simp] theorem State.plain_front (off : Nat) (w : Word) : (s.plain off w).front = s.front := by unfold State.plain; split <;> rfl
@[simp] theorem State.plain_stk (off : Nat) (w : Word) : (s.plain off w).stk = s.stk := by unfold State.plain; split <;> rfl
@[simp] theorem State.plain_coh (off : Nat) (w : Word) : (s.plain off w).coh = s.coh := by unfold State.plain; split <;> rfl
@[simp] theorem State.plain_ord (off : Nat) (w : Word) : (s.plain off w).ord = s.ord := by unfold State.plain; split <;> rfl
@[simp] theorem State.plain_mir (off : Nat) (w : Word) : (s.plain off w).mir = s.mir := by unfold State.plain; split <;> rfl
@[simp] theorem State.plain_ldg (off : Nat) (w : Word) : (s.plain off w).ldg = s.ldg := by unfold State.plain; split <;> rfl
@[simp] theorem State.plain_chn (off : Nat) (w : Word) : (s.plain off w).chn = s.chn := by unfold State.plain; split <;> rfl
@[simp] theorem State.plain_por (off : Nat) (w : Word) : (s.plain off w).por = s.por := by unfold State.plain; split <;> rfl
@[simp] theorem State.plain_adm (off : Nat) (w : Word) : (s.plain off w).adm = s.adm := by unfold State.plain; split <;> rfl
@[simp] theorem State.plain_pwr (off : Nat) (w : Word) : (s.plain off w).pwr = s.pwr := by unfold State.plain; split <;> rfl
@[simp] theorem State.plain_img (off : Nat) (w : Word) : (s.plain off w).img = s.img := by unfold State.plain; split <;> rfl
@[simp] theorem State.plain_cur (off : Nat) (w : Word) : (s.plain off w).cur = s.cur := by unfold State.plain; split <;> rfl
@[simp] theorem State.plain_start (off : Nat) (w : Word) : (s.plain off w).start = s.start := by unfold State.plain; split <;> rfl
@[simp] theorem State.plain_tran (off : Nat) (w : Word) : (s.plain off w).tran = s.tran := by unfold State.plain; split <;> rfl
@[simp] theorem State.plain_place (off : Nat) (w : Word) : (s.plain off w).place = s.place := by unfold State.plain; split <;> rfl
@[simp] theorem State.plain_cfg (off : Nat) (w : Word) : (s.plain off w).cfg = s.cfg := by unfold State.plain; split <;> rfl
@[simp] theorem State.plain_err (off : Nat) (w : Word) : (s.plain off w).err = s.err := by unfold State.plain; split <;> rfl
@[simp] theorem State.plain_pmuFrz (off : Nat) (w : Word) : (s.plain off w).pmuFrz = s.pmuFrz := by unfold State.plain; split <;> rfl
@[simp] theorem State.plain_latch (off : Nat) (w : Word) : (s.plain off w).latch = s.latch := by unfold State.plain; split <;> rfl
@[simp] theorem State.plain_freeCtr (off : Nat) (w : Word) : (s.plain off w).freeCtr = s.freeCtr := by unfold State.plain; split <;> rfl
@[simp] theorem State.plain_out (off : Nat) (w : Word) : (s.plain off w).out = s.out := by unfold State.plain; split <;> rfl
@[simp] theorem State.plain_pending (off : Nat) (w : Word) : (s.plain off w).pending = s.pending := by unfold State.plain; split <;> rfl

/-! ### pmuAdd -/

@[simp] theorem State.pmuAdd_s64 (n v : Nat) : (s.pmuAdd n v).s64 = s.s64 := by
  unfold State.pmuAdd; extract_lets a b c; split
  · rfl
  · split <;> rfl
@[simp] theorem State.pmuAdd_pins (n v : Nat) : (s.pmuAdd n v).pins = s.pins := by
  unfold State.pmuAdd; extract_lets a b c; split
  · rfl
  · split <;> rfl
@[simp] theorem State.pmuAdd_front (n v : Nat) : (s.pmuAdd n v).front = s.front := by
  unfold State.pmuAdd; extract_lets a b c; split
  · rfl
  · split <;> rfl
@[simp] theorem State.pmuAdd_stk (n v : Nat) : (s.pmuAdd n v).stk = s.stk := by
  unfold State.pmuAdd; extract_lets a b c; split
  · rfl
  · split <;> rfl
@[simp] theorem State.pmuAdd_coh (n v : Nat) : (s.pmuAdd n v).coh = s.coh := by
  unfold State.pmuAdd; extract_lets a b c; split
  · rfl
  · split <;> rfl
@[simp] theorem State.pmuAdd_ord (n v : Nat) : (s.pmuAdd n v).ord = s.ord := by
  unfold State.pmuAdd; extract_lets a b c; split
  · rfl
  · split <;> rfl
@[simp] theorem State.pmuAdd_mir (n v : Nat) : (s.pmuAdd n v).mir = s.mir := by
  unfold State.pmuAdd; extract_lets a b c; split
  · rfl
  · split <;> rfl
@[simp] theorem State.pmuAdd_ldg (n v : Nat) : (s.pmuAdd n v).ldg = s.ldg := by
  unfold State.pmuAdd; extract_lets a b c; split
  · rfl
  · split <;> rfl
@[simp] theorem State.pmuAdd_chn (n v : Nat) : (s.pmuAdd n v).chn = s.chn := by
  unfold State.pmuAdd; extract_lets a b c; split
  · rfl
  · split <;> rfl
@[simp] theorem State.pmuAdd_por (n v : Nat) : (s.pmuAdd n v).por = s.por := by
  unfold State.pmuAdd; extract_lets a b c; split
  · rfl
  · split <;> rfl
@[simp] theorem State.pmuAdd_adm (n v : Nat) : (s.pmuAdd n v).adm = s.adm := by
  unfold State.pmuAdd; extract_lets a b c; split
  · rfl
  · split <;> rfl
@[simp] theorem State.pmuAdd_pwr (n v : Nat) : (s.pmuAdd n v).pwr = s.pwr := by
  unfold State.pmuAdd; extract_lets a b c; split
  · rfl
  · split <;> rfl
@[simp] theorem State.pmuAdd_img (n v : Nat) : (s.pmuAdd n v).img = s.img := by
  unfold State.pmuAdd; extract_lets a b c; split
  · rfl
  · split <;> rfl
@[simp] theorem State.pmuAdd_cur (n v : Nat) : (s.pmuAdd n v).cur = s.cur := by
  unfold State.pmuAdd; extract_lets a b c; split
  · rfl
  · split <;> rfl
@[simp] theorem State.pmuAdd_start (n v : Nat) : (s.pmuAdd n v).start = s.start := by
  unfold State.pmuAdd; extract_lets a b c; split
  · rfl
  · split <;> rfl
@[simp] theorem State.pmuAdd_tran (n v : Nat) : (s.pmuAdd n v).tran = s.tran := by
  unfold State.pmuAdd; extract_lets a b c; split
  · rfl
  · split <;> rfl
@[simp] theorem State.pmuAdd_place (n v : Nat) : (s.pmuAdd n v).place = s.place := by
  unfold State.pmuAdd; extract_lets a b c; split
  · rfl
  · split <;> rfl
@[simp] theorem State.pmuAdd_cfg (n v : Nat) : (s.pmuAdd n v).cfg = s.cfg := by
  unfold State.pmuAdd; extract_lets a b c; split
  · rfl
  · split <;> rfl
@[simp] theorem State.pmuAdd_err (n v : Nat) : (s.pmuAdd n v).err = s.err := by
  unfold State.pmuAdd; extract_lets a b c; split
  · rfl
  · split <;> rfl
@[simp] theorem State.pmuAdd_latch (n v : Nat) : (s.pmuAdd n v).latch = s.latch := by
  unfold State.pmuAdd; extract_lets a b c; split
  · rfl
  · split <;> rfl
@[simp] theorem State.pmuAdd_freeCtr (n v : Nat) : (s.pmuAdd n v).freeCtr = s.freeCtr := by
  unfold State.pmuAdd; extract_lets a b c; split
  · rfl
  · split <;> rfl
@[simp] theorem State.pmuAdd_out (n v : Nat) : (s.pmuAdd n v).out = s.out := by
  unfold State.pmuAdd; extract_lets a b c; split
  · rfl
  · split <;> rfl
@[simp] theorem State.pmuAdd_pending (n v : Nat) : (s.pmuAdd n v).pending = s.pending := by
  unfold State.pmuAdd; extract_lets a b c; split
  · rfl
  · split <;> rfl

/-! ### fault -/

@[simp] theorem State.fault_s64 (cls code sev detail : Nat) (loc : Option LineAddr) (status kind src : Nat) (irq : Bool) : (s.fault cls code sev detail loc status kind src irq).s64 = s.s64 := by
  unfold State.fault; extract_lets a b c d
  have hb : b.s64 = s.s64 := by show (ite _ _ _ : State).s64 = _; split <;> rfl
  split
  · exact hb
  · split <;> exact hb
@[simp] theorem State.fault_pins (cls code sev detail : Nat) (loc : Option LineAddr) (status kind src : Nat) (irq : Bool) : (s.fault cls code sev detail loc status kind src irq).pins = s.pins := by
  unfold State.fault; extract_lets a b c d
  have hb : b.pins = s.pins := by show (ite _ _ _ : State).pins = _; split <;> rfl
  split
  · exact hb
  · split <;> exact hb
@[simp] theorem State.fault_front (cls code sev detail : Nat) (loc : Option LineAddr) (status kind src : Nat) (irq : Bool) : (s.fault cls code sev detail loc status kind src irq).front = s.front := by
  unfold State.fault; extract_lets a b c d
  have hb : b.front = s.front := by show (ite _ _ _ : State).front = _; split <;> rfl
  split
  · exact hb
  · split <;> exact hb
@[simp] theorem State.fault_stk (cls code sev detail : Nat) (loc : Option LineAddr) (status kind src : Nat) (irq : Bool) : (s.fault cls code sev detail loc status kind src irq).stk = s.stk := by
  unfold State.fault; extract_lets a b c d
  have hb : b.stk = s.stk := by show (ite _ _ _ : State).stk = _; split <;> rfl
  split
  · exact hb
  · split <;> exact hb
@[simp] theorem State.fault_coh (cls code sev detail : Nat) (loc : Option LineAddr) (status kind src : Nat) (irq : Bool) : (s.fault cls code sev detail loc status kind src irq).coh = s.coh := by
  unfold State.fault; extract_lets a b c d
  have hb : b.coh = s.coh := by show (ite _ _ _ : State).coh = _; split <;> rfl
  split
  · exact hb
  · split <;> exact hb
@[simp] theorem State.fault_ord (cls code sev detail : Nat) (loc : Option LineAddr) (status kind src : Nat) (irq : Bool) : (s.fault cls code sev detail loc status kind src irq).ord = s.ord := by
  unfold State.fault; extract_lets a b c d
  have hb : b.ord = s.ord := by show (ite _ _ _ : State).ord = _; split <;> rfl
  split
  · exact hb
  · split <;> exact hb
@[simp] theorem State.fault_mir (cls code sev detail : Nat) (loc : Option LineAddr) (status kind src : Nat) (irq : Bool) : (s.fault cls code sev detail loc status kind src irq).mir = s.mir := by
  unfold State.fault; extract_lets a b c d
  have hb : b.mir = s.mir := by show (ite _ _ _ : State).mir = _; split <;> rfl
  split
  · exact hb
  · split <;> exact hb
@[simp] theorem State.fault_ldg (cls code sev detail : Nat) (loc : Option LineAddr) (status kind src : Nat) (irq : Bool) : (s.fault cls code sev detail loc status kind src irq).ldg = s.ldg := by
  unfold State.fault; extract_lets a b c d
  have hb : b.ldg = s.ldg := by show (ite _ _ _ : State).ldg = _; split <;> rfl
  split
  · exact hb
  · split <;> exact hb
@[simp] theorem State.fault_chn (cls code sev detail : Nat) (loc : Option LineAddr) (status kind src : Nat) (irq : Bool) : (s.fault cls code sev detail loc status kind src irq).chn = s.chn := by
  unfold State.fault; extract_lets a b c d
  have hb : b.chn = s.chn := by show (ite _ _ _ : State).chn = _; split <;> rfl
  split
  · exact hb
  · split <;> exact hb
@[simp] theorem State.fault_por (cls code sev detail : Nat) (loc : Option LineAddr) (status kind src : Nat) (irq : Bool) : (s.fault cls code sev detail loc status kind src irq).por = s.por := by
  unfold State.fault; extract_lets a b c d
  have hb : b.por = s.por := by show (ite _ _ _ : State).por = _; split <;> rfl
  split
  · exact hb
  · split <;> exact hb
@[simp] theorem State.fault_adm (cls code sev detail : Nat) (loc : Option LineAddr) (status kind src : Nat) (irq : Bool) : (s.fault cls code sev detail loc status kind src irq).adm = s.adm := by
  unfold State.fault; extract_lets a b c d
  have hb : b.adm = s.adm := by show (ite _ _ _ : State).adm = _; split <;> rfl
  split
  · exact hb
  · split <;> exact hb
@[simp] theorem State.fault_pwr (cls code sev detail : Nat) (loc : Option LineAddr) (status kind src : Nat) (irq : Bool) : (s.fault cls code sev detail loc status kind src irq).pwr = s.pwr := by
  unfold State.fault; extract_lets a b c d
  have hb : b.pwr = s.pwr := by show (ite _ _ _ : State).pwr = _; split <;> rfl
  split
  · exact hb
  · split <;> exact hb
@[simp] theorem State.fault_img (cls code sev detail : Nat) (loc : Option LineAddr) (status kind src : Nat) (irq : Bool) : (s.fault cls code sev detail loc status kind src irq).img = s.img := by
  unfold State.fault; extract_lets a b c d
  have hb : b.img = s.img := by show (ite _ _ _ : State).img = _; split <;> rfl
  split
  · exact hb
  · split <;> exact hb
@[simp] theorem State.fault_cur (cls code sev detail : Nat) (loc : Option LineAddr) (status kind src : Nat) (irq : Bool) : (s.fault cls code sev detail loc status kind src irq).cur = s.cur := by
  unfold State.fault; extract_lets a b c d
  have hb : b.cur = s.cur := by show (ite _ _ _ : State).cur = _; split <;> rfl
  split
  · exact hb
  · split <;> exact hb
@[simp] theorem State.fault_start (cls code sev detail : Nat) (loc : Option LineAddr) (status kind src : Nat) (irq : Bool) : (s.fault cls code sev detail loc status kind src irq).start = s.start := by
  unfold State.fault; extract_lets a b c d
  have hb : b.start = s.start := by show (ite _ _ _ : State).start = _; split <;> rfl
  split
  · exact hb
  · split <;> exact hb
@[simp] theorem State.fault_tran (cls code sev detail : Nat) (loc : Option LineAddr) (status kind src : Nat) (irq : Bool) : (s.fault cls code sev detail loc status kind src irq).tran = s.tran := by
  unfold State.fault; extract_lets a b c d
  have hb : b.tran = s.tran := by show (ite _ _ _ : State).tran = _; split <;> rfl
  split
  · exact hb
  · split <;> exact hb
@[simp] theorem State.fault_place (cls code sev detail : Nat) (loc : Option LineAddr) (status kind src : Nat) (irq : Bool) : (s.fault cls code sev detail loc status kind src irq).place = s.place := by
  unfold State.fault; extract_lets a b c d
  have hb : b.place = s.place := by show (ite _ _ _ : State).place = _; split <;> rfl
  split
  · exact hb
  · split <;> exact hb
@[simp] theorem State.fault_cfg (cls code sev detail : Nat) (loc : Option LineAddr) (status kind src : Nat) (irq : Bool) : (s.fault cls code sev detail loc status kind src irq).cfg = s.cfg := by
  unfold State.fault; extract_lets a b c d
  have hb : b.cfg = s.cfg := by show (ite _ _ _ : State).cfg = _; split <;> rfl
  split
  · exact hb
  · split <;> exact hb
@[simp] theorem State.fault_pmuFrz (cls code sev detail : Nat) (loc : Option LineAddr) (status kind src : Nat) (irq : Bool) : (s.fault cls code sev detail loc status kind src irq).pmuFrz = s.pmuFrz := by
  unfold State.fault; extract_lets a b c d
  have hb : b.pmuFrz = s.pmuFrz := by show (ite _ _ _ : State).pmuFrz = _; split <;> rfl
  split
  · exact hb
  · split <;> exact hb
@[simp] theorem State.fault_latch (cls code sev detail : Nat) (loc : Option LineAddr) (status kind src : Nat) (irq : Bool) : (s.fault cls code sev detail loc status kind src irq).latch = s.latch := by
  unfold State.fault; extract_lets a b c d
  have hb : b.latch = s.latch := by show (ite _ _ _ : State).latch = _; split <;> rfl
  split
  · exact hb
  · split <;> exact hb
@[simp] theorem State.fault_freeCtr (cls code sev detail : Nat) (loc : Option LineAddr) (status kind src : Nat) (irq : Bool) : (s.fault cls code sev detail loc status kind src irq).freeCtr = s.freeCtr := by
  unfold State.fault; extract_lets a b c d
  have hb : b.freeCtr = s.freeCtr := by show (ite _ _ _ : State).freeCtr = _; split <;> rfl
  split
  · exact hb
  · split <;> exact hb
@[simp] theorem State.fault_out (cls code sev detail : Nat) (loc : Option LineAddr) (status kind src : Nat) (irq : Bool) : (s.fault cls code sev detail loc status kind src irq).out = s.out := by
  unfold State.fault; extract_lets a b c d
  have hb : b.out = s.out := by show (ite _ _ _ : State).out = _; split <;> rfl
  split
  · exact hb
  · split <;> exact hb
@[simp] theorem State.fault_pending (cls code sev detail : Nat) (loc : Option LineAddr) (status kind src : Nat) (irq : Bool) : (s.fault cls code sev detail loc status kind src irq).pending = s.pending := by
  unfold State.fault; extract_lets a b c d
  have hb : b.pending = s.pending := by show (ite _ _ _ : State).pending = _; split <;> rfl
  split
  · exact hb
  · split <;> exact hb

/-! ### event -/

@[simp] theorem State.event_s64 (code : Nat) (lane label : Option Nat) (inc : Nat) : (s.event code lane label inc).s64 = s.s64 := by
  unfold State.event; refine foldl_field _ State.s64 (fun u n => ?_) _ s
  split
  · exact State.pmuAdd_s64 u n inc
  · rfl
@[simp] theorem State.event_pins (code : Nat) (lane label : Option Nat) (inc : Nat) : (s.event code lane label inc).pins = s.pins := by
  unfold State.event; refine foldl_field _ State.pins (fun u n => ?_) _ s
  split
  · exact State.pmuAdd_pins u n inc
  · rfl
@[simp] theorem State.event_front (code : Nat) (lane label : Option Nat) (inc : Nat) : (s.event code lane label inc).front = s.front := by
  unfold State.event; refine foldl_field _ State.front (fun u n => ?_) _ s
  split
  · exact State.pmuAdd_front u n inc
  · rfl
@[simp] theorem State.event_stk (code : Nat) (lane label : Option Nat) (inc : Nat) : (s.event code lane label inc).stk = s.stk := by
  unfold State.event; refine foldl_field _ State.stk (fun u n => ?_) _ s
  split
  · exact State.pmuAdd_stk u n inc
  · rfl
@[simp] theorem State.event_coh (code : Nat) (lane label : Option Nat) (inc : Nat) : (s.event code lane label inc).coh = s.coh := by
  unfold State.event; refine foldl_field _ State.coh (fun u n => ?_) _ s
  split
  · exact State.pmuAdd_coh u n inc
  · rfl
@[simp] theorem State.event_ord (code : Nat) (lane label : Option Nat) (inc : Nat) : (s.event code lane label inc).ord = s.ord := by
  unfold State.event; refine foldl_field _ State.ord (fun u n => ?_) _ s
  split
  · exact State.pmuAdd_ord u n inc
  · rfl
@[simp] theorem State.event_mir (code : Nat) (lane label : Option Nat) (inc : Nat) : (s.event code lane label inc).mir = s.mir := by
  unfold State.event; refine foldl_field _ State.mir (fun u n => ?_) _ s
  split
  · exact State.pmuAdd_mir u n inc
  · rfl
@[simp] theorem State.event_ldg (code : Nat) (lane label : Option Nat) (inc : Nat) : (s.event code lane label inc).ldg = s.ldg := by
  unfold State.event; refine foldl_field _ State.ldg (fun u n => ?_) _ s
  split
  · exact State.pmuAdd_ldg u n inc
  · rfl
@[simp] theorem State.event_chn (code : Nat) (lane label : Option Nat) (inc : Nat) : (s.event code lane label inc).chn = s.chn := by
  unfold State.event; refine foldl_field _ State.chn (fun u n => ?_) _ s
  split
  · exact State.pmuAdd_chn u n inc
  · rfl
@[simp] theorem State.event_por (code : Nat) (lane label : Option Nat) (inc : Nat) : (s.event code lane label inc).por = s.por := by
  unfold State.event; refine foldl_field _ State.por (fun u n => ?_) _ s
  split
  · exact State.pmuAdd_por u n inc
  · rfl
@[simp] theorem State.event_adm (code : Nat) (lane label : Option Nat) (inc : Nat) : (s.event code lane label inc).adm = s.adm := by
  unfold State.event; refine foldl_field _ State.adm (fun u n => ?_) _ s
  split
  · exact State.pmuAdd_adm u n inc
  · rfl
@[simp] theorem State.event_pwr (code : Nat) (lane label : Option Nat) (inc : Nat) : (s.event code lane label inc).pwr = s.pwr := by
  unfold State.event; refine foldl_field _ State.pwr (fun u n => ?_) _ s
  split
  · exact State.pmuAdd_pwr u n inc
  · rfl
@[simp] theorem State.event_img (code : Nat) (lane label : Option Nat) (inc : Nat) : (s.event code lane label inc).img = s.img := by
  unfold State.event; refine foldl_field _ State.img (fun u n => ?_) _ s
  split
  · exact State.pmuAdd_img u n inc
  · rfl
@[simp] theorem State.event_cur (code : Nat) (lane label : Option Nat) (inc : Nat) : (s.event code lane label inc).cur = s.cur := by
  unfold State.event; refine foldl_field _ State.cur (fun u n => ?_) _ s
  split
  · exact State.pmuAdd_cur u n inc
  · rfl
@[simp] theorem State.event_start (code : Nat) (lane label : Option Nat) (inc : Nat) : (s.event code lane label inc).start = s.start := by
  unfold State.event; refine foldl_field _ State.start (fun u n => ?_) _ s
  split
  · exact State.pmuAdd_start u n inc
  · rfl
@[simp] theorem State.event_tran (code : Nat) (lane label : Option Nat) (inc : Nat) : (s.event code lane label inc).tran = s.tran := by
  unfold State.event; refine foldl_field _ State.tran (fun u n => ?_) _ s
  split
  · exact State.pmuAdd_tran u n inc
  · rfl
@[simp] theorem State.event_place (code : Nat) (lane label : Option Nat) (inc : Nat) : (s.event code lane label inc).place = s.place := by
  unfold State.event; refine foldl_field _ State.place (fun u n => ?_) _ s
  split
  · exact State.pmuAdd_place u n inc
  · rfl
@[simp] theorem State.event_cfg (code : Nat) (lane label : Option Nat) (inc : Nat) : (s.event code lane label inc).cfg = s.cfg := by
  unfold State.event; refine foldl_field _ State.cfg (fun u n => ?_) _ s
  split
  · exact State.pmuAdd_cfg u n inc
  · rfl
@[simp] theorem State.event_err (code : Nat) (lane label : Option Nat) (inc : Nat) : (s.event code lane label inc).err = s.err := by
  unfold State.event; refine foldl_field _ State.err (fun u n => ?_) _ s
  split
  · exact State.pmuAdd_err u n inc
  · rfl
@[simp] theorem State.event_latch (code : Nat) (lane label : Option Nat) (inc : Nat) : (s.event code lane label inc).latch = s.latch := by
  unfold State.event; refine foldl_field _ State.latch (fun u n => ?_) _ s
  split
  · exact State.pmuAdd_latch u n inc
  · rfl
@[simp] theorem State.event_freeCtr (code : Nat) (lane label : Option Nat) (inc : Nat) : (s.event code lane label inc).freeCtr = s.freeCtr := by
  unfold State.event; refine foldl_field _ State.freeCtr (fun u n => ?_) _ s
  split
  · exact State.pmuAdd_freeCtr u n inc
  · rfl
@[simp] theorem State.event_out (code : Nat) (lane label : Option Nat) (inc : Nat) : (s.event code lane label inc).out = s.out := by
  unfold State.event; refine foldl_field _ State.out (fun u n => ?_) _ s
  split
  · exact State.pmuAdd_out u n inc
  · rfl
@[simp] theorem State.event_pending (code : Nat) (lane label : Option Nat) (inc : Nat) : (s.event code lane label inc).pending = s.pending := by
  unfold State.event; refine foldl_field _ State.pending (fun u n => ?_) _ s
  split
  · exact State.pmuAdd_pending u n inc
  · rfl

/-! ### begin -/

@[simp] theorem State.begin_s64 : (s.begin).s64 = s.s64 := by unfold State.begin; extract_lets a; split <;> rfl
@[simp] theorem State.begin_pins : (s.begin).pins = s.pins := by unfold State.begin; extract_lets a; split <;> rfl
@[simp] theorem State.begin_front : (s.begin).front = s.front := by unfold State.begin; extract_lets a; split <;> rfl
@[simp] theorem State.begin_stk : (s.begin).stk = s.stk := by unfold State.begin; extract_lets a; split <;> rfl
@[simp] theorem State.begin_coh : (s.begin).coh = s.coh := by unfold State.begin; extract_lets a; split <;> rfl
@[simp] theorem State.begin_ord : (s.begin).ord = s.ord := by unfold State.begin; extract_lets a; split <;> rfl
@[simp] theorem State.begin_mir : (s.begin).mir = s.mir := by unfold State.begin; extract_lets a; split <;> rfl
@[simp] theorem State.begin_ldg : (s.begin).ldg = s.ldg := by unfold State.begin; extract_lets a; split <;> rfl
@[simp] theorem State.begin_chn : (s.begin).chn = s.chn := by unfold State.begin; extract_lets a; split <;> rfl
@[simp] theorem State.begin_por : (s.begin).por = s.por := by unfold State.begin; extract_lets a; split <;> rfl
@[simp] theorem State.begin_adm : (s.begin).adm = s.adm := by unfold State.begin; extract_lets a; split <;> rfl
@[simp] theorem State.begin_pwr : (s.begin).pwr = s.pwr := by unfold State.begin; extract_lets a; split <;> rfl
@[simp] theorem State.begin_img : (s.begin).img = s.img := by unfold State.begin; extract_lets a; split <;> rfl
@[simp] theorem State.begin_cur : (s.begin).cur = s.cur := by unfold State.begin; extract_lets a; split <;> rfl
@[simp] theorem State.begin_start : (s.begin).start = s.start := by unfold State.begin; extract_lets a; split <;> rfl
@[simp] theorem State.begin_tran : (s.begin).tran = s.tran := by unfold State.begin; extract_lets a; split <;> rfl
@[simp] theorem State.begin_place : (s.begin).place = s.place := by unfold State.begin; extract_lets a; split <;> rfl
@[simp] theorem State.begin_cfg : (s.begin).cfg = s.cfg := by unfold State.begin; extract_lets a; split <;> rfl
@[simp] theorem State.begin_latch : (s.begin).latch = s.latch := by unfold State.begin; extract_lets a; split <;> rfl
@[simp] theorem State.begin_freeCtr : (s.begin).freeCtr = s.freeCtr := by unfold State.begin; extract_lets a; split <;> rfl
@[simp] theorem State.begin_pending : (s.begin).pending = s.pending := by unfold State.begin; extract_lets a; split <;> rfl

/-! ### settle -/

@[simp] theorem State.settle_s64 : (s.settle).s64 = s.s64 := rfl
@[simp] theorem State.settle_regs : (s.settle).regs = s.regs := rfl
@[simp] theorem State.settle_front : (s.settle).front = s.front := rfl
@[simp] theorem State.settle_stk : (s.settle).stk = s.stk := rfl
@[simp] theorem State.settle_coh : (s.settle).coh = s.coh := rfl
@[simp] theorem State.settle_ord : (s.settle).ord = s.ord := rfl
@[simp] theorem State.settle_mir : (s.settle).mir = s.mir := rfl
@[simp] theorem State.settle_ldg : (s.settle).ldg = s.ldg := rfl
@[simp] theorem State.settle_chn : (s.settle).chn = s.chn := rfl
@[simp] theorem State.settle_por : (s.settle).por = s.por := rfl
@[simp] theorem State.settle_adm : (s.settle).adm = s.adm := rfl
@[simp] theorem State.settle_pwr : (s.settle).pwr = s.pwr := rfl
@[simp] theorem State.settle_img : (s.settle).img = s.img := rfl
@[simp] theorem State.settle_cur : (s.settle).cur = s.cur := rfl
@[simp] theorem State.settle_start : (s.settle).start = s.start := rfl
@[simp] theorem State.settle_tran : (s.settle).tran = s.tran := rfl
@[simp] theorem State.settle_place : (s.settle).place = s.place := rfl
@[simp] theorem State.settle_cfg : (s.settle).cfg = s.cfg := rfl
@[simp] theorem State.settle_err : (s.settle).err = s.err := rfl
@[simp] theorem State.settle_pmuFrz : (s.settle).pmuFrz = s.pmuFrz := rfl
@[simp] theorem State.settle_latch : (s.settle).latch = s.latch := rfl
@[simp] theorem State.settle_freeCtr : (s.settle).freeCtr = s.freeCtr := rfl
@[simp] theorem State.settle_out : (s.settle).out = s.out := rfl
@[simp] theorem State.settle_pending : (s.settle).pending = s.pending := rfl

end Sys2Proof.Machine
end

