-- ==== Sys2Proof/Laws/Tab.lean ====
section
/-! SUPPORT. Sparse tables (Machine/Tab.lean): reading after writing, and the canonical form, which every operation keeps. -/

namespace Sys2Proof.Machine

variable {α : Type}

theorem tfind_tdel_same (t : Tab α) (k : Nat) : tfind (tdel t k) k = none := by
  induction t with
  | nil => rfl
  | cons e t ih =>
    obtain ⟨j, w⟩ := e
    by_cases h : j = k
    · simpa [tdel, h] using ih
    · simpa [tdel, h, tfind] using ih

theorem tfind_tdel_other (t : Tab α) {k l : Nat} (h : l ≠ k) : tfind (tdel t k) l = tfind t l := by
  induction t with
  | nil => rfl
  | cons e t ih =>
    obtain ⟨j, w⟩ := e
    by_cases hj : j = k
    · subst hj; simpa [tdel, tfind, Ne.symm h] using ih
    · simp only [tdel, hj, if_false, tfind, ih]

theorem tfind_tset_same (t : Tab α) (k : Nat) (v : α) : tfind (tset t k v) k = some v := by
  induction t with
  | nil => simp [tset, tfind]
  | cons e t ih =>
    obtain ⟨j, w⟩ := e
    by_cases h1 : k < j
    · simp [tset, h1, tfind]
    · by_cases h2 : j = k
      · simp [tset, h2, tfind]
      · simpa [tset, h1, h2, tfind] using ih

theorem tfind_tset_other (t : Tab α) {k l : Nat} (v : α) (h : l ≠ k) : tfind (tset t k v) l = tfind t l := by
  induction t with
  | nil => simp [tset, tfind, Ne.symm h]
  | cons e t ih =>
    obtain ⟨j, w⟩ := e
    by_cases h1 : k < j
    · simp [tset, h1, tfind, Ne.symm h]
    · by_cases h2 : j = k
      · subst h2; simp [tset, tfind, Ne.symm h]
      · simp only [tset, h1, h2, if_false, tfind, ih]

/-- A read after a write of the same key gives the value written. -/
@[simp] theorem tget_tput_same [DecidableEq α] (d : α) (t : Tab α) (k : Nat) (v : α) : tget d (tput d t k v) k = v := by
  unfold tget tput
  split
  · rename_i h; simp [tfind_tdel_same, h]
  · simp [tfind_tset_same]

/-- A write leaves every other key alone. -/
theorem tget_tput_other [DecidableEq α] (d e : α) (t : Tab α) {k l : Nat} (v : α) (h : l ≠ k) :
    tget e (tput d t k v) l = tget e t l := by
  unfold tget tput
  split
  · rw [tfind_tdel_other t h]
  · rw [tfind_tset_other t v h]

theorem tget_tput [DecidableEq α] (d : α) (t : Tab α) (k l : Nat) (v : α) :
    tget d (tput d t k v) l = if l = k then v else tget d t l := by
  by_cases h : l = k
  · subst h; simp
  · simp [h, tget_tput_other d d t v h]

/-! ### The canonical form -/

theorem tsortedFrom_mono {t : Tab α} {a b : Nat} (hab : a ≤ b) (h : tsortedFrom b t = true) : tsortedFrom a t = true := by
  cases t with
  | nil => rfl
  | cons e t =>
    obtain ⟨j, w⟩ := e
    simp only [tsortedFrom, Bool.and_eq_true, decide_eq_true_eq] at *
    exact ⟨Nat.le_trans hab h.1, h.2⟩

theorem tsortedFrom_tset {t : Tab α} {lo k : Nat} (v : α) (hk : lo ≤ k) (h : tsortedFrom lo t = true) :
    tsortedFrom lo (tset t k v) = true := by
  induction t generalizing lo with
  | nil => simp [tset, tsortedFrom, hk]
  | cons e t ih =>
    obtain ⟨j, w⟩ := e
    simp only [tsortedFrom, Bool.and_eq_true, decide_eq_true_eq] at h
    by_cases h1 : k < j
    · simp only [tset, h1, if_true, tsortedFrom, Bool.and_eq_true, decide_eq_true_eq]
      exact ⟨hk, h1, h.2⟩
    · by_cases h2 : j = k
      · simp only [tset, h2, Nat.lt_irrefl, if_true, if_false, tsortedFrom, Bool.and_eq_true, decide_eq_true_eq]
        exact ⟨hk, h2 ▸ h.2⟩
      · simp only [tset, h1, h2, if_false, tsortedFrom, Bool.and_eq_true, decide_eq_true_eq]
        exact ⟨h.1, ih (by omega) h.2⟩

theorem tsortedFrom_tdel {t : Tab α} {lo : Nat} (k : Nat) (h : tsortedFrom lo t = true) : tsortedFrom lo (tdel t k) = true := by
  induction t generalizing lo with
  | nil => rfl
  | cons e t ih =>
    obtain ⟨j, w⟩ := e
    simp only [tsortedFrom, Bool.and_eq_true, decide_eq_true_eq] at h
    by_cases h2 : j = k
    · simpa [tdel, h2] using tsortedFrom_mono (by omega) (ih h.2)
    · simp only [tdel, h2, if_false, tsortedFrom, Bool.and_eq_true, decide_eq_true_eq]
      exact ⟨h.1, ih h.2⟩

theorem tsortedFrom_tfilter {t : Tab α} {lo : Nat} (p : Nat → α → Bool) (h : tsortedFrom lo t = true) :
    tsortedFrom lo (tfilter p t) = true := by
  induction t generalizing lo with
  | nil => rfl
  | cons e t ih =>
    obtain ⟨j, w⟩ := e
    simp only [tsortedFrom, Bool.and_eq_true, decide_eq_true_eq] at h
    by_cases h2 : p j w = true
    · simp only [tfilter, h2, if_true, tsortedFrom, Bool.and_eq_true, decide_eq_true_eq]
      exact ⟨h.1, ih h.2⟩
    · simpa [tfilter, h2] using tsortedFrom_mono (by omega) (ih h.2)

theorem mem_tset {t : Tab α} {k : Nat} {v : α} {e : Nat × α} (h : e ∈ tset t k v) : e = (k, v) ∨ e ∈ t := by
  induction t with
  | nil => simpa [tset] using h
  | cons a t ih =>
    obtain ⟨j, w⟩ := a
    by_cases h1 : k < j
    · simpa [tset, h1] using h
    · by_cases h2 : j = k
      · simp [tset, h2] at h; rcases h with h | h <;> simp [h]
      · simp [tset, h1, h2] at h
        rcases h with h | h
        · simp [h]
        · rcases ih h with h | h <;> simp [h]

theorem mem_tdel {t : Tab α} {k : Nat} {e : Nat × α} (h : e ∈ tdel t k) : e ∈ t := by
  induction t with
  | nil => simp [tdel] at h
  | cons a t ih =>
    obtain ⟨j, w⟩ := a
    by_cases h2 : j = k
    · simp [tdel, h2] at h; simp [ih h]
    · simp [tdel, h2] at h; rcases h with h | h
      · simp [h]
      · simp [ih h]

theorem mem_tfilter {t : Tab α} {p : Nat → α → Bool} {e : Nat × α} (h : e ∈ tfilter p t) : e ∈ t := by
  induction t with
  | nil => simp [tfilter] at h
  | cons a t ih =>
    obtain ⟨j, w⟩ := a
    by_cases h2 : p j w = true
    · simp [tfilter, h2] at h; rcases h with h | h
      · simp [h]
      · simp [ih h]
    · simp [tfilter, h2] at h; simp [ih h]

theorem tabWf_iff [DecidableEq α] (d : α) (t : Tab α) :
    tabWf d t = true ↔ tsortedFrom 0 t = true ∧ ∀ e ∈ t, e.2 ≠ d := by
  simp [tabWf, tsorted, List.all_eq_true]

/-- A write keeps the canonical form. -/
theorem tabWf_tput [DecidableEq α] {d : α} {t : Tab α} (k : Nat) (v : α) (h : tabWf d t = true) : tabWf d (tput d t k v) = true := by
  rw [tabWf_iff] at *
  unfold tput
  split
  · exact ⟨tsortedFrom_tdel k h.1, fun e he => h.2 e (mem_tdel he)⟩
  · rename_i hv
    refine ⟨tsortedFrom_tset v (Nat.zero_le _) h.1, fun e he => ?_⟩
    rcases mem_tset he with he | he
    · simpa [he] using hv
    · exact h.2 e he

/-- Deleting a key keeps the canonical form. -/
theorem tabWf_tdel [DecidableEq α] {d : α} {t : Tab α} (k : Nat) (h : tabWf d t = true) : tabWf d (tdel t k) = true := by
  rw [tabWf_iff] at *
  exact ⟨tsortedFrom_tdel k h.1, fun e he => h.2 e (mem_tdel he)⟩

/-- Keeping some entries keeps the canonical form. -/
theorem tabWf_tfilter [DecidableEq α] {d : α} {t : Tab α} (p : Nat → α → Bool) (h : tabWf d t = true) :
    tabWf d (tfilter p t) = true := by
  rw [tabWf_iff] at *
  exact ⟨tsortedFrom_tfilter p h.1, fun e he => h.2 e (mem_tfilter he)⟩

end Sys2Proof.Machine
end

