-- ==== Sys2Proof/Laws/Regs.lean ====
section
/-! SUPPORT. Register words and fields after each named operation (Machine/Ops.lean). -/

namespace Sys2Proof.Machine

variable (s : State)

/-! ### Fields of a word -/

theorem fieldGet_testBit (f : Field) (w : Word) (i : Nat) :
    (fieldGet f w).testBit i = (decide (i < f.w) && w.getLsbD (f.lo + i)) := by
  simp only [fieldGet, Nat.testBit_mod_two_pow, BitVec.testBit_toNat, BitVec.getLsbD_ushiftRight]

theorem fieldMask_getLsbD (f : Field) (i : Nat) :
    (fieldMask f).getLsbD i = (decide (i < 32) && decide (f.lo ≤ i) && decide (i - f.lo < f.w)) := by
  simp only [fieldMask, BitVec.getLsbD_shiftLeft, BitVec.getLsbD_ofNat, Nat.testBit_two_pow_sub_one]
  by_cases h1 : i < 32 <;> by_cases h2 : f.lo ≤ i <;> by_cases h3 : i - f.lo < f.w <;> (simp [h1, h2, h3]; try omega)

theorem fieldPut_getLsbD (f : Field) (w : Word) (v i : Nat) :
    (fieldPut f w v).getLsbD i =
      if f.lo ≤ i ∧ i < f.lo + f.w ∧ i < 32 then v.testBit (i - f.lo) else w.getLsbD i := by
  simp only [fieldPut, BitVec.getLsbD_or, BitVec.getLsbD_and, BitVec.getLsbD_not, fieldMask_getLsbD, BitVec.getLsbD_shiftLeft,
    BitVec.getLsbD_ofNat]
  by_cases h1 : i < 32
  · by_cases h2 : f.lo ≤ i
    · by_cases h3 : i - f.lo < f.w
      · have h4 : i < f.lo + f.w := by omega
        have h5 : i - f.lo < 32 := by omega
        simp [h1, h2, h3, h4, h5, Nat.not_lt.mpr h2]
      · have h4 : ¬ i < f.lo + f.w := by omega
        simp [h1, h2, h3, h4]
    · simp [h1, h2]
  · have := BitVec.getLsbD_of_ge w i (by omega)
    simp [h1, this]

/-- The field written reads as the value written, in its width. -/
theorem fieldGet_fieldPut (f : Field) (w : Word) (v : Nat) (h : f.lo + f.w ≤ 32) : fieldGet f (fieldPut f w v) = v % 2 ^ f.w := by
  apply Nat.eq_of_testBit_eq
  intro i
  rw [fieldGet_testBit, fieldPut_getLsbD, Nat.testBit_mod_two_pow]
  by_cases hi : i < f.w
  · have h1 : f.lo + i < f.lo + f.w ∧ f.lo + i < 32 := by omega
    simp [hi, h1]
  · simp [hi]

/-- A field that shares no bit with the one written keeps its value. -/
theorem fieldGet_fieldPut_other (f g : Field) (w : Word) (v : Nat) (h : g.lo + g.w ≤ f.lo ∨ f.lo + f.w ≤ g.lo) :
    fieldGet g (fieldPut f w v) = fieldGet g w := by
  apply Nat.eq_of_testBit_eq
  intro i
  rw [fieldGet_testBit, fieldGet_testBit, fieldPut_getLsbD]
  by_cases hi : i < g.w
  · have h1 : ¬ (f.lo ≤ g.lo + i ∧ g.lo + i < f.lo + f.w ∧ g.lo + i < 32) := by omega
    simp [h1]
  · simp [hi]

theorem fieldGet_lt (f : Field) (w : Word) : fieldGet f w < 2 ^ f.w := Nat.mod_lt _ (Nat.two_pow_pos _)

theorem fieldGet_word (f : Field) (w : Word) (h : f.lo = 0) (h' : f.w = 32) : fieldGet f w = w.toNat := by
  simp [fieldGet, h, h', Nat.mod_eq_of_lt w.isLt]

/-- A field of a word built from a number. -/
theorem fieldGet_ofNat (f : Field) (n : Nat) (h : f.lo + f.w ≤ 32) : fieldGet f (BitVec.ofNat 32 n) = n / 2 ^ f.lo % 2 ^ f.w := by
  apply Nat.eq_of_testBit_eq
  intro i
  rw [fieldGet_testBit, Nat.testBit_mod_two_pow, Nat.testBit_div_two_pow, BitVec.getLsbD_ofNat, Nat.add_comm i]
  by_cases hi : i < f.w
  · simp [hi, show f.lo + i < 32 by omega]
  · simp [hi]

/-! ### Words -/

/-- A register word depends on the register table and the build alone. -/
theorem State.word_congr {s t : State} (h : s.s64 = t.s64) (h' : s.regs = t.regs) (off : Nat) : s.word off = t.word off := by
  simp [State.word, h, h']

theorem State.word_pmuFrz (b : Bool) (k : Nat) : ({ s with pmuFrz := b } : State).word k = s.word k := rfl

theorem State.rdI_congr {s t : State} (f : Field) (i : Nat) (h : s.word (f.off + f.stride * i) = t.word (f.off + f.stride * i)) :
    s.rdI f i = t.rdI f i := by simp [State.rdI, h]

theorem State.word_setWord (off k : Nat) (v : Word) : (s.setWord off v).word k = if k = off then v else s.word k := by
  simp only [State.word, State.setWord]
  by_cases h : k = off
  · subst h; simp
  · simp [h, tget_tput_other _ _ _ _ h]

theorem State.word_wrI (f : Field) (i v k : Nat) :
    (s.wrI f i v).word k = if k = f.off + f.stride * i then fieldPut f (s.word (f.off + f.stride * i)) v else s.word k :=
  State.word_setWord s _ _ _

theorem State.word_wr (f : Field) (v k : Nat) : (s.wr f v).word k = if k = f.off then fieldPut f (s.word f.off) v else s.word k := by
  simpa [State.wr] using s.word_wrI f 0 v k

theorem State.word_setFlag (f : Field) (b : Bool) (k : Nat) :
    (s.setFlag f b).word k = if k = f.off then fieldPut f (s.word f.off) b.toNat else s.word k := s.word_wr f _ k

theorem State.word_setFlagI (f : Field) (i : Nat) (b : Bool) (k : Nat) : (s.setFlagI f i b).word k =
    if k = f.off + f.stride * i then fieldPut f (s.word (f.off + f.stride * i)) b.toNat else s.word k := s.word_wrI f i _ k

theorem State.word_bumpI (f : Field) (i n k : Nat) : (s.bumpI f i n).word k =
    if k = f.off + f.stride * i then fieldPut f (s.word (f.off + f.stride * i)) (min (s.rdI f i + n) (2 ^ f.w - 1)) else s.word k :=
  s.word_wrI f i _ k

theorem State.word_bump (f : Field) (n k : Nat) : (s.bump f n).word k =
    if k = f.off then fieldPut f (s.word f.off) (min (s.rd f + n) (2 ^ f.w - 1)) else s.word k := by
  simpa [State.bump, State.rd] using s.word_bumpI f 0 n k

theorem State.word_wrapAdd (f : Field) (n k : Nat) : (s.wrapAdd f n).word k =
    if k = f.off then fieldPut f (s.word f.off) (s.rd f + n) else s.word k := s.word_wr f _ k

theorem State.word_setBit (f : Field) (j : Nat) (b : Bool) (k : Nat) : (s.setBit f j b).word k =
    if k = f.off then fieldPut f (s.word f.off) (if b then s.rd f ||| 2 ^ j else (s.rd f ||| 2 ^ j) - 2 ^ j) else s.word k :=
  s.word_wr f _ k

theorem State.word_plain (off k : Nat) (w : Word) : (s.plain off w).word k =
    match regRow s.s64 off with
    | some r => if k = off then plainWrite r (s.word off) w else s.word k
    | none => s.word k := by
  unfold State.plain
  cases regRow s.s64 off with
  | some r => simp [State.word_setWord]
  | none => rfl

theorem State.word_plain_other {off k : Nat} (w : Word) (h : k ≠ off) : (s.plain off w).word k = s.word k := by
  rw [State.word_plain]; split
  · simp [h]
  · rfl

/-! ### Plain writes -/

/-- A plain write of a listed register without W1C fields: each bit is the written one where it is RW, and stays elsewhere. -/
theorem plainWrite_getLsbD {r : RegRow} (old new : Word) (h : r.w1c = 0) (i : Nat) : (plainWrite r old new).getLsbD i =
    if (BitVec.ofNat 32 r.rw).getLsbD i then new.getLsbD i else old.getLsbD i := by
  by_cases hi : i < 32
  · simp only [plainWrite, h, BitVec.getLsbD_or, BitVec.getLsbD_and, BitVec.getLsbD_not, hi]
    by_cases hb : (BitVec.ofNat 32 r.rw).getLsbD i = true <;> simp [hb]
  · have a := BitVec.getLsbD_of_ge (plainWrite r old new) i (by omega)
    have b := BitVec.getLsbD_of_ge new i (by omega)
    have c := BitVec.getLsbD_of_ge old i (by omega)
    simp [a, b, c]

/-- A field whose bits are all RW takes the written value. -/
theorem fieldGet_plainWrite {r : RegRow} (f : Field) (old new : Word) (h : r.w1c = 0)
    (hf : ∀ i, i < f.w → (BitVec.ofNat 32 r.rw).getLsbD (f.lo + i) = true) : fieldGet f (plainWrite r old new) = fieldGet f new := by
  apply Nat.eq_of_testBit_eq
  intro i
  rw [fieldGet_testBit, fieldGet_testBit, plainWrite_getLsbD _ _ h]
  by_cases hi : i < f.w
  · rw [if_pos (hf i hi)]
  · simp [hi]

/-- A field none of whose bits is RW stays. -/
theorem fieldGet_plainWrite_keep {r : RegRow} (f : Field) (old new : Word) (h : r.w1c = 0)
    (hf : ∀ i, i < f.w → (BitVec.ofNat 32 r.rw).getLsbD (f.lo + i) = false) : fieldGet f (plainWrite r old new) = fieldGet f old := by
  apply Nat.eq_of_testBit_eq
  intro i
  rw [fieldGet_testBit, fieldGet_testBit, plainWrite_getLsbD _ _ h]
  by_cases hi : i < f.w
  · rw [if_neg (by simp [hf i hi])]
  · simp [hi]

/-- A register all of whose bits are RW holds the written word. -/
theorem plainWrite_whole {r : RegRow} (old new : Word) (h : r.w1c = 0) (hr : r.rw = 0xFFFFFFFF) : plainWrite r old new = new := by
  apply BitVec.eq_of_getLsbD_eq
  intro i hi
  rw [plainWrite_getLsbD _ _ h, hr, if_pos]
  simp only [BitVec.getLsbD_ofNat, hi, decide_true, Bool.true_and]
  exact (Nat.testBit_two_pow_sub_one 32 i).trans (by simpa using hi)

theorem State.word_plain_same {off : Nat} {r : RegRow} (h : regRow s.s64 off = some r) (w : Word) :
    (s.plain off w).word off = plainWrite r (s.word off) w := by
  rw [State.word_plain, h]; simp

@[simp] theorem State.word_emit (o : Out) (k : Nat) : (s.emit o).word k = s.word k := rfl
@[simp] theorem State.word_settle (k : Nat) : s.settle.word k = s.word k := rfl
@[simp] theorem State.word_answer (src : MgSrc) (a b : Nat) (d : Word) (k : Nat) : (s.answer src a b d).word k = s.word k := by
  cases src <;> rfl
@[simp] theorem State.word_ok (src : MgSrc) (k : Nat) : (s.ok src).word k = s.word k := by cases src <;> rfl
@[simp] theorem State.word_refuse (src : MgSrc) (r k : Nat) : (s.refuse src r).word k = s.word k := by cases src <;> rfl

/-! ### Fields -/

/-- The field written reads as the value written. -/
theorem State.rdI_wrI_same (f : Field) (i v : Nat) (h : f.lo + f.w ≤ 32) : (s.wrI f i v).rdI f i = v % 2 ^ f.w := by
  simp [State.rdI, State.word_wrI, fieldGet_fieldPut f _ _ h]

/-- A field of another register keeps its value. -/
theorem State.rdI_wrI_other (f g : Field) (i j v : Nat) (h : g.off + g.stride * j ≠ f.off + f.stride * i) :
    (s.wrI f i v).rdI g j = s.rdI g j := by simp [State.rdI, State.word_wrI, h]

/-- Another field of the register written keeps its value. -/
theorem State.rdI_wrI_field (f g : Field) (i j v : Nat) (h : g.lo + g.w ≤ f.lo ∨ f.lo + f.w ≤ g.lo) :
    (s.wrI f i v).rdI g j = s.rdI g j := by
  simp only [State.rdI, State.word_wrI]
  split
  · rename_i hk; rw [fieldGet_fieldPut_other f g _ _ h, hk]
  · rfl

/-- A field is bounded by its width. -/
theorem State.rdI_lt (f : Field) (i : Nat) : s.rdI f i < 2 ^ f.w := fieldGet_lt _ _

/-! ### Counting operations and the fault log -/

theorem State.word_setPmu (n v k : Nat) (h : pmuBlock k = false) (hn : n < 64) : (s.setPmu n v).word k = s.word k := by
  have : ¬ (0x2A000 ≤ k ∧ k < 0x2B000) := by simpa [pmuBlock] using h
  simp only [State.setPmu, State.word_wrI]
  split
  · omega
  · split
    · omega
    · rfl

theorem State.word_pmuAdd (n v k : Nat) (h : pmuBlock k = false) (hn : n < 64) : (s.pmuAdd n v).word k = s.word k := by
  have hk : ¬ (0x2A000 ≤ k ∧ k < 0x2B000) := by simpa [pmuBlock] using h
  have hb : ∀ x, (s.setPmu n x).word k = s.word k := fun x => s.word_setPmu n x k h hn
  have hc : ∀ x, ((s.setPmu n x).setBit PMU_OVF.OVF n true).word k = s.word k := by
    intro x
    have ho : PMU_OVF.OVF.off = 0x2A004 := rfl
    rw [State.word_setBit, if_neg (by omega), hb]
  unfold State.pmuAdd
  generalize s.pmuVal n + v = x
  extract_lets v b c
  split
  · exact hb _
  · split
    · rw [State.word_pmuFrz]; exact hc _
    · exact hc _

/-- Counting an event changes no register outside the PMU's block. -/
theorem State.word_event (code : Nat) (lane label : Option Nat) (inc k : Nat) (h : pmuBlock k = false) :
    (s.event code lane label inc).word k = s.word k := by
  unfold State.event
  have : ∀ (l : List Nat) (s : State), (∀ n ∈ l, n < 64) →
      (l.foldl (fun s n => if s.pmuCounts n code lane label then s.pmuAdd n inc else s) s).word k = s.word k := by
    intro l
    induction l with
    | nil => intros; rfl
    | cons n l ih =>
      intro s hl
      rw [List.foldl_cons, ih _ (fun m hm => hl m (List.mem_cons_of_mem _ hm))]
      split
      · exact State.word_pmuAdd s n inc k h (hl n List.mem_cons_self)
      · rfl
  exact this _ s (fun n hn => by have := List.mem_range.mp hn; omega)

/-- The beginning of a command changes no register outside the PMU's block. -/
theorem State.word_begin (k : Nat) (h : pmuBlock k = false) : s.begin.word k = s.word k := by
  have hk : ¬ (0x2A000 ≤ k ∧ k < 0x2B000) := by simpa [pmuBlock] using h
  have ho : PMU_GCTL.FREEZE.off = 0x2A000 := rfl
  unfold State.begin
  extract_lets
  split
  · refine (State.word_congr (s := _) (t := State.setFlag _ PMU_GCTL.FREEZE true) rfl rfl k).trans ?_
    rw [State.word_setFlag, if_neg (by omega)]
    exact State.word_congr rfl rfl k
  · exact State.word_congr rfl rfl k

/-- A fault event changes the registers of the fault log alone. -/
theorem State.word_fault (cls code sev detail : Nat) (loc : Option LineAddr) (status kind src : Nat) (irq : Bool) (k : Nat)
    (h : k ∉ faultRegs cls) : (s.fault cls code sev detail loc status kind src irq).word k = s.word k := by
  simp only [faultRegs, List.mem_cons, List.not_mem_nil, or_false, not_or] at h
  obtain ⟨h1, h2, h3⟩ := h
  unfold State.fault
  extract_lets a b c d
  have ha : a.word k = s.word k := by
    show (s.bumpI _ _ _).word k = _
    rw [State.word_bumpI, if_neg h2]
  have hb : b.word k = s.word k := by
    show (ite _ _ _ : State).word k = _
    split
    · rw [State.word_setBit, if_neg h1, ha]
    · exact ha
  split
  · exact hb
  · split
    · rw [State.word_bump, if_neg h3, hb]
    · exact hb

end Sys2Proof.Machine
end

