-- ==== Sys2Proof/Laws/Ops.lean ====
section
/-! SUPPORT. What each shared operation can do: the beginning and the end of a command, answers, and the gate of management accesses
(R408, R425, R426, R429). -/

namespace Sys2Proof.Machine

variable (s : State)

/-! ### The beginning and the end of a command -/

@[simp] theorem State.begin_out : s.begin.out = [] := by unfold State.begin; extract_lets a; split <;> rfl
@[simp] theorem State.begin_fresh : s.begin.err.fresh = 0 := by unfold State.begin; extract_lets a; split <;> rfl
@[simp] theorem State.begin_intake : s.begin.err.intake = s.err.intake := by unfold State.begin; extract_lets a; split <;> rfl
@[simp] theorem State.begin_ring : s.begin.err.ring = s.err.ring := by unfold State.begin; extract_lets a; split <;> rfl
@[simp] theorem State.begin_pmuFrz : s.begin.pmuFrz = false := by
  unfold State.begin; extract_lets a; split
  · rfl
  · rename_i h; exact Bool.eq_false_iff.mpr h

/-- A field outside the PMU's block at the beginning of a command. -/
theorem State.begin_rdI (f : Field) (i : Nat) (h : pmuBlock (f.off + f.stride * i) = false) : s.begin.rdI f i = s.rdI f i := by
  simp [State.rdI, State.word_begin s _ h]

@[simp] theorem State.settle_pins : s.settle.pins =
    { s.pins with irqFault := s.irqFault, irqPmu := s.irqPmu, offReady := s.pwrOffReady } := rfl
@[simp] theorem State.settle_irqFault : s.settle.irqFault = s.irqFault := rfl
@[simp] theorem State.settle_irqPmu : s.settle.irqPmu = s.irqPmu := rfl
@[simp] theorem State.settle_pwrOffReady : s.settle.pwrOffReady = s.pwrOffReady := rfl

/-- What every command ends in has its level outputs as the state says. -/
theorem State.settle_outputs : OutputsFollow s.settle := ⟨rfl, rfl, rfl⟩

/-! ### Answers -/

@[simp] theorem State.emit_out (o : Out) : (s.emit o).out = s.out ++ [o] := rfl
theorem State.answer_out (src : MgSrc) (a b : Nat) (d : Word) : (s.answer src a b d).out = s.out ++ [answerOut src a b d] := by
  cases src <;> rfl
theorem State.ok_out (src : MgSrc) : (s.ok src).out = s.out ++ [answerOut src stOk rsnNone 0] := s.answer_out src _ _ _
theorem State.refuse_out (src : MgSrc) (r : Nat) : (s.refuse src r).out = s.out ++ [answerOut src stRefused r 0] :=
  s.answer_out src _ _ _

/-! ### The gate -/

theorem State.begin_mgReady : s.begin.mgReady = s.mgReady := by
  unfold State.mgReady State.rd; rw [s.begin_rdI SLC_START.STEP 0 rfl]
theorem State.begin_dark : s.begin.dark = s.dark := by
  unfold State.dark State.rd; rw [s.begin_rdI PWR_STATUS.STATE 0 rfl]

/-- A write that the gate passes does what its rule says. -/
theorem State.mgWrite_admits {s : State} {off : Nat} {m : MgWrite} (h : Admits s off m.src) (c : Instr) (act : State → State) :
    s.begin.mgWrite c off m act = act s.begin := by
  unfold Admits at h
  unfold State.mgWrite
  rw [State.begin_mgReady, State.begin_dark, State.begin_front]
  cases hm : m.src <;> simp only [hm] at h
  case curator => simp [isCurator, h]
  all_goals
    obtain ⟨h1, h2, h3⟩ := h
    have h4 : ¬ (s.dark = true ∧ darkBlock off = false) := fun hc => by simp [h2 hc.1] at hc
    have h5 : ¬ (s.front.failed = true ∧ failedBlock off = false) := fun hc => by simp [h3 hc.1] at hc
    simp [isCurator, isReserved, h1, h4, h5]

/-! ### Frames -/

/-- Which fields two states must share for `OnlyRegs`, where the second has settled. -/
theorem onlyRegs_settle {s u : State} (pins : u.pins = s.pins) (intake : u.err.intake = s.err.intake) (ring : u.err.ring = s.err.ring)
    (s64 : u.s64 = s.s64) (front : u.front = s.front) (stk : u.stk = s.stk) (coh : u.coh = s.coh) (ord : u.ord = s.ord) (mir : u.mir = s.mir)
    (ldg : u.ldg = s.ldg) (chn : u.chn = s.chn) (por : u.por = s.por) (adm : u.adm = s.adm) (pwr : u.pwr = s.pwr) (img : u.img = s.img) (cur : u.cur = s.cur)
    (start : u.start = s.start) (tran : u.tran = s.tran) (place : u.place = s.place) (cfg : u.cfg = s.cfg) (latch : u.latch = s.latch) (freeCtr : u.freeCtr = s.freeCtr) (pending : u.pending = s.pending) :
    OnlyRegs s u.settle := by
  obtain ⟨_, _, _, _, _, _, _, _, _, _, _, _, _, _, _, _, _, _, _, ⟨_, _, _⟩, _, _, _, _, _⟩ := s
  obtain ⟨_, _, _, _, _, _, _, _, _, _, _, _, _, _, _, _, _, _, _, ⟨_, _, _⟩, _, _, _, _, _⟩ := u
  simp only at *
  subst_vars
  rfl

end Sys2Proof.Machine
end

