-- ==== Sys2Proof/WellFormed.lean ====
section
/-! DEFINITION. The well-formed commands of a build (s64 false: S128, true: S64): what the formats of the chapters and the size of the
build allow as operands (R1, R2, R18, R46, R377, R397, R406, R408, R430, R432). Types that hold more values than a build has are checked
here, once. The machine is total on ill-formed commands too; they stand for nothing that the hardware can be sent. -/

namespace Sys2Proof

/-- A requester of R397: PSLICE is 0 for an agent, a channel number has 4 bits, the ID of a slice is 0. -/
def Requester.wf (w : Requester) : Bool :=
  match w.kind with
  | .agent => w.pslice = 0
  | .porter => decide (w.id.toNat < 16)
  | .slice => w.id = 0

/-- A casement of the build (R2). -/
def casWf (s64 : Bool) (c : BitVec 2) : Bool := !s64 || decide (c.toNat < 2)

/-- A request: its requester and its casement. -/
def Req.wf (s64 : Bool) (r : Req) : Bool := r.who.wf && casWf s64 r.cas

/-- A physical bank, the spare among them (R46). -/
def bankWf (s64 : Bool) (b : BitVec 5) : Bool := decide (b.toNat ≤ if s64 then 8 else 16)

/-- A bank pair: 0 to 7 (S64: 0 to 3), and 8 for the spare (R18). -/
def pairWf (s64 : Bool) (p : BitVec 4) : Bool := decide (p.toNat < if s64 then 4 else 8) || p = 8

/-- A tag or Ledger lane (R27, R156). -/
def laneWf (s64 : Bool) (k : BitVec 2) : Bool := !s64 || decide (k.toNat < 2)

/-- A link of the build: links 2 and 3 do not exist in S64 (R369). -/
def linkWf (s64 : Bool) (n : BitVec 3) : Bool := !s64 || (n != 2 && n != 3)

/-- A source of R408: the reserved codes are 3 to 7. -/
def MgSrc.wf : MgSrc → Bool
  | .reserved c => decide (3 ≤ c.toNat)
  | _ => true

/-- A management write. -/
def MgWrite.wf (m : MgWrite) : Bool := m.src.wf

/-- A crossing lane of the build; pair 8 has one front lane (R19). -/
def Crossing.wf (s64 : Bool) : Crossing → Bool
  | .frontToBank p l => pairWf s64 p && (p != 8 || !l)
  | .bankToFront p l => pairWf s64 p && (p != 8 || !l)
  | .frontToLedger k => laneWf s64 k
  | .ledgerToFront k => laneWf s64 k
  | .nightToBank p => pairWf s64 p
  | .bankToNight p => pairWf s64 p
  | .frontToCurator | .curatorToFront | .frontToNight | .nightToFront => true

/-- A command that the build can be sent. -/
def Instr.wf (s64 : Bool) : Instr → Bool
  | .casementFlitReceive c _ _ _ => casWf s64 c
  | .linkReplayTimeout n => linkWf s64 n
  | .creditWordReceive c _ => casWf s64 c
  | .crossingEntryTransfer x => x.wf s64
  | .laneStall x => x.wf s64
  | .rdS r => r.wf s64
  | .rdX r => r.wf s64
  | .upg r => r.wf s64
  | .rdOnce r => r.wf s64
  | .rdLast r => r.wf s64
  | .wrLine r _ => r.wf s64
  | .wrPart r _ _ => r.wf s64
  | .atom r _ => r.wf s64
  | .evict r => r.wf s64
  | .range r _ => r.wf s64
  | .ackInv _ _ => true
  | .fwdDone _ _ _ => true
  | .fwdMiss _ _ _ => true
  | .wb _ _ _ _ _ _ => true
  | .wbCopy _ _ _ _ => true
  | .binvData _ _ _ _ => true
  | .fwdTimeout _ _ => true
  | .adoptedWbTimeout _ => true
  | .reservationExpire _ => true
  | .atomUnitRelease _ => true
  | .predClr m => m.wf
  | .fence f => f.who.wf && casWf s64 f.cas
  | .fenceDone _ _ _ => true
  | .acquireReadReplay w _ => w.wf
  | .windowFenceTimeout w _ _ => w.wf
  | .ordWinInv m => m.wf
  | .windowWalkStart => true
  | .windowWalkLookup _ => true
  | .windowWalkEnd => true
  | .releaseRecordClear m => m.wf
  | .slcLiveWrite m => m.wf
  | .hashEvaluate m => m.wf
  | .hashPaLoWrite m => m.wf
  | .farReadData _ _ _ _ => true
  | .farWriteResponse _ _ _ => true
  | .farCredit _ _ _ => true
  | .bankBeatComplete p l _ _ _ => pairWf s64 p && (p != 8 || !l)
  | .correctiveWrite b => bankWf s64 b
  | .refreshRequest b => bankWf s64 b
  | .refreshCommand b => bankWf s64 b
  | .sensorRead _ _ => true
  | .scrubRow b beats => bankWf s64 b && decide ((beats.map (·.1)).Nodup)
  | .scrubLate b => bankWf s64 b
  | .calGrantOpen m => m.wf
  | .calGrantExpire => true
  | .calibrationTrial b _ k _ => bankWf s64 b && decide (k.toNat ≤ 4)
  | .calibrationComplete => true
  | .stkRetire m => m.wf
  | .retirementCopy _ => true
  | .retirementCopyDone => true
  | .retireWayPairWalk _ => true
  | .adaptWindowEnd => true
  | .altDemote m => m.wf
  | .altRestore m => m.wf
  | .rshClean m => m.wf
  | .rshInvalidate m => m.wf
  | .rshCleanInv m => m.wf
  | .seal m => m.wf
  | .reopen m => m.wf
  | .invBank m => m.wf
  | .reshelverStart => true
  | .reshelverLookup _ => true
  | .reshelverDone => true
  | .reshelverDisable m => m.wf
  | .reshelverEnable m => m.wf
  | .reshelverShutdownEnd => true
  | .prefetchRead _ => true
  | .prefetchDisable m => m.wf
  | .prefetchEnable m => m.wf
  | .prefetchShutdownEnd => true
  | .pftDegreeWrite m => m.wf
  | .ledgerOpAccept r _ => r.wf s64
  | .lacc k => laneWf s64 k
  | .laccS k => laneWf s64 k
  | .lmerge k => laneWf s64 k
  | .lsnap k => laneWf s64 k
  | .ldrain k => laneWf s64 k
  | .lclr k => laneWf s64 k
  | .drainRead k => laneWf s64 k
  | .drainWriteOut k => laneWf s64 k
  | .ldgRowDrain m => m.wf
  | .heldDrainTimeout _ => true
  | .ledgerDisable m => m.wf
  | .ledgerEnable m => m.wf
  | .ledgerShutdownEnd => true
  | .bindCommit _ m => m.wf
  | .bindCommitApply _ => true
  | .bindRemove _ m => m.wf
  | .bindEntryRead _ _ src => src.wf
  | .scaleCommit _ m => m.wf
  | .scaleQueueApply => true
  | .token _ _ => true
  | .tack _ => true
  | .tnack _ => true
  | .tref _ => true
  | .tnackResend _ => true
  | .tokenRetransmitTimeout _ => true
  | .chainCommit _ m => m.wf
  | .chainRemove _ m => m.wf
  | .descriptorPoll _ => true
  | .descriptorResponse _ _ => true
  | .porterBurstGrant => true
  | .porterResponse _ _ _ => true
  | .porterRetryResend _ _ => true
  | .producerPoll _ => true
  | .porterStart _ m => m.wf
  | .porterChannelDisable _ m => m.wf
  | .porterChannelEnable _ m => m.wf
  | .porterChannelStopEnd _ => true
  | .porterHaltClear _ m => m.wf
  | .porterDisable m => m.wf
  | .porterEnable m => m.wf
  | .frameBoundary => true
  | .frameSync => true
  | .creditReturn c => casWf s64 c
  | .tclCommit m => m.wf
  | .winCommit m => m.wf
  | .admissionCheck => true
  | .windowRequestSlot r _ => r.wf s64
  | .windowResponseDepart _ => true
  | .imgDataWrite m => m.wf
  | .imgDataRead src => src.wf
  | .imageLoad m => m.wf
  | .imageUpdate m => m.wf
  | .imageUpdateApply => true
  | .imageCheck m => m.wf
  | .coldStart _ => true
  | .warmReset _ => true
  | .islandClocksUp _ _ _ pairs => !s64 || pairs.extractLsb' 4 4 = 0
  | .bankBist f => !s64 || f.extractLsb' 9 8 = 0
  | .ledgerBist f => match f with
    | some k => laneWf s64 k
    | none => true
  | .stepTimeout k => decide (k.toNat ≤ 9)
  | .fwDone m => m.wf
  | .fwAttest m => m.wf
  | .fwAlive m => m.wf
  | .fwTimeout => true
  | .fwAliveTimeout => true
  | .imageTimeout => true
  | .linkTraining full half => full &&& half = 0 && (!s64 || (full ||| half) &&& 0x0C = 0)
  | .capabilityMessage n _ => linkWf s64 n
  | .ucieMainbandActive _ _ _ _ => true
  | .capabilityTimeout n => linkWf s64 n
  | .refreshCalibrationStep _ => true
  | .startRelease m => m.wf
  | .goOnline => true
  | .daybookClear m => m.wf
  | .clrFails m => m.wf
  | .clrRetired m => m.wf
  | .runLevelWrite m => m.wf
  | .pwrCmdActive m => m.wf
  | .pwrCmdDoze m => m.wf
  | .pwrCmdRetain m => m.wf
  | .pwrCmdOff m => m.wf
  | .dozeEnter => true
  | .dozeTimeout => true
  | .dozeWake n => linkWf s64 n
  | .retainEntryPhase => true
  | .retainExitPhase up => !s64 || up &&& 0x0C = 0
  | .transitionEnd => true
  | .budgetQuery _ => true
  | .budgetCap _ => true
  | .budgetState _ => true
  | .budgetRamp _ => true
  | .pwrRampWrite m => m.wf
  | .supplyRemoval => true
  | .retentionSupplyLoss => true
  | .mwr h _ => laneWf s64 h.lane
  | .mclean h => laneWf s64 h.lane
  | .mdead h => laneWf s64 h.lane
  | .minv h => laneWf s64 h.lane
  | .mevict h => laneWf s64 h.lane
  | .mldg h _ => laneWf s64 h.lane
  | .mrow h _ => laneWf s64 h.lane
  | .mscale h _ => laneWf s64 h.lane
  | .mpwr h => laneWf s64 h.lane
  | .mchk h => laneWf s64 h.lane
  | .mack h => laneWf s64 h.lane
  | .mchkSend => true
  | .mirrorLinkDown _ _ => true
  | .reachProbeAnswer _ => true
  | .reachProbeTimeout => true
  | .seamTimeout => true
  | .seamAnnounce m => m.wf
  | .seamReady => true
  | .seamResume m => m.wf
  | .transomBeat k _ _ => decide (k.toNat < 3)
  | .transomCredit k => decide (k.toNat < 3)
  | .repair m => m.wf
  | .resyncDone => true
  | .split m => m.wf
  | .prepare m => m.wf
  | .restripeReady => true
  | .commit m => m.wf
  | .abort m => m.wf
  | .mirLdgWrite _ m => m.wf
  | .mirRateWrite m => m.wf
  | .lossReportClear m => m.wf
  | .faultLogWrite => true
  | .errLogTailWrite m => m.wf
  | .errLogSelect m => m.wf
  | .watchdogKick m => m.wf
  | .watchdogExpire _ => true
  | .watchdogHeldClear m => m.wf
  | .injectorArm n m => linkWf s64 n && m.wf
  | .reorderTimeout n => linkWf s64 n
  | .pmuSnapshot m => m.wf
  | .pmuClear m => m.wf
  | .pmuCounterWrite _ _ m => m.wf
  | .pmuCounterWrap _ inc => decide (1 ≤ inc.toNat) && decide (inc.toNat ≤ 32)
  | .latchedGroupRead _ src => src.wf
  | .rcRegisterRead _ src => src.wf
  | .timestampUpdate _ _ => true
  | .mailboxPost m => m.wf
  | .mailboxPostClear => true
  | .mailboxC2hPost len => decide (len.toNat ≤ 508)
  | .mailboxC2hClear m => m.wf
  | .curatorSramWrite off m => off.extractLsb' 0 2 = 0 && m.wf
  | .registerWrite _ m => m.wf
  | .curatorSramZeroed => true
  | .budgetAnswerAck => true
  | .wicketCredit _ => true
  | .jtagInstruction _ _ => true

end Sys2Proof
end

