-- ==== Sys2Proof/Tests/Slice0.lean ====
section
/-! SUPPORT. Small tests and witnesses. -/

open Sys2Proof Sys2Proof.Machine

theorem test_reset_queue_empty : State.reset.pending = [] := by decide
end

section
/-! SUPPORT. The Daybook through a warm reset: which words a warm reset keeps (R12, R279), what an entry changes (R298), and what step 0
leaves of the words below it (R280). -/

namespace Sys2Proof.Machine

/-! ### Ranges of the register table -/

theorem tfind_tfilter_key {α : Type} (q : Nat → Bool) (t : Tab α) (k : Nat) :
    tfind (tfilter (fun j _ => q j) t) k = if q k then tfind t k else none := by
  induction t with
  | nil => simp [tfilter, tfind]
  | cons e t ih =>
    obtain ⟨j, v⟩ := e
    by_cases hj : j = k
    · subst hj
      by_cases hq : q j = true <;> simp [tfilter, tfind, hq, ih]
    · by_cases hq : q j = true <;> simp [tfilter, tfind, hq, hj, ih]

theorem State.word_clearRange (s : State) (lo hi k : Nat) :
    (s.clearRange lo hi).word k = if lo ≤ k ∧ k < hi then resetWord s.s64 k else s.word k := by
  simp only [State.word, State.clearRange, tget, tfind_tfilter_key]
  by_cases h : lo ≤ k ∧ k < hi
  · simp [h]
  · rw [if_pos (by simpa [imp_iff_not_or] using h), if_neg h]

/-! ### The words that a warm reset keeps -/

/-- The bits of the register at an offset that a warm reset retains (R12); none at an offset that no row lists. -/
def keepMask (s64 : Bool) (off : Nat) : Word := ((regRow s64 off).map (fun r => BitVec.ofNat 32 r.keep)).getD 0#32

/-- The word that a warm reset leaves at an offset: the retained bits, with the Reset value in the others. -/
def State.keptWord (s : State) (off : Nat) : Word :=
  (resetWord s.s64 off &&& ~~~keepMask s.s64 off) ||| (s.word off &&& keepMask s.s64 off)

/-- One round of `State.keptRegs`. -/
def State.keepEntry (s : State) (t : Tab Word) (e : Nat × Word) : Tab Word :=
  match regRow s.s64 e.1 with
  | some _ => tput (resetWord s.s64 e.1) t e.1 (s.keptWord e.1)
  | none => t

variable (s : State)

theorem State.keptRegs_eq_foldl : s.keptRegs = s.regs.foldl s.keepEntry [] := by
  unfold State.keptRegs
  congr
  funext t e
  unfold State.keepEntry State.keptWord keepMask
  cases regRow s.s64 e.1 <;> rfl

theorem State.keptWord_of_keepMask_allOnes {s : State} {k : Nat} (h : keepMask s.s64 k = BitVec.allOnes 32) :
    s.keptWord k = s.word k := by
  rw [State.keptWord, h, BitVec.and_allOnes, BitVec.not_allOnes, BitVec.and_zero, BitVec.zero_or]

theorem State.keptWord_of_keepMask_zero {s : State} {k : Nat} (h : keepMask s.s64 k = 0#32) : s.keptWord k = resetWord s.s64 k := by
  rw [State.keptWord, h, BitVec.and_zero, BitVec.or_zero, BitVec.not_zero, BitVec.and_allOnes]

/-- A word at its Reset value stays there. -/
theorem State.keptWord_of_reset {s : State} {k : Nat} (h : s.word k = resetWord s.s64 k) : s.keptWord k = resetWord s.s64 k := by
  unfold State.keptWord
  rw [h, ← BitVec.and_or_distrib_left, BitVec.not_or_self, BitVec.and_allOnes]

theorem State.tget_keepEntry (t : Tab Word) (e : Nat × Word) (k : Nat) : tget (resetWord s.s64 k) (s.keepEntry t e) k =
    if k = e.1 ∧ (regRow s.s64 k).isSome then s.keptWord k else tget (resetWord s.s64 k) t k := by
  unfold State.keepEntry
  by_cases hk : k = e.1
  · subst hk
    cases h : regRow s.s64 e.1 <;> simp
  · cases h : regRow s.s64 e.1 with
    | none => simp [hk]
    | some r => simp [hk, tget_tput_other _ _ t _ hk]

theorem State.tget_foldl_keepEntry (l t : Tab Word) (k : Nat) : tget (resetWord s.s64 k) (l.foldl s.keepEntry t) k =
    if k ∈ l.map Prod.fst ∧ (regRow s.s64 k).isSome then s.keptWord k else tget (resetWord s.s64 k) t k := by
  induction l generalizing t with
  | nil => simp
  | cons e l ih =>
    rw [List.foldl_cons, ih, State.tget_keepEntry]
    by_cases hrow : (regRow s.s64 k).isSome = true
    · by_cases hl : k ∈ l.map Prod.fst <;> simp [hl, hrow]
    · simp [hrow]

theorem tfind_eq_none_of_not_mem {α : Type} {t : Tab α} {k : Nat} (h : k ∉ t.map Prod.fst) : tfind t k = none := by
  induction t with
  | nil => rfl
  | cons e t ih =>
    obtain ⟨j, v⟩ := e
    simp only [List.map_cons, List.mem_cons, not_or] at h
    rw [tfind, if_neg (Ne.symm h.1), ih h.2]

/-- At every offset the retained registers hold what a warm reset leaves there. -/
theorem State.tget_keptRegs (k : Nat) : tget (resetWord s.s64 k) s.keptRegs k = s.keptWord k := by
  rw [State.keptRegs_eq_foldl, State.tget_foldl_keepEntry]
  split
  · rfl
  · rename_i h
    have hreset : s.keptWord k = resetWord s.s64 k := by
      by_cases hrow : (regRow s.s64 k).isSome
      · exact State.keptWord_of_reset (by rw [State.word, tget, tfind_eq_none_of_not_mem (fun hm => h ⟨hm, hrow⟩)]; rfl)
      · exact State.keptWord_of_keepMask_zero (by simp [keepMask, Option.not_isSome_iff_eq_none.mp hrow])
    rw [hreset]; rfl

/-! ### A Daybook entry (R298) -/

/-- The first word of an entry in the layout of DBK_ENT_INFO. -/
def entryWord (outcome step cause start detail : Nat) : Word :=
  BitVec.ofNat 32 (2 ^ 31 + outcome * 2 ^ 28 + step * 2 ^ 24 + cause * 2 ^ 16 + start * 2 ^ 8 + detail)

/-- The fields of entry `n` are those that were put into its word. -/
theorem State.entry_fields {t : State} {n outcome step cause start detail : Nat}
    (h : t.word (DBK_ENT_INFO.word.off + 8 * n) = entryWord outcome step cause start detail)
    (ho : outcome < 8) (hs : step < 16) (hc : cause < 256) (hst : start < 256) (hd : detail < 256) :
    t.flagI DBK_ENT_INFO.VALID n = true ∧ t.rdI DBK_ENT_INFO.OUTCOME n = outcome ∧ t.rdI DBK_ENT_INFO.STEP n = step ∧
      t.rdI DBK_ENT_INFO.CAUSE n = cause ∧ t.rdI DBK_ENT_INFO.DETAIL n = detail := by
  have hget : ∀ lo w, lo + w ≤ 32 → t.rdI ⟨0x1100, 8, lo, w⟩ n =
      (2 ^ 31 + outcome * 2 ^ 28 + step * 2 ^ 24 + cause * 2 ^ 16 + start * 2 ^ 8 + detail) / 2 ^ lo % 2 ^ w := by
    intro lo w hw
    rw [State.rdI, h, entryWord, fieldGet_ofNat _ _ hw]
  have hvalid : t.rdI DBK_ENT_INFO.VALID n = 1 := (hget 31 1 (by omega)).trans (by omega)
  exact ⟨by simp [State.flagI, hvalid], (hget 28 3 (by omega)).trans (by omega), (hget 24 4 (by omega)).trans (by omega),
    (hget 16 8 (by omega)).trans (by omega), (hget 0 8 (by omega)).trans (by omega)⟩

/-- An entry while a place is free. -/
theorem State.daybook_eq_of_lt {s : State} (outcome step cause detail : Nat) (h : s.rd DBK_STATUS.COUNT < 64) :
    s.daybook outcome step cause detail =
      (((s.setWord (DBK_ENT_INFO.word.off + 8 * s.rd DBK_STATUS.COUNT) (entryWord outcome step cause (s.rd DBK_STATUS.STARTS) detail)).wrI
        DBK_ENT_TIME.US (s.rd DBK_STATUS.COUNT) ((s.now - s.start.t0) / 1000)).wr DBK_STATUS.COUNT (s.rd DBK_STATUS.COUNT + 1)).setFlag
          DBK_STATUS.FULL (s.rd DBK_STATUS.COUNT + 1 = 64) := if_neg (by omega)

/-- An entry once all places are in use. -/
theorem State.daybook_eq_of_ge {s : State} (outcome step cause detail : Nat) (h : 64 ≤ s.rd DBK_STATUS.COUNT) :
    s.daybook outcome step cause detail = (s.setFlag DBK_STATUS.FULL true).bump DBK_STATUS.LOST := if_pos h

/-- An entry changes DBK_STATUS and the two words of its place alone. -/
theorem State.word_daybook_other (outcome step cause detail : Nat) {k : Nat} (hk : k ≠ DBK_STATUS.word.off)
    (hinfo : k ≠ DBK_ENT_INFO.word.off + 8 * s.rd DBK_STATUS.COUNT) (htime : k ≠ DBK_ENT_TIME.word.off + 8 * s.rd DBK_STATUS.COUNT) :
    (s.daybook outcome step cause detail).word k = s.word k := by
  by_cases h : s.rd DBK_STATUS.COUNT < 64
  · rw [State.daybook_eq_of_lt _ _ _ _ h, State.word_setFlag, if_neg hk, State.word_wr, if_neg hk, State.word_wrI, if_neg htime,
      State.word_setWord, if_neg hinfo]
  · rw [State.daybook_eq_of_ge _ _ _ _ (by omega), State.word_bump, if_neg hk, State.word_setFlag, if_neg hk]

/-- An entry leaves the entries before it. -/
theorem State.word_daybook_earlier (outcome step cause detail : Nat) {j : Nat} (hj : j < s.rd DBK_STATUS.COUNT) :
    (s.daybook outcome step cause detail).word (DBK_ENT_INFO.word.off + 8 * j) = s.word (DBK_ENT_INFO.word.off + 8 * j) :=
  s.word_daybook_other _ _ _ _ (by simp; omega) (by simp; omega) (by simp; omega)

/-- While a place is free the entry takes it. -/
theorem State.word_daybook_entry (outcome step cause detail : Nat) (h : s.rd DBK_STATUS.COUNT < 64) :
    (s.daybook outcome step cause detail).word (DBK_ENT_INFO.word.off + 8 * s.rd DBK_STATUS.COUNT) =
      entryWord outcome step cause (s.rd DBK_STATUS.STARTS) detail := by
  have hk : DBK_ENT_INFO.word.off + 8 * s.rd DBK_STATUS.COUNT ≠ DBK_STATUS.word.off := by simp; omega
  have htime : DBK_ENT_INFO.word.off + 8 * s.rd DBK_STATUS.COUNT ≠ DBK_ENT_TIME.word.off + 8 * s.rd DBK_STATUS.COUNT := by simp
  rw [State.daybook_eq_of_lt _ _ _ _ h, State.word_setFlag, if_neg hk, State.word_wr, if_neg hk, State.word_wrI, if_neg htime,
    State.word_setWord, if_pos rfl]

/-- While a place is free COUNT rises by one. -/
theorem State.daybook_count (outcome step cause detail : Nat) (h : s.rd DBK_STATUS.COUNT < 64) :
    (s.daybook outcome step cause detail).rd DBK_STATUS.COUNT = s.rd DBK_STATUS.COUNT + 1 := by
  rw [State.daybook_eq_of_lt _ _ _ _ h]
  refine (State.rdI_wrI_field _ _ _ 0 0 _ (by simp)).trans ?_
  refine (State.rdI_wrI_same _ _ 0 _ (by simp)).trans ?_
  exact Nat.mod_eq_of_lt (by simp; omega)

/-- Once all places are in use COUNT stays. -/
theorem State.daybook_count_full (outcome step cause detail : Nat) (h : 64 ≤ s.rd DBK_STATUS.COUNT) :
    (s.daybook outcome step cause detail).rd DBK_STATUS.COUNT = s.rd DBK_STATUS.COUNT := by
  rw [State.daybook_eq_of_ge _ _ _ _ h]
  exact (State.rdI_wrI_field _ _ _ 0 0 _ (by simp)).trans (State.rdI_wrI_field _ _ _ 0 0 _ (by simp))

theorem State.daybook_count_ge (outcome step cause detail : Nat) :
    s.rd DBK_STATUS.COUNT ≤ (s.daybook outcome step cause detail).rd DBK_STATUS.COUNT := by
  by_cases h : s.rd DBK_STATUS.COUNT < 64
  · rw [State.daybook_count s _ _ _ _ h]; omega
  · rw [State.daybook_count_full s _ _ _ _ (by omega)]

/-! ### Step 0 (R280) -/

/-- The outcome that step 0 writes: FAIL at a wrong parity, otherwise ALT after a change of coordinates. -/
def zeroOutcome (ok alt : Bool) : Nat := if ok = false then ocFail else if alt then ocAlt else ocPass

/-- The cause that step 0 writes: STRAP_PARITY, STRAP_CHANGED or NONE. -/
def zeroCause (ok alt : Bool) : Nat := if ok = false then 0x01 else if alt then 0x02 else 0

/-- The record of the coordinates is no part of a Daybook entry. -/
theorem State.word_daybook_coord (c : Option (BitVec 24)) (outcome step cause detail k : Nat) :
    (({ s with start := { s.start with coord := c } } : State).daybook outcome step cause detail).word k =
      (s.daybook outcome step cause detail).word k := by
  by_cases h : 64 ≤ s.rd DBK_STATUS.COUNT
  · have h' : 64 ≤ ({ s with start := { s.start with coord := c } } : State).rd DBK_STATUS.COUNT := h
    simp only [State.daybook, if_pos h, if_pos h']; rfl
  · have h' : ¬ 64 ≤ ({ s with start := { s.start with coord := c } } : State).rd DBK_STATUS.COUNT := h
    simp only [State.daybook, if_neg h, if_neg h']; rfl

/-- Outside SLC_START, step 0 leaves the words that its one Daybook entry leaves. -/
theorem State.word_stepZero (alt : Bool) {k : Nat} (hk : k ≠ SLC_START.word.off) : (s.stepZero alt).word k =
    (s.daybook (zeroOutcome (s.flag SLC_ID.STRAP_OK) alt) 0 (zeroCause (s.flag SLC_ID.STRAP_OK) alt)).word k := by
  unfold State.stepZero
  cases hok : s.flag SLC_ID.STRAP_OK with
  | false =>
    show (State.wr _ SLC_START.STATE 3).word k = _
    rw [State.word_wr, if_neg hk]
    rfl
  | true =>
    show (State.wr _ SLC_START.STEP 1).word k = _
    rw [State.word_wr, if_neg hk]
    cases alt <;> exact s.word_daybook_coord _ _ _ _ _ _

end Sys2Proof.Machine
end

section
/-! SUPPORT. A warm reset as the Daybook sees it: the state that the reset leaves before the new start writes its first entry, then
INTERRUPTED, then step 0's entry (R279, R280, R302). -/

namespace Sys2Proof.Machine

variable (s : State) (p : Straps)

/-! ### The state before the first entry -/

/-- A warm reset counts the interruption of a step that does not wait on the driver (R300). -/
def State.interruptCounted (s : State) : State :=
  if s.inStep && !s.waitsDriver then s.stepFailed (s.rd SLC_START.STEP) else s

/-- The power-up of a warm reset: the night-latch state is kept, everything else takes its Reset value (R279). -/
def State.rearmed (s : State) : State :=
  { s.unpowered with
    regs := s.keptRegs
    stk := { Stacks.init with beats := s.stk.beats }
    ldg := { Ledger.init with master := s.ldg.master }
    start := { Start.init with coord := s.start.coord, t0 := s.now } }

/-- The new start is counted and its straps are latched. -/
def State.restarted (s : State) (p : Straps) : State :=
  ((s.interruptCounted.rearmed.wrapAdd DBK_STATUS.STARTS).setFlag SLC_START.WARM true).latchStraps p

/-- The straps are good and name other coordinates than the last start recorded (R280). -/
def State.coordsChanged (s : State) (p : Straps) : Bool :=
  strapOk p && s.start.coord != some (strapCoord p) && s.start.coord.isSome

/-- The state of a warm reset before the new start writes its first entry. -/
def State.beforeEntries (s : State) (p : Straps) : State :=
  if s.coordsChanged p then (s.restarted p).strapsChanged else s.restarted p

theorem State.interruptCounted_s64 : s.interruptCounted.s64 = s.s64 := by
  unfold State.interruptCounted State.stepFailed
  split
  · split <;> simp
  · rfl

theorem State.interruptCounted_start : s.interruptCounted.start = s.start := by
  unfold State.interruptCounted State.stepFailed
  split
  · split <;> simp
  · rfl

theorem State.word_interruptCounted {k : Nat} (hk : k ≠ DBK_FAILS.word.off) : s.interruptCounted.word k = s.word k := by
  unfold State.interruptCounted State.stepFailed
  split
  · split
    · exact (State.word_bump _ _ _ _).trans (if_neg hk)
    · rfl
  · rfl

theorem State.word_rearmed (k : Nat) : s.rearmed.word k = s.keptWord k := s.tget_keptRegs k

/-- Latching the straps changes SLC_ID and SLC_LIVE alone. -/
theorem State.word_latchStraps_other {k : Nat} (hid : k ≠ SLC_ID.word.off) (hlive : k ≠ SLC_LIVE.word.off) :
    (s.latchStraps p).word k = s.word k := by
  unfold State.latchStraps
  extract_lets pins u v
  rw [State.word_wr, if_neg hlive, State.word_setFlag, if_neg hid, State.word_wr, if_neg hid]
  rfl

theorem State.latchStraps_strapOk : (s.latchStraps p).flag SLC_ID.STRAP_OK = strapOk p := by
  unfold State.latchStraps State.flag
  extract_lets pins u v
  calc ((v.wr SLC_LIVE.SELF (p.half.toNat * 4 + p.slice.toNat)).rdI SLC_ID.STRAP_OK 0 != 0)
      = (v.rdI SLC_ID.STRAP_OK 0 != 0) := congrArg (· != 0) (State.rdI_wrI_other _ _ _ 0 0 _ (by simp))
    _ = ((strapOk p).toNat % 2 ^ 1 != 0) :=
      congrArg (· != 0) (State.rdI_wrI_same (u.wr SLC_ID.COORD (strapCoord p).toNat) SLC_ID.STRAP_OK 0 _ (by decide))
    _ = strapOk p := by cases strapOk p <;> rfl

/-- Outside the registers that a start writes before its first entry, a warm reset leaves the kept word. -/
theorem State.word_restarted {k : Nat} (hid : k ≠ SLC_ID.word.off) (hlive : k ≠ SLC_LIVE.word.off) (hstart : k ≠ SLC_START.word.off)
    (hstatus : k ≠ DBK_STATUS.word.off) (hfails : k ≠ DBK_FAILS.word.off) : (s.restarted p).word k = s.keptWord k := by
  rw [State.restarted, State.word_latchStraps_other _ _ hid hlive, State.word_setFlag, if_neg hstart, State.word_wrapAdd, if_neg hstatus,
    State.word_rearmed, State.keptWord, State.keptWord, State.word_interruptCounted _ hfails, State.interruptCounted_s64]

theorem State.restarted_start : (s.restarted p).start = { Start.init with coord := s.start.coord, t0 := s.interruptCounted.now } := by
  simp [State.restarted, State.latchStraps, State.rearmed, State.interruptCounted_start]

theorem keepMask_status (s64 : Bool) : keepMask s64 DBK_STATUS.word.off = BitVec.allOnes 32 := by cases s64 <;> decide

/-- Counting the start leaves the number of entries. -/
theorem State.restarted_count : (s.restarted p).rd DBK_STATUS.COUNT = s.rd DBK_STATUS.COUNT := by
  have hstatus : DBK_STATUS.word.off ≠ DBK_FAILS.word.off := by decide
  have hkept : s.interruptCounted.rearmed.word DBK_STATUS.word.off = s.word DBK_STATUS.word.off := by
    rw [State.word_rearmed, State.keptWord_of_keepMask_allOnes (keepMask_status _), State.word_interruptCounted _ hstatus]
  calc (s.restarted p).rd DBK_STATUS.COUNT
      = ((s.interruptCounted.rearmed.wrapAdd DBK_STATUS.STARTS).setFlag SLC_START.WARM true).rd DBK_STATUS.COUNT :=
        State.rdI_congr _ 0 (State.word_latchStraps_other _ _ (by decide) (by decide))
    _ = (s.interruptCounted.rearmed.wrapAdd DBK_STATUS.STARTS).rd DBK_STATUS.COUNT := State.rdI_wrI_other _ _ _ 0 0 _ (by simp)
    _ = s.interruptCounted.rearmed.rd DBK_STATUS.COUNT := State.rdI_wrI_field _ _ _ 0 0 _ (by simp)
    _ = s.rd DBK_STATUS.COUNT := State.rdI_congr _ 0 hkept

/-! ### Changed coordinates -/

theorem State.strapsChanged_status : s.strapsChanged.word DBK_STATUS.word.off = 0 := by
  show (((s.clearRange 0x1004 0x1014).clearRange 0x1100 0x1300).clearRange 0x10000 0x11000).word DBK_STATUS.word.off = 0
  rw [State.word_clearRange, if_neg (by decide), State.word_clearRange, if_neg (by decide), State.word_clearRange, if_pos (by decide)]
  cases s.s64 <;> decide

theorem State.strapsChanged_id : s.strapsChanged.word SLC_ID.word.off = s.word SLC_ID.word.off := by
  show (((s.clearRange 0x1004 0x1014).clearRange 0x1100 0x1300).clearRange 0x10000 0x11000).word SLC_ID.word.off = _
  rw [State.word_clearRange, if_neg (by decide), State.word_clearRange, if_neg (by decide), State.word_clearRange, if_neg (by decide)]

theorem State.beforeEntries_count :
    (s.beforeEntries p).rd DBK_STATUS.COUNT = if s.coordsChanged p then 0 else s.rd DBK_STATUS.COUNT := by
  unfold State.beforeEntries
  split
  · exact congrArg (fieldGet DBK_STATUS.COUNT) (s.restarted p).strapsChanged_status
  · exact s.restarted_count p

theorem State.beforeEntries_strapOk : (s.beforeEntries p).flag SLC_ID.STRAP_OK = strapOk p := by
  have h : (s.restarted p).flag SLC_ID.STRAP_OK = strapOk p := State.latchStraps_strapOk _ p
  unfold State.beforeEntries
  split
  · rw [← h]; exact congrArg (· != 0) (State.rdI_congr _ 0 (s.restarted p).strapsChanged_id)
  · exact h

/-! ### The entries of the new start -/

/-- The state once the interrupted step has its entry. -/
def State.interruptEntered (s : State) (p : Straps) : State :=
  (s.beforeEntries p).daybook ocInterrupted 0 0x90 (s.rd SLC_START.STEP)

theorem State.interruptEntered_strapOk : (s.interruptEntered p).flag SLC_ID.STRAP_OK = strapOk p := by
  rw [← s.beforeEntries_strapOk p]
  exact congrArg (· != 0) (State.rdI_congr _ 0
    (State.word_daybook_other _ _ _ _ _ (by decide) (by simp; omega) (by simp; omega)))

/-- A warm reset during a step writes INTERRUPTED and goes on with step 0. -/
theorem State.warmReset_eq_of_inStep {s : State} (h : s.inStep = true) (p : Straps) :
    s.warmReset p = (s.interruptEntered p).stepZero (s.coordsChanged p) := by
  have hok : (s.restarted p).flag SLC_ID.STRAP_OK = strapOk p := State.latchStraps_strapOk _ p
  have hcoord : (s.restarted p).start.coord = s.start.coord := by rw [State.restarted_start]
  have hchanged : ((s.restarted p).flag SLC_ID.STRAP_OK && (s.restarted p).start.coord != some (strapCoord p)
      && (s.restarted p).start.coord.isSome) = s.coordsChanged p := by rw [hok, hcoord]; rfl
  have hmodel : s.warmReset p = if s.inStep then (s.interruptEntered p).stepZero (s.coordsChanged p)
      else (s.beforeEntries p).stepZero (s.coordsChanged p) := by
    unfold State.interruptEntered State.beforeEntries
    rw [← hchanged]
    exact (apply_ite (fun u => State.stepZero u _) _ _ _)
  rw [hmodel, if_pos h]

/-- Outside SLC_START, a warm reset during a step leaves the words that its two entries leave. -/
theorem State.word_warmReset {s : State} (h : s.inStep = true) (p : Straps) {k : Nat} (hk : k ≠ SLC_START.word.off) :
    (s.warmReset p).word k = ((s.interruptEntered p).daybook (zeroOutcome (strapOk p) (s.coordsChanged p)) 0
      (zeroCause (strapOk p) (s.coordsChanged p))).word k := by
  rw [State.warmReset_eq_of_inStep h, State.word_stepZero _ _ hk, State.interruptEntered_strapOk]

/-- An entry that stands before the two is left as the reset leaves it. -/
theorem State.word_warmReset_earlier {s : State} (h : s.inStep = true) {p : Straps} (hp : s.coordsChanged p = false) {j : Nat}
    (hj : j < s.rd DBK_STATUS.COUNT) :
    (s.warmReset p).word (DBK_ENT_INFO.word.off + 8 * j) = s.keptWord (DBK_ENT_INFO.word.off + 8 * j) := by
  have hcount : (s.beforeEntries p).rd DBK_STATUS.COUNT = s.rd DBK_STATUS.COUNT := by rw [State.beforeEntries_count, hp]; rfl
  have hbefore : s.beforeEntries p = s.restarted p := by rw [State.beforeEntries, hp]; rfl
  have hjb : j < (s.beforeEntries p).rd DBK_STATUS.COUNT := by omega
  have hji : j < (s.interruptEntered p).rd DBK_STATUS.COUNT := Nat.lt_of_lt_of_le hjb (State.daybook_count_ge _ _ _ _ _)
  calc (s.warmReset p).word (DBK_ENT_INFO.word.off + 8 * j)
      = ((s.interruptEntered p).daybook _ 0 _ 0).word (DBK_ENT_INFO.word.off + 8 * j) := State.word_warmReset h p (by simp; omega)
    _ = (s.interruptEntered p).word (DBK_ENT_INFO.word.off + 8 * j) := State.word_daybook_earlier _ _ _ _ _ hji
    _ = (s.beforeEntries p).word (DBK_ENT_INFO.word.off + 8 * j) := State.word_daybook_earlier _ _ _ _ _ hjb
    _ = s.keptWord (DBK_ENT_INFO.word.off + 8 * j) := by
      rw [hbefore]
      exact s.word_restarted p (by simp) (by simp; omega) (by simp; omega) (by simp; omega) (by simp; omega)

end Sys2Proof.Machine
end

section
/-! SUPPORT. R302 while the Daybook counts no more entries than it has: what O60 says of a state holds wherever COUNT is at most 64. -/

namespace Sys2Proof.Machine

variable {s : State} {p : Straps}

/-- A warm reset keeps the first words of all 64 entries whole. -/
theorem keepMask_entry (s64 : Bool) : ∀ j < 64, keepMask s64 (DBK_ENT_INFO.word.off + 8 * j) = BitVec.allOnes 32 := by
  cases s64 <;> decide

/-- The entries before the new start's stay, in every place that the Daybook has. -/
theorem State.warmReset_keeps_entry (h : s.inStep = true) (hp : s.coordsChanged p = false) {j : Nat} (hj : j < s.rd DBK_STATUS.COUNT)
    (hplace : j < 64) : (s.warmReset p).word (DBK_ENT_INFO.word.off + 8 * j) = s.word (DBK_ENT_INFO.word.off + 8 * j) := by
  rw [State.word_warmReset_earlier h hp hj, State.keptWord_of_keepMask_allOnes (keepMask_entry _ j hplace)]

/-- The interrupted step's entry is the first of the new start (R302). -/
theorem State.warmReset_enters_interrupted (h : s.inStep = true) (hn : (s.beforeEntries p).rd DBK_STATUS.COUNT < 64) :
    (s.warmReset p).word (DBK_ENT_INFO.word.off + 8 * (s.beforeEntries p).rd DBK_STATUS.COUNT) =
      entryWord ocInterrupted 0 0x90 ((s.beforeEntries p).rd DBK_STATUS.STARTS) (s.rd SLC_START.STEP) := by
  have hcount : (s.interruptEntered p).rd DBK_STATUS.COUNT = (s.beforeEntries p).rd DBK_STATUS.COUNT + 1 := State.daybook_count _ _ _ _ _ hn
  rw [State.word_warmReset h p (by simp; omega), State.word_daybook_earlier _ _ _ _ _ (by omega)]
  exact State.word_daybook_entry _ _ _ _ _ hn

/-- Step 0's own entry is the second. -/
theorem State.warmReset_enters_stepZero (h : s.inStep = true) (hn : (s.beforeEntries p).rd DBK_STATUS.COUNT < 63) :
    (s.warmReset p).word (DBK_ENT_INFO.word.off + 8 * ((s.beforeEntries p).rd DBK_STATUS.COUNT + 1)) =
      entryWord (zeroOutcome (strapOk p) (s.coordsChanged p)) 0 (zeroCause (strapOk p) (s.coordsChanged p))
        ((s.interruptEntered p).rd DBK_STATUS.STARTS) 0 := by
  have hcount : (s.interruptEntered p).rd DBK_STATUS.COUNT = (s.beforeEntries p).rd DBK_STATUS.COUNT + 1 :=
    State.daybook_count _ _ _ _ _ (by omega)
  rw [State.word_warmReset h p (by simp; omega), ← hcount]
  exact State.word_daybook_entry _ _ _ _ _ (by omega)

/-- Both entries are counted. -/
theorem State.warmReset_count (h : s.inStep = true) (hn : (s.beforeEntries p).rd DBK_STATUS.COUNT < 63) :
    (s.warmReset p).rd DBK_STATUS.COUNT = (s.beforeEntries p).rd DBK_STATUS.COUNT + 2 := by
  have hcount : (s.interruptEntered p).rd DBK_STATUS.COUNT = (s.beforeEntries p).rd DBK_STATUS.COUNT + 1 :=
    State.daybook_count _ _ _ _ _ (by omega)
  have htwo := State.daybook_count (s.interruptEntered p) (zeroOutcome (strapOk p) (s.coordsChanged p)) 0
    (zeroCause (strapOk p) (s.coordsChanged p)) 0 (by omega)
  rw [hcount] at htwo
  exact (State.rdI_congr _ 0 (State.word_warmReset h p (by decide))).trans htwo

theorem State.coordsChanged_iff : s.coordsChanged p = true ↔
    strapOk p = true ∧ s.start.coord.isSome = true ∧ s.start.coord ≠ some (strapCoord p) := by
  simp [State.coordsChanged, and_assoc, and_comm]

theorem zeroOutcome_lt (ok alt : Bool) : zeroOutcome ok alt < 8 := by cases ok <;> cases alt <;> decide
theorem zeroCause_lt (ok alt : Bool) : zeroCause ok alt < 256 := by cases ok <;> cases alt <;> decide

/-- What O60 says of one state and one set of straps. -/
def InterruptionRecorded (s : State) (p : Straps) : Prop :=
  let k := s.rd SLC_START.STEP
  let changed := strapOk p = true ∧ s.start.coord.isSome = true ∧ s.start.coord ≠ some (strapCoord p)
  let n := if changed then 0 else s.rd DBK_STATUS.COUNT
  s.rd SLC_START.STATE = 0 ∨ s.rd SLC_START.STATE = 1 →
  ∃ t, exec (.warmReset p) s = .next t
    ∧ (n < 64 → t.flagI DBK_ENT_INFO.VALID n = true ∧ t.rdI DBK_ENT_INFO.OUTCOME n = ocInterrupted
      ∧ t.rdI DBK_ENT_INFO.CAUSE n = 0x90 ∧ t.rdI DBK_ENT_INFO.DETAIL n = k)
    ∧ (n < 63 → t.flagI DBK_ENT_INFO.VALID (n + 1) = true ∧ t.rdI DBK_ENT_INFO.STEP (n + 1) = 0
      ∧ t.rdI DBK_ENT_INFO.OUTCOME (n + 1) = (if strapOk p = false then ocFail else if changed then ocAlt else ocPass)
      ∧ t.rd DBK_STATUS.COUNT = n + 2)
    ∧ (¬ changed → ∀ j : Nat, j < n → t.word (DBK_ENT_INFO.word.off + 8 * j) = s.word (DBK_ENT_INFO.word.off + 8 * j))

theorem interruptedStepRecorded_iff : Obligations.InterruptedStepRecorded ↔ ∀ s p, InterruptionRecorded s p := Iff.rfl

/-- COUNT past the 64th entry is the one obstacle to O60: up to there a warm reset during a step records it as R302 says. -/
theorem interruptionRecorded_of_count_le (hle : s.rd DBK_STATUS.COUNT ≤ 64) : InterruptionRecorded s p := by
  unfold InterruptionRecorded
  intro k changed n hstate
  have hbegin : ∀ f : Field, pmuBlock (f.off + f.stride * 0) = false → s.begin.rd f = s.rd f := fun f hf => s.begin_rdI f 0 hf
  have hstep : s.begin.rd SLC_START.STEP = k := hbegin _ rfl
  have hin : s.begin.inStep = true := by
    rw [State.inStep, hbegin SLC_START.STATE rfl]
    simpa using hstate
  have hchanged : s.begin.coordsChanged p = true ↔ changed := by rw [State.coordsChanged_iff, State.begin_start]
  have hn : (s.begin.beforeEntries p).rd DBK_STATUS.COUNT = n := by
    rw [State.beforeEntries_count, hbegin DBK_STATUS.COUNT rfl]
    exact if_congr hchanged rfl rfl
  refine ⟨(s.begin.warmReset p).settle, rfl, fun hfree => ?_, fun hfree => ?_, fun hsame j hj => ?_⟩
  · have hword := State.warmReset_enters_interrupted hin (p := p) (by omega)
    rw [hn, hstep] at hword
    obtain ⟨hv, ho, -, hc, hd⟩ := State.entry_fields (t := (s.begin.warmReset p).settle) hword (by decide) (by decide) (by decide)
      (State.rdI_lt _ _ 0) (Nat.lt_trans (State.rdI_lt s SLC_START.STEP 0) (by decide))
    exact ⟨hv, ho, hc, hd⟩
  · have hword := State.warmReset_enters_stepZero hin (p := p) (by omega)
    rw [hn] at hword
    obtain ⟨hv, ho, hs, -, -⟩ := State.entry_fields (t := (s.begin.warmReset p).settle) hword (zeroOutcome_lt _ _) (by decide)
      (zeroCause_lt _ _) (State.rdI_lt _ _ 0) (by decide)
    have hcount : (s.begin.warmReset p).settle.rd DBK_STATUS.COUNT = n + 2 := by
      rw [← hn]; exact State.warmReset_count hin (by omega)
    refine ⟨hv, hs, ho.trans ?_, hcount⟩
    exact if_congr Iff.rfl rfl (if_congr hchanged rfl rfl)
  · have hkeep : s.begin.coordsChanged p = false := Bool.eq_false_iff.mpr (fun hc => hsame (hchanged.mp hc))
    have hcount : n = s.rd DBK_STATUS.COUNT := if_neg hsame
    have hplace : j < 64 := by omega
    rw [State.word_settle, State.warmReset_keeps_entry hin hkeep (by rw [hbegin DBK_STATUS.COUNT rfl]; omega) hplace]
    exact s.word_begin _ (by simp [pmuBlock]; omega)

end Sys2Proof.Machine
end

section
/-! SUPPORT. O60 where COUNT runs past the last entry: the statement asks a warm reset to keep a word that belongs to no register. -/

namespace Sys2Proof.Machine

/-- COUNT is 65, one more than the Daybook has entries, and a word stands at 0x1300, where the 65th would be and no register is. -/
def countPastTheEntries : State := { State.reset with regs := [(0x1004, 0x41000000), (0x1300, 1)] }

/-- Refutes O60: its last clause speaks of every place below COUNT, whose seven bits reach beyond the 64 entries of R298. With COUNT at 65
it speaks of the word behind the last entry, which belongs to no register, so that a warm reset clears it. Where COUNT is at most 64 what
O60 says holds (`interruptionRecorded_of_count_le`). -/
theorem not_interruptedStepRecorded : ¬ Obligations.InterruptedStepRecorded := by
  intro hall
  have hin : countPastTheEntries.begin.inStep = true := by decide
  have hsame : countPastTheEntries.begin.coordsChanged State.reset.pins.straps = false := by decide
  obtain ⟨t, ht, -, -, hkept⟩ := hall countPastTheEntries State.reset.pins.straps (Or.inl (by decide))
  obtain rfl : (countPastTheEntries.begin.warmReset State.reset.pins.straps).settle = t := Host.Outcome.next.inj ht
  have hcleared : (countPastTheEntries.begin.warmReset State.reset.pins.straps).word (DBK_ENT_INFO.word.off + 8 * 64) = 0 := by
    rw [State.word_warmReset_earlier hin hsame (by decide)]
    decide
  have hstays := hkept (by decide) 64 (by decide)
  rw [State.word_settle, hcleared] at hstays
  exact absurd hstays (by decide)

end Sys2Proof.Machine
end

section
/-! SUPPORT. What holds of a step whatever its command: it is the command's meaning, every meaning settles the level outputs last (R323,
R365, R388, R415), and reset leaves the Reset values (R12). -/

namespace Sys2Proof.Machine

/-- Every command ends by settling the level outputs. -/
theorem exec_settles (c : Instr) (s : State) : ∃ u : State, exec c s = .next u.settle := by
  cases c <;> exact ⟨_, rfl⟩

/-- So does every step, a front cycle on an empty queue among them. -/
theorem step_settles (s : State) : ∃ u : State, step s = .next u.settle := by
  unfold step
  split
  · exact ⟨s.idleStep, rfl⟩
  · exact exec_settles _ _

/-- Settles O3: whatever a step does, it ends in a settled state. -/
theorem outputsFollowEveryStep : Obligations.OutputsFollowEveryStep := by
  intro s t _ hstep
  obtain ⟨u, hu⟩ := step_settles s
  obtain rfl : u.settle = t := Host.Outcome.next.inj (hu.symm.trans hstep)
  exact u.settle_outputs

/-- Settles O4. -/
theorem outputsFollowAtReset : Obligations.OutputsFollowAtReset := ⟨by decide, by decide, by decide⟩

/-- Settles O1: a step on a queue that is not empty is its first command's meaning. -/
theorem stepRunsFrontCommand : Obligations.StepRunsFrontCommand := by
  intro s c rest h
  rw [step, h]

/-- The multipliers of the scale table have one Reset value. -/
theorem resetWord_scaleMul : ∀ n < 256, resetWord false (LDG_SCALE_MUL.MUL.off + LDG_SCALE_MUL.MUL.stride * n) = 0x3F800000#32 := by
  have hall : ∀ i < 16, ∀ j < 16, resetWord false (0x10004 + 16 * (16 * i + j)) = 0x3F800000#32 := by decide
  intro n hn
  have h := hall (n / 16) (by omega) (n % 16) (by omega)
  rwa [Nat.div_add_mod] at h

/-- Settles O2: after reset no register word is listed, so that each reads its Reset value. -/
theorem resetHoldsResetValues : Obligations.ResetHoldsResetValues :=
  ⟨fun _ => rfl, rfl, rfl, rfl, rfl, fun n hn => congrArg (fieldGet LDG_SCALE_MUL.MUL) (resetWord_scaleMul n hn), fun _ _ => rfl,
    rfl, rfl, rfl, rfl, rfl, rfl, rfl⟩

end Sys2Proof.Machine
end

section
/-! SUPPORT. Every named write goes where REGISTER_WRITE goes at its register (R425, R426). -/

namespace Sys2Proof.Machine

/-! ### Listed offsets -/

/-- An offset that a row of the register map covers is listed. -/
theorem regRow_ne_none {b : Bool} {off : Nat} {r : RegRow} (hr : r ∈ regRows) (hc : r.covers b off = true)
    (h : s64Reserved off = false) : regRow b off ≠ none := by
  simp only [regRow, h, Bool.and_false, if_neg Bool.false_ne_true]
  exact fun hn => absurd hc (List.find?_eq_none.mp hn r hr)

/-- The offsets of the registers that stand alone and have a write command of their own. -/
def namedOffs : List Nat :=
  [SLC_FEAT.word.off, SLC_START_CTL.word.off, SLC_LIVE.word.off, SLC_HASH_PA_LO.word.off, SLC_HASH_PA_HI.word.off, DBK_CTL.word.off,
    PWR_CMD.word.off, PWR_RAMP.word.off, STK_RETIRE.word.off, STK_CAL_GRANT.word.off, ALT_ADJUST.word.off, SHT_RSH_CTL.word.off,
    SHT_RSH_OP.word.off, PFT_CTL.word.off, PFT_DEGREE.word.off, CAT_CTL.word.off, ORD_CTL.word.off, ORD_WIN_INV.word.off,
    LDG_CTL.word.off, LDG_ROW_DRAIN.word.off, POR_CTL.word.off, TCL_CTL.word.off, WIN_CTL.word.off, MIR_CTL.word.off, MIR_RATE.word.off,
    MIR_SEAM.word.off, MIR_RESTRIPE.word.off, MIR_LOSS_CTL.word.off, ERR_LOG_TAIL.word.off, ERR_LOG_SEL.word.off, PMU_GCTL.word.off,
    CUR_IMG_CTL.word.off, CUR_IMG_DATA.word.off, CUR_FW_CTL.word.off, CUR_FW_ATTEST.word.off, CUR_WDT_CTL.word.off,
    CUR_WDT_STATUS.word.off]

theorem regRow_named : ∀ b : Bool, ∀ off ∈ namedOffs, regRow b off ≠ none := by decide

/-! ### The four parts of the window -/

section
variable (u : State) (m : MgWrite) {off : Nat} (hrow : regRow u.s64 off ≠ none)
include hrow

theorem State.writeReg_eq_writeLow (h : off < 0xC000) : u.writeReg off m = u.writeLow off m := by
  have hsram : ¬ 0x40000 ≤ off := by omega
  have hmbx : ¬ 0x30000 ≤ off := by omega
  simp [State.writeReg, hrow, hsram, hmbx, h]

theorem State.writeReg_eq_writeLdg (hlo : 0xC000 ≤ off) (h : off < 0x20000) : u.writeReg off m = u.writeLdg off m := by
  have hsram : ¬ 0x40000 ≤ off := by omega
  have hmbx : ¬ 0x30000 ≤ off := by omega
  simp [State.writeReg, hrow, hsram, hmbx, h, Nat.not_lt.mpr hlo]

theorem State.writeReg_eq_writeMid (hlo : 0x20000 ≤ off) (h : off < 0x27000) : u.writeReg off m = u.writeMid off m := by
  have hsram : ¬ 0x40000 ≤ off := by omega
  have hmbx : ¬ 0x30000 ≤ off := by omega
  have hldg : ¬ off < 0xC000 := by omega
  simp [State.writeReg, hrow, hsram, hmbx, h, hldg, Nat.not_lt.mpr hlo]

theorem State.writeReg_eq_writeHigh (hlo : 0x27000 ≤ off) (h : off < 0x40000) (hmbx : ¬ (0x30000 ≤ off ∧ off < 0x31000)) :
    u.writeReg off m = u.writeHigh off m := by
  have hsram : ¬ 0x40000 ≤ off := by omega
  have hlow : ¬ off < 0xC000 := by omega
  have hldg : ¬ off < 0x20000 := by omega
  have hmid : ¬ off < 0x27000 := by omega
  simp [State.writeReg, hrow, hsram, hlow, hldg, hmid]
  exact fun ha hb => absurd ⟨ha, hb⟩ hmbx

end

/-! ### Arrays of registers -/

section
variable (u : State) (m : MgWrite)

theorem State.writeReg_bindCtl (n : BitVec 5) : u.writeReg (LDG_BIND_CTL.word.off + 16 * n.toNat) m = u.writeBindCtl n.toNat m := by
  have hrow : regRow u.s64 (LDG_BIND_CTL.word.off + 16 * n.toNat) ≠ none :=
    regRow_ne_none (r := ⟨0x0C10C, 32, 32, 16, 0xE7F00FFF, 0x0, 0x0, 0x0, 0x0⟩) (by decide) (by simp [RegRow.covers]; omega)
      (by simp [s64Reserved]; omega)
  have hn : n.toNat < 32 := n.isLt
  have hat : (0xC10C + 16 * n.toNat - 0xC100) / 16 = n.toNat := by omega
  rw [u.writeReg_eq_writeLdg m hrow (by simp; omega) (by simp; omega), State.writeLdg, if_neg (by simp; omega), if_neg (by simp; omega), if_neg (by simp; omega),
    if_pos (by simp; omega), if_pos (by simp), hat]

theorem State.writeReg_scaleCtl (n : BitVec 8) : u.writeReg (LDG_SCALE_CTL.word.off + 16 * n.toNat) m = u.writeScale n.toNat m := by
  have hrow : regRow u.s64 (LDG_SCALE_CTL.word.off + 16 * n.toNat) ≠ none :=
    regRow_ne_none (r := ⟨0x10000, 256, 256, 16, 0xFF000000, 0x0, 0x0, 0x0, 0xFF00FFFF⟩) (by decide) (by simp [RegRow.covers]; omega)
      (by simp [s64Reserved]; omega)
  have hn : n.toNat < 256 := n.isLt
  have hat : (0x10000 + 16 * n.toNat - 0x10000) / 16 = n.toNat := by omega
  rw [u.writeReg_eq_writeLdg m hrow (by simp; omega) (by simp; omega), State.writeLdg, if_neg (by simp; omega), if_neg (by simp; omega), if_neg (by simp; omega),
    if_neg (by simp; omega), if_pos (by simp; omega), hat]

theorem State.writeReg_porCh (n : BitVec 4) : u.writeReg (POR_CH_CTL.word.off + 64 * n.toNat) m = u.writePorCh n.toNat m := by
  have hrow : regRow u.s64 (POR_CH_CTL.word.off + 64 * n.toNat) ≠ none :=
    regRow_ne_none (r := ⟨0x20100, 16, 16, 64, 0x87FF0000, 0x10000000, 0x8000000, 0x0, 0x0⟩) (by decide)
      (by simp [RegRow.covers]; omega) (by simp [s64Reserved]; omega)
  have hn : n.toNat < 16 := n.isLt
  have hat : (0x20100 + 64 * n.toNat - 0x20100) / 64 = n.toNat := by omega
  rw [u.writeReg_eq_writeMid m hrow (by simp; omega) (by simp; omega), State.writeMid, if_neg (by simp; omega), if_pos (by simp; omega),
    if_pos (by simp), hat]

theorem State.writeReg_mirLdg (n : BitVec 5) : u.writeReg (MIR_LDG.word.off + 4 * n.toNat) m = u.writeMirLdg n.toNat m := by
  have hrow : regRow u.s64 (MIR_LDG.word.off + 4 * n.toNat) ≠ none :=
    regRow_ne_none (r := ⟨0x26100, 32, 32, 4, 0xC000001F, 0x0, 0x0, 0x0, 0x0⟩) (by decide) (by simp [RegRow.covers]; omega)
      (by simp [s64Reserved]; omega)
  have hn : n.toNat < 32 := n.isLt
  have hat : (0x26100 + 4 * n.toNat - 0x26100) / 4 = n.toNat := by omega
  rw [u.writeReg_eq_writeMid m hrow (by simp; omega) (by simp; omega), State.writeMid, if_neg (by simp; omega), if_neg (by simp; omega),
    if_neg (by simp; omega), if_neg (by simp; omega), if_neg (by simp; omega), if_neg (by simp; omega), if_neg (by simp; omega), if_neg (by simp; omega),
    if_neg (by simp; omega), if_neg (by simp; omega), if_neg (by simp; omega), if_pos (by simp; omega), hat]

theorem State.writeReg_chnCtl (n : BitVec 4) : u.writeReg (CHN_CTX_CTL.word.off + 32 * n.toNat) m = u.writeChnCtl n.toNat m := by
  have hrow : regRow u.s64 (CHN_CTX_CTL.word.off + 32 * n.toNat) ≠ none :=
    regRow_ne_none (r := ⟨0x27100, 16, 16, 32, 0x8FFF3F7F, 0x0, 0x0, 0x0, 0x0⟩) (by decide) (by simp [RegRow.covers]; omega)
      (by simp [s64Reserved]; omega)
  have hn : n.toNat < 16 := n.isLt
  have hat : (0x27100 + 32 * n.toNat - 0x27100) / 32 = n.toNat := by omega
  rw [u.writeReg_eq_writeHigh m hrow (by simp; omega) (by simp; omega) (by simp; omega), State.writeHigh, if_pos (by simp; omega), hat]
  exact if_pos (by simp)

/-- The injector registers of a link that the build does not have are reserved: both ways refuse (R369, R425). -/
theorem State.writeReg_injCtl (n : BitVec 3) : u.writeReg (LNK_INJ_CTL.word.off + 32 * n.toNat) m = u.writeInjCtl n.toNat m := by
  have hn : n.toNat < 8 := n.isLt
  by_cases hlink : u.s64 = true ∧ (n.toNat = 2 ∨ n.toNat = 3)
  · obtain ⟨hb, hk⟩ := hlink
    have hrow : regRow u.s64 (LNK_INJ_CTL.word.off + 32 * n.toNat) = none := by
      rw [hb]; rcases hk with hk | hk <;> rw [hk] <;> rfl
    rw [State.writeReg, if_neg (by simp; omega), if_neg (by simp; omega), if_pos (by simp [hrow]), State.writeInjCtl,
      if_pos (by simp [hb, hk])]
  · have hrow : regRow u.s64 (LNK_INJ_CTL.word.off + 32 * n.toNat) ≠ none := by
      have hall : ∀ b : Bool, ∀ k < 8, ¬ (b = true ∧ (k = 2 ∨ k = 3)) → regRow b (LNK_INJ_CTL.word.off + 32 * k) ≠ none := by decide
      exact hall _ _ hn hlink
    have hat : (0x28100 + 32 * n.toNat - 0x28100) / 32 = n.toNat := by omega
    rw [u.writeReg_eq_writeHigh m hrow (by simp; omega) (by simp; omega) (by simp; omega), State.writeHigh, if_neg (by simp; omega),
      if_pos (by simp; omega), hat]

theorem State.writeReg_pmuCnt (n : BitVec 3) (hi : Bool) : u.writeReg (pmuOff n hi) m = u.writePmu (pmuOff n hi) m := by
  have hn : n.toNat < 8 := n.isLt
  have hoff : 0x2A108 ≤ pmuOff n hi ∧ pmuOff n hi < 0x2A208 := by cases hi <;> simp [pmuOff] <;> omega
  have hrow : regRow u.s64 (pmuOff n hi) ≠ none := by
    cases hi
    · exact regRow_ne_none (r := ⟨0x2A108, 8, 8, 32, 0xFFFFFFFF, 0x0, 0x0, 0x0, 0x0⟩) (by decide) (by simp [RegRow.covers, pmuOff]; omega)
        (by simp [s64Reserved, pmuOff]; omega)
    · exact regRow_ne_none (r := ⟨0x2A10C, 8, 8, 32, 0xFFFF, 0x0, 0x0, 0x0, 0x0⟩) (by decide) (by simp [RegRow.covers, pmuOff]; omega)
        (by simp [s64Reserved, pmuOff]; omega)
  rw [u.writeReg_eq_writeHigh m hrow (by omega) (by omega) (by omega), State.writeHigh, if_neg (by simp; omega),
    if_neg (by simp; omega), if_neg (by simp; omega), if_neg (by simp; omega), if_pos (by simp; omega)]

theorem State.writeReg_sram (x : BitVec 18) : u.writeReg (0x40000 + x.toNat) m = u.sramWrite x.toNat m := by
  rw [State.writeReg, if_pos (by simp; omega), Nat.add_sub_cancel_left]

end

/-- Two effects that agree everywhere agree behind the gate. -/
theorem settled_mgWrite_congr {a b : State → State} (h : ∀ u, a u = b u) (s : State) (c : Instr) (off : Nat) (m : MgWrite) :
    settled (s.mgWrite c off m a) = settled (s.mgWrite c off m b) := by
  rw [funext h]

/-- Behind its gate every write command of the table does what REGISTER_WRITE does at its register. -/
theorem exec_of_writeTarget {i : Instr} {off : Nat} {m : MgWrite} (h : writeTarget i = some (off, m)) (hm : m.src ≠ .curator) (s : State) :
    exec i s = settled (s.begin.mgWrite i off m (fun u => u.writeReg off m)) := by
  have hcur : isCurator m.src = false := by cases hs : m.src <;> simp_all [isCurator]
  cases i <;> simp only [writeTarget, reduceCtorEq, Option.some.injEq, Prod.mk.injEq] at h <;> obtain ⟨rfl, rfl⟩ := h
  case bindCommit n m => exact settled_mgWrite_congr (fun u => (u.writeReg_bindCtl m n).symm) _ _ _ _
  case bindRemove n m => exact settled_mgWrite_congr (fun u => (u.writeReg_bindCtl m n).symm) _ _ _ _
  case scaleCommit n m => exact settled_mgWrite_congr (fun u => (u.writeReg_scaleCtl m n).symm) _ _ _ _
  case chainCommit n m => exact settled_mgWrite_congr (fun u => (u.writeReg_chnCtl m n).symm) _ _ _ _
  case chainRemove n m => exact settled_mgWrite_congr (fun u => (u.writeReg_chnCtl m n).symm) _ _ _ _
  case porterStart n m => exact settled_mgWrite_congr (fun u => (u.writeReg_porCh m n).symm) _ _ _ _
  case porterChannelDisable n m => exact settled_mgWrite_congr (fun u => (u.writeReg_porCh m n).symm) _ _ _ _
  case porterChannelEnable n m => exact settled_mgWrite_congr (fun u => (u.writeReg_porCh m n).symm) _ _ _ _
  case porterHaltClear n m => exact settled_mgWrite_congr (fun u => (u.writeReg_porCh m n).symm) _ _ _ _
  case mirLdgWrite n m => exact settled_mgWrite_congr (fun u => (u.writeReg_mirLdg m n).symm) _ _ _ _
  case injectorArm n m => exact settled_mgWrite_congr (fun u => (u.writeReg_injCtl m n).symm) _ _ _ _
  case pmuCounterWrite n hi m => exact settled_mgWrite_congr (fun u => (u.writeReg_pmuCnt m n hi).symm) _ _ _ _
  case curatorSramWrite x m => exact settled_mgWrite_congr (fun u => (u.writeReg_sram m x).symm) _ _ _ _
  case registerWrite x m =>
    show settled (if isCurator m.src then _ else _) = _
    rw [if_neg (by simp [hcur])]
  case mailboxPost m => exact settled_mgWrite_congr (fun u => by simp [State.writeReg]) _ _ _ _
  case mailboxC2hClear m => exact settled_mgWrite_congr (fun u => by simp [State.writeReg]) _ _ _ _
  all_goals
    rename_i m
    refine settled_mgWrite_congr (fun u => ?_) _ _ _ _
    have hrow := regRow_named u.s64
    simp only [namedOffs, List.forall_mem_cons] at hrow
    simp [State.writeReg, State.writeLow, State.writeLdg, State.writeMid, State.writeHigh, hrow]

/-- The register of a write command begins at a word, but for a byte offset of the SRAM. -/
theorem writeTarget_off {i : Instr} {off : Nat} {m : MgWrite} (h : writeTarget i = some (off, m)) :
    off < 2 ^ 20 ∧ (off % 4 = 0 ∨ 0x40000 ≤ off ∧ off < 0x80000) := by
  cases i <;> simp only [writeTarget, reduceCtorEq, Option.some.injEq, Prod.mk.injEq] at h <;> obtain ⟨rfl, rfl⟩ := h
  case pmuCounterWrite n hi m => cases hi <;> simp [pmuOff] <;> omega
  case curatorSramWrite x m => exact ⟨by omega, Or.inr (by omega)⟩
  all_goals simp <;> omega

/-- The SRAM keeps words: two byte offsets of one word are one place. -/
theorem State.sramWrite_congr (u : State) {x y : Nat} (h : x / 4 = y / 4) (m : MgWrite) : u.sramWrite x m = u.sramWrite y m := by
  rw [State.sramWrite, State.sramWrite, h]

/-- A write at the word that holds the offset is the write at the offset. -/
theorem writeReg_wordOf {i : Instr} {off : Nat} {m : MgWrite} (h : writeTarget i = some (off, m)) (u : State) :
    u.writeReg (4 * (off / 4)) m = u.writeReg off m := by
  obtain ⟨-, hword | ⟨hlo, hhi⟩⟩ := writeTarget_off h
  · rw [show 4 * (off / 4) = off by omega]
  · rw [State.writeReg, if_pos (by simp; omega), State.writeReg, if_pos (by simp; omega)]
    exact u.sramWrite_congr (by omega) m

/-- The blocks that RETAIN, OFF_READY and the failed state serve begin and end at words. -/
theorem darkBlock_wordOf (off : Nat) : darkBlock (4 * (off / 4)) = darkBlock off := by
  unfold darkBlock
  congr 1 <;> rw [decide_eq_decide] <;> omega

theorem failedBlock_wordOf (off : Nat) : failedBlock (4 * (off / 4)) = failedBlock off := by
  unfold failedBlock
  congr 1
  · rw [decide_eq_decide]; omega
  · congr 1 <;> rw [decide_eq_decide] <;> omega

/-- For every source but the Curator the gate looks at the offset's block alone. -/
theorem admits_congr {s : State} {a b : Nat} {src : MgSrc} (hd : darkBlock b = darkBlock a) (hf : failedBlock b = failedBlock a)
    (hs : src ≠ .curator) (h : Admits s a src) : Admits s b src := by
  unfold Admits at h ⊢
  rw [hd, hf]
  cases src
  case curator => exact absurd rfl hs
  all_goals exact h

/-- Settles O7: both commands pass the gate, and behind it both write the same register. -/
theorem namedWritesAreRegisterWrites : Obligations.NamedWritesAreRegisterWrites := by
  intro i off m s h hm hadm
  obtain ⟨hlt, -⟩ := writeTarget_off h
  have hat : 4 * (BitVec.ofNat 18 (off / 4)).toNat = 4 * (off / 4) := by
    rw [BitVec.toNat_ofNat, Nat.mod_eq_of_lt (by omega)]
  have hadm' : Admits s (4 * (off / 4)) m.src := 
    admits_congr (darkBlock_wordOf off) (failedBlock_wordOf off) hm hadm
  rw [exec_of_writeTarget h hm, State.mgWrite_admits hadm,
    exec_of_writeTarget (i := .registerWrite _ m) rfl hm, hat, State.mgWrite_admits hadm', writeReg_wordOf h]

/-! ### The gate -/

/-- An answer is the only thing that a command sends which does nothing else. -/
theorem onlyRegs_begin_answer (s : State) (src : MgSrc) (a b : Nat) (d : Word) : OnlyRegs s (s.begin.answer src a b d).settle := by
  apply onlyRegs_settle <;> simp

theorem regsBut_begin_answer (s : State) (src : MgSrc) (a b : Nat) (d : Word) : RegsBut [] s (s.begin.answer src a b d).settle :=
  fun off _ hp => by simp [s.word_begin off hp]

/-- What the gate does with a write of another source than the Curator, from the state a command begins with. -/
theorem State.mgWrite_of_notReady {s : State} {m : MgWrite} (hm : m.src ≠ .curator) (h : s.mgReady = false) (c : Instr) (off : Nat)
    (act : State → State) :
    s.begin.mgWrite c off m act = { s.begin with front := { s.front with mgWait := some c } } := by
  have hcur : isCurator m.src = false := by cases hs : m.src <;> simp_all [isCurator]
  rw [State.mgWrite, if_neg (by simp [hcur]), if_pos (by simp [State.begin_mgReady, h]), State.begin_front]

theorem State.mgWrite_of_parked {s : State} {m : MgWrite} (hm : m.src ≠ .curator) (h : s.mgReady = true) {off : Nat}
    (hp : (s.dark = true ∧ darkBlock off = false) ∨ (s.front.failed = true ∧ failedBlock off = false)) (c : Instr)
    (act : State → State) : s.begin.mgWrite c off m act = s.begin.answer m.src stParked rsnNone := by
  have hcur : isCurator m.src = false := by cases hs : m.src <;> simp_all [isCurator]
  rw [State.mgWrite, if_neg (by simp [hcur]), if_neg (by simp [State.begin_mgReady, h]), State.begin_dark, State.begin_front]
  by_cases hd : s.dark = true ∧ darkBlock off = false
  · rw [if_pos (by simp [hd])]
  · rw [if_neg (by simpa using hd), if_pos (by simpa using hp.resolve_left hd)]

theorem State.mgWrite_of_reserved {s : State} {m : MgWrite} {k : BitVec 3} (hm : m.src = .reserved k) (h : s.mgReady = true) {off : Nat}
    (hd : s.dark = true → darkBlock off = true) (hf : s.front.failed = true → failedBlock off = true) (c : Instr) (act : State → State) :
    s.begin.mgWrite c off m act = s.begin.refuse m.src rsnField := by
  rw [State.mgWrite, if_neg (by simp [hm, isCurator]), if_neg (by simp [State.begin_mgReady, h]), State.begin_dark, State.begin_front,
    if_neg (by simpa using hd), if_neg (by simpa using hf), if_pos (by simp [hm, isReserved])]

/-- Settles O6: a write waits, is PARKED or is refused before anything of its own rule happens. -/
theorem managementWriteGate : Obligations.ManagementWriteGate := by
  intro i off m s h hm
  rw [exec_of_writeTarget h hm]
  refine ⟨fun hready => ?_, fun hready hparked => ?_, fun c hc hready hdark hfailed => ?_⟩
  · rw [State.mgWrite_of_notReady hm hready]
    refine ⟨_, rfl, rfl, s.begin_out, ?_, fun o _ hp => s.word_begin o hp⟩
    apply onlyRegs_settle <;> simp
  · rw [State.mgWrite_of_parked hm hready hparked]
    refine ⟨_, rfl, ?_, onlyRegs_begin_answer .., regsBut_begin_answer s _ _ _ _⟩
    cases hs : m.src <;> simp_all [State.answer]
  · rw [State.mgWrite_of_reserved hc hready hdark hfailed]
    refine ⟨_, rfl, ?_, onlyRegs_begin_answer .., regsBut_begin_answer s _ _ _ _⟩
    simp [State.refuse, State.answer, hc]

end Sys2Proof.Machine
end

section
/-! SUPPORT. Fields after the named operations, for concrete fields: what a write of one field leaves in another (R10, R424). -/

namespace Sys2Proof.Machine

variable (s : State)

@[simp] theorem State.rdI_settle (f : Field) (i : Nat) : s.settle.rdI f i = s.rdI f i := rfl
@[simp] theorem State.rdI_emit (o : Out) (f : Field) (i : Nat) : (s.emit o).rdI f i = s.rdI f i := rfl
@[simp] theorem State.rdI_answer (src : MgSrc) (a b : Nat) (d : Word) (f : Field) (i : Nat) : (s.answer src a b d).rdI f i = s.rdI f i :=
  State.rdI_congr f i (s.word_answer ..)
@[simp] theorem State.rdI_ok (src : MgSrc) (f : Field) (i : Nat) : (s.ok src).rdI f i = s.rdI f i := s.rdI_answer ..
@[simp] theorem State.rdI_refuse (src : MgSrc) (r : Nat) (f : Field) (i : Nat) : (s.refuse src r).rdI f i = s.rdI f i := s.rdI_answer ..
@[simp] theorem State.rd_settle (f : Field) : s.settle.rd f = s.rd f := rfl
@[simp] theorem State.rd_emit (o : Out) (f : Field) : (s.emit o).rd f = s.rd f := rfl
@[simp] theorem State.rd_ok (src : MgSrc) (f : Field) : (s.ok src).rd f = s.rd f := s.rdI_ok ..
@[simp] theorem State.rd_refuse (src : MgSrc) (r : Nat) (f : Field) : (s.refuse src r).rd f = s.rd f := s.rdI_refuse ..

theorem State.flag_eq (f : Field) : s.flag f = (s.rd f != 0) := rfl
theorem State.begin_rd {f : Field} (h : pmuBlock f.off = false) : s.begin.rd f = s.rd f := s.begin_rdI f 0 h
theorem State.begin_flag {f : Field} (h : pmuBlock f.off = false) : s.begin.flag f = s.flag f := by
  rw [State.flag_eq, s.begin_rd h, State.flag_eq]

/-- The field written reads as the value written. -/
theorem State.rd_wr_same (f : Field) (v : Nat) (h : f.lo + f.w ≤ 32) : (s.wr f v).rd f = v % 2 ^ f.w := s.rdI_wrI_same f 0 v h
/-- A field of another register keeps its value. -/
theorem State.rd_wr_other {f g : Field} (v : Nat) (h : g.off ≠ f.off) : (s.wr f v).rd g = s.rd g :=
  s.rdI_wrI_other f g 0 0 v (by simpa using h)
/-- A field beside the one written keeps its value. -/
theorem State.rd_wr_field {f g : Field} (v : Nat) (h : g.lo + g.w ≤ f.lo ∨ f.lo + f.w ≤ g.lo) : (s.wr f v).rd g = s.rd g :=
  s.rdI_wrI_field f g 0 0 v h
theorem State.rd_setFlag_same (f : Field) (b : Bool) (h : f.lo + f.w ≤ 32) (hw : f.w = 1) : (s.setFlag f b).rd f = b.toNat := by
  rw [State.setFlag, s.rd_wr_same f _ h, hw]
  cases b <;> rfl
theorem State.rd_setFlag_other {f g : Field} (b : Bool) (h : g.off ≠ f.off) : (s.setFlag f b).rd g = s.rd g := s.rd_wr_other _ h
theorem State.rd_setFlag_field {f g : Field} (b : Bool) (h : g.lo + g.w ≤ f.lo ∨ f.lo + f.w ≤ g.lo) : (s.setFlag f b).rd g = s.rd g :=
  s.rd_wr_field _ h
/-- Each bit of a plain write: the written one where it is RW; elsewhere it stays, unless it is W1C and written 1 (R10). -/
theorem plainWrite_bit (r : RegRow) (old new : Word) (i : Nat) : (plainWrite r old new).getLsbD i =
    if (BitVec.ofNat 32 r.rw).getLsbD i then new.getLsbD i else old.getLsbD i && !((BitVec.ofNat 32 r.w1c).getLsbD i && new.getLsbD i) := by
  by_cases hi : i < 32
  · simp only [plainWrite, BitVec.getLsbD_or, BitVec.getLsbD_and, BitVec.getLsbD_not, hi]
    by_cases hb : (BitVec.ofNat 32 r.rw).getLsbD i = true <;> simp [hb]
  · simp [BitVec.getLsbD_of_ge _ i (Nat.not_lt.mp hi)]

/-- A field whose bits are RW takes the written value, whatever other fields the register has. -/
theorem fieldGet_plainWrite_rw {r : RegRow} {f : Field} (old new : Word)
    (hf : ∀ i < f.w, (BitVec.ofNat 32 r.rw).getLsbD (f.lo + i) = true) : fieldGet f (plainWrite r old new) = fieldGet f new := by
  apply Nat.eq_of_testBit_eq
  intro i
  rw [fieldGet_testBit, fieldGet_testBit, plainWrite_bit]
  by_cases hi : i < f.w
  · rw [if_pos (hf i hi)]
  · simp [hi]

/-- A field whose bits are neither RW nor W1C stays. -/
theorem fieldGet_plainWrite_ro {r : RegRow} {f : Field} (old new : Word)
    (hf : ∀ i < f.w, (BitVec.ofNat 32 r.rw).getLsbD (f.lo + i) = false ∧ (BitVec.ofNat 32 r.w1c).getLsbD (f.lo + i) = false) :
    fieldGet f (plainWrite r old new) = fieldGet f old := by
  apply Nat.eq_of_testBit_eq
  intro i
  rw [fieldGet_testBit, fieldGet_testBit, plainWrite_bit]
  by_cases hi : i < f.w
  · simp [hf i hi]
  · simp [hi]

/-- A W1C field whose bits are all written 1 is cleared. -/
theorem fieldGet_plainWrite_w1c {r : RegRow} {f : Field} (old new : Word)
    (hf : ∀ i < f.w, (BitVec.ofNat 32 r.rw).getLsbD (f.lo + i) = false ∧ (BitVec.ofNat 32 r.w1c).getLsbD (f.lo + i) = true)
    (hn : ∀ i < f.w, new.getLsbD (f.lo + i) = true) : fieldGet f (plainWrite r old new) = 0 := by
  apply Nat.eq_of_testBit_eq
  intro i
  rw [fieldGet_testBit, plainWrite_bit, Nat.zero_testBit]
  by_cases hi : i < f.w
  · simp [hf i hi, hn i hi]
  · simp [hi]

/-- A field of the register that a plain write names. -/
theorem State.rd_plain_same {off : Nat} {r : RegRow} (hr : regRow s.s64 off = some r) (w : Word) (g : Field) (hg : g.off = off)
    (hs : g.stride = 0) : (s.plain off w).rd g = fieldGet g (plainWrite r (s.word off) w) := by
  simp only [State.rd, State.rdI, hg, hs, Nat.zero_mul, Nat.add_zero, s.word_plain_same hr]

theorem State.rd_plain_other {off : Nat} (w : Word) {g : Field} (h : g.off ≠ off) : (s.plain off w).rd g = s.rd g :=
  State.rdI_congr g 0 (s.word_plain_other w (by simpa using h))

end Sys2Proof.Machine
end

section
/-! SUPPORT. The management port's own registers and memories: the hash registers (R41), the Curator's SRAM and mailbox (R291, R430 to
R433), the package time and the test port (R415, R420). -/

namespace Sys2Proof.Machine

/-- A write command that its gate passes begins, does what its rule says, and settles. -/
theorem settled_mgWrite {s : State} {off : Nat} {m : MgWrite} (h : Admits s off m.src) (c : Instr) (act : State → State) :
    settled (s.begin.mgWrite c off m act) = .next (act s.begin).settle := by
  rw [State.mgWrite_admits h]; rfl

/-! ### The hash registers -/

theorem regRow_hashPaLo (b : Bool) : regRow b SLC_HASH_PA_LO.word.off = some ⟨0x00104, 1, 1, 0, 0xFFFFFFFF, 0x0, 0x0, 0x0, 0x0⟩ := by
  cases b <;> rfl
theorem regRow_hashPaHi (b : Bool) : regRow b SLC_HASH_PA_HI.word.off = some ⟨0x00108, 1, 1, 0, 0xFFFFF, 0x0, 0x0, 0x0, 0x0⟩ := by
  cases b <;> rfl

theorem hashPaLoWrite_spec (s : State) (m : MgWrite) (h : Admits s SLC_HASH_PA_LO.word.off m.src) :
    ∃ t, exec (.hashPaLoWrite m) s = .next t ∧ t.word SLC_HASH_PA_LO.word.off = m.word ∧ t.rd SLC_HASH_OUT.VALID = 0
      ∧ t.out = [answerOut m.src stOk rsnNone 0] ∧ OnlyRegs s t
      ∧ RegsBut [SLC_HASH_PA_LO.word.off, SLC_HASH_OUT.word.off] s t := by
  refine ⟨_, settled_mgWrite h _ _, ?_, ?_, ?_, ?_, fun off hoff hp => ?_⟩
  · have hword := s.begin.word_plain_same (regRow_hashPaLo _) m.word
    simpa [State.writeHashLo, State.word_setFlag, plainWrite_whole] using hword
  · simp [State.writeHashLo, State.rd_setFlag_same]
  · simp [State.writeHashLo, State.ok_out]
  · apply onlyRegs_settle <;> simp [State.writeHashLo]
  · simp only [List.mem_cons, List.not_mem_nil, or_false, not_or] at hoff
    simp [State.writeHashLo, State.word_setFlag, State.word_plain_other, hoff, s.word_begin off hp]

/-- The granule of the test address after a write of its high word. -/
def hashTest (s : State) (m : MgWrite) : BitVec 44 :=
  BitVec.ofNat 44 (fieldGet SLC_HASH_PA_HI.PA_HI m.word * 2 ^ 24 + s.rd SLC_HASH_PA_LO.PA_LO / 2 ^ 8)

/-- The plain part of a write of SLC_HASH_PA_HI. -/
theorem State.rd_plain_hashPaHi (u : State) (m : MgWrite) :
    (u.plain SLC_HASH_PA_HI.word.off m.word).rd SLC_HASH_PA_HI.PA_HI = fieldGet SLC_HASH_PA_HI.PA_HI m.word := by
  have hword := u.word_plain_same (regRow_hashPaHi u.s64) m.word
  exact (congrArg (fieldGet SLC_HASH_PA_HI.PA_HI) hword).trans (fieldGet_plainWrite _ _ _ rfl (by decide))

theorem posOf_zero (g : BitVec 44) : posOf 0 g = none := rfl

theorem liveList_ne_nil {mask : Nat} (hlt : mask < 256) (h : mask ≠ 0) : 0 < (liveList mask).length := by
  obtain ⟨i, hi⟩ := Nat.exists_testBit_of_ne_zero h
  have hi8 : i < 8 := by
    by_contra hge
    have hpow : 2 ^ 8 ≤ 2 ^ i := Nat.pow_le_pow_right (by omega) (by omega)
    rw [Nat.testBit_lt_two_pow (by omega)] at hi
    exact absurd hi (by decide)
  exact List.length_pos_of_mem (List.mem_filter.mpr ⟨List.mem_range.mpr hi8, hi⟩)

/-- A live slice is one of eight. -/
theorem lt_of_mem_liveList {mask k : Nat} (h : k ∈ liveList mask) : k < 8 := List.mem_range.mp (List.mem_filter.mp h).1

theorem setOf_lt (g : BitVec 44) : setOf g < 2 ^ 14 := BitVec.isLt _

/-- A word with the fields of SLC_HASH_OUT. -/
def hashWord (valid self p k set : Nat) : Word := BitVec.ofNat 32 (valid * 2 ^ 31 + self * 2 ^ 30 + p * 2 ^ 24 + k * 2 ^ 20 + set)

theorem hashWord_fields {valid self p k set : Nat} (hv : valid < 2) (hs : self < 2) (hp : p < 8) (hk : k < 8) (hset : set < 2 ^ 14) :
    fieldGet SLC_HASH_OUT.VALID (hashWord valid self p k set) = valid ∧ fieldGet SLC_HASH_OUT.IS_SELF (hashWord valid self p k set) = self
      ∧ fieldGet SLC_HASH_OUT.POS (hashWord valid self p k set) = p ∧ fieldGet SLC_HASH_OUT.HOME (hashWord valid self p k set) = k
      ∧ fieldGet SLC_HASH_OUT.SET (hashWord valid self p k set) = set := by
  unfold hashWord
  refine ⟨?_, ?_, ?_, ?_, ?_⟩ <;> rw [fieldGet_ofNat _ _ (by decide)] <;> simp only <;> omega

/-- SLC_HASH_OUT without live slices. -/
theorem State.hashOut_of_no_map {u : State} (h : u.rd SLC_LIVE.MASK = 0) : u.hashOut = hashWord 0 0 0 0 (setOf u.hashGranule) := by
  simp only [State.hashOut, h, posOf_zero, hashWord, Nat.zero_mul, Nat.zero_add]

/-- SLC_HASH_OUT with live slices. -/
theorem State.hashOut_of_map {u : State} {p k : Nat} (hp : (fold u.hashGranule).toNat % (liveList (u.rd SLC_LIVE.MASK)).length = p)
    (hk : (liveList (u.rd SLC_LIVE.MASK))[p]? = some k) :
    u.hashOut = hashWord 1 (decide (k = u.rd SLC_LIVE.SELF)).toNat p k (setOf u.hashGranule) := by
  have hlen : (liveList (u.rd SLC_LIVE.MASK)).length ≠ 0 := fun h0 => by simp [List.length_eq_zero_iff.mp h0] at hk
  have hpos : posOf (u.rd SLC_LIVE.MASK) u.hashGranule = some p := by rw [posOf, if_neg hlen, hp]
  have hhome : homeOf (u.rd SLC_LIVE.MASK) u.hashGranule = some k := by rw [homeOf, hpos]; exact hk
  simp only [State.hashOut, hpos, hhome, hashWord]
  by_cases hself : k = u.rd SLC_LIVE.SELF <;> simp [hself]

theorem hashEvaluate_spec (s : State) (m : MgWrite) (h : Admits s SLC_HASH_PA_HI.word.off m.src) :
    ∃ t, exec (.hashEvaluate m) s = .next t ∧ t.rd SLC_HASH_PA_HI.PA_HI = fieldGet SLC_HASH_PA_HI.PA_HI m.word
      ∧ t.rd SLC_HASH_OUT.SET = setOf (hashTest s m)
      ∧ (s.rd SLC_LIVE.MASK = 0 →
        t.rd SLC_HASH_OUT.VALID = 0 ∧ t.rd SLC_HASH_OUT.IS_SELF = 0 ∧ t.rd SLC_HASH_OUT.POS = 0 ∧ t.rd SLC_HASH_OUT.HOME = 0)
      ∧ (s.rd SLC_LIVE.MASK ≠ 0 → t.rd SLC_HASH_OUT.VALID = 1
        ∧ t.rd SLC_HASH_OUT.POS = (fold (hashTest s m)).toNat % (liveList (s.rd SLC_LIVE.MASK)).length
        ∧ (liveList (s.rd SLC_LIVE.MASK))[(fold (hashTest s m)).toNat % (liveList (s.rd SLC_LIVE.MASK)).length]?
          = some (t.rd SLC_HASH_OUT.HOME)
        ∧ (t.rd SLC_HASH_OUT.IS_SELF = 1 ↔ t.rd SLC_HASH_OUT.HOME = s.rd SLC_LIVE.SELF))
      ∧ t.out = [answerOut m.src stOk rsnNone 0] ∧ OnlyRegs s t
      ∧ RegsBut [SLC_HASH_PA_HI.word.off, SLC_HASH_OUT.word.off] s t := by
  let u := s.begin.plain SLC_HASH_PA_HI.word.off m.word
  have hmask : u.rd SLC_LIVE.MASK = s.rd SLC_LIVE.MASK := (s.begin.rd_plain_other _ (by decide)).trans (s.begin_rd rfl)
  have hself : u.rd SLC_LIVE.SELF = s.rd SLC_LIVE.SELF := (s.begin.rd_plain_other _ (by decide)).trans (s.begin_rd rfl)
  have hlo : u.rd SLC_HASH_PA_LO.PA_LO = s.rd SLC_HASH_PA_LO.PA_LO := (s.begin.rd_plain_other _ (by decide)).trans (s.begin_rd rfl)
  have hg : u.hashGranule = hashTest s m := by rw [State.hashGranule, hashTest, s.begin.rd_plain_hashPaHi, hlo]; rfl
  let t := ((u.setWord SLC_HASH_OUT.word.off u.hashOut).ok m.src).settle
  have hout : ∀ f : Field, f.off = SLC_HASH_OUT.word.off → f.stride = 0 → t.rd f = fieldGet f u.hashOut := fun f hf hs => by
    simp [t, State.rd, State.rdI, State.word_setWord, hf, hs]
  have hnone (h0 : s.rd SLC_LIVE.MASK = 0) : u.hashOut = hashWord 0 0 0 0 (setOf (hashTest s m)) := by
    rw [State.hashOut_of_no_map (hmask.trans h0), hg]
  have hlen (h0 : s.rd SLC_LIVE.MASK ≠ 0) : 0 < (liveList (s.rd SLC_LIVE.MASK)).length := liveList_ne_nil (s.rdI_lt SLC_LIVE.MASK 0) h0
  have hpos (h0 : s.rd SLC_LIVE.MASK ≠ 0) : (fold (hashTest s m)).toNat % (liveList (s.rd SLC_LIVE.MASK)).length < 8 :=
    (Nat.mod_lt _ (hlen h0)).trans_le ((List.length_filter_le _ _).trans (by simp))
  have hsome (h0 : s.rd SLC_LIVE.MASK ≠ 0) : ∃ k, (liveList (s.rd SLC_LIVE.MASK))[(fold (hashTest s m)).toNat %
      (liveList (s.rd SLC_LIVE.MASK)).length]? = some k ∧ k < 8 ∧ u.hashOut = hashWord 1 (decide (k = s.rd SLC_LIVE.SELF)).toNat
        ((fold (hashTest s m)).toNat % (liveList (s.rd SLC_LIVE.MASK)).length) k (setOf (hashTest s m)) := by
    have hk := List.getElem?_eq_getElem (Nat.mod_lt (fold (hashTest s m)).toNat (hlen h0))
    refine ⟨_, hk, lt_of_mem_liveList (List.mem_of_getElem? hk), ?_⟩
    rw [← hself, ← hg]
    exact State.hashOut_of_map (by rw [hmask, hg]) (by rw [hmask, hg]; exact hk)
  refine ⟨t, settled_mgWrite h _ _, ?_, ?_, fun h0 => ?_, fun h0 => ?_, ?_, ?_, fun off hoff hp => ?_⟩
  · rw [← s.begin.rd_plain_hashPaHi m]
    simp [t, u, State.rd, State.rdI, State.word_setWord]
  · rw [hout SLC_HASH_OUT.SET rfl rfl]
    by_cases h0 : s.rd SLC_LIVE.MASK = 0
    · rw [hnone h0]; exact (hashWord_fields (by omega) (by omega) (by omega) (by omega) (setOf_lt _)).2.2.2.2
    · obtain ⟨k, hk, hk8, hform⟩ := hsome h0
      rw [hform]; exact (hashWord_fields (by omega) (Bool.toNat_lt _) (hpos h0) hk8 (setOf_lt _)).2.2.2.2
  · rw [hout SLC_HASH_OUT.VALID rfl rfl, hout SLC_HASH_OUT.IS_SELF rfl rfl, hout SLC_HASH_OUT.POS rfl rfl,
      hout SLC_HASH_OUT.HOME rfl rfl, hnone h0]
    obtain ⟨hv, hs, hp, hk, -⟩ := hashWord_fields (valid := 0) (self := 0) (p := 0) (k := 0) (by decide) (by decide) (by decide) (by decide)
      (setOf_lt (hashTest s m))
    exact ⟨hv, hs, hp, hk⟩
  · rw [hout SLC_HASH_OUT.VALID rfl rfl, hout SLC_HASH_OUT.IS_SELF rfl rfl, hout SLC_HASH_OUT.POS rfl rfl,
      hout SLC_HASH_OUT.HOME rfl rfl]
    obtain ⟨k, hk, hk8, hform⟩ := hsome h0
    obtain ⟨hv, hs, hp, hhome, -⟩ := hashWord_fields (valid := 1) (by decide) (Bool.toNat_lt (decide (k = s.rd SLC_LIVE.SELF))) (hpos h0) hk8
      (setOf_lt (hashTest s m))
    rw [hform, hv, hs, hp, hhome]
    refine ⟨rfl, rfl, hk, ?_⟩
    by_cases hself : k = s.rd SLC_LIVE.SELF <;> simp [hself]
  · simp [t, u, State.ok_out]
  · apply onlyRegs_settle <;> simp [u]
  · simp only [List.mem_cons, List.not_mem_nil, or_false, not_or] at hoff
    simp [t, u, State.word_setWord, State.word_plain_other, hoff, s.word_begin off hp]

/-- Settles O9: both writes as the model makes them, with R36 for the value. -/
theorem hashRegisters : Obligations.HashRegisters :=
  ⟨hashPaLoWrite_spec, hashEvaluate_spec⟩

/-! ### The Curator's SRAM -/

/-- Who may write the SRAM: the driver at stage 3, the firmware from stage 6 on (R291). -/
theorem State.sramWrite_of_may {u : State} {m : MgWrite}
    (h : (m.src ≠ .curator ∧ u.cur.stage = 3) ∨ (m.src = .curator ∧ 6 ≤ u.cur.stage)) (x : Nat) : u.sramWrite x m =
      ({ u with cur := { u.cur with sram := tput 0 u.cur.sram (x / 4) m.word, ecc := tput Ecc.ok u.cur.ecc (x / 4) Ecc.ok } }).ok m.src := by
  have hmay : (if isCurator m.src then decide (6 ≤ u.cur.stage) else decide (u.cur.stage = 3)) = true := by
    cases hs : m.src <;> simp_all [isCurator]
  simp [State.sramWrite, hmay]

theorem State.sramWrite_of_may_not {u : State} {m : MgWrite}
    (h : (m.src ≠ .curator ∧ u.cur.stage ≠ 3) ∨ (m.src = .curator ∧ u.cur.stage < 6)) (x : Nat) :
    u.sramWrite x m = u.refuse m.src rsnField := by
  have hmay : (if isCurator m.src then decide (6 ≤ u.cur.stage) else decide (u.cur.stage = 3)) = false := by
    cases hs : m.src <;> simp_all [isCurator]
  simp [State.sramWrite, hmay]

/-! ### The mailbox -/

theorem regRow_mbxDb (b : Bool) : regRow b CUR_MBX_DB.word.off = some ⟨0x30FF0, 1, 1, 0, 0x3FF, 0x40000000, 0x80000000, 0x0, 0x0⟩ := by
  cases b <;> decide

/-- With firmware that runs, a doorbell write of another source than the Curator is carried out by its own rule. -/
theorem State.writeMbx_db {u : State} {m : MgWrite} (hm : m.src ≠ .curator) (h : u.rd CUR_FW_STATUS.STATE = 3) :
    u.writeMbx CUR_MBX_DB.word.off m = u.writeDb m := by
  have hcur : isCurator m.src = false := by cases hs : m.src <;> simp_all [isCurator]
  have hrow : (regRow u.s64 CUR_MBX_DB.word.off).isNone = false := by rw [regRow_mbxDb]; rfl
  simp [State.writeMbx, hcur, h, hrow]

/-- The doorbell's word after the plain part of a write: H2C_LEN is the written one, a 1 clears C2H_PEND, the rest stays. -/
theorem State.plain_db_fields (u : State) (w : Word) :
    (u.plain CUR_MBX_DB.word.off w).rd CUR_MBX_DB.H2C_LEN = fieldGet CUR_MBX_DB.H2C_LEN w
      ∧ (u.plain CUR_MBX_DB.word.off w).rd CUR_MBX_DB.POST = u.rd CUR_MBX_DB.POST
      ∧ (w.getLsbD 30 = true → (u.plain CUR_MBX_DB.word.off w).rd CUR_MBX_DB.C2H_PEND = 0) := by
  have hrow := regRow_mbxDb u.s64
  refine ⟨?_, ?_, fun h30 => ?_⟩
  · exact (u.rd_plain_same hrow w CUR_MBX_DB.H2C_LEN rfl rfl).trans (fieldGet_plainWrite_rw _ _ (by decide))
  · exact (u.rd_plain_same hrow w CUR_MBX_DB.POST rfl rfl).trans (fieldGet_plainWrite_ro _ _ (by decide))
  · refine (u.rd_plain_same hrow w CUR_MBX_DB.C2H_PEND rfl rfl).trans ?_
    exact fieldGet_plainWrite_w1c _ _ (by decide) (fun i hi => by obtain rfl : i = 0 := Nat.lt_one_iff.mp hi; exact h30)

/-- What a doorbell write does (R431, R432). -/
theorem State.writeDb_refused_len {u : State} {m : MgWrite} (hp : m.word.getLsbD 31 = true)
    (hl : fieldGet CUR_MBX_DB.H2C_LEN m.word = 0 ∨ 512 < fieldGet CUR_MBX_DB.H2C_LEN m.word) : u.writeDb m = u.refuse m.src rsnField := by
  simp [State.writeDb, hp, hl]

theorem State.writeDb_refused_busy {u : State} {m : MgWrite} (hp : m.word.getLsbD 31 = true)
    (hl : 0 < fieldGet CUR_MBX_DB.H2C_LEN m.word) (hl' : fieldGet CUR_MBX_DB.H2C_LEN m.word ≤ 512) (h : u.rd CUR_MBX_DB.POST = 1) :
    u.writeDb m = u.refuse m.src rsnBusy := by
  have hlen : ¬ (fieldGet CUR_MBX_DB.H2C_LEN m.word = 0 ∨ 512 < fieldGet CUR_MBX_DB.H2C_LEN m.word) := by omega
  simp [State.writeDb, hp, hlen, State.flag_eq, h]

theorem State.writeDb_posted {u : State} {m : MgWrite} (hp : m.word.getLsbD 31 = true)
    (hl : 0 < fieldGet CUR_MBX_DB.H2C_LEN m.word) (hl' : fieldGet CUR_MBX_DB.H2C_LEN m.word ≤ 512) (h : u.rd CUR_MBX_DB.POST = 0) :
    u.writeDb m = ((u.plain CUR_MBX_DB.word.off m.word).setFlag CUR_MBX_DB.POST true).ok m.src := by
  have hlen : ¬ (fieldGet CUR_MBX_DB.H2C_LEN m.word = 0 ∨ 512 < fieldGet CUR_MBX_DB.H2C_LEN m.word) := by omega
  simp [State.writeDb, hp, hlen, State.flag_eq, h]

theorem State.writeDb_cleared {u : State} {m : MgWrite} (hp : m.word.getLsbD 31 = false)
    (h : u.rd CUR_MBX_DB.POST = 0 ∨ fieldGet CUR_MBX_DB.H2C_LEN m.word = u.rd CUR_MBX_DB.H2C_LEN) :
    u.writeDb m = (u.plain CUR_MBX_DB.word.off m.word).ok m.src := by
  have hbusy : ¬ ((u.flag CUR_MBX_DB.POST && (false || fieldGet CUR_MBX_DB.H2C_LEN m.word != u.rd CUR_MBX_DB.H2C_LEN)) = true) := by
    simp only [State.flag_eq, Bool.false_or, Bool.and_eq_true, bne_iff_ne, not_and, not_not]
    tauto
  simp only [State.writeDb, hp, Bool.false_and, Bool.false_eq_true, if_false, if_neg hbusy]

/-- A doorbell write changes the doorbell alone. -/
theorem State.word_writeDb_other (u : State) (m : MgWrite) {k : Nat} (hk : k ≠ CUR_MBX_DB.word.off) : (u.writeDb m).word k = u.word k := by
  unfold State.writeDb
  extract_lets post len v
  have hv : v.word k = u.word k := u.word_plain_other _ hk
  split
  · exact State.word_refuse ..
  · split
    · exact State.word_refuse ..
    · rw [State.word_ok]
      split
      · rw [State.word_setFlag, if_neg hk, hv]
      · exact hv

theorem onlyRegs_writeDb (s : State) (m : MgWrite) : OnlyRegs s (s.begin.writeDb m).settle := by
  unfold State.writeDb
  extract_lets post len v
  split
  · exact onlyRegs_begin_answer ..
  · split
    · exact onlyRegs_begin_answer ..
    · split <;> apply onlyRegs_settle <;> simp [v]

theorem State.begin_curRuns {s : State} (h : s.rd CUR_FW_STATUS.STATE = 3) : s.begin.curRuns = true := by
  simp only [State.curRuns, s.begin_rd (f := CUR_FW_STATUS.STATE) rfl, h, decide_true]

/-- The Curator's post, with firmware that runs, by what stands in the doorbell. -/
theorem exec_mailboxC2hPost {s : State} (h : s.rd CUR_FW_STATUS.STATE = 3) (len : BitVec 9) : exec (.mailboxC2hPost len) s =
    .next (if s.rd CUR_MBX_DB.C2H_PEND ≠ 0 then s.begin.refuse .curator rsnBusy
      else if 508 < len.toNat then s.begin.refuse .curator rsnField else (s.begin.postC2h len.toNat).ok .curator).settle := by
  show settled (ite _ _ (ite _ _ _)) = _
  rw [State.begin_curRuns h, State.flag_eq, s.begin_rd rfl]
  simp [settled]

/-- A message of the Curator. -/
theorem State.postC2h_fields (u : State) {len : Nat} (h : len < 512) :
    (u.postC2h len).rd CUR_MBX_DB.C2H_PEND = 1 ∧ (u.postC2h len).rd CUR_MBX_DB.C2H_LEN = len ∧ (u.postC2h len).out = u.out ++ [.irqCur] := by
  refine ⟨?_, ?_, rfl⟩
  · rw [State.postC2h, State.rd_emit, State.rd_setFlag_same _ _ _ (by decide) rfl]; rfl
  · rw [State.postC2h, State.rd_emit, State.rd_setFlag_field _ _ (by decide), State.rd_wr_same _ _ _ (by decide)]
    exact Nat.mod_eq_of_lt h

theorem State.word_postC2h_other (u : State) (len : Nat) {k : Nat} (hk : k ≠ CUR_MBX_DB.word.off) : (u.postC2h len).word k = u.word k := by
  rw [State.postC2h, State.word_emit, State.word_setFlag, if_neg hk, State.word_wr, if_neg hk]

/-- Settles O12: the SRAM's two sources, and the doorbell in its four uses. -/
theorem sramAndMailbox : Obligations.SramAndMailbox := by
  refine ⟨fun s off m h hmay => ?_, fun s off m h hmay => ?_, fun s m => ?_, fun s hrun => ?_, fun s len hrun => ?_,
    fun s m hm h hrun hp hc hfree => ?_⟩
  · refine ⟨_, settled_mgWrite h _ _, ?_⟩
    rw [State.sramWrite_of_may (by simpa using hmay)]
    refine ⟨by simp, by simp, by simp, by simp [State.ok_out], ?_, fun o _ ho => ?_⟩
    · apply onlyRegs_settle <;> simp
    · rw [State.word_settle, State.word_ok]; exact s.word_begin o ho
  · refine ⟨_, settled_mgWrite h _ _, ?_⟩
    rw [State.sramWrite_of_may_not (by simpa using hmay)]
    exact ⟨by simp [State.refuse_out], onlyRegs_begin_answer .., regsBut_begin_answer s _ _ _ _⟩
  · intro len hm h hrun hp
    refine ⟨_, settled_mgWrite h _ _, ?_⟩
    rw [State.writeMbx_db hm ((s.begin_rd rfl).trans hrun)]
    have hpost := s.begin_rd (f := CUR_MBX_DB.POST) rfl
    refine ⟨fun hl => ?_, fun hl hl' hb => ?_, fun hl hl' hb => ?_, onlyRegs_writeDb s m, fun o ho hpmu => ?_⟩
    · rw [State.writeDb_refused_len hp hl]
      exact ⟨by simp [State.refuse_out], regsBut_begin_answer s _ _ _ _⟩
    · rw [State.writeDb_refused_busy hp hl hl' (hpost.trans hb)]
      exact ⟨by simp [State.refuse_out], regsBut_begin_answer s _ _ _ _⟩
    · rw [State.writeDb_posted hp hl hl' (hpost.trans hb)]
      obtain ⟨hlen, -, -⟩ := s.begin.plain_db_fields m.word
      refine ⟨?_, ?_, by simp [State.ok_out]⟩
      · rw [State.rd_settle, State.rd_ok, State.rd_setFlag_same _ _ _ (by decide) rfl]; rfl
      · rw [State.rd_settle, State.rd_ok, State.rd_setFlag_field _ _ (by decide), hlen]
    · rw [State.word_settle, State.word_writeDb_other _ _ (by simpa using ho)]; exact s.word_begin o hpmu
  · have hcur : s.begin.curRuns = true := State.begin_curRuns hrun
    refine ⟨(s.begin.setFlag CUR_MBX_DB.POST false).settle, by show settled (ite _ _ _) = _; rw [if_pos hcur]; rfl, ?_, ?_, by simp, ?_,
      fun o ho hpmu => ?_⟩
    · rw [State.rd_settle, State.rd_setFlag_same _ _ _ (by decide) rfl]; rfl
    · rw [State.rd_settle, State.rd_setFlag_field _ _ (by decide), s.begin_rd rfl]
    · apply onlyRegs_settle <;> simp
    · rw [State.word_settle, State.word_setFlag, if_neg (by simpa using ho)]; exact s.word_begin o hpmu
  · refine ⟨_, exec_mailboxC2hPost hrun len, fun hp => ?_, fun hp hl => ?_, ?_, fun o ho hpmu => ?_⟩
    · rw [if_pos (by omega)]
      exact ⟨by simp [State.refuse_out, answerOut], regsBut_begin_answer s _ _ _ _⟩
    · obtain ⟨hpend, hlen, hout⟩ := s.begin.postC2h_fields (len := len.toNat) (by omega)
      rw [if_neg (by omega), if_neg (by omega)]
      exact ⟨by simpa using hpend, by simpa using hlen, by simp [State.ok_out, hout, answerOut]⟩
    · split
      · exact onlyRegs_begin_answer ..
      · split
        · exact onlyRegs_begin_answer ..
        · apply onlyRegs_settle <;> simp [State.postC2h]
    · split
      · exact regsBut_begin_answer s _ _ _ _ o (by simp) hpmu
      · split
        · exact regsBut_begin_answer s _ _ _ _ o (by simp) hpmu
        · rw [State.word_settle, State.word_ok, State.word_postC2h_other _ _ (by simpa using ho)]; exact s.word_begin o hpmu
  · refine ⟨_, settled_mgWrite h _ _, ?_⟩
    rw [State.writeMbx_db hm ((s.begin_rd rfl).trans hrun)]
    have hpost := s.begin_rd (f := CUR_MBX_DB.POST) rfl
    have hlen := s.begin_rd (f := CUR_MBX_DB.H2C_LEN) rfl
    obtain ⟨-, hkeep, hclear⟩ := s.begin.plain_db_fields m.word
    have hform := State.writeDb_cleared (u := s.begin) hp (by rw [hpost, hlen]; exact hfree)
    refine ⟨?_, ?_, ?_, onlyRegs_writeDb s m, fun o ho hpmu => ?_⟩
    · rw [hform, State.rd_settle, State.rd_ok, hclear hc]
    · rw [hform, State.rd_settle, State.rd_ok, hkeep, hpost]
    · simp [hform, State.ok_out]
    · rw [State.word_settle, State.word_writeDb_other _ _ (by simpa using ho)]; exact s.word_begin o hpmu

/-! ### The package time and the test port -/

/-- The pins that settle are those that `OnlyRegs` frees. -/
theorem onlyRegs_pins_settle {s u : State} (h : OnlyRegs { s with pins := u.pins } u.settle) :
    OnlyRegs { s with pins := u.settle.pins } u.settle := h

/-- Settles O13: the pins take the new values, and REMAIN follows the time while the watchdog is armed. -/
theorem timestampAndTestPort : Obligations.TimestampAndTestPort := by
  refine ⟨fun s ns wrap => ?_, fun s code dbgEn => ?_⟩
  · let u : State := { s.begin with pins := { s.begin.pins with ns := ns, wrap := wrap } }
    have harmed : u.flag CUR_WDT_STATUS.ARMED = s.flag CUR_WDT_STATUS.ARMED := s.begin_flag rfl
    have hexec : exec (.timestampUpdate ns wrap) s = .next (if s.flag CUR_WDT_STATUS.ARMED then
        u.wr CUR_WDT_STATUS.REMAIN ((s.cur.wdtEnd - (wrap.toNat * 2 ^ 48 + ns.toNat)) / 100000) else u).settle := by
      rw [← harmed, ← s.begin_cur]; rfl
    cases hs : s.flag CUR_WDT_STATUS.ARMED with
    | true =>
      rw [hs, if_pos rfl] at hexec
      refine ⟨_, hexec, ?_⟩
      refine ⟨rfl, rfl, fun _ => ?_, fun h => Bool.noConfusion h, s.begin_out, ?_, fun o ho hpmu => ?_⟩
      · rw [State.rd_settle, State.rd_wr_same _ _ _ (by decide)]
      · apply onlyRegs_pins_settle; apply onlyRegs_settle <;> simp [u]
      · rw [State.word_settle, State.word_wr, if_neg (by simpa using ho)]; exact s.word_begin o hpmu
    | false =>
      rw [hs, if_neg Bool.false_ne_true] at hexec
      refine ⟨_, hexec, ?_⟩
      refine ⟨rfl, rfl, fun h => Bool.noConfusion h, fun _ o _ hpmu => s.word_begin o hpmu, s.begin_out, ?_, fun o _ hpmu => s.word_begin o hpmu⟩
      apply onlyRegs_pins_settle; apply onlyRegs_settle <;> simp [u]
  · let ir : BitVec 8 := if code = 0x01 || (code = 0x20 && dbgEn) then code else 0xFF
    let u : State := { s.begin with pins := { s.begin.pins with ir := ir, dbgEn := dbgEn } }
    have hid : u.idcode = s.idcode := by
      have hrev : u.rd SLC_CAP.REV = s.rd SLC_CAP.REV := s.begin_rd rfl
      rw [State.idcode, hrev, State.idcode, show u.s64 = s.s64 from s.begin_s64]
    have hexec : exec (.jtagInstruction code dbgEn) s = .next (if code = 0x01 then u.emit (.jtag s.idcode) else u).settle := by
      rw [← hid]; rfl
    refine ⟨_, hexec, fun h => ?_, fun h hd => ?_, fun h h' => ?_, ?_, fun o _ hpmu => ?_⟩
    · simp [u, ir, h]
    · simp [u, ir, h, hd]
    · have hir : ir = 0xFF := if_neg (by rcases h' with h' | h' <;> simp_all)
      rw [if_neg h]
      exact ⟨hir, s.begin_out⟩
    · split <;> apply onlyRegs_pins_settle <;> apply onlyRegs_settle <;> simp [u]
    · have hw : u.word o = s.word o := s.word_begin o hpmu
      split <;> simpa using hw

end Sys2Proof.Machine
end

section
/-! SUPPORT. SLC_LIVE (R39) with a drain held by a chain context (R208, R214): what O8 says of the Ledger's rows does not hold there. -/

namespace Sys2Proof.Machine

/-- A slice past step 1, neither dark nor failed, admits the driver's write of every register. -/
theorem admits_driver {s : State} (h : s.mgReady = true ∧ s.dark = false ∧ s.front.failed = false) (off : Nat) :
    Admits s off .driver := by
  obtain ⟨hready, hdark, hfailed⟩ := h
  exact ⟨hready, fun hd => by simp [hdark] at hd, fun hf => by simp [hfailed] at hf⟩

/-- A line drain of tile row 0, which a chain context holds. -/
def heldDrain (ctx : Nat) : Held :=
  ⟨{ r := ⟨⟨.agent, 0, 0⟩, 0, 0, 0, 0, 0, false, false, false, 0, false, 0, 0, false⟩
     o := ⟨.ldrain, 0, 0, false, 0, 0, 0, false, 0, false, false, 0, 0, 0, 0, 0⟩
     src := .request, rows := [⟨0, 0, 0, 0, 0, false, false⟩], refused := none, sealed := false, credit := false }, ctx⟩

/-- A started slice with MASK 1. Binding 0 is valid; context 0 is its member 1 of 3 and holds a drain of row 0, which is not empty. -/
def liveMapDrainHeld : State :=
  { State.reset with
    regs := [(0x00010, 0x20000000), (0x00100, 0x1), (0xC10C, 0x80000000), (0x27100, 0x80000103)]
    ldg := { Ledger.init with rows := [(0, 1)], held := [heldDrain 0] } }

/-- Refutes O8: a change of MASK clears the bindings, and with them the contexts of their rows (R205). A context that fails releases the
drain that it holds, and at a middle member that drain reads and empties its rows at once, so that the rows do not stay. -/
theorem not_liveMapWrite : ¬ Obligations.LiveMapWrite := by
  rintro ⟨-, htaken⟩
  have hgate : Admits liveMapDrainHeld SLC_LIVE.word.off .driver := admits_driver (by decide) _
  obtain ⟨t, ht, -, -, -, -, hrows, -⟩ := htaken liveMapDrainHeld ⟨.driver, 3⟩ hgate (by decide) (by decide)
  have hexec : exec (.slcLiveWrite ⟨.driver, 3⟩) liveMapDrainHeld = .next (liveMapDrainHeld.begin.writeLive ⟨.driver, 3⟩).settle :=
    settled_mgWrite (m := ⟨.driver, 3⟩) hgate _ _
  obtain rfl := Host.Outcome.next.inj (hexec.symm.trans ht)
  have hempty : (liveMapDrainHeld.begin.writeLive ⟨.driver, 3⟩).settle.ldg.rows = [] := by decide +kernel
  exact absurd (hempty.symm.trans hrows) (by decide)

end Sys2Proof.Machine
end

section
/-! SUPPORT. A write of PMU_GCTL (R385): the snapshot, the clear, and the plain part, each by the registers that it changes. -/

namespace Sys2Proof.Machine

/-! ### The snapshot -/

/-- One counter's snapshot. -/
def State.snapOne (s : State) (n : Nat) : State :=
  (s.wrI PMU_SNAP_LO.SNAP_LO n (s.rdI PMU_CNT_LO.CNT_LO n)).wrI PMU_SNAP_HI.SNAP_HI n (s.rdI PMU_CNT_HI.CNT_HI n)

/-- The snapshot of the first `m` counters. -/
def State.snapTo (s : State) (m : Nat) : State := (List.range m).foldl State.snapOne s

variable (s : State)

theorem State.snapTo_succ (m : Nat) : s.snapTo (m + 1) = (s.snapTo m).snapOne m := by
  simp [State.snapTo, List.range_succ]

theorem State.word_snapOne_other (n : Nat) {k : Nat} (hlo : k ≠ 0x2A110 + 32 * n) (hhi : k ≠ 0x2A114 + 32 * n) :
    (s.snapOne n).word k = s.word k := by
  rw [State.snapOne, State.word_wrI, if_neg hhi, State.word_wrI, if_neg hlo]

/-- Outside the snapshot registers nothing changes. -/
theorem State.word_snapTo_other (m : Nat) {k : Nat} (h : ∀ n < m, k ≠ 0x2A110 + 32 * n ∧ k ≠ 0x2A114 + 32 * n) :
    (s.snapTo m).word k = s.word k := by
  induction m with
  | zero => rfl
  | succ m ih => rw [State.snapTo_succ, State.word_snapOne_other _ _ (h m (by omega)).1 (h m (by omega)).2, ih (fun n hn => h n (by omega))]

theorem State.rdI_snapTo_cntLo (m n : Nat) : (s.snapTo m).rdI PMU_CNT_LO.CNT_LO n = s.rdI PMU_CNT_LO.CNT_LO n :=
  State.rdI_congr _ _ (s.word_snapTo_other m (fun j _ => by simp only; omega))
theorem State.rdI_snapTo_cntHi (m n : Nat) : (s.snapTo m).rdI PMU_CNT_HI.CNT_HI n = s.rdI PMU_CNT_HI.CNT_HI n :=
  State.rdI_congr _ _ (s.word_snapTo_other m (fun j _ => by simp only; omega))

/-- Each counter of the first `m` is copied. -/
theorem State.rdI_snapTo {m n : Nat} (h : n < m) : (s.snapTo m).rdI PMU_SNAP_LO.SNAP_LO n = s.rdI PMU_CNT_LO.CNT_LO n
    ∧ (s.snapTo m).rdI PMU_SNAP_HI.SNAP_HI n = s.rdI PMU_CNT_HI.CNT_HI n := by
  induction m with
  | zero => omega
  | succ m ih =>
    rw [State.snapTo_succ]
    by_cases hn : n = m
    · subst hn
      constructor
      · rw [State.snapOne, State.rdI_wrI_other _ _ _ _ _ _ (by simp only; omega), State.rdI_wrI_same _ _ _ _ (by decide),
          s.rdI_snapTo_cntLo, Nat.mod_eq_of_lt (s.rdI_lt PMU_CNT_LO.CNT_LO n)]
      · rw [State.snapOne, State.rdI_wrI_same _ _ _ _ (by decide), s.rdI_snapTo_cntHi, Nat.mod_eq_of_lt (s.rdI_lt PMU_CNT_HI.CNT_HI n)]
    · obtain ⟨hlo, hhi⟩ := ih (by omega)
      rw [← hlo, ← hhi]
      constructor <;> exact State.rdI_congr _ _ (State.word_snapOne_other _ _ (by simp only; omega) (by simp only; omega))

/-- PMU_CYC's snapshot and the count of snapshots. -/
def State.snapCyc (s : State) : State :=
  ((s.wr PMU_SCYC_LO.SCYC_LO (s.rd PMU_CYC_LO.CYC_LO)).wr PMU_SCYC_HI.SCYC_HI (s.rd PMU_CYC_HI.CYC_HI)).wrapAdd PMU_STATUS.SNAPS

theorem State.pmuSnap_eq : s.pmuSnap = (s.snapTo 8).snapCyc := rfl

theorem State.word_snapCyc_other {k : Nat} (h : k ∉ [PMU_SCYC_LO.word.off, PMU_SCYC_HI.word.off, PMU_STATUS.word.off]) :
    s.snapCyc.word k = s.word k := by
  simp only [List.mem_cons, List.not_mem_nil, or_false, not_or] at h
  obtain ⟨hlo, hhi, hst⟩ := h
  rw [State.snapCyc, State.word_wrapAdd, if_neg hst, State.word_wr, if_neg hhi, State.word_wr, if_neg hlo]

theorem State.snapCyc_fields : s.snapCyc.rd PMU_SCYC_LO.SCYC_LO = s.rd PMU_CYC_LO.CYC_LO
    ∧ s.snapCyc.rd PMU_SCYC_HI.SCYC_HI = s.rd PMU_CYC_HI.CYC_HI ∧ s.snapCyc.rd PMU_STATUS.SNAPS = (s.rd PMU_STATUS.SNAPS + 1) % 65536 := by
  refine ⟨?_, ?_, ?_⟩
  · rw [State.snapCyc, State.wrapAdd, State.rd_wr_other _ _ (by decide), State.rd_wr_other _ _ (by decide),
      State.rd_wr_same _ _ _ (by decide)]
    exact Nat.mod_eq_of_lt (s.rdI_lt PMU_CYC_LO.CYC_LO 0)
  · rw [State.snapCyc, State.wrapAdd, State.rd_wr_other _ _ (by decide), State.rd_wr_same _ _ _ (by decide)]
    exact Nat.mod_eq_of_lt (s.rdI_lt PMU_CYC_HI.CYC_HI 0)
  · rw [State.snapCyc, State.wrapAdd, State.rd_wr_same _ _ _ (by decide), State.rd_wr_other _ _ (by decide),
      State.rd_wr_other _ _ (by decide)]
    rfl

/-! ### The clear -/

/-- The clear of the first `n` counters by a mask. -/
def State.zeroTo (s : State) (mask n : Nat) : State := (List.range n).foldl (fun s n => if mask.testBit n then s.setPmu n 0 else s) s

theorem State.pmuZero_eq (mask : Nat) : s.pmuZero mask = s.zeroTo mask 8 := rfl

theorem State.zeroTo_succ (mask m : Nat) : s.zeroTo mask (m + 1) =
    if mask.testBit m then (s.zeroTo mask m).setPmu m 0 else s.zeroTo mask m := by
  simp [State.zeroTo, List.range_succ]

/-- Outside the counters nothing changes. -/
theorem State.word_zeroTo_other (mask m : Nat) {k : Nat} (h : ∀ n < m, k ≠ 0x2A108 + 32 * n ∧ k ≠ 0x2A10C + 32 * n) :
    (s.zeroTo mask m).word k = s.word k := by
  induction m with
  | zero => rfl
  | succ m ih =>
    have hstep := ih (fun n hn => h n (by omega))
    rw [State.zeroTo_succ]
    split
    · rw [State.setPmu, State.word_wrI, if_neg (h m (by omega)).2, State.word_wrI, if_neg (h m (by omega)).1, hstep]
    · exact hstep

theorem State.pmuVal_setPmu (n k v : Nat) : (s.setPmu n v).pmuVal k = if k = n then v % 2 ^ 48 else s.pmuVal k := by
  unfold State.pmuVal State.setPmu
  by_cases h : k = n
  · subst h
    rw [if_pos rfl, State.rdI_wrI_same _ _ _ _ (by decide), State.rdI_wrI_other _ _ _ _ _ _ (by simp only; omega),
      State.rdI_wrI_same _ _ _ _ (by decide)]
    simp only; omega
  · rw [if_neg h, State.rdI_wrI_other _ _ _ _ _ _ (by simp only; omega), State.rdI_wrI_other _ _ _ _ _ _ (by simp only; omega),
      State.rdI_wrI_other _ _ _ _ _ _ (by simp only; omega), State.rdI_wrI_other _ _ _ _ _ _ (by simp only; omega)]

/-- A counter of the mask among the first `m` reads 0, every other keeps its value. -/
theorem State.pmuVal_zeroTo (mask m k : Nat) : (s.zeroTo mask m).pmuVal k = if k < m ∧ mask.testBit k then 0 else s.pmuVal k := by
  induction m with
  | zero => simp [State.zeroTo]
  | succ m ih =>
    rw [State.zeroTo_succ]
    by_cases hk : k = m
    · subst hk
      by_cases hb : mask.testBit k = true
      · simp [hb, State.pmuVal_setPmu]
      · simp [hb, ih]
    · have hlt : k < m + 1 ↔ k < m := by omega
      by_cases hb : mask.testBit m = true
      · simp [hb, State.pmuVal_setPmu, hk, ih, hlt]
      · simp [hb, ih, hlt]

/-! ### Both, and the plain part -/

theorem regRow_pmuGctl (b : Bool) : regRow b PMU_GCTL.word.off = some ⟨0x2A000, 1, 1, 0, 0x600000FF, 0x0, 0x90000000, 0x0, 0x0⟩ := by
  cases b <;> decide

/-- The state after the snapshot that a write asks for. -/
def State.snapAsked (s : State) (w : Word) : State := if w.getLsbD 31 then s.pmuSnap else s

/-- The state after the snapshot and the clear that a write asks for. -/
def State.snapZeroed (s : State) (w : Word) : State :=
  if w.getLsbD 28 then (s.snapAsked w).zeroTo (fieldGet PMU_GCTL.EN w) 8 else s.snapAsked w

theorem State.writeGctl_eq (m : MgWrite) : s.writeGctl m = ((s.snapZeroed m.word).plain PMU_GCTL.word.off m.word).ok m.src := rfl

/-- The beginning of a command leaves the PMU's registers but for FREEZE. -/
theorem State.word_begin_other {k : Nat} (hk : k ≠ PMU_GCTL.word.off) : s.begin.word k = s.word k := by
  unfold State.begin
  extract_lets a
  split
  · rw [State.word_pmuFrz, State.word_setFlag, if_neg hk]; exact State.word_congr rfl rfl k
  · exact State.word_congr rfl rfl k

/-- The snapshot changes its own registers alone. -/
theorem State.word_pmuSnap_other {k : Nat} (hsnap : ∀ n < 8, k ≠ 0x2A110 + 32 * n ∧ k ≠ 0x2A114 + 32 * n)
    (h : k ∉ [PMU_SCYC_LO.word.off, PMU_SCYC_HI.word.off, PMU_STATUS.word.off]) : s.pmuSnap.word k = s.word k := by
  rw [State.pmuSnap_eq, State.word_snapCyc_other _ h, s.word_snapTo_other 8 hsnap]

theorem State.word_snapAsked_other (w : Word) {k : Nat} (hsnap : ∀ n < 8, k ≠ 0x2A110 + 32 * n ∧ k ≠ 0x2A114 + 32 * n)
    (h : k ∉ [PMU_SCYC_LO.word.off, PMU_SCYC_HI.word.off, PMU_STATUS.word.off]) : (s.snapAsked w).word k = s.word k := by
  unfold State.snapAsked
  split
  · exact s.word_pmuSnap_other hsnap h
  · rfl

/-- The clear leaves every register but the counters. -/
theorem State.word_snapZeroed_snapAsked (w : Word) {k : Nat} (h : ∀ n < 8, k ≠ 0x2A108 + 32 * n ∧ k ≠ 0x2A10C + 32 * n) :
    (s.snapZeroed w).word k = (s.snapAsked w).word k := by
  unfold State.snapZeroed
  split
  · exact State.word_zeroTo_other _ _ _ h
  · rfl

/-- Outside the PMU's block nothing changes. -/
theorem State.word_snapZeroed (w : Word) {k : Nat} (h : pmuBlock k = false) : (s.snapZeroed w).word k = s.word k := by
  have hk : ¬ (0x2A000 ≤ k ∧ k < 0x2B000) := by simpa [pmuBlock] using h
  rw [s.word_snapZeroed_snapAsked w (fun n hn => by omega), s.word_snapAsked_other w (fun n hn => by omega) (by simp; omega)]

theorem State.pmuVal_congr {s t : State} (n : Nat) (hlo : s.word (0x2A108 + 32 * n) = t.word (0x2A108 + 32 * n))
    (hhi : s.word (0x2A10C + 32 * n) = t.word (0x2A10C + 32 * n)) : s.pmuVal n = t.pmuVal n := by
  unfold State.pmuVal
  rw [State.rdI_congr PMU_CNT_HI.CNT_HI n hhi, State.rdI_congr PMU_CNT_LO.CNT_LO n hlo]

theorem State.pmuVal_snapZeroed (w : Word) {n : Nat} (hn : n < 8) : (s.snapZeroed w).pmuVal n =
    if w.getLsbD 28 = true ∧ w.getLsbD n = true then 0 else s.pmuVal n := by
  have hsnap : (s.snapAsked w).pmuVal n = s.pmuVal n :=
    State.pmuVal_congr n (s.word_snapAsked_other w (fun j hj => by omega) (by simp; omega))
      (s.word_snapAsked_other w (fun j hj => by omega) (by simp; omega))
  have hbit : (fieldGet PMU_GCTL.EN w).testBit n = w.getLsbD n := by
    rw [fieldGet_testBit]; simp [hn]
  unfold State.snapZeroed
  split
  · rename_i h28
    simp only [State.pmuVal_zeroTo, hbit, hn, true_and, hsnap, h28]
  · rename_i h28
    rw [if_neg (fun h => h28 h.1), hsnap]

/-! ### The frame -/

/-- `u` is `s` with another register file. -/
def OnlyRegFile (s u : State) : Prop := u = { s with regs := u.regs }

theorem OnlyRegFile.trans {s t u : State} (hst : OnlyRegFile s t) (htu : OnlyRegFile t u) : OnlyRegFile s u := by
  unfold OnlyRegFile at *
  rw [htu, hst]

theorem OnlyRegFile.foldl {α : Type} {g : State → α → State} (h : ∀ u a, OnlyRegFile u (g u a)) (l : List α) (s : State) :
    OnlyRegFile s (l.foldl g s) := by
  induction l generalizing s with
  | nil => rfl
  | cons a l ih => exact (h s a).trans (ih _)

theorem onlyRegFile_wrI (f : Field) (n v : Nat) : OnlyRegFile s (s.wrI f n v) := rfl

theorem onlyRegFile_snapAsked (w : Word) : OnlyRegFile s (s.snapAsked w) := by
  have hto : OnlyRegFile s (s.snapTo 8) :=
    OnlyRegFile.foldl (fun u n => (onlyRegFile_wrI u _ _ _).trans (onlyRegFile_wrI _ _ _ _)) _ s
  unfold State.snapAsked
  split
  · exact hto.trans (((onlyRegFile_wrI _ _ _ _).trans (onlyRegFile_wrI _ _ _ _)).trans (onlyRegFile_wrI _ _ _ _))
  · rfl

theorem onlyRegFile_snapZeroed (w : Word) : OnlyRegFile s (s.snapZeroed w) := by
  have hone : ∀ (u : State) (n : Nat), OnlyRegFile u (if (fieldGet PMU_GCTL.EN w).testBit n then u.setPmu n 0 else u) := fun u n => by
    split
    · exact (onlyRegFile_wrI _ _ _ _).trans (onlyRegFile_wrI _ _ _ _)
    · rfl
  unfold State.snapZeroed
  split
  · exact (onlyRegFile_snapAsked s w).trans (OnlyRegFile.foldl hone _ _)
  · exact onlyRegFile_snapAsked s w

theorem onlyRegs_writeGctl (m : MgWrite) : OnlyRegs s (s.begin.writeGctl m).settle := by
  have hfile : OnlyRegFile s.begin (s.begin.snapZeroed m.word) := onlyRegFile_snapZeroed _ _
  rw [State.writeGctl_eq, hfile]
  apply onlyRegs_settle <;> simp

theorem out_writeGctl (m : MgWrite) : (s.begin.writeGctl m).settle.out = [answerOut m.src stOk rsnNone 0] := by
  have hfile : OnlyRegFile s.begin (s.begin.snapZeroed m.word) := onlyRegFile_snapZeroed _ _
  rw [State.writeGctl_eq, hfile, State.settle_out, State.ok_out]
  simp

/-- Settles O14: a write of PMU_GCTL goes through the snapshot, the clear and the plain part in this order. -/
theorem pmuSnapshotClearFreeze : Obligations.PmuSnapshotClearFreeze := by
  intro s i m hi hm h
  have hcur : isCurator m.src = false := by cases hs : m.src <;> simp_all [isCurator]
  have hwrite : ∀ u : State, u.writePmu PMU_GCTL.word.off m = u.writeGctl m := fun u => by simp [State.writePmu, hcur]
  have hexec : exec i s = .next (s.begin.writeGctl m).settle := by
    rw [← hwrite]
    rcases hi with rfl | rfl <;> exact settled_mgWrite h _ _
  have hrow := regRow_pmuGctl (s.begin.snapZeroed m.word).s64
  have hplain : ∀ f : Field, f.off = PMU_GCTL.word.off → f.stride = 0 →
      (∀ i < f.w, (BitVec.ofNat 32 0x600000FF).getLsbD (f.lo + i) = true) →
      (s.begin.writeGctl m).settle.rd f = fieldGet f m.word := fun f hf hs hrw => by
    rw [State.writeGctl_eq, State.rd_settle, State.rd_ok, State.rd_plain_same _ hrow _ f hf hs]
    exact fieldGet_plainWrite_rw _ _ hrw
  have hword : ∀ k, k ≠ PMU_GCTL.word.off → (s.begin.writeGctl m).settle.word k = (s.begin.snapZeroed m.word).word k := fun k hk => by
    rw [State.writeGctl_eq, State.word_settle, State.word_ok, State.word_plain_other _ _ hk]
  refine ⟨_, hexec, hplain _ rfl rfl (by decide), hplain _ rfl rfl (by decide), hplain _ rfl rfl (by decide), fun hsnap => ?_,
    fun hsnap n hn => ?_, fun n hn => ?_, ?_, onlyRegs_writeGctl s m, fun o _ ho => ?_⟩
  · have hfields : ∀ (f : Field) (n : Nat), f.off + f.stride * n ≠ PMU_GCTL.word.off →
        (∀ j < 8, f.off + f.stride * n ≠ 0x2A108 + 32 * j ∧ f.off + f.stride * n ≠ 0x2A10C + 32 * j) →
        (s.begin.writeGctl m).settle.rdI f n = s.begin.pmuSnap.rdI f n := fun f n hgctl hcnt => by
      rw [State.rdI_congr f n (hword _ hgctl), State.rdI_congr f n (s.begin.word_snapZeroed_snapAsked m.word hcnt),
        State.snapAsked, if_pos hsnap]
    have hbegin : ∀ (f : Field) (n : Nat), f.off + f.stride * n ≠ PMU_GCTL.word.off → s.begin.rdI f n = s.rdI f n :=
      fun f n hgctl => State.rdI_congr f n (s.word_begin_other hgctl)
    have hto : ∀ f : Field, f.off ≠ PMU_GCTL.word.off → f.stride = 0 → (∀ j < 8, f.off ≠ 0x2A110 + 32 * j ∧ f.off ≠ 0x2A114 + 32 * j) →
        (s.begin.snapTo 8).rd f = s.rd f := fun f hf hs hj => by
      have hoff : f.off + f.stride * 0 = f.off := by rw [hs, Nat.zero_mul, Nat.add_zero]
      exact (State.rdI_congr f 0 (State.word_snapTo_other _ 8 (by rwa [hoff]))).trans (hbegin f 0 (by rwa [hoff]))
    obtain ⟨hcycLo, hcycHi, hcount⟩ := (s.begin.snapTo 8).snapCyc_fields
    refine ⟨fun n hn => ?_, ?_, ?_, ?_⟩
    · obtain ⟨hlo, hhi⟩ := s.begin.rdI_snapTo hn
      have hcyc : ∀ f : Field, f.off + f.stride * n ∉ [PMU_SCYC_LO.word.off, PMU_SCYC_HI.word.off, PMU_STATUS.word.off] →
          s.begin.pmuSnap.rdI f n = (s.begin.snapTo 8).rdI f n := fun f hf => State.rdI_congr f n (State.word_snapCyc_other _ hf)
      constructor
      · rw [hfields _ _ (by simp; omega) (fun j hj => by simp only; omega), hcyc _ (by simp; omega), hlo, hbegin _ _ (by simp; omega)]
      · rw [hfields _ _ (by simp; omega) (fun j hj => by simp only; omega), hcyc _ (by simp; omega), hhi, hbegin _ _ (by simp; omega)]
    · exact (hfields _ 0 (by decide) (by decide)).trans (hcycLo.trans (hto _ (by decide) rfl (by decide)))
    · exact (hfields _ 0 (by decide) (by decide)).trans (hcycHi.trans (hto _ (by decide) rfl (by decide)))
    · refine (hfields _ 0 (by decide) (by decide)).trans (hcount.trans ?_)
      rw [hto _ (by decide) rfl (by decide)]
  · constructor <;> rw [hword _ (by simp; omega), State.word_snapZeroed_snapAsked _ _ (fun j hj => by simp; omega), State.snapAsked,
      if_neg (by rw [hsnap]; exact Bool.false_ne_true)] <;> exact s.word_begin_other (by simp; omega)
  · rw [State.pmuVal_congr n (hword _ (by simp; omega)) (hword _ (by simp; omega)), State.pmuVal_snapZeroed _ _ hn,
      State.pmuVal_congr n (s.word_begin_other (by simp; omega)) (s.word_begin_other (by simp; omega))]
  · exact out_writeGctl s m
  · have ho' : o ≠ PMU_GCTL.word.off := fun he => by simp [he, pmuBlock] at ho
    rw [hword o ho', State.word_snapZeroed _ _ ho]
    exact s.word_begin o ho

end Sys2Proof.Machine
end

section
/-! SUPPORT. A slice whose casement injector is armed (R370 to R373): what leaves on the casement passes the injector, which counts, logs and
disarms in registers that O20, O25, O30 and O31 hold fixed. -/

namespace Sys2Proof.Machine

/-- The next state of a command is the one that `exec` computes. -/
theorem next_eq {i : Instr} {s t u : State} (hexec : exec i s = .next u) (ht : exec i s = .next t) : t = u :=
  Host.Outcome.next.inj (ht.symm.trans hexec)

/-- A slice past its start, alone in its map (SLC_LIVE.MASK 1), with casement 0 up and link credits of the classes RSP and DAT. The
injector of casement 0 is armed for every transmitted message: MODE 0 drops it, and LOG writes an entry. -/
def armedSlice : State :=
  { State.reset with
    regs := [(SLC_START.STATE.off, 5 <<< 25), (SLC_LIVE.word.off, 0x00001001), (LNK_STATUS.UP.off, 1), (LNK_INJ_CTL.word.off, 0x8400FF00),
      (ERR_LOG_EN.EN.off, 0xFFFFFFFF)]
    cfg := { Cfg.init with roles := 1 }
    front := { Front.init with links := [(0, { Link.init with credits := [(2, 8), (3, 8)] })] } }

/-- Agent 0's request for line 0, at DIE scope. -/
def lineZeroReq : Req := ⟨⟨.agent, 0, 0⟩, 0, 0, 1, 0, 1, false, false, false, 0, false, 0, 0, false⟩

/-- Line 0 is resident, and a write of agent 0 has reached its ack point. -/
def armedAckDue : State :=
  { armedSlice with
    stk := { armedSlice.stk with tags := [(0, ⟨0, .clean, .inv, false, false, false, false, .ok⟩)] }
    ord := { armedSlice.ord with writes := [⟨0, lineZeroReq, cmpMsg lineZeroReq stOk, false, false, false, false, none⟩] } }

/-- Refutes O20: after the read every write at its ack point is answered (R139). That answer passes the armed injector of its casement,
which disarms itself: LNK_INJ_CTL changes. -/
theorem not_readsServedAtHome : ¬ Obligations.ReadsServedAtHome := by
  rintro ⟨hread, -⟩
  have haccepted : Accepted armedAckDue (.rdS lineZeroReq) lineZeroReq := by
    unfold Accepted WordsOk
    decide +kernel
  have hhit : HomeHit armedAckDue lineZeroReq.line 0 := by
    unfold HomeHit
    decide +kernel
  obtain ⟨t, ht, -, -, -, -, -, -, -, -, -, hregs⟩ := hread armedAckDue lineZeroReq 0 0 (by decide +kernel) (by decide +kernel) haccepted hhit
    (by decide +kernel) (by decide +kernel)
  obtain rfl : t = (armedAckDue.begin.requestLate (.rdS lineZeroReq) lineZeroReq).settle := next_eq rfl ht
  exact absurd (hregs LNK_INJ_CTL.word.off (by decide) (by decide)) (by decide +kernel)

/-- Line 0 is resident DIRTY, and the atomic unit holds it. -/
def armedAtomHeld : State :=
  { armedSlice with
    stk := { armedSlice.stk with tags := [(0, ⟨0, .dirty, .inv, false, false, false, false, .ok⟩)] }
    coh := { armedSlice.coh with atoms := [⟨0, some 0, []⟩] } }

/-- SWAP of 64 bits at the start of the line. -/
def swapOp : AtomOp := ⟨8, true, 0, 0, 0⟩

/-- Refutes O25: the answer of an atomic that leaves at once passes the armed injector of its casement, which disarms itself: LNK_INJ_CTL
changes, although no mirroring pair is formed. -/
theorem not_atomicsAtHome : ¬ Obligations.AtomicsAtHome := by
  rintro ⟨hheld, -⟩
  have haccepted : Accepted armedAtomHeld (.atom lineZeroReq swapOp) lineZeroReq := by
    unfold Accepted WordsOk
    decide +kernel
  obtain ⟨t, ht, -, -, -, -, -, -, -, hregs⟩ := hheld armedAtomHeld lineZeroReq swapOp ⟨0, some 0, []⟩ 0 (by decide +kernel) rfl haccepted
    (by decide +kernel) (by decide +kernel) (by decide +kernel) (by decide)
  obtain rfl : t = (armedAtomHeld.begin.requestLate (.atom lineZeroReq swapOp) lineZeroReq).settle := next_eq rfl ht
  exact absurd (hregs (by decide +kernel) LNK_INJ_CTL.word.off (by decide) (by decide)) (by decide +kernel)

/-- An acquire at NONE scope, which R138 answers SCOPE_ERR. -/
def acquireNoScope : Req := { lineZeroReq with scope := 0, acq := true }

/-- Refutes O30: SCOPE_ERR passes the armed injector of its casement, and with LOG the injection is an entry of the fault log. -/
theorem not_requestsTurnedAway : ¬ Obligations.RequestsTurnedAway := by
  rintro ⟨hturned, -⟩
  obtain ⟨t, ht, -, -, -, -, herr, -⟩ := hturned armedSlice (.rdS acquireNoScope) acquireNoScope 0 0 swapOp (.inl rfl) (by decide +kernel)
    (by decide +kernel) (.inr (.inl (by decide +kernel)))
  obtain rfl : t = (armedSlice.begin.requestLate (.rdS acquireNoScope) acquireNoScope).settle := next_eq rfl ht
  exact absurd (herr (by decide +kernel)) (by decide +kernel)

/-- Line 0 is BUSY. -/
def armedLineBusy : State := { armedSlice with coh := { armedSlice.coh with txns := [txnNew 0 .prepare none none] } }

/-- Refutes O31: NACK_RETRY passes the armed injector of its casement, which disarms itself: LNK_INJ_CTL changes. -/
theorem not_busyAndSealedLines : ¬ Obligations.BusyAndSealedLines := by
  rintro ⟨hbusy, -⟩
  obtain ⟨t, ht, -, -, -, -, -, -, -, -, -, hregs⟩ := hbusy armedLineBusy (.rdS lineZeroReq) lineZeroReq 0 0 swapOp (txnNew 0 .prepare none none)
    (.inl rfl) (by decide +kernel) (by decide +kernel) (by decide +kernel) rfl (by decide +kernel) (by decide +kernel)
    (by unfold WordsOk; decide +kernel) (by decide +kernel)
  obtain rfl : t = (armedLineBusy.begin.requestLate (.rdS lineZeroReq) lineZeroReq).settle := next_eq rfl ht
  exact absurd (hregs LNK_INJ_CTL.word.off (by decide) (by decide)) (by decide +kernel)

/-- A chain message to the slice at coordinate 4, across the seam. -/
def chainAcross : Out := .chain (4#256 <<< 128) none

/-- A slice whose casement injector is disarmed and still holds a message of class RSP, here one of the chain. -/
def chainHeldAtCasement : State :=
  { armedSlice with
    regs := [(LNK_STATUS.UP.off, 1)]
    front := { armedSlice.front with inject := [(0, ⟨0, 1, some (2, .sent chainAcross)⟩)] } }

/-- Refutes O28: WB_ACK lets the message that the injector of its casement holds leave behind it (R372). The state does not bind that message
to the casement: one that crosses the seam takes credits of the Transom, which the frame holds fixed. -/
theorem not_agentAnswersUnawaited : ¬ Obligations.AgentAnswersUnawaited := by
  rintro ⟨-, hwb⟩
  obtain ⟨t, ht, -, -, -, hframe⟩ := hwb chainHeldAtCasement 0 0 0 0 0 false (by decide +kernel) (by decide +kernel) (by decide +kernel)
  obtain rfl : t = (chainHeldAtCasement.begin.writeBackFrom 0 0 0 0 0 false).settle := next_eq rfl ht
  exact absurd (congrArg State.tran hframe) (by decide +kernel)

end Sys2Proof.Machine
end

section
/-! SETTLED: O33, O39, O41, O44, O46, O47, O49. Their frames hold fixed what an injector, a queue behind it or a register of another unit changes. -/

namespace Sys2Proof.Machine

/-- A window walk without lines left, for which the FENCE of agent 0 waits; casement 0 has a credit of the class BAR. -/
def armedWalkOver : State :=
  { armedSlice with
    regs := (ORD_WIN_STATUS.BUSY.off, 1 <<< ORD_WIN_STATUS.BUSY.lo) :: armedSlice.regs
    front := { armedSlice.front with links := [(0, { Link.init with credits := [(4, 8)] })] }
    ord := { armedSlice.ord with next := 32, fences := [⟨⟨⟨.agent, 0, 0⟩, 0, 0, 0, 0, true, 0⟩, [], .running, 0, false⟩] } }

/-- Refutes O33: FENCE_DONE passes the armed injector of its casement, and with LOG the injection is an entry of the fault log. -/
theorem not_windowWalks : ¬ Obligations.WindowWalks := by
  rintro ⟨-, -, -, hend, -⟩
  obtain ⟨t, ht, -, -, -, -, -, hframe, -⟩ := hend armedWalkOver (by decide +kernel) rfl (by decide +kernel) (by decide +kernel)
  obtain rfl : t = armedWalkOver.begin.endWalk.settle := next_eq rfl ht
  exact absurd (congrArg State.err hframe) (by decide +kernel)

/-- The Reshelver runs REOPEN for the RANGE request of agent 0. -/
def armedReopen : State := { armedSlice with place := { armedSlice.place with running := some ⟨4, 0, 0, 0, some lineZeroReq⟩, todo := [] } }

/-- Refutes O39: the completion of a RANGE request passes the armed injector of its casement, and with LOG the injection is an entry of the
fault log. -/
theorem not_reshelverCommands : ¬ Obligations.ReshelverCommands := by
  rintro ⟨-, -, -, hdone, -⟩
  obtain ⟨t, ht, -, -, -, -, -, -, -, -, hframe⟩ := hdone armedReopen ⟨4, 0, 0, 0, some lineZeroReq⟩ rfl rfl rfl (by decide +kernel)
  obtain rfl : t = armedReopen.begin.rshDone.settle := next_eq rfl ht
  exact absurd (congrArg State.err hframe) (by decide +kernel)

/-- LACC on line 0. -/
def laccOp : LedgerOp := ⟨.lacc, 0, 0, false, 0, 0, 0, false, 0, false, false, 0, 0, 0, 0, 0⟩

/-- Agent 0's LACC on line 0 without rows, with the reason for which its tag lane refuses it. -/
def laccJob (refused : Option Nat) : LdgJob := ⟨lineZeroReq, laccOp, .request, [], refused, false, false⟩

/-- A LACC that its tag lane found to be refused heads unit 0. -/
def armedLaccRefused : State := { armedSlice with ldg := { armedSlice.ldg with unit := [(0, [laccJob (some rsnField)])] } }

/-- Refutes O41: the answer REFUSED passes the armed injector of its casement, which disarms itself: LNK_INJ_CTL changes. -/
theorem not_ledgerContributions : ¬ Obligations.LedgerContributions := by
  rintro ⟨hturned, -⟩
  obtain ⟨t, ht, -, -, -, -, -, hregs⟩ := hturned armedLaccRefused (.lacc 0) 0 (laccJob (some rsnField)) (stRefused, rsnField) (.inl rfl) rfl
    (by decide +kernel) rfl (by decide +kernel)
  obtain rfl : t = (armedLaccRefused.begin.ldgRun 0 (· == .lacc) (fun s j => s.ldgLacc 0 j)).settle := next_eq rfl ht
  exact absurd (hregs LNK_INJ_CTL.word.off (by decide) (by decide)) (by decide +kernel)

/-- TACK of sequence 1 from position 1 of chain 0 to its head. -/
def tackOne : BitVec 256 := withCrc (chainHdr 1 stOk 0 1 false 1 0 0 0 0 0 0) none

/-- Context 0 heads chain 0; its token of sequence 1 is the last of the drain that agent 0 asked for. -/
def armedLastToken : State :=
  { armedSlice with
    regs := (CHN_CTX_CTL.VALID.off, 1 <<< CHN_CTX_CTL.VALID.lo) :: (CHN_CTX_SEQ.TX_NEXT.off, 2 <<< CHN_CTX_SEQ.TX_NEXT.lo) :: armedSlice.regs
    chn := { armedSlice.chn with
      tokens := [⟨0, 1, 0, 0, 0, 0, 0, 0, 0⟩]
      drains := [⟨0, laccJob none, 1, 0, 0⟩] } }

/-- Refutes O44: the answer of the drain whose last token is acknowledged passes the armed injector of its casement, which disarms itself:
LNK_INJ_CTL changes. -/
theorem not_chainMessages : ¬ Obligations.ChainMessages := by
  rintro ⟨-, -, -, htack, -⟩
  obtain ⟨t, ht, -, -, -, -, -, -, -, -, hregs⟩ := htack armedLastToken tackOne 0 (by decide +kernel) (by decide +kernel) (by decide +kernel)
    (by decide +kernel) (by unfold Uninjected; decide +kernel) (by unfold Uninjected; decide +kernel) (by decide +kernel) (by decide +kernel)
  obtain rfl : t = (armedLastToken.begin.wicketIn 1 (.tack tackOne)).settle := next_eq rfl ht
  exact absurd (hregs LNK_INJ_CTL.word.off (by decide) (by decide)) (by decide +kernel)

/-- Porter's answer OK without data. -/
def okAnswer : Answer := ⟨0, 0, 0⟩

/-- A transfer of one byte in register mode, all written but its last write. It is marked as one that never began, and its CRC is 1. -/
def rejectedXfer : Xfer :=
  { ring := false, ctl := 0, low := 0, high := 0, src := 0, dst := 0, x := 1, y := 0, ss := 0, ds := 0, idx := 0, prod := 0, desc := 0
    head := 0, crc0 := 0, crc := 1, k := 1, n := 1, pace := .off, p := 0, lines := [], nextLn := 0
    bursts := [⟨0, 1, 0, 0, [], 0, true, 1⟩], stop := none, reject := true, pois := false, sealed := false, err := none, finish := false }

/-- Porter's write that `rejectedXfer` waits for. -/
def lastPorterWrite : PorReq := ⟨0, 0, .write 0, .wrLine lineZeroReq 0, false⟩

/-- Channel 0 waits for the last write of `rejectedXfer`. -/
def porterRejected : State := { State.reset with por := { State.reset.por with xfers := [(0, rejectedXfer)], reqs := [lastPorterWrite] } }

/-- Refutes O46: of a transfer that is marked rejected the CRC register is not written at its end, and keeps what it held. -/
theorem not_porterTransfers : ¬ Obligations.PorterTransfers := by
  rintro ⟨-, -, -, -, -, -, -, hlast, -⟩
  obtain ⟨t, ht, -, -, -, hend⟩ := hlast porterRejected 0 0 okAnswer lastPorterWrite rejectedXfer ⟨0, 1, 0, 0, [], 0, true, 1⟩ rfl rfl rfl rfl
    (by decide +kernel) rfl rfl rfl rfl rfl
  obtain ⟨-, -, hcrc, -⟩ := hend rfl (by decide +kernel) (by decide +kernel) rfl
  obtain rfl : t = (porterRejected.begin.porAnswer 0 (porterRejected.begin.porFind 0 0) okAnswer).settle := next_eq rfl ht
  exact absurd hcrc (by decide +kernel)

/-- A slice past its start whose Porter channel 0 is enabled, with registers for a transfer of one byte. -/
def porterEnabled : State :=
  { State.reset with
    regs := [(SLC_START.STEP.off, 10 <<< SLC_START.STEP.lo), (POR_CH_CTL.word.off, 0x83060000), (POR_CH_COUNT.word.off, 1)] }

/-- START with EN 0 and the fields that `porterEnabled` holds, from the driver. -/
def startDisabled : MgWrite := ⟨.driver, 0x0B060000⟩

/-- Refutes O47: START with EN 0 disables an enabled channel, and while that stops START is not taken: it stays 0. -/
theorem not_porterControl : ¬ Obligations.PorterControl := by
  rintro ⟨hctl, -⟩
  have hadmits : Admits porterEnabled (POR_CH_CTL.word.off + 64 * (0 : BitVec 4).toNat) startDisabled.src :=
    admits_driver (by decide +kernel) _
  obtain ⟨t, ht, -, -, -, -, -, -, -, -, -, -, hstart, -⟩ := hctl porterEnabled (.porterStart 0 startDisabled) 0 startDisabled (.inl rfl) hadmits
  have hexec : exec (.porterStart 0 startDisabled) porterEnabled = .next (porterEnabled.begin.writePorCh 0 startDisabled).settle :=
    settled_mgWrite hadmits (.porterStart 0 startDisabled) (fun u => u.writePorCh 0 startDisabled)
  obtain rfl := next_eq hexec ht
  exact absurd (hstart (by decide +kernel) (by decide +kernel) (by decide +kernel)).1 (by decide +kernel)

/-- Window 0's response to agent 0's request is due on casement 0, whose injector is disarmed and still holds a chain message of its class; the
injector of the Wicket is armed. -/
def windowDue : State :=
  { chainHeldAtCasement with
    regs := [(LNK_STATUS.UP.off, 1), (LNK_INJ_CTL.word.off + LNK_INJ_CTL.word.stride * 5, 0x8400FF00),
      (LNK_INJ_CTL.word.off + LNK_INJ_CTL.word.stride * 7, 0x8400FF00)]
    front := { chainHeldAtCasement.front with winResp := [(0, 0, cmpMsg lineZeroReq stOk)] } }

/-- Refutes O49: the response of a window lets the message that the disarmed injector of its casement holds leave behind it (R372). The state
does not bind that message to the casement: one of the chain passes the injector of its own link, which disarms itself. -/
theorem not_windowsAndAdmission : ¬ Obligations.WindowsAndAdmission := by
  rintro ⟨-, -, -, -, -, hdepart⟩
  obtain ⟨t, ht, -, hfree, -⟩ := hdepart windowDue 0 (0, 0, cmpMsg lineZeroReq stOk) rfl
  obtain rfl : t = (windowDue.begin.windowDepart 0).settle := next_eq rfl ht
  exact absurd ((hfree (by decide +kernel)).2 (LNK_INJ_CTL.word.off + LNK_INJ_CTL.word.stride * 7) (by decide) (by decide)) (by decide +kernel)

end Sys2Proof.Machine
end

section
/-! SETTLED: O51, O57, O58. -/

namespace Sys2Proof.Machine

/-- A start at step 9 whose logical bank 0 is served by a physical bank that STK_BANK_STATE has no bit for, and was charged up to LIMIT. -/
def chargedBeyondRecord : State :=
  { State.reset with
    regs := [(SLC_START.STEP.off, 9 <<< SLC_START.STEP.lo), (STK_ECC_LIMIT.LIMIT.off, 1)]
    stk := { Stacks.init with remap := [(0, 40)], halfBad := [(0, 1)] } }

/-- Refutes O51: the state does not bound the physical bank that serves a logical one, and a bank beyond the bits of STK_BANK_STATE cannot be
shown as retired. -/
theorem not_startsAndSteps : ¬ Obligations.StartsAndSteps := by
  rintro ⟨-, -, -, -, -, -, -, -, hgo, -⟩
  obtain ⟨t, ht, -, -, -, -, hretired, -⟩ := hgo chargedBeyondRecord
  obtain rfl : t = chargedBeyondRecord.begin.goOnline.settle := next_eq rfl ht
  exact absurd (hretired (by decide +kernel) 0 (by decide +kernel) (by decide +kernel) (by decide +kernel)) (by decide +kernel)

/-- A slice past step 1 whose registers list a word that is not aligned, within the loss report. -/
def unalignedLossWord : State :=
  { State.reset with regs := [(SLC_START.STEP.off, 2 <<< SLC_START.STEP.lo), (MIR_LOSS_LO.word.off + 1, 1)] }

/-- Refutes O57: CLEAR empties the whole range of the loss report, and the frame names the aligned words alone; the state does not bind its
words to be aligned. -/
theorem not_mirrorPartner : ¬ Obligations.MirrorPartner := by
  rintro ⟨-, -, -, -, -, -, hclear⟩
  have hadmits : Admits unalignedLossWord MIR_LOSS_CTL.word.off .driver := admits_driver (by decide +kernel) _
  obtain ⟨t, ht, -, -, -, -, hregs⟩ := hclear unalignedLossWord ⟨.driver, 0x80000000⟩ hadmits
  have hexec : exec (.lossReportClear ⟨.driver, 0x80000000⟩) unalignedLossWord =
      .next (unalignedLossWord.begin.writeLoss ⟨.driver, 0x80000000⟩).settle :=
    settled_mgWrite (m := ⟨.driver, 0x80000000⟩) hadmits _ _
  obtain rfl := next_eq hexec ht
  exact absurd (hregs (MIR_LOSS_LO.word.off + 1) (by decide +kernel) (by decide)) (by decide +kernel)

/-- A chain across the seam: context 0 is member 1 of 3, its successor stands in the other half, its token awaits TACK, and it holds a drain
of row 0, which is not empty. -/
def seamDrainHeld : State :=
  { State.reset with
    regs := [(CHN_CTX_CTL.word.off, 0x80000103), (CHN_CTX_SUCC.word.off, 4)]
    ldg := { Ledger.init with rows := [(0, 1)], held := [heldDrain 0] }
    chn := { Chain.init with tokens := [⟨0, 1, 0, 0, 0, 0, 0, 0, 0⟩] } }

/-- Refutes O58: the timeout puts the context into FAULT, which releases the drain that it holds; at a middle member that drain reads and
empties its rows at once (R208), so that the rows do not stay. -/
theorem not_seamAndRestripe : ¬ Obligations.SeamAndRestripe := by
  rintro ⟨hseam, -⟩
  obtain ⟨t, ht, -, -, -, -, -, hrows, -⟩ := hseam seamDrainHeld
  obtain rfl : t = seamDrainHeld.begin.seamTimeout.settle := next_eq rfl ht
  have hempty : seamDrainHeld.begin.seamTimeout.settle.ldg.rows = [] := by decide +kernel
  exact absurd (hempty.symm.trans hrows) (by decide)

end Sys2Proof.Machine
end

section
/-! SUPPORT. Calibration (R61 to R63) and the orderly retirement of banks (R65 to R69). -/

namespace Sys2Proof.Machine

variable (s : State)

theorem State.flag_congr {s t : State} {f : Field} (h : s.rd f = t.rd f) : s.flag f = t.flag f := by
  rw [State.flag_eq, State.flag_eq, h]

/-! ### The grant -/

theorem regRow_calGrant (b : Bool) : regRow b STK_CAL_GRANT.word.off = some ⟨0x04030, 1, 1, 0, 0x8000FFFF, 0x0, 0x0, 0x0, 0x0⟩ := by
  cases b <;> rfl

/-- The written fields of STK_CAL_GRANT. -/
theorem State.plain_calGrant (u : State) (w : Word) :
    (u.plain STK_CAL_GRANT.word.off w).rd STK_CAL_GRANT.LEN_US = fieldGet STK_CAL_GRANT.LEN_US w
      ∧ (u.plain STK_CAL_GRANT.word.off w).rd STK_CAL_GRANT.OPEN = fieldGet STK_CAL_GRANT.OPEN w := by
  have hrow := regRow_calGrant u.s64
  constructor
  · exact (u.rd_plain_same hrow w STK_CAL_GRANT.LEN_US rfl rfl).trans (fieldGet_plainWrite_rw _ _ (by decide))
  · exact (u.rd_plain_same hrow w STK_CAL_GRANT.OPEN rfl rfl).trans (fieldGet_plainWrite_rw _ _ (by decide))

theorem calGrantOpen_spec (s : State) (m : MgWrite) (h : Admits s STK_CAL_GRANT.word.off m.src) :
    ∃ t, exec (.calGrantOpen m) s = .next t ∧ t.rd STK_CAL_GRANT.LEN_US = fieldGet STK_CAL_GRANT.LEN_US m.word
      ∧ t.rd STK_CAL_GRANT.OPEN = (if fieldGet STK_CAL_GRANT.LEN_US m.word = 0 then 0 else fieldGet STK_CAL_GRANT.OPEN m.word)
      ∧ t.out = [answerOut m.src stOk rsnNone 0] ∧ OnlyRegs s t ∧ RegsBut [STK_CAL_GRANT.word.off] s t := by
  let v := s.begin.plain STK_CAL_GRANT.word.off m.word
  obtain ⟨hlen, hopen⟩ := s.begin.plain_calGrant m.word
  have hv : ∀ k, k ≠ STK_CAL_GRANT.word.off → v.word k = s.begin.word k := fun k hk => s.begin.word_plain_other _ hk
  have hform : s.begin.writeCalGrant m =
      (if fieldGet STK_CAL_GRANT.LEN_US m.word = 0 then v.setFlag STK_CAL_GRANT.OPEN false else v).ok m.src := by
    rw [← hlen]; rfl
  refine ⟨_, settled_mgWrite h _ _, ?_⟩
  rw [hform]
  by_cases h0 : fieldGet STK_CAL_GRANT.LEN_US m.word = 0
  · rw [if_pos h0, if_pos h0]
    refine ⟨?_, ?_, by simp [v, State.ok_out], by apply onlyRegs_settle <;> simp [v], fun k hk hp => ?_⟩
    · rw [State.rd_settle, State.rd_ok, State.rd_setFlag_field _ _ (by decide), hlen]
    · rw [State.rd_settle, State.rd_ok, State.rd_setFlag_same _ _ _ (by decide) rfl]; rfl
    · rw [State.word_settle, State.word_ok, State.word_setFlag, if_neg (by simpa using hk), hv k (by simpa using hk)]
      exact s.word_begin k hp
  · rw [if_neg h0, if_neg h0]
    refine ⟨by rw [State.rd_settle, State.rd_ok, hlen], by rw [State.rd_settle, State.rd_ok, hopen], by simp [v, State.ok_out], by apply onlyRegs_settle <;> simp [v], fun k hk hp => ?_⟩
    rw [State.word_settle, State.word_ok, hv k (by simpa using hk)]
    exact s.word_begin k hp

theorem calGrantExpire_spec (s : State) : ∃ t, exec (.calGrantExpire) s = .next t ∧ t.rd STK_CAL_GRANT.OPEN = 0
    ∧ t.rd STK_CAL_GRANT.LEN_US = s.rd STK_CAL_GRANT.LEN_US ∧ t.out = [] ∧ OnlyRegs s t ∧ RegsBut [STK_CAL_GRANT.word.off] s t := by
  refine ⟨(s.begin.setFlag STK_CAL_GRANT.OPEN false).settle, rfl, ?_, ?_, by simp, by apply onlyRegs_settle <;> simp, fun k hk hp => ?_⟩
  · rw [State.rd_settle, State.rd_setFlag_same _ _ _ (by decide) rfl]; rfl
  · rw [State.rd_settle, State.rd_setFlag_field _ _ (by decide), s.begin_rd rfl]
  · rw [State.word_settle, State.word_setFlag, if_neg (by simpa using hk)]
    exact s.word_begin k hp

/-! ### Banks in service -/

/-- Two states with the same build and the same word of STK_BANK_STATE have the same banks in service. -/
theorem State.inService_congr {s t : State} (h64 : s.s64 = t.s64) (hw : s.word STK_BANK_STATE.word.off = t.word STK_BANK_STATE.word.off)
    (p : Nat) : s.inService p = t.inService p := by
  have hrd : ∀ f : Field, f.off = STK_BANK_STATE.word.off → f.stride = 0 → s.rd f = t.rd f := fun f hf hs =>
    State.rdI_congr f 0 (by rw [hf, hs]; exact hw)
  simp only [State.inService, State.isRetired, State.bit, State.flag_eq, State.nb, State.spare, h64, hrd STK_BANK_STATE.RETIRED rfl rfl,
    hrd STK_BANK_STATE.SPARE_USED rfl rfl]
  rfl

theorem State.serviceBanks_congr {s t : State} (h64 : s.s64 = t.s64)
    (hw : s.word STK_BANK_STATE.word.off = t.word STK_BANK_STATE.word.off) : s.serviceBanks = t.serviceBanks := by
  have hnb : s.nb = t.nb := by rw [State.nb, State.nb, h64]
  rw [State.serviceBanks, State.serviceBanks, hnb, funext (State.inService_congr h64 hw)]

/-! ### Trials -/

/-- The code that a trial leaves, from the code before it (R61). -/
def trialCode (old k : Nat) (pass : Bool) : Nat := if pass then k + 2 else if k = 0 then 1 else min old (k + 1)

theorem trialCode_lt (old : Nat) {k : Nat} (hk : k ≤ 4) (pass : Bool) : trialCode old k pass < 16 := by
  unfold trialCode
  split
  · omega
  · split <;> omega

theorem State.calTrial_of_on {bank group k : Nat} {pass : Bool}
    (h : s.flag STK_CAL_GRANT.OPEN = true ∧ s.inService bank = true ∧ k ≤ 4) : s.calTrial bank group k pass =
      (s.wrI STK_CAL_RESULT.CODE (8 * bank + group) (trialCode (s.rdI STK_CAL_RESULT.CODE (8 * bank + group)) k pass)).wrI
        STK_CAL_RESULT.TEMP (8 * bank + group) (s.rd STK_REF_TIER.TEMP) := by
  obtain ⟨hopen, hserve, hk⟩ := h
  rw [State.calTrial, hopen, hserve, if_neg (by simpa using hk)]
  rfl

theorem State.calTrial_of_off {bank group k : Nat} {pass : Bool}
    (h : ¬ (s.flag STK_CAL_GRANT.OPEN = true ∧ s.inService bank = true ∧ k ≤ 4)) : s.calTrial bank group k pass = s := by
  rw [State.calTrial, if_pos]
  simp only [Bool.or_eq_true, Bool.not_eq_true', decide_eq_true_eq]
  by_contra hc
  simp only [not_or, Bool.not_eq_false, not_lt] at hc
  exact h ⟨hc.1.1, hc.1.2, hc.2⟩

theorem calTrial_spec (s : State) (bank : BitVec 5) (g k : BitVec 3) (pass : Bool) :
    let n := 8 * bank.toNat + g.toNat
    let on := s.flag STK_CAL_GRANT.OPEN = true ∧ s.inService bank.toNat = true ∧ k.toNat ≤ 4
    ∃ t, exec (.calibrationTrial bank g k pass) s = .next t ∧ (on → t.rdI STK_CAL_RESULT.CODE n = (if pass then k.toNat + 2 else if
        k.toNat = 0 then 1 else min (s.rdI STK_CAL_RESULT.CODE n) (k.toNat + 1)))
      ∧ (on → t.rdI STK_CAL_RESULT.TEMP n = s.rd STK_REF_TIER.TEMP) ∧ (¬ on → RegsBut [] s t) ∧ t.out = [] ∧ OnlyRegs s t
      ∧ RegsBut [STK_CAL_RESULT.word.off + STK_CAL_RESULT.word.stride * n] s t := by
  intro n on
  have hbank : bank.toNat < 32 := bank.isLt
  have hg : g.toNat < 8 := g.isLt
  have hopen : s.begin.flag STK_CAL_GRANT.OPEN = s.flag STK_CAL_GRANT.OPEN := s.begin_flag rfl
  have hserve : s.begin.inService bank.toNat = s.inService bank.toNat := State.inService_congr s.begin_s64 (s.word_begin _ rfl) _
  refine ⟨(s.begin.calTrial bank.toNat g.toNat k.toNat pass).settle, rfl, ?_⟩
  by_cases hon : on
  · have hold : s.begin.rdI STK_CAL_RESULT.CODE n = s.rdI STK_CAL_RESULT.CODE n := s.begin_rdI _ _ (by simp [pmuBlock]; omega)
    have hform := s.begin.calTrial_of_on (bank := bank.toNat) (group := g.toNat) (pass := pass)
      ⟨hopen.trans hon.1, hserve.trans hon.2.1, hon.2.2⟩
    rw [hold, s.begin_rd (f := STK_REF_TIER.TEMP) rfl] at hform
    rw [hform]
    refine ⟨fun _ => ?_, fun _ => ?_, fun h => absurd hon h, by simp, by apply onlyRegs_settle <;> simp, fun j hj hp => ?_⟩
    · rw [State.rdI_settle, State.rdI_wrI_field _ _ _ _ _ _ (by decide), State.rdI_wrI_same _ _ _ _ (by decide)]
      exact Nat.mod_eq_of_lt (trialCode_lt _ hon.2.2 pass)
    · rw [State.rdI_settle, State.rdI_wrI_same _ _ _ _ (by decide)]
      exact Nat.mod_eq_of_lt (s.rdI_lt STK_REF_TIER.TEMP 0)
    · rw [State.word_settle, State.word_wrI, if_neg (by simpa using hj), State.word_wrI, if_neg (by simpa using hj)]
      exact s.word_begin j hp
  · have hform := s.begin.calTrial_of_off (bank := bank.toNat) (group := g.toNat) (k := k.toNat) (pass := pass)
      (by rw [hopen, hserve]; exact hon)
    rw [hform]
    exact ⟨fun h => absurd h hon, fun h => absurd h hon, fun _ j _ hp => s.word_begin j hp, by simp,
      by apply onlyRegs_settle <;> simp, fun j _ hp => s.word_begin j hp⟩

/-! ### The end of a calibration -/

/-- At most registers, the walks and the copy's place change. -/
def OnlyWalk (s u : State) : Prop :=
  u = { s with regs := u.regs, stk := { s.stk with walk := u.stk.walk, walkQ := u.stk.walkQ, copyPos := u.stk.copyPos } }

theorem OnlyWalk.refl (s : State) : OnlyWalk s s := rfl

theorem OnlyWalk.trans {s t u : State} (hst : OnlyWalk s t) (htu : OnlyWalk t u) : OnlyWalk s u := by
  unfold OnlyWalk at *
  rw [htu, hst]

theorem OnlyRegFile.onlyWalk {s u : State} (h : OnlyRegFile s u) : OnlyWalk s u := by
  unfold OnlyRegFile at h
  rw [h]
  rfl

theorem onlyWalk_nextWalk : OnlyWalk s s.nextWalk := by
  unfold State.nextWalk
  split <;> rfl

/-- A retirement that begins changes STK_BANK_STATE, the walks and the copy's place. -/
theorem onlyWalk_retireOrderly (k : Nat) : OnlyWalk s (s.retireOrderly k) := by
  unfold State.retireOrderly
  split
  · rfl
  · split
    · rfl
    · exact OnlyWalk.trans (t := { s with stk := { s.stk with walkQ := s.stk.walkQ ++ [(k, false)] } }) rfl (onlyWalk_nextWalk _)

theorem State.word_nextWalk (j : Nat) : s.nextWalk.word j = s.word j := by
  unfold State.nextWalk
  split <;> rfl

theorem State.word_retireOrderly (k : Nat) {j : Nat} (hj : j ≠ STK_BANK_STATE.word.off) : (s.retireOrderly k).word j = s.word j := by
  unfold State.retireOrderly
  split
  · rfl
  · split
    · exact (State.word_wr ..).trans ((if_neg hj).trans ((State.word_setFlag ..).trans (if_neg hj)))
    · exact State.word_nextWalk ..

/-- While the spare is free and no copy runs, the retirement of a bank is its copy into the spare. -/
theorem State.retireOrderly_copy {k : Nat} (hk : s.retiring k = false) (hused : s.flag STK_BANK_STATE.SPARE_USED = false)
    (hbusy : s.flag STK_BANK_STATE.COPY_BUSY = false) (hspare : s.isRetired s.spare = false) : s.retireOrderly k =
      (({ s with stk := { s.stk with copyPos := 0 } }).setFlag STK_BANK_STATE.COPY_BUSY true).wr STK_BANK_STATE.COPY_SRC k := by
  rw [State.retireOrderly, hk, hused, hbusy, hspare]
  rfl

/-- The weak banks retire one after another. -/
def State.retireWeak (s : State) (weak : List Nat) : State :=
  weak.foldl (fun s b => match s.logicalOf b with
    | some k => s.retireOrderly k
    | none => s) s

theorem onlyWalk_retireWeak (weak : List Nat) : OnlyWalk s (s.retireWeak weak) := by
  induction weak generalizing s with
  | nil => rfl
  | cons b weak ih =>
    refine OnlyWalk.trans ?_ (ih _)
    beta_reduce
    split
    · exact onlyWalk_retireOrderly ..
    · rfl

theorem State.word_retireWeak (weak : List Nat) {j : Nat} (hj : j ≠ STK_BANK_STATE.word.off) : (s.retireWeak weak).word j = s.word j := by
  induction weak generalizing s with
  | nil => rfl
  | cons b weak ih =>
    refine (ih _).trans ?_
    beta_reduce
    split
    · exact State.word_retireOrderly _ _ hj
    · rfl

/-- Every group of every bank in service has a result of at least 4. -/
def State.calGood (s : State) : Bool :=
  s.serviceBanks.all (fun b => (List.range 8).all (fun g => decide (4 ≤ s.rdI STK_CAL_RESULT.CODE (8 * b + g))))

/-- The banks in service with a group whose result is 1. -/
def State.calWeak (s : State) : List Nat :=
  s.serviceBanks.filter (fun b => (List.range 8).any (fun g => s.rdI STK_CAL_RESULT.CODE (8 * b + g) = 1))

/-- CAL_OK and the tier after a complete calibration. -/
def State.calShown (s : State) : State := (s.setFlag STK_REF_TIER.CAL_OK (s.calGood && !s.start.calHeld)).tierCheck

theorem State.calComplete_eq : s.calComplete = s.calShown.retireWeak s.calWeak := rfl

theorem State.lt_of_mem_serviceBanks {b : Nat} (h : b ∈ s.serviceBanks) : b < 17 := by
  have hlt := List.mem_range.mp (List.mem_filter.mp h).1
  rw [State.nb] at hlt
  split at hlt <;> omega

/-- The results of banks in service lie outside the PMU's block. -/
theorem State.begin_calCode {b g : Nat} (hb : b < 17) (hg : g < 8) :
    s.begin.rdI STK_CAL_RESULT.CODE (8 * b + g) = s.rdI STK_CAL_RESULT.CODE (8 * b + g) :=
  s.begin_rdI _ _ (by simp [pmuBlock]; omega)

theorem State.begin_serviceBanks : s.begin.serviceBanks = s.serviceBanks := State.serviceBanks_congr s.begin_s64 (s.word_begin _ rfl)

theorem State.begin_calGood : s.begin.calGood = s.calGood := by
  rw [Bool.eq_iff_iff]
  simp only [State.calGood, s.begin_serviceBanks, List.all_eq_true]
  refine forall₂_congr (fun b hb => forall₂_congr (fun g hg => ?_))
  rw [s.begin_calCode (s.lt_of_mem_serviceBanks hb) (List.mem_range.mp hg)]

theorem State.begin_calWeak : s.begin.calWeak = s.calWeak := by
  unfold State.calWeak
  rw [s.begin_serviceBanks]
  refine List.filter_congr (fun b hb => ?_)
  rw [Bool.eq_iff_iff]
  simp only [List.any_eq_true]
  refine exists_congr (fun g => and_congr_right (fun hg => ?_))
  rw [s.begin_calCode (s.lt_of_mem_serviceBanks hb) (List.mem_range.mp hg)]

theorem onlyRegFile_calShown : OnlyRegFile s s.calShown := by
  unfold State.calShown State.tierCheck
  split <;> rfl

theorem State.word_calShown {j : Nat} (hj : j ≠ STK_REF_TIER.word.off) : s.calShown.word j = s.word j := by
  unfold State.calShown State.tierCheck
  split
  · rw [State.word_setFlag, if_neg hj]
  · rw [State.word_wr, if_neg hj, State.word_setFlag, if_neg hj]

theorem State.calShown_calOk : s.calShown.rd STK_REF_TIER.CAL_OK = (s.calGood && !s.start.calHeld).toNat := by
  unfold State.calShown State.tierCheck
  split
  · rw [State.rd_setFlag_same _ _ _ (by decide) rfl]
  · rw [State.rd_wr_field _ _ (by decide), State.rd_setFlag_same _ _ _ (by decide) rfl]

/-- The tier is HOT wherever COOL is not permitted. -/
theorem State.calShown_hot (h : s.cfg.coolOk = false ∨ s.rd STK_REF_TIER.FLOOR ≠ 0 ∨ s.calGood = false) :
    s.calShown.rd STK_REF_TIER.TIER = 1 := by
  have hcool : (s.setFlag STK_REF_TIER.CAL_OK (s.calGood && !s.start.calHeld)).coolAllowed = false := by
    have hok := s.rd_setFlag_same STK_REF_TIER.CAL_OK (s.calGood && !s.start.calHeld) (by decide) rfl
    have hfloor := s.rd_setFlag_field (f := STK_REF_TIER.CAL_OK) (g := STK_REF_TIER.FLOOR) (s.calGood && !s.start.calHeld) (by decide)
    rw [State.coolAllowed, State.flag_eq, hok, hfloor, State.setFlag_cfg]
    rcases h with h | h | h <;> simp [h]
  rw [State.calShown, State.tierCheck, hcool, if_neg Bool.false_ne_true, State.rd_wr_same _ _ _ (by decide)]
  rfl

/-- The walks and the copy's place of one state put into another. -/
def State.withWalk (s t : State) : State :=
  { s with stk := { s.stk with walk := t.stk.walk, walkQ := t.stk.walkQ, copyPos := t.stk.copyPos } }

theorem OnlyWalk.onlyRegs {s u : State} (h : OnlyWalk s.begin u) : OnlyRegs (s.withWalk u.settle) u.settle := by
  unfold OnlyWalk at h
  generalize u.regs = R, u.stk.walk = W, u.stk.walkQ = Q, u.stk.copyPos = P at h
  subst h
  apply onlyRegs_settle <;> simp [State.withWalk]

theorem OnlyWalk.out {s u : State} (h : OnlyWalk s u) : u.out = s.out := by
  unfold OnlyWalk at h
  rw [h]

/-- Which copies, retirements and lost banks there are is told by STK_BANK_STATE and the stacks' unit. -/
theorem State.logicalOf_congr {s t : State} (h64 : s.s64 = t.s64) (hstk : s.stk = t.stk) : s.logicalOf = t.logicalOf := by
  funext b
  simp only [State.logicalOf, State.nb, State.phys, h64, hstk]
  rfl

theorem State.lt_of_logicalOf {b k : Nat} (h : s.logicalOf b = some k) : k < 32 := by
  have hlt := List.mem_range.mp (List.mem_of_find?_eq_some h)
  rw [State.nb] at hlt
  split at hlt <;> omega

theorem State.isRetired_congr {s t : State} (hw : s.word STK_BANK_STATE.word.off = t.word STK_BANK_STATE.word.off) (p : Nat) :
    s.isRetired p = t.isRetired p := by
  rw [State.isRetired, State.isRetired, State.bit, State.bit, State.rd, State.rd, State.rdI_congr STK_BANK_STATE.RETIRED 0 hw]

theorem State.retiring_congr {s t : State} (hstk : s.stk = t.stk) (hw : s.word STK_BANK_STATE.word.off = t.word STK_BANK_STATE.word.off)
    (k : Nat) : s.retiring k = t.retiring k := by
  have hrd : ∀ f : Field, f.off = STK_BANK_STATE.word.off → f.stride = 0 → s.rd f = t.rd f := fun f hf hs =>
    State.rdI_congr f 0 (by rw [hf, hs]; exact hw)
  simp only [State.retiring, State.flag_eq, hstk, hrd STK_BANK_STATE.COPY_BUSY rfl rfl, hrd STK_BANK_STATE.COPY_SRC rfl rfl]

theorem OnlyRegFile.stk {s u : State} (h : OnlyRegFile s u) : u.stk = s.stk := by
  unfold OnlyRegFile at h
  rw [h]

theorem OnlyRegFile.s64 {s u : State} (h : OnlyRegFile s u) : u.s64 = s.s64 := by
  unfold OnlyRegFile at h
  rw [h]

/-- One weak bank, whose logical bank may be copied into the free spare: the copy is begun. -/
theorem calComplete_copy {b k : Nat} (hweak : s.calWeak = [b]) (hb : s.logicalOf b = some k) (hk : s.retiring k = false)
    (hused : s.flag STK_BANK_STATE.SPARE_USED = false) (hbusy : s.flag STK_BANK_STATE.COPY_BUSY = false)
    (hspare : s.isRetired s.spare = false) :
    s.calComplete.rd STK_BANK_STATE.COPY_BUSY = 1 ∧ s.calComplete.rd STK_BANK_STATE.COPY_SRC = k := by
  have hfile := onlyRegFile_calShown s
  have h64 := hfile.s64
  have hstk := hfile.stk
  have hword : s.calShown.word STK_BANK_STATE.word.off = s.word STK_BANK_STATE.word.off := s.word_calShown (by decide)
  have hflag : ∀ f : Field, f.off = STK_BANK_STATE.word.off → f.stride = 0 → s.calShown.flag f = s.flag f := fun f hf hs =>
    State.flag_congr (State.rdI_congr f 0 (by rw [hf, hs]; exact hword))
  have hsp : s.calShown.spare = s.spare := by rw [State.spare, State.spare, State.nb, State.nb, h64]
  have hform : s.calComplete = s.calShown.retireOrderly k := by
    rw [State.calComplete_eq, hweak]
    change (match s.calShown.logicalOf b with | some k => s.calShown.retireOrderly k | none => s.calShown) = _
    rw [State.logicalOf_congr h64 hstk, hb]
  rw [hform, State.retireOrderly_copy _ ((State.retiring_congr hstk hword k).trans hk) ((hflag STK_BANK_STATE.SPARE_USED rfl rfl).trans hused)
    ((hflag STK_BANK_STATE.COPY_BUSY rfl rfl).trans hbusy) (by rw [hsp, State.isRetired_congr hword]; exact hspare)]
  constructor
  · rw [State.rd_wr_field _ _ (by decide), State.rd_setFlag_same _ _ _ (by decide) rfl]
    rfl
  · rw [State.rd_wr_same _ _ _ (by decide)]
    exact Nat.mod_eq_of_lt (s.lt_of_logicalOf hb)

theorem onlyWalk_calComplete : OnlyWalk s s.calComplete := (onlyRegFile_calShown s).onlyWalk.trans (onlyWalk_retireWeak _ _)

/-- Of the registers, a complete calibration writes STK_REF_TIER and STK_BANK_STATE. -/
theorem State.word_calComplete {j : Nat} (ht : j ≠ STK_REF_TIER.word.off) (hb : j ≠ STK_BANK_STATE.word.off) :
    s.calComplete.word j = s.word j := (State.word_retireWeak _ _ hb).trans (s.word_calShown ht)

/-- Without a weak bank a complete calibration is its outcome in STK_REF_TIER. -/
theorem State.calComplete_of_strong (h : s.calWeak = []) : s.calComplete = s.calShown := by
  rw [State.calComplete_eq, h]
  rfl

/-- The outcome in STK_REF_TIER stands while banks retire. -/
theorem State.calComplete_tier {f : Field} (hf : f.off = STK_REF_TIER.word.off) (hs : f.stride = 0) :
    s.calComplete.rd f = s.calShown.rd f :=
  State.rdI_congr f 0 (State.word_retireWeak _ _ (by rw [hf, hs]; decide))

theorem calibrationComplete_spec (s : State) :
    let good := s.serviceBanks.all (fun b => (List.range 8).all (fun g => decide (4 ≤ s.rdI STK_CAL_RESULT.CODE (8 * b + g))))
    let weak := s.serviceBanks.filter (fun b => (List.range 8).any (fun g => s.rdI STK_CAL_RESULT.CODE (8 * b + g) = 1))
    ∃ t, exec (.calibrationComplete) s = .next t ∧ t.rd STK_REF_TIER.CAL_OK = (good && !s.start.calHeld).toNat
      ∧ (s.cfg.coolOk = false ∨ s.rd STK_REF_TIER.FLOOR ≠ 0 ∨ good = false → t.rd STK_REF_TIER.TIER = 1)
      ∧ (weak = [] → t.stk = s.stk ∧ RegsBut [STK_REF_TIER.word.off] s t)
      ∧ (weak.length = 1 → s.flag STK_BANK_STATE.SPARE_USED = false → s.flag STK_BANK_STATE.COPY_BUSY = false →
        s.isRetired s.spare = false → ∀ k : Nat, weak.head?.bind s.logicalOf = some k → s.retiring k = false →
          t.rd STK_BANK_STATE.COPY_BUSY = 1 ∧ t.rd STK_BANK_STATE.COPY_SRC = k)
      ∧ t.out = []
      ∧ OnlyRegs { s with stk := { s.stk with walk := t.stk.walk, walkQ := t.stk.walkQ, copyPos := t.stk.copyPos } } t
      ∧ RegsBut [STK_REF_TIER.word.off, STK_BANK_STATE.word.off] s t := by
  intro good weak
  have hgood : s.begin.calGood = good := s.begin_calGood
  have hweak : s.begin.calWeak = weak := s.begin_calWeak
  refine ⟨s.begin.calComplete.settle, rfl, ?_, ?_, fun hnil => ⟨?_, fun j hj hp => ?_⟩, ?_, ?_,
    (onlyWalk_calComplete s.begin).onlyRegs, fun j hj hp => ?_⟩
  · rw [State.rd_settle, State.calComplete_tier _ (f := STK_REF_TIER.CAL_OK) rfl rfl, State.calShown_calOk, hgood, State.begin_start]
  · intro h
    rw [State.rd_settle, State.calComplete_tier _ (f := STK_REF_TIER.TIER) rfl rfl]
    exact State.calShown_hot _ (by rwa [hgood, State.begin_cfg, s.begin_rd rfl])
  · rw [State.settle_stk, State.calComplete_of_strong _ (hweak.trans hnil), (onlyRegFile_calShown _).stk, State.begin_stk]
  · rw [State.word_settle, State.calComplete_of_strong _ (hweak.trans hnil), State.word_calShown _ (by simpa using hj)]
    exact s.word_begin j hp
  · intro hlen hused hbusy hspare k hk hret
    obtain ⟨b, hb⟩ := List.length_eq_one_iff.mp hlen
    have hlog : s.logicalOf b = some k := by rw [hb] at hk; exact hk
    have hword : s.begin.word STK_BANK_STATE.word.off = s.word STK_BANK_STATE.word.off := s.word_begin _ rfl
    rw [State.rd_settle, State.rd_settle]
    refine calComplete_copy s.begin (hweak.trans hb) ((congrFun (State.logicalOf_congr s.begin_s64 s.begin_stk) b).trans hlog)
      ((State.retiring_congr s.begin_stk hword k).trans hret) ((s.begin_flag rfl).trans hused) ((s.begin_flag rfl).trans hbusy) ?_
    rw [State.isRetired_congr hword, State.spare, State.nb, s.begin_s64]
    exact hspare
  · rw [State.settle_out, (onlyWalk_calComplete s.begin).out, State.begin_out]
  · simp only [List.mem_cons, List.not_mem_nil, or_false, not_or] at hj
    rw [State.word_settle, State.word_calComplete _ hj.1 hj.2]
    exact s.word_begin j hp

/-- Settles O36: grant, trials, and the end of a calibration, each through what it writes of STK_CAL_GRANT, STK_CAL_RESULT,
STK_REF_TIER and STK_BANK_STATE. -/
theorem calibrationOfRefresh : Obligations.CalibrationOfRefresh :=
  ⟨calGrantOpen_spec, calGrantExpire_spec, calTrial_spec, calibrationComplete_spec⟩

end Sys2Proof.Machine
end

section
/-! SUPPORT. Reads of a field after writes of other fields, and of the fault log's pending bits. -/

namespace Sys2Proof.Machine

variable (s : State)

/-! ### Fields apart -/

/-- Two fields share no bit of a register. -/
abbrev Apart (f g : Field) : Prop := g.off ≠ f.off ∨ g.lo + g.w ≤ f.lo ∨ f.lo + f.w ≤ g.lo

theorem State.rd_wr_apart {f g : Field} (v : Nat) (h : Apart f g) :
    (s.wr f v).rd g = s.rd g := h.elim (s.rd_wr_other v) (s.rd_wr_field v)

theorem State.rd_setFlag_apart {f g : Field} (b : Bool) (h : Apart f g) :
    (s.setFlag f b).rd g = s.rd g := s.rd_wr_apart _ h

theorem State.rd_bump_apart {f g : Field} (n : Nat) (h : Apart f g) :
    (s.bump f n).rd g = s.rd g := s.rd_wr_apart _ h

/-- A counter that saturates. -/
theorem State.rd_bump_same (f : Field) (n : Nat) (h : f.lo + f.w ≤ 32) : (s.bump f n).rd f = min (s.rd f + n) (2 ^ f.w - 1) := by
  refine (s.rd_wr_same f _ h).trans (Nat.mod_eq_of_lt ?_)
  have : 0 < 2 ^ f.w := Nat.two_pow_pos _
  change min (s.rd f + n) (2 ^ f.w - 1) < _
  omega

theorem State.rd_setBit_apart {f g : Field} (k : Nat) (b : Bool) (h : Apart f g) :
    (s.setBit f k b).rd g = s.rd g := s.rd_wr_apart _ h

/-- A bit of a register that is set. -/
theorem State.rd_setBit_true (f : Field) {k : Nat} (h : f.lo + f.w ≤ 32) (hk : k < f.w) :
    (s.setBit f k true).rd f = s.rd f ||| 2 ^ k := by
  refine (s.rd_wr_same f _ h).trans (Nat.mod_eq_of_lt ?_)
  exact Nat.or_lt_two_pow (s.rdI_lt f 0) (Nat.pow_lt_pow_right (by decide) hk)

/-! ### The fault log -/

theorem State.rd_fault {f : Field} {cls : Nat} (h : f.off ∉ faultRegs cls) (hs : f.stride = 0) (code sev detail : Nat)
    (loc : Option LineAddr) (status kind src : Nat) (irq : Bool) :
    (s.fault cls code sev detail loc status kind src irq).rd f = s.rd f :=
  State.rdI_congr f 0 (s.word_fault cls code sev detail loc status kind src irq _ (by rw [hs]; simpa using h))

/-- A fault that interrupts, or of severity 2 and above, makes its class pending (R363). -/
theorem State.rd_fault_pend {cls code sev : Nat} (hc : cls < 16) {irq : Bool} (h : (irq || decide (sev ≥ 2)) = true) (detail : Nat)
    (loc : Option LineAddr) (status kind src : Nat) :
    (s.fault cls code sev detail loc status kind src irq).rd ERR_STATUS.PEND = s.rd ERR_STATUS.PEND ||| 2 ^ cls := by
  have hcnt : (s.bumpI ERR_CNT.COUNT cls).rd ERR_STATUS.PEND = s.rd ERR_STATUS.PEND :=
    (s.rdI_wrI_other ERR_CNT.COUNT ERR_STATUS.PEND cls 0 _ (by simp only; omega))
  have hset : ((s.bumpI ERR_CNT.COUNT cls).setBit ERR_STATUS.PEND cls true).rd ERR_STATUS.PEND = s.rd ERR_STATUS.PEND ||| 2 ^ cls := by
    rw [State.rd_setBit_true _ _ (by decide) hc, hcnt]
  unfold State.fault
  extract_lets a b c d
  have hb : b = a.setBit ERR_STATUS.PEND cls true := if_pos h
  split
  · rw [hb]; exact hset
  · split
    · rw [State.rd_bump_apart _ _ (by decide), hb]; exact hset
    · exact (State.rdI_congr _ 0 (State.word_congr rfl rfl _)).trans ((congrArg (State.rd · _) hb).trans hset)

/-- What a fault leaves of the fault log is all that it changes besides registers. -/
theorem State.fault_eq (cls code sev detail : Nat) (loc : Option LineAddr) (status kind src : Nat) (irq : Bool) :
    s.fault cls code sev detail loc status kind src irq =
      { s with regs := (s.fault cls code sev detail loc status kind src irq).regs,
               err := (s.fault cls code sev detail loc status kind src irq).err } := by
  unfold State.fault
  extract_lets a b c d
  have hb : b = { s with regs := b.regs } := by
    change (ite _ _ _ : State) = { s with regs := (ite _ _ _ : State).regs }
    split <;> rfl
  split
  · rw [hb]
  · split
    · rw [hb]; rfl
    · rw [hb]

end Sys2Proof.Machine
end

section
/-! SUPPORT. The Curator's watchdog (R366 to R368) and the boot loader's start (R290). -/

namespace Sys2Proof.Machine

variable (s : State)

/-! ### The Curator held and released -/

/-- At most registers, the Curator, what waits in its lane and the fault log change. -/
def OnlyCur (s u : State) : Prop :=
  u = { s with regs := u.regs, cur := u.cur, front := { s.front with curLane := u.front.curLane }, err := u.err }

theorem OnlyCur.trans {s t u : State} (hst : OnlyCur s t) (htu : OnlyCur t u) : OnlyCur s u := by
  unfold OnlyCur at *
  rw [htu, hst]

theorem OnlyRegFile.onlyCur {s u : State} (h : OnlyRegFile s u) : OnlyCur s u := by
  unfold OnlyRegFile at h
  rw [h]
  rfl

theorem onlyCur_fault (cls code sev detail : Nat) (loc : Option LineAddr) (status kind src : Nat) (irq : Bool) :
    OnlyCur s (s.fault cls code sev detail loc status kind src irq) := by
  rw [State.fault_eq]
  rfl

theorem State.word_withCur (c : Cur) (k : Nat) : ({ s with cur := c }).word k = s.word k := rfl
theorem State.rd_withCur (c : Cur) (f : Field) : ({ s with cur := c }).rd f = s.rd f := rfl

/-- The Curator's unit while it is held: no stage, nothing in its lane. -/
def State.curStopped (s : State) : State := { s with cur := { s.cur with stage := 0 }, front := { s.front with curLane := [] } }

theorem State.word_curStopped (k : Nat) : s.curStopped.word k = s.word k := rfl
theorem State.rd_curStopped (f : Field) : s.curStopped.rd f = s.rd f := rfl

theorem State.holdCurator_eq : s.holdCurator = (((((s.curStopped.setFlag CUR_WDT_STATUS.ARMED false).wr CUR_WDT_STATUS.REMAIN 0).setFlag
    CUR_MBX_DB.POST false).setFlag CUR_MBX_DB.C2H_PEND false).wr CUR_MBX_DB.C2H_LEN 0) := rfl

/-- What the boot loader's start clears beside the hold of the Curator. -/
def State.fwCleared (s : State) : State :=
  ((s.holdCurator.wr CUR_FW_STATUS.STATE 0).setFlag CUR_FW_CTL.DONE false).setFlag CUR_FW_CTL.ALIVE false

theorem State.loaderStart_eq : s.loaderStart = { s.fwCleared with cur := { s.fwCleared.cur with stage := 1 } } := rfl

theorem onlyRegFile_wr (f : Field) (v : Nat) : OnlyRegFile s (s.wr f v) := rfl
theorem onlyRegFile_setFlag (f : Field) (b : Bool) : OnlyRegFile s (s.setFlag f b) := rfl

theorem onlyCur_holdCurator : OnlyCur s s.holdCurator := by
  have hstop : OnlyCur s s.curStopped := rfl
  rw [State.holdCurator_eq]
  refine hstop.trans (OnlyRegFile.onlyCur ?_)
  exact (onlyRegFile_setFlag _ _ _).trans ((onlyRegFile_wr _ _ _).trans ((onlyRegFile_setFlag _ _ _).trans
    ((onlyRegFile_setFlag _ _ _).trans (onlyRegFile_wr _ _ _))))

theorem onlyCur_loaderStart : OnlyCur s s.loaderStart := by
  have hstage : ∀ u : State, OnlyCur u { u with cur := { u.cur with stage := 1 } } := fun _ => rfl
  rw [State.loaderStart_eq]
  refine OnlyCur.trans ?_ (hstage _)
  refine (onlyCur_holdCurator s).trans (OnlyRegFile.onlyCur ?_)
  exact (onlyRegFile_wr _ _ _).trans ((onlyRegFile_setFlag _ _ _).trans (onlyRegFile_setFlag _ _ _))

theorem onlyCur_loaderRelease : OnlyCur s s.loaderRelease := (onlyRegFile_wr s _ _).onlyCur.trans (onlyCur_loaderStart _)

theorem State.holdCurator_cur : s.holdCurator.cur = { s.cur with stage := 0 } := by simp [State.holdCurator_eq, State.curStopped]
theorem State.holdCurator_front : s.holdCurator.front = { s.front with curLane := [] } := by simp [State.holdCurator_eq, State.curStopped]
theorem State.fwCleared_cur : s.fwCleared.cur = { s.cur with stage := 0 } := by
  rw [State.fwCleared, State.setFlag_cur, State.setFlag_cur, State.wr_cur, State.holdCurator_cur]
theorem State.fwCleared_front : s.fwCleared.front = { s.front with curLane := [] } := by
  rw [State.fwCleared, State.setFlag_front, State.setFlag_front, State.wr_front, State.holdCurator_front]
theorem State.cur_withCur (c : Cur) : ({ s with cur := c }).cur = c := rfl
theorem State.front_withCur (c : Cur) : ({ s with cur := c }).front = s.front := rfl
theorem State.loaderStart_cur : s.loaderStart.cur = { s.cur with stage := 1 } := by
  rw [State.loaderStart_eq, State.cur_withCur, State.fwCleared_cur]
theorem State.loaderStart_front : s.loaderStart.front = { s.front with curLane := [] } := by
  rw [State.loaderStart_eq, State.front_withCur, State.fwCleared_front]
theorem State.loaderRelease_cur : s.loaderRelease.cur = { s.cur with stage := 1 } := State.loaderStart_cur _
theorem State.loaderRelease_front : s.loaderRelease.front = { s.front with curLane := [] } := State.loaderStart_front _

/-- The registers that the boot loader's start writes. -/
def loaderRegs : List Nat := [CUR_WDT_STATUS.word.off, CUR_FW_STATUS.word.off, CUR_FW_CTL.word.off, CUR_MBX_DB.word.off]

theorem State.word_holdCurator {k : Nat} (h : k ∉ loaderRegs) : s.holdCurator.word k = s.word k := by
  simp only [loaderRegs, List.mem_cons, List.not_mem_nil, or_false, not_or] at h
  obtain ⟨hwdt, -, -, hdb⟩ := h
  rw [State.holdCurator_eq, State.word_wr, if_neg hdb, State.word_setFlag, if_neg hdb, State.word_setFlag, if_neg hdb, State.word_wr,
    if_neg hwdt, State.word_setFlag, if_neg hwdt, State.word_curStopped]

theorem State.word_loaderStart {k : Nat} (h : k ∉ loaderRegs) : s.loaderStart.word k = s.word k := by
  refine Eq.trans ?_ (s.word_holdCurator h)
  simp only [loaderRegs, List.mem_cons, List.not_mem_nil, or_false, not_or] at h
  obtain ⟨-, hst, hctl, -⟩ := h
  rw [State.loaderStart_eq, State.word_withCur, State.fwCleared, State.word_setFlag, if_neg hctl, State.word_setFlag, if_neg hctl, State.word_wr, if_neg hst]

theorem State.word_loaderRelease {k : Nat} (h : k ∉ loaderRegs) : s.loaderRelease.word k = s.word k := by
  rw [State.loaderRelease, State.word_loaderStart _ h, State.word_wr, if_neg]
  rintro rfl
  exact h (by decide)

/-- A field that the hold of the Curator does not write. -/
theorem State.rd_holdCurator {g : Field} (ha : Apart CUR_WDT_STATUS.ARMED g) (hr : Apart CUR_WDT_STATUS.REMAIN g)
    (hp : Apart CUR_MBX_DB.POST g) (hc : Apart CUR_MBX_DB.C2H_PEND g) (hl : Apart CUR_MBX_DB.C2H_LEN g) :
    s.holdCurator.rd g = s.rd g := by
  rw [State.holdCurator_eq, State.rd_wr_apart _ _ hl, State.rd_setFlag_apart _ _ hc, State.rd_setFlag_apart _ _ hp,
    State.rd_wr_apart _ _ hr, State.rd_setFlag_apart _ _ ha, State.rd_curStopped]

theorem State.rd_holdCurator_armed : s.holdCurator.rd CUR_WDT_STATUS.ARMED = 0 := by
  rw [State.holdCurator_eq, State.rd_wr_apart _ _ (by decide), State.rd_setFlag_apart _ _ (by decide),
    State.rd_setFlag_apart _ _ (by decide), State.rd_wr_apart _ _ (by decide), State.rd_setFlag_same _ _ _ (by decide) rfl]
  rfl

/-- A field that the boot loader's start does not write beside those of the hold. -/
theorem State.rd_loaderStart {g : Field} (hs : Apart CUR_FW_STATUS.STATE g) (hd : Apart CUR_FW_CTL.DONE g)
    (ha : Apart CUR_FW_CTL.ALIVE g) : s.loaderStart.rd g = s.holdCurator.rd g := by
  rw [State.loaderStart_eq, State.rd_withCur, State.fwCleared, State.rd_setFlag_apart _ _ ha, State.rd_setFlag_apart _ _ hd,
    State.rd_wr_apart _ _ hs]

theorem State.rd_loaderStart_state : s.loaderStart.rd CUR_FW_STATUS.STATE = 0 := by
  rw [State.loaderStart_eq, State.rd_withCur, State.fwCleared, State.rd_setFlag_apart _ _ (by decide),
    State.rd_setFlag_apart _ _ (by decide), State.rd_wr_same _ _ _ (by decide), Nat.zero_mod]

theorem State.rd_loaderRelease_attempt : s.loaderRelease.rd CUR_FW_STATUS.ATTEMPT = 0 := by
  rw [State.loaderRelease, State.rd_loaderStart _ (by decide) (by decide) (by decide),
    State.rd_holdCurator _ (by decide) (by decide) (by decide) (by decide) (by decide), State.rd_wr_same _ _ _ (by decide)]
  rfl

/-- A field that the boot loader's release does not write. -/
theorem State.rd_loaderRelease {g : Field} (hs : Apart CUR_FW_STATUS.STATE g) (hd : Apart CUR_FW_CTL.DONE g)
    (ha : Apart CUR_FW_CTL.ALIVE g) (hat : Apart CUR_FW_STATUS.ATTEMPT g) (hw : Apart CUR_WDT_STATUS.ARMED g)
    (hr : Apart CUR_WDT_STATUS.REMAIN g)
    (hp : Apart CUR_MBX_DB.POST g) (hc : Apart CUR_MBX_DB.C2H_PEND g) (hl : Apart CUR_MBX_DB.C2H_LEN g) :
    s.loaderRelease.rd g = s.rd g := by
  rw [State.loaderRelease, State.rd_loaderStart _ hs hd ha, State.rd_holdCurator _ hw hr hp hc hl, State.rd_wr_apart _ _ hat]

/-! ### An expiry -/

/-- The Curator held and the expiry counted. -/
def State.wdtCounted (s : State) : State := (s.holdCurator.bump CUR_WDT_STATUS.EXPIRIES).wr CUR_FW_STATUS.STATE 0

/-- The expiry's own fault of class 11. -/
def State.wdtFaulted (s : State) (code : Nat) : State :=
  s.wdtCounted.fault 11 code 2 (detail := s.wdtCounted.rd CUR_WDT_STATUS.EXPIRIES) (srcKind := 8) (irq := true)

/-- The Curator stays in reset, with the fault that tells so. -/
def State.wdtHeld (s : State) (n : Nat) : State :=
  ((s.setFlag CUR_WDT_STATUS.HELD true).wr CUR_FW_STATUS.STATE 4).fault 11 3 2 (detail := n) (srcKind := 8)

theorem State.wdtEvent_eq (code : Nat) : s.wdtEvent code =
    if s.wdtCounted.rd CUR_WDT_STATUS.EXPIRIES < max 1 ((s.wdtFaulted code).rd CUR_WDT_CTL.LIMIT)
      && !((s.wdtFaulted code).flag CUR_WDT_STATUS.HELD) then (s.wdtFaulted code).loaderRelease
    else (s.wdtFaulted code).wdtHeld (s.wdtCounted.rd CUR_WDT_STATUS.EXPIRIES) := rfl

theorem State.wdtCounted_expiries : s.wdtCounted.rd CUR_WDT_STATUS.EXPIRIES = min (s.rd CUR_WDT_STATUS.EXPIRIES + 1) 255 := by
  rw [State.wdtCounted, State.rd_wr_apart _ _ (by decide), State.rd_bump_same _ _ _ (by decide),
    State.rd_holdCurator _ (by decide) (by decide) (by decide) (by decide) (by decide)]
  rfl

/-- The watchdog's fault changes no register outside the fault log. -/
theorem State.rd_wdtFaulted (code : Nat) {g : Field} (h : g.off ∉ faultRegs 11) (hs : g.stride = 0) :
    (s.wdtFaulted code).rd g = s.wdtCounted.rd g := State.rd_fault _ h hs ..

/-- A field that the count of an expiry does not write. -/
theorem State.rd_wdtCounted {g : Field} (ha : Apart CUR_WDT_STATUS.ARMED g) (hr : Apart CUR_WDT_STATUS.REMAIN g)
    (hp : Apart CUR_MBX_DB.POST g) (hc : Apart CUR_MBX_DB.C2H_PEND g) (hl : Apart CUR_MBX_DB.C2H_LEN g)
    (he : Apart CUR_WDT_STATUS.EXPIRIES g) (hs : Apart CUR_FW_STATUS.STATE g) : s.wdtCounted.rd g = s.rd g := by
  rw [State.wdtCounted, State.rd_wr_apart _ _ hs, State.rd_bump_apart _ _ he, State.rd_holdCurator _ ha hr hp hc hl]

theorem State.wdtCounted_armed : s.wdtCounted.rd CUR_WDT_STATUS.ARMED = 0 := by
  rw [State.wdtCounted, State.rd_wr_apart _ _ (by decide), State.rd_bump_apart _ _ (by decide), State.rd_holdCurator_armed]

theorem State.wdtFaulted_pend (code : Nat) : (s.wdtFaulted code).rd ERR_STATUS.PEND = s.rd ERR_STATUS.PEND ||| 2 ^ 11 := by
  rw [State.wdtFaulted, State.rd_fault_pend _ (by decide) rfl,
    State.rd_wdtCounted _ (by decide) (by decide) (by decide) (by decide) (by decide) (by decide) (by decide)]

theorem State.rd_wdtHeld {g : Field} (n : Nat) (h : g.off ∉ faultRegs 11) (hs : g.stride = 0) (hh : Apart CUR_WDT_STATUS.HELD g)
    (ht : Apart CUR_FW_STATUS.STATE g) : (s.wdtHeld n).rd g = s.rd g := by
  rw [State.wdtHeld, State.rd_fault _ h hs, State.rd_wr_apart _ _ ht, State.rd_setFlag_apart _ _ hh]

theorem State.wdtHeld_pend (n : Nat) : (s.wdtHeld n).rd ERR_STATUS.PEND = s.rd ERR_STATUS.PEND ||| 2 ^ 11 := by
  rw [State.wdtHeld, State.rd_fault_pend _ (by decide) rfl, State.rd_wr_apart _ _ (by decide), State.rd_setFlag_apart _ _ (by decide)]

theorem State.wdtHeld_state (n : Nat) : (s.wdtHeld n).rd CUR_FW_STATUS.STATE = 4 := by
  rw [State.wdtHeld, State.rd_fault _ (by decide) rfl, State.rd_wr_same _ _ _ (by decide)]
  rfl

theorem State.wdtHeld_held (n : Nat) : (s.wdtHeld n).rd CUR_WDT_STATUS.HELD = 1 := by
  rw [State.wdtHeld, State.rd_fault _ (by decide) rfl, State.rd_wr_apart _ _ (by decide), State.rd_setFlag_same _ _ _ (by decide) rfl]
  rfl

/-- The registers that an expiry writes. -/
def wdtRegs : List Nat := loaderRegs ++ faultRegs 11

theorem State.word_wdtFaulted (code : Nat) {k : Nat} (h : k ∉ wdtRegs) : (s.wdtFaulted code).word k = s.word k := by
  rw [wdtRegs, List.mem_append, not_or] at h
  obtain ⟨hl, hf⟩ := h
  rw [State.wdtFaulted, State.word_fault _ _ _ _ _ _ _ _ _ _ _ hf]
  have hhold := s.word_holdCurator hl
  simp only [loaderRegs, List.mem_cons, List.not_mem_nil, or_false, not_or] at hl
  obtain ⟨hwdt, hst, -, -⟩ := hl
  rw [State.wdtCounted, State.word_wr, if_neg hst, State.word_bump, if_neg hwdt, hhold]

theorem State.word_wdtHeld (n : Nat) {k : Nat} (h : k ∉ wdtRegs) : (s.wdtHeld n).word k = s.word k := by
  rw [wdtRegs, List.mem_append, not_or] at h
  obtain ⟨hl, hf⟩ := h
  simp only [loaderRegs, List.mem_cons, List.not_mem_nil, or_false, not_or] at hl
  obtain ⟨hwdt, hst, -, -⟩ := hl
  rw [State.wdtHeld, State.word_fault _ _ _ _ _ _ _ _ _ _ _ hf, State.word_wr, if_neg hst, State.word_setFlag, if_neg hwdt]

theorem State.word_wdtEvent (code : Nat) {k : Nat} (h : k ∉ wdtRegs) : (s.wdtEvent code).word k = s.word k := by
  rw [State.wdtEvent_eq]
  split
  · rw [State.word_loaderRelease _ (fun hl => h (List.mem_append_left _ hl)), State.word_wdtFaulted _ _ h]
  · rw [State.word_wdtHeld _ _ h, State.word_wdtFaulted _ _ h]

theorem onlyCur_wdtFaulted (code : Nat) : OnlyCur s (s.wdtFaulted code) :=
  ((onlyCur_holdCurator s).trans ((onlyRegFile_wr _ _ _).trans (onlyRegFile_wr _ _ _)).onlyCur).trans (onlyCur_fault ..)

theorem onlyCur_wdtHeld (n : Nat) : OnlyCur s (s.wdtHeld n) :=
  ((onlyRegFile_setFlag s _ _).trans (onlyRegFile_wr _ _ _)).onlyCur.trans (onlyCur_fault ..)

theorem onlyCur_wdtEvent (code : Nat) : OnlyCur s (s.wdtEvent code) := by
  rw [State.wdtEvent_eq]
  split
  · exact (onlyCur_wdtFaulted s code).trans (onlyCur_loaderRelease _)
  · exact (onlyCur_wdtFaulted s code).trans (onlyCur_wdtHeld _ _)

theorem State.wdtFaulted_cur (code : Nat) : (s.wdtFaulted code).cur = { s.cur with stage := 0 } := by
  rw [State.wdtFaulted, State.fault_cur, State.wdtCounted, State.wr_cur, State.bump_cur, State.holdCurator_cur]
theorem State.wdtFaulted_front (code : Nat) : (s.wdtFaulted code).front = { s.front with curLane := [] } := by
  rw [State.wdtFaulted, State.fault_front, State.wdtCounted, State.wr_front, State.bump_front, State.holdCurator_front]

/-- The Curator starts again: the expiries stay below the limit and no earlier one holds it. -/
def State.wdtAgain (s : State) : Prop :=
  min (s.rd CUR_WDT_STATUS.EXPIRIES + 1) 255 < max 1 (s.rd CUR_WDT_CTL.LIMIT) ∧ s.rd CUR_WDT_STATUS.HELD = 0

theorem State.wdtEvent_of_again (code : Nat) (h : s.wdtAgain) : s.wdtEvent code = (s.wdtFaulted code).loaderRelease := by
  rw [State.wdtEvent_eq, if_pos]
  rw [State.flag_eq, s.rd_wdtFaulted code (by decide) rfl, s.rd_wdtFaulted code (by decide) rfl, s.wdtCounted_expiries,
    State.rd_wdtCounted _ (by decide) (by decide) (by decide) (by decide) (by decide) (by decide) (by decide),
    State.rd_wdtCounted _ (by decide) (by decide) (by decide) (by decide) (by decide) (by decide) (by decide), h.2]
  simpa using h.1

theorem State.wdtEvent_of_not_again (code : Nat) (h : ¬ s.wdtAgain) :
    s.wdtEvent code = (s.wdtFaulted code).wdtHeld (s.wdtCounted.rd CUR_WDT_STATUS.EXPIRIES) := by
  rw [State.wdtEvent_eq, if_neg]
  rw [State.flag_eq, s.rd_wdtFaulted code (by decide) rfl, s.rd_wdtFaulted code (by decide) rfl, s.wdtCounted_expiries,
    State.rd_wdtCounted _ (by decide) (by decide) (by decide) (by decide) (by decide) (by decide) (by decide),
    State.rd_wdtCounted _ (by decide) (by decide) (by decide) (by decide) (by decide) (by decide) (by decide)]
  intro hc
  rw [Bool.and_eq_true, decide_eq_true_eq] at hc
  exact h ⟨hc.1, by simpa using hc.2⟩

/-! ### The frame of a command on the Curator -/

/-- The parts of the Curator's commands of one state put into another. -/
def State.withCurator (s t : State) : State :=
  { s with front := { s.front with curLane := t.front.curLane }, cur := t.cur, err := t.err }

theorem OnlyCur.onlyRegs_out {s u : State} (h : OnlyCur s.begin u) (o : List Out) :
    OnlyRegs (s.withCurator { u with out := o }) ({ u with out := o } : State).settle := by
  unfold OnlyCur at h
  generalize u.regs = R, u.cur = C, u.front.curLane = L, u.err = E at h
  subst h
  apply onlyRegs_settle <;> simp [State.withCurator]

theorem OnlyCur.onlyRegs {s u : State} (h : OnlyCur s.begin u) : OnlyRegs (s.withCurator u) u.settle := h.onlyRegs_out u.out

theorem State.answer_eq (src : MgSrc) (a b : Nat) (d : Word) :
    s.answer src a b d = { s with out := s.out ++ [answerOut src a b d] } := by
  cases src <;> rfl

theorem OnlyCur.onlyRegs_ok {s u : State} (h : OnlyCur s.begin u) (src : MgSrc) :
    OnlyRegs (s.withCurator u) (u.ok src).settle := by
  rw [State.ok, State.answer_eq]
  exact h.onlyRegs_out _

theorem OnlyCur.onlyRegs_lane {s u : State} (h : OnlyCur s.begin u) {l : List (Nat × Word)} (hl : u.front.curLane = l) :
    OnlyRegs { s with front := { s.front with curLane := l }, cur := u.settle.cur, err := u.settle.err } u.settle := by
  subst hl
  exact h.onlyRegs

/-- The same, where the fault log stays. -/
theorem OnlyCur.onlyRegs_ok_of_err {s u : State} (h : OnlyCur s.begin u) (herr : u.err = s.begin.err) (src : MgSrc) :
    OnlyRegs { s with front := { s.front with curLane := (u.ok src).settle.front.curLane }, cur := (u.ok src).settle.cur }
      (u.ok src).settle := by
  rw [State.ok, State.answer_eq]
  unfold OnlyCur at h
  generalize u.regs = R, u.cur = C, u.front.curLane = L at h
  rw [herr] at h
  subst h
  apply onlyRegs_settle <;> simp

theorem OnlyCur.out {s u : State} (h : OnlyCur s u) : u.out = s.out := by
  unfold OnlyCur at h
  rw [h]

/-! ### The writes of the watchdog's registers -/

theorem regRow_wdtCtl (b : Bool) : regRow b CUR_WDT_CTL.word.off = some ⟨0x32010, 1, 1, 0, 0xFF00FF, 0x0, 0x80000000, 0x0, 0x0⟩ := by
  cases b <;> decide

/-- The written fields of CUR_WDT_CTL. -/
theorem State.plain_wdtCtl (w : Word) :
    (s.plain CUR_WDT_CTL.word.off w).rd CUR_WDT_CTL.LIMIT = fieldGet CUR_WDT_CTL.LIMIT w
      ∧ (s.plain CUR_WDT_CTL.word.off w).rd CUR_WDT_CTL.PERIOD_MS = fieldGet CUR_WDT_CTL.PERIOD_MS w := by
  have hrow := regRow_wdtCtl s.s64
  constructor
  · exact (s.rd_plain_same hrow w CUR_WDT_CTL.LIMIT rfl rfl).trans (fieldGet_plainWrite_rw _ _ (by decide))
  · exact (s.rd_plain_same hrow w CUR_WDT_CTL.PERIOD_MS rfl rfl).trans (fieldGet_plainWrite_rw _ _ (by decide))

/-- The Curator's kick keeps LIMIT and PERIOD_MS. -/
def State.wdtSame (s : State) (w : Word) : Prop :=
  fieldGet CUR_WDT_CTL.LIMIT w = s.rd CUR_WDT_CTL.LIMIT ∧ fieldGet CUR_WDT_CTL.PERIOD_MS w = s.rd CUR_WDT_CTL.PERIOD_MS

theorem State.writeWdt_changed {m : MgWrite} (hm : m.src = .curator) (h : ¬ s.wdtSame m.word) :
    s.writeWdt m = s.refuse m.src rsnField := by
  rw [State.wdtSame, not_and_or] at h
  rw [State.writeWdt, hm]
  exact if_pos (by simpa only [Bool.or_eq_true, bne_iff_ne] using h)

theorem State.writeWdt_same {m : MgWrite} (hm : m.src = .curator) (h : s.wdtSame m.word) : s.writeWdt m =
    (if m.word.getLsbD 31 && s.flag CUR_WDT_STATUS.ARMED then s.wdtRestart else s).ok m.src := by
  obtain ⟨hl, hp⟩ := h
  rw [State.writeWdt, hm]
  exact if_neg (by simp only [hl, hp, bne_self_eq_false, Bool.or_self]; decide)

theorem State.writeWdt_driver {m : MgWrite} (hm : m.src ≠ .curator) : s.writeWdt m =
    if m.word.getLsbD 31 then s.refuse m.src rsnField else (s.plain CUR_WDT_CTL.word.off m.word).ok m.src := by
  rw [State.writeWdt]
  cases hs : m.src with
  | curator => exact absurd hs hm
  | driver => rfl
  | rootOfTrust => rfl
  | test => rfl
  | reserved code => rfl

theorem State.wdtRestart_remain : s.wdtRestart.rd CUR_WDT_STATUS.REMAIN = max 1 (s.rd CUR_WDT_CTL.PERIOD_MS) * 10 := by
  have hlt : s.rd CUR_WDT_CTL.PERIOD_MS < 256 := s.rdI_lt CUR_WDT_CTL.PERIOD_MS 0
  have hms : s.wdtMs * 10 < 2 ^ CUR_WDT_STATUS.REMAIN.w := by
    rw [State.wdtMs]
    simp only
    omega
  rw [State.wdtRestart, State.rd_wr_same _ _ _ (by decide), Nat.mod_eq_of_lt hms, State.wdtMs]

theorem State.wdtRestart_cur : s.wdtRestart.cur = { s.cur with wdtEnd := s.now + s.wdtMs * 1000000 } := by
  rw [State.wdtRestart, State.wr_cur]

theorem State.begin_now : s.begin.now = s.now := by rw [State.now, State.now, State.begin_pins]

theorem State.begin_wdtMs : s.begin.wdtMs = max 1 (s.rd CUR_WDT_CTL.PERIOD_MS) := by rw [State.wdtMs, s.begin_rd rfl]

theorem watchdogKick_curator (s : State) (m : MgWrite) (h : Admits s CUR_WDT_CTL.word.off m.src) (hm : m.src = .curator) :
    let same := fieldGet CUR_WDT_CTL.LIMIT m.word = s.rd CUR_WDT_CTL.LIMIT ∧ fieldGet CUR_WDT_CTL.PERIOD_MS m.word = s.rd
      CUR_WDT_CTL.PERIOD_MS
    ∃ t, exec (.watchdogKick m) s = .next t ∧ (¬ same → t.out = [.curator 0 stRefused rsnField] ∧ OnlyRegs s t ∧ RegsBut [] s t)
      ∧ (same → t.out = [.curator 0 stOk rsnNone] ∧ RegsBut [CUR_WDT_STATUS.word.off] s t ∧ OnlyRegs { s with cur := t.cur } t)
      ∧ (same → m.word.getLsbD 31 = true → s.rd CUR_WDT_STATUS.ARMED = 1 → t.cur =
        { s.cur with wdtEnd := s.now + max 1 (s.rd CUR_WDT_CTL.PERIOD_MS) * 1000000 } ∧ t.rd CUR_WDT_STATUS.REMAIN = max 1 (s.rd
        CUR_WDT_CTL.PERIOD_MS) * 10) := by
  intro same
  have hlimit := s.begin_rd (f := CUR_WDT_CTL.LIMIT) rfl
  have hperiod := s.begin_rd (f := CUR_WDT_CTL.PERIOD_MS) rfl
  have hsame : s.begin.wdtSame m.word ↔ same := by rw [State.wdtSame, hlimit, hperiod]
  refine ⟨_, settled_mgWrite h _ _, ?_⟩
  by_cases hs : same
  · rw [State.writeWdt_same _ hm (hsame.mpr hs)]
    obtain ⟨c, v, hform⟩ : ∃ c v, s.begin.wdtRestart = ({ s.begin with cur := c }).wr CUR_WDT_STATUS.REMAIN v := ⟨_, _, rfl⟩
    refine ⟨fun hn => absurd hs hn, fun _ => ⟨?_, fun k hk hp => ?_, ?_⟩, fun _ hkick harmed => ?_⟩
    · split <;> simp [State.ok_out, hform, hm, answerOut]
    · rw [State.word_settle, State.word_ok]
      split
      · rw [hform, State.word_wr, if_neg (by simpa using hk), State.word_withCur]
        exact s.word_begin k hp
      · exact s.word_begin k hp
    · rw [hform]
      split <;> apply onlyRegs_settle <;> simp
    · rw [if_pos (by rw [hkick, State.flag_eq, s.begin_rd rfl, harmed]; rfl)]
      refine ⟨?_, ?_⟩
      · rw [State.settle_cur, State.ok_cur, State.wdtRestart_cur, State.begin_now, State.begin_wdtMs, State.begin_cur]
      · rw [State.rd_settle, State.rd_ok, State.wdtRestart_remain, hperiod]
  · rw [State.writeWdt_changed _ hm (mt hsame.mp hs)]
    exact ⟨fun _ => ⟨by simp [State.refuse_out, hm, answerOut], onlyRegs_begin_answer .., regsBut_begin_answer s _ _ _ _⟩,
      fun h => absurd h hs, fun h => absurd h hs⟩

theorem watchdogKick_driver (s : State) (m : MgWrite) (h : Admits s CUR_WDT_CTL.word.off m.src) (hm : m.src ≠ .curator) :
    ∃ t, exec (.watchdogKick m) s = .next t ∧ (m.word.getLsbD 31 = true → t.out = [answerOut m.src stRefused rsnField 0] ∧ RegsBut [] s t)
      ∧ (m.word.getLsbD 31 = false → t.out = [answerOut m.src stOk rsnNone 0] ∧ t.rd CUR_WDT_CTL.LIMIT = fieldGet CUR_WDT_CTL.LIMIT
        m.word ∧ t.rd CUR_WDT_CTL.PERIOD_MS = fieldGet CUR_WDT_CTL.PERIOD_MS m.word)
      ∧ OnlyRegs s t
      ∧ RegsBut [CUR_WDT_CTL.word.off] s t := by
  refine ⟨_, settled_mgWrite h _ _, ?_⟩
  rw [State.writeWdt_driver _ hm]
  cases hk : m.word.getLsbD 31 with
  | true =>
    rw [if_pos rfl]
    exact ⟨fun _ => ⟨by simp [State.refuse_out], regsBut_begin_answer s _ _ _ _⟩, fun h => Bool.noConfusion h, onlyRegs_begin_answer ..,
      fun k _ hp => regsBut_begin_answer s _ _ _ _ k (by simp) hp⟩
  | false =>
    rw [if_neg Bool.false_ne_true]
    obtain ⟨hlimit, hperiod⟩ := s.begin.plain_wdtCtl m.word
    refine ⟨fun h => Bool.noConfusion h, fun _ => ⟨by simp [State.ok_out], by rw [State.rd_settle, State.rd_ok, hlimit],
      by rw [State.rd_settle, State.rd_ok, hperiod]⟩, by apply onlyRegs_settle <;> simp, fun k hk hp => ?_⟩
    rw [State.word_settle, State.word_ok, State.word_plain_other _ _ (by simpa using hk)]
    exact s.word_begin k hp

theorem watchdogExpire_event (s : State) (cause : WdtCause) (h : cause = .sramUe ∨ s.rd CUR_WDT_STATUS.ARMED = 1) :
    let n := min (s.rd CUR_WDT_STATUS.EXPIRIES + 1) 255
    let again := n < max 1 (s.rd CUR_WDT_CTL.LIMIT) ∧ s.rd CUR_WDT_STATUS.HELD = 0
    ∃ t, exec (.watchdogExpire cause) s = .next t ∧ t.rd CUR_WDT_STATUS.EXPIRIES = n
      ∧ t.rd CUR_WDT_STATUS.ARMED = 0
      ∧ (s.rd ERR_STATUS.PEND ||| 2 ^ 11) = t.rd ERR_STATUS.PEND
      ∧ (again → t.cur.stage = 1 ∧ t.rd CUR_FW_STATUS.STATE = 0 ∧ t.rd CUR_FW_STATUS.ATTEMPT = 0 ∧ t.rd CUR_WDT_STATUS.HELD = 0)
      ∧ (¬ again → t.cur.stage = 0 ∧ t.rd CUR_FW_STATUS.STATE = 4 ∧ t.rd CUR_WDT_STATUS.HELD = 1)
      ∧ t.cur = { s.cur with stage := t.cur.stage }
      ∧ t.out = []
      ∧ OnlyRegs { s with front := { s.front with curLane := [] }, cur := t.cur, err := t.err } t
      ∧ RegsBut ([CUR_WDT_STATUS.word.off, CUR_FW_STATUS.word.off, CUR_FW_CTL.word.off, CUR_MBX_DB.word.off] ++ faultRegs 11) s t := by
  intro n again
  obtain ⟨code, hform⟩ : ∃ code, s.begin.wdtExpire cause = s.begin.wdtEvent code := by
    rcases h with rfl | harmed
    · exact ⟨2, rfl⟩
    · cases cause with
      | sramUe => exact ⟨2, rfl⟩
      | expiry => exact ⟨1, if_pos (by rw [State.flag_eq, s.begin_rd rfl, harmed]; rfl)⟩
  have hexec : exec (.watchdogExpire cause) s = .next (s.begin.wdtEvent code).settle := by rw [← hform]; rfl
  have hexp : s.begin.wdtCounted.rd CUR_WDT_STATUS.EXPIRIES = n := by rw [State.wdtCounted_expiries, s.begin_rd rfl]
  have hpend : (s.begin.wdtFaulted code).rd ERR_STATUS.PEND = s.rd ERR_STATUS.PEND ||| 2 ^ 11 := by
    rw [State.wdtFaulted_pend, s.begin_rd rfl]
  have hagain : s.begin.wdtAgain ↔ again := by
    rw [State.wdtAgain, s.begin_rd rfl, s.begin_rd rfl, s.begin_rd rfl]
  have honly := onlyCur_wdtEvent s.begin code
  have hregs : RegsBut wdtRegs s (s.begin.wdtEvent code).settle := fun k hk hp =>
    (State.word_wdtEvent _ code hk).trans (s.word_begin k hp)
  refine ⟨_, hexec, ?_⟩
  by_cases ha : again
  · rw [State.wdtEvent_of_again _ code (hagain.mpr ha)] at honly hregs ⊢
    refine ⟨?_, ?_, ?_, fun _ => ⟨?_, ?_, ?_, ?_⟩, fun hn => absurd ha hn, ?_, ?_, ?_, hregs⟩
    · rw [State.rd_settle, State.rd_loaderRelease _ (by decide) (by decide) (by decide) (by decide) (by decide) (by decide) (by decide)
        (by decide) (by decide), State.rd_wdtFaulted _ _ (by decide) rfl, hexp]
    · rw [State.rd_settle, State.loaderRelease, State.rd_loaderStart _ (by decide) (by decide) (by decide), State.rd_holdCurator_armed]
    · rw [State.rd_settle, State.rd_loaderRelease _ (by decide) (by decide) (by decide) (by decide) (by decide) (by decide) (by decide)
        (by decide) (by decide), hpend]
    · rw [State.settle_cur, State.loaderRelease_cur]
    · rw [State.rd_settle, State.loaderRelease, State.rd_loaderStart_state]
    · rw [State.rd_settle, State.rd_loaderRelease_attempt]
    · rw [State.rd_settle, State.rd_loaderRelease _ (by decide) (by decide) (by decide) (by decide) (by decide) (by decide) (by decide)
        (by decide) (by decide), State.rd_wdtFaulted _ _ (by decide) rfl, State.rd_wdtCounted _ (by decide) (by decide) (by decide)
        (by decide) (by decide) (by decide) (by decide), s.begin_rd rfl, ha.2]
    · simp only [State.settle_cur, State.loaderRelease_cur, State.wdtFaulted_cur, State.begin_cur]
    · rw [State.settle_out, honly.out, State.begin_out]
    · exact honly.onlyRegs_lane (by rw [State.loaderRelease_front])
  · have hheld := State.wdtEvent_of_not_again _ code (mt hagain.mp ha)
    rw [hexp] at hheld
    rw [hheld] at honly hregs ⊢
    have hcur : ((s.begin.wdtFaulted code).wdtHeld n).cur = { s.cur with stage := 0 } := by
      simp [State.wdtHeld, State.wdtFaulted_cur]
    refine ⟨?_, ?_, ?_, fun h => absurd h ha, fun _ => ⟨?_, ?_, ?_⟩, ?_, ?_, ?_, hregs⟩
    · rw [State.rd_settle, State.rd_wdtHeld _ _ (by decide) rfl (by decide) (by decide), State.rd_wdtFaulted _ _ (by decide) rfl, hexp]
    · rw [State.rd_settle, State.rd_wdtHeld _ _ (by decide) rfl (by decide) (by decide), State.rd_wdtFaulted _ _ (by decide) rfl,
        State.wdtCounted_armed]
    · rw [State.rd_settle, State.wdtHeld_pend, hpend, Nat.or_assoc, Nat.or_self]
    · rw [State.settle_cur, hcur]
    · rw [State.rd_settle, State.wdtHeld_state]
    · rw [State.rd_settle, State.wdtHeld_held]
    · rw [State.settle_cur, hcur]
    · rw [State.settle_out, honly.out, State.begin_out]
    · exact honly.onlyRegs_lane (by simp [State.wdtHeld, State.wdtFaulted_front])

theorem watchdogExpire_disarmed (s : State) (h : s.rd CUR_WDT_STATUS.ARMED = 0) :
    ∃ t, exec (.watchdogExpire .expiry) s = .next t ∧ t.out = [] ∧ OnlyRegs s t ∧ RegsBut [] s t := by
  have hform : s.begin.wdtExpire .expiry = s.begin := if_neg (by rw [State.flag_eq, s.begin_rd rfl, h]; decide)
  refine ⟨s.begin.settle, congrArg settled hform, by simp, by apply onlyRegs_settle <;> simp,
    fun k _ hp => s.word_begin k hp⟩

theorem watchdogHeldClear_spec (s : State) (m : MgWrite) (h : Admits s CUR_WDT_STATUS.word.off m.src) :
    let act := m.word.getLsbD 30 = true ∧ s.rd CUR_WDT_STATUS.HELD = 1
    ∃ t, exec (.watchdogHeldClear m) s = .next t ∧ (act → t.rd CUR_WDT_STATUS.HELD = 0 ∧ t.rd CUR_WDT_STATUS.EXPIRIES = 0 ∧ t.cur =
      { s.cur with stage := 1 } ∧ t.rd CUR_FW_STATUS.STATE = 0)
      ∧ (¬ act → t.cur = s.cur ∧ RegsBut [] s t)
      ∧ t.out = [answerOut m.src stOk rsnNone 0]
      ∧ OnlyRegs { s with front := { s.front with curLane := t.front.curLane }, cur := t.cur } t
      ∧ RegsBut [CUR_WDT_STATUS.word.off, CUR_FW_STATUS.word.off, CUR_FW_CTL.word.off, CUR_MBX_DB.word.off] s t := by
  intro act
  have hheld := s.begin_rd (f := CUR_WDT_STATUS.HELD) rfl
  refine ⟨_, settled_mgWrite h _ _, ?_⟩
  by_cases ha : act
  · let v := (s.begin.setFlag CUR_WDT_STATUS.HELD false).wr CUR_WDT_STATUS.EXPIRIES 0
    have hform : s.begin.writeWdtStatus m = v.loaderRelease.ok m.src :=
      congrArg (State.ok · m.src) (if_pos (by rw [ha.1, State.flag_eq, hheld, ha.2]; rfl))
    have hv : OnlyRegFile s.begin v := (onlyRegFile_setFlag s.begin _ _).trans (onlyRegFile_wr _ _ _)
    have honly : OnlyCur s.begin v.loaderRelease := hv.onlyCur.trans (onlyCur_loaderRelease v)
    have herr : (v.loaderRelease).err = s.begin.err := by
      simp [State.loaderRelease, State.loaderStart_eq, State.fwCleared, State.holdCurator_eq, State.curStopped, v]
    rw [hform]
    refine ⟨fun _ => ⟨?_, ?_, ?_, ?_⟩, fun hn => absurd ha hn, ?_, ?_, fun k hk hp => ?_⟩
    · rw [State.rd_settle, State.rd_ok, State.rd_loaderRelease _ (by decide) (by decide) (by decide) (by decide) (by decide) (by decide)
        (by decide) (by decide) (by decide), State.rd_wr_apart _ _ (by decide), State.rd_setFlag_same _ _ _ (by decide) rfl]
      rfl
    · rw [State.rd_settle, State.rd_ok, State.rd_loaderRelease _ (by decide) (by decide) (by decide) (by decide) (by decide) (by decide)
        (by decide) (by decide) (by decide), State.rd_wr_same _ _ _ (by decide)]
      rfl
    · rw [State.settle_cur, State.ok_cur, State.loaderRelease_cur]
      simp [v]
    · rw [State.rd_settle, State.rd_ok, State.loaderRelease, State.rd_loaderStart_state]
    · rw [State.settle_out, State.ok_out, honly.out, State.begin_out]
      rfl
    · exact honly.onlyRegs_ok_of_err herr m.src
    · have hne : k ≠ CUR_WDT_STATUS.word.off := fun hc => hk (by simp [hc])
      rw [State.word_settle, State.word_ok, State.word_loaderRelease _ hk, State.word_wr, if_neg hne, State.word_setFlag, if_neg hne]
      exact s.word_begin k hp
  · have hform : s.begin.writeWdtStatus m = s.begin.ok m.src := by
      refine congrArg (State.ok · m.src) (if_neg ?_)
      rw [Bool.and_eq_true, State.flag_eq, hheld]
      rintro ⟨hw, hh⟩
      have hlt : s.rd CUR_WDT_STATUS.HELD < 2 := s.rdI_lt CUR_WDT_STATUS.HELD 0
      rw [bne_iff_ne] at hh
      exact ha ⟨hw, by omega⟩
    rw [hform]
    refine ⟨fun h => absurd h ha, fun _ => ⟨by simp, regsBut_begin_answer s _ _ _ _⟩, by simp [State.ok_out],
      by apply onlyRegs_settle <;> simp, fun k _ hp => regsBut_begin_answer s _ _ _ _ k (by simp) hp⟩

/-- Settles O17: kicks, expiries, and the release of a held Curator. -/
theorem curatorWatchdog : Obligations.CuratorWatchdog :=
  ⟨watchdogKick_curator, watchdogKick_driver, watchdogExpire_event, watchdogExpire_disarmed, watchdogHeldClear_spec⟩

end Sys2Proof.Machine
end

section
/-! SUPPORT. The Daybook and the boot loader's attempts (R289 to R291, R298, R321). -/

namespace Sys2Proof.Machine

variable (s : State)

/-! ### The Daybook's registers -/

theorem dbkStatus_mem : DBK_STATUS.word.off ∈ dbkRegs := by simp [dbkRegs]
theorem dbkFails_mem : DBK_FAILS.word.off ∈ dbkRegs := by simp [dbkRegs]
theorem dbkEntry_mem {n : Nat} (h : n < 64) :
    DBK_ENT_INFO.word.off + 8 * n ∈ dbkRegs ∧ DBK_ENT_TIME.word.off + 8 * n ∈ dbkRegs := by
  constructor <;> exact List.mem_append_right _ (List.mem_flatMap.mpr ⟨n, List.mem_range.mpr h, by simp⟩)

theorem State.word_daybook {k : Nat} (h : k ∉ dbkRegs) (outcome step cause detail : Nat) :
    (s.daybook outcome step cause detail).word k = s.word k := by
  have hst : k ≠ DBK_STATUS.word.off := fun hk => h (hk ▸ dbkStatus_mem)
  by_cases hc : s.rd DBK_STATUS.COUNT < 64
  · exact s.word_daybook_other _ _ _ _ hst (fun hk => h (hk ▸ (dbkEntry_mem hc).1)) (fun hk => h (hk ▸ (dbkEntry_mem hc).2))
  · rw [State.daybook_eq_of_ge _ _ _ _ (by omega), State.word_bump, if_neg hst, State.word_setFlag, if_neg hst]

theorem State.rd_daybook {f : Field} (h : f.off ∉ dbkRegs) (hs : f.stride = 0) (outcome step cause detail : Nat) :
    (s.daybook outcome step cause detail).rd f = s.rd f :=
  State.rdI_congr f 0 (s.word_daybook (by rw [hs]; simpa using h) _ _ _ _)

theorem onlyRegFile_daybook (outcome step cause detail : Nat) : OnlyRegFile s (s.daybook outcome step cause detail) := by
  have hentry : ∀ (o n : Nat) (w : Word) (us c : Nat) (full : Bool), OnlyRegFile s ((((s.setWord o w).wrI DBK_ENT_TIME.US n us).wr
      DBK_STATUS.COUNT c).setFlag DBK_STATUS.FULL full) := fun _ _ _ _ _ _ => rfl
  by_cases h : s.rd DBK_STATUS.COUNT < 64
  · rw [State.daybook_eq_of_lt _ _ _ _ h]
    exact hentry ..
  · rw [State.daybook_eq_of_ge _ _ _ _ (by omega)]
    exact (onlyRegFile_setFlag s _ _).trans (onlyRegFile_wr _ _ _)

theorem onlyRegFile_stepFailed (n : Nat) : OnlyRegFile s (s.stepFailed n) := by
  unfold State.stepFailed
  split <;> rfl

theorem onlyRegFile_stepPassed (n : Nat) : OnlyRegFile s (s.stepPassed n) := by
  unfold State.stepPassed
  split <;> rfl

theorem State.word_stepFailed {k : Nat} (n : Nat) (h : k ≠ DBK_FAILS.word.off) : (s.stepFailed n).word k = s.word k := by
  unfold State.stepFailed
  split
  · rw [State.word_bump]
    exact if_neg h
  · rfl

theorem State.word_stepPassed {k : Nat} (n : Nat) (h : k ≠ DBK_FAILS.word.off) : (s.stepPassed n).word k = s.word k := by
  unfold State.stepPassed
  split
  · rw [State.word_wr]
    exact if_neg h
  · rfl

theorem State.rd_stepFailed {f : Field} (n : Nat) (h : f.off ≠ DBK_FAILS.word.off) (hs : f.stride = 0) : (s.stepFailed n).rd f = s.rd f :=
  State.rdI_congr f 0 (s.word_stepFailed n (by rw [hs]; simpa using h))

theorem State.rd_stepPassed {f : Field} (n : Nat) (h : f.off ≠ DBK_FAILS.word.off) (hs : f.stride = 0) : (s.stepPassed n).rd f = s.rd f :=
  State.rdI_congr f 0 (s.word_stepPassed n (by rw [hs]; simpa using h))

/-- The entry that a command writes, told by the state before it. -/
theorem State.entered_daybook (outcome step cause detail : Nat) : Entered s (s.daybook outcome step cause detail) outcome step cause detail :=
  fun h => s.word_daybook_entry _ _ _ _ h

/-- What follows an entry leaves it, unless it writes into the Daybook's entries. -/
theorem Entered.of_word {s t u : State} {outcome step cause detail : Nat} (h : Entered s t outcome step cause detail)
    (hw : ∀ n < 64, u.word (DBK_ENT_INFO.word.off + 8 * n) = t.word (DBK_ENT_INFO.word.off + 8 * n)) :
    Entered s u outcome step cause detail := fun hc => (hw _ hc).trans (h hc)

/-- An entry depends on the Daybook's count of entries and of starts alone. -/
theorem Entered.congr {s s' t : State} {outcome step cause detail : Nat} (hw : s.word DBK_STATUS.word.off = s'.word DBK_STATUS.word.off)
    (h : Entered s t outcome step cause detail) : Entered s' t outcome step cause detail := by
  have hc : s.rd DBK_STATUS.COUNT = s'.rd DBK_STATUS.COUNT := State.rdI_congr DBK_STATUS.COUNT 0 hw
  have hs : s.rd DBK_STATUS.STARTS = s'.rd DBK_STATUS.STARTS := State.rdI_congr DBK_STATUS.STARTS 0 hw
  unfold Entered at h ⊢
  rwa [hc, hs] at h

/-! ### The frame -/

/-- At most registers, the Curator and what waits in its lane change. -/
def OnlyLoader (s u : State) : Prop :=
  u = { s with regs := u.regs, cur := u.cur, front := { s.front with curLane := u.front.curLane } }

theorem OnlyLoader.trans {s t u : State} (hst : OnlyLoader s t) (htu : OnlyLoader t u) : OnlyLoader s u := by
  unfold OnlyLoader at *
  rw [htu, hst]

theorem OnlyRegFile.onlyLoader {s u : State} (h : OnlyRegFile s u) : OnlyLoader s u := by
  unfold OnlyRegFile at h
  rw [h]
  rfl

theorem OnlyCur.onlyLoader {s u : State} (h : OnlyCur s u) (he : u.err = s.err) : OnlyLoader s u := by
  unfold OnlyCur at h
  rw [he] at h
  exact h

theorem OnlyLoader.out {s u : State} (h : OnlyLoader s u) : u.out = s.out := by
  unfold OnlyLoader at h
  rw [h]

theorem onlyLoader_withCur (c : Cur) : OnlyLoader s { s with cur := c } := rfl

theorem onlyLoader_holdCurator : OnlyLoader s s.holdCurator :=
  (onlyCur_holdCurator s).onlyLoader (by simp [State.holdCurator_eq, State.curStopped])

theorem onlyLoader_loaderStart : OnlyLoader s s.loaderStart :=
  (onlyCur_loaderStart s).onlyLoader (by simp [State.loaderStart_eq, State.fwCleared, State.holdCurator_eq, State.curStopped])

theorem OnlyLoader.onlyRegs_out {s u : State} (h : OnlyLoader s.begin u) (o : List Out) :
    OnlyRegs { s with cur := u.cur, front := { s.front with curLane := u.front.curLane } } ({ u with out := o } : State).settle := by
  unfold OnlyLoader at h
  generalize u.regs = R, u.cur = C, u.front.curLane = L at h
  subst h
  apply onlyRegs_settle <;> simp

theorem OnlyLoader.onlyRegs {s u : State} (h : OnlyLoader s.begin u) :
    OnlyRegs { s with cur := u.cur, front := { s.front with curLane := u.front.curLane } } u.settle := h.onlyRegs_out u.out

theorem OnlyLoader.onlyRegs_ok {s u : State} (h : OnlyLoader s.begin u) (src : MgSrc) :
    OnlyRegs { s with cur := (u.ok src).cur, front := { s.front with curLane := (u.ok src).front.curLane } } (u.ok src).settle := by
  rw [State.ok, State.answer_eq]
  exact h.onlyRegs_out _

/-! ### A failed attempt -/

/-- The registers that a failed attempt writes. -/
def fwFailRegs : List Nat := loaderRegs ++ SLC_START.word.off :: dbkRegs

/-- An attempt that fails, with its entry in the Daybook while step 4 runs. -/
def State.fwLogged (s : State) (cause outcome : Nat) : State :=
  if (s.wr CUR_FW_STATUS.LAST_CAUSE cause).atStep 4 then
    (s.wr CUR_FW_STATUS.LAST_CAUSE cause).daybook outcome 4 cause (s.rd CUR_FW_STATUS.ATTEMPT)
  else s.wr CUR_FW_STATUS.LAST_CAUSE cause

/-- The safe state of a start whose third attempt failed. -/
def State.safeShown (s : State) : State := ((s.stepFailed 4).holdCurator.wr CUR_FW_STATUS.STATE 4).wr SLC_START.STATE 4

theorem State.atStep_wr {f : Field} (v n : Nat) (h : f.off ≠ SLC_START.word.off) : (s.wr f v).atStep n = s.atStep n := by
  have hother : ∀ g : Field, g.off = SLC_START.word.off → (s.wr f v).rd g = s.rd g := fun g hg =>
    s.rd_wr_other v (fun hc => h (hc.symm.trans hg))
  rw [State.atStep, State.atStep, hother SLC_START.STEP rfl, hother SLC_START.STATE rfl]

theorem State.fwFail_eq_next {cause : Nat} (h : s.rd CUR_FW_STATUS.ATTEMPT < 3) :
    s.fwFail cause = (s.fwLogged cause ocRetry).loaderStart := if_neg (by omega)

theorem State.fwFail_eq_safe {cause : Nat} (h : 3 ≤ s.rd CUR_FW_STATUS.ATTEMPT) (hs : s.atStep 4 = true) :
    s.fwFail cause = (s.fwLogged cause ocFail).safeShown := by
  have hstart : (s.wr CUR_FW_STATUS.LAST_CAUSE cause).atStep 4 = true := (s.atStep_wr _ _ (by decide)).trans hs
  rw [State.fwLogged, if_pos hstart]
  exact (if_pos h).trans (if_pos hstart)

theorem State.fwFail_eq_held {cause : Nat} (h : 3 ≤ s.rd CUR_FW_STATUS.ATTEMPT) (hs : s.atStep 4 = false) :
    s.fwFail cause = (s.fwLogged cause ocFail).holdCurator.wr CUR_FW_STATUS.STATE 4 := by
  have hstart : ¬ (s.wr CUR_FW_STATUS.LAST_CAUSE cause).atStep 4 = true := by rw [s.atStep_wr _ _ (by decide), hs]; exact Bool.false_ne_true
  rw [State.fwLogged, if_neg hstart]
  exact (if_pos h).trans (if_neg hstart)

theorem onlyRegFile_fwLogged (cause outcome : Nat) : OnlyRegFile s (s.fwLogged cause outcome) := by
  unfold State.fwLogged
  split
  · exact (onlyRegFile_wr s _ _).trans (onlyRegFile_daybook ..)
  · exact onlyRegFile_wr s _ _

theorem State.word_fwLogged (cause outcome : Nat) {k : Nat} (h : k ≠ CUR_FW_STATUS.word.off) (hd : k ∉ dbkRegs) :
    (s.fwLogged cause outcome).word k = s.word k := by
  unfold State.fwLogged
  split
  · rw [State.word_daybook _ hd, State.word_wr, if_neg h]
  · rw [State.word_wr, if_neg h]

theorem State.fwLogged_cause {cause : Nat} (outcome : Nat) (h : cause < 256) :
    (s.fwLogged cause outcome).rd CUR_FW_STATUS.LAST_CAUSE = cause := by
  have hwr : (s.wr CUR_FW_STATUS.LAST_CAUSE cause).rd CUR_FW_STATUS.LAST_CAUSE = cause :=
    (s.rd_wr_same _ _ (by decide)).trans (Nat.mod_eq_of_lt h)
  unfold State.fwLogged
  split
  · rw [State.rd_daybook _ (by decide) rfl, hwr]
  · exact hwr

theorem State.fwLogged_entered {cause outcome : Nat} (h : s.atStep 4 = true) :
    Entered s (s.fwLogged cause outcome) outcome 4 cause (s.rd CUR_FW_STATUS.ATTEMPT) := by
  rw [State.fwLogged, if_pos ((s.atStep_wr _ _ (by decide)).trans h)]
  exact (State.entered_daybook _ _ _ _ _).congr ((s.word_wr _ _ _).trans (if_neg (by decide)))

theorem dbkEntry_not_mem_loaderRegs {n : Nat} (h : n < 64) : DBK_ENT_INFO.word.off + 8 * n ∉ loaderRegs := by
  simp [loaderRegs]
  omega

theorem State.safeShown_entry {n : Nat} (h : n < 64) :
    s.safeShown.word (DBK_ENT_INFO.word.off + 8 * n) = s.word (DBK_ENT_INFO.word.off + 8 * n) := by
  have hl := dbkEntry_not_mem_loaderRegs h
  have hst : DBK_ENT_INFO.word.off + 8 * n ≠ CUR_FW_STATUS.word.off := fun hc => hl (hc ▸ by decide)
  rw [State.safeShown, State.word_wr, if_neg (by simp; omega), State.word_wr, if_neg hst, State.word_holdCurator _ hl,
    State.word_stepFailed _ _ (by simp; omega)]

theorem State.word_safeShown {k : Nat} (h : k ∉ fwFailRegs) : s.safeShown.word k = s.word k := by
  rw [fwFailRegs, List.mem_append, List.mem_cons, not_or, not_or] at h
  obtain ⟨hl, hs, hd⟩ := h
  have hst : k ≠ CUR_FW_STATUS.word.off := fun hc => hl (hc ▸ by decide)
  have hf : k ≠ DBK_FAILS.word.off := fun hc => hd (hc ▸ dbkFails_mem)
  rw [State.safeShown, State.word_wr, if_neg hs, State.word_wr, if_neg hst, State.word_holdCurator _ hl, State.word_stepFailed _ _ hf]

theorem onlyLoader_safeShown : OnlyLoader s s.safeShown :=
  (onlyRegFile_stepFailed s 4).onlyLoader.trans ((onlyLoader_holdCurator _).trans
    ((onlyRegFile_wr _ _ _).trans (onlyRegFile_wr _ _ _)).onlyLoader)

theorem State.safeShown_cur : s.safeShown.cur = { s.cur with stage := 0 } := by
  have hfile : (s.stepFailed 4).cur = s.cur := by
    have := onlyRegFile_stepFailed s 4
    unfold OnlyRegFile at this
    rw [this]
  rw [State.safeShown, State.wr_cur, State.wr_cur, State.holdCurator_cur, hfile]

theorem State.safeShown_lane : s.safeShown.front.curLane = [] := by
  rw [State.safeShown, State.wr_front, State.wr_front, State.holdCurator_front]

/-- A field of CUR_FW_STATUS beside STATE stays in the safe state. -/
theorem State.safeShown_cause : s.safeShown.rd CUR_FW_STATUS.LAST_CAUSE = s.rd CUR_FW_STATUS.LAST_CAUSE := by
  rw [State.safeShown, State.rd_wr_apart _ _ (by decide), State.rd_wr_apart _ _ (by decide),
    State.rd_holdCurator _ (by decide) (by decide) (by decide) (by decide) (by decide), State.rd_stepFailed _ _ (by decide) rfl]

theorem State.safeShown_state : s.safeShown.rd CUR_FW_STATUS.STATE = 4 ∧ s.safeShown.rd SLC_START.STATE = 4 := by
  constructor
  · rw [State.safeShown, State.rd_wr_apart _ _ (by decide), State.rd_wr_same _ _ _ (by decide)]
    rfl
  · rw [State.safeShown, State.rd_wr_same _ _ _ (by decide)]
    rfl

theorem State.word_fwFail {cause k : Nat} (h : k ∉ fwFailRegs) : (s.fwFail cause).word k = s.word k := by
  have h' := h
  rw [fwFailRegs, List.mem_append, List.mem_cons, not_or, not_or] at h'
  obtain ⟨hl, hs, hd⟩ := h'
  have hst : k ≠ CUR_FW_STATUS.word.off := fun hc => hl (hc ▸ by decide)
  by_cases ha : s.rd CUR_FW_STATUS.ATTEMPT < 3
  · rw [s.fwFail_eq_next ha, State.word_loaderStart _ hl, State.word_fwLogged _ _ _ hst hd]
  · cases hstep : s.atStep 4 with
    | true => rw [s.fwFail_eq_safe (by omega) hstep, State.word_safeShown _ h, State.word_fwLogged _ _ _ hst hd]
    | false =>
      rw [s.fwFail_eq_held (by omega) hstep, State.word_wr, if_neg hst, State.word_holdCurator _ hl, State.word_fwLogged _ _ _ hst hd]

theorem onlyLoader_fwFail (cause : Nat) : OnlyLoader s (s.fwFail cause) := by
  by_cases ha : s.rd CUR_FW_STATUS.ATTEMPT < 3
  · rw [s.fwFail_eq_next ha]
    exact (onlyRegFile_fwLogged ..).onlyLoader.trans (onlyLoader_loaderStart _)
  · cases hstep : s.atStep 4 with
    | true =>
      rw [s.fwFail_eq_safe (by omega) hstep]
      exact (onlyRegFile_fwLogged ..).onlyLoader.trans (onlyLoader_safeShown _)
    | false =>
      rw [s.fwFail_eq_held (by omega) hstep]
      exact (onlyRegFile_fwLogged ..).onlyLoader.trans ((onlyLoader_holdCurator _).trans (onlyRegFile_wr _ _ _).onlyLoader)

theorem State.loaderStart_done : s.loaderStart.flag CUR_FW_CTL.DONE = false := by
  rw [State.loaderStart_eq, State.flag_eq, State.rd_withCur, State.fwCleared, State.rd_setFlag_apart _ _ (by decide),
    State.rd_setFlag_same _ _ _ (by decide) rfl]
  rfl

/-- What a failed attempt leaves, told by the state in which it fails (R290, R321). -/
theorem State.fwFail_failed {cause : Nat} (h : cause < 256) : AttemptFailed s (s.fwFail cause) cause := by
  by_cases ha : s.rd CUR_FW_STATUS.ATTEMPT < 3
  · rw [s.fwFail_eq_next ha]
    refine ⟨?_, by rw [State.loaderStart_front], fun _ => ⟨by rw [State.loaderStart_cur], State.rd_loaderStart_state _,
      State.loaderStart_done _, fun hs => ?_⟩, fun hn => by omega⟩
    · rw [State.rd_loaderStart _ (by decide) (by decide) (by decide),
        State.rd_holdCurator _ (by decide) (by decide) (by decide) (by decide) (by decide), State.fwLogged_cause _ _ h]
    · exact (s.fwLogged_entered hs).of_word (fun n hn => State.word_loaderStart _ (dbkEntry_not_mem_loaderRegs hn))
  · have hge : 3 ≤ s.rd CUR_FW_STATUS.ATTEMPT := by omega
    cases hstep : s.atStep 4 with
    | true =>
      rw [s.fwFail_eq_safe hge hstep]
      obtain ⟨hfw, hsl⟩ := (s.fwLogged cause ocFail).safeShown_state
      refine ⟨by rw [State.safeShown_cause, State.fwLogged_cause _ _ h], State.safeShown_lane _, fun hn => absurd hn ha,
        fun _ => ⟨by rw [State.safeShown_cur], hfw, fun _ => ⟨hsl, ?_⟩⟩⟩
      exact (s.fwLogged_entered hstep).of_word (fun n hn => State.safeShown_entry _ hn)
    | false =>
      rw [s.fwFail_eq_held hge hstep]
      refine ⟨?_, by rw [State.wr_front, State.holdCurator_front], fun hn => absurd hn ha,
        fun _ => ⟨by rw [State.wr_cur, State.holdCurator_cur], ?_, fun hc => absurd (hstep.symm.trans hc) Bool.false_ne_true⟩⟩
      · rw [State.rd_wr_apart _ _ (by decide), State.rd_holdCurator _ (by decide) (by decide) (by decide) (by decide) (by decide),
          State.fwLogged_cause _ _ h]
      · rw [State.rd_wr_same _ _ _ (by decide)]
        rfl

end Sys2Proof.Machine
end

section
/-! SUPPORT. The firmware's verification, attestation and ALIVE (R289 to R291). -/

namespace Sys2Proof.Machine

variable (s : State)

/-! ### Congruence -/

/-- A failed attempt is told by a few registers before it, and by registers, Curator and lane after it. -/
theorem AttemptFailed.congr {s s' t t' : State} {cause : Nat} (h : AttemptFailed s t cause)
    (hfw : s.word CUR_FW_STATUS.word.off = s'.word CUR_FW_STATUS.word.off) (hsl : s.word SLC_START.word.off = s'.word SLC_START.word.off)
    (hdb : s.word DBK_STATUS.word.off = s'.word DBK_STATUS.word.off) (ht : ∀ k, t'.word k = t.word k) (hc : t'.cur = t.cur)
    (hf : t'.front = t.front) : AttemptFailed s' t' cause := by
  have hrd : ∀ f : Field, t'.rd f = t.rd f := fun f => State.rdI_congr f 0 (ht _)
  have hflag : ∀ f : Field, t'.flag f = t.flag f := fun f => State.flag_congr (hrd f)
  have hat : s.rd CUR_FW_STATUS.ATTEMPT = s'.rd CUR_FW_STATUS.ATTEMPT := State.rdI_congr CUR_FW_STATUS.ATTEMPT 0 hfw
  have hstep : s.atStep 4 = s'.atStep 4 := by
    have h1 : s.rd SLC_START.STEP = s'.rd SLC_START.STEP := State.rdI_congr SLC_START.STEP 0 hsl
    have h2 : s.rd SLC_START.STATE = s'.rd SLC_START.STATE := State.rdI_congr SLC_START.STATE 0 hsl
    rw [State.atStep, State.atStep, h1, h2]
  obtain ⟨hcause, hlane, hnext, hlast⟩ := h
  rw [hat, hstep] at hnext hlast
  have hent : ∀ {o d : Nat}, Entered s t o 4 cause d → Entered s' t' o 4 cause d := fun he =>
    Entered.congr hdb (he.of_word (fun n _ => ht _))
  refine ⟨(hrd _).trans hcause, by rw [hf]; exact hlane, fun ha => ?_, fun ha => ?_⟩
  · obtain ⟨hstage, hst, hd, he⟩ := hnext ha
    exact ⟨by rw [hc]; exact hstage, (hrd _).trans hst, (hflag _).trans hd, fun h4 => hent (he h4)⟩
  · obtain ⟨hstage, hst, he⟩ := hlast ha
    exact ⟨by rw [hc]; exact hstage, (hrd _).trans hst, fun h4 => ⟨(hrd _).trans (he h4).1, hent (he h4).2⟩⟩

/-- The attempt of a command fails in a state that has the command's registers, and the command is answered. -/
theorem State.fwFail_ok_failed {u : State} {cause : Nat} (h : cause < 256)
    (hw : ∀ k ∈ [CUR_FW_STATUS.word.off, SLC_START.word.off, DBK_STATUS.word.off], u.word k = s.word k) (src : MgSrc) :
    AttemptFailed s ((u.fwFail cause).ok src).settle cause :=
  (u.fwFail_failed h).congr (hw _ (by simp)) (hw _ (by simp)) (hw _ (by simp)) (fun k => by rw [State.word_settle, State.word_ok])
    (by rw [State.settle_cur, State.ok_cur]) (by rw [State.settle_front, State.ok_front])

theorem State.sram_congr {s t : State} (h : s.cur.sram = t.cur.sram) (i : Nat) : s.sram i = t.sram i := by
  rw [State.sram, State.sram, h]

theorem State.fwCrc_congr {s t : State} (h : s.cur.sram = t.cur.sram) (len : Nat) : s.fwCrc len = t.fwCrc len := by
  rw [State.fwCrc, State.fwCrc, funext (State.sram_congr h)]

theorem State.fwHeader_congr {s t : State} (h : s.cur.sram = t.cur.sram) (hr : s.rd SLC_FEAT.RUN_LEVEL = t.rd SLC_FEAT.RUN_LEVEL) :
    s.fwHeader = t.fwHeader := by
  rw [State.fwHeader, State.fwHeader, funext (State.sram_congr h), hr]

/-! ### DONE -/

/-- The firmware's length and CRC as the verification shows them. -/
def State.fwMeasured (s : State) (len : Nat) : State :=
  ({ s with cur := { s.cur with len := len } }).setWord CUR_FW_CRC.word.off (s.fwCrc len)

theorem State.fwMeasured_sram (len i : Nat) : (s.fwMeasured len).sram i = s.sram i := rfl

theorem State.word_fwMeasured (len : Nat) {k : Nat} (h : k ≠ CUR_FW_CRC.word.off) : (s.fwMeasured len).word k = s.word k := by
  rw [State.fwMeasured, State.word_setWord, if_neg h, State.word_withCur]

theorem State.fwMeasured_crc (len : Nat) : (s.fwMeasured len).word CUR_FW_CRC.word.off = s.fwCrc len := by
  rw [State.fwMeasured, State.word_setWord, if_pos rfl]

theorem onlyLoader_fwMeasured (len : Nat) : OnlyLoader s (s.fwMeasured len) := rfl

theorem State.fwVerify_header (h : s.fwHeader = false) : s.fwVerify = s.fwFail 0x40 := by
  rw [State.fwVerify, h]
  rfl

theorem State.fwVerify_crc (h : s.fwHeader = true) (hc : s.fwCrc (s.sram 1).toNat ≠ s.sram 7) :
    s.fwVerify = (s.fwMeasured (s.sram 1).toNat).fwFail 0x41 := by
  rw [State.fwVerify, h, if_neg (by decide)]
  exact if_pos (bne_iff_ne.mpr hc)

/-- Firmware whose header and CRC are right waits for the root of trust. -/
def State.fwVerified (s : State) : State :=
  ({ s with cur := { s.cur with stage := 5 } }).wr CUR_FW_STATUS.STATE 2

theorem State.fwVerify_good (h : s.fwHeader = true) (hc : s.fwCrc (s.sram 1).toNat = s.sram 7) :
    s.fwVerify = (s.fwMeasured (s.sram 1).toNat).fwVerified := by
  rw [State.fwVerify, h, if_neg (by decide)]
  exact if_neg (by rw [bne_iff_ne, not_not]; exact hc)

theorem State.word_fwVerified {k : Nat} (h : k ≠ CUR_FW_STATUS.word.off) : s.fwVerified.word k = s.word k := by
  rw [State.fwVerified, State.word_wr, if_neg h, State.word_withCur]

theorem onlyLoader_fwVerified : OnlyLoader s s.fwVerified := (onlyLoader_withCur s _).trans (onlyRegFile_wr _ _ _).onlyLoader

theorem onlyLoader_fwVerify : OnlyLoader s s.fwVerify := by
  cases hh : s.fwHeader with
  | false =>
    rw [s.fwVerify_header hh]
    exact onlyLoader_fwFail ..
  | true =>
    by_cases hc : s.fwCrc (s.sram 1).toNat = s.sram 7
    · rw [s.fwVerify_good hh hc]
      exact (onlyLoader_fwMeasured s _).trans (onlyLoader_fwVerified _)
    · rw [s.fwVerify_crc hh hc]
      exact (onlyLoader_fwMeasured s _).trans (onlyLoader_fwFail ..)

theorem fwStatus_mem : CUR_FW_STATUS.word.off ∈ fwFailRegs := by simp [fwFailRegs, loaderRegs]

theorem State.word_fwVerify {k : Nat} (h : k ∉ fwFailRegs) (hc : k ≠ CUR_FW_CRC.word.off) : s.fwVerify.word k = s.word k := by
  have hst : k ≠ CUR_FW_STATUS.word.off := fun he => h (he ▸ fwStatus_mem)
  cases hh : s.fwHeader with
  | false => rw [s.fwVerify_header hh, State.word_fwFail _ h]
  | true =>
    by_cases hcrc : s.fwCrc (s.sram 1).toNat = s.sram 7
    · rw [s.fwVerify_good hh hcrc, State.word_fwVerified _ hst, State.word_fwMeasured _ _ hc]
    · rw [s.fwVerify_crc hh hcrc, State.word_fwFail _ h, State.word_fwMeasured _ _ hc]

/-! ### ALIVE -/

/-- ALIVE is taken: stage 8. -/
def State.fwLives (s : State) : State := ({ s with cur := { s.cur with stage := 8 } }).setFlag CUR_FW_CTL.ALIVE true

/-- Step 4 passes and step 5 waits for the image, without the interrupt that tells so. -/
def State.fivePlaced (s : State) : State := ((s.stepPass 4).wr SLC_START.STEP 5).wr SLC_START.STATE 1

theorem State.fwAlive_eq : s.fwAlive = if s.fwLives.atStep 4 then s.fwLives.fivePlaced.emit .irqCur else s.fwLives := rfl

theorem State.fwLives_atStep (n : Nat) : s.fwLives.atStep n = s.atStep n := by
  rw [State.fwLives, State.setFlag, State.atStep_wr _ _ _ (by decide)]
  rfl

theorem onlyLoader_fwLives : OnlyLoader s s.fwLives := (onlyLoader_withCur s _).trans (onlyRegFile_setFlag _ _ _).onlyLoader

theorem onlyRegFile_fivePlaced : OnlyRegFile s s.fivePlaced :=
  (onlyRegFile_daybook s _ _ _ _).trans ((onlyRegFile_stepPassed _ _).trans ((onlyRegFile_wr _ _ _).trans (onlyRegFile_wr _ _ _)))

theorem State.word_fwLives {k : Nat} (h : k ≠ CUR_FW_CTL.word.off) : s.fwLives.word k = s.word k := by
  rw [State.fwLives, State.word_setFlag, if_neg h, State.word_withCur]

theorem State.fwLives_alive : s.fwLives.rd CUR_FW_CTL.ALIVE = 1 := by
  rw [State.fwLives, State.rd_setFlag_same _ _ _ (by decide) rfl]
  rfl

theorem State.fwLives_cur : s.fwLives.cur = { s.cur with stage := 8 } := by rw [State.fwLives, State.setFlag_cur]

theorem State.word_fivePlaced {k : Nat} (hs : k ≠ SLC_START.word.off) (hd : k ∉ dbkRegs) : s.fivePlaced.word k = s.word k := by
  have hf : k ≠ DBK_FAILS.word.off := fun hc => hd (hc ▸ dbkFails_mem)
  rw [State.fivePlaced, State.word_wr, if_neg hs, State.word_wr, if_neg hs, State.stepPass, State.word_stepPassed _ _ hf,
    State.word_daybook _ hd]

theorem State.fivePlaced_start : s.fivePlaced.rd SLC_START.STEP = 5 ∧ s.fivePlaced.rd SLC_START.STATE = 1 := by
  constructor
  · rw [State.fivePlaced, State.rd_wr_apart _ _ (by decide), State.rd_wr_same _ _ _ (by decide)]
    rfl
  · rw [State.fivePlaced, State.rd_wr_same _ _ _ (by decide)]
    rfl

theorem State.fivePlaced_entered : Entered s s.fivePlaced ocPass 4 0 0 := by
  refine (s.entered_daybook ocPass 4 0 0).of_word (fun n hn => ?_)
  have hs : DBK_ENT_INFO.word.off + 8 * n ≠ SLC_START.word.off := by simp; omega
  have hf : DBK_ENT_INFO.word.off + 8 * n ≠ DBK_FAILS.word.off := by simp; omega
  rw [State.fivePlaced, State.word_wr, if_neg hs, State.word_wr, if_neg hs, State.stepPass, State.word_stepPassed _ _ hf]

/-- At most registers, the Curator, its lane and what is sent change. -/
def OnlyLoaderOut (s u : State) : Prop := OnlyLoader s { u with out := s.out }

theorem OnlyLoader.toOut {s u : State} (h : OnlyLoader s u) : OnlyLoaderOut s u := by
  have ho := h.out
  unfold OnlyLoaderOut
  rw [← ho]
  exact h

theorem OnlyLoaderOut.emit {s u : State} (h : OnlyLoaderOut s u) (o : Out) : OnlyLoaderOut s (u.emit o) := h

theorem OnlyLoaderOut.answer {s u : State} (h : OnlyLoaderOut s u) (src : MgSrc) (a b : Nat) (d : Word) :
    OnlyLoaderOut s (u.answer src a b d) := by
  rw [State.answer_eq]
  exact h

theorem OnlyLoaderOut.onlyRegs {s u : State} (h : OnlyLoaderOut s.begin u) :
    OnlyRegs { s with cur := u.cur, front := { s.front with curLane := u.front.curLane } } u.settle := OnlyLoader.onlyRegs_out h u.out

theorem onlyLoaderOut_fwAlive : OnlyLoaderOut s s.fwAlive := by
  rw [State.fwAlive_eq]
  split
  · exact ((onlyLoader_fwLives s).trans (onlyRegFile_fivePlaced _).onlyLoader).toOut.emit _
  · exact (onlyLoader_fwLives s).toOut

theorem State.word_fwAlive {k : Nat} (hc : k ≠ CUR_FW_CTL.word.off) (hs : k ≠ SLC_START.word.off) (hd : k ∉ dbkRegs) :
    s.fwAlive.word k = s.word k := by
  rw [State.fwAlive_eq]
  split
  · rw [State.word_emit, State.word_fivePlaced _ hs hd, State.word_fwLives _ hc]
  · exact s.word_fwLives hc

theorem State.fwAlive_alive : s.fwAlive.rd CUR_FW_CTL.ALIVE = 1 := by
  rw [State.fwAlive_eq]
  split
  · rw [State.rd_emit]
    exact (State.rdI_congr CUR_FW_CTL.ALIVE 0 (State.word_fivePlaced _ (by decide) (by decide))).trans s.fwLives_alive
  · exact s.fwLives_alive

theorem State.fwAlive_cur : s.fwAlive.cur = { s.cur with stage := 8 } := by
  have hfile : s.fwLives.fivePlaced.cur = s.fwLives.cur := by
    have := onlyRegFile_fivePlaced s.fwLives
    unfold OnlyRegFile at this
    rw [this]
  rw [State.fwAlive_eq]
  split
  · rw [State.emit_cur, hfile, State.fwLives_cur]
  · exact s.fwLives_cur

/-! ### A write of CUR_FW_CTL -/

/-- DONE outside the window or by the Curator, or ALIVE by another source: refused (R290). -/
def State.fwCtlBad (s : State) (m : MgWrite) : Prop :=
  (m.word.getLsbD 31 = true ∧ (s.cur.stage ≠ 3 ∨ isCurator m.src = true)) ∨ (m.word.getLsbD 30 = true ∧ isCurator m.src = false)

theorem State.writeFwCtl_bad {m : MgWrite} (h : s.fwCtlBad m) : s.writeFwCtl m = s.refuse m.src rsnField := by
  rw [State.writeFwCtl]
  by_cases hd : (m.word.getLsbD 31 && (s.cur.stage != 3 || isCurator m.src)) = true
  · exact if_pos hd
  · refine (if_neg hd).trans (if_pos ?_)
    rcases h with ⟨h31, hs⟩ | ⟨h30, hs⟩
    · exact absurd (by simpa only [h31, Bool.true_and, Bool.or_eq_true, bne_iff_ne] using hs) hd
    · rw [h30, hs]
      rfl

/-- A write of CUR_FW_CTL that is not refused. -/
theorem State.writeFwCtl_good {m : MgWrite} (h : ¬ s.fwCtlBad m) : s.writeFwCtl m =
    (if m.word.getLsbD 30 && (if m.word.getLsbD 31 then (s.setFlag CUR_FW_CTL.DONE true).fwVerify else s).cur.stage = 7 then
      (if m.word.getLsbD 31 then (s.setFlag CUR_FW_CTL.DONE true).fwVerify else s).fwAlive
    else (if m.word.getLsbD 31 then (s.setFlag CUR_FW_CTL.DONE true).fwVerify else s)).ok m.src := by
  obtain ⟨hdone, halive⟩ := not_or.mp h
  rw [State.writeFwCtl]
  refine (if_neg ?_).trans (if_neg ?_)
  · simpa only [Bool.and_eq_true, Bool.or_eq_true, bne_iff_ne] using hdone
  · simpa only [Bool.and_eq_true, Bool.not_eq_true'] using halive

theorem State.writeFwCtl_done {m : MgWrite} (h : ¬ s.fwCtlBad m) (hd : m.word.getLsbD 31 = true) :
    s.writeFwCtl m = (s.setFlag CUR_FW_CTL.DONE true).fwVerify.ok m.src := by
  have halive : m.word.getLsbD 30 = false := by
    by_contra hc
    rw [Bool.not_eq_false] at hc
    cases hs : isCurator m.src with
    | true => exact h (Or.inl ⟨hd, Or.inr hs⟩)
    | false => exact h (Or.inr ⟨hc, hs⟩)
  rw [s.writeFwCtl_good h, halive, hd]
  rfl

theorem State.writeFwCtl_alive {m : MgWrite} (h : ¬ s.fwCtlBad m) (hd : ¬ m.word.getLsbD 31 = true) (ha : m.word.getLsbD 30 = true)
    (hs : s.cur.stage = 7) : s.writeFwCtl m = s.fwAlive.ok m.src := by
  rw [s.writeFwCtl_good h, if_neg hd, ha, hs]
  rfl

theorem State.writeFwCtl_idle {m : MgWrite} (h : ¬ s.fwCtlBad m) (hd : ¬ m.word.getLsbD 31 = true)
    (ha : ¬ (m.word.getLsbD 30 = true ∧ s.cur.stage = 7)) : s.writeFwCtl m = s.ok m.src := by
  rw [s.writeFwCtl_good h, if_neg hd, if_neg (by simpa only [Bool.and_eq_true, decide_eq_true_eq] using ha)]

/-- DONE comes from another source than the Curator, ALIVE from the Curator alone. -/
theorem State.not_done_of_alive {m : MgWrite} (h : ¬ s.fwCtlBad m) (ha : m.word.getLsbD 30 = true) : ¬ m.word.getLsbD 31 = true := by
  intro hd
  cases hs : isCurator m.src with
  | true => exact h (Or.inl ⟨hd, Or.inr hs⟩)
  | false => exact h (Or.inr ⟨ha, hs⟩)

theorem onlyLoaderOut_writeFwCtl (m : MgWrite) : OnlyLoaderOut s (s.writeFwCtl m) := by
  have hself : OnlyLoaderOut s s := OnlyLoader.toOut rfl
  by_cases hb : s.fwCtlBad m
  · rw [s.writeFwCtl_bad hb]
    exact hself.answer ..
  · by_cases hd : m.word.getLsbD 31 = true
    · rw [s.writeFwCtl_done hb hd]
      exact ((onlyRegFile_setFlag s _ _).onlyLoader.trans (onlyLoader_fwVerify _)).toOut.answer ..
    · by_cases ha : m.word.getLsbD 30 = true ∧ s.cur.stage = 7
      · rw [s.writeFwCtl_alive hb hd ha.1 ha.2]
        exact (onlyLoaderOut_fwAlive s).answer ..
      · rw [s.writeFwCtl_idle hb hd ha]
        exact hself.answer ..

theorem State.word_writeFwCtl (m : MgWrite) {k : Nat} (h : k ∉ fwFailRegs) (hc : k ≠ CUR_FW_CRC.word.off) :
    (s.writeFwCtl m).word k = s.word k := by
  have h' := h
  rw [fwFailRegs, List.mem_append, List.mem_cons, not_or, not_or] at h'
  obtain ⟨hl, hs, hdbk⟩ := h'
  have hctl : k ≠ CUR_FW_CTL.word.off := fun he => hl (he ▸ by decide)
  by_cases hb : s.fwCtlBad m
  · rw [s.writeFwCtl_bad hb, State.word_refuse]
  · by_cases hd : m.word.getLsbD 31 = true
    · rw [s.writeFwCtl_done hb hd, State.word_ok, State.word_fwVerify _ h hc, State.word_setFlag, if_neg hctl]
    · by_cases ha : m.word.getLsbD 30 = true ∧ s.cur.stage = 7
      · rw [s.writeFwCtl_alive hb hd ha.1 ha.2, State.word_ok, State.word_fwAlive _ hctl hs hdbk]
      · rw [s.writeFwCtl_idle hb hd ha, State.word_ok]

/-! ### The commands -/

theorem sramZeroed_spec (s : State) :
    ∃ t, exec (.curatorSramZeroed) s = .next t ∧ (s.cur.stage ≠ 1 → Untouched s t)
      ∧ (s.cur.stage = 1 → t.cur = { s.cur with sram := [], ecc := [], stage := 3 } ∧ t.rd CUR_FW_STATUS.STATE = 1 ∧ t.rd
        CUR_FW_STATUS.ATTEMPT = (s.rd CUR_FW_STATUS.ATTEMPT + 1) % 2 ^ CUR_FW_STATUS.ATTEMPT.w ∧ t.out = [.irqCur])
      ∧ OnlyRegs { s with cur := t.cur } t
      ∧ RegsBut [CUR_FW_STATUS.word.off] s t := by
  refine ⟨s.begin.sramZeroed.settle, rfl, ?_⟩
  by_cases h : s.cur.stage = 1
  · let v : State := { s.begin with cur := { s.begin.cur with sram := [], ecc := [], stage := 3 } }
    have hform : s.begin.sramZeroed =
        ((v.wr CUR_FW_STATUS.STATE 1).wr CUR_FW_STATUS.ATTEMPT (s.rd CUR_FW_STATUS.ATTEMPT + 1)).emit .irqCur := by
      rw [State.sramZeroed, s.begin_cur, h, ← s.begin_rd (f := CUR_FW_STATUS.ATTEMPT) rfl, ← s.begin_cur]
      rfl
    rw [hform]
    refine ⟨fun hn => absurd h hn, fun _ => ⟨by simp [v], ?_, ?_, by simp [v]⟩, by apply onlyRegs_settle <;> simp [v], fun k hk hp => ?_⟩
    · rw [State.rd_settle, State.rd_emit, State.rd_wr_apart _ _ (by decide), State.rd_wr_same _ _ _ (by decide)]
      rfl
    · rw [State.rd_settle, State.rd_emit, State.rd_wr_same _ _ _ (by decide)]
    · have hk' : k ≠ CUR_FW_STATUS.word.off := by simpa using hk
      rw [State.word_settle, State.word_emit, State.word_wr, if_neg hk', State.word_wr, if_neg hk', State.word_withCur]
      exact s.word_begin k hp
  · have hform : s.begin.sramZeroed = s.begin := by
      rw [State.sramZeroed, s.begin_cur]
      exact if_pos (bne_iff_ne.mpr h)
    rw [hform]
    exact ⟨fun _ => ⟨by simp, by apply onlyRegs_settle <;> simp, fun k _ hp => s.word_begin k hp⟩, fun hc => absurd hc h,
      by apply onlyRegs_settle <;> simp, fun k _ hp => s.word_begin k hp⟩

/-- What the checks of DONE read is the same once DONE is set. -/
theorem State.begin_done_checks : (s.begin.setFlag CUR_FW_CTL.DONE true).fwHeader = s.fwHeader
    ∧ (∀ i, (s.begin.setFlag CUR_FW_CTL.DONE true).sram i = s.sram i)
    ∧ ∀ len, (s.begin.setFlag CUR_FW_CTL.DONE true).fwCrc len = s.fwCrc len := by
  have hsram : (s.begin.setFlag CUR_FW_CTL.DONE true).cur.sram = s.cur.sram := by rw [State.setFlag_cur, State.begin_cur]
  exact ⟨State.fwHeader_congr hsram ((State.rd_setFlag_apart _ _ (by decide)).trans (s.begin_rd rfl)),
    State.sram_congr hsram, State.fwCrc_congr hsram⟩

/-- The registers that tell a failed attempt stand before it as the command found them. -/
theorem State.begin_done_words : ∀ k ∈ [CUR_FW_STATUS.word.off, SLC_START.word.off, DBK_STATUS.word.off],
    (s.begin.setFlag CUR_FW_CTL.DONE true).word k = s.word k := by
  intro k hk
  simp only [List.mem_cons, List.not_mem_nil, or_false] at hk
  rcases hk with rfl | rfl | rfl <;> rw [State.word_setFlag, if_neg (by decide)] <;> exact s.word_begin _ rfl

theorem State.begin_measured_words (len : Nat) : ∀ k ∈ [CUR_FW_STATUS.word.off, SLC_START.word.off, DBK_STATUS.word.off],
    ((s.begin.setFlag CUR_FW_CTL.DONE true).fwMeasured len).word k = s.word k := by
  intro k hk
  refine Eq.trans (State.word_fwMeasured _ _ ?_) (s.begin_done_words k hk)
  simp only [List.mem_cons, List.not_mem_nil, or_false] at hk
  rcases hk with rfl | rfl | rfl <;> decide

theorem fwCtl_spec (s : State) (i : Instr) (m : MgWrite) (hi : i = .fwDone m ∨ i = .fwAlive m) :
    let done := m.word.getLsbD 31 = true
    let alive := m.word.getLsbD 30 = true
    let bad := (done ∧ (s.cur.stage ≠ 3 ∨ isCurator m.src = true)) ∨ (alive ∧ isCurator m.src = false)
    let len := (s.sram 1).toNat
    Admits s CUR_FW_CTL.word.off m.src →
    ∃ t, exec i s = .next t ∧ (bad → t.out = [answerOut m.src stRefused rsnField 0] ∧ OnlyRegs s t ∧ RegsBut [] s t)
      ∧ (¬ bad → answerOut m.src stOk rsnNone 0 ∈ t.out)
      ∧ (¬ bad → ¬ done → ¬ alive → OnlyRegs s t ∧ RegsBut [] s t)
      ∧ (¬ bad → done → s.fwHeader = false → AttemptFailed s t 0x40)
      ∧ (¬ bad → done → s.fwHeader = true → s.fwCrc len ≠ s.sram 7 → AttemptFailed s t 0x41 ∧ t.word CUR_FW_CRC.word.off = s.fwCrc len)
      ∧ (¬ bad → done → s.fwHeader = true → s.fwCrc len = s.sram 7 → t.cur = { s.cur with len := len, stage := 5 } ∧ t.rd
        CUR_FW_STATUS.STATE = 2 ∧ t.flag CUR_FW_CTL.DONE = true ∧ t.word CUR_FW_CRC.word.off = s.fwCrc len)
      ∧ (¬ bad → alive → s.cur.stage = 7 → t.cur = { s.cur with stage := 8 } ∧ t.flag CUR_FW_CTL.ALIVE = true ∧ (s.atStep 4 = true → t.rd
        SLC_START.STEP = 5 ∧ t.rd SLC_START.STATE = 1 ∧ Entered s t ocPass 4 0 0))
      ∧ (¬ bad → alive → s.cur.stage ≠ 7 → OnlyRegs s t ∧ RegsBut [] s t)
      ∧ OnlyRegs { s with cur := t.cur, front := { s.front with curLane := t.front.curLane } } t
      ∧ RegsBut ([CUR_FW_CTL.word.off, CUR_FW_STATUS.word.off, CUR_FW_CRC.word.off, CUR_WDT_STATUS.word.off, CUR_MBX_DB.word.off,
        SLC_START.word.off] ++ dbkRegs) s t := by
  intro done alive bad len h
  have hexec : exec i s = .next (s.begin.writeFwCtl m).settle := by
    rcases hi with rfl | rfl <;> exact settled_mgWrite h _ _
  have hbad : s.begin.fwCtlBad m ↔ bad := by rw [State.fwCtlBad, State.begin_cur]
  obtain ⟨hhead, hsram, hcrc⟩ := s.begin_done_checks
  have hidle : ¬ bad → ¬ done → ¬ (alive ∧ s.cur.stage = 7) →
      OnlyRegs s (s.begin.writeFwCtl m).settle ∧ RegsBut [] s (s.begin.writeFwCtl m).settle := fun hb hd ha => by
    rw [State.writeFwCtl_idle _ (mt hbad.mp hb) hd (by rw [State.begin_cur]; exact ha)]
    exact ⟨onlyRegs_begin_answer .., regsBut_begin_answer s _ _ _ _⟩
  refine ⟨_, hexec, fun hb => ?_, fun hb => ?_, fun hb hd ha => hidle hb hd (fun hc => ha hc.1), fun hb hd hh => ?_,
    fun hb hd hh hc => ?_, fun hb hd hh hc => ?_, fun hb ha hst => ?_,
    fun hb ha hst => hidle hb (State.not_done_of_alive s.begin (mt hbad.mp hb) ha) (fun hc => hst hc.2),
    (onlyLoaderOut_writeFwCtl s.begin m).onlyRegs, fun k hk hp => ?_⟩
  · rw [State.writeFwCtl_bad _ (hbad.mpr hb)]
    exact ⟨by simp [State.refuse_out], onlyRegs_begin_answer .., regsBut_begin_answer s _ _ _ _⟩
  · rw [State.writeFwCtl_good _ (mt hbad.mp hb), State.settle_out, State.ok_out]
    exact List.mem_append_right _ (List.mem_singleton.mpr rfl)
  · rw [State.writeFwCtl_done _ (mt hbad.mp hb) hd, State.fwVerify_header _ (hhead.trans hh)]
    exact s.fwFail_ok_failed (by decide) s.begin_done_words _
  · rw [State.writeFwCtl_done _ (mt hbad.mp hb) hd,
      State.fwVerify_crc _ (hhead.trans hh) (by rw [hsram, hsram, hcrc]; exact hc), hsram]
    refine ⟨s.fwFail_ok_failed (by decide) (s.begin_measured_words _) _, ?_⟩
    rw [State.word_settle, State.word_ok, State.word_fwFail _ (by decide), State.fwMeasured_crc, hcrc]
  · rw [State.writeFwCtl_done _ (mt hbad.mp hb) hd,
      State.fwVerify_good _ (hhead.trans hh) (by rw [hsram, hsram, hcrc]; exact hc), hsram]
    refine ⟨by simp [State.fwVerified, State.fwMeasured, len], ?_, ?_, ?_⟩
    · rw [State.rd_settle, State.rd_ok, State.fwVerified, State.rd_wr_same _ _ _ (by decide)]
      rfl
    · have hkeep : (((s.begin.setFlag CUR_FW_CTL.DONE true).fwMeasured (s.sram 1).toNat).fwVerified).rd CUR_FW_CTL.DONE = 1 := by
        refine (State.rdI_congr CUR_FW_CTL.DONE 0 ((State.word_fwVerified _ (by decide)).trans
          (State.word_fwMeasured _ _ (by decide)))).trans ?_
        exact State.rd_setFlag_same _ _ _ (by decide) rfl
      rw [State.flag_eq, State.rd_settle, State.rd_ok, hkeep]
      rfl
    · rw [State.word_settle, State.word_ok, State.word_fwVerified _ (by decide), State.fwMeasured_crc, hcrc]
  · have hd := State.not_done_of_alive s.begin (mt hbad.mp hb) ha
    rw [State.writeFwCtl_alive _ (mt hbad.mp hb) hd ha (by rw [State.begin_cur]; exact hst)]
    refine ⟨by rw [State.settle_cur, State.ok_cur, State.fwAlive_cur, State.begin_cur], ?_, fun h4 => ?_⟩
    · rw [State.flag_eq, State.rd_settle, State.rd_ok, State.fwAlive_alive]
      rfl
    · have hat : s.begin.fwLives.atStep 4 = true := by
        rw [State.fwLives_atStep, State.atStep, s.begin_rd rfl, s.begin_rd rfl]
        exact h4
      obtain ⟨hstep, hstate⟩ := s.begin.fwLives.fivePlaced_start
      rw [State.fwAlive_eq, if_pos hat]
      refine ⟨by rw [State.rd_settle, State.rd_ok, State.rd_emit, hstep], by rw [State.rd_settle, State.rd_ok, State.rd_emit, hstate], ?_⟩
      refine Entered.congr ?_ (s.begin.fwLives.fivePlaced_entered.of_word (fun n _ => by
        rw [State.word_settle, State.word_ok, State.word_emit]))
      exact (State.word_fwLives _ (by decide)).trans (s.word_begin _ rfl)
  · have hk' : k ∉ fwFailRegs ∧ k ≠ CUR_FW_CRC.word.off := by
      simp only [List.mem_append, List.mem_cons, List.not_mem_nil, or_false, not_or] at hk
      simp only [fwFailRegs, loaderRegs, List.mem_append, List.mem_cons, List.not_mem_nil, or_false, not_or]
      tauto
    rw [State.word_settle, State.word_writeFwCtl _ _ hk'.1 hk'.2]
    exact s.word_begin k hp

/-- One of the two time limits of an attempt: in its stages the attempt fails, in others nothing happens. -/
theorem fwTimeouts_spec (s : State) (i : Instr) (hi : i = .fwTimeout ∨ i = .fwAliveTimeout) :
    let due := if i = .fwTimeout then s.cur.stage = 3 ∨ s.cur.stage = 5 else s.cur.stage = 7
    ∃ t, exec i s = .next t ∧ (¬ due → Untouched s t)
      ∧ (due → AttemptFailed s t (if i = .fwTimeout then 0x42 else 0x44))
      ∧ t.out = []
      ∧ OnlyRegs { s with cur := t.cur, front := { s.front with curLane := t.front.curLane } } t
      ∧ RegsBut ([CUR_FW_CTL.word.off, CUR_FW_STATUS.word.off, CUR_WDT_STATUS.word.off, CUR_MBX_DB.word.off, SLC_START.word.off] ++
        dbkRegs) s t := by
  intro due
  obtain ⟨cause, hcause, hlt, hexec⟩ : ∃ cause, (if i = .fwTimeout then 0x42 else 0x44) = cause ∧ cause < 256
      ∧ ((due → exec i s = .next (s.begin.fwFail cause).settle) ∧ (¬ due → exec i s = .next s.begin.settle)) := by
    rcases hi with rfl | rfl
    · refine ⟨0x42, if_pos rfl, by decide, fun hd => congrArg settled (if_pos ?_), fun hd => congrArg settled (if_neg ?_)⟩
      · rw [State.begin_cur, Bool.or_eq_true, decide_eq_true_eq, decide_eq_true_eq]
        exact hd
      · rw [State.begin_cur, Bool.or_eq_true, decide_eq_true_eq, decide_eq_true_eq]
        exact hd
    · refine ⟨0x44, if_neg (by simp), by decide, fun hd => congrArg settled (if_pos ?_), fun hd => congrArg settled (if_neg ?_)⟩
      · rw [State.begin_cur]
        exact hd
      · rw [State.begin_cur]
        exact hd
  rw [hcause]
  by_cases hd : due
  · refine ⟨_, hexec.1 hd, fun hn => absurd hd hn, fun _ => ?_, ?_, (onlyLoader_fwFail s.begin cause).onlyRegs, fun k hk hp => ?_⟩
    · exact (s.begin.fwFail_failed hlt).congr (s.word_begin _ rfl) (s.word_begin _ rfl) (s.word_begin _ rfl) (fun k => State.word_settle _ k)
        (State.settle_cur _) (State.settle_front _)
    · rw [State.settle_out, (onlyLoader_fwFail s.begin cause).out, State.begin_out]
    · have hk' : k ∉ fwFailRegs := by
        simp only [List.mem_append, List.mem_cons, List.not_mem_nil, or_false, not_or] at hk
        simp only [fwFailRegs, loaderRegs, List.mem_append, List.mem_cons, List.not_mem_nil, or_false, not_or]
        tauto
      rw [State.word_settle, State.word_fwFail _ hk']
      exact s.word_begin k hp
  · have hframe : OnlyRegs s s.begin.settle := by apply onlyRegs_settle <;> simp
    refine ⟨_, hexec.2 hd, fun _ => ⟨by simp, hframe, fun k _ hp => s.word_begin k hp⟩, fun h => absurd h hd, by simp, ?_,
      fun k _ hp => s.word_begin k hp⟩
    apply onlyRegs_settle <;> simp

end Sys2Proof.Machine
end

section
/-! SUPPORT. The attestation of the firmware (R290, R291). -/

namespace Sys2Proof.Machine

variable (s : State)

theorem onlyRegFile_plain (off : Nat) (w : Word) : OnlyRegFile s (s.plain off w) := by
  unfold State.plain
  split <;> rfl

theorem regRow_fwAttest (b : Bool) : regRow b CUR_FW_ATTEST.word.off = some ⟨0x32008, 1, 1, 0, 0x8003FFFF, 0x0, 0x0, 0x0, 0x0⟩ := by
  cases b <;> decide

/-- The written fields of CUR_FW_ATTEST. -/
theorem State.plain_attest (w : Word) :
    (s.plain CUR_FW_ATTEST.word.off w).rd CUR_FW_ATTEST.LEN = fieldGet CUR_FW_ATTEST.LEN w
      ∧ (s.plain CUR_FW_ATTEST.word.off w).rd CUR_FW_ATTEST.VERIFIED = fieldGet CUR_FW_ATTEST.VERIFIED w := by
  have hrow := regRow_fwAttest s.s64
  constructor
  · exact (s.rd_plain_same hrow w CUR_FW_ATTEST.LEN rfl rfl).trans (fieldGet_plainWrite_rw _ _ (by decide))
  · exact (s.rd_plain_same hrow w CUR_FW_ATTEST.VERIFIED rfl rfl).trans (fieldGet_plainWrite_rw _ _ (by decide))

/-- Attested firmware runs, with its watchdog armed. -/
def State.fwRunning (s : State) : State :=
  ((({ s with cur := { s.cur with stage := 7 } }).wr CUR_FW_STATUS.STATE 3).setFlag CUR_WDT_STATUS.ARMED true).wdtRestart

theorem State.fwAttested_idle (h : s.cur.stage ≠ 5) : s.fwAttested = s := if_pos (bne_iff_ne.mpr h)

theorem State.fwAttested_unverified (h : s.cur.stage = 5) (hv : s.rd CUR_FW_ATTEST.VERIFIED = 0) : s.fwAttested = s.fwFail 0x45 := by
  rw [State.fwAttested, if_neg (by rw [h]; decide)]
  exact if_pos (by rw [State.flag_eq, hv]; rfl)

theorem State.fwAttested_length (h : s.cur.stage = 5) (hv : s.rd CUR_FW_ATTEST.VERIFIED = 1) (hl : s.rd CUR_FW_ATTEST.LEN ≠ s.cur.len) :
    s.fwAttested = s.fwFail 0x43 := by
  rw [State.fwAttested, if_neg (by rw [h]; decide), if_neg (by rw [State.flag_eq, hv]; decide)]
  exact if_pos (bne_iff_ne.mpr hl)

theorem State.fwAttested_good (h : s.cur.stage = 5) (hv : s.rd CUR_FW_ATTEST.VERIFIED = 1) (hl : s.rd CUR_FW_ATTEST.LEN = s.cur.len) :
    s.fwAttested = s.fwRunning := by
  rw [State.fwAttested, if_neg (by rw [h]; decide), if_neg (by rw [State.flag_eq, hv]; decide)]
  exact if_neg (by rw [bne_iff_ne, not_not]; exact hl)

theorem onlyLoader_wdtRestart : OnlyLoader s s.wdtRestart := by
  obtain ⟨c, v, hform⟩ : ∃ c v, s.wdtRestart = ({ s with cur := c }).wr CUR_WDT_STATUS.REMAIN v := ⟨_, _, rfl⟩
  rw [hform]
  exact (onlyLoader_withCur s c).trans (onlyRegFile_wr _ _ _).onlyLoader

theorem State.word_wdtRestart {k : Nat} (h : k ≠ CUR_WDT_STATUS.word.off) : s.wdtRestart.word k = s.word k := by
  obtain ⟨c, v, hform⟩ : ∃ c v, s.wdtRestart = ({ s with cur := c }).wr CUR_WDT_STATUS.REMAIN v := ⟨_, _, rfl⟩
  rw [hform, State.word_wr, if_neg h, State.word_withCur]

theorem State.rd_wdtRestart {g : Field} (h : Apart CUR_WDT_STATUS.REMAIN g) : s.wdtRestart.rd g = s.rd g := by
  obtain ⟨c, v, hform⟩ : ∃ c v, s.wdtRestart = ({ s with cur := c }).wr CUR_WDT_STATUS.REMAIN v := ⟨_, _, rfl⟩
  rw [hform, State.rd_wr_apart _ _ h, State.rd_withCur]

theorem onlyLoader_fwRunning : OnlyLoader s s.fwRunning :=
  (onlyLoader_withCur s _).trans (((onlyRegFile_wr _ _ _).trans (onlyRegFile_setFlag _ _ _)).onlyLoader.trans (onlyLoader_wdtRestart _))

theorem State.word_fwRunning {k : Nat} (hst : k ≠ CUR_FW_STATUS.word.off) (hw : k ≠ CUR_WDT_STATUS.word.off) :
    s.fwRunning.word k = s.word k := by
  rw [State.fwRunning, State.word_wdtRestart _ hw, State.word_setFlag, if_neg hw, State.word_wr, if_neg hst, State.word_withCur]

theorem State.fwRunning_shown : s.fwRunning.rd CUR_FW_STATUS.STATE = 3 ∧ s.fwRunning.rd CUR_WDT_STATUS.ARMED = 1 := by
  constructor
  · rw [State.fwRunning, State.rd_wdtRestart _ (by decide), State.rd_setFlag_apart _ _ (by decide), State.rd_wr_same _ _ _ (by decide)]
    rfl
  · rw [State.fwRunning, State.rd_wdtRestart _ (by decide), State.rd_setFlag_same _ _ _ (by decide) rfl]
    rfl

theorem State.fwRunning_cur : s.fwRunning.cur = { s.cur with stage := 7, wdtEnd := s.now + s.wdtMs * 1000000 } := by
  let u : State := (({ s with cur := { s.cur with stage := 7 } }).wr CUR_FW_STATUS.STATE 3).setFlag CUR_WDT_STATUS.ARMED true
  have hcur : u.cur = { s.cur with stage := 7 } := by simp [u]
  have hnow : u.now = s.now := by rw [State.now, State.now, State.setFlag_pins, State.wr_pins]
  have hms : u.wdtMs = s.wdtMs := by
    rw [State.wdtMs, State.wdtMs, State.rd_setFlag_apart _ _ (by decide), State.rd_wr_apart _ _ (by decide), State.rd_withCur]
  have hrun : s.fwRunning.cur = { u.cur with wdtEnd := u.now + u.wdtMs * 1000000 } := u.wdtRestart_cur
  rw [hrun, hcur, hnow, hms]

theorem onlyLoader_fwAttested : OnlyLoader s s.fwAttested := by
  by_cases h : s.cur.stage = 5
  · have hv : s.rd CUR_FW_ATTEST.VERIFIED < 2 := s.rdI_lt CUR_FW_ATTEST.VERIFIED 0
    by_cases hv0 : s.rd CUR_FW_ATTEST.VERIFIED = 0
    · rw [s.fwAttested_unverified h hv0]
      exact onlyLoader_fwFail ..
    · by_cases hl : s.rd CUR_FW_ATTEST.LEN = s.cur.len
      · rw [s.fwAttested_good h (by omega) hl]
        exact onlyLoader_fwRunning s
      · rw [s.fwAttested_length h (by omega) hl]
        exact onlyLoader_fwFail ..
  · rw [s.fwAttested_idle h]
    rfl

theorem State.word_fwAttested {k : Nat} (h : k ∉ fwFailRegs) : s.fwAttested.word k = s.word k := by
  have hst : k ≠ CUR_FW_STATUS.word.off := fun he => h (he ▸ fwStatus_mem)
  have hw : k ≠ CUR_WDT_STATUS.word.off := fun he => h (he ▸ by simp [fwFailRegs, loaderRegs])
  by_cases hs : s.cur.stage = 5
  · have hv : s.rd CUR_FW_ATTEST.VERIFIED < 2 := s.rdI_lt CUR_FW_ATTEST.VERIFIED 0
    by_cases hv0 : s.rd CUR_FW_ATTEST.VERIFIED = 0
    · rw [s.fwAttested_unverified hs hv0, State.word_fwFail _ h]
    · by_cases hl : s.rd CUR_FW_ATTEST.LEN = s.cur.len
      · rw [s.fwAttested_good hs (by omega) hl, State.word_fwRunning _ hst hw]
      · rw [s.fwAttested_length hs (by omega) hl, State.word_fwFail _ h]
  · rw [s.fwAttested_idle hs]

theorem State.writeAttest_root {m : MgWrite} (h : m.src = .rootOfTrust) :
    s.writeAttest m = ((s.plain CUR_FW_ATTEST.word.off m.word).fwAttested).ok m.src := by
  rw [State.writeAttest, h]

theorem State.writeAttest_other {m : MgWrite} (h : m.src ≠ .rootOfTrust) : s.writeAttest m = s.refuse m.src rsnField := by
  rw [State.writeAttest]
  cases hs : m.src with
  | rootOfTrust => exact absurd hs h
  | driver => rfl
  | test => rfl
  | curator => rfl
  | reserved code => rfl

theorem fwAttest_spec (s : State) (m : MgWrite) :
    let root := m.src = .rootOfTrust
    let good := fieldGet CUR_FW_ATTEST.VERIFIED m.word = 1
    let len := fieldGet CUR_FW_ATTEST.LEN m.word
    Admits s CUR_FW_ATTEST.word.off m.src →
    ∃ t, exec (.fwAttest m) s = .next t ∧ (¬ root → t.out = [answerOut m.src stRefused rsnField 0] ∧ OnlyRegs s t ∧ RegsBut [] s t)
      ∧ (root → answerOut m.src stOk rsnNone 0 ∈ t.out ∧ t.rd CUR_FW_ATTEST.LEN = len)
      ∧ (root → s.cur.stage ≠ 5 → t.cur = s.cur ∧ RegsBut [CUR_FW_ATTEST.word.off] s t)
      ∧ (root → s.cur.stage = 5 → ¬ good → AttemptFailed s t 0x45)
      ∧ (root → s.cur.stage = 5 → good → len ≠ s.cur.len → AttemptFailed s t 0x43)
      ∧ (root → s.cur.stage = 5 → good → len = s.cur.len → t.cur = { s.cur with stage := 7, wdtEnd := s.now + s.wdtMs * 1000000 } ∧ t.rd
        CUR_FW_STATUS.STATE = 3 ∧ t.flag CUR_WDT_STATUS.ARMED = true)
      ∧ OnlyRegs { s with cur := t.cur, front := { s.front with curLane := t.front.curLane } } t
      ∧ RegsBut ([CUR_FW_ATTEST.word.off, CUR_FW_CTL.word.off, CUR_FW_STATUS.word.off, CUR_WDT_STATUS.word.off, CUR_MBX_DB.word.off,
        SLC_START.word.off] ++ dbkRegs) s t := by
  intro root good len h
  refine ⟨_, settled_mgWrite h _ _, ?_⟩
  by_cases hr : root
  · obtain ⟨v, hv⟩ : ∃ v, v = s.begin.plain CUR_FW_ATTEST.word.off m.word := ⟨_, rfl⟩
    have hfields := s.begin.plain_attest m.word
    rw [← hv] at hfields
    obtain ⟨hlen, hver⟩ := hfields
    have hword : ∀ k, k ≠ CUR_FW_ATTEST.word.off → v.word k = s.begin.word k := fun k hk => by
      rw [hv, State.word_plain_other _ _ hk]
    have hcur : v.cur = s.cur := by rw [hv, State.plain_cur, State.begin_cur]
    have hpins : v.pins = s.pins := by rw [hv, State.plain_pins, State.begin_pins]
    have hfile : OnlyLoader s.begin v := by
      rw [hv]
      exact OnlyRegFile.onlyLoader (onlyRegFile_plain _ _ _)
    have hkeep : ∀ k ∈ [CUR_FW_STATUS.word.off, SLC_START.word.off, DBK_STATUS.word.off], v.word k = s.word k := by
      intro k hk
      simp only [List.mem_cons, List.not_mem_nil, or_false] at hk
      rcases hk with rfl | rfl | rfl <;> exact (hword _ (by decide)).trans (s.word_begin _ rfl)
    rw [State.writeAttest_root _ hr, ← hv]
    refine ⟨fun hn => absurd hr hn, fun _ => ⟨?_, ?_⟩, fun _ hs => ⟨?_, fun k hk hp => ?_⟩, fun _ hs hg => ?_, fun _ hs hg hl => ?_,
      fun _ hs hg hl => ⟨?_, ?_, ?_⟩, (hfile.trans (onlyLoader_fwAttested v)).toOut.answer .. |>.onlyRegs, fun k hk hp => ?_⟩
    · rw [State.settle_out, State.ok_out]
      exact List.mem_append_right _ (List.mem_singleton.mpr rfl)
    · rw [State.rd_settle, State.rd_ok]
      exact (State.rdI_congr CUR_FW_ATTEST.LEN 0 (State.word_fwAttested _ (by decide))).trans hlen
    · rw [State.settle_cur, State.ok_cur, State.fwAttested_idle _ (by rw [hcur]; exact hs), hcur]
    · rw [State.word_settle, State.word_ok, State.fwAttested_idle _ (by rw [hcur]; exact hs), hword k (by simpa using hk)]
      exact s.word_begin k hp
    · have hv0 : v.rd CUR_FW_ATTEST.VERIFIED = 0 := by
        have hlt : v.rd CUR_FW_ATTEST.VERIFIED < 2 := v.rdI_lt CUR_FW_ATTEST.VERIFIED 0
        have hne : v.rd CUR_FW_ATTEST.VERIFIED ≠ 1 := by rw [hver]; exact hg
        omega
      rw [State.fwAttested_unverified _ (by rw [hcur]; exact hs) hv0]
      exact s.fwFail_ok_failed (by decide) hkeep _
    · rw [State.fwAttested_length _ (by rw [hcur]; exact hs) (hver.trans hg) (by rw [hcur, hlen]; exact hl)]
      exact s.fwFail_ok_failed (by decide) hkeep _
    · have hnow : v.now = s.now := by rw [State.now, State.now, hpins]
      have hms : v.wdtMs = s.wdtMs := by
        rw [State.wdtMs, State.wdtMs]
        exact congrArg (max 1) (State.rdI_congr CUR_WDT_CTL.PERIOD_MS 0 ((hword _ (by decide)).trans (s.word_begin _ rfl)))
      rw [State.fwAttested_good _ (by rw [hcur]; exact hs) (hver.trans hg) (by rw [hcur, hlen]; exact hl), State.settle_cur, State.ok_cur,
        State.fwRunning_cur, hcur, hnow, hms]
    · rw [State.fwAttested_good _ (by rw [hcur]; exact hs) (hver.trans hg) (by rw [hcur, hlen]; exact hl), State.rd_settle, State.rd_ok,
        v.fwRunning_shown.1]
    · rw [State.fwAttested_good _ (by rw [hcur]; exact hs) (hver.trans hg) (by rw [hcur, hlen]; exact hl), State.flag_eq, State.rd_settle,
        State.rd_ok, v.fwRunning_shown.2]
      rfl
    · have hk' : k ∉ fwFailRegs ∧ k ≠ CUR_FW_ATTEST.word.off := by
        simp only [List.mem_append, List.mem_cons, List.not_mem_nil, or_false, not_or] at hk
        simp only [fwFailRegs, loaderRegs, List.mem_append, List.mem_cons, List.not_mem_nil, or_false, not_or]
        tauto
      rw [State.word_settle, State.word_ok, State.word_fwAttested _ hk'.1, hword k hk'.2]
      exact s.word_begin k hp
  · rw [State.writeAttest_other _ hr]
    have hframe := onlyRegs_begin_answer s m.src stRefused rsnField 0
    have hregs := regsBut_begin_answer s m.src stRefused rsnField 0
    refine ⟨fun _ => ⟨by simp [State.refuse_out], hframe, hregs⟩, fun h => absurd h hr, fun h => absurd h hr, fun h => absurd h hr,
      fun h => absurd h hr, fun h => absurd h hr, ?_, fun k _ hp => hregs k (by simp) hp⟩
    apply onlyRegs_settle <;> simp

/-- Settles O52: the commands of the boot loader's stages, with the failed attempt as their common rule. -/
theorem firmwareAttempts : Obligations.FirmwareAttempts :=
  ⟨sramZeroed_spec, fwCtl_spec, fwAttest_spec, fwTimeouts_spec⟩

end Sys2Proof.Machine
end

section
/-! SUPPORT. Frames: commits, buckets, and the cap in force (R246, R248, R250, R328). -/

namespace Sys2Proof.Machine

variable (s : State)

/-! ### Passes over a table -/

/-- A pass whose step for `l` changes the place `l` alone, in a way that the state's constants fix. -/
theorem foldl_pointwise {σ α : Type} {f : σ → Nat → σ} {get : σ → Nat → α} {val : Nat → α → α} {P : σ → Prop}
    (hP : ∀ s l, P s → P (f s l)) (hsame : ∀ s l, P s → get (f s l) l = val l (get s l))
    (hother : ∀ s l j, P s → j ≠ l → get (f s l) j = get s j) {ls : List Nat} (hnodup : ls.Nodup) {s : σ} (hs : P s) (j : Nat) :
    get (ls.foldl f s) j = if j ∈ ls then val j (get s j) else get s j := by
  induction ls generalizing s with
  | nil => rfl
  | cons l ls ih =>
    rw [List.nodup_cons] at hnodup
    rw [List.foldl_cons, ih hnodup.2 (hP s l hs)]
    by_cases hj : j = l
    · subst hj
      rw [if_neg hnodup.1, if_pos List.mem_cons_self, hsame s j hs]
    · rw [hother s l j hs hj]
      simp only [List.mem_cons, hj, false_or]

theorem foldl_invariant {σ α : Type} {f : σ → α → σ} {P : σ → Prop} (hP : ∀ s a, P s → P (f s a)) (ls : List α) {s : σ} (hs : P s) :
    P (ls.foldl f s) := by
  induction ls generalizing s with
  | nil => exact hs
  | cons a ls ih => exact ih (hP s a hs)

/-! ### The frame of a frame boundary -/

/-- At most registers, the front island, accepted settings and the granted cap change. -/
def OnlyFrame (s u : State) : Prop :=
  u = { s with regs := u.regs, front := u.front, adm := { s.adm with tclNext := u.adm.tclNext, winNext := u.adm.winNext },
               pwr := { s.pwr with granted := u.pwr.granted } }

theorem OnlyFrame.trans {s t u : State} (hst : OnlyFrame s t) (htu : OnlyFrame t u) : OnlyFrame s u := by
  unfold OnlyFrame at *
  rw [htu, hst]

theorem OnlyRegFile.onlyFrame {s u : State} (h : OnlyRegFile s u) : OnlyFrame s u := by
  unfold OnlyRegFile at h
  rw [h]
  rfl

theorem OnlyFrame.foldl {α : Type} {g : State → α → State} (h : ∀ u a, OnlyFrame u (g u a)) (l : List α) (s : State) :
    OnlyFrame s (l.foldl g s) := by
  induction l generalizing s with
  | nil => rfl
  | cons a l ih => exact (h s a).trans (ih _)

theorem onlyFrame_withFront (f : Front) : OnlyFrame s { s with front := f } := rfl

theorem OnlyFrame.onlyRegs {s u : State} (h : OnlyFrame s.begin u) :
    OnlyRegs { s with front := u.settle.front, adm := { s.adm with tclNext := u.settle.adm.tclNext, winNext := u.settle.adm.winNext },
                      pwr := { s.pwr with granted := u.settle.pwr.granted } } u.settle := by
  unfold OnlyFrame at h
  generalize u.regs = R, u.front = F, u.adm.tclNext = T, u.adm.winNext = W, u.pwr.granted = G at h
  subst h
  apply onlyRegs_settle <;> simp

theorem OnlyFrame.out {s u : State} (h : OnlyFrame s u) : u.out = s.out := by
  unfold OnlyFrame at h
  rw [h]

theorem OnlyFrame.s64 {s u : State} (h : OnlyFrame s u) : u.s64 = s.s64 := by
  unfold OnlyFrame at h
  rw [h]

/-- The registers that a frame boundary writes. -/
def frameRegs : List Nat :=
  [WIN_FRAME.word.off, WIN_CTL.word.off, PWR_CAP.word.off, PWR_RAMP.word.off] ++ (List.range 8).flatMap (fun l =>
    [TCL_BUCKET.BUCKET.off + TCL_BUCKET.BUCKET.stride * l, TCL_HELD.COUNT.off + TCL_HELD.COUNT.stride * l])

theorem frameRegs_label {k l : Nat} (h : k ∉ frameRegs) (hl : l < 8) :
    k ≠ TCL_BUCKET.BUCKET.off + TCL_BUCKET.BUCKET.stride * l ∧ k ≠ TCL_HELD.COUNT.off + TCL_HELD.COUNT.stride * l := by
  constructor <;> rintro rfl <;>
    exact h (List.mem_append_right _ (List.mem_flatMap.mpr ⟨l, List.mem_range.mpr hl, by simp only [List.mem_cons, true_or, or_true]⟩))

theorem frameRegs_plain {k : Nat} (h : k ∉ frameRegs) :
    k ≠ WIN_FRAME.word.off ∧ k ≠ WIN_CTL.word.off ∧ k ≠ PWR_CAP.word.off ∧ k ≠ PWR_RAMP.word.off := by
  refine ⟨?_, ?_, ?_, ?_⟩ <;> rintro rfl <;> exact h (by decide)

/-! ### Buckets -/

theorem State.bucket_setBucket (l j : Nat) (v : Int) : (s.setBucket l v).bucket j = if j = l then v else s.bucket j := by
  change tget 0 (tput 0 s.front.bucket l v) j = _
  rw [tget_tput]
  rfl

theorem State.word_setBucket (l : Nat) (v : Int) {k : Nat} (h : k ≠ TCL_BUCKET.BUCKET.off + TCL_BUCKET.BUCKET.stride * l) :
    (s.setBucket l v).word k = s.word k := by
  unfold State.setBucket
  rw [State.word_wrI, if_neg h]
  rfl

theorem onlyFrame_setBucket (l : Nat) (v : Int) : OnlyFrame s (s.setBucket l v) := by
  unfold State.setBucket
  exact (onlyFrame_withFront s _).trans (onlyRegFile_wrI _ _ _ _).onlyFrame

/-- A bucket's change leaves the rest of the front island. -/
theorem State.setBucket_front_eq (l : Nat) (v : Int) :
    (s.setBucket l v).front = { s.front with bucket := (s.setBucket l v).front.bucket } := by
  unfold State.setBucket
  simp only [State.wrI_front]

theorem State.setting_congr {s t : State} (h : s.s64 = t.s64) : s.setting = t.setting := by
  funext u f i
  rw [State.setting, State.setting, h]

theorem State.bucketCap_congr {s t : State} (h : s.s64 = t.s64) : s.bucketCap = t.bucketCap := by
  funext u l
  rw [State.bucketCap, State.bucketCap, State.setting_congr h]

/-- At most registers and buckets change. -/
def OnlyBuckets (s u : State) : Prop := u = { s with regs := u.regs, front := { s.front with bucket := u.front.bucket } }

theorem OnlyBuckets.refl (s : State) : OnlyBuckets s s := rfl

theorem OnlyBuckets.trans {s t u : State} (hst : OnlyBuckets s t) (htu : OnlyBuckets t u) : OnlyBuckets s u := by
  unfold OnlyBuckets at *
  rw [htu, hst]

theorem OnlyBuckets.foldl {α : Type} {g : State → α → State} (h : ∀ u a, OnlyBuckets u (g u a)) (l : List α) (s : State) :
    OnlyBuckets s (l.foldl g s) := by
  induction l generalizing s with
  | nil => rfl
  | cons a l ih => exact (h s a).trans (ih _)

theorem OnlyRegFile.onlyBuckets {s u : State} (h : OnlyRegFile s u) : OnlyBuckets s u := by
  unfold OnlyRegFile at h
  rw [h]
  rfl

theorem OnlyBuckets.onlyFrame {s u : State} (h : OnlyBuckets s u) : OnlyFrame s u := by
  unfold OnlyBuckets at h
  rw [h]
  rfl

theorem OnlyBuckets.front {s u : State} (h : OnlyBuckets s u) : u.front = { s.front with bucket := u.front.bucket } := by
  unfold OnlyBuckets at h
  rw [h]

theorem OnlyBuckets.adm {s u : State} (h : OnlyBuckets s u) : u.adm = s.adm := by
  unfold OnlyBuckets at h
  rw [h]

theorem OnlyBuckets.s64 {s u : State} (h : OnlyBuckets s u) : u.s64 = s.s64 := by
  unfold OnlyBuckets at h
  rw [h]

theorem OnlyBuckets.tclAct {s u : State} (h : OnlyBuckets s u) : u.front.tclAct = s.front.tclAct := by rw [h.front]

theorem onlyBuckets_setBucket (l : Nat) (v : Int) : OnlyBuckets s (s.setBucket l v) := by
  unfold State.setBucket
  have hb : ∀ b, OnlyBuckets s { s with front := { s.front with bucket := b } } := fun _ => rfl
  exact (hb _).trans (onlyRegFile_wrI _ _ _ _).onlyBuckets

/-! ### An accepted traffic commit -/

/-- One bucket under a new table: clipped, or at its cap when that rises from 0. -/
def State.clipStep (old new : Tab Word) (s : State) (l : Nat) : State :=
  if s.bucketCap old l = 0 && decide (0 < s.bucketCap new l) then s.setBucket l (s.bucketCap new l)
  else s.setBucket l (min (s.bucket l) (s.bucketCap new l))

/-- What one bucket becomes under a new table. -/
def State.clipped (s : State) (old new : Tab Word) (l : Nat) (b : Int) : Int :=
  if s.bucketCap old l = 0 && decide (0 < s.bucketCap new l) then s.bucketCap new l else min b (s.bucketCap new l)

/-- The new table in force. -/
def State.tclTaken (s : State) (t : Tab Word) : State :=
  { s with adm := { s.adm with tclNext := none }, front := { s.front with tclAct := t } }

theorem State.applyTcl_none (h : s.adm.tclNext = none) : s.applyTcl = s := by rw [State.applyTcl, h]

theorem State.applyTcl_some {t : Tab Word} (h : s.adm.tclNext = some t) :
    s.applyTcl = ((List.range 8).foldl (State.clipStep s.front.tclAct t) (s.tclTaken t)).showBound := by
  rw [State.applyTcl, h]
  rfl

theorem State.clipStep_eq (old new : Tab Word) (l : Nat) : s.clipStep old new l = s.setBucket l (s.clipped old new l (s.bucket l)) := by
  unfold State.clipStep State.clipped
  split <;> rfl

theorem State.clipped_congr {s t : State} (h : s.s64 = t.s64) : s.clipped = t.clipped := by
  funext old new l b
  rw [State.clipped, State.clipped, State.bucketCap_congr h]

theorem onlyBuckets_clipStep (old new : Tab Word) (l : Nat) : OnlyBuckets s (s.clipStep old new l) := by
  rw [State.clipStep_eq]
  exact onlyBuckets_setBucket ..

theorem State.bucket_clips (old new : Tab Word) {j : Nat} (hj : j < 8) :
    ((List.range 8).foldl (State.clipStep old new) s).bucket j = s.clipped old new j (s.bucket j) := by
  have h := foldl_pointwise (f := State.clipStep old new) (get := State.bucket) (val := fun l b => s.clipped old new l b)
    (P := fun u => u.s64 = s.s64) (ls := List.range 8) (fun u l hu => (onlyBuckets_clipStep u old new l).s64.trans hu)
    (fun u l hu => by rw [State.clipStep_eq, State.bucket_setBucket, if_pos rfl, State.clipped_congr hu])
    (fun u l j _ hne => by rw [State.clipStep_eq, State.bucket_setBucket, if_neg hne]) List.nodup_range (s := s) rfl j
  rw [h, if_pos (List.mem_range.mpr hj)]

theorem onlyRegFile_showBound : OnlyRegFile s s.showBound := onlyRegFile_wr s _ _

theorem State.word_showBound {k : Nat} (h : k ≠ PWR_RAMP.word.off) : s.showBound.word k = s.word k := by
  rw [State.showBound, State.word_wr, if_neg h]

theorem State.word_foldl_of {α : Type} {g : State → α → State} {k : Nat} {l : List α}
    (h : ∀ u : State, ∀ a ∈ l, (g u a).word k = u.word k) (s : State) : (l.foldl g s).word k = s.word k := by
  induction l generalizing s with
  | nil => rfl
  | cons a l ih =>
    rw [List.foldl_cons, ih (fun u b hb => h u b (List.mem_cons_of_mem _ hb)), h s a List.mem_cons_self]

theorem State.word_applyTcl {k : Nat} (h : k ∉ frameRegs) : s.applyTcl.word k = s.word k := by
  cases ht : s.adm.tclNext with
  | none => rw [s.applyTcl_none ht]
  | some t =>
    rw [s.applyTcl_some ht, State.word_showBound _ (frameRegs_plain h).2.2.2, State.word_foldl_of (fun u l hl => ?_)]
    · rfl
    · rw [State.clipStep_eq, State.word_setBucket _ _ _ (frameRegs_label h (List.mem_range.mp hl)).1]

/-- The traffic settings that a frame boundary brings into force. -/
def State.nextTcl (s : State) : Tab Word := s.adm.tclNext.getD s.front.tclAct

theorem OnlyRegFile.front {s u : State} (h : OnlyRegFile s u) : u.front = s.front := by
  unfold OnlyRegFile at h
  rw [h]

theorem OnlyRegFile.adm {s u : State} (h : OnlyRegFile s u) : u.adm = s.adm := by
  unfold OnlyRegFile at h
  rw [h]

/-- A traffic commit changes the table in force and the buckets. -/
theorem State.applyTcl_front : s.applyTcl.front = { s.front with tclAct := s.nextTcl, bucket := s.applyTcl.front.bucket } := by
  cases ht : s.adm.tclNext with
  | none =>
    rw [s.applyTcl_none ht, State.nextTcl, ht]
    rfl
  | some t =>
    have hclip := (OnlyBuckets.foldl (fun u l => onlyBuckets_clipStep u s.front.tclAct t l) (List.range 8) (s.tclTaken t)).front
    rw [s.applyTcl_some ht, (onlyRegFile_showBound _).front, hclip, State.nextTcl, ht]
    rfl

theorem State.applyTcl_adm : s.applyTcl.adm = { s.adm with tclNext := none } := by
  cases ht : s.adm.tclNext with
  | none =>
    rw [s.applyTcl_none ht, ← ht]
  | some t =>
    have hclip := (OnlyBuckets.foldl (fun u l => onlyBuckets_clipStep u s.front.tclAct t l) (List.range 8) (s.tclTaken t)).adm
    rw [s.applyTcl_some ht, (onlyRegFile_showBound _).adm, hclip]
    rfl

theorem onlyFrame_applyTcl : OnlyFrame s s.applyTcl := by
  cases ht : s.adm.tclNext with
  | none =>
    rw [s.applyTcl_none ht]
    rfl
  | some t =>
    have htaken : OnlyFrame s (s.tclTaken t) := rfl
    rw [s.applyTcl_some ht]
    exact htaken.trans ((OnlyBuckets.foldl (fun u l => onlyBuckets_clipStep u _ _ l) _ _).onlyFrame.trans
      (onlyRegFile_showBound _).onlyFrame)

/-- A bucket once the traffic commit has taken effect. -/
theorem State.bucket_applyTcl {j : Nat} (hj : j < 8) : s.applyTcl.bucket j =
    if s.adm.tclNext.isSome then s.clipped s.front.tclAct s.nextTcl j (s.bucket j) else s.bucket j := by
  cases ht : s.adm.tclNext with
  | none =>
    rw [s.applyTcl_none ht]
    rfl
  | some t =>
    have hshow : ∀ u : State, u.showBound.bucket j = u.bucket j := fun u => by
      rw [State.bucket, State.bucket, (onlyRegFile_showBound u).front]
    rw [s.applyTcl_some ht, hshow, State.bucket_clips _ _ _ hj, State.nextTcl, ht]
    rfl

/-! ### An accepted window commit -/

/-- Credits taken from pools. -/
theorem State.setCredit_eq (k n : Nat) : s.setCredit k n = { s with front := { s.front with poolCred := (s.setCredit k n).front.poolCred } } := rfl

/-- The new windows in force, with the requests that they make late. -/
def State.winTaken (s : State) (t : Tab Word) : State :=
  { s with adm := { s.adm with winNext := none }, front := { s.front with winAct := t, marks := s.front.marks ++ s.planMarks t } }

/-- The pools of the windows that a new table takes away. -/
def State.winGone (s : State) (t : Tab Word) : List Nat :=
  (List.range 16).filter (fun w => s.winOn w && s.setting t WIN_ENT_CTL.VALID w = 0)

/-- Pools emptied. -/
def State.emptyPools (s : State) (ws : List Nat) : State := ws.foldl (fun s w => s.setCredit (winPool w) 0) s

theorem State.applyWin_none (h : s.adm.winNext = none) : s.applyWin = s := by rw [State.applyWin, h]

theorem State.applyWin_some {t : Tab Word} (h : s.adm.winNext = some t) : s.applyWin =
    ((s.winTaken t).emptyPools (s.winGone t)).wr WIN_CTL.ACTIVE
      ((((s.winTaken t).emptyPools (s.winGone t)).winsOf t).foldl (fun m w => m ||| 2 ^ w) 0) := by
  rw [State.applyWin, h]
  rfl

/-- At most credit pools change. -/
theorem State.emptyPools_eq (ws : List Nat) :
    s.emptyPools ws = { s with front := { s.front with poolCred := (s.emptyPools ws).front.poolCred } } := by
  induction ws generalizing s with
  | nil => rfl
  | cons w ws ih =>
    change (s.setCredit (winPool w) 0).emptyPools ws = _
    rw [ih]
    rfl

theorem State.applyWin_front : ∃ marks cred, s.applyWin.front =
    { s.front with winAct := s.adm.winNext.getD s.front.winAct, marks := marks, poolCred := cred } := by
  cases ht : s.adm.winNext with
  | none => exact ⟨_, _, by rw [s.applyWin_none ht]; rfl⟩
  | some t =>
    refine ⟨s.front.marks ++ s.planMarks t, ((s.winTaken t).emptyPools (s.winGone t)).front.poolCred, ?_⟩
    rw [s.applyWin_some ht, State.wr_front, State.emptyPools_eq]
    rfl

theorem State.applyWin_adm : s.applyWin.adm = { s.adm with winNext := none } := by
  cases ht : s.adm.winNext with
  | none => rw [s.applyWin_none ht, ← ht]
  | some t =>
    rw [s.applyWin_some ht, State.wr_adm, State.emptyPools_eq]
    rfl

theorem onlyFrame_applyWin : OnlyFrame s s.applyWin := by
  cases ht : s.adm.winNext with
  | none =>
    rw [s.applyWin_none ht]
    rfl
  | some t =>
    have htaken : OnlyFrame s (s.winTaken t) := rfl
    have hpools : OnlyFrame (s.winTaken t) ((s.winTaken t).emptyPools (s.winGone t)) := by
      rw [State.emptyPools_eq]
      rfl
    rw [s.applyWin_some ht]
    exact htaken.trans (hpools.trans (onlyRegFile_wr _ _ _).onlyFrame)

theorem State.word_emptyPools (ws : List Nat) (k : Nat) : (s.emptyPools ws).word k = s.word k := by
  rw [State.emptyPools_eq]
  rfl

theorem State.word_applyWin {k : Nat} (h : k ≠ WIN_CTL.word.off) : s.applyWin.word k = s.word k := by
  cases ht : s.adm.winNext with
  | none => rw [s.applyWin_none ht]
  | some t =>
    rw [s.applyWin_some ht, State.word_wr, if_neg h, State.word_emptyPools]
    rfl

theorem State.applyWin_s64 : s.applyWin.s64 = s.s64 := (onlyFrame_applyWin s).s64

/-! ### The refill -/

/-- One label's refill (R246). -/
def State.refillStep (s : State) (l : Nat) : State :=
  let v := s.setBucket l (min (s.bucket l + s.tcl TCL_RATE.RATE l) (s.tcl TCL_RATE.RATE l + s.tcl TCL_RATE.BURST l))
  if v.bucket l < 0 then v.bumpI TCL_HELD.COUNT l else v

theorem State.tcl_setBucket (l : Nat) (v : Int) : (s.setBucket l v).tcl = s.tcl := by
  funext f i
  rw [State.tcl, State.tcl, (onlyBuckets_setBucket s l v).tclAct, (onlyBuckets_setBucket s l v).s64]

theorem State.refill_eq : s.refill = (List.range 8).foldl State.refillStep s := by
  have hstep : ∀ u : State, ∀ l, (let rate := u.tcl TCL_RATE.RATE l
      let v := u.setBucket l (min (u.bucket l + rate) (rate + u.tcl TCL_RATE.BURST l))
      if v.bucket l < 0 then v.bumpI TCL_HELD.COUNT l else v) = u.refillStep l := fun _ _ => rfl
  rfl

theorem onlyBuckets_refillStep (l : Nat) : OnlyBuckets s (s.refillStep l) := by
  unfold State.refillStep
  extract_lets v
  split
  · exact (onlyBuckets_setBucket ..).trans (onlyRegFile_wrI _ _ _ _).onlyBuckets
  · exact onlyBuckets_setBucket ..

theorem onlyBuckets_refill : OnlyBuckets s s.refill := by
  rw [State.refill_eq]
  exact OnlyBuckets.foldl onlyBuckets_refillStep _ _

theorem State.word_refillStep {l k : Nat} (hb : k ≠ TCL_BUCKET.BUCKET.off + TCL_BUCKET.BUCKET.stride * l)
    (hh : k ≠ TCL_HELD.COUNT.off + TCL_HELD.COUNT.stride * l) : (s.refillStep l).word k = s.word k := by
  unfold State.refillStep
  extract_lets v
  split
  · rw [State.word_bumpI, if_neg hh, State.word_setBucket _ _ _ hb]
  · rw [State.word_setBucket _ _ _ hb]

/-- A register that shows no bucket. -/
def NoLabelReg (k : Nat) : Prop :=
  ∀ l < 8, k ≠ TCL_BUCKET.BUCKET.off + TCL_BUCKET.BUCKET.stride * l ∧ k ≠ TCL_HELD.COUNT.off + TCL_HELD.COUNT.stride * l

theorem noLabelReg {k : Nat} (h : k ∉ frameRegs) : NoLabelReg k := fun _ hl => frameRegs_label h hl

theorem noLabelReg_winCtl : NoLabelReg WIN_CTL.word.off := fun l hl => by constructor <;> simp only <;> omega

theorem State.word_refill {k : Nat} (h : NoLabelReg k) : s.refill.word k = s.word k := by
  rw [State.refill_eq]
  refine State.word_foldl_of (fun u l hl => ?_) s
  obtain ⟨hb, hh⟩ := h l (List.mem_range.mp hl)
  exact u.word_refillStep hb hh

/-- A bucket after its refill under a table. -/
def State.refilled (s : State) (t : Tab Word) (l : Nat) (b : Int) : Int :=
  min (b + s.setting t TCL_RATE.RATE l) (s.bucketCap t l)

/-- TCL_HELD counts a bucket that stays negative. -/
def heldCount (b : Int) (h : Nat) : Nat := if b < 0 then min (h + 1) (2 ^ TCL_HELD.COUNT.w - 1) else h

theorem State.tcl_eq_setting (f : Field) (i : Nat) : s.tcl f i = s.setting s.front.tclAct f i := rfl

/-- A bucket and the count of its frames below 0. -/
def State.bucketView (s : State) (l : Nat) : Int × Nat := (s.bucket l, s.rdI TCL_HELD.COUNT l)

theorem State.bucket_bumpI (f : Field) (i j : Nat) : (s.bumpI f i).bucket j = s.bucket j := by
  rw [State.bucket, State.bucket, State.bumpI_front]

theorem State.rdI_setBucket_held (l j : Nat) (v : Int) : (s.setBucket l v).rdI TCL_HELD.COUNT j = s.rdI TCL_HELD.COUNT j :=
  State.rdI_congr _ _ (s.word_setBucket l v (by simp only; omega))

theorem State.bucketView_refillStep_same (l : Nat) : (s.refillStep l).bucketView l =
    (s.refilled s.front.tclAct l (s.bucket l), heldCount (s.refilled s.front.tclAct l (s.bucket l)) (s.rdI TCL_HELD.COUNT l)) := by
  obtain ⟨v, hv⟩ : ∃ v, v = s.setBucket l (s.refilled s.front.tclAct l (s.bucket l)) := ⟨_, rfl⟩
  have hb : v.bucket l = s.refilled s.front.tclAct l (s.bucket l) := by rw [hv, State.bucket_setBucket, if_pos rfl]
  have hh : v.rdI TCL_HELD.COUNT l = s.rdI TCL_HELD.COUNT l := by rw [hv, State.rdI_setBucket_held]
  have hform : s.refillStep l = if v.bucket l < 0 then v.bumpI TCL_HELD.COUNT l else v := by rw [hv]; rfl
  rw [hform, hb, heldCount]
  split
  · rw [State.bucketView, State.bucket_bumpI, hb, State.bumpI, State.rdI_wrI_same _ _ _ _ (by decide), hh]
    refine Prod.ext rfl (Nat.mod_eq_of_lt ?_)
    simp only
    omega
  · rw [State.bucketView, hb, hh]

theorem State.bucketView_refillStep_other {l j : Nat} (h : j ≠ l) : (s.refillStep l).bucketView j = s.bucketView j := by
  obtain ⟨v, hv⟩ : ∃ v, v = s.setBucket l (s.refilled s.front.tclAct l (s.bucket l)) := ⟨_, rfl⟩
  have hb : v.bucket j = s.bucket j := by rw [hv, State.bucket_setBucket, if_neg h]
  have hh : v.rdI TCL_HELD.COUNT j = s.rdI TCL_HELD.COUNT j := by rw [hv, State.rdI_setBucket_held]
  have hform : s.refillStep l = if v.bucket l < 0 then v.bumpI TCL_HELD.COUNT l else v := by rw [hv]; rfl
  rw [hform]
  split
  · rw [State.bucketView, State.bucket_bumpI, hb, State.bumpI, State.rdI_wrI_other _ _ _ _ _ _ (by simp only; omega), hh, State.bucketView]
  · rw [State.bucketView, hb, hh, State.bucketView]

theorem State.refilled_congr {s t : State} (h : s.s64 = t.s64) : s.refilled = t.refilled := by
  funext u l b
  rw [State.refilled, State.refilled, State.bucketCap_congr h, State.setting_congr h]

theorem State.bucketView_refill {j : Nat} (hj : j < 8) : s.refill.bucketView j =
    (s.refilled s.front.tclAct j (s.bucket j), heldCount (s.refilled s.front.tclAct j (s.bucket j)) (s.rdI TCL_HELD.COUNT j)) := by
  have h := foldl_pointwise (f := State.refillStep) (get := State.bucketView)
    (val := fun l x => (s.refilled s.front.tclAct l x.1, heldCount (s.refilled s.front.tclAct l x.1) x.2))
    (P := fun u => u.s64 = s.s64 ∧ u.front.tclAct = s.front.tclAct) (ls := List.range 8)
    (fun u l hu => ⟨(onlyBuckets_refillStep u l).s64.trans hu.1, (onlyBuckets_refillStep u l).tclAct.trans hu.2⟩)
    (fun u l hu => by rw [State.bucketView_refillStep_same, State.refilled_congr hu.1, hu.2]; rfl)
    (fun u l j _ hne => u.bucketView_refillStep_other hne) List.nodup_range (s := s) ⟨rfl, rfl⟩ j
  rw [State.refill_eq, h, if_pos (List.mem_range.mpr hj)]
  rfl

/-! ### Buckets whose cap rises from 0 -/

/-- The labels whose cap rises from 0 at this boundary. -/
def State.raised (s : State) : List Nat :=
  match s.adm.tclNext with
  | some t => (List.range 8).filter (fun l => s.bucketCap s.front.tclAct l = 0 && decide (0 < s.bucketCap t l))
  | none => []

/-- Their buckets start at the cap. -/
def State.raiseStep (s : State) (l : Nat) : State := s.setBucket l (s.bucketCap s.front.tclAct l)

def State.raise (s : State) (ls : List Nat) : State := ls.foldl State.raiseStep s

theorem State.raise_nil : s.raise [] = s := rfl

theorem State.raised_nodup : s.raised.Nodup := by
  unfold State.raised
  split
  · exact List.nodup_range.filter _
  · exact List.nodup_nil

theorem State.mem_raised {l : Nat} : l ∈ s.raised ↔
    l < 8 ∧ s.adm.tclNext.isSome = true ∧ s.bucketCap s.front.tclAct l = 0 ∧ 0 < s.bucketCap s.nextTcl l := by
  unfold State.raised State.nextTcl
  cases s.adm.tclNext with
  | none => simp
  | some t => simp

theorem onlyBuckets_raise (ls : List Nat) : OnlyBuckets s (s.raise ls) := OnlyBuckets.foldl (fun u l => onlyBuckets_setBucket u l _) _ _

theorem State.word_raise {k : Nat} {ls : List Nat} (h : NoLabelReg k) (hls : ∀ l ∈ ls, l < 8) : (s.raise ls).word k = s.word k :=
  State.word_foldl_of (fun u l hl => u.word_setBucket l _ (h l (hls l hl)).1) s

theorem State.bucket_raise {ls : List Nat} (hn : ls.Nodup) (j : Nat) :
    (s.raise ls).bucket j = if j ∈ ls then (s.bucketCap s.front.tclAct j : Int) else s.bucket j :=
  foldl_pointwise (f := State.raiseStep) (get := State.bucket)
    (val := fun l _ => (s.bucketCap s.front.tclAct l : Int))
    (P := fun u => u.s64 = s.s64 ∧ u.front.tclAct = s.front.tclAct) (ls := ls)
    (fun u l hu => ⟨(onlyBuckets_setBucket u l _).s64.trans hu.1, (onlyBuckets_setBucket u l _).tclAct.trans hu.2⟩)
    (fun u l hu => by rw [State.raiseStep, State.bucket_setBucket, if_pos rfl, State.bucketCap_congr hu.1, hu.2])
    (fun u l j _ hne => by rw [State.raiseStep, State.bucket_setBucket, if_neg hne]) hn (s := s) ⟨rfl, rfl⟩ j

/-! ### The power cap -/

/-- The cap's effect is on the grant, the allowance and PWR_CAP. -/
theorem State.applyCap_eq : ∃ g a v, s.applyCap =
    ({ s with pwr := { s.pwr with granted := g }, front := { s.front with allow := a } }).wr PWR_CAP.GRANTED_MW v := by
  unfold State.applyCap
  cases s.pwr.cap with
  | none => exact ⟨_, _, _, rfl⟩
  | some c => exact ⟨_, _, _, rfl⟩

/-- The cap in force once the slice is online. -/
def State.capped (s : State) : State := if s.online then s.applyCap else s

theorem onlyFrame_capped : OnlyFrame s s.capped := by
  have hset : ∀ g a, OnlyFrame s { s with pwr := { s.pwr with granted := g }, front := { s.front with allow := a } } := fun _ _ => rfl
  unfold State.capped
  split
  · obtain ⟨g, a, v, h⟩ := s.applyCap_eq
    rw [h]
    exact (hset g a).trans (onlyRegFile_wr _ _ _).onlyFrame
  · rfl

theorem State.word_capped {k : Nat} (h : k ≠ PWR_CAP.word.off) : s.capped.word k = s.word k := by
  unfold State.capped
  split
  · obtain ⟨g, a, v, heq⟩ := s.applyCap_eq
    rw [heq, State.word_wr, if_neg h]
    rfl
  · rfl

theorem State.capped_front : ∃ a, s.capped.front = { s.front with allow := a } := by
  unfold State.capped
  split
  · obtain ⟨g, a, v, heq⟩ := s.applyCap_eq
    exact ⟨a, by rw [heq, State.wr_front]⟩
  · exact ⟨_, rfl⟩

theorem State.capped_adm : s.capped.adm = s.adm := by
  unfold State.capped
  split
  · obtain ⟨g, a, v, heq⟩ := s.applyCap_eq
    rw [heq, State.wr_adm]
  · rfl

/-! ### The frame boundary -/

/-- The acceptances of the frame start from 0. -/
def State.accTurned (s : State) : State := { s with front := { s.front with accLast := s.front.accN, accN := 0 } }

/-- The settings in force from this frame on. -/
def State.committed (s : State) : State := s.accTurned.applyTcl.applyWin

theorem State.frame_eq : s.frame = (s.committed.refill.raise s.raised).capped := rfl

theorem onlyFrame_frame : OnlyFrame s s.frame := by
  have hacc : OnlyFrame s s.accTurned := rfl
  rw [State.frame_eq]
  exact (hacc.trans ((onlyFrame_applyTcl _).trans (onlyFrame_applyWin _))).trans
    ((onlyBuckets_refill _).onlyFrame.trans ((onlyBuckets_raise _ _).onlyFrame.trans (onlyFrame_capped _)))

theorem State.word_committed {k : Nat} (h : k ∉ frameRegs) : s.committed.word k = s.word k := by
  rw [State.committed, State.word_applyWin _ (frameRegs_plain h).2.1, State.word_applyTcl _ h]
  rfl

theorem State.word_frame {k : Nat} (h : k ∉ frameRegs) : s.frame.word k = s.word k := by
  rw [State.frame_eq, State.word_capped _ (frameRegs_plain h).2.2.1, State.word_raise _ (noLabelReg h) (fun l hl => ((s.mem_raised).mp hl).1),
    State.word_refill _ (noLabelReg h), State.word_committed _ h]

theorem State.committed_front : ∃ b marks cred, s.committed.front = { s.front with
    accLast := s.front.accN, accN := 0, tclAct := s.nextTcl, winAct := s.adm.winNext.getD s.front.winAct, bucket := b, marks := marks,
    poolCred := cred } := by
  have htcl := s.accTurned.applyTcl_front
  have hadm := s.accTurned.applyTcl_adm
  obtain ⟨marks, cred, hwin⟩ := s.accTurned.applyTcl.applyWin_front
  refine ⟨s.accTurned.applyTcl.front.bucket, marks, cred, ?_⟩
  rw [State.committed, hwin, hadm, htcl]
  rfl

theorem State.frame_front : ∃ b marks cred a, s.frame.front = { s.front with
    accLast := s.front.accN, accN := 0, tclAct := s.nextTcl, winAct := s.adm.winNext.getD s.front.winAct, bucket := b, marks := marks,
    poolCred := cred, allow := a } := by
  obtain ⟨b, marks, cred, hc⟩ := s.committed_front
  obtain ⟨a, ha⟩ := (s.committed.refill.raise s.raised).capped_front
  refine ⟨(s.committed.refill.raise s.raised).front.bucket, marks, cred, a, ?_⟩
  rw [State.frame_eq, ha, (onlyBuckets_raise _ _).front, (onlyBuckets_refill _).front, hc]

theorem State.frame_adm : s.frame.adm = { s.adm with tclNext := none, winNext := none } := by
  rw [State.frame_eq, State.capped_adm, (onlyBuckets_raise _ _).adm, (onlyBuckets_refill _).adm, State.committed, State.applyWin_adm,
    State.applyTcl_adm]
  rfl

theorem State.committed_s64 : s.committed.s64 = s.s64 := by
  rw [State.committed, State.applyWin_s64, (onlyFrame_applyTcl _).s64]
  rfl

theorem State.committed_tclAct : s.committed.front.tclAct = s.nextTcl := by
  obtain ⟨b, marks, cred, hc⟩ := s.committed_front
  rw [hc]

theorem State.committed_bucket {l : Nat} (hl : l < 8) : s.committed.bucket l =
    if s.adm.tclNext.isSome then s.clipped s.front.tclAct s.nextTcl l (s.bucket l) else s.bucket l := by
  obtain ⟨marks, cred, hwin⟩ := s.accTurned.applyTcl.applyWin_front
  have hsame : s.committed.bucket l = s.accTurned.applyTcl.bucket l := by
    rw [State.committed, State.bucket, hwin, State.bucket]
  rw [hsame, State.bucket_applyTcl _ hl]
  rfl

theorem State.frame_bucket_eq (l : Nat) : s.frame.bucket l = (s.committed.refill.raise s.raised).bucket l := by
  obtain ⟨a, ha⟩ := (s.committed.refill.raise s.raised).capped_front
  rw [State.frame_eq, State.bucket, ha, State.bucket]

/-- Every bucket after a frame boundary (R246, R248). -/
theorem State.frame_bucket {l : Nat} (hl : l < 8) : s.frame.bucket l =
    if s.bucketCap s.front.tclAct l = 0 ∧ 0 < s.bucketCap s.nextTcl l ∧ s.adm.tclNext.isSome = true then (s.bucketCap s.nextTcl l : Int)
    else min (s.bucket l + s.setting s.nextTcl TCL_RATE.RATE l) (s.bucketCap s.nextTcl l) := by
  have hview := congrArg Prod.fst (s.committed.bucketView_refill hl)
  have hrefill : s.committed.refill.bucket l = min (s.committed.bucket l + s.setting s.nextTcl TCL_RATE.RATE l) (s.bucketCap s.nextTcl l) := by
    rw [s.committed_tclAct, State.refilled_congr s.committed_s64] at hview
    simp only [State.bucketView, State.refilled] at hview
    exact hview
  have hraisecap : s.committed.refill.bucketCap s.committed.refill.front.tclAct l = s.bucketCap s.nextTcl l := by
    rw [(onlyBuckets_refill _).tclAct, s.committed_tclAct, State.bucketCap_congr ((onlyBuckets_refill _).s64.trans s.committed_s64)]
  rw [s.frame_bucket_eq, State.bucket_raise _ s.raised_nodup, hraisecap, hrefill, s.committed_bucket hl]
  have hle : s.setting s.nextTcl TCL_RATE.RATE l ≤ s.bucketCap s.nextTcl l := Nat.le_add_right _ _
  by_cases hr : s.bucketCap s.front.tclAct l = 0 ∧ 0 < s.bucketCap s.nextTcl l ∧ s.adm.tclNext.isSome = true
  · rw [if_pos hr, if_pos (s.mem_raised.mpr ⟨hl, hr.2.2, hr.1, hr.2.1⟩)]
  · rw [if_neg hr, if_neg (fun hm => hr ⟨(s.mem_raised.mp hm).2.2.1, (s.mem_raised.mp hm).2.2.2, (s.mem_raised.mp hm).2.1⟩)]
    by_cases hn : s.adm.tclNext.isSome = true
    · have hclip : ¬ (s.bucketCap s.front.tclAct l = 0 && decide (0 < s.bucketCap s.nextTcl l)) = true := by
        rw [Bool.and_eq_true, decide_eq_true_eq, decide_eq_true_eq]
        exact fun hc => hr ⟨hc.1, hc.2, hn⟩
      rw [if_pos hn, State.clipped, if_neg hclip]
      omega
    · rw [if_neg hn]

/-- TCL_HELD while no traffic commit takes effect (R246). -/
theorem State.frame_held {l : Nat} (hl : l < 8) (hn : s.adm.tclNext = none) :
    s.frame.rdI TCL_HELD.COUNT l = heldCount (s.frame.bucket l) (s.rdI TCL_HELD.COUNT l) := by
  have hraised : s.raised = [] := by rw [State.raised, hn]
  have hview := s.committed.bucketView_refill hl
  have hb := congrArg Prod.fst hview
  have hh := congrArg Prod.snd hview
  have htcl : s.accTurned.applyTcl = s.accTurned := State.applyTcl_none _ hn
  have hcommit : s.committed.rdI TCL_HELD.COUNT l = s.rdI TCL_HELD.COUNT l := by
    refine State.rdI_congr _ _ ?_
    rw [State.committed, htcl, State.word_applyWin _ (by simp only; omega)]
    rfl
  have hbucket : s.frame.bucket l = s.committed.refill.bucket l := by
    rw [s.frame_bucket_eq, hraised, State.raise_nil]
  have hheld : s.frame.rdI TCL_HELD.COUNT l = s.committed.refill.rdI TCL_HELD.COUNT l := by
    rw [State.frame_eq, hraised, State.raise_nil]
    exact State.rdI_congr _ _ (State.word_capped _ (by simp only; omega))
  simp only [State.bucketView] at hb hh
  rw [hheld, hbucket, ← hcommit, hh, hb]

/-! ### The windows in force -/

theorem testBit_foldl_or (ls : List Nat) (m j : Nat) :
    (ls.foldl (fun m w => m ||| 2 ^ w) m).testBit j = (m.testBit j || decide (j ∈ ls)) := by
  induction ls generalizing m with
  | nil => simp
  | cons l ls ih =>
    rw [List.foldl_cons, ih, Nat.testBit_or, Nat.testBit_two_pow, Bool.or_assoc]
    congr 1
    by_cases h : l = j
    · simp [h]
    · simp [h, Ne.symm h]

theorem resetWord_winEnt : ∀ b : Bool, ∀ w < 16,
    fieldGet WIN_ENT_CTL.VALID (resetWord b (WIN_ENT_CTL.VALID.off + WIN_ENT_CTL.VALID.stride * w)) = 0 := by decide +kernel

theorem State.setting_winValid (t : Tab Word) {w : Nat} (hw : w < 16) : s.setting t WIN_ENT_CTL.VALID w =
    fieldGet WIN_ENT_CTL.VALID (tget 0 t (WIN_ENT_CTL.VALID.off + WIN_ENT_CTL.VALID.stride * w)) := by
  rw [State.setting, tget, tget]
  cases tfind t (WIN_ENT_CTL.VALID.off + WIN_ENT_CTL.VALID.stride * w) with
  | some v => rfl
  | none => exact (resetWord_winEnt s.s64 w hw).trans (by decide)

/-- After a window commit ACTIVE tells which windows are valid. -/
theorem State.applyWin_active {t : Tab Word} (h : s.adm.winNext = some t) {w : Nat} (hw : w < 16) :
    s.applyWin.winOn w = (fieldGet WIN_ENT_CTL.VALID (tget 0 t (WIN_ENT_CTL.VALID.off + WIN_ENT_CTL.VALID.stride * w)) != 0) := by
  rw [s.applyWin_some h, State.winOn, State.bit, State.rd_wr_same _ _ _ (by decide)]
  generalize (s.winTaken t).emptyPools (s.winGone t) = u
  rw [Nat.testBit_mod_two_pow, testBit_foldl_or, Nat.zero_testBit, Bool.false_or, ← u.setting_winValid t hw]
  simp only [hw, decide_true, Bool.true_and, State.winsOf, List.mem_filter, List.mem_range, true_and, Bool.decide_eq_true]

theorem State.frame_active (h : s.adm.winNext.isSome = true) {w : Nat} (hw : w < 16) :
    s.frame.winOn w = (s.frame.win WIN_ENT_CTL.VALID w != 0) := by
  obtain ⟨t, ht⟩ := Option.isSome_iff_exists.mp h
  obtain ⟨b, marks, cred, a, hfront⟩ := s.frame_front
  have hwin : s.frame.win WIN_ENT_CTL.VALID w =
      fieldGet WIN_ENT_CTL.VALID (tget 0 t (WIN_ENT_CTL.VALID.off + WIN_ENT_CTL.VALID.stride * w)) := by
    rw [State.win, hfront, ht]
    rfl
  have hadm : s.accTurned.applyTcl.adm.winNext = some t := by
    rw [State.applyTcl_adm]
    exact ht
  have hword : s.frame.word WIN_CTL.word.off = s.committed.word WIN_CTL.word.off := by
    rw [State.frame_eq, State.word_capped _ (by decide), State.word_raise _ noLabelReg_winCtl (fun l hl => ((s.mem_raised).mp hl).1),
      State.word_refill _ noLabelReg_winCtl]
  have hrd : s.frame.rd WIN_CTL.ACTIVE = s.committed.rd WIN_CTL.ACTIVE := State.rdI_congr WIN_CTL.ACTIVE 0 hword
  rw [hwin, ← State.applyWin_active _ hadm hw, State.winOn, State.winOn, State.bit, State.bit, hrd, State.committed]

theorem frameBoundary_spec (s : State) :
    let x := s.adm.tclNext.getD s.front.tclAct
    let u := { s with front := { s.front with tclAct := x } }
    let cap : Nat → Nat := fun l => u.tcl TCL_RATE.RATE l + u.tcl TCL_RATE.BURST l
    let rises := fun l : Nat => (s.tcl TCL_RATE.RATE l + s.tcl TCL_RATE.BURST l) = 0 ∧ 0 < cap l ∧ s.adm.tclNext.isSome = true
    ∃ t, exec (.frameBoundary) s = .next t ∧ (s.dark = true → t.out = [] ∧ OnlyRegs s t ∧ RegsBut [] s t)
      ∧ (s.dark = false → t.rd WIN_FRAME.POS = 0 ∧ t.front.tclAct = x ∧ t.front.winAct = s.adm.winNext.getD s.front.winAct ∧
        t.adm.tclNext = none ∧ t.adm.winNext = none)
      ∧ (s.dark = false → ∀ l : Nat, l < 8 → t.bucket l = (if rises l then (cap l : Int) else min (s.bucket l + u.tcl TCL_RATE.RATE l)
        (cap l)))
      ∧ (s.dark = false → s.adm.tclNext = none → ∀ l : Nat, l < 8 → t.rdI TCL_HELD.COUNT l = (if t.bucket l < 0 then min (s.rdI
        TCL_HELD.COUNT l + 1) (2 ^ TCL_HELD.COUNT.w - 1) else s.rdI TCL_HELD.COUNT l))
      ∧ (s.dark = false → t.front.accLast = s.front.accN ∧ t.front.accN = 0)
      ∧ (s.dark = false → s.adm.winNext.isSome = true → ∀ w : Nat, w < 16 → t.winOn w = (t.win WIN_ENT_CTL.VALID w != 0))
      ∧ OnlyRegs
        { s with front := t.front, adm := { s.adm with tclNext := t.adm.tclNext, winNext := t.adm.winNext }, pwr := { s.pwr with granted := t.pwr.granted } }
        t
      ∧ t.out = []
      ∧ (RegsBut ([WIN_FRAME.word.off, WIN_CTL.word.off, PWR_CAP.word.off, PWR_RAMP.word.off] ++ (List.range 8).flatMap (fun l =>
        [TCL_BUCKET.BUCKET.off + TCL_BUCKET.BUCKET.stride * l, TCL_HELD.COUNT.off + TCL_HELD.COUNT.stride * l])) s t) := by
  intro x u cap rises
  have hexec : exec .frameBoundary s = .next (if s.begin.dark then s.begin else s.begin.frame.wr WIN_FRAME.POS 0).settle := rfl
  rw [State.begin_dark] at hexec
  cases hd : s.dark with
  | true =>
    rw [hd, if_pos rfl] at hexec
    have hframe : OnlyRegs s s.begin.settle := by apply onlyRegs_settle <;> simp
    refine ⟨_, hexec, fun _ => ⟨by simp, hframe, fun k _ hp => s.word_begin k hp⟩, fun h => Bool.noConfusion h, fun h => Bool.noConfusion h,
      fun h => Bool.noConfusion h, fun h => Bool.noConfusion h, fun h => Bool.noConfusion h, ?_, by simp, fun k _ hp => s.word_begin k hp⟩
    apply onlyRegs_settle <;> simp
  | false =>
    rw [hd, if_neg Bool.false_ne_true] at hexec
    obtain ⟨b, marks, cred, a, hfront⟩ := s.begin.frame_front
    have hadm := s.begin.frame_adm
    have hnext : s.begin.nextTcl = x := by rw [State.nextTcl, State.begin_adm, State.begin_front]
    have hset : s.begin.setting = s.setting := State.setting_congr s.begin_s64
    have hcap : s.begin.bucketCap = s.bucketCap := State.bucketCap_congr s.begin_s64
    have honly : OnlyFrame s.begin (s.begin.frame.wr WIN_FRAME.POS 0) := (onlyFrame_frame _).trans (onlyRegFile_wr _ _ _).onlyFrame
    have hbucket : ∀ l, (s.begin.frame.wr WIN_FRAME.POS 0).settle.bucket l = s.begin.frame.bucket l := fun l => by
      rw [State.bucket, State.settle_front, State.wr_front, State.bucket]
    refine ⟨_, hexec, fun h => Bool.noConfusion h, fun _ => ⟨?_, ?_, ?_, ?_, ?_⟩, fun _ l hl => ?_, fun _ hn l hl => ?_, fun _ => ⟨?_, ?_⟩,
      fun _ hw w hlt => ?_, honly.onlyRegs, ?_, fun k hk hp => ?_⟩
    · rw [State.rd_settle, State.rd_wr_same _ _ _ (by decide), Nat.zero_mod]
    · rw [State.settle_front, State.wr_front, hfront, hnext]
    · rw [State.settle_front, State.wr_front, hfront, State.begin_adm, State.begin_front]
    · rw [State.settle_adm, State.wr_adm, hadm]
    · rw [State.settle_adm, State.wr_adm, hadm]
    · have hb0 : s.begin.bucket l = s.bucket l := by rw [State.bucket, State.begin_front, State.bucket]
      rw [hbucket, State.frame_bucket _ hl, hcap, hset, hnext, hb0, State.begin_front, State.begin_adm]
      rfl
    · have hh0 : s.begin.rdI TCL_HELD.COUNT l = s.rdI TCL_HELD.COUNT l := s.begin_rdI _ _ (by simp [pmuBlock]; omega)
      have hheld : (s.begin.frame.wr WIN_FRAME.POS 0).settle.rdI TCL_HELD.COUNT l = s.begin.frame.rdI TCL_HELD.COUNT l := by
        rw [State.rdI_settle, State.wr, State.rdI_wrI_other _ _ _ _ _ _ (by simp only; omega)]
      rw [hbucket, hheld, State.frame_held _ hl (by rw [State.begin_adm]; exact hn), hh0]
      rfl
    · rw [State.settle_front, State.wr_front, hfront, State.begin_front]
    · rw [State.settle_front, State.wr_front, hfront]
    · have hon : (s.begin.frame.wr WIN_FRAME.POS 0).settle.winOn w = s.begin.frame.winOn w := by
        rw [State.winOn, State.bit, State.rd_settle, State.rd_wr_apart _ _ (by decide), State.winOn, State.bit]
      have hwin : (s.begin.frame.wr WIN_FRAME.POS 0).settle.win WIN_ENT_CTL.VALID w = s.begin.frame.win WIN_ENT_CTL.VALID w := by
        rw [State.win, State.settle_front, State.wr_front, State.win]
      rw [hon, hwin, State.frame_active _ (by rw [State.begin_adm]; exact hw) hlt]
    · rw [State.settle_out, honly.out, State.begin_out]
    · rw [State.word_settle, State.word_wr, if_neg (frameRegs_plain hk).1, State.word_frame _ hk]
      exact s.word_begin k hp

end Sys2Proof.Machine
end

section
/-! SUPPORT. The frame-sync input and owed credits (R247, R252, R297). -/

namespace Sys2Proof.Machine

variable (s : State)

/-! ### What the beginning of a command leaves of the front island's view -/

theorem State.begin_win : s.begin.win = s.win := by
  funext f i
  rw [State.win, State.win, State.begin_front]

theorem State.begin_winOn (w : Nat) : s.begin.winOn w = s.winOn w := by
  rw [State.winOn, State.winOn, State.bit, State.bit, s.begin_rd rfl]

theorem State.begin_tcl : s.begin.tcl = s.tcl := by
  funext f i
  rw [State.tcl, State.tcl, State.begin_front, State.begin_s64]

theorem State.begin_winOf (r : Req) : s.begin.winOf r = s.winOf r := by
  simp only [State.winOf, State.begin_win, State.begin_winOn]

theorem State.begin_online : s.begin.online = s.online := by rw [State.online, State.online, s.begin_rd rfl]

theorem State.begin_withheld (l : Nat) : s.begin.withheld l = s.withheld l := by
  simp only [State.withheld, State.bucket, State.capUsed, State.entryHolds, State.begin_tcl, State.begin_front,
    s.begin_rd (f := PWR_STATUS.STATE) rfl, s.begin_rd (f := PWR_STATUS.PHASE) rfl]
  rfl

theorem State.begin_poolOf (r : Req) (kind : Nat) : s.begin.poolOf r kind = s.poolOf r kind := by
  simp only [State.poolOf, State.begin_winOf]

theorem State.begin_outstanding (k : Nat) : s.begin.outstanding k = s.outstanding k := by
  simp only [State.outstanding, State.credit, State.inBuffer, State.begin_poolOf, State.begin_front, State.begin_ldg]

theorem State.begin_want (kind : Nat) (l : BitVec 3) (a : BitVec 5) : s.begin.want kind l a = s.want kind l a := by
  simp only [State.want, State.begin_online, State.begin_withheld, State.begin_tcl, State.begin_outstanding]

theorem State.begin_wantWin (w : Nat) : s.begin.wantWin w = s.wantWin w := by
  simp only [State.wantWin, State.begin_online, State.begin_winOn, State.begin_outstanding]

theorem State.begin_mesh : s.begin.mesh = s.mesh := by
  simp only [State.mesh, State.casements, State.begin_s64, State.begin_cfg, State.bit, s.begin_rd (f := LNK_STATUS.UP) rfl]

theorem State.begin_casementOf (k : Nat) : s.begin.casementOf k = s.casementOf k := by
  simp only [State.casementOf, State.begin_mesh]

theorem State.begin_agentWords (c a : Nat) : s.begin.agentWords c a = s.agentWords c a := by
  simp only [State.agentWords, State.begin_casementOf, State.begin_want, State.begin_wantWin, State.begin_win]

theorem State.begin_agentTurn (c : Nat) : s.begin.agentTurn c = s.agentTurn c := by
  simp only [State.agentTurn, State.begin_front]

/-! ### The frame of a command on the front island -/

/-- Only the front island, registers and what is sent change. -/
theorem onlyRegs_front {s u : State} (h : u = { s.begin with regs := u.regs, front := u.front, out := u.out }) :
    OnlyRegs { s with front := u.front } u.settle := by
  generalize u.regs = R, u.front = F, u.out = O at h
  subst h
  apply onlyRegs_settle <;> simp

/-! ### The frame-sync input -/

/-- The window requests that a slip makes late. -/
def State.slipMarks (s : State) : List (Instr × Nat × Nat) :=
  s.front.inbox.filterMap (fun i => match reqOf i with
    | some r => (s.winOf r).map (fun w => (i, w, 6))
    | none => none)

/-- A sync elsewhere than at POS 0. -/
def State.slipped (s : State) : State :=
  (({ s with front := { s.front with marks := s.front.marks ++ s.slipMarks } }).bump WIN_FRAME.SLIPS).wr WIN_FRAME.POS 0

theorem State.sync_idle (h : s.rd WIN_FRAME.POS = 0) : s.sync = s := if_pos h

theorem State.sync_slip (h : s.rd WIN_FRAME.POS ≠ 0) : s.sync = s.slipped := if_neg h

theorem State.mem_slipMarks {c : Instr} (hc : c ∈ s.front.inbox) {r : Req} (hr : reqOf c = some r) {w : Nat} (hw : s.winOf r = some w) :
    (c, w, 6) ∈ s.slipMarks := by
  refine List.mem_filterMap.mpr ⟨c, hc, ?_⟩
  rw [hr]
  simp only [hw, Option.map_some]

theorem frameSync_spec (s : State) :
    let idle := s.dark = true ∨ s.rd WIN_FRAME.POS = 0
    ∃ t, exec (.frameSync) s = .next t ∧ (idle → t.out = [] ∧ OnlyRegs s t ∧ RegsBut [] s t)
      ∧ (¬ idle → t.rd WIN_FRAME.POS = 0 ∧ t.rd WIN_FRAME.SLIPS = min (s.rd WIN_FRAME.SLIPS + 1) (2 ^ WIN_FRAME.SLIPS.w - 1))
      ∧ (¬ idle → ∀ c : Instr, c ∈ s.front.inbox → ∀ r : Req, reqOf c = some r → ∀ w : Nat, s.winOf r = some w → (c, w, 6) ∈
        t.front.marks)
      ∧ t.front = { s.front with marks := t.front.marks }
      ∧ t.out = []
      ∧ OnlyRegs { s with front := t.front } t
      ∧ RegsBut [WIN_FRAME.word.off] s t := by
  intro idle
  have hexec : exec .frameSync s = .next (if s.begin.dark then s.begin else s.begin.sync).settle := rfl
  rw [State.begin_dark] at hexec
  have hpos := s.begin_rd (f := WIN_FRAME.POS) rfl
  by_cases h : idle
  · have hform : (if s.dark then s.begin else s.begin.sync) = s.begin := by
      by_cases hd : s.dark = true
      · exact if_pos hd
      · exact (if_neg hd).trans (State.sync_idle _ (hpos.trans (h.resolve_left hd)))
    rw [hform] at hexec
    have hframe : OnlyRegs s s.begin.settle := by apply onlyRegs_settle <;> simp
    refine ⟨_, hexec, fun _ => ⟨by simp, hframe, fun k _ hp => s.word_begin k hp⟩, fun hn => absurd h hn, fun hn => absurd h hn, by simp,
      by simp, ?_, fun k _ hp => s.word_begin k hp⟩
    apply onlyRegs_settle <;> simp
  · obtain ⟨hd, hp0⟩ := not_or.mp h
    have hform : (if s.dark then s.begin else s.begin.sync) = s.begin.slipped :=
      (if_neg hd).trans (State.sync_slip _ (by rw [hpos]; exact hp0))
    rw [hform] at hexec
    refine ⟨_, hexec, fun hi => absurd hi h, fun _ => ⟨?_, ?_⟩, fun _ c hc r hr w hw => ?_, by simp [State.slipped], by simp [State.slipped],
      by apply onlyRegs_settle <;> simp [State.slipped], fun k hk hp => ?_⟩
    · rw [State.rd_settle, State.slipped, State.rd_wr_same _ _ _ (by decide), Nat.zero_mod]
    · rw [State.rd_settle, State.slipped, State.rd_wr_apart _ _ (by decide), State.rd_bump_same _ _ _ (by decide)]
      change min (s.begin.rd WIN_FRAME.SLIPS + 1) _ = _
      rw [s.begin_rd rfl]
    · rw [State.settle_front, State.slipped, State.wr_front, State.bump_front]
      exact List.mem_append_right _ (s.begin.mem_slipMarks (by rw [State.begin_front]; exact hc) hr (by rw [State.begin_winOf]; exact hw))
    · have hk' : k ≠ WIN_FRAME.word.off := by simpa using hk
      rw [State.word_settle, State.slipped, State.word_wr, if_neg hk', State.word_bump, if_neg hk']
      exact s.word_begin k hp

/-! ### Owed credits -/

/-- The next agent that is owed credits on a casement, with the word that it is sent. -/
def State.nextOwed (s : State) (c : Nat) : Option (Nat × Nat × Nat × Nat × Nat × Nat) :=
  (s.agentTurn c).findSome? (fun a => (s.agentWords c a).head?.map (fun x => (a, x)))

theorem State.begin_nextOwed (c : Nat) : s.begin.nextOwed c = s.nextOwed c := by
  simp only [State.nextOwed, State.begin_agentTurn, State.begin_agentWords]

/-- One credit word for an agent. -/
def State.creditGiven (s : State) (c a k pool label win n : Nat) : State :=
  { s with front := { s.front with poolCred := tput 0 s.front.poolCred k (s.credit k + min n 255), turn := tset s.front.turn c a },
           out := s.out ++ [.credit c (creditWord pool a label win (min n 255))] }

theorem State.creditReturn_off {c : Nat} (h : s.mesh.contains c = false) : s.creditReturn c = s := by
  rw [State.creditReturn, h]
  rfl

theorem State.creditReturn_owed {c : Nat} (h : s.mesh.contains c = true) {a k pool label win n : Nat}
    (hn : s.nextOwed c = some (a, k, pool, label, win, n)) : s.creditReturn c = s.creditGiven c a k pool label win n := by
  rw [State.nextOwed] at hn
  rw [State.creditReturn, h, hn]
  rfl

/-- A credit word changes the pools, the turn and what is sent. -/
theorem State.creditReturn_only (c : Nat) : ∃ cred turn o, s.creditReturn c =
    { s with front := { s.front with poolCred := cred, turn := turn }, out := o } := by
  unfold State.creditReturn
  split
  · exact ⟨_, _, _, rfl⟩
  · split
    · exact ⟨_, _, _, rfl⟩
    · split
      · exact ⟨_, _, _, rfl⟩
      · exact ⟨_, _, _, rfl⟩

theorem creditReturn_spec (s : State) (c : BitVec 2) :
    let k := c.toNat
    let next := (s.agentTurn k).findSome? (fun a => (s.agentWords k a).head?.map (fun x => (a, x)))
    ∃ t, exec (.creditReturn c) s = .next t ∧ (s.mesh.contains k = false → t.out = [] ∧ OnlyRegs s t)
      ∧ (s.mesh.contains k = true → ∀ x : Nat × Nat × Nat × Nat × Nat × Nat, next = some x → t.credit x.2.1 = s.credit x.2.1 + min
        x.2.2.2.2.2 255 ∧ t.out = [.credit k (creditWord x.2.2.1 x.1 x.2.2.2.1 x.2.2.2.2.1 (min x.2.2.2.2.2 255))] ∧ tfind t.front.turn k
        = some x.1 ∧ TabBut 0 [x.2.1] s.front.poolCred t.front.poolCred)
      ∧ t.front = { s.front with poolCred := t.front.poolCred, turn := t.front.turn }
      ∧ OnlyRegs { s with front := t.front } t
      ∧ RegsBut [] s t := by
  intro k next
  refine ⟨(s.begin.creditReturn k).settle, rfl, fun hm => ?_, fun hm x hx => ?_, ?_, ?_, fun j _ hp => ?_⟩
  · rw [State.creditReturn_off _ (by rw [State.begin_mesh]; exact hm)]
    exact ⟨by simp, by apply onlyRegs_settle <;> simp⟩
  · obtain ⟨a, key, pool, label, win, n⟩ := x
    rw [State.creditReturn_owed _ (by rw [State.begin_mesh]; exact hm) ((s.begin_nextOwed k).trans hx)]
    have hcred : s.begin.credit key = s.credit key := by rw [State.credit, State.credit, State.begin_front]
    refine ⟨?_, ?_, ?_, fun j hj => ?_⟩
    · rw [State.credit, State.settle_front, State.creditGiven, tget_tput_same, hcred]
    · rw [State.settle_out, State.creditGiven, State.begin_out]
      rfl
    · rw [State.settle_front, State.creditGiven, tfind_tset_same]
    · rw [State.settle_front, State.creditGiven, tget_tput_other _ _ _ _ (by simpa using hj), State.begin_front]
  · obtain ⟨cred, turn, o, h⟩ := s.begin.creditReturn_only k
    rw [h]
    simp
  · obtain ⟨cred, turn, o, h⟩ := s.begin.creditReturn_only k
    rw [h]
    apply onlyRegs_settle <;> simp
  · obtain ⟨cred, turn, o, h⟩ := s.begin.creditReturn_only k
    rw [h]
    exact s.word_begin j hp

/-- Settles O48: the boundary of a frame, the sync elsewhere, and the next credit word. -/
theorem framesAndCredits : Obligations.FramesAndCredits := ⟨frameBoundary_spec, frameSync_spec, creditReturn_spec⟩

end Sys2Proof.Machine
end

section
/-! SUPPORT. What the sending of a message can change: the links, their injectors, the Transom's lanes, the fault log, and what is
sent (R369 to R372, R400 to R404). -/

namespace Sys2Proof.Machine

variable (s : State)

/-- The registers that a link's injector writes, and those of its fault. -/
def linkRegs : List Nat :=
  faultRegs 12 ++ (List.range 8).flatMap (fun n =>
    [LNK_INJ_CTL.EN.off + LNK_INJ_CTL.EN.stride * n, LNK_INJ_DONE.COUNT.off + LNK_INJ_DONE.COUNT.stride * n])

theorem linkRegs_inj {k n : Nat} (h : k ∉ linkRegs) (hn : n < 8) :
    k ≠ LNK_INJ_CTL.EN.off + LNK_INJ_CTL.EN.stride * n ∧ k ≠ LNK_INJ_DONE.COUNT.off + LNK_INJ_DONE.COUNT.stride * n := by
  constructor <;> rintro rfl <;>
    exact h (List.mem_append_right _ (List.mem_flatMap.mpr ⟨n, List.mem_range.mpr hn, by simp only [List.mem_cons, true_or, or_true]⟩))

/-- At most registers, links, injectors, the Transom, the fault log and what is sent change. -/
def OnlyLinks (s u : State) : Prop :=
  u = { s with regs := u.regs, front := { s.front with links := u.front.links, inject := u.front.inject }, tran := u.tran, err := u.err,
               pmuFrz := u.pmuFrz, out := u.out }

/-- A message has been sent, or waits: what may have changed. -/
def Sent (s u : State) : Prop := OnlyLinks s u ∧ ∀ k, k ∉ linkRegs → pmuBlock k = false → u.word k = s.word k

theorem Sent.refl (s : State) : Sent s s := ⟨rfl, fun _ _ _ => rfl⟩

theorem Sent.trans {s t u : State} (hst : Sent s t) (htu : Sent t u) : Sent s u := by
  refine ⟨?_, fun k hk hp => (htu.2 k hk hp).trans (hst.2 k hk hp)⟩
  have h1 := hst.1
  have h2 := htu.1
  unfold OnlyLinks at *
  rw [h2, h1]

/-- A change outside the registers. -/
theorem sent_of_regs {s u : State} (h : OnlyLinks s u) (hr : u.regs = s.regs) (h64 : u.s64 = s.s64) : Sent s u :=
  ⟨h, fun k _ _ => State.word_congr h64 hr k⟩

theorem OnlyRegFile.sent {s u : State} (h : OnlyRegFile s u) (hw : ∀ k, k ∉ linkRegs → pmuBlock k = false → u.word k = s.word k) :
    Sent s u := by
  refine ⟨?_, hw⟩
  unfold OnlyRegFile at h
  rw [h]
  rfl

theorem sent_emit (o : Out) : Sent s (s.emit o) := sent_of_regs rfl rfl rfl
theorem sent_setLink (n : Nat) (l : Link) : Sent s (s.setLink n l) := sent_of_regs rfl rfl rfl
theorem sent_setInjector (n : Nat) (i : Injector) : Sent s (s.setInjector n i) := sent_of_regs rfl rfl rfl
theorem sent_linkBack (c cls : Nat) : Sent s (s.linkBack c cls) := sent_setLink ..

theorem sent_fault (code sev detail : Nat) (loc : Option LineAddr) (status kind src : Nat) (irq : Bool) :
    Sent s (s.fault 12 code sev detail loc status kind src irq) := by
  refine ⟨?_, fun k hk _ => s.word_fault 12 code sev detail loc status kind src irq k (fun hf => hk (List.mem_append_left _ hf))⟩
  rw [State.fault_eq]
  rfl

/-- At most registers and the freeze that is due change. -/
def OnlyPmu (s u : State) : Prop := u = { s with regs := u.regs, pmuFrz := u.pmuFrz }

theorem OnlyPmu.trans {s t u : State} (hst : OnlyPmu s t) (htu : OnlyPmu t u) : OnlyPmu s u := by
  unfold OnlyPmu at *
  rw [htu, hst]

theorem OnlyRegFile.onlyPmu {s u : State} (h : OnlyRegFile s u) : OnlyPmu s u := by
  unfold OnlyRegFile at h
  rw [h]
  rfl

theorem onlyPmu_setPmu (n v : Nat) : OnlyPmu s (s.setPmu n v) :=
  OnlyRegFile.onlyPmu ((onlyRegFile_wrI s PMU_CNT_LO.CNT_LO n _).trans (onlyRegFile_wrI _ PMU_CNT_HI.CNT_HI n _))

theorem onlyPmu_pmuAdd (n inc : Nat) : OnlyPmu s (s.pmuAdd n inc) := by
  unfold State.pmuAdd
  extract_lets v u w
  split
  · exact onlyPmu_setPmu ..
  · split
    · exact (onlyPmu_setPmu s n _).trans ((OnlyRegFile.onlyPmu (onlyRegFile_wr u _ _)).trans rfl)
    · exact (onlyPmu_setPmu s n _).trans (OnlyRegFile.onlyPmu (onlyRegFile_wr u _ _))

/-- Counting events touches the PMU alone. -/
theorem onlyPmu_event (code : Nat) (lane label : Option Nat) (inc : Nat) : OnlyPmu s (s.event code lane label inc) := by
  unfold State.event
  generalize List.range 8 = ls
  induction ls generalizing s with
  | nil => rfl
  | cons n ls ih =>
    refine OnlyPmu.trans ?_ (ih _)
    beta_reduce
    split
    · exact onlyPmu_pmuAdd ..
    · rfl

theorem sent_event (code : Nat) (lane label : Option Nat) (inc : Nat) : Sent s (s.event code lane label inc) := by
  refine ⟨?_, fun k _ hp => s.word_event code lane label inc k hp⟩
  have h := onlyPmu_event s code lane label inc
  unfold OnlyPmu at h
  rw [h]
  rfl

/-! ### The injector -/

theorem sent_injectTrigger {n : Nat} (hn : n < 8) : Sent s (s.injectTrigger n).2 := by
  unfold State.injectTrigger
  extract_lets i r u
  split
  · exact sent_setInjector ..
  · split
    · exact sent_setInjector ..
    · refine (sent_setInjector s n { i with count := 0 }).trans ?_
      change Sent u (if _ then u else _)
      split
      · exact Sent.refl _
      · exact OnlyRegFile.sent rfl (fun k hk _ => (State.word_setFlagI ..).trans (if_neg (linkRegs_inj hk hn).1))

theorem sent_injectDone {n : Nat} (hn : n < 8) : Sent s (s.injectDone n) := by
  have hcount : Sent s (s.bumpI LNK_INJ_DONE.COUNT n) :=
    OnlyRegFile.sent rfl (fun k hk _ => (State.word_bumpI ..).trans (if_neg (linkRegs_inj hk hn).2))
  unfold State.injectDone
  extract_lets u
  split
  · exact hcount.trans (sent_fault ..)
  · exact hcount

theorem sent_inject {n : Nat} (hn : n < 8) (dir : Bool) (k : Nat) : Sent s (s.inject n dir k).2 := by
  unfold State.inject
  split
  · exact Sent.refl s
  · have htrig := sent_injectTrigger s hn
    split
    rename_i sel u heq
    rw [heq] at htrig
    split
    · exact htrig
    · refine htrig.trans ((sent_injectDone u hn).trans ?_)
      extract_lets v
      split <;> exact Sent.refl _

/-! ### Sending -/

theorem sent_tranOut (lane : Nat) (o : Out) : Sent s (s.tranOut lane o) := by
  unfold State.tranOut
  split
  · exact sent_of_regs rfl rfl rfl
  · exact sent_of_regs rfl rfl rfl

theorem sent_emitLink (o : Out) : Sent s (s.emitLink o) := by
  unfold State.emitLink
  split
  · exact sent_emit ..
  · rename_i lane _
    split
    · exact Sent.refl s
    · have hinj := sent_inject s (n := 7) (by decide) false lane
      split
      rename_i act u heq
      rw [heq] at hinj
      refine hinj.trans ?_
      cases act with
      | pass =>
        refine (sent_tranOut u lane o).trans ?_
        dsimp only
        split
        · split
          · exact (sent_setInjector ..).trans (sent_tranOut ..)
          · exact Sent.refl _
        · exact Sent.refl _
      | drop => exact Sent.refl _
      | flip f => exact sent_tranOut ..
      | hold => exact sent_setInjector ..

theorem sent_transmit (n : Nat) (o : BitVec 10 → Out) (wrap : Out → Out) (visible : Bool) : Sent s (s.transmit n o wrap visible) := by
  unfold State.transmit
  extract_lets l q kept u
  split
  · exact (sent_setLink ..).trans (sent_emitLink ..)
  · exact sent_setLink ..

/-- A message on a link: a relation that sending and the return of a credit keep. -/
theorem rel_sendOn {R : State → State → Prop} (htrans : ∀ {s t u}, R s t → R t u → R s u) (hsent : ∀ {s u}, Sent s u → R s u)
    {back : State → State} (hback : ∀ u, R u (back u)) {n : Nat} (hn : n < 8) (k c : Nat) (o : BitVec 10 → Out) :
    R s (s.sendOn n k c o back) := by
  have hinj := hsent (sent_inject s hn false k)
  unfold State.sendOn
  split
  rename_i act u heq
  rw [heq] at hinj
  extract_lets above src v
  have hv : R u v := by
    cases act with
    | pass => exact hsent (sent_transmit ..)
    | drop =>
      change R u (if above then back u else u.transmit n o id false)
      split
      · exact hback u
      · exact hsent (sent_transmit ..)
    | flip f => exact hsent (sent_transmit ..)
    | hold => exact hsent (sent_setInjector ..)
  refine htrans (htrans hinj hv) ?_
  split
  · split
    · exact hsent ((sent_setInjector ..).trans (sent_transmit ..))
    · exact hsent (Sent.refl _)
  · exact hsent (Sent.refl _)

theorem sent_depart {c : Nat} (hc : c < 8) (m : Msg) : Sent s (s.depart c m) :=
  (sent_event s 0x51 none none (2 * (1 + m.body.slots))).trans
    (rel_sendOn (R := Sent) _ Sent.trans (fun h => h) (fun u => sent_linkBack u c m.cls) hc _ _ _)

theorem sent_sendAt {c : Nat} (hc : c < 8) (m : Msg) : Sent s (s.sendAt c m) := by
  unfold State.sendAt
  extract_lets l cr
  split
  · exact sent_setLink ..
  · exact (sent_setLink ..).trans (sent_depart _ hc m)

theorem State.casementOf_lt {k c : Nat} (h : s.casementOf k = some c) : c < 8 := by
  unfold State.casementOf at h
  extract_lets l at h
  split at h
  · exact absurd h (by simp)
  · have hmem := List.mem_of_getElem? h
    have hlt := List.mem_range.mp (List.mem_filter.mp hmem).1
    unfold State.casements at hlt
    split at hlt <;> omega

theorem sent_sendRouted (k : Nat) (m : Msg) : Sent s (s.sendRouted k m) := by
  unfold State.sendRouted
  split
  · rename_i c h
    exact sent_sendAt _ (s.casementOf_lt h) m
  · exact Sent.refl s

/-! ### Messages to the partner and on the chain -/

/-- What sending changes, with the mirror unit and its count of messages. -/
def SentMir (s u : State) : Prop :=
  OnlyLinks { s with mir := u.mir } u ∧ ∀ k, k ∉ MIR_TX.word.off :: linkRegs → pmuBlock k = false → u.word k = s.word k

theorem OnlyLinks.withMir {s u : State} (h : OnlyLinks s u) (m : Mir) : OnlyLinks { s with mir := m } { u with mir := m } := by
  unfold OnlyLinks at *
  rw [h]

theorem OnlyLinks.trans {s t u : State} (hst : OnlyLinks s t) (htu : OnlyLinks t u) : OnlyLinks s u := by
  unfold OnlyLinks at *
  rw [htu, hst]

theorem SentMir.trans {s t u : State} (hst : SentMir s t) (htu : SentMir t u) : SentMir s u :=
  ⟨(hst.1.withMir u.mir).trans htu.1, fun k hk hp => (htu.2 k hk hp).trans (hst.2 k hk hp)⟩

theorem Sent.mir {s u : State} (h : Sent s u) : u.mir = s.mir := by
  have hf := h.1
  unfold OnlyLinks at hf
  rw [hf]

theorem Sent.sentMir {s u : State} (h : Sent s u) : SentMir s u := by
  have hm := h.mir
  unfold SentMir
  rw [hm]
  exact ⟨h.1, fun k hk hp => h.2 k (fun hl => hk (List.mem_cons_of_mem _ hl)) hp⟩

theorem sentMir_withMir (m : Mir) : SentMir s { s with mir := m } := ⟨rfl, fun _ _ _ => rfl⟩

theorem sentMir_count : SentMir s (s.bump MIR_TX.COUNT) := by
  refine ⟨rfl, fun k hk _ => ?_⟩
  rw [State.word_bump]
  exact if_neg (fun h => hk (List.mem_cons.mpr (Or.inl h)))

theorem sentMir_mirDepart (m : MirMsg) : SentMir s (s.mirDepart m) := by
  unfold State.mirDepart
  extract_lets lane q src h m' u
  refine (sentMir_withMir s u.mir).trans ((sentMir_count u).trans ((sent_event _ 0x55 none none 1).sentMir.trans ?_))
  refine rel_sendOn (R := SentMir) (n := 6) _ SentMir.trans Sent.sentMir ?_ (by decide) _ _ _
  exact fun v => sentMir_withMir v _

theorem sentMir_mirSend (m : MirMsg) : SentMir s (s.mirSend m) := by
  unfold State.mirSend
  split
  · exact sentMir_withMir ..
  · exact sentMir_mirDepart ..

/-- What sending changes, with the chain's unit. -/
def SentChain (s u : State) : Prop := Sent { s with chn := u.chn } u

theorem OnlyLinks.withChn {s u : State} (h : OnlyLinks s u) (c : Chain) : OnlyLinks { s with chn := c } { u with chn := c } := by
  unfold OnlyLinks at *
  rw [h]

theorem SentChain.trans {s t u : State} (hst : SentChain s t) (htu : SentChain t u) : SentChain s u :=
  ⟨(hst.1.withChn u.chn).trans htu.1, fun k hk hp => (htu.2 k hk hp).trans (hst.2 k hk hp)⟩

theorem Sent.chn {s u : State} (h : Sent s u) : u.chn = s.chn := by
  have hf := h.1
  unfold OnlyLinks at hf
  rw [hf]

theorem Sent.sentChain {s u : State} (h : Sent s u) : SentChain s u := by
  have hm := h.chn
  unfold SentChain
  rw [hm]
  exact h

theorem sentChain_withChn (c : Chain) : SentChain s { s with chn := c } := ⟨rfl, fun _ _ _ => rfl⟩

theorem sentChain_chainDepart (h : BitVec 256) (image : Option RowImage) : SentChain s (s.chainDepart h image) :=
  (sent_event s 0x54 none none 1).sentChain.trans
    (rel_sendOn (R := SentChain) _ SentChain.trans Sent.sentChain (fun v => sentChain_withChn v _) (by decide) _ _ _)

theorem sentChain_chainSend (h : BitVec 256) (image : Option RowImage) : SentChain s (s.chainSend h image) := by
  unfold State.chainSend
  extract_lets w
  split
  · exact sentChain_withChn ..
  · exact (sentChain_withChn s _).trans (sentChain_chainDepart ..)

end Sys2Proof.Machine
end

section
/-! SUPPORT. Power commands and budget messages (R309, R326 to R330, R409). -/

namespace Sys2Proof.Machine

variable (s : State)

/-! ### What a budget answer shows -/

/-- Two states that show the same in a budget answer. -/
structure SameBudget (s t : State) : Prop where
  s64 : s.s64 = t.s64
  words : ∀ k ∈ [PWR_STATUS.word.off, PWR_RETAIN.word.off, STK_REF_TIER.word.off], s.word k = t.word k
  tclAct : s.front.tclAct = t.front.tclAct
  accLast : s.front.accLast = t.front.accLast
  lostLb : s.stk.lostLb = t.stk.lostLb

theorem SameBudget.rd {s t : State} (h : SameBudget s t) {f : Field}
    (hf : f.off ∈ [PWR_STATUS.word.off, PWR_RETAIN.word.off, STK_REF_TIER.word.off]) (hs : f.stride = 0) : s.rd f = t.rd f :=
  State.rdI_congr f 0 (by rw [hs]; exact h.words _ hf)

theorem SameBudget.boundNow {s t : State} (h : SameBudget s t) : s.boundNow = t.boundNow := by
  have hways := h.rd (f := PWR_RETAIN.WAYS) (by decide) rfl
  have hfar : s.farUs = t.farUs := by rw [State.farUs, State.farUs, h.s64]
  have hbound : s.boundUs = t.boundUs := by
    funext u f
    rw [State.boundUs, State.boundUs, hfar]
  have hkeep : s.unretained = t.unretained := by rw [State.unretained, State.unretained, State.ways, State.ways, h.s64, hways]
  rw [State.boundNow, State.boundNow, hbound, hkeep, State.setting_congr h.s64, h.tclAct]

theorem SameBudget.retCmds {s t : State} (h : SameBudget s t) : s.retCmds = t.retCmds := by
  have hways := h.rd (f := PWR_RETAIN.WAYS) (by decide) rfl
  have hpair : s.pairKept = t.pairKept := by
    funext q
    rw [State.pairKept, State.pairKept, hways]
  have hnb : s.nb = t.nb := by rw [State.nb, State.nb, h.s64]
  funext lb
  rw [State.retCmds, State.retCmds, hpair, hnb]

theorem SameBudget.retEst {s t : State} (h : SameBudget s t) : s.retEst = t.retEst := by
  have hways := h.rd (f := PWR_RETAIN.WAYS) (by decide) rfl
  have htemp := h.rd (f := STK_REF_TIER.TEMP) (by decide) rfl
  have htier := h.rd (f := STK_REF_TIER.TIER) (by decide) rfl
  have hlive : s.liveBanks = t.liveBanks := by rw [State.liveBanks, State.liveBanks, State.nb, State.nb, h.s64, h.lostLb]
  rw [State.retEst, State.retEst, State.ways, State.ways, hlive, hways, htemp, htier, h.retCmds, h.s64]

theorem SameBudget.powerNow {s t : State} (h : SameBudget s t) : s.powerNow = t.powerNow := by
  rw [State.powerNow, State.powerNow, State.powerModel, State.powerModel, h.s64, h.accLast]

theorem SameBudget.budgetWord {s t : State} (h : SameBudget s t) : s.budgetWord = t.budgetWord := by
  have hpend := h.rd (f := PWR_STATUS.PEND) (by decide) rfl
  have hv : s.flag PWR_STATUS.PEND_V = t.flag PWR_STATUS.PEND_V := State.flag_congr (h.rd (by decide) rfl)
  have hst := h.rd (f := PWR_STATUS.STATE) (by decide) rfl
  funext typ status seq reason granted
  rw [State.budgetWord, State.budgetWord, hpend, hv, hst, h.boundNow, h.retEst, h.powerNow]

theorem sameBudget_begin : SameBudget s.begin s := by
  refine ⟨s.begin_s64, fun k hk => ?_, by rw [State.begin_front], by rw [State.begin_front], by rw [State.begin_stk]⟩
  simp only [List.mem_cons, List.not_mem_nil, or_false] at hk
  rcases hk with rfl | rfl | rfl <;> exact s.word_begin _ rfl

/-- What GRANTED of a cap depends on. -/
theorem State.grantOf_congr {s t : State} (h64 : s.s64 = t.s64) (hf : s.front = t.front)
    (hw : ∀ k ∈ [PWR_RAMP.word.off, MIR_RATE.word.off, MIR_CTL.word.off], s.word k = t.word k) : s.grantOf = t.grantOf := by
  have hramp : s.rd PWR_RAMP.RAMP_US = t.rd PWR_RAMP.RAMP_US := State.rdI_congr PWR_RAMP.RAMP_US 0 (hw _ (by decide))
  have hmir : s.rd MIR_RATE.RATE = t.rd MIR_RATE.RATE := State.rdI_congr MIR_RATE.RATE 0 (hw _ (by decide))
  have hpair : s.flag MIR_CTL.PAIR_EN = t.flag MIR_CTL.PAIR_EN := State.flag_congr (State.rdI_congr MIR_CTL.PAIR_EN 0 (hw _ (by decide)))
  have hset := State.setting_congr h64
  have hplanOf : s.planOf = t.planOf := by
    funext u lane j
    rw [State.planOf, State.planOf, hset]
  have hplan : s.plan = t.plan := by
    funext u
    rw [State.plan, State.plan, hplanOf]
  funext c
  simp only [State.grantOf, State.powerModel, State.admNow, State.admQ, State.admM, h64, hf, hramp, hmir, hpair, hset, hplan]

/-! ### Answers of a power command -/

/-- A budget answer takes a place and is sent. -/
theorem State.budgetSend_eq (typ status : Nat) (seq : BitVec 8) (reason granted : Nat) : s.budgetSend typ status seq reason granted =
    { s with pwr := { s.pwr with answers := s.pwr.answers ++ [s.budgetWord typ status seq reason granted] },
             out := s.out ++ [.budget (s.budgetWord typ status seq reason granted)] } := rfl

/-- What sending changes, with the power unit, the mirror unit and PWR_STATUS. -/
def SentPwr (s u : State) : Prop :=
  OnlyLinks { s with mir := u.mir, pwr := u.pwr } u ∧
    ∀ k, k ∉ PWR_STATUS.word.off :: MIR_TX.word.off :: linkRegs → pmuBlock k = false → u.word k = s.word k

theorem OnlyLinks.withMirPwr {s u : State} (h : OnlyLinks s u) (m : Mir) (p : Pwr) :
    OnlyLinks { s with mir := m, pwr := p } { u with mir := m, pwr := p } := by
  unfold OnlyLinks at *
  rw [h]

theorem SentPwr.trans {s t u : State} (hst : SentPwr s t) (htu : SentPwr t u) : SentPwr s u :=
  ⟨(hst.1.withMirPwr u.mir u.pwr).trans htu.1, fun k hk hp => (htu.2 k hk hp).trans (hst.2 k hk hp)⟩

theorem SentPwr.refl (s : State) : SentPwr s s := ⟨rfl, fun _ _ _ => rfl⟩

theorem SentMir.pwr {s u : State} (h : SentMir s u) : u.pwr = s.pwr := by
  have hf := h.1
  unfold OnlyLinks at hf
  rw [hf]

theorem SentMir.sentPwr {s u : State} (h : SentMir s u) : SentPwr s u := by
  have hm := h.pwr
  unfold SentPwr
  rw [hm]
  exact ⟨h.1, fun k hk hp => h.2 k (fun hl => hk (List.mem_cons_of_mem _ hl)) hp⟩

theorem sentPwr_withPwr (p : Pwr) : SentPwr s { s with pwr := p } := ⟨rfl, fun _ _ _ => rfl⟩

theorem sentPwr_wr {f : Field} (v : Nat) (hf : f.off = PWR_STATUS.word.off) : SentPwr s (s.wr f v) := by
  refine ⟨rfl, fun k hk _ => ?_⟩
  rw [State.word_wr, hf]
  exact if_neg (fun h => hk (List.mem_cons.mpr (Or.inl h)))

theorem sentPwr_budgetSend (typ status : Nat) (seq : BitVec 8) (reason granted : Nat) :
    SentPwr s (s.budgetSend typ status seq reason granted) := by
  rw [State.budgetSend_eq]
  exact ⟨rfl, fun _ _ _ => rfl⟩

theorem sentPwr_answer (src : MgSrc) (a b : Nat) (d : Word) : SentPwr s (s.answer src a b d) := by
  rw [State.answer_eq]
  exact ⟨rfl, fun _ _ _ => rfl⟩

theorem sentPwr_pwrShow (status reason : Nat) : SentPwr s (s.pwrShow status reason) :=
  (sentPwr_wr s (f := PWR_STATUS.LAST_STATUS) status rfl).trans (sentPwr_wr _ (f := PWR_STATUS.REASON) reason rfl)

theorem sentPwr_pwrAnswer (c : PwrCmd) (status reason : Nat) : SentPwr s (s.pwrAnswer c status reason) := by
  unfold State.pwrAnswer
  extract_lets u
  refine (sentPwr_pwrShow s status reason).trans ?_
  split
  · exact sentPwr_answer ..
  · exact sentPwr_budgetSend ..
  · exact SentPwr.refl _

theorem sentPwr_pwrDone (c : PwrCmd) (status reason : Nat) : SentPwr s (s.pwrDone c status reason) := by
  unfold State.pwrDone
  split
  · exact sentPwr_budgetSend ..
  · exact SentPwr.refl _

/-! ### A transition starts -/

/-- PWR_STATUS shows the state and the phase that a transition starts with. -/
def State.pwrGo (s : State) (st ph : Nat) : State := (s.wr PWR_STATUS.STATE st).wr PWR_STATUS.PHASE ph

/-- The running command. -/
def State.pwrTaken (s : State) (c : PwrCmd) : State := { s with pwr := { s.pwr with run := some c, t0 := s.now } }

theorem sentPwr_pwrGo (st ph : Nat) : SentPwr s (s.pwrGo st ph) :=
  (sentPwr_wr s (f := PWR_STATUS.STATE) st rfl).trans (sentPwr_wr _ (f := PWR_STATUS.PHASE) ph rfl)

theorem State.pwrGo_pwr (st ph : Nat) : (s.pwrGo st ph).pwr = s.pwr := by rw [State.pwrGo, State.wr_pwr, State.wr_pwr]

/-- A command of the partner. -/
def PwrCmd.ofPartner (c : PwrCmd) : Bool := match c.by' with | .partner => true | _ => false

/-- The partner of a pair is told. -/
def State.pwrTell (s : State) (c : PwrCmd) : State :=
  if s.pairFull && !c.ofPartner then s.mirSend ⟨8, ⟨0, 0, false, false, 0, 0, BitVec.ofNat 32 c.target⟩, none, none, none, 0, none⟩ else s

theorem State.pwrStart_eq (c : PwrCmd) : s.pwrStart c =
    if c.target = 0 then (if s.pwrNow = 1 then (s.pwrTaken c).pwrGo 5 0 else (s.pwrTaken c).pwrGo 7 1)
    else if c.target = 1 then (s.pwrTaken c).pwrGo 4 0
    else ((s.pwrTaken c).pwrTell c).pwrGo (if c.target = 3 then 8 else 6) 1 := by
  obtain ⟨target, pair, sender, told⟩ := c
  match target with
  | 0 => rfl
  | 1 => rfl
  | n + 2 =>
    rw [if_neg (show ¬ n + 2 = 0 by omega), if_neg (show ¬ n + 2 = 1 by omega)]
    rfl

theorem sentPwr_pwrTell (c : PwrCmd) : SentPwr s (s.pwrTell c) := by
  unfold State.pwrTell
  split
  · exact (sentMir_mirSend s _).sentPwr
  · exact SentPwr.refl s

theorem State.pwrTell_pwr (c : PwrCmd) : (s.pwrTell c).pwr = s.pwr := by
  unfold State.pwrTell
  split
  · exact (sentMir_mirSend s _).pwr
  · rfl

theorem sentPwr_pwrStart (c : PwrCmd) : SentPwr s (s.pwrStart c) := by
  have htaken : SentPwr s (s.pwrTaken c) := sentPwr_withPwr ..
  rw [State.pwrStart_eq]
  split
  · split <;> exact htaken.trans (sentPwr_pwrGo ..)
  · split
    · exact htaken.trans (sentPwr_pwrGo ..)
    · exact htaken.trans ((sentPwr_pwrTell _ c).trans (sentPwr_pwrGo ..))

theorem State.pwrStart_pwr (c : PwrCmd) : (s.pwrStart c).pwr = { s.pwr with run := some c, t0 := s.now } := by
  rw [State.pwrStart_eq]
  split
  · split <;> rw [State.pwrGo_pwr] <;> rfl
  · split
    · rw [State.pwrGo_pwr]
      rfl
    · rw [State.pwrGo_pwr, State.pwrTell_pwr]
      rfl

theorem sentPwr_pwrCommand (c : PwrCmd) : SentPwr s (s.pwrCommand c) := by
  unfold State.pwrCommand
  split
  · split
    · exact sentPwr_pwrAnswer ..
    · split
      · dsimp only
        exact (sentPwr_withPwr s _).trans ((sentPwr_wr _ (f := PWR_STATUS.PEND_V) _ rfl).trans
          ((sentPwr_wr _ (f := PWR_STATUS.PEND) _ rfl).trans (sentPwr_pwrAnswer ..)))
      · dsimp only
        exact (sentPwr_withPwr s _).trans ((sentPwr_wr _ (f := PWR_STATUS.PEND_V) _ rfl).trans
          ((sentPwr_wr _ (f := PWR_STATUS.PEND) _ rfl).trans (sentPwr_pwrAnswer ..)))
  · split
    · exact sentPwr_pwrAnswer ..
    · split
      · exact sentPwr_pwrStart ..
      · exact (sentPwr_pwrStart s _).trans (sentPwr_pwrAnswer ..)

theorem SentPwr.stk {s u : State} (h : SentPwr s u) : u.stk = s.stk := by
  have hf := h.1
  unfold OnlyLinks at hf
  rw [hf]

theorem SentPwr.coh {s u : State} (h : SentPwr s u) : u.coh = s.coh := by
  have hf := h.1
  unfold OnlyLinks at hf
  rw [hf]

end Sys2Proof.Machine
end

section
/-! SUPPORT. Budget messages served (R326 to R330). -/

namespace Sys2Proof.Machine

variable (s : State)

/-! ### The messages, one by one -/

theorem State.budgetServe_query {x : BitVec 64} (h : (x.extractLsb' 0 4).toNat = 0) :
    s.budgetServe x = s.budgetSend 0 stOk (x.extractLsb' 8 8) 0 s.capNow := by
  unfold State.budgetServe
  rw [h]
  rfl

theorem State.budgetServe_cap {x : BitVec 64} (h : (x.extractLsb' 0 4).toNat = 1) :
    s.budgetServe x = s.budgetCap (x.extractLsb' 8 8) (x.extractLsb' 32 32).toNat := by
  unfold State.budgetServe
  rw [h]
  rfl

theorem State.budgetServe_state {x : BitVec 64} (h : (x.extractLsb' 0 4).toNat = 2) :
    s.budgetServe x = s.pwrCommand ⟨(x.extractLsb' 32 32).toNat % 4, (x.extractLsb' 32 32).toNat / 2 ^ 8 % 2 = 1,
      .msg (x.extractLsb' 8 8), false⟩ := by
  unfold State.budgetServe
  rw [h]
  rfl

theorem State.budgetServe_ramp {x : BitVec 64} (h : (x.extractLsb' 0 4).toNat = 3) :
    s.budgetServe x = s.budgetRamp (x.extractLsb' 8 8) ((x.extractLsb' 32 32).toNat % 2 ^ 16) := by
  unfold State.budgetServe
  rw [h]
  rfl

theorem State.budgetServe_other {x : BitVec 64} (h : 4 ≤ (x.extractLsb' 0 4).toNat) :
    s.budgetServe x = s.budgetSend (x.extractLsb' 0 4).toNat stRefused (x.extractLsb' 8 8) rsnField s.capNow := by
  obtain ⟨n, hn⟩ := Nat.exists_eq_add_of_le' h
  unfold State.budgetServe
  rw [hn]
  rfl

/-- The cap that a CAP message names. -/
def capOf (arg : Nat) : Option Nat := if arg = 0xFFFFFFFF then none else some arg

/-- A cap stored and shown. -/
def State.capStored (s : State) (arg : Nat) : State :=
  ({ s with pwr := { s.pwr with cap := capOf arg } }).wr PWR_CAP.CAP_MW (min 0xFFFF arg)

theorem State.budgetCap_eq (seq : BitVec 8) (arg : Nat) : s.budgetCap seq arg =
    (s.capStored arg).budgetSend 1 stOk seq 0 (((capOf arg).map (s.capStored arg).grantOf).getD 0xFFFFFFFF) := by
  have hgrant : ∀ (cap : Option Nat) (u : State),
      (match cap with | some c => u.grantOf c | none => 0xFFFFFFFF) = (cap.map u.grantOf).getD 0xFFFFFFFF := by
    intro cap u
    cases cap <;> rfl
  exact congrArg ((s.capStored arg).budgetSend 1 stOk seq 0 ·) (hgrant (capOf arg) (s.capStored arg))

theorem State.budgetRamp_zero (seq : BitVec 8) : s.budgetRamp seq 0 = s.budgetSend 3 stRefused seq rsnField s.capNow := if_pos rfl

/-- A ramp before step 8 replaces what step 8 checks. -/
def State.rampStored (s : State) (v : Nat) : State := ({ s with start := { s.start with ramp := some v } }).wr PWR_RAMP.RAMP_US v

theorem State.budgetRamp_early (seq : BitVec 8) {v : Nat} (hv : v ≠ 0) (h : s.rd SLC_START.STEP < 8) :
    s.budgetRamp seq v = (s.rampStored v).budgetSend 3 stOk seq 0 (s.rampStored v).capNow := (if_neg hv).trans (if_pos h)

theorem State.budgetRamp_late (seq : BitVec 8) {v : Nat} (hv : v ≠ 0) (h : ¬ s.rd SLC_START.STEP < 8) :
    s.budgetRamp seq v = s.admSubmit (.rampMsg seq.toNat v) := (if_neg hv).trans (if_neg h)

/-- The admission check takes a job. -/
theorem State.admSubmit_eq (w : AdmWhy) : s.admSubmit w =
    ({ s with adm := { s.adm with queue := s.adm.queue ++ [w] } }).setFlag ADM_STATUS.BUSY true := rfl

theorem budgetServe_frame (x : BitVec 64) : (s.budgetServe x).stk = s.stk ∧ (s.budgetServe x).coh = s.coh := by
  have hlt : (x.extractLsb' 0 4).toNat < 16 := (x.extractLsb' 0 4).isLt
  by_cases h4 : 4 ≤ (x.extractLsb' 0 4).toNat
  · rw [s.budgetServe_other h4]
    exact ⟨rfl, rfl⟩
  · have hcases : (x.extractLsb' 0 4).toNat = 0 ∨ (x.extractLsb' 0 4).toNat = 1 ∨ (x.extractLsb' 0 4).toNat = 2
        ∨ (x.extractLsb' 0 4).toNat = 3 := by omega
    rcases hcases with h | h | h | h
    · rw [s.budgetServe_query h]
      exact ⟨rfl, rfl⟩
    · rw [s.budgetServe_cap h, State.budgetCap_eq]
      exact ⟨rfl, rfl⟩
    · rw [s.budgetServe_state h]
      exact ⟨(sentPwr_pwrCommand s _).stk, (sentPwr_pwrCommand s _).coh⟩
    · rw [s.budgetServe_ramp h]
      by_cases hv : (x.extractLsb' 32 32).toNat % 2 ^ 16 = 0
      · rw [hv, State.budgetRamp_zero]
        exact ⟨rfl, rfl⟩
      · by_cases hs : s.rd SLC_START.STEP < 8
        · rw [s.budgetRamp_early _ hv hs]
          exact ⟨rfl, rfl⟩
        · rw [s.budgetRamp_late _ hv hs]
          exact ⟨rfl, rfl⟩

/-! ### Arrival -/

/-- The port serves messages. -/
def State.budgetServes (s : State) : Prop := s.mgReady = true ∧ s.pwr.answers.length < 8

theorem State.budgetOpen_iff : s.budgetOpen = true ↔ s.budgetServes := by
  rw [State.budgetOpen, Bool.and_eq_true, decide_eq_true_eq, State.budgetServes]

theorem State.budgetIn_closed {x : BitVec 64} (hm : s.pwr.msgs = []) (h : ¬ s.budgetServes) :
    s.budgetIn x = { s with pwr := { s.pwr with msgs := [x] } } := by
  rw [State.budgetIn, hm, List.length_nil, List.nil_append]
  exact if_neg (mt s.budgetOpen_iff.mp h)

theorem State.budgetIn_open {x : BitVec 64} (hm : s.pwr.msgs = []) (h : s.budgetServes) : s.budgetIn x = s.budgetServe x := by
  have hself : ({ s with pwr := { s.pwr with msgs := [] } } : State) = s := by rw [← hm]
  rw [State.budgetIn, hm, List.length_nil, List.nil_append]
  refine (if_pos (s.budgetOpen_iff.mpr h)).trans ?_
  rw [State.budgetDrain]
  exact congrArg (State.budgetServe · x) hself

theorem State.begin_budgetServes : s.begin.budgetServes ↔ s.budgetServes := by
  rw [State.budgetServes, State.budgetServes, State.begin_mgReady, State.begin_pwr]

theorem State.begin_capNow : s.begin.capNow = s.capNow := by rw [State.capNow, State.capNow, State.begin_pwr]

theorem State.begin_pwrRefusal (c : PwrCmd) : s.begin.pwrRefusal c = s.pwrRefusal c := by
  rw [State.pwrRefusal, State.pwrRefusal, State.pwrNow, State.pwrNow, State.pairFull, State.pairFull, State.begin_online,
    s.begin_rd (f := PWR_STATUS.STATE) rfl, s.begin_rd (f := MIR_STATUS.STATE) rfl, s.begin_rd (f := WIN_CTL.ACTIVE) rfl]

/-! ### The obligation -/

theorem firstOf_mem {l : List (Bool × Nat)} {r : Nat} (h : firstOf l = some r) : ∃ b, (b, r) ∈ l := by
  induction l with
  | nil => exact absurd h (by simp [firstOf])
  | cons e l ih =>
    obtain ⟨b, q⟩ := e
    rw [firstOf] at h
    split at h
    · obtain rfl : q = r := Option.some.inj h
      exact ⟨b, List.mem_cons_self⟩
    · obtain ⟨b', hb⟩ := ih h
      exact ⟨b', List.mem_cons_of_mem _ hb⟩

/-- The reasons of R309 fit their field. -/
theorem State.pwrRefusal_lt {c : PwrCmd} {r : Nat} (h : s.pwrRefusal c = some r) : r < 256 := by
  obtain ⟨b, hb⟩ := firstOf_mem h
  simp only [List.mem_cons, List.not_mem_nil, or_false, Prod.mk.injEq] at hb
  rcases hb with ⟨-, rfl⟩ | ⟨-, rfl⟩ | ⟨-, rfl⟩ | ⟨-, rfl⟩ | ⟨-, rfl⟩ | ⟨-, rfl⟩ <;> decide

theorem State.pwrShow_shown {status reason : Nat} (hs : status < 16) (hr : reason < 256) :
    (s.pwrShow status reason).rd PWR_STATUS.LAST_STATUS = status ∧ (s.pwrShow status reason).rd PWR_STATUS.REASON = reason := by
  constructor
  · rw [State.pwrShow, State.rd_wr_apart _ _ (by decide), State.rd_wr_same _ _ _ (by decide)]
    exact Nat.mod_eq_of_lt hs
  · rw [State.pwrShow, State.rd_wr_same _ _ _ (by decide)]
    exact Nat.mod_eq_of_lt hr

theorem State.word_pwrShow (status reason : Nat) {k : Nat} (h : k ≠ PWR_STATUS.word.off) : (s.pwrShow status reason).word k = s.word k := by
  rw [State.pwrShow, State.word_wr, if_neg h, State.word_wr, if_neg h]

/-- A command that starts at once, sent by a message. -/
theorem State.pwrCommand_starts {c : PwrCmd} {q : BitVec 8} (hc : c.by' = .msg q) (ht : c.told = false) (hrun : s.pwr.run = none)
    (hno : s.pwrRefusal c = none) :
    (s.pwrCommand c).pwr.run = some { c with told := decide (c.target ≠ 1) } ∧ (s.pwrCommand c).pwr.t0 = s.now := by
  have hform : s.pwrCommand c = if c.target = 1 then s.pwrStart c else (s.pwrStart { c with told := true }).pwrAnswer c stOk rsnNone := by
    rw [State.pwrCommand, hrun]
    simp only [hno]
  rw [hform]
  by_cases h1 : c.target = 1
  · have hself : { c with told := decide (c.target ≠ 1) } = c := by
      obtain ⟨target, pair, sender, told⟩ := c
      simp only at ht h1
      simp only [ht, h1, ne_eq, not_true_eq_false, decide_false]
    rw [if_pos h1, State.pwrStart_pwr, hself]
    exact ⟨rfl, rfl⟩
  · have hpwr : ∀ u : State, (u.pwrAnswer c stOk rsnNone).pwr.run = u.pwr.run ∧ (u.pwrAnswer c stOk rsnNone).pwr.t0 = u.pwr.t0 := by
      intro u
      have hform : u.pwrAnswer c stOk rsnNone =
          (u.pwrShow stOk rsnNone).budgetSend 2 stOk q rsnNone (u.pwrShow stOk rsnNone).capNow := by rw [State.pwrAnswer, hc]
      rw [hform, State.budgetSend_eq]
      simp only [State.pwrShow, State.wr_pwr, and_self]
    obtain ⟨hr, h0⟩ := hpwr (s.pwrStart { c with told := true })
    rw [if_neg h1, hr, h0, State.pwrStart_pwr, decide_eq_true h1]
    exact ⟨rfl, rfl⟩

theorem State.pwrCommand_refused {c : PwrCmd} {q : BitVec 8} (hc : c.by' = .msg q) (hrun : s.pwr.run = none) {r : Nat}
    (hno : s.pwrRefusal c = some r) :
    s.pwrCommand c = (s.pwrShow stRefused r).budgetSend 2 stRefused q r (s.pwrShow stRefused r).capNow := by
  rw [State.pwrCommand, hrun]
  simp only [hno, State.pwrAnswer, hc]

/-- Only the power unit, registers and what is sent change. -/
theorem onlyRegs_pwr {s u : State} (h : u = { s.begin with regs := u.regs, pwr := u.pwr, out := u.out }) :
    OnlyRegs { s with pwr := u.settle.pwr } u.settle := by
  generalize u.regs = R, u.pwr = P, u.out = O at h
  subst h
  apply onlyRegs_settle <;> simp

/-- Only the power unit, the start, registers and what is sent change. -/
theorem onlyRegs_pwrStart {s u : State} (h : u = { s.begin with regs := u.regs, pwr := u.pwr, start := u.start, out := u.out }) :
    OnlyRegs { s with pwr := u.settle.pwr, start := u.settle.start } u.settle := by
  generalize u.regs = R, u.pwr = P, u.start = S, u.out = O at h
  subst h
  apply onlyRegs_settle <;> simp

theorem budgetIn_spec (s : State) (i : Instr) (x : BitVec 64)
    (hi : i = .budgetQuery x ∨ i = .budgetCap x ∨ i = .budgetState x ∨ i = .budgetRamp x) :
    let typ := (x.extractLsb' 0 4).toNat
    let q : BitVec 8 := x.extractLsb' 8 8
    let arg := (x.extractLsb' 32 32).toNat
    let cap : Option Nat := if arg = 0xFFFFFFFF then none else some arg
    let ramp := arg % 2 ^ 16
    let serves := s.mgReady = true ∧ s.pwr.answers.length < 8
    s.pwr.msgs = [] →
    ∃ t, exec i s = .next t ∧ (¬ serves → t.pwr = { s.pwr with msgs := [x] } ∧ t.out = [] ∧ OnlyRegs { s with pwr := t.pwr } t ∧ RegsBut
      [] s t)
      ∧ (serves → typ = 0 → t.out = [.budget (s.budgetWord 0 stOk q 0 s.capNow)] ∧ t.pwr =
        { s.pwr with answers := s.pwr.answers ++ [s.budgetWord 0 stOk q 0 s.capNow] } ∧ OnlyRegs { s with pwr := t.pwr } t ∧ RegsBut [] s
        t)
      ∧ (serves → typ = 1 → t.pwr.cap = cap ∧ t.rd PWR_CAP.CAP_MW = min 0xFFFF arg ∧ t.pwr.granted = s.pwr.granted ∧ t.out = [.budget
        (s.budgetWord 1 stOk q 0 ((cap.map s.grantOf).getD 0xFFFFFFFF))] ∧ OnlyRegs { s with pwr := t.pwr } t ∧ RegsBut
        [PWR_CAP.word.off] s t)
      ∧ (serves → typ = 3 → ramp = 0 → t.out = [.budget (s.budgetWord 3 stRefused q rsnField s.capNow)] ∧ OnlyRegs
        { s with pwr := t.pwr } t ∧ RegsBut [] s t)
      ∧ (serves → typ = 3 → ramp ≠ 0 → s.rd SLC_START.STEP < 8 → t.rd PWR_RAMP.RAMP_US = ramp ∧ t.start =
        { s.start with ramp := some ramp } ∧ t.out = [.budget (t.budgetWord 3 stOk q 0 s.capNow)] ∧ OnlyRegs
        { s with pwr := t.pwr, start := t.start } t ∧ RegsBut [PWR_RAMP.word.off] s t)
      ∧ (serves → typ = 3 → ramp ≠ 0 → ¬ s.rd SLC_START.STEP < 8 → t.adm = { s.adm with queue := s.adm.queue ++ [.rampMsg q.toNat ramp] }
        ∧ t.flag ADM_STATUS.BUSY = true ∧ t.out = [] ∧ t.pwr = s.pwr)
      ∧ (serves → typ = 2 → s.pwr.run = none → ∀ r : Nat, s.pwrRefusal ⟨arg % 4, arg / 2 ^ 8 % 2 = 1, .msg q, false⟩ = some r → t.rd
        PWR_STATUS.LAST_STATUS = stRefused ∧ t.rd PWR_STATUS.REASON = r ∧ t.out = [.budget (t.budgetWord 2 stRefused q r s.capNow)] ∧
        RegsBut [PWR_STATUS.word.off] s t)
      ∧ (serves → typ = 2 → s.pwr.run = none → s.pwrRefusal ⟨arg % 4, arg / 2 ^ 8 % 2 = 1, .msg q, false⟩ = none → t.pwr.run = some ⟨arg
        % 4, arg / 2 ^ 8 % 2 = 1, .msg q, decide (arg % 4 ≠ 1)⟩ ∧ t.pwr.t0 = s.now)
      ∧ (serves → 4 ≤ typ → t.out = [.budget (s.budgetWord typ stRefused q rsnField s.capNow)] ∧ OnlyRegs { s with pwr := t.pwr } t ∧
        RegsBut [] s t)
      ∧ t.stk = s.stk
      ∧ t.coh = s.coh := by
  intro typ q arg cap ramp serves hm
  have hexec : exec i s = .next (s.begin.budgetIn x).settle := by rcases hi with rfl | rfl | rfl | rfl <;> rfl
  have hm' : s.begin.pwr.msgs = [] := by rw [State.begin_pwr]; exact hm
  have hword := (sameBudget_begin s).budgetWord
  by_cases hv : serves
  · have hin := State.budgetIn_open s.begin (x := x) hm' (s.begin_budgetServes.mpr hv)
    rw [hin] at hexec
    obtain ⟨hstk, hcoh⟩ := budgetServe_frame s.begin x
    refine ⟨_, hexec, fun hn => absurd hv hn, fun _ ht => ?_, fun _ ht => ?_, fun _ ht h0 => ?_, fun _ ht h0 hs => ?_,
      fun _ ht h0 hs => ?_, fun _ ht hr r hno => ?_, fun _ ht hr hno => ?_, fun _ ht => ?_, ?_, ?_⟩
    · rw [State.budgetServe_query _ ht, State.budgetSend_eq, hword, State.begin_capNow]
      refine ⟨by simp [q], by simp [q], onlyRegs_pwr rfl, fun k _ hp => s.word_begin k hp⟩
    · have hgrant : (s.begin.capStored arg).grantOf = s.grantOf := by
        refine State.grantOf_congr (by simp [State.capStored]) (by simp [State.capStored]) (fun k hk => ?_)
        have hne : k ≠ PWR_CAP.word.off := by rintro rfl; exact absurd hk (by decide)
        rw [State.capStored, State.word_wr, if_neg hne]
        simp only [List.mem_cons, List.not_mem_nil, or_false] at hk
        rcases hk with rfl | rfl | rfl <;> exact s.word_begin _ rfl
      have hsame : SameBudget (s.begin.capStored arg) s := by
        refine ⟨by simp [State.capStored], fun k hk => ?_, by simp [State.capStored], by simp [State.capStored], by simp [State.capStored]⟩
        have hne : k ≠ PWR_CAP.word.off := by rintro rfl; exact absurd hk (by decide)
        rw [State.capStored, State.word_wr, if_neg hne]
        exact (sameBudget_begin s).words k hk
      have hlt : arg < 2 ^ 32 := (x.extractLsb' 32 32).isLt
      rw [State.budgetServe_cap _ ht, State.budgetCap_eq, State.budgetSend_eq, hsame.budgetWord, hgrant]
      refine ⟨by simp [State.capStored, capOf, cap, arg], ?_, by simp [State.capStored], by simp [State.capStored, capOf, cap, arg, q],
        onlyRegs_pwr rfl, fun k hk hp => ?_⟩
      · change (s.begin.capStored arg).rd PWR_CAP.CAP_MW = _
        rw [State.capStored, State.rd_wr_same _ _ _ (by decide)]
        exact Nat.mod_eq_of_lt (by simp only; omega)
      · change (s.begin.capStored arg).word k = _
        rw [State.capStored, State.word_wr, if_neg (by simpa using hk)]
        exact s.word_begin k hp
    · rw [State.budgetServe_ramp _ ht]
      change (x.extractLsb' 32 32).toNat % 2 ^ 16 = 0 at h0
      rw [h0, State.budgetRamp_zero, State.budgetSend_eq, hword, State.begin_capNow]
      exact ⟨by simp [q], onlyRegs_pwr rfl, fun k _ hp => s.word_begin k hp⟩
    · have hs' : s.begin.rd SLC_START.STEP < 8 := by rw [s.begin_rd rfl]; exact hs
      have hcap : (s.begin.rampStored ramp).capNow = s.capNow := by
        rw [State.capNow, State.capNow, State.rampStored, State.wr_pwr, State.begin_pwr]
      have hform : s.begin.budgetServe x = (s.begin.rampStored ramp).budgetSend 3 stOk q 0 s.capNow := by
        rw [State.budgetServe_ramp _ ht, ← hcap]
        exact State.budgetRamp_early _ _ h0 hs'
      rw [hform]
      refine ⟨?_, by simp [State.budgetSend_eq, State.rampStored], ?_, onlyRegs_pwrStart rfl, fun k hk hp => ?_⟩
      · rw [State.rd_settle]
        change (s.begin.rampStored ramp).rd PWR_RAMP.RAMP_US = _
        rw [State.rampStored, State.rd_wr_same _ _ _ (by decide)]
        exact Nat.mod_eq_of_lt (Nat.mod_lt _ (by decide))
      · have hsame : SameBudget ((s.begin.rampStored ramp).budgetSend 3 stOk q 0 s.capNow).settle (s.begin.rampStored ramp) :=
          ⟨rfl, fun _ _ => rfl, rfl, rfl, rfl⟩
        rw [hsame.budgetWord, State.settle_out, State.budgetSend_eq]
        simp [State.rampStored]
      · change (s.begin.rampStored ramp).word k = _
        rw [State.rampStored, State.word_wr, if_neg (by simpa using hk)]
        exact s.word_begin k hp
    · have hs' : ¬ s.begin.rd SLC_START.STEP < 8 := by rw [s.begin_rd rfl]; exact hs
      have hform : s.begin.budgetServe x = s.begin.admSubmit (.rampMsg q.toNat ramp) := by
        rw [State.budgetServe_ramp _ ht]
        exact State.budgetRamp_late _ _ h0 hs'
      rw [hform, State.admSubmit_eq]
      refine ⟨by simp, ?_, by simp, by simp⟩
      rw [State.flag_eq, State.rd_settle, State.rd_setFlag_same _ _ _ (by decide) rfl]
      rfl
    · have hform : s.begin.budgetServe x = (s.begin.pwrShow stRefused r).budgetSend 2 stRefused q r s.capNow := by
        have hcap : (s.begin.pwrShow stRefused r).capNow = s.capNow := by
          rw [State.capNow, State.capNow, State.pwrShow, State.wr_pwr, State.wr_pwr, State.begin_pwr]
        rw [State.budgetServe_state _ ht, ← hcap]
        exact State.pwrCommand_refused _ rfl (by rw [State.begin_pwr]; exact hr) (by rw [State.begin_pwrRefusal]; exact hno)
      obtain ⟨hst, hre⟩ := s.begin.pwrShow_shown (status := stRefused) (by decide) (s.pwrRefusal_lt hno)
      rw [hform]
      have hsame : SameBudget ((s.begin.pwrShow stRefused r).budgetSend 2 stRefused q r s.capNow).settle (s.begin.pwrShow stRefused r) :=
        ⟨rfl, fun _ _ => rfl, rfl, rfl, rfl⟩
      refine ⟨hst, hre, ?_, fun k hk hp => ?_⟩
      · rw [hsame.budgetWord, State.settle_out, State.budgetSend_eq]
        simp [State.pwrShow]
      · exact (s.begin.word_pwrShow stRefused r (by simpa using hk)).trans (s.word_begin k hp)
    · obtain ⟨h1, h2⟩ := s.begin.pwrCommand_starts (c := ⟨arg % 4, arg / 2 ^ 8 % 2 = 1, .msg q, false⟩) rfl rfl
        (by rw [State.begin_pwr]; exact hr) (by rw [State.begin_pwrRefusal]; exact hno)
      rw [State.budgetServe_state _ ht, State.settle_pwr]
      exact ⟨h1, h2.trans s.begin_now⟩
    · rw [State.budgetServe_other _ ht, State.budgetSend_eq, hword, State.begin_capNow]
      exact ⟨by simp [q, typ], onlyRegs_pwr rfl, fun k _ hp => s.word_begin k hp⟩
    · rw [State.settle_stk, hstk, State.begin_stk]
    · rw [State.settle_coh, hcoh, State.begin_coh]
  · have hin := State.budgetIn_closed s.begin (x := x) hm' (mt s.begin_budgetServes.mp hv)
    rw [hin] at hexec
    refine ⟨_, hexec, fun _ => ⟨by simp, by simp, onlyRegs_pwr rfl, fun k _ hp => s.word_begin k hp⟩, fun h => absurd h hv,
      fun h => absurd h hv, fun h => absurd h hv, fun h => absurd h hv, fun h => absurd h hv, fun h => absurd h hv, fun h => absurd h hv,
      fun h => absurd h hv, by simp, by simp⟩

theorem State.budgetDrain_one {y : BitVec 64} (hm : s.pwr.msgs = [y]) (ho : s.budgetOpen = true) :
    s.budgetDrain 1 = ({ s with pwr := { s.pwr with msgs := [] } }).budgetServe y := by
  rw [State.budgetDrain, hm]
  exact if_pos ho

theorem budgetAck_idle (s : State) (hm : s.pwr.msgs = []) :
    ∃ t, exec (.budgetAnswerAck) s = .next t ∧ t.pwr = { s.pwr with answers := s.pwr.answers.tail } ∧ t.out = []
      ∧ OnlyRegs { s with pwr := t.pwr } t ∧ RegsBut [] s t := by
  have hform : s.begin.budgetAck = { s.begin with pwr := { s.begin.pwr with answers := s.begin.pwr.answers.tail } } := by
    rw [State.budgetAck, show s.begin.pwr.msgs.length = 0 by rw [State.begin_pwr, hm]; rfl]
    rfl
  have hexec : exec .budgetAnswerAck s = .next s.begin.budgetAck.settle := rfl
  rw [hform] at hexec
  exact ⟨_, hexec, by simp, by simp, onlyRegs_pwr rfl, fun k _ hp => s.word_begin k hp⟩

theorem budgetAck_query (s : State) (z : BitVec 64) (hz : s.pwr.msgs.head? = some z) (hready : s.mgReady = true)
    (hfull : s.pwr.answers.length = 8) (hone : s.pwr.msgs.length = 1) (htyp : (z.extractLsb' 0 4).toNat = 0) :
    ∃ t, exec (.budgetAnswerAck) s = .next t ∧ t.pwr.msgs = s.pwr.msgs.tail
      ∧ t.pwr.answers = s.pwr.answers.tail ++ [s.budgetWord 0 stOk (z.extractLsb' 8 8) 0 s.capNow]
      ∧ t.out = [.budget (s.budgetWord 0 stOk (z.extractLsb' 8 8) 0 s.capNow)] ∧ RegsBut [] s t := by
  obtain ⟨y, hy⟩ := List.length_eq_one_iff.mp hone
  obtain rfl : y = z := by rw [hy] at hz; exact Option.some.inj hz
  obtain ⟨v, hv⟩ : ∃ v : State, v = { s.begin with pwr := { s.begin.pwr with msgs := [], answers := s.pwr.answers.tail } } := ⟨_, rfl⟩
  have hopen : ({ s.begin with pwr := { s.begin.pwr with answers := s.begin.pwr.answers.tail } } : State).budgetOpen = true := by
    rw [State.budgetOpen_iff]
    refine ⟨s.begin_mgReady.trans hready, ?_⟩
    rw [State.begin_pwr]
    simp only [List.length_tail, hfull]
    decide
  have hsame : SameBudget v s := by
    have hb := sameBudget_begin s
    rw [hv]
    exact ⟨hb.s64, hb.words, hb.tclAct, hb.accLast, hb.lostLb⟩
  have hcap : v.capNow = s.capNow := by rw [hv, State.capNow, State.capNow, State.begin_pwr]
  have hform : s.begin.budgetAck = v.budgetServe y := by
    have hmsgs : s.begin.pwr.msgs = [y] := by rw [State.begin_pwr, hy]
    have hdrain := fun hm => State.budgetDrain_one _ (y := y) hm hopen
    rw [State.budgetAck, hmsgs, List.length_singleton, hdrain hmsgs, hv]
    simp only [State.begin_pwr]
  have hexec : exec .budgetAnswerAck s = .next s.begin.budgetAck.settle := rfl
  rw [hform, State.budgetServe_query _ htyp, State.budgetSend_eq, hsame.budgetWord, hcap] at hexec
  refine ⟨_, hexec, by simp [hv, hy], by simp [hv], by simp [hv], fun k _ hp => ?_⟩
  rw [hv]
  exact s.word_begin k hp

theorem pwrRampWrite_spec (s : State) (m : MgWrite) :
    let v := fieldGet PWR_RAMP.RAMP_US m.word
    Admits s PWR_RAMP.word.off m.src →
    ∃ t, exec (.pwrRampWrite m) s = .next t ∧ (v = 0 → t.out = [answerOut m.src stRefused rsnField 0] ∧ OnlyRegs s t ∧ RegsBut [] s t)
      ∧ (v ≠ 0 → t.adm = { s.adm with queue := s.adm.queue ++ [.rampReg m.src v] } ∧ t.flag ADM_STATUS.BUSY = true ∧ t.out = [] ∧ t.rd
        PWR_RAMP.RAMP_US = s.rd PWR_RAMP.RAMP_US)
      ∧ OnlyRegs { s with adm := t.adm } t
      ∧ RegsBut [ADM_STATUS.word.off] s t := by
  intro v h
  refine ⟨_, settled_mgWrite h _ _, ?_⟩
  by_cases h0 : v = 0
  · have hform : s.begin.writeRamp m = s.begin.refuse m.src rsnField := if_pos h0
    rw [hform]
    refine ⟨fun _ => ⟨by simp [State.refuse_out], onlyRegs_begin_answer .., regsBut_begin_answer s _ _ _ _⟩, fun hn => absurd h0 hn,
      by apply onlyRegs_settle <;> simp, fun k _ hp => regsBut_begin_answer s _ _ _ _ k (by simp) hp⟩
  · have hform : s.begin.writeRamp m = s.begin.admSubmit (.rampReg m.src v) := if_neg h0
    rw [hform, State.admSubmit_eq]
    refine ⟨fun hc => absurd hc h0, fun _ => ⟨by simp, ?_, by simp, ?_⟩, by apply onlyRegs_settle <;> simp, fun k hk hp => ?_⟩
    · rw [State.flag_eq, State.rd_settle, State.rd_setFlag_same _ _ _ (by decide) rfl]
      rfl
    · rw [State.rd_settle, State.rd_setFlag_apart _ _ (by decide)]
      exact s.begin_rd rfl
    · rw [State.word_settle, State.word_setFlag, if_neg (by simpa using hk)]
      exact s.word_begin k hp

/-- Settles O55: the messages served or kept, the places freed, and the ramp's register. -/
theorem budgetMessages : Obligations.BudgetMessages := ⟨budgetIn_spec, budgetAck_idle, budgetAck_query, pwrRampWrite_spec⟩

end Sys2Proof.Machine
end

section
/-! SUPPORT. Relations between states that every step of a sending keeps hold for the sending of a message (R369 to R372, R400 to
R404): one walk through the sending, for any such relation. -/

namespace Sys2Proof.Machine

/-- A relation that the single steps of a sending keep. -/
structure SendRel (R : State → State → Prop) : Prop where
  refl : ∀ s, R s s
  trans : ∀ {s t u}, R s t → R t u → R s u
  emit : ∀ (s : State) (o : Out), R s (s.emit o)
  event : ∀ (s : State) (code : Nat) (lane label : Option Nat) (inc : Nat), R s (s.event code lane label inc)
  link : ∀ (s : State) (n : Nat) (l : Link), (s.link n).queue <+: l.queue → R s (s.setLink n l)
  injector : ∀ (s : State) (n : Nat) (i : Injector), n < 8 → R s (s.setInjector n i)
  tran : ∀ (s : State) (t : Tran), R s { s with tran := t }
  disarm : ∀ (s : State) (n : Nat), n < 8 → R s (s.setFlagI LNK_INJ_CTL.EN n false)
  count : ∀ (s : State) (n : Nat), n < 8 → R s (s.bumpI LNK_INJ_DONE.COUNT n)
  fault : ∀ (s : State) (code sev detail : Nat) (loc : Option LineAddr) (status kind src : Nat) (irq : Bool),
    R s (s.fault 12 code sev detail loc status kind src irq)

/-- What holds of every sending holds of its steps. -/
theorem sendRel_of_sent {R : State → State → Prop} (htrans : ∀ {s t u}, R s t → R t u → R s u) (hsent : ∀ {s u}, Sent s u → R s u) :
    SendRel R where
  refl s := hsent (Sent.refl s)
  trans := htrans
  emit s o := hsent (sent_emit s o)
  event s code lane label inc := hsent (sent_event s code lane label inc)
  link s n l _ := hsent (sent_setLink s n l)
  injector s n i _ := hsent (sent_setInjector s n i)
  tran _ _ := hsent (sent_of_regs rfl rfl rfl)
  disarm _ _ hn := hsent (OnlyRegFile.sent rfl (fun _ hk _ => (State.word_setFlagI ..).trans (if_neg (linkRegs_inj hk hn).1)))
  count _ _ hn := hsent (OnlyRegFile.sent rfl (fun _ hk _ => (State.word_bumpI ..).trans (if_neg (linkRegs_inj hk hn).2)))
  fault s code sev detail loc status kind src irq := hsent (sent_fault s code sev detail loc status kind src irq)

namespace SendRel

variable {R : State → State → Prop} (h : SendRel R)
include h

theorem foldl {α : Type} {g : State → α → State} (hg : ∀ u a, R u (g u a)) (l : List α) (s : State) : R s (l.foldl g s) := by
  induction l generalizing s with
  | nil => exact h.refl s
  | cons a l ih => exact h.trans (hg s a) (ih _)

theorem injectTrigger (s : State) {n : Nat} (hn : n < 8) : R s (s.injectTrigger n).2 := by
  unfold State.injectTrigger
  extract_lets i r u
  split
  · exact h.injector s n _ hn
  · split
    · exact h.injector s n _ hn
    · refine h.trans (h.injector s n { i with count := 0 } hn) ?_
      change R u (if _ then u else _)
      split
      · exact h.refl _
      · exact h.disarm u n hn

theorem injectDone (s : State) {n : Nat} (hn : n < 8) : R s (s.injectDone n) := by
  unfold State.injectDone
  extract_lets u
  split
  · exact h.trans (h.count s n hn) (h.fault ..)
  · exact h.count s n hn

theorem inject (s : State) {n : Nat} (hn : n < 8) (dir : Bool) (k : Nat) : R s (s.inject n dir k).2 := by
  unfold State.inject
  split
  · exact h.refl s
  · have htrig := h.injectTrigger s hn
    split
    rename_i sel u heq
    rw [heq] at htrig
    split
    · exact htrig
    · refine h.trans htrig (h.trans (h.injectDone u hn) ?_)
      extract_lets v
      split <;> exact h.refl _

theorem tranOut (s : State) (lane : Nat) (o : Out) : R s (s.tranOut lane o) := by
  unfold State.tranOut
  split
  · exact h.tran ..
  · exact h.trans (h.tran s { s.tran with credits := tput 64 s.tran.credits lane (s.tranCredit lane - o.beats) }) (h.emit _ o)

theorem emitLink (s : State) (o : Out) : R s (s.emitLink o) := by
  unfold State.emitLink
  split
  · exact h.emit ..
  · rename_i lane _
    split
    · exact h.refl s
    · have hinj := h.inject s (n := 7) (by decide) false lane
      split
      rename_i act u heq
      rw [heq] at hinj
      refine h.trans hinj ?_
      cases act with
      | pass =>
        refine h.trans (h.tranOut u lane o) ?_
        dsimp only
        split
        · split
          · exact h.trans (h.injector _ 7 _ (by decide)) (h.tranOut ..)
          · exact h.refl _
        · exact h.refl _
      | drop => exact h.refl _
      | flip f => exact h.tranOut ..
      | hold => exact h.injector _ 7 _ (by decide)

theorem transmit (s : State) (n : Nat) (o : BitVec 10 → Out) (wrap : Out → Out) (visible : Bool) : R s (s.transmit n o wrap visible) := by
  unfold State.transmit
  extract_lets l q kept u
  have hu : R s u := h.link s n _ (List.prefix_refl _)
  split
  · exact h.trans hu (h.emitLink ..)
  · exact hu

/-- A message on a link, where the return of a credit keeps the relation. -/
theorem sendOn (s : State) {back : State → State} (hback : ∀ u, R u (back u)) {n : Nat} (hn : n < 8) (k c : Nat) (o : BitVec 10 → Out) :
    R s (s.sendOn n k c o back) := by
  have hinj := h.inject s hn false k
  unfold State.sendOn
  split
  rename_i act u heq
  rw [heq] at hinj
  extract_lets above src v
  have hv : R u v := by
    cases act with
    | pass => exact h.transmit ..
    | drop =>
      change R u (if above then back u else u.transmit n o id false)
      split
      · exact hback u
      · exact h.transmit ..
    | flip f => exact h.transmit ..
    | hold => exact h.injector _ n _ hn
  refine h.trans (h.trans hinj hv) ?_
  split
  · split
    · exact h.trans (h.injector _ n _ hn) (h.transmit ..)
    · exact h.refl _
  · exact h.refl _

theorem linkBack (s : State) (c cls : Nat) : R s (s.linkBack c cls) := by
  unfold State.linkBack
  extract_lets l
  exact h.link s c { l with credits := tput 0 l.credits cls (tget 0 l.credits cls + 1) } (List.prefix_refl _)

theorem depart (s : State) {c : Nat} (hc : c < 8) (m : Msg) : R s (s.depart c m) :=
  h.trans (h.event s 0x51 none none (2 * (1 + m.body.slots)))
    (h.sendOn (back := fun u => u.linkBack c m.cls) _ (fun u => h.linkBack u c m.cls) hc _ _ _)

theorem sendAt (s : State) {c : Nat} (hc : c < 8) (m : Msg) : R s (s.sendAt c m) := by
  unfold State.sendAt
  extract_lets l cr
  split
  · exact h.link s c { l with queue := l.queue ++ [m] } (List.prefix_append ..)
  · exact h.trans (h.link s c { l with credits := tput 0 l.credits m.cls (cr - 1) } (List.prefix_refl _)) (h.depart _ hc m)

theorem sendRouted (s : State) (k : Nat) (m : Msg) : R s (s.sendRouted k m) := by
  unfold State.sendRouted
  split
  · rename_i c hc
    exact h.sendAt _ (s.casementOf_lt hc) m
  · exact h.refl s

/-- An answer, where the holding of a window's response keeps the relation. -/
theorem reply (s : State) (hfront : ∀ (u : State) (l : List (Nat × Nat × Msg)), R u { u with front := { u.front with winResp := l } }) (m : Msg) :
    R s (s.reply m) := by
  unfold State.reply
  split
  · exact hfront ..
  · split
    · exact h.emit ..
    · exact h.sendRouted ..

end SendRel

/-! ### Pending classes of faults -/

/-- The classes that are pending stay pending. -/
def PendKept (s u : State) : Prop := ∀ n, (s.rd ERR_STATUS.PEND).testBit n = true → (u.rd ERR_STATUS.PEND).testBit n = true

theorem pendKept_of_rd {s u : State} (h : u.rd ERR_STATUS.PEND = s.rd ERR_STATUS.PEND) : PendKept s u := fun n hn => by rw [h]; exact hn

theorem PendKept.trans {s t u : State} (hst : PendKept s t) (htu : PendKept t u) : PendKept s u := fun n hn => htu n (hst n hn)

theorem pendKept_fault (s : State) {cls : Nat} (hc : cls < 16) (code sev detail : Nat) (loc : Option LineAddr) (status kind src : Nat)
    (irq : Bool) : PendKept s (s.fault cls code sev detail loc status kind src irq) := by
  unfold State.fault
  extract_lets a b c d
  have ha : a.rd ERR_STATUS.PEND = s.rd ERR_STATUS.PEND :=
    State.rdI_wrI_other _ _ _ _ _ _ (by simp only; omega)
  have hb : PendKept a b := by
    by_cases hi : (irq || decide (sev ≥ 2)) = true
    · have hset : b = a.setBit ERR_STATUS.PEND cls true := if_pos hi
      rw [hset]
      intro n hn
      rw [State.rd_setBit_true _ _ (by decide) hc, Nat.testBit_or, hn]
      rfl
    · have hset : b = a := if_neg hi
      exact pendKept_of_rd (by rw [hset])
  refine ((pendKept_of_rd ha).trans hb).trans ?_
  split
  · exact pendKept_of_rd rfl
  · split
    · exact pendKept_of_rd (State.rd_wr_other _ _ (by decide))
    · exact pendKept_of_rd rfl

theorem sendRel_pendKept : SendRel PendKept where
  refl _ := pendKept_of_rd rfl
  trans := PendKept.trans
  emit _ _ := pendKept_of_rd rfl
  event s _ _ _ _ := pendKept_of_rd (State.rdI_congr ERR_STATUS.PEND 0 (s.word_event _ _ _ _ _ rfl))
  link _ _ _ _ := pendKept_of_rd rfl
  injector _ _ _ _ := pendKept_of_rd rfl
  tran _ _ := pendKept_of_rd rfl
  disarm _ _ _ := pendKept_of_rd (State.rdI_wrI_other _ _ _ _ _ _ (by simp only; omega))
  count _ _ _ := pendKept_of_rd (State.rdI_wrI_other _ _ _ _ _ _ (by simp only; omega))
  fault s code sev detail loc status kind src irq := pendKept_fault s (cls := 12) (by decide) code sev detail loc status kind src irq

end Sys2Proof.Machine
end

section
/-! SUPPORT. What the discarding of a context's tokens and held drains leaves (R207, R208, R214): one walk through the commands of a
chain, for any relation that their single steps keep. -/

namespace Sys2Proof.Machine

/-! ### The steps of chain commands -/

/-- A field that chain commands write: none of CHN_CTX_CTL and ERR_STATUS, and of CHN_STATUS none of its FAULT. -/
def ChainField (f : Field) (i : Nat) : Prop :=
  (∀ c < 16, CHN_CTX_CTL.word.off + 32 * c ≠ f.off + f.stride * i) ∧ ERR_STATUS.PEND.off ≠ f.off + f.stride * i
    ∧ (CHN_STATUS.FAULT.off = f.off + f.stride * i → f.lo + f.w ≤ CHN_STATUS.FAULT.lo)

theorem chainField_of_far {f : Field} {i : Nat} (h : f.off + f.stride * i < CHN_STATUS.word.off
    ∨ (CHN_STATUS.word.off < f.off + f.stride * i ∧ (f.off + f.stride * i) % 32 ≠ 0)) (hp : ERR_STATUS.PEND.off ≠ f.off + f.stride * i) :
    ChainField f i := by
  refine ⟨fun c hc he => ?_, hp, fun he => ?_⟩
  · simp only at h he
    omega
  · simp only at h he
    omega

theorem chainField_status {f : Field} (ho : f.off = CHN_STATUS.FAULT.off) (hs : f.stride = 0) (hw : f.lo + f.w ≤ CHN_STATUS.FAULT.lo) :
    ChainField f 0 := by
  refine ⟨fun c hc => ?_, ?_, fun _ => hw⟩ <;> rw [ho, hs] <;> simp only <;> omega

/-- A relation that the single steps of chain commands keep. -/
structure ChainRel (R : State → State → Prop) : Prop extends SendRel R where
  front : ∀ (s : State) (l : List (Nat × Nat × Msg)), R s { s with front := { s.front with winResp := l } }
  mir : ∀ (s : State) (m : Mir), R s { s with mir := m }
  ldg : ∀ (s : State) (l : Ledger), l.held = s.ldg.held → R s { s with ldg := l }
  chn : ∀ (s : State) (c : Chain), c.tokens = s.chn.tokens → c.resend = s.chn.resend → R s { s with chn := c }
  reg : ∀ (s : State) (f : Field) (i v : Nat), ChainField f i → R s (s.wrI f i v)
  faults : ∀ (s : State) (cls : Nat), cls < 16 → ∀ (code sev detail : Nat) (loc : Option LineAddr) (status kind src : Nat) (irq : Bool),
    R s (s.fault cls code sev detail loc status kind src irq)

namespace ChainRel

variable {R : State → State → Prop} (h : ChainRel R)
include h

theorem wr (s : State) {f : Field} (v : Nat) (hf : ChainField f 0) : R s (s.wr f v) := h.reg s f 0 v hf

theorem bump (s : State) {f : Field} (hf : ChainField f 0) : R s (s.bump f) := h.reg s f 0 _ hf

/-! ### Messages -/

theorem answer (s : State) (m : Msg) : R s (s.reply m) := h.reply s h.front m

theorem mirDepart (s : State) (m : MirMsg) : R s (s.mirDepart m) := by
  unfold State.mirDepart
  extract_lets lane q src head m' u
  have hu : R s u := h.mir s u.mir
  refine h.trans hu (h.trans (h.bump u (f := MIR_TX.COUNT) (chainField_of_far (by decide) (by decide))) (h.trans (h.event _ 0x55 none none 1) ?_))
  exact h.sendOn _ (fun v => h.mir v _) (by decide) _ _ _

theorem mirSend (s : State) (m : MirMsg) : R s (s.mirSend m) := by
  unfold State.mirSend
  split
  · exact h.mir ..
  · exact h.mirDepart ..

theorem chainDepart (s : State) (m : BitVec 256) (image : Option RowImage) : R s (s.chainDepart m image) :=
  h.trans (h.event s 0x54 none none 1)
    (h.sendOn (back := fun v => { v with chn := { v.chn with credits := v.chn.credits + 1 } }) _
      (fun v => h.chn v { v.chn with credits := v.chn.credits + 1 } rfl rfl) (by decide) _ _ _)

theorem chainSend (s : State) (m : BitVec 256) (image : Option RowImage) : R s (s.chainSend m image) := by
  unfold State.chainSend
  extract_lets w
  split
  · exact h.chn s { s.chn with queue := s.chn.queue ++ [(w, image)] } rfl rfl
  · exact h.trans (h.chn s { s.chn with credits := s.chn.credits - 1 } rfl rfl) (h.chainDepart ..)

theorem drainAnswer (s : State) (reg : Bool) (m : Msg) : R s (s.drainAnswer reg m) := by
  unfold State.drainAnswer
  split
  · exact h.trans (h.wr s (f := LDG_ROW_DRAIN.LAST_STATUS) _ (chainField_of_far (by decide) (by decide)))
      (h.wr _ (f := LDG_ROW_DRAIN.GO) _ (chainField_of_far (by decide) (by decide)))
  · exact h.answer ..

theorem ldgCount (s : State) (label status reason : Nat) : R s (s.ldgCount label status reason) := by
  unfold State.ldgCount
  extract_lets u v
  have hu : R s u := by
    change R s (if _ then _ else s)
    split
    · exact h.bump s (f := LDG_OPS.COUNT) (chainField_of_far (by decide) (by decide))
    · exact h.refl s
  have hv : R u v := by
    change R u (if _ then _ else u)
    split
    · exact h.trans (h.bump u (f := LDG_NACKS.COUNT) (chainField_of_far (by decide) (by decide))) (h.event ..)
    · exact h.refl u
  refine h.trans (h.trans hu hv) ?_
  split
  · exact h.trans (h.bump v (chainField_of_far (by decide) (by decide))) (h.event ..)
  · exact h.refl v

theorem chainAnswer (s : State) (d : ChainDrain) : R s (s.chainAnswer d) := by
  unfold State.chainAnswer
  extract_lets u
  exact h.trans (h.ldgCount ..) (h.trans (h.event ..) (h.drainAnswer ..))

theorem tokenDone (s : State) (id : Nat) (f : Nat → Nat) : R s (s.tokenDone id f) := by
  unfold State.tokenDone
  split
  · exact h.refl s
  · extract_lets d
    split
    · exact h.trans (h.chn s { s.chn with drains := s.chn.drains.filter (fun x => x.id != id) } rfl rfl) (h.chainAnswer ..)
    · exact h.chn s { s.chn with drains := s.chn.drains.map (fun x => if x.id = id then d else x) } rfl rfl

theorem tokenLost (s : State) (c : Nat) (line : LineAddr) (epoch : Word) (trow : Nat) : R s (s.tokenLost c line epoch trow) :=
  h.faults s 6 (by decide) ..

/-! ### Rows -/

theorem setRowSt (s : State) (f : RowRef) (g : RowSt → RowSt) : R s (s.setRowSt f g) := h.ldg s _ rfl

theorem setRowSts (s : State) (rows : List RowRef) (g : RowRef → RowSt → RowSt) : R s (rows.foldl (fun s f => s.setRowSt f (g f)) s) :=
  h.foldl (fun u f => h.setRowSt u f (g f)) rows s

theorem ldgMirror (s : State) (j : LdgJob) (odd : Bool) : R s (s.ldgMirror j odd) := by
  unfold State.ldgMirror
  split
  · split
    · extract_lets e
      split
      exact h.mirSend ..
    · exact h.refl s
  · exact h.refl s

theorem readCells (s : State) (f : RowRef) (p : Nat) (line : LineAddr) (cells : List Nat) : R s (s.readCells f p line cells) := by
  unfold State.readCells
  split
  · exact h.refl s
  · refine h.foldl (fun u x => ?_) _ _
    split
    · exact h.refl u
    · exact h.trans (h.ldg u { u.ldg with ecc := tdel u.ldg.ecc x.2 } rfl)
        (h.bump _ (f := LDG_ECC_CE.COUNT) (chainField_of_far (by decide) (by decide)))
    · exact h.trans (h.setRowSt ..) (h.trans (h.bump _ (f := LDG_ECC_UE.COUNT) (chainField_of_far (by decide) (by decide)))
        (h.faults _ 5 (by decide) ..))

theorem clearRow (s : State) (p : Nat) (fast : Bool) : R s (s.clearRow p fast) := by
  unfold State.clearRow
  refine h.trans (h.ldg s (s.setRowImg p (rowEmpty fast)).ldg rfl) ?_
  change R (s.setRowImg p (rowEmpty fast)) _
  unfold State.wroteCells
  split
  · exact h.refl _
  · exact h.ldg _ _ rfl

theorem drainD2 (s : State) (x : RowRef × Nat) (line : LineAddr) : R s (s.drainD2 x line).2 := by
  unfold State.drainD2
  extract_lets u img v
  exact h.trans (h.readCells ..) (h.trans (h.clearRow u _ _) (h.trans (h.setRowSt _ _ _)
    (h.bump v (f := LDG_DRAINS.COUNT) (chainField_of_far (by decide) (by decide)))))

theorem drainRows (s : State) (d : Drain) : R s (s.drainRows d).2 := by
  unfold State.drainRows
  have hfold : ∀ (l : List (RowRef × Nat)) (p : List (RowRef × Nat × RowImage) × State),
      R p.2 (l.foldl (fun p x =>
        let (img, s) := p.2.drainD2 x d.job.r.line
        (p.1 ++ [(x.1, x.2, img)], s)) p).2 := by
    intro l
    induction l with
    | nil => exact fun p => h.refl p.2
    | cons x l ih =>
      exact fun p => h.trans (h.drainD2 p.2 x d.job.r.line)
        (ih (p.1 ++ [(x.1, x.2, (p.2.drainD2 x d.job.r.line).1)], (p.2.drainD2 x d.job.r.line).2))
  exact hfold d.rows ([], s)

theorem drainD1 (s : State) (k : Nat) (j : LdgJob) (ctx : Option Nat) : R s (s.drainD1 k j ctx) := by
  unfold State.drainD1
  extract_lets rows odd u v
  exact h.trans (h.setRowSts s j.rows (fun f t => t.d1 f.shadow j.o.epoch (seedOf j.o))) (h.trans (h.ldgMirror u j odd) (h.ldg v _ rfl))

/-! ### Tokens -/

theorem sendToken (s : State) (c id : Nat) (j : LdgJob) (x : RowRef × Nat × RowImage) : R s (s.sendToken c id j x false) := by
  unfold State.sendToken
  extract_lets head seq u v
  have hu : R s u := h.trans (h.reg s CHN_CTX_SEQ.TX_NEXT c _ (chainField_of_far (by simp only; omega) (by simp only; omega)))
    (h.bump _ (f := CHN_TOK_TX.COUNT) (chainField_of_far (by decide) (by decide)))
  exact h.trans hu (h.chainSend ..)

theorem releaseBad (s : State) (x : Held) : R s (s.releaseBad x) := by
  unfold State.releaseBad
  extract_lets j u k
  have hu : R s u := h.setRowSts s j.rows (fun _ t => { t with psn := true })
  refine h.trans hu ?_
  split
  · exact h.drainD1 ..
  · rename_i rows v w _
    have hv : R u v := h.setRowSts u j.rows (fun f t => t.d1 f.shadow j.o.epoch (seedOf j.o))
    have hw : R v w := h.ldgMirror ..
    have hd := h.drainRows w ⟨j, rows, some x.ctx⟩
    refine h.trans hv (h.trans hw ?_)
    split
    rename_i imgs y heq
    rw [heq] at hd
    refine h.trans hd ?_
    exact h.trans (h.foldl (fun u z => h.sendToken u x.ctx 0 j z) _ _) (h.chainAnswer ..)

theorem showChn (s : State) : R s s.showChn := by
  unfold State.showChn
  extract_lets u
  have hu : R s u := h.trans (h.wr s (f := CHN_STATUS.TXBUF) _ (chainField_status rfl rfl (by decide))) (h.wr _ (f := CHN_STATUS.HELD) _ (chainField_status rfl rfl (by decide)))
  refine h.trans hu (h.foldl (fun v c => ?_) _ _)
  exact h.reg v CHN_CTX_ACKED.UNACKED c _ (chainField_of_far (by simp only; omega) (by simp only; omega))

end ChainRel

/-! ### A context's tokens and held drains are gone -/

/-- The tokens of a context, and its resend, taken away. -/
def State.tokensGone (s : State) (c : Nat) : State :=
  { s with chn := { s.chn with tokens := s.chn.tokens.filter (fun t => t.ctx != c), resend := tdel s.chn.resend c } }

/-- The held drains of a context taken away. -/
def State.heldGone (s : State) (c : Nat) : State :=
  { s with ldg := { s.ldg with held := s.ldg.held.filter (fun h => h.ctx != c) } }

theorem ChainRel.dropTokens {R : State → State → Prop} (h : ChainRel R) (s : State) (c : Nat) : R (s.tokensGone c) (s.dropTokens c) := by
  have hstep : ∀ (u : State) (t : Token), R u ((u.tokenLost c t.line t.epoch t.trow).tokenDone t.drain (fun _ => stPoison)) := fun u t =>
    h.trans (h.tokenLost u c t.line t.epoch t.trow) (h.tokenDone _ _ _)
  unfold State.dropTokens
  extract_lets gone src v
  exact h.foldl hstep gone v

theorem ChainRel.chainDrop {R : State → State → Prop} (h : ChainRel R) (s : State) (c : Nat) :
    R ((s.dropTokens c).heldGone c) (s.chainDrop c) := by
  unfold State.chainDrop
  extract_lets u mine src v
  exact h.trans (h.foldl (fun u x => h.releaseBad u x) mine v) (h.showChn _)

/-! ### What chain commands keep -/

/-- The memory, the directory, the tokens kept for a resend, the resends due, the held drains, and the contexts' CHN_CTX_CTL stay. -/
structure ChainKeeps (s u : State) : Prop where
  s64 : u.s64 = s.s64
  stk : u.stk = s.stk
  coh : u.coh = s.coh
  tokens : u.chn.tokens = s.chn.tokens
  resend : u.chn.resend = s.chn.resend
  held : u.ldg.held = s.ldg.held
  ctl : ∀ c < 16, u.word (CHN_CTX_CTL.word.off + 32 * c) = s.word (CHN_CTX_CTL.word.off + 32 * c)

theorem ChainKeeps.trans {s t u : State} (hst : ChainKeeps s t) (htu : ChainKeeps t u) : ChainKeeps s u :=
  ⟨htu.s64.trans hst.s64, htu.stk.trans hst.stk, htu.coh.trans hst.coh, htu.tokens.trans hst.tokens, htu.resend.trans hst.resend,
    htu.held.trans hst.held, fun c hc => (htu.ctl c hc).trans (hst.ctl c hc)⟩

theorem ctl_not_link {c : Nat} (hc : c < 16) : CHN_CTX_CTL.word.off + 32 * c ∉ linkRegs
    ∧ pmuBlock (CHN_CTX_CTL.word.off + 32 * c) = false := by
  have hall : ∀ c < 16, CHN_CTX_CTL.word.off + 32 * c ∉ linkRegs ∧ pmuBlock (CHN_CTX_CTL.word.off + 32 * c) = false := by decide
  exact hall c hc

theorem Sent.chainKeeps {s u : State} (h : Sent s u) : ChainKeeps s u := by
  obtain ⟨hf, hw⟩ := h
  unfold OnlyLinks at hf
  exact ⟨by rw [hf], by rw [hf], by rw [hf], by rw [hf], by rw [hf], by rw [hf],
    fun c hc => hw _ (ctl_not_link hc).1 (ctl_not_link hc).2⟩

theorem chainKeeps_fault (s : State) {cls : Nat} (hc : cls < 16) (code sev detail : Nat) (loc : Option LineAddr) (status kind src : Nat)
    (irq : Bool) : ChainKeeps s (s.fault cls code sev detail loc status kind src irq) := by
  have hw : ∀ c < 16, CHN_CTX_CTL.word.off + 32 * c ∉ faultRegs cls := fun c hlt => by
    simp only [faultRegs, List.mem_cons, List.not_mem_nil, or_false, not_or]
    refine ⟨?_, ?_, ?_⟩ <;> omega
  exact ⟨State.fault_s64 .., State.fault_stk .., State.fault_coh .., by rw [State.fault_chn], by rw [State.fault_chn],
    by rw [State.fault_ldg], fun c hlt => s.word_fault cls code sev detail loc status kind src irq _ (hw c hlt)⟩

theorem chainRel_chainKeeps : ChainRel ChainKeeps where
  toSendRel := sendRel_of_sent ChainKeeps.trans Sent.chainKeeps
  front _ _ := ⟨rfl, rfl, rfl, rfl, rfl, rfl, fun _ _ => rfl⟩
  mir _ _ := ⟨rfl, rfl, rfl, rfl, rfl, rfl, fun _ _ => rfl⟩
  ldg _ _ hh := ⟨rfl, rfl, rfl, rfl, rfl, hh, fun _ _ => rfl⟩
  chn _ _ ht hr := ⟨rfl, rfl, rfl, ht, hr, rfl, fun _ _ => rfl⟩
  reg s f i v hf := ⟨rfl, rfl, rfl, rfl, rfl, rfl, fun c hc => (s.word_wrI f i v _).trans (if_neg (hf.1 c hc))⟩
  faults s _ hc code sev detail loc status kind src irq := chainKeeps_fault s hc code sev detail loc status kind src irq

/-! ### The faults shown -/

/-- The contexts that CHN_STATUS shows faulty, and no class of faults less is pending. -/
structure FaultsShown (s u : State) : Prop where
  shown : u.rd CHN_STATUS.FAULT = s.rd CHN_STATUS.FAULT
  pend : PendKept s u

theorem FaultsShown.trans {s t u : State} (hst : FaultsShown s t) (htu : FaultsShown t u) : FaultsShown s u :=
  ⟨htu.shown.trans hst.shown, hst.pend.trans htu.pend⟩

theorem faultsShown_of_rd {s u : State} (h : u.rd CHN_STATUS.FAULT = s.rd CHN_STATUS.FAULT) (hp : u.rd ERR_STATUS.PEND = s.rd ERR_STATUS.PEND) :
    FaultsShown s u := ⟨h, pendKept_of_rd hp⟩

theorem rd_fault_shown (s : State) {cls : Nat} (hc : cls < 16) (code sev detail : Nat) (loc : Option LineAddr) (status kind src : Nat)
    (irq : Bool) : (s.fault cls code sev detail loc status kind src irq).rd CHN_STATUS.FAULT = s.rd CHN_STATUS.FAULT := by
  refine State.rd_fault s (f := CHN_STATUS.FAULT) ?_ rfl ..
  simp only [faultRegs, List.mem_cons, List.not_mem_nil, or_false, not_or]
  refine ⟨?_, ?_, ?_⟩ <;> omega

theorem chainRel_faultsShown : ChainRel FaultsShown where
  refl _ := faultsShown_of_rd rfl rfl
  trans := FaultsShown.trans
  emit _ _ := faultsShown_of_rd rfl rfl
  event s code lane label inc := ⟨State.rdI_congr CHN_STATUS.FAULT 0 (s.word_event _ _ _ _ _ rfl), sendRel_pendKept.event s code lane label inc⟩
  link _ _ _ _ := faultsShown_of_rd rfl rfl
  injector _ _ _ _ := faultsShown_of_rd rfl rfl
  tran _ _ := faultsShown_of_rd rfl rfl
  disarm _ _ _ := faultsShown_of_rd (State.rdI_wrI_other _ _ _ _ _ _ (by simp only; omega))
    (State.rdI_wrI_other _ _ _ _ _ _ (by simp only; omega))
  count _ _ _ := faultsShown_of_rd (State.rdI_wrI_other _ _ _ _ _ _ (by simp only; omega))
    (State.rdI_wrI_other _ _ _ _ _ _ (by simp only; omega))
  fault s code sev detail loc status kind src irq := ⟨rd_fault_shown s (by decide) .., sendRel_pendKept.fault s code sev detail loc status kind src irq⟩
  front _ _ := faultsShown_of_rd rfl rfl
  mir _ _ := faultsShown_of_rd rfl rfl
  ldg _ _ _ := faultsShown_of_rd rfl rfl
  chn _ _ _ _ := faultsShown_of_rd rfl rfl
  reg s f i v hf := by
    refine faultsShown_of_rd ?_ (State.rdI_wrI_other _ _ _ _ _ _ (by simpa using hf.2.1))
    by_cases ho : CHN_STATUS.FAULT.off = f.off + f.stride * i
    · exact State.rdI_wrI_field _ _ _ _ _ _ (Or.inr (hf.2.2 ho))
    · exact State.rdI_wrI_other _ _ _ _ _ _ (by simpa using ho)
  faults s _ hc code sev detail loc status kind src irq := ⟨rd_fault_shown s hc .., pendKept_fault s hc code sev detail loc status kind src irq⟩

/-- The discard of a context leaves the faults shown. -/
theorem faultsShown_chainDrop (s : State) (c : Nat) : FaultsShown s (s.chainDrop c) := by
  have h1 : FaultsShown s (s.tokensGone c) := faultsShown_of_rd rfl rfl
  have h2 : FaultsShown (s.dropTokens c) ((s.dropTokens c).heldGone c) := faultsShown_of_rd rfl rfl
  exact (h1.trans (chainRel_faultsShown.dropTokens s c)).trans (h2.trans (chainRel_faultsShown.chainDrop s c))

/-! ### After the discard of a context -/

/-- After the discard of a context: what is gone and what stays. -/
structure ChainDropped (s u : State) (c : Nat) : Prop where
  s64 : u.s64 = s.s64
  stk : u.stk = s.stk
  coh : u.coh = s.coh
  tokens : u.chn.tokens = s.chn.tokens.filter (fun t => t.ctx != c)
  resend : u.chn.resend = tdel s.chn.resend c
  held : u.ldg.held = s.ldg.held.filter (fun h => h.ctx != c)
  ctl : ∀ c < 16, u.word (CHN_CTX_CTL.word.off + 32 * c) = s.word (CHN_CTX_CTL.word.off + 32 * c)

variable (s : State)

theorem State.heldGone_held (c : Nat) : (s.heldGone c).ldg.held = s.ldg.held.filter (fun h => h.ctx != c) := rfl

theorem State.heldGone_same (c : Nat) : (s.heldGone c).s64 = s.s64 ∧ (s.heldGone c).stk = s.stk ∧ (s.heldGone c).coh = s.coh
    ∧ (s.heldGone c).chn = s.chn ∧ ∀ k, (s.heldGone c).word k = s.word k := ⟨rfl, rfl, rfl, rfl, fun _ => rfl⟩

theorem State.tokensGone_same (c : Nat) : (s.tokensGone c).s64 = s.s64 ∧ (s.tokensGone c).stk = s.stk ∧ (s.tokensGone c).coh = s.coh
    ∧ (s.tokensGone c).ldg = s.ldg ∧ (s.tokensGone c).chn.tokens = s.chn.tokens.filter (fun t => t.ctx != c)
    ∧ (s.tokensGone c).chn.resend = tdel s.chn.resend c ∧ ∀ k, (s.tokensGone c).word k = s.word k :=
  ⟨rfl, rfl, rfl, rfl, rfl, rfl, fun _ => rfl⟩

theorem chainDropped_chainDrop (c : Nat) : ChainDropped s (s.chainDrop c) c := by
  have h1 := chainRel_chainKeeps.dropTokens s c
  have h2 := chainRel_chainKeeps.chainDrop s c
  obtain ⟨hs, hk, hc, hl, ht, hr, hw⟩ := s.tokensGone_same c
  obtain ⟨hs', hk', hc', hn', hw'⟩ := (s.dropTokens c).heldGone_same c
  refine ⟨?_, ?_, ?_, ?_, ?_, ?_, fun d hd => ?_⟩
  · rw [h2.s64, hs', h1.s64, hs]
  · rw [h2.stk, hk', h1.stk, hk]
  · rw [h2.coh, hc', h1.coh, hc]
  · rw [h2.tokens, hn', h1.tokens, ht]
  · rw [h2.resend, hn', h1.resend, hr]
  · rw [h2.held, State.heldGone_held, h1.held, hl]
  · rw [h2.ctl d hd, hw', h1.ctl d hd, hw]

end Sys2Proof.Machine
end

section
/-! SUPPORT. The commit and the removal of a chain context (R205). -/

namespace Sys2Proof.Machine

variable (s : State)

/-! ### What the checks read -/

theorem State.begin_rdI_chn {f : Field} {c : Nat} (hf : f.off < 0x28000) (hs : f.stride = 32) (hc : c < 32) :
    s.begin.rdI f c = s.rdI f c :=
  s.begin_rdI f c (by simp only [pmuBlock, hs, Bool.and_eq_false_imp, decide_eq_true_eq, decide_eq_false_iff_not]; omega)

theorem State.begin_chnOk {c : Nat} (hc : c < 16) : s.begin.chnOk c = s.chnOk c := by
  rw [State.chnOk, State.chnOk, State.flagI, State.flagI, s.begin_rdI_chn (by decide) rfl (by omega)]

theorem State.begin_chnSame {c : Nat} (hc : c < 16) (w : Word) : s.begin.chnSame c w = s.chnSame c w := by
  rw [State.chnSame, State.chnSame, s.begin_rdI_chn (by decide) rfl (by omega), s.begin_rdI_chn (by decide) rfl (by omega),
    s.begin_rdI_chn (by decide) rfl (by omega)]

theorem any_congr_mem {α : Type} {l : List α} {p q : α → Bool} (h : ∀ a ∈ l, p a = q a) : l.any p = l.any q := by
  rw [Bool.eq_iff_iff, List.any_eq_true, List.any_eq_true]
  exact exists_congr (fun a => and_congr_right (fun ha => by rw [h a ha]))

/-- The other valid contexts. -/
def State.otherCtx (s : State) (c : Nat) : List Nat := (List.range 16).filter (fun d => d != c && s.chnOk d)

theorem State.begin_otherCtx (c : Nat) : s.begin.otherCtx c = s.otherCtx c :=
  List.filter_congr (fun d hd => by rw [s.begin_chnOk (List.mem_range.mp hd)])

theorem State.lt_of_otherCtx {c d : Nat} (h : d ∈ s.otherCtx c) : d < 16 := List.mem_range.mp (List.mem_filter.mp h).1

theorem State.begin_chnRefusal {c : Nat} (hc : c < 16) (w : Word) : s.begin.chnRefusal c w = s.chnRefusal c w := by
  have hslot := s.begin_rdI_chn (f := CHN_CTX_SLOTS.SLOT0) (c := c) (by decide) rfl (by omega)
  have hnum := s.begin_rdI_chn (f := CHN_CTX_SLOTS.NSLOTS) (c := c) (by decide) rfl (by omega)
  have hbind := s.begin_rdI_chn (f := CHN_CTX_SLOTS.BIND) (c := c) (by decide) rfl (by omega)
  have hn : s.rdI CHN_CTX_SLOTS.BIND c < 32 := s.rdI_lt _ _
  have hlow : ∀ f : Field, f.off < 0x0C200 → f.stride = 16 →
      s.begin.rdI f (s.rdI CHN_CTX_SLOTS.BIND c) = s.rdI f (s.rdI CHN_CTX_SLOTS.BIND c) := fun f hf hs =>
    s.begin_rdI f _ (by simp only [pmuBlock, hs, Bool.and_eq_false_imp, decide_eq_true_eq, decide_eq_false_iff_not]; omega)
  have hok : s.begin.bindOk (s.rdI CHN_CTX_SLOTS.BIND c) = s.bindOk (s.rdI CHN_CTX_SLOTS.BIND c) := by
    rw [State.bindOk, State.bindOk, State.flagI, State.flagI, hlow _ (by decide) rfl]
  have hchain : ((s.begin.otherCtx c).any fun d => s.begin.rdI CHN_CTX_CTL.CHAIN d = fieldGet CHN_CTX_CTL.CHAIN w)
      = (s.otherCtx c).any fun d => s.rdI CHN_CTX_CTL.CHAIN d = fieldGet CHN_CTX_CTL.CHAIN w := by
    rw [s.begin_otherCtx c]
    exact any_congr_mem (fun d hd => by rw [s.begin_rdI_chn (by decide) rfl (by have := s.lt_of_otherCtx hd; omega)])
  have hover : ((s.begin.otherCtx c).any fun d => s.begin.rdI CHN_CTX_SLOTS.BIND d = s.rdI CHN_CTX_SLOTS.BIND c
        && overlaps (s.rdI CHN_CTX_SLOTS.SLOT0 c, s.rdI CHN_CTX_SLOTS.NSLOTS c)
          (s.begin.rdI CHN_CTX_SLOTS.SLOT0 d, s.begin.rdI CHN_CTX_SLOTS.NSLOTS d))
      = (s.otherCtx c).any fun d => s.rdI CHN_CTX_SLOTS.BIND d = s.rdI CHN_CTX_SLOTS.BIND c
        && overlaps (s.rdI CHN_CTX_SLOTS.SLOT0 c, s.rdI CHN_CTX_SLOTS.NSLOTS c)
          (s.rdI CHN_CTX_SLOTS.SLOT0 d, s.rdI CHN_CTX_SLOTS.NSLOTS d) := by
    rw [s.begin_otherCtx c]
    refine any_congr_mem (fun d hd => ?_)
    have hd' : d < 32 := by have := s.lt_of_otherCtx hd; omega
    rw [s.begin_rdI_chn (f := CHN_CTX_SLOTS.BIND) (by decide) rfl hd', s.begin_rdI_chn (f := CHN_CTX_SLOTS.SLOT0) (by decide) rfl hd',
      s.begin_rdI_chn (f := CHN_CTX_SLOTS.NSLOTS) (by decide) rfl hd']
  have hmode : s.begin.flagI LDG_BIND_CTL.MODE (s.rdI CHN_CTX_SLOTS.BIND c) = s.flagI LDG_BIND_CTL.MODE (s.rdI CHN_CTX_SLOTS.BIND c) := by
    rw [State.flagI, State.flagI, hlow _ (by decide) rfl]
  unfold State.otherCtx at hchain hover
  simp only [State.chnRefusal, hslot, hnum, hbind, hok, hmode, hlow LDG_BIND_SIZE.GROUPS (by decide) rfl,
    hlow LDG_BIND_CTL.K (by decide) rfl, hlow LDG_BIND_CTL.DFMT (by decide) rfl, hchain, hover]

/-! ### The fields of a written CHN_CTX_CTL -/

/-- ROLE: head, middle or tail. -/
def roleOf (w : Word) : Nat :=
  if fieldGet CHN_CTX_CTL.POS w = 0 then 0 else if fieldGet CHN_CTX_CTL.POS w + 1 = fieldGet CHN_CTX_CTL.LEN w then 2 else 1

theorem roleOf_lt (w : Word) : roleOf w < 4 := by
  unfold roleOf
  split
  · decide
  · split <;> decide

theorem State.putChn_eq (c : Nat) (w : Word) : s.putChn c w =
    (((s.wrI CHN_CTX_CTL.CHAIN c (fieldGet CHN_CTX_CTL.CHAIN w)).wrI CHN_CTX_CTL.POS c (fieldGet CHN_CTX_CTL.POS w)).wrI
      CHN_CTX_CTL.LEN c (fieldGet CHN_CTX_CTL.LEN w)).wrI CHN_CTX_CTL.ROLE c (roleOf w) := rfl

theorem onlyRegFile_putChn (c : Nat) (w : Word) : OnlyRegFile s (s.putChn c w) := by
  rw [State.putChn_eq]
  exact (onlyRegFile_wrI _ _ _ _).trans ((onlyRegFile_wrI _ _ _ _).trans ((onlyRegFile_wrI _ _ _ _).trans (onlyRegFile_wrI _ _ _ _)))

theorem State.word_putChn (c : Nat) (w : Word) {k : Nat} (h : k ≠ CHN_CTX_CTL.word.off + 32 * c) : (s.putChn c w).word k = s.word k := by
  rw [State.putChn_eq, State.word_wrI, if_neg h, State.word_wrI, if_neg h, State.word_wrI, if_neg h, State.word_wrI, if_neg h]

/-- The written fields in force. -/
def State.ShowsChn (s : State) (c : Nat) (w : Word) : Prop :=
  s.rdI CHN_CTX_CTL.CHAIN c = fieldGet CHN_CTX_CTL.CHAIN w ∧ s.rdI CHN_CTX_CTL.POS c = fieldGet CHN_CTX_CTL.POS w
    ∧ s.rdI CHN_CTX_CTL.LEN c = fieldGet CHN_CTX_CTL.LEN w ∧ s.rdI CHN_CTX_CTL.ROLE c = roleOf w

theorem State.showsChn_putChn (c : Nat) (w : Word) : (s.putChn c w).ShowsChn c w := by
  rw [State.putChn_eq]
  refine ⟨?_, ?_, ?_, ?_⟩
  · rw [State.rdI_wrI_field _ _ _ _ _ _ (by decide), State.rdI_wrI_field _ _ _ _ _ _ (by decide),
      State.rdI_wrI_field _ _ _ _ _ _ (by decide), State.rdI_wrI_same _ _ _ _ (by decide), Nat.mod_eq_of_lt (fieldGet_lt _ _)]
  · rw [State.rdI_wrI_field _ _ _ _ _ _ (by decide), State.rdI_wrI_field _ _ _ _ _ _ (by decide),
      State.rdI_wrI_same _ _ _ _ (by decide), Nat.mod_eq_of_lt (fieldGet_lt _ _)]
  · rw [State.rdI_wrI_field _ _ _ _ _ _ (by decide), State.rdI_wrI_same _ _ _ _ (by decide), Nat.mod_eq_of_lt (fieldGet_lt _ _)]
  · rw [State.rdI_wrI_same _ _ _ _ (by decide)]
    exact Nat.mod_eq_of_lt (roleOf_lt w)

/-- Fields of CHN_CTX_CTL that another write leaves. -/
theorem State.ShowsChn.congr {s t : State} {c : Nat} {w : Word} (h : s.ShowsChn c w)
    (hf : ∀ f ∈ [CHN_CTX_CTL.CHAIN, CHN_CTX_CTL.POS, CHN_CTX_CTL.LEN, CHN_CTX_CTL.ROLE], t.rdI f c = s.rdI f c) : t.ShowsChn c w := by
  obtain ⟨h1, h2, h3, h4⟩ := h
  exact ⟨(hf _ (by simp)).trans h1, (hf _ (by simp)).trans h2, (hf _ (by simp)).trans h3, (hf _ (by simp)).trans h4⟩

theorem State.rdI_putChn_other (c : Nat) (w : Word) {f : Field} (hf : 30 ≤ f.lo) : (s.putChn c w).rdI f c = s.rdI f c := by
  rw [State.putChn_eq, State.rdI_wrI_field _ _ _ _ _ _ (Or.inr (by simp only; omega)),
    State.rdI_wrI_field _ _ _ _ _ _ (Or.inr (by simp only; omega)), State.rdI_wrI_field _ _ _ _ _ _ (Or.inr (by simp only; omega)),
    State.rdI_wrI_field _ _ _ _ _ _ (Or.inr (by simp only; omega))]

theorem State.rdI_putChn_off (c : Nat) (w : Word) {f : Field} (h : f.off + f.stride * c ≠ CHN_CTX_CTL.word.off + 32 * c) :
    (s.putChn c w).rdI f c = s.rdI f c := State.rdI_congr f c (s.word_putChn c w h)

/-! ### CHN_STATUS and the counts of tokens -/

/-- The words that `showChn` writes. -/
def chnShown : List Nat :=
  CHN_STATUS.word.off :: (List.range 16).map (fun x => CHN_CTX_ACKED.UNACKED.off + CHN_CTX_ACKED.UNACKED.stride * x)

theorem unacked_mem_chnShown {c : Nat} (hc : c ∈ List.range 16) :
    CHN_CTX_ACKED.UNACKED.off + CHN_CTX_ACKED.UNACKED.stride * c ∈ chnShown :=
  List.mem_cons_of_mem _ (List.mem_map_of_mem hc)

/-- The count of a context's tokens, shown. -/
def State.showUnacked (s : State) (c : Nat) : State :=
  s.wrI CHN_CTX_ACKED.UNACKED c (s.chn.tokens.filter (fun t => t.ctx = c)).length

theorem State.showChn_eq : s.showChn = (List.range 16).foldl State.showUnacked
    ((s.wr CHN_STATUS.TXBUF s.txUsed).wr CHN_STATUS.HELD s.ldg.held.length) := rfl

theorem onlyRegFile_showChn : OnlyRegFile s s.showChn := by
  rw [State.showChn_eq]
  exact ((onlyRegFile_wr s _ _).trans (onlyRegFile_wr _ _ _)).trans (OnlyRegFile.foldl (fun u c => onlyRegFile_wrI u _ _ _) _ _)

theorem State.word_showChn {k : Nat} (h : k ∉ chnShown) : s.showChn.word k = s.word k := by
  have hst : k ≠ CHN_STATUS.word.off := by
    rintro rfl
    exact h List.mem_cons_self
  rw [State.showChn_eq, State.word_foldl_of (fun u c hc => ?_), State.word_wr, if_neg hst, State.word_wr, if_neg hst]
  refine (State.word_wrI ..).trans (if_neg ?_)
  rintro rfl
  exact h (unacked_mem_chnShown hc)

/-- The fields beside UNACKED. -/
theorem State.rdI_showChn_acked {f : Field} (hs : f.stride = 32) (ho : 0x27100 ≤ f.off)
    (hf : 6 ≤ f.lo) (c : Nat) : s.showChn.rdI f c = s.rdI f c := by
  rw [State.showChn_eq]
  refine foldl_invariant (P := fun u : State => u.rdI f c = s.rdI f c)
    (fun (u : State) d hu => (State.rdI_wrI_field u CHN_CTX_ACKED.UNACKED _ _ _ _ (Or.inr hf)).trans hu) _ ?_
  rw [State.wr, State.wr, State.rdI_wrI_other _ _ _ _ _ _ (by simp only [hs]; omega), State.rdI_wrI_other _ _ _ _ _ _ (by simp only [hs]; omega)]

theorem ctl_not_shown {c : Nat} (hc : c < 16) : CHN_CTX_CTL.word.off + 32 * c ∉ chnShown := by
  have hall : ∀ c < 16, CHN_CTX_CTL.word.off + 32 * c ∉ chnShown := by decide
  exact hall c hc

theorem seq_not_shown {c : Nat} (hc : c < 16) : CHN_CTX_SEQ.TX_NEXT.off + CHN_CTX_SEQ.TX_NEXT.stride * c ∉ chnShown := by
  have hall : ∀ c < 16, CHN_CTX_SEQ.TX_NEXT.off + CHN_CTX_SEQ.TX_NEXT.stride * c ∉ chnShown := by decide
  exact hall c hc

/-! ### A write of CHN_CTX_CTL that is taken -/

/-- What a taken write of CHN_CTX_CTL leaves. -/
structure ChnTaken (s u : State) (c : Nat) (w : Word) : Prop where
  stk : u.stk = s.stk
  coh : u.coh = s.coh
  valid : u.chnOk c = w.getLsbD 31
  shows : u.ShowsChn c w
  tokens : s.chnOk c = true → u.chn.tokens.all (fun x => x.ctx != c) = true
  held : s.chnOk c = true → u.ldg.held.all (fun x => x.ctx != c) = true
  frame : s.chnOk c = false → u = { s with regs := u.regs, chn := { s.chn with nacked := u.chn.nacked } }
  words : s.chnOk c = false → ∀ k, k ≠ CHN_CTX_CTL.word.off + 32 * c →
    k ≠ CHN_CTX_SEQ.TX_NEXT.off + CHN_CTX_SEQ.TX_NEXT.stride * c → k ∉ chnShown → u.word k = s.word k

theorem State.chnOk_congr {s t : State} {c : Nat} (h : s.rdI CHN_CTX_CTL.VALID c = t.rdI CHN_CTX_CTL.VALID c) : s.chnOk c = t.chnOk c := by
  rw [State.chnOk, State.chnOk, State.flagI, State.flagI, h]

/-- Registers other than CHN_CTX_CTL's fields, written afterwards. -/
theorem ChnTaken.afterRegs {s u v : State} {c : Nat} {w : Word} (h : ChnTaken s u c w) (hv : OnlyRegFile u v)
    (hctl : ∀ f ∈ [CHN_CTX_CTL.VALID, CHN_CTX_CTL.CHAIN, CHN_CTX_CTL.POS, CHN_CTX_CTL.LEN, CHN_CTX_CTL.ROLE], v.rdI f c = u.rdI f c)
    (hw : ∀ k, k ≠ CHN_CTX_CTL.word.off + 32 * c → k ≠ CHN_CTX_SEQ.TX_NEXT.off + CHN_CTX_SEQ.TX_NEXT.stride * c → k ∉ chnShown →
      v.word k = u.word k) : ChnTaken s v c w := by
  have hchn : v.chn = u.chn := by unfold OnlyRegFile at hv; rw [hv]
  have hldg : v.ldg = u.ldg := by unfold OnlyRegFile at hv; rw [hv]
  have hcoh : v.coh = u.coh := by unfold OnlyRegFile at hv; rw [hv]
  refine ⟨hv.stk.trans h.stk, hcoh.trans h.coh, (State.chnOk_congr (hctl _ (by simp))).trans h.valid,
    h.shows.congr (fun f hf => hctl f (List.mem_cons_of_mem _ hf)), by rw [hchn]; exact h.tokens, by rw [hldg]; exact h.held,
    fun hn => ?_, fun hn k h1 h2 h3 => (hw k h1 h2 h3).trans (h.words hn k h1 h2 h3)⟩
  have hf := h.frame hn
  unfold OnlyRegFile at hv
  rw [hchn]
  generalize v.regs = R at hv
  generalize u.regs = R', u.chn.nacked = N at hf ⊢
  rw [hv, hf]

/-- The discard of a valid context, before its CHN_CTX_CTL is written. -/
def State.chnFreed (s : State) (c : Nat) : State := if s.chnOk c then s.chainDrop c else s

/-- A removed context, before it is shown. -/
def State.chnRemoved (s : State) (c : Nat) (w : Word) : State :=
  (if s.chnOk c then (s.chainDrop c).setFlagI CHN_CTX_CTL.VALID c false else s).putChn c w

/-- A committed context's CHN_CTX_CTL. -/
def State.chnEntered (s : State) (c : Nat) (w : Word) : State :=
  (((s.chnFreed c).putChn c w).setFlagI CHN_CTX_CTL.VALID c true).setChnFault c false

/-- Sequence numbers that start again. -/
def State.seqStart (s : State) (c : Nat) : State :=
  ((s.wrI CHN_CTX_SEQ.TX_NEXT c 0).wrI CHN_CTX_SEQ.RX_EXPECT c 0).wrI CHN_CTX_ACKED.TX_ACKED c 0xFFFF

/-- A context's missing token forgotten. -/
def State.nackForgot (s : State) (c : Nat) : State := { s with chn := { s.chn with nacked := tdel s.chn.nacked c } }

@[simp] theorem State.rdI_nackForgot (c : Nat) (f : Field) (i : Nat) : (s.nackForgot c).rdI f i = s.rdI f i := rfl

/-- Why a write of CHN_CTX_CTL is refused, or 0. -/
def State.chnWriteRefusal (s : State) (c : Nat) (w : Word) : Nat :=
  if s.chnOk c && !(s.chnSame c w) then rsnField else if w.getLsbD 31 then s.chnRefusal c w else 0

/-- A committed context, before it is shown. -/
def State.chnCommitted (s : State) (c : Nat) (w : Word) : State := ((s.chnEntered c w).seqStart c).nackForgot c

theorem State.writeChnCtl_eq (c : Nat) (m : MgWrite) : s.writeChnCtl c m =
    if s.chnOk c && !(s.chnSame c m.word) then s.refuse m.src rsnField
    else if !(m.word.getLsbD 31) then ((s.chnRemoved c m.word).showChn).ok m.src
    else if s.chnRefusal c m.word = 0 then ((s.chnCommitted c m.word).showChn).ok m.src
    else s.refuse m.src (s.chnRefusal c m.word) := by
  have hcases : ∀ (n : Nat) (a : State) (g : Nat → State), (match n with | 0 => a | rsn => g rsn) = if n = 0 then a else g n := by
    intro n a g
    cases n <;> rfl
  exact congrArg (fun x => if s.chnOk c && !(s.chnSame c m.word) then s.refuse m.src rsnField
    else if !(m.word.getLsbD 31) then ((s.chnRemoved c m.word).showChn).ok m.src else x) (hcases _ _ _)

theorem State.writeChnCtl_refused {c : Nat} {m : MgWrite} (h : s.chnWriteRefusal c m.word ≠ 0) :
    s.writeChnCtl c m = s.refuse m.src (s.chnWriteRefusal c m.word) := by
  rw [State.writeChnCtl_eq]
  unfold State.chnWriteRefusal at h ⊢
  by_cases hsame : (s.chnOk c && !(s.chnSame c m.word)) = true
  · rw [if_pos hsame, if_pos hsame]
  · rw [if_neg hsame] at h ⊢
    rw [if_neg hsame]
    cases hv : m.word.getLsbD 31
    case true =>
      rw [hv, if_pos rfl] at h
      rw [if_neg (by decide), if_neg h, if_pos rfl]
    case false =>
      rw [hv] at h
      exact absurd rfl h

theorem State.writeChnCtl_taken {c : Nat} {m : MgWrite} (h : s.chnWriteRefusal c m.word = 0) : s.writeChnCtl c m =
    (if m.word.getLsbD 31 then s.chnCommitted c m.word else s.chnRemoved c m.word).showChn.ok m.src := by
  rw [State.writeChnCtl_eq]
  unfold State.chnWriteRefusal at h
  by_cases hsame : (s.chnOk c && !(s.chnSame c m.word)) = true
  · rw [if_pos hsame] at h
    exact absurd h (by decide)
  · rw [if_neg hsame] at h ⊢
    cases hv : m.word.getLsbD 31
    case true =>
      rw [hv, if_pos rfl] at h
      rw [if_neg (by decide), if_pos h, if_pos rfl]
    case false =>
      rw [if_pos (by decide), if_neg (by decide)]

/-! ### The context's discard and its written fields -/

theorem all_filter_ctx {α : Type} (ctx : α → Nat) (c : Nat) (l : List α) :
    (l.filter (fun t => ctx t != c)).all (fun x => ctx x != c) = true :=
  List.all_eq_true.mpr (fun _ hx => (List.mem_filter.mp hx).2)

theorem State.chnFreed_of_free {c : Nat} (h : s.chnOk c = false) : s.chnFreed c = s := by
  rw [State.chnFreed, h]
  rfl

theorem State.chnFreed_of_valid {c : Nat} (h : s.chnOk c = true) : s.chnFreed c = s.chainDrop c := by
  rw [State.chnFreed, h]
  rfl

/-- A written CHN_CTX_CTL over the freed context. -/
theorem chnTaken_of_freed {c : Nat} {w : Word} {v : State} (hv : OnlyRegFile (s.chnFreed c) v)
    (hw : ∀ k, k ≠ CHN_CTX_CTL.word.off + 32 * c → v.word k = (s.chnFreed c).word k ∨ k ∈ chnShown)
    (hok : v.chnOk c = w.getLsbD 31) (hshow : v.ShowsChn c w) : ChnTaken s v c w := by
  have hchn : v.chn = (s.chnFreed c).chn := by unfold OnlyRegFile at hv; rw [hv]
  have hldg : v.ldg = (s.chnFreed c).ldg := by unfold OnlyRegFile at hv; rw [hv]
  have hcoh : v.coh = (s.chnFreed c).coh := by unfold OnlyRegFile at hv; rw [hv]
  have hstk := hv.stk
  cases hc : s.chnOk c
  case true =>
    have hd := chainDropped_chainDrop s c
    rw [s.chnFreed_of_valid hc] at hchn hldg hcoh hstk
    exact ⟨hstk.trans hd.stk, hcoh.trans hd.coh, hok, hshow, fun _ => by rw [hchn, hd.tokens]; exact all_filter_ctx Token.ctx c _,
      fun _ => by rw [hldg, hd.held]; exact all_filter_ctx Held.ctx c _, fun h => absurd h (by simp [hc]), fun h => absurd h (by simp [hc])⟩
  case false =>
    rw [s.chnFreed_of_free hc] at hchn hldg hcoh hstk hw hv
    refine ⟨hstk, hcoh, hok, hshow, fun h => absurd h (by simp [hc]), fun h => absurd h (by simp [hc]), fun _ => ?_,
      fun _ k h1 _ h3 => (hw k h1).resolve_right h3⟩
    rw [hchn]
    exact hv

theorem State.rdI_setFlagI_ctl {f : Field} (c : Nat) (b : Bool) (h : f.lo + f.w ≤ 31) :
    (s.setFlagI CHN_CTX_CTL.VALID c b).rdI f c = s.rdI f c :=
  State.rdI_wrI_field _ _ _ _ _ _ (Or.inl h)

theorem State.chnOk_setFlagI (c : Nat) (b : Bool) : (s.setFlagI CHN_CTX_CTL.VALID c b).chnOk c = b := by
  rw [State.chnOk, State.flagI, State.setFlagI, State.rdI_wrI_same _ _ _ _ (by decide)]
  cases b <;> rfl

theorem State.chnOk_putChn (c : Nat) (w : Word) : (s.putChn c w).chnOk c = s.chnOk c :=
  State.chnOk_congr (s.rdI_putChn_other c w (by decide))

theorem chnTaken_removed {c : Nat} {w : Word} (hv : w.getLsbD 31 = false) : ChnTaken s (s.chnRemoved c w) c w := by
  have hform : s.chnRemoved c w = ((if s.chnOk c then (s.chnFreed c).setFlagI CHN_CTX_CTL.VALID c false else s.chnFreed c)).putChn c w := by
    unfold State.chnRemoved State.chnFreed
    cases s.chnOk c <;> rfl
  rw [hform]
  have hfile : OnlyRegFile (s.chnFreed c) (if s.chnOk c then (s.chnFreed c).setFlagI CHN_CTX_CTL.VALID c false else s.chnFreed c) := by
    split
    · exact onlyRegFile_wrI _ _ _ _
    · exact rfl
  refine chnTaken_of_freed s (hfile.trans (onlyRegFile_putChn _ c w)) (fun k hk => Or.inl ?_) ?_ (State.showsChn_putChn _ c w)
  · rw [State.word_putChn _ c w hk]
    split
    · exact (State.word_setFlagI ..).trans (if_neg hk)
    · rfl
  · rw [State.chnOk_putChn, hv]
    split
    · exact State.chnOk_setFlagI _ c false
    · rename_i hok
      rw [State.chnFreed, if_neg hok]
      simpa using hok

/-- The flag that says a context is faulty, written. -/
theorem State.rdI_setChnFault (c : Nat) (b : Bool) {f : Field} (h : f.lo + f.w ≤ 30 ∨ 31 ≤ f.lo) (ho : f.off = CHN_CTX_CTL.word.off)
    (hs : f.stride = 32) : (s.setChnFault c b).rdI f c = s.rdI f c := by
  rw [State.setChnFault, State.setBit, State.wr, State.rdI_wrI_other _ _ _ _ _ _ (by simp only [ho, hs]; omega)]
  exact State.rdI_wrI_field _ _ _ _ _ _ (by simpa using h)

theorem State.chnFaulty_setChnFault (c : Nat) (b : Bool) : (s.setChnFault c b).chnFaulty c = b := by
  rw [State.chnFaulty, State.flagI, State.setChnFault, State.setBit, State.wr, State.rdI_wrI_other _ _ _ _ _ _ (by simp only; omega),
    State.setFlagI, State.rdI_wrI_same _ _ _ _ (by decide)]
  cases b <;> rfl

theorem onlyRegFile_setChnFault (c : Nat) (b : Bool) : OnlyRegFile s (s.setChnFault c b) :=
  (onlyRegFile_wrI s _ _ _).trans (onlyRegFile_wr _ _ _)

theorem State.word_setChnFault (c : Nat) (b : Bool) {k : Nat} (h : k ≠ CHN_CTX_CTL.word.off + 32 * c) (hs : k ≠ CHN_STATUS.word.off) :
    (s.setChnFault c b).word k = s.word k := by
  rw [State.setChnFault, State.word_setBit, if_neg hs]
  exact (State.word_setFlagI ..).trans (if_neg h)

theorem chnTaken_entered {c : Nat} {w : Word} (hv : w.getLsbD 31 = true) : ChnTaken s (s.chnEntered c w) c w := by
  unfold State.chnEntered
  refine chnTaken_of_freed s ((onlyRegFile_putChn _ c w).trans ((onlyRegFile_wrI _ _ _ _).trans (onlyRegFile_setChnFault _ c false)))
    (fun k hk => ?_) ?_ ((State.showsChn_putChn (s.chnFreed c) c w).congr (fun f hf => ?_))
  · by_cases hs : k = CHN_STATUS.word.off
    · exact Or.inr (hs ▸ List.mem_cons_self)
    · rw [State.word_setChnFault _ c false hk hs, State.word_setFlagI, if_neg hk, State.word_putChn _ c w hk]
      exact Or.inl rfl
  · rw [State.chnOk_congr (State.rdI_setChnFault _ c false (by decide) rfl rfl), State.chnOk_setFlagI, hv]
  · simp only [List.mem_cons, List.not_mem_nil, or_false] at hf
    rw [State.rdI_setChnFault, State.rdI_setFlagI_ctl]
    all_goals rcases hf with rfl | rfl | rfl | rfl <;> decide

theorem onlyRegFile_seqStart (c : Nat) : OnlyRegFile s (s.seqStart c) :=
  (onlyRegFile_wrI s _ _ _).trans ((onlyRegFile_wrI _ _ _ _).trans (onlyRegFile_wrI _ _ _ _))

theorem State.word_seqStart (c : Nat) {k : Nat} (h1 : k ≠ CHN_CTX_SEQ.TX_NEXT.off + CHN_CTX_SEQ.TX_NEXT.stride * c)
    (h2 : k ≠ CHN_CTX_ACKED.TX_ACKED.off + CHN_CTX_ACKED.TX_ACKED.stride * c) : (s.seqStart c).word k = s.word k := by
  rw [State.seqStart, State.word_wrI, if_neg h2, State.word_wrI, if_neg (fun he => h1 he), State.word_wrI, if_neg h1]

theorem State.rdI_seqStart_ctl (c : Nat) {f : Field} (ho : f.off = CHN_CTX_CTL.word.off) (hs : f.stride = 32) :
    (s.seqStart c).rdI f c = s.rdI f c :=
  State.rdI_congr f c (s.word_seqStart c (by simp only [ho, hs]; omega) (by simp only [ho, hs]; omega))

theorem State.seqStart_fields (c : Nat) : (s.seqStart c).rdI CHN_CTX_SEQ.TX_NEXT c = 0 ∧ (s.seqStart c).rdI CHN_CTX_SEQ.RX_EXPECT c = 0
    ∧ (s.seqStart c).rdI CHN_CTX_ACKED.TX_ACKED c = 0xFFFF := by
  unfold State.seqStart
  refine ⟨?_, ?_, State.rdI_wrI_same _ _ _ _ (by decide)⟩
  · rw [State.rdI_wrI_other _ _ _ _ _ _ (by simp only; omega), State.rdI_wrI_field _ _ _ _ _ _ (by decide),
      State.rdI_wrI_same _ _ _ _ (by decide)]
    rfl
  · rw [State.rdI_wrI_other _ _ _ _ _ _ (by simp only; omega), State.rdI_wrI_same _ _ _ _ (by decide)]
    rfl

theorem ChnTaken.seqStart {s u : State} {c : Nat} {w : Word} (hc : c < 16) (h : ChnTaken s u c w) : ChnTaken s (u.seqStart c) c w :=
  h.afterRegs (onlyRegFile_seqStart u c)
    (fun f hf => by
      simp only [List.mem_cons, List.not_mem_nil, or_false] at hf
      refine u.rdI_seqStart_ctl c ?_ ?_ <;> rcases hf with rfl | rfl | rfl | rfl | rfl <;> rfl)
    (fun k _ h2 h3 => u.word_seqStart c h2 (fun he => h3 (he ▸ unacked_mem_chnShown (List.mem_range.mpr hc))))

theorem ChnTaken.nackForgot {s u : State} {c : Nat} {w : Word} (h : ChnTaken s u c w) : ChnTaken s (u.nackForgot c) c w := by
  refine ⟨h.stk, h.coh, h.valid, h.shows, h.tokens, h.held, fun hn => ?_, h.words⟩
  have hf := h.frame hn
  unfold State.nackForgot
  generalize u.regs = R, u.chn.nacked = N at hf
  rw [hf]

theorem ChnTaken.showChn {s u : State} {c : Nat} {w : Word} (hc : c < 16) (h : ChnTaken s u c w) : ChnTaken s u.showChn c w :=
  h.afterRegs (onlyRegFile_showChn u)
    (fun f hf => by
      simp only [List.mem_cons, List.not_mem_nil, or_false] at hf
      refine State.rdI_congr f c ?_
      rcases hf with rfl | rfl | rfl | rfl | rfl <;> exact u.word_showChn (ctl_not_shown hc))
    (fun k _ _ h3 => u.word_showChn h3)

theorem chnTaken_committed {c : Nat} (hc : c < 16) {w : Word} (hv : w.getLsbD 31 = true) : ChnTaken s (s.chnCommitted c w) c w :=
  ((chnTaken_entered s hv).seqStart hc).nackForgot

theorem State.chnCommitted_fields (c : Nat) (w : Word) : (s.chnCommitted c w).chnFaulty c = false
    ∧ (s.chnCommitted c w).rdI CHN_CTX_SEQ.TX_NEXT c = 0 ∧ (s.chnCommitted c w).rdI CHN_CTX_SEQ.RX_EXPECT c = 0
    ∧ (s.chnCommitted c w).rdI CHN_CTX_ACKED.TX_ACKED c = 0xFFFF := by
  have hfault : ((s.chnEntered c w).seqStart c).chnFaulty c = false := by
    rw [State.chnFaulty, State.flagI, State.rdI_seqStart_ctl _ (f := CHN_CTX_CTL.FAULT) c rfl rfl, State.chnEntered]
    exact State.chnFaulty_setChnFault _ c false
  obtain ⟨h1, h2, h3⟩ := (s.chnEntered c w).seqStart_fields c
  rw [State.chnCommitted, State.chnFaulty, State.flagI, State.rdI_nackForgot, State.rdI_nackForgot, State.rdI_nackForgot,
    State.rdI_nackForgot]
  exact ⟨hfault, h1, h2, h3⟩

/-- The write of CHN_CTX_CTL, settled. -/
theorem ChnTaken.onlyRegs_ok {s u : State} {c : Nat} {w : Word} (h : ChnTaken s.begin u c w) (hn : s.chnOk c = false) (hc : c < 16)
    (src : MgSrc) : (u.ok src).settle.out = [answerOut src stOk rsnNone 0]
      ∧ OnlyRegs { s with chn := { s.chn with nacked := u.chn.nacked } } (u.ok src).settle := by
  have hf := h.frame (by rw [s.begin_chnOk hc]; exact hn)
  rw [State.ok, State.answer_eq]
  generalize u.regs = R, u.chn.nacked = N at hf
  subst hf
  refine ⟨by simp, ?_⟩
  apply onlyRegs_settle <;> simp

theorem State.begin_chnWriteRefusal {c : Nat} (hc : c < 16) (w : Word) : s.begin.chnWriteRefusal c w = s.chnWriteRefusal c w := by
  simp only [State.chnWriteRefusal, s.begin_chnOk hc, s.begin_chnSame hc, s.begin_chnRefusal hc]

theorem exec_chnCtl {s : State} {i : Instr} {c : BitVec 4} {m : MgWrite} (hi : i = .chainCommit c m ∨ i = .chainRemove c m)
    (h : Admits s (CHN_CTX_CTL.word.off + 32 * c.toNat) m.src) : exec i s = .next (s.begin.writeChnCtl c.toNat m).settle := by
  rcases hi with rfl | rfl <;> exact settled_mgWrite h _ _

theorem chnCtl_spec (s : State) (i : Instr) (c : BitVec 4) (m : MgWrite) (hi : i = .chainCommit c m ∨ i = .chainRemove c m) :
    let k := c.toNat
    let v := m.word.getLsbD 31
    let pos := fieldGet CHN_CTX_CTL.POS m.word
    let len := fieldGet CHN_CTX_CTL.LEN m.word
    let rsn := if s.chnOk k && !(s.chnSame k m.word) then rsnField else if v then s.chnRefusal k m.word else 0
    Admits s (CHN_CTX_CTL.word.off + 32 * k) m.src →
    ∃ t, exec i s = .next t ∧ (rsn ≠ 0 → t.out = [answerOut m.src stRefused rsn 0] ∧ OnlyRegs s t ∧ RegsBut [] s t)
      ∧ (rsn = 0 → answerOut m.src stOk rsnNone 0 ∈ t.out)
      ∧ (rsn = 0 → t.chnOk k = v ∧ t.rdI CHN_CTX_CTL.CHAIN k = fieldGet CHN_CTX_CTL.CHAIN m.word ∧ t.rdI CHN_CTX_CTL.POS k = pos ∧ t.rdI
        CHN_CTX_CTL.LEN k = len ∧ t.rdI CHN_CTX_CTL.ROLE k = (if pos = 0 then 0 else if pos + 1 = len then 2 else 1))
      ∧ (rsn = 0 → v = true → t.chnFaulty k = false ∧ t.rdI CHN_CTX_SEQ.TX_NEXT k = 0 ∧ t.rdI CHN_CTX_SEQ.RX_EXPECT k = 0 ∧ t.rdI
        CHN_CTX_ACKED.TX_ACKED k = 0xFFFF)
      ∧ (rsn = 0 → s.chnOk k = true → t.chn.tokens.all (fun x => x.ctx != k) = true ∧ t.ldg.held.all (fun x => x.ctx != k) = true)
      ∧ (rsn = 0 → s.chnOk k = false → t.out = [answerOut m.src stOk rsnNone 0] ∧ OnlyRegs
        { s with chn := { s.chn with nacked := t.chn.nacked } } t ∧ RegsBut ([CHN_CTX_CTL.word.off + 32 * k, CHN_CTX_SEQ.TX_NEXT.off +
        CHN_CTX_SEQ.TX_NEXT.stride * k, CHN_STATUS.word.off] ++ (List.range 16).map (fun x => CHN_CTX_ACKED.UNACKED.off +
        CHN_CTX_ACKED.UNACKED.stride * x)) s t)
      ∧ t.stk = s.stk
      ∧ t.coh = s.coh := by
  intro k v pos len rsn hgate
  have hk : k < 16 := c.isLt
  have hrsn : s.begin.chnWriteRefusal k m.word = rsn := s.begin_chnWriteRefusal hk m.word
  by_cases h0 : rsn = 0
  · obtain ⟨u, hu, hform, hseq⟩ : ∃ u : State, ChnTaken s.begin u k m.word ∧ s.begin.writeChnCtl k m = u.showChn.ok m.src
        ∧ (v = true → u.chnFaulty k = false ∧ u.rdI CHN_CTX_SEQ.TX_NEXT k = 0 ∧ u.rdI CHN_CTX_SEQ.RX_EXPECT k = 0
          ∧ u.rdI CHN_CTX_ACKED.TX_ACKED k = 0xFFFF) := by
      refine ⟨_, ?_, s.begin.writeChnCtl_taken (hrsn.trans h0), fun hv => ?_⟩
      · split
        · exact chnTaken_committed _ hk ‹_›
        · exact chnTaken_removed _ (Bool.eq_false_iff.mpr ‹_›)
      · rw [if_pos hv]
        exact s.begin.chnCommitted_fields k m.word
    have ht := hu.showChn hk
    obtain ⟨hchain, hpos, hlen, hrole⟩ := ht.shows
    have hok : s.begin.chnOk k = s.chnOk k := s.begin_chnOk hk
    refine ⟨(u.showChn.ok m.src).settle, (exec_chnCtl hi hgate).trans (by rw [hform]), fun h => absurd h0 h, fun _ => ?_,
      fun _ => ⟨?_, ?_, ?_, ?_, ?_⟩, fun _ hv => ?_, fun _ hv => ?_, fun _ hv => ⟨?_, ?_, fun j hj hp => ?_⟩, ?_, ?_⟩
    · rw [State.settle_out, State.ok, State.answer_eq]
      exact List.mem_append_right _ (List.mem_singleton_self _)
    · exact (State.chnOk_congr (by rw [State.rdI_settle, State.rdI_ok])).trans ht.valid
    · rw [State.rdI_settle, State.rdI_ok, hchain]
    · rw [State.rdI_settle, State.rdI_ok, hpos]
    · rw [State.rdI_settle, State.rdI_ok, hlen]
    · rw [State.rdI_settle, State.rdI_ok, hrole]
      rfl
    · obtain ⟨h1, h2, h3, h4⟩ := hseq hv
      refine ⟨?_, ?_, ?_, ?_⟩
      · rw [State.chnFaulty, State.flagI, State.rdI_settle, State.rdI_ok,
          State.rdI_congr CHN_CTX_CTL.FAULT k (u.word_showChn (ctl_not_shown hk))]
        exact h1
      · rw [State.rdI_settle, State.rdI_ok, State.rdI_congr CHN_CTX_SEQ.TX_NEXT k (u.word_showChn (seq_not_shown hk)), h2]
      · rw [State.rdI_settle, State.rdI_ok, State.rdI_congr CHN_CTX_SEQ.RX_EXPECT k (u.word_showChn (seq_not_shown hk)), h3]
      · rw [State.rdI_settle, State.rdI_ok, u.rdI_showChn_acked (f := CHN_CTX_ACKED.TX_ACKED) rfl (by decide) (by decide), h4]
    · rw [State.settle_chn, State.ok_chn, State.settle_ldg, State.ok_ldg]
      exact ⟨ht.tokens (hok.trans hv), ht.held (hok.trans hv)⟩
    · exact (ht.onlyRegs_ok hv hk m.src).1
    · rw [State.settle_chn, State.ok_chn]
      exact (ht.onlyRegs_ok hv hk m.src).2
    · simp only [List.cons_append, List.nil_append, List.mem_cons, not_or] at hj
      obtain ⟨h1, h2, h3, h4⟩ := hj
      rw [State.word_settle, State.word_ok, ht.words (hok.trans hv) j h1 h2 (by simp only [chnShown, List.mem_cons, not_or]; exact ⟨h3, h4⟩)]
      exact s.word_begin j hp
    · rw [State.settle_stk, State.ok_stk, ht.stk, State.begin_stk]
    · rw [State.settle_coh, State.ok_coh, ht.coh, State.begin_coh]
  · have hform := s.begin.writeChnCtl_refused (c := k) (m := m) (by rw [hrsn]; exact h0)
    rw [hrsn] at hform
    refine ⟨(s.begin.refuse m.src rsn).settle, (exec_chnCtl hi hgate).trans (by rw [hform]), fun _ => ⟨by simp [State.refuse_out],
      onlyRegs_begin_answer .., regsBut_begin_answer s _ _ _ _⟩, fun h => absurd h h0, fun h => absurd h h0, fun h => absurd h h0,
      fun h => absurd h h0, fun h => absurd h h0, ?_, ?_⟩
    · rw [State.settle_stk, State.refuse_stk, State.begin_stk]
    · rw [State.settle_coh, State.refuse_coh, State.begin_coh]

end Sys2Proof.Machine
end

section
/-! SUPPORT. Messages of a chain where no injector is armed on the Wicket or the Transom: what departs, what waits (R369, R405). -/

namespace Sys2Proof.Machine

variable (s : State)

/-! ### What a departing message changes -/

/-- No injector is armed on the Wicket or the Transom. -/
def State.Quiet (s : State) : Prop := Uninjected s 5 ∧ Uninjected s 7

/-- At most the front island, the Transom, the PMU and what is sent change; the injectors stay, and nothing sent is taken back. -/
structure Departed (s u : State) : Prop where
  only : u = { s with regs := u.regs, front := u.front, tran := u.tran, pmuFrz := u.pmuFrz, out := u.out }
  words : ∀ k, pmuBlock k = false → u.word k = s.word k
  inject : u.front.inject = s.front.inject
  out : ∀ o ∈ s.out, o ∈ u.out

theorem Departed.refl (s : State) : Departed s s := ⟨rfl, fun _ _ => rfl, rfl, fun _ h => h⟩

theorem Departed.trans {s t u : State} (hst : Departed s t) (htu : Departed t u) : Departed s u := by
  refine ⟨?_, fun k hk => (htu.words k hk).trans (hst.words k hk), htu.inject.trans hst.inject, fun o ho => htu.out o (hst.out o ho)⟩
  have h1 := hst.only
  have h2 := htu.only
  rw [h2, h1]

/-- A change outside the registers. -/
theorem departed_of_regs {s u : State} (h : u = { s with front := u.front, tran := u.tran, out := u.out })
    (hi : u.front.inject = s.front.inject) (ho : ∀ o ∈ s.out, o ∈ u.out) : Departed s u := by
  generalize u.front = F, u.tran = T, u.out = O at h hi ho
  subst h
  exact ⟨rfl, fun _ _ => rfl, hi, ho⟩

theorem Departed.rdI {s u : State} (h : Departed s u) {f : Field} {i : Nat} (hp : pmuBlock (f.off + f.stride * i) = false) :
    u.rdI f i = s.rdI f i := State.rdI_congr f i (h.words _ hp)

theorem Departed.uninjected {s u : State} (h : Departed s u) {n : Nat} (hn : n < 8) (hs : Uninjected s n) : Uninjected u n := by
  obtain ⟨hen, hheld⟩ := hs
  refine ⟨?_, by rw [State.injector, h.inject]; exact hheld⟩
  rw [State.flagI] at hen ⊢
  rw [h.rdI (f := LNK_INJ_CTL.EN) (by simp only [pmuBlock, Bool.and_eq_false_imp, decide_eq_true_eq, decide_eq_false_iff_not]; omega)]
  exact hen

theorem Departed.quiet {s u : State} (h : Departed s u) (hs : s.Quiet) : u.Quiet :=
  ⟨h.uninjected (by decide) hs.1, h.uninjected (by decide) hs.2⟩

theorem departed_emit (o : Out) : Departed s (s.emit o) := departed_of_regs rfl rfl (fun _ h => List.mem_append_left _ h)

theorem departed_setLink (n : Nat) (l : Link) : Departed s (s.setLink n l) := departed_of_regs rfl rfl (fun _ h => h)

theorem departed_event (code : Nat) (lane label : Option Nat) (inc : Nat) : Departed s (s.event code lane label inc) := by
  refine ⟨?_, fun k hp => s.word_event code lane label inc k hp, by rw [State.event_front], by rw [State.event_out]; exact fun _ h => h⟩
  have h := onlyPmu_event s code lane label inc
  unfold OnlyPmu at h
  rw [h]

theorem departed_tranOut (lane : Nat) (o : Out) : Departed s (s.tranOut lane o) := by
  unfold State.tranOut
  split
  · exact departed_of_regs rfl rfl (fun _ h => h)
  · exact departed_of_regs rfl rfl (fun _ h => List.mem_append_left _ h)

/-! ### Links without an injector -/

theorem State.inject_of_uninjected {n : Nat} (h : Uninjected s n) (dir : Bool) (k : Nat) : s.inject n dir k = (.pass, s) := by
  have he : s.eligible n dir k = false := by rw [State.eligible, h.1]; rfl
  rw [State.inject, he]
  rfl

theorem State.emitLink_of_uninjected (h : Uninjected s 7) (o : Out) : s.emitLink o = match s.tranLane o with
    | none => s.emit o
    | some lane => if s.flag MIR_SEAM.TIMED_OUT then s else s.tranOut lane o := by
  unfold State.emitLink
  cases s.tranLane o with
  | none => rfl
  | some lane =>
    dsimp only
    split
    · rfl
    · have hd := (departed_tranOut s lane o).uninjected (by decide) h
      rw [s.inject_of_uninjected h]
      dsimp only
      rw [hd.2]

theorem departed_emitLink (h : Uninjected s 7) (o : Out) : Departed s (s.emitLink o) := by
  rw [s.emitLink_of_uninjected h]
  split
  · exact departed_emit ..
  · split
    · exact Departed.refl s
    · exact departed_tranOut ..

/-- A message that does not cross the seam is sent. -/
theorem State.emitLink_direct (h : Uninjected s 7) {o : Out} (hl : s.tranLane o = none) : o ∈ (s.emitLink o).out := by
  rw [s.emitLink_of_uninjected h, hl]
  exact List.mem_append_right _ (List.mem_singleton_self _)

theorem departed_transmit (h : Uninjected s 7) (n : Nat) (o : BitVec 10 → Out) : Departed s (s.transmit n o id true) := by
  unfold State.transmit
  extract_lets l q kept u
  rw [if_pos rfl]
  exact (departed_setLink ..).trans (departed_emitLink _ ((departed_setLink s n _).uninjected (by decide) h) _)

theorem State.sendOn_of_uninjected {n : Nat} (hn : n < 8) (h : Uninjected s n) (h7 : Uninjected s 7) (k c : Nat) (o : BitVec 10 → Out)
    (back : State → State) : s.sendOn n k c o back = s.transmit n o id true := by
  have hd := (departed_transmit s h7 n o).uninjected hn h
  unfold State.sendOn
  rw [s.inject_of_uninjected h]
  dsimp only
  rw [hd.2]

/-! ### Messages of a chain -/

theorem State.chainDepart_eq (hq : s.Quiet) (h : BitVec 256) (image : Option RowImage) :
    s.chainDepart h image = (s.event 0x54).transmit 5 (fun _ => .chain h image) id true := by
  have he := (departed_event s 0x54 none none 1).quiet hq
  exact State.sendOn_of_uninjected _ (by decide) he.1 he.2 _ _ _ _

theorem departed_chainDepart (hq : s.Quiet) (h : BitVec 256) (image : Option RowImage) : Departed s (s.chainDepart h image) := by
  have he := departed_event s 0x54 none none 1
  rw [s.chainDepart_eq hq]
  exact he.trans (departed_transmit _ (he.quiet hq).2 _ _)

/-- Whether a message of a chain crosses the seam depends on the slice's own coordinates. -/
theorem State.tranLane_chain_congr {s t : State} (h : t.rd SLC_ID.COORD = s.rd SLC_ID.COORD) (m : BitVec 256) (image : Option RowImage) :
    t.tranLane (.chain m image) = s.tranLane (.chain m image) := by
  have hc : ∀ coord : Nat, t.crosses coord = s.crosses coord := fun coord => by rw [State.crosses, State.crosses, h]
  exact congrArg (fun b : Bool => if b then some 1 else none) (hc _)

theorem Departed.tranLane_chain {s u : State} (hd : Departed s u) (h : BitVec 256) (image : Option RowImage) :
    u.tranLane (.chain h image) = s.tranLane (.chain h image) :=
  State.tranLane_chain_congr (hd.rdI (f := SLC_ID.COORD) (i := 0) rfl) h image

theorem State.chainDepart_direct (hq : s.Quiet) {h : BitVec 256} {image : Option RowImage} (hl : s.tranLane (.chain h image) = none) :
    Out.chain h image ∈ (s.chainDepart h image).out := by
  have he := departed_event s 0x54 none none 1
  rw [s.chainDepart_eq hq]
  unfold State.transmit
  extract_lets l q kept u
  rw [if_pos rfl]
  have hu : Departed s u := he.trans (departed_setLink ..)
  exact u.emitLink_direct (hu.quiet hq).2 ((hu.tranLane_chain h image).trans hl)

/-- Messages that leave in turn. -/
def State.departAll (s : State) (l : List (BitVec 256 × Option RowImage)) : State := l.foldl (fun s m => s.chainDepart m.1 m.2) s

theorem departed_departAll {s : State} (hq : s.Quiet) (l : List (BitVec 256 × Option RowImage)) : Departed s (s.departAll l) := by
  induction l generalizing s with
  | nil => exact Departed.refl s
  | cons m l ih =>
    have hm := departed_chainDepart s hq m.1 m.2
    exact hm.trans (ih (hm.quiet hq))

theorem State.departAll_direct {s : State} (hq : s.Quiet) {l : List (BitVec 256 × Option RowImage)} {m : BitVec 256 × Option RowImage}
    (hm : m ∈ l) (hl : s.tranLane (.chain m.1 m.2) = none) : Out.chain m.1 m.2 ∈ (s.departAll l).out := by
  induction l generalizing s with
  | nil => exact absurd hm (List.not_mem_nil)
  | cons a l ih =>
    have ha := departed_chainDepart s hq a.1 a.2
    rcases List.mem_cons.mp hm with rfl | hmem
    · exact (departed_departAll (ha.quiet hq) l).out _ (s.chainDepart_direct hq hl)
    · exact ih (ha.quiet hq) hmem ((ha.tranLane_chain _ _).trans hl)

/-! ### The credits of the Wicket -/

/-- As many waiting messages as there are credits leave the queue. -/
def Chain.drained (c : Chain) : Chain :=
  { c with credits := c.credits - min c.credits c.queue.length, queue := c.queue.drop (min c.credits c.queue.length) }

theorem State.chainDrainQ_eq : s.chainDrainQ =
    ({ s with chn := s.chn.drained }).departAll (s.chn.queue.take (min s.chn.credits s.chn.queue.length)) := rfl

/-- The chain's unit after a credit word. -/
def Chain.credited (c : Chain) (n : Nat) : Chain := { c with credits := c.credits + n }

theorem State.wicketCredit_taken {w : BitVec 8} (h : w.getLsbD 7 = true) : s.wicketCredit w =
    ({ s with chn := (s.chn.credited (w.toNat % 128)).drained }).departAll
      (s.chn.queue.take (min (s.chn.credits + w.toNat % 128) s.chn.queue.length)) := by
  rw [State.wicketCredit, if_pos h]
  rfl

theorem State.wicketCredit_ignored {w : BitVec 8} (h : w.getLsbD 7 = false) : s.wicketCredit w = s := by
  rw [State.wicketCredit, h]
  rfl

theorem State.begin_uninjected {n : Nat} (hn : n < 8) (h : Uninjected s n) : Uninjected s.begin n := by
  obtain ⟨hen, hheld⟩ := h
  rw [State.flagI] at hen
  refine ⟨?_, by rw [State.injector, State.begin_front]; exact hheld⟩
  rw [State.flagI, s.begin_rdI _ _ (by simp only [pmuBlock, Bool.and_eq_false_imp, decide_eq_true_eq, decide_eq_false_iff_not]; omega)]
  exact hen

/-- The frame of messages that depart. -/
theorem Departed.onlyRegs {s u : State} {c : Chain} (h : Departed { s.begin with chn := c } u) :
    OnlyRegs { s with chn := c, front := u.front, tran := u.tran } u.settle := by
  have hf := h.only
  generalize u.regs = R, u.front = F, u.tran = T, u.pmuFrz = Z, u.out = O at hf
  subst hf
  apply onlyRegs_settle <;> simp

theorem wicketCredit_spec (s : State) (w : BitVec 8) :
    let total := s.chn.credits + w.toNat % 128
    let n := min total s.chn.queue.length
    Uninjected s 5 →
    Uninjected s 7 →
    ∃ t, exec (.wicketCredit w) s = .next t ∧ (w.getLsbD 7 = false → t.out = [] ∧ OnlyRegs s t)
      ∧ (w.getLsbD 7 = true → t.chn = { s.chn with credits := total - n, queue := s.chn.queue.drop n })
      ∧ (w.getLsbD 7 = true → ∀ x : BitVec 256 × Option RowImage, x ∈ s.chn.queue.take n → s.tranLane (.chain x.1 x.2) = none → Out.chain
        x.1 x.2 ∈ t.out)
      ∧ OnlyRegs { s with chn := t.chn, front := t.front, tran := t.tran } t
      ∧ RegsBut [] s t := by
  intro total n h5 h7
  refine ⟨(s.begin.wicketCredit w).settle, rfl, ?_⟩
  cases hw : w.getLsbD 7
  case false =>
    rw [s.begin.wicketCredit_ignored hw]
    have honly : OnlyRegs s s.begin.settle := by apply onlyRegs_settle <;> simp
    refine ⟨fun _ => ⟨by simp, honly⟩, fun h => absurd h (by decide), fun h => absurd h (by decide), ?_, fun k _ hp => s.word_begin k hp⟩
    apply onlyRegs_settle <;> simp
  case true =>
    rw [s.begin.wicketCredit_taken hw, State.begin_chn]
    have hq : State.Quiet { s.begin with chn := (s.chn.credited (w.toNat % 128)).drained } :=
      ⟨s.begin_uninjected (by decide) h5, s.begin_uninjected (by decide) h7⟩
    have hd := departed_departAll hq (s.chn.queue.take n)
    have hchn : (({ s.begin with chn := (s.chn.credited (w.toNat % 128)).drained } : State).departAll (s.chn.queue.take n)).chn
        = (s.chn.credited (w.toNat % 128)).drained := by rw [hd.only]
    refine ⟨fun h => absurd h (by decide), fun _ => ?_, fun _ x hx hl => ?_, ?_, fun k _ hp => ?_⟩
    · exact (State.settle_chn _).trans hchn
    · refine State.departAll_direct hq hx ?_
      exact (State.tranLane_chain_congr (s.begin_rd (f := SLC_ID.COORD) rfl) _ _).trans hl
    · have h := hd.onlyRegs
      rw [State.settle_chn, hchn]
      exact h
    · exact (hd.words k hp).trans (s.word_begin k hp)

end Sys2Proof.Machine
end

section
/-! SUPPORT. The resend of a context's tokens (R209), and O45. -/

namespace Sys2Proof.Machine

variable (s : State)

/-! ### Tokens sent once more -/

/-- The chain's unit after a message that leaves or waits. -/
def Chain.sending (c : Chain) (m : BitVec 256 × Option RowImage) : Chain :=
  if c.credits = 0 || !c.queue.isEmpty then { c with queue := c.queue ++ [m] } else { c with credits := c.credits - 1 }

theorem Chain.sending_count (c : Chain) (m : BitVec 256 × Option RowImage) :
    (c.sending m).queue.length + c.credits = c.queue.length + (c.sending m).credits + 1 := by
  unfold Chain.sending
  split
  · simp only [List.length_append, List.length_singleton]
    omega
  · rename_i h
    have h0 : c.credits ≠ 0 := fun h0 => h (by rw [h0]; rfl)
    simp only
    omega

theorem Chain.sending_rest (c : Chain) (m : BitVec 256 × Option RowImage) :
    c.sending m = { c with credits := (c.sending m).credits, queue := (c.sending m).queue } := by
  unfold Chain.sending
  split <;> rfl

theorem departed_chainSend (hq : s.Quiet) (h : BitVec 256) (image : Option RowImage) :
    Departed { s with chn := s.chn.sending (withCrc h image, image) } (s.chainSend h image) := by
  unfold State.chainSend Chain.sending
  extract_lets w
  split
  · exact Departed.refl _
  · exact departed_chainDepart { s with chn := { s.chn with credits := s.chn.credits - 1 } } hq _ _

/-- A token sent once more, counted. -/
def State.resendToken (s : State) (t : Token) : State := (s.bump CHN_RETX.COUNT).chainSend t.hdr (some t.image)

/-- What `n` tokens sent once more change. -/
structure Resent (s u : State) (n : Nat) : Prop where
  only : u = { s with regs := u.regs, chn := { s.chn with credits := u.chn.credits, queue := u.chn.queue },
                      front := u.front, tran := u.tran, pmuFrz := u.pmuFrz, out := u.out }
  counts : u.chn.queue.length + s.chn.credits = s.chn.queue.length + u.chn.credits + n
  retx : u.rd CHN_RETX.COUNT = min (s.rd CHN_RETX.COUNT + n) (2 ^ CHN_RETX.COUNT.w - 1)
  words : ∀ k, k ≠ CHN_RETX.COUNT.off → pmuBlock k = false → u.word k = s.word k
  quiet : u.Quiet

theorem resent_none {s : State} (hq : s.Quiet) : Resent s s 0 := by
  have hlt : s.rd CHN_RETX.COUNT < 2 ^ CHN_RETX.COUNT.w := s.rdI_lt _ 0
  exact ⟨rfl, rfl, by omega, fun _ _ _ => rfl, hq⟩

theorem Resent.trans {s t u : State} {m n : Nat} (hst : Resent s t m) (htu : Resent t u n) : Resent s u (m + n) := by
  refine ⟨?_, ?_, ?_, fun k hk hp => (htu.words k hk hp).trans (hst.words k hk hp), htu.quiet⟩
  · have h1 := hst.only
    have h2 := htu.only
    rw [h2, h1]
  · have h1 := hst.counts
    have h2 := htu.counts
    omega
  · rw [htu.retx, hst.retx]
    omega

theorem State.uninjected_wr {n : Nat} (f : Field) (v : Nat) (h : f.off < 0x28000) (hl : 0x28000 ≤ LNK_INJ_CTL.EN.off) (hu : Uninjected s n) :
    Uninjected (s.wr f v) n := by
  obtain ⟨hen, hheld⟩ := hu
  refine ⟨?_, hheld⟩
  rw [State.flagI] at hen ⊢
  rw [State.wr, State.rdI_wrI_other _ _ _ _ _ _ (by omega)]
  exact hen

theorem resent_resendToken {s : State} (hq : s.Quiet) (t : Token) : Resent s (s.resendToken t) 1 := by
  have hb : (s.bump CHN_RETX.COUNT).Quiet :=
    ⟨s.uninjected_wr _ _ (by decide) (by decide) hq.1, s.uninjected_wr _ _ (by decide) (by decide) hq.2⟩
  have hd := departed_chainSend (s.bump CHN_RETX.COUNT) hb t.hdr (some t.image)
  have hchn : (s.resendToken t).chn = s.chn.sending (withCrc t.hdr (some t.image), some t.image) := by
    rw [State.resendToken, hd.only]
    rfl
  have hbump : ∀ k, k ≠ CHN_RETX.COUNT.off → (s.bump CHN_RETX.COUNT).word k = s.word k := fun k hk => by
    rw [State.word_bump, if_neg hk]
  have hretx := s.rd_bump_same CHN_RETX.COUNT 1 (by decide)
  refine ⟨?_, ?_, ?_, fun k hk hp => ?_, ?_⟩
  · have h := hd.only
    rw [hchn, ← s.chn.sending_rest, State.resendToken]
    generalize State.chainSend _ _ _ = u at h ⊢
    generalize u.regs = R, u.front = F, u.tran = T, u.pmuFrz = Z, u.out = O at h
    rw [h]
    rfl
  · rw [hchn]
    exact s.chn.sending_count _
  · have h : (s.resendToken t).rd CHN_RETX.COUNT = (s.bump CHN_RETX.COUNT).rd CHN_RETX.COUNT := hd.rdI (f := CHN_RETX.COUNT) (i := 0) rfl
    exact h.trans hretx
  · exact (hd.words k hp).trans (hbump k hk)
  · exact hd.quiet hb

theorem resent_foldl (l : List Token) {s : State} (hq : s.Quiet) : Resent s (l.foldl State.resendToken s) l.length := by
  induction l generalizing s with
  | nil => exact resent_none hq
  | cons t l ih =>
    have h1 := resent_resendToken hq t
    have h := h1.trans (ih h1.quiet)
    rw [Nat.add_comm] at h
    exact h

/-! ### The resend from a token on -/

/-- The tokens of a context from a sequence number on. -/
def State.fromSeq (s : State) (c : Nat) (q : BitVec 16) (t : Token) : Bool :=
  t.ctx = c && decide (s.afterAcked c q ≤ s.afterAcked c t.seq)

/-- The tokens counted as sent once more. -/
def State.tokensCounted (s : State) (c : Nat) (q : BitVec 16) : State :=
  { s with chn := { s.chn with tokens := s.chn.tokens.map (fun t => if s.fromSeq c q t then { t with resent := t.resent + 1 } else t) } }

theorem State.resendFrom_eq (c : Nat) (q : BitVec 16) : s.resendFrom c q =
    match (s.chn.tokens.filter (s.fromSeq c q)).find? (fun t => decide (max 1 (s.rd CHN_CTL.RETRY_MAX) ≤ t.resent)) with
    | some t => s.chainFault c t.seq.toNat
    | none => (s.chn.tokens.filter (s.fromSeq c q)).foldl State.resendToken (s.tokensCounted c q) := rfl

/-- Some token of those has been sent as often as permitted. -/
def State.spentFrom (s : State) (c : Nat) (q : BitVec 16) : Bool :=
  s.chn.tokens.any (fun x => s.fromSeq c q x && decide (max 1 (s.rd CHN_CTL.RETRY_MAX) ≤ x.resent))

theorem State.resendFrom_spent {c : Nat} {q : BitVec 16} (h : s.spentFrom c q = true) : ∃ n, s.resendFrom c q = s.chainFault c n := by
  obtain ⟨x, hx, hp⟩ := List.any_eq_true.mp h
  rw [Bool.and_eq_true] at hp
  rw [State.resendFrom_eq]
  split
  · exact ⟨_, rfl⟩
  · rename_i hn
    exact absurd hp.2 (List.find?_eq_none.mp hn x (List.mem_filter.mpr ⟨hx, hp.1⟩))

theorem State.resendFrom_more {c : Nat} {q : BitVec 16} (h : s.spentFrom c q = false) :
    s.resendFrom c q = (s.chn.tokens.filter (s.fromSeq c q)).foldl State.resendToken (s.tokensCounted c q) := by
  rw [State.resendFrom_eq]
  split
  · rename_i t ht
    have hm := List.mem_filter.mp (List.mem_of_find?_eq_some ht)
    have hp := List.find?_some ht
    refine absurd ?_ (Bool.eq_false_iff.mp h)
    exact List.any_eq_true.mpr ⟨t, hm.1, by rw [hm.2, hp]; rfl⟩
  · rfl

/-! ### A failed context -/

theorem chainKeeps_chainEntry (code sev c chain low : Nat) (irq : Bool) : ChainKeeps s (s.chainEntry code sev c chain low irq) :=
  chainKeeps_fault s (by decide) ..

/-- A context put into FAULT. -/
structure ChainFailed (s u : State) (c : Nat) : Prop where
  stk : u.stk = s.stk
  coh : u.coh = s.coh
  faulty : u.chnFaulty c = true
  resend : tfind s.chn.resend c = none → tfind u.chn.resend c = none

theorem chainFailed_chainFault {c : Nat} (hc : c < 16) (low : Nat) : ChainFailed s (s.chainFault c low) c := by
  unfold State.chainFault
  split
  · exact ⟨rfl, rfl, ‹_›, fun h => h⟩
  · have he := chainKeeps_chainEntry s 1 2 c (s.rdI CHN_CTX_CTL.CHAIN c) low true
    generalize s.chainEntry 1 2 c (s.rdI CHN_CTX_CTL.CHAIN c) low true = u at he ⊢
    have hf : (u.setChnFault c true).stk = u.stk ∧ (u.setChnFault c true).coh = u.coh := ⟨rfl, rfl⟩
    have hd := chainDropped_chainDrop (u.setChnFault c true) c
    refine ⟨hd.stk.trans (hf.1.trans he.stk), hd.coh.trans (hf.2.trans he.coh), ?_, fun _ => by rw [hd.resend]; exact tfind_tdel_same _ _⟩
    have hbit := u.chnFaulty_setChnFault c true
    rw [State.chnFaulty, State.flagI] at hbit ⊢
    rw [State.rdI_congr CHN_CTX_CTL.FAULT c (hd.ctl c hc)]
    exact hbit

/-! ### The two commands -/

/-- The state from which a resend begins, and its first sequence number. -/
theorem resend_spec {s u : State} {c : Nat} (hc : c < 16) {q : BitVec 16}
    {o : Option (BitVec 16)} (ho : o = some q) (hu : u = { s.begin with chn := { s.begin.chn with resend := u.chn.resend } })
    (h5 : Uninjected s 5) (h7 : Uninjected s 7) :
    let mine := fun x : Token => x.ctx = c ∧ s.afterAcked c (o.getD 0) ≤ s.afterAcked c x.seq
    let spent := s.chn.tokens.any (fun x => decide (mine x) && decide (max 1 (s.rd CHN_CTL.RETRY_MAX) ≤ x.resent))
    let t := (u.resendFrom c q).settle
    (spent = true → t.chnFaulty c = true)
      ∧ (spent = false → t.chn.tokens = s.chn.tokens.map (fun x => if mine x then { x with resent := x.resent + 1 } else x))
      ∧ (spent = false → t.chn.queue.length + s.chn.credits = s.chn.queue.length + t.chn.credits + (s.chn.tokens.filter
        (fun x => decide (mine x))).length)
      ∧ (spent = false → t.rd CHN_RETX.COUNT = min (s.rd CHN_RETX.COUNT + (s.chn.tokens.filter (fun x => decide (mine
        x))).length) (2 ^ CHN_RETX.COUNT.w - 1))
      ∧ (spent = false → t.ldg = s.ldg ∧ RegsBut [CHN_RETX.COUNT.off] s t)
      ∧ (tfind u.chn.resend c = none → tfind t.chn.resend c = none)
      ∧ t.stk = s.stk
      ∧ t.coh = s.coh := by
  subst ho
  intro mine spent t
  have hword : ∀ k, pmuBlock k = false → u.word k = s.word k := fun k hp => by
    rw [hu]
    exact s.word_begin k hp
  have hrd : ∀ f : Field, pmuBlock f.off = false → u.rd f = s.rd f := fun f hp => State.rdI_congr f 0 (hword _ (by simpa using hp))
  have hchn : u.chn = { s.chn with resend := u.chn.resend } := by rw [hu, State.begin_chn]
  have htok : u.chn.tokens = s.chn.tokens := by rw [hchn]
  have hfrom : u.fromSeq c q = fun x => decide (mine x) := by
    have hack : u.rdI CHN_CTX_ACKED.TX_ACKED c = s.rdI CHN_CTX_ACKED.TX_ACKED c := State.rdI_congr _ _
      (hword _ (by simp only [pmuBlock, Bool.and_eq_false_imp, decide_eq_true_eq, decide_eq_false_iff_not]; omega))
    have hafter : ∀ x, u.afterAcked c x = s.afterAcked c x := fun x => by rw [State.afterAcked, State.afterAcked, hack]
    funext x
    rw [State.fromSeq, hafter, hafter, ← Bool.decide_and]
    rfl
  have hspent : u.spentFrom c q = spent := by
    unfold State.spentFrom
    rw [htok, hfrom, hrd CHN_CTL.RETRY_MAX rfl]
  have hquiet : u.Quiet := by
    have h : s.begin.Quiet := ⟨s.begin_uninjected (by decide) h5, s.begin_uninjected (by decide) h7⟩
    generalize u.chn.resend = r at hu
    subst hu
    exact h
  have hstk : u.stk = s.stk := by rw [hu]; exact s.begin_stk
  have hcoh : u.coh = s.coh := by rw [hu]; exact s.begin_coh
  have hldg : u.ldg = s.ldg := by rw [hu]; exact s.begin_ldg
  cases hsp : spent
  case true =>
    obtain ⟨n, hform⟩ := u.resendFrom_spent (hspent.trans hsp)
    have hf := chainFailed_chainFault u hc n
    simp only [t, hform]
    exact ⟨fun _ => hf.faulty, fun h => absurd h (by decide), fun h => absurd h (by decide), fun h => absurd h (by decide),
      fun h => absurd h (by decide), hf.resend, hf.stk.trans hstk, hf.coh.trans hcoh⟩
  case false =>
    have hform := u.resendFrom_more (hspent.trans hsp)
    rw [htok, hfrom] at hform
    have hr := resent_foldl (s.chn.tokens.filter (fun x => decide (mine x))) (s := u.tokensCounted c q) hquiet
    rw [← hform] at hr
    have honly := hr.only
    refine ⟨fun h => absurd h (by decide), fun _ => ?_, fun _ => ?_, fun _ => ?_, fun _ => ⟨?_, fun k hk hp => ?_⟩, fun h => ?_, ?_, ?_⟩
    · have : (u.resendFrom c q).chn.tokens = (u.tokensCounted c q).chn.tokens := by rw [honly]
      rw [State.settle_chn, this, State.tokensCounted, htok, hfrom]
      simp only [decide_eq_true_eq]
    · have h := hr.counts
      have hcr : (u.tokensCounted c q).chn.credits = s.chn.credits := by
        change u.chn.credits = _
        rw [hchn]
      have hqu : (u.tokensCounted c q).chn.queue = s.chn.queue := by
        change u.chn.queue = _
        rw [hchn]
      rw [hcr, hqu] at h
      exact h
    · rw [State.rd_settle, hr.retx, ← hrd CHN_RETX.COUNT rfl]
      rfl
    · rw [State.settle_ldg, honly]
      exact hldg
    · rw [State.word_settle, hr.words k (by simpa using hk) hp]
      exact hword k hp
    · have : (u.resendFrom c q).chn.resend = u.chn.resend := by rw [honly]; rfl
      rw [State.settle_chn, this]
      exact h
    · rw [State.settle_stk, honly]
      exact hstk
    · rw [State.settle_coh, honly]
      exact hcoh

theorem resendCommand_spec (s : State) (i : Instr) (c : BitVec 4) (hi : i = .tnackResend c ∨ i = .tokenRetransmitTimeout c) :
    let k := c.toNat
    let q := if i = .tnackResend c then tfind s.chn.resend k else (s.chn.tokens.find? (fun x => x.ctx = k)).map (fun x => x.seq)
    let mine := fun x : Token => x.ctx = k ∧ s.afterAcked k (q.getD 0) ≤ s.afterAcked k x.seq
    let spent := s.chn.tokens.any (fun x => decide (mine x) && decide (max 1 (s.rd CHN_CTL.RETRY_MAX) ≤ x.resent))
    Uninjected s 5 →
    Uninjected s 7 →
    ∃ t, exec i s = .next t ∧ (q = none → t.out = [] ∧ OnlyRegs s t ∧ RegsBut [] s t)
      ∧ (i = .tnackResend c → tfind t.chn.resend k = none)
      ∧ (q.isSome = true → spent = true → t.chnFaulty k = true)
      ∧ (q.isSome = true → spent = false → t.chn.tokens = s.chn.tokens.map (fun x => if mine x then { x with resent := x.resent + 1 }
        else x))
      ∧ (q.isSome = true → spent = false → t.chn.queue.length + s.chn.credits = s.chn.queue.length + t.chn.credits + (s.chn.tokens.filter
        (fun x => decide (mine x))).length)
      ∧ (q.isSome = true → spent = false → t.rd CHN_RETX.COUNT = min (s.rd CHN_RETX.COUNT + (s.chn.tokens.filter (fun x => decide (mine
        x))).length) (2 ^ CHN_RETX.COUNT.w - 1))
      ∧ (q.isSome = true → spent = false → t.ldg = s.ldg ∧ RegsBut [CHN_RETX.COUNT.off] s t)
      ∧ t.stk = s.stk
      ∧ t.coh = s.coh := by
  intro k q mine spent h5 h7
  have hexec : ∃ r : Tab (BitVec 16), (i = .tnackResend c → r = tdel s.chn.resend k) ∧
      exec i s = .next ((match q with
        | some x => ({ s.begin with chn := { s.begin.chn with resend := r } } : State).resendFrom k x
        | none => s.begin) : State).settle := by
    rcases hi with rfl | rfl
    · refine ⟨tdel s.chn.resend k, fun _ => rfl, ?_⟩
      have hq : q = tfind s.chn.resend k := if_pos rfl
      rw [hq]
      change settled (s.begin.tnackResend k) = _
      rw [State.tnackResend, State.begin_chn]
      cases tfind s.chn.resend k <;> rfl
    · refine ⟨s.begin.chn.resend, fun h => absurd h (by simp), ?_⟩
      have hq : q = (s.chn.tokens.find? (fun x => x.ctx = k)).map (fun x => x.seq) := if_neg (by simp)
      rw [hq]
      change settled (s.begin.tokenTimeout k) = _
      have htok : s.begin.chn.tokens = s.chn.tokens := by rw [State.begin_chn]
      rw [State.tokenTimeout, htok]
      cases s.chn.tokens.find? (fun x => x.ctx = k) with
      | none => rfl
      | some x => rfl
  obtain ⟨r, hr, hexec⟩ := hexec
  rcases Option.eq_none_or_eq_some q with hqv | ⟨x, hqv⟩
  · have hsome : q.isSome ≠ true := by rw [hqv]; decide
    rw [hqv] at hexec
    refine ⟨_, hexec, fun _ => ⟨by simp, by apply onlyRegs_settle <;> simp, fun j _ hp => s.word_begin j hp⟩, fun h => ?_,
      fun h => absurd h hsome, fun h => absurd h hsome, fun h => absurd h hsome, fun h => absurd h hsome,
      fun h => absurd h hsome, by simp, by simp⟩
    have : q = tfind s.chn.resend k := if_pos h
    rw [State.settle_chn, State.begin_chn, ← this, hqv]
  · have hnone : q ≠ none := by rw [hqv]; simp
    rw [hqv] at hexec
    obtain ⟨h1, h2, h3, h4, h6, h8, h9, h10⟩ := resend_spec (s := s) (u := { s.begin with chn := { s.begin.chn with resend := r } })
      (c := k) c.isLt hqv rfl h5 h7
    refine ⟨_, hexec, fun h => absurd h hnone, fun h => h8 ?_, fun _ => h1, fun _ => h2, fun _ => h3, fun _ => h4, fun _ => h6, h9, h10⟩
    have : (tfind r k) = none := by
      rw [hr h]
      exact tfind_tdel_same _ _
    exact this

/-- Settles O45: the writes of CHN_CTX_CTL, the two resends, and the credits of the Wicket. -/
theorem chainContexts : Obligations.ChainContexts :=
  ⟨chnCtl_spec, resendCommand_spec, wicketCredit_spec⟩

end Sys2Proof.Machine
end

section
/-! SUPPORT. What begins a command leaves of the carrels and the roles of the ways, and what evicting a way changes (R67, R76). -/

namespace Sys2Proof.Machine

variable (s : State)

/-! ### Listed registers -/

theorem filterMap_tset {α β : Type} {g : Nat × α → Option β} {k : Nat} (h : ∀ v, g (k, v) = none) (t : Tab α) (v : α) :
    (tset t k v).filterMap g = t.filterMap g := by
  induction t with
  | nil => rw [tset, List.filterMap_cons, h]
  | cons e r ih =>
    obtain ⟨j, w⟩ := e
    rw [tset]
    split
    · rw [List.filterMap_cons, h]
    · split
      · rename_i hj
        subst hj
        rw [List.filterMap_cons, List.filterMap_cons, h, h]
      · rw [List.filterMap_cons, List.filterMap_cons, ih]

theorem filterMap_tdel {α β : Type} {g : Nat × α → Option β} {k : Nat} (h : ∀ v, g (k, v) = none) (t : Tab α) :
    (tdel t k).filterMap g = t.filterMap g := by
  induction t with
  | nil => rfl
  | cons e r ih =>
    obtain ⟨j, w⟩ := e
    rw [tdel]
    split
    · rename_i hj
      subst hj
      rw [List.filterMap_cons, h, ih]
    · rw [List.filterMap_cons, List.filterMap_cons, ih]

/-- A word elsewhere does not change which registers of an array are listed. -/
theorem State.listed_setWord {f : Field} {n off : Nat} (h : off < f.off ∨ f.off + f.stride * n ≤ off) (v : Word) :
    (s.setWord off v).listed f n = s.listed f n := by
  have hnone : ∀ v : Word, (fun e : Nat × Word => if f.off ≤ e.1 && e.1 < f.off + f.stride * n && (e.1 - f.off) % f.stride = 0
      then some ((e.1 - f.off) / f.stride) else none) (off, v) = none := fun v => if_neg (by simp; omega)
  unfold State.listed State.setWord
  change (tput _ s.regs off v).filterMap _ = _
  unfold tput
  split
  · exact filterMap_tdel hnone _
  · exact filterMap_tset hnone _ _

theorem State.begin_listed {f : Field} {n : Nat} (h : PMU_GCTL.FREEZE.off < f.off ∨ f.off + f.stride * n ≤ PMU_GCTL.FREEZE.off) :
    s.begin.listed f n = s.listed f n := by
  unfold State.begin
  extract_lets _ u
  split
  · exact State.listed_setWord _ (by simpa using h) _
  · rfl

theorem State.lt_of_listed {f : Field} {n k : Nat} (hs : 0 < f.stride) (h : k ∈ s.listed f n) : k < n := by
  unfold State.listed at h
  obtain ⟨e, _, he⟩ := List.mem_filterMap.mp h
  split at he
  · rename_i hc
    simp only [Bool.and_eq_true, decide_eq_true_eq] at hc
    obtain ⟨⟨h1, h2⟩, _⟩ := hc
    rw [Option.some_inj] at he
    rw [← he, Nat.div_lt_iff_lt_mul hs, Nat.mul_comm]
    omega
  · exact absurd he (by simp)

/-! ### Carrels and roles -/

theorem State.lt_of_carrels {c : Nat} (h : c ∈ s.carrels) : c < 64 := s.lt_of_listed (by decide) (List.mem_filter.mp h).1

theorem State.begin_carrelField {f : Field} (hf : f.off < 0x7000) (hs : f.stride = 16) {c : Nat} (hc : c < 64) :
    s.begin.rdI f c = s.rdI f c :=
  s.begin_rdI f c (by simp only [pmuBlock, hs, Bool.and_eq_false_imp, decide_eq_true_eq, decide_eq_false_iff_not]; omega)

theorem State.begin_carrels : s.begin.carrels = s.carrels := by
  unfold State.carrels
  rw [s.begin_listed (by decide)]
  refine List.filter_congr (fun c hc => ?_)
  rw [State.flagI, State.flagI, s.begin_carrelField (by decide) rfl (s.lt_of_listed (by decide) hc)]

/-- A way is among a carrel's. -/
def State.inRange (s : State) (w c : Nat) : Bool :=
  decide (s.rdI ALT_CRL_CTL.FIRST c ≤ w) && decide (w < s.rdI ALT_CRL_CTL.FIRST c + s.rdI ALT_CRL_CTL.CUR c)

theorem State.begin_inRange (w : Nat) {c : Nat} (hc : c ∈ s.carrels) : s.begin.inRange w c = s.inRange w c := by
  have h := s.lt_of_carrels hc
  rw [State.inRange, State.inRange, s.begin_carrelField (by decide) rfl h, s.begin_carrelField (by decide) rfl h]

theorem State.begin_pinMask : s.begin.pinMask = s.pinMask := by
  have hany : ∀ w, s.begin.carrels.any (s.begin.inRange w) = s.carrels.any (s.inRange w) := fun w => by
    rw [s.begin_carrels]
    exact any_congr_mem (fun c hc => s.begin_inRange w hc)
  have hw : s.begin.ways = s.ways := by rw [State.ways, State.ways, State.begin_s64]
  change (List.range s.begin.ways).foldl (fun m w => if s.begin.carrels.any (s.begin.inRange w) then m + 2 ^ w else m) 0 = _
  rw [hw]
  simp only [hany]
  rfl

theorem State.begin_cacheWaysLeft : s.begin.cacheWaysLeft = s.cacheWaysLeft := by
  simp only [State.cacheWaysLeft, s.begin_pinMask, State.ways, State.begin_s64, State.begin_stk]

theorem State.begin_cacheWay (set way : Nat) : s.begin.cacheWay set way = s.cacheWay set way := by
  have hroles : s.begin.roles set way = s.roles set way := by
    unfold State.roles
    extract_lets w w'
    have hw : w = w' := by
      change s.begin.roleWay set way = s.roleWay set way
      rw [State.roleWay, State.roleWay, State.begin_stk]
    rw [s.begin_stk, s.begin_carrels, hw]
    split
    · rfl
    · exact List.filter_congr (fun c hc => s.begin_inRange w' hc)
  rw [State.cacheWay, State.cacheWay, hroles]

/-! ### What an eviction leaves -/

/-- The tags, the replaced ways, the remap table, the walk, the Catalogue and the Ledger stay. -/
structure KeepsTags (s u : State) : Prop where
  tags : u.stk.tags = s.stk.tags
  remap : u.stk.remap = s.stk.remap
  walk : u.stk.walk = s.stk.walk
  cat : u.coh.cat = s.coh.cat
  ldg : u.ldg = s.ldg

theorem KeepsTags.refl (s : State) : KeepsTags s s := ⟨rfl, rfl, rfl, rfl, rfl⟩

theorem KeepsTags.trans {s t u : State} (hst : KeepsTags s t) (htu : KeepsTags t u) : KeepsTags s u :=
  ⟨htu.tags.trans hst.tags, htu.remap.trans hst.remap, htu.walk.trans hst.walk, htu.cat.trans hst.cat, htu.ldg.trans hst.ldg⟩

theorem KeepsTags.foldl {α : Type} {g : State → α → State} (h : ∀ u a, KeepsTags u (g u a)) (l : List α) (s : State) :
    KeepsTags s (l.foldl g s) := by
  induction l generalizing s with
  | nil => exact KeepsTags.refl s
  | cons a l ih => exact (h s a).trans (ih _)

theorem OnlyRegFile.keepsTags {s u : State} (h : OnlyRegFile s u) : KeepsTags s u := by
  unfold OnlyRegFile at h
  constructor <;> rw [h]

theorem SentMir.keepsTags {s u : State} (h : SentMir s u) : KeepsTags s u := by
  have hf := h.1
  unfold OnlyLinks at hf
  constructor <;> rw [hf]

theorem keepsTags_putLine (set way : Nat) (bit : Bool) (d : LineData) : KeepsTags s (s.putLine set way bit d) := by
  unfold State.putLine
  extract_lets b
  refine KeepsTags.foldl (fun u p => ?_) _ _
  constructor <;> rfl

theorem keepsTags_pushJob (j : BankJob) : KeepsTags s (s.pushJob j) := ⟨rfl, rfl, rfl, rfl, rfl⟩

theorem keepsTags_writeJob (set way : Nat) (line : LineAddr) (d : LineData) (win : Option (BitVec 4)) :
    KeepsTags s (s.writeJob set way line d win) := by
  unfold State.writeJob
  extract_lets bit u
  exact (keepsTags_putLine ..).trans (keepsTags_pushJob ..)

theorem keepsTags_releaseAtom (line : LineAddr) : KeepsTags s (s.releaseAtom line) := by
  unfold State.releaseAtom
  split
  · extract_lets u
    have hu : KeepsTags s u := ⟨rfl, rfl, rfl, rfl, rfl⟩
    refine hu.trans ?_
    split
    · exact keepsTags_writeJob ..
    · exact KeepsTags.refl _
  · exact KeepsTags.refl _

theorem sentMir_mirEvict (line : LineAddr) : SentMir s (s.mirEvict line) := by
  unfold State.mirEvict
  split
  · exact sentMir_mirSend ..
  · exact (Sent.refl s).sentMir

theorem sentMir_mirLine (typ : Nat) (line : LineAddr) (was : Bool) : SentMir s (s.mirLine typ line was) := by
  unfold State.mirLine
  split
  · exact sentMir_mirSend ..
  · exact (Sent.refl s).sentMir

theorem onlyRegFile_lossEntry (typ cause line run ts : Nat) : OnlyRegFile s (s.lossEntry typ cause line run ts) := by
  unfold State.lossEntry
  extract_lets n a b c d
  split
  · exact (onlyRegFile_wr s _ _).trans (onlyRegFile_wr _ _ _)
  · exact ((onlyRegFile_wrI s _ _ _).trans ((onlyRegFile_wrI _ _ _ _).trans (onlyRegFile_wrI _ _ _ _))).trans
      (OnlyRegFile.trans (t := d) rfl (onlyRegFile_wr _ _ _))

theorem onlyRegFile_lossLines (cause : Nat) (lines : List LineAddr) : OnlyRegFile s (s.lossLines cause lines) :=
  OnlyRegFile.foldl (fun u _ => onlyRegFile_lossEntry u _ _ _ _ _) _ _

theorem keepsTags_evictLine (set way : Nat) (bit : Bool) (why : FarWhy) : KeepsTags s (s.evictLine set way bit why) := by
  unfold State.evictLine
  extract_lets t line u v
  have hu : KeepsTags s u := keepsTags_releaseAtom ..
  refine hu.trans ?_
  split
  · exact KeepsTags.refl _
  · split
    · split
      · exact KeepsTags.refl _
      · exact (sentMir_mirEvict ..).keepsTags
    · split
      · exact (onlyRegFile_lossLines ..).keepsTags
      · have hv : KeepsTags u v := (sent_event u _ _ _ _).sentMir.keepsTags.trans (keepsTags_pushJob ..)
        exact hv.trans (sentMir_mirLine ..).keepsTags

/-- A way whose tag alone changes, to none: what its removal leaves. -/
structure WayEmptied (s u : State) (key : Nat) : Prop where
  tags : u.stk.tags = tput TagW.empty s.stk.tags key TagW.empty
  remap : u.stk.remap = s.stk.remap
  walk : u.stk.walk = s.stk.walk
  cat : u.coh.cat = s.coh.cat
  ldg : u.ldg = s.ldg

theorem wayEmptied_setTag (set way : Nat) : WayEmptied s (s.setTag set way TagW.empty) (set * 32 + way) := ⟨rfl, rfl, rfl, rfl, rfl⟩

theorem KeepsTags.wayEmptied {s t u : State} {key : Nat} (hst : KeepsTags s t) (htu : WayEmptied t u key) : WayEmptied s u key :=
  ⟨by rw [htu.tags, hst.tags], htu.remap.trans hst.remap, htu.walk.trans hst.walk, htu.cat.trans hst.cat, htu.ldg.trans hst.ldg⟩

theorem wayEmptied_evictWay (set way : Nat) (why : FarWhy) : WayEmptied s (s.evictWay set way why) (set * 32 + way) :=
  (keepsTags_evictLine s set way false why).wayEmptied ((keepsTags_evictLine _ set way true why).wayEmptied (wayEmptied_setTag _ set way))

/-- A way without a replacement is emptied. -/
theorem wayEmptied_removeWay (set way : Nat) (abrupt : Bool) : WayEmptied s (s.removeWay set way none abrupt) (set * 32 + way) := by
  have hform : s.removeWay set way none abrupt = if abrupt then s.setTag set way TagW.empty else s.evictWay set way .retire := by
    unfold State.removeWay
    extract_lets t pinned
    cases pinned <;> rfl
  rw [hform]
  split
  · exact wayEmptied_setTag ..
  · exact wayEmptied_evictWay ..

end Sys2Proof.Machine
end

section
/-! SUPPORT. The retirement of a bank: its command, the copy into the spare, the walk of a way pair (R65 to R69), and O37. -/

namespace Sys2Proof.Machine

variable (s : State)

/-! ### The command -/

/-- At most registers and the stacks' unit change. -/
def OnlyStk (s u : State) : Prop := u = { s with regs := u.regs, stk := u.stk }

theorem OnlyStk.trans {s t u : State} (hst : OnlyStk s t) (htu : OnlyStk t u) : OnlyStk s u := by
  unfold OnlyStk at *
  rw [htu, hst]

theorem OnlyWalk.onlyStk {s u : State} (h : OnlyWalk s u) : OnlyStk s u := by
  unfold OnlyWalk at h
  rw [h]
  rfl

theorem OnlyStk.onlyRegs_out {s u : State} (h : OnlyStk s.begin u) (o : List Out) :
    OnlyRegs { s with stk := u.stk } ({ u with out := o } : State).settle := by
  unfold OnlyStk at h
  generalize u.regs = R, u.stk = K at h
  subst h
  apply onlyRegs_settle <;> simp

theorem OnlyStk.out {s u : State} (h : OnlyStk s u) : u.out = s.out := by
  unfold OnlyStk at h
  rw [h]

theorem OnlyStk.onlyRegs {s u : State} (h : OnlyStk s.begin u) : OnlyRegs { s with stk := u.stk } u.settle := h.onlyRegs_out u.out

theorem OnlyStk.ok {s u : State} (h : OnlyStk s.begin u) (src : MgSrc) :
    (u.ok src).settle.out = [answerOut src stOk rsnNone 0] ∧ OnlyRegs { s with stk := (u.ok src).settle.stk } (u.ok src).settle := by
  have ho := h.out
  rw [State.ok, State.answer_eq]
  exact ⟨by rw [State.settle_out]; simp [ho], h.onlyRegs_out _⟩

/-- Why the retirement of a bank is refused, or 0. -/
def State.retireRefusal (s : State) (k : Nat) : Nat :=
  if s.nb ≤ k then rsnField
  else if s.retiring k || s.flag STK_BANK_STATE.COPY_BUSY then rsnBankBusy
  else if s.flag STK_BANK_STATE.SPARE_USED && decide (s.cacheWaysLeft < 4) then rsnRetireLimit
  else 0

/-- The driver's command, which names a bank and stands. -/
def State.retireNamed (s : State) (w : Word) : State := (s.plain STK_RETIRE.word.off w).setFlag STK_RETIRE.GO true

theorem State.writeRetire_go {m : MgWrite} (h : m.word.getLsbD 31 = true) : s.writeRetire m =
    if s.retireRefusal (fieldGet STK_RETIRE.BANK m.word) = 0
    then ((s.retireNamed m.word).retireOrderly (fieldGet STK_RETIRE.BANK m.word)).ok m.src
    else s.refuse m.src (s.retireRefusal (fieldGet STK_RETIRE.BANK m.word)) := by
  unfold State.writeRetire State.retireRefusal
  extract_lets k
  rw [if_neg (by simp [h])]
  by_cases h1 : s.nb ≤ k
  · rw [if_pos h1, if_pos h1, if_neg (by decide)]
  · rw [if_neg h1, if_neg h1]
    by_cases h2 : (s.retiring k || s.flag STK_BANK_STATE.COPY_BUSY) = true
    · rw [if_pos h2, if_pos h2, if_neg (by decide)]
    · rw [if_neg h2, if_neg h2]
      by_cases h3 : (s.flag STK_BANK_STATE.SPARE_USED && decide (s.cacheWaysLeft < 4)) = true
      · rw [if_pos h3, if_pos h3, if_neg (by decide)]
      · rw [if_neg h3, if_neg h3, if_pos rfl]
        rfl

theorem State.begin_retireRefusal (k : Nat) : s.begin.retireRefusal k = s.retireRefusal k := by
  have hret : s.begin.retiring k = s.retiring k := State.retiring_congr s.begin_stk (s.word_begin _ rfl) k
  have hnb : s.begin.nb = s.nb := by rw [State.nb, State.nb, State.begin_s64]
  simp only [State.retireRefusal, hret, hnb, s.begin_flag (f := STK_BANK_STATE.COPY_BUSY) rfl,
    s.begin_flag (f := STK_BANK_STATE.SPARE_USED) rfl, s.begin_cacheWaysLeft]

theorem regRow_retire (b : Bool) : regRow b STK_RETIRE.word.off = some ⟨0x04008, 1, 1, 0, 0x1F, 0x0, 0x80000000, 0x0, 0x0⟩ := by
  cases b <;> rfl

theorem onlyRegFile_retireNamed (w : Word) : OnlyRegFile s (s.retireNamed w) :=
  (onlyRegFile_plain s _ w).trans (onlyRegFile_wr _ _ _)

theorem State.word_retireNamed (w : Word) {k : Nat} (h : k ≠ STK_RETIRE.word.off) : (s.retireNamed w).word k = s.word k := by
  rw [State.retireNamed, State.word_setFlag, if_neg h, State.word_plain_other _ _ h]

theorem State.retireNamed_fields (w : Word) :
    (s.retireNamed w).rd STK_RETIRE.GO = 1 ∧ (s.retireNamed w).rd STK_RETIRE.BANK = fieldGet STK_RETIRE.BANK w := by
  unfold State.retireNamed
  refine ⟨State.rd_setFlag_same _ _ _ (by decide) rfl, ?_⟩
  rw [State.rd_setFlag_field _ _ (by decide), s.rd_plain_same (regRow_retire s.s64) w STK_RETIRE.BANK rfl rfl]
  exact fieldGet_plainWrite_rw _ _ (by decide)

/-- With the spare in use and no walk, the retirement of a bank begins the walk of its way pair. -/
theorem State.retireOrderly_walk {k : Nat} (hk : s.retiring k = false) (hused : s.flag STK_BANK_STATE.SPARE_USED = true)
    (hwalk : s.stk.walk = none) (hq : s.stk.walkQ = []) :
    s.retireOrderly k = { s with stk := { s.stk with walk := some ⟨k, 0, false, false⟩ } } := by
  rw [State.retireOrderly, hk, hused]
  change State.nextWalk { s with stk := { s.stk with walkQ := s.stk.walkQ ++ [(k, false)] } } = _
  unfold State.nextWalk
  dsimp only
  rw [hwalk, hq]
  rfl

theorem stkRetire_spec (s : State) (m : MgWrite) :
    let k := fieldGet STK_RETIRE.BANK m.word
    let rsn := if s.nb ≤ k then rsnField else if s.retiring k || s.flag STK_BANK_STATE.COPY_BUSY then rsnBankBusy else if s.flag
      STK_BANK_STATE.SPARE_USED && decide (s.cacheWaysLeft < 4) then rsnRetireLimit else 0
    Admits s STK_RETIRE.word.off m.src →
    m.word.getLsbD 31 = true →
    ∃ t, exec (.stkRetire m) s = .next t ∧ (rsn ≠ 0 → t.out = [answerOut m.src stRefused rsn 0] ∧ t.stk = s.stk ∧ RegsBut [] s t)
      ∧ (rsn = 0 → t.out = [answerOut m.src stOk rsnNone 0] ∧ t.rd STK_RETIRE.GO = 1 ∧ t.rd STK_RETIRE.BANK = k)
      ∧ (rsn = 0 → s.flag STK_BANK_STATE.SPARE_USED = false → s.isRetired s.spare = false → t.rd STK_BANK_STATE.COPY_BUSY = 1 ∧ t.rd
        STK_BANK_STATE.COPY_SRC = k ∧ t.stk = { s.stk with copyPos := 0 })
      ∧ (rsn = 0 → s.flag STK_BANK_STATE.SPARE_USED = true → s.stk.walk = none → s.stk.walkQ = [] → t.stk =
        { s.stk with walk := some ⟨k, 0, false, false⟩ })
      ∧ OnlyRegs { s with stk := t.stk } t
      ∧ RegsBut [STK_RETIRE.word.off, STK_BANK_STATE.word.off] s t := by
  intro k rsn hgate hgo
  have hrsn : s.begin.retireRefusal k = rsn := s.begin_retireRefusal k
  have hform := s.begin.writeRetire_go hgo
  rw [show fieldGet STK_RETIRE.BANK m.word = k from rfl, hrsn] at hform
  have hexec : exec (.stkRetire m) s = .next (s.begin.writeRetire m).settle := settled_mgWrite hgate _ _
  by_cases h0 : rsn = 0
  · rw [if_pos h0] at hform
    rw [hform] at hexec
    have hnamed := onlyRegFile_retireNamed s.begin m.word
    have honly : OnlyStk s.begin ((s.begin.retireNamed m.word).retireOrderly k) :=
      (hnamed.onlyWalk.trans (onlyWalk_retireOrderly _ k)).onlyStk
    have hstk : (s.begin.retireNamed m.word).stk = s.stk := hnamed.stk.trans s.begin_stk
    have hbank : (s.begin.retireNamed m.word).word STK_BANK_STATE.word.off = s.word STK_BANK_STATE.word.off :=
      (s.begin.word_retireNamed m.word (by decide)).trans (s.word_begin _ rfl)
    have hflag : ∀ f : Field, f.off = STK_BANK_STATE.word.off → f.stride = 0 → (s.begin.retireNamed m.word).flag f = s.flag f :=
      fun f hf hs => State.flag_congr (State.rdI_congr f 0 (by rw [hf, hs]; exact hbank))
    have hsp : (s.begin.retireNamed m.word).spare = s.spare := by
      rw [State.spare, State.spare, State.nb, State.nb, hnamed.s64, State.begin_s64]
    obtain ⟨hk, hfree⟩ : k < 16 ∧ (s.retiring k || s.flag STK_BANK_STATE.COPY_BUSY) = false := by
      by_cases h1 : s.nb ≤ k
      · exact absurd ((if_pos h1).symm.trans h0) (by decide)
      · have h2 : ¬ (s.retiring k || s.flag STK_BANK_STATE.COPY_BUSY) = true := fun h2 =>
          absurd (((if_neg h1).trans (if_pos h2)).symm.trans h0) (by decide)
        refine ⟨?_, Bool.eq_false_iff.mpr h2⟩
        rw [State.nb] at h1
        split at h1 <;> omega
    obtain ⟨hret, hbusy⟩ := Bool.or_eq_false_iff.mp hfree
    have hret' : (s.begin.retireNamed m.word).retiring k = false := (State.retiring_congr hstk hbank k).trans hret
    obtain ⟨hgo', hbank'⟩ := s.begin.retireNamed_fields m.word
    have hshown : ∀ f : Field, f.off = STK_RETIRE.word.off → f.stride = 0 →
        ((s.begin.retireNamed m.word).retireOrderly k).rd f = (s.begin.retireNamed m.word).rd f := fun f hf hs =>
      State.rdI_congr f 0 (State.word_retireOrderly _ k (by rw [hf, hs]; decide))
    refine ⟨_, hexec, fun h => absurd h0 h, fun _ => ⟨(honly.ok m.src).1, ?_, ?_⟩, fun _ hused hspare => ?_,
      fun _ hused hwalk hq => ?_, (honly.ok m.src).2, fun j hj hp => ?_⟩
    · rw [State.rd_settle, State.rd_ok, hshown STK_RETIRE.GO rfl rfl, hgo']
    · rw [State.rd_settle, State.rd_ok, hshown STK_RETIRE.BANK rfl rfl, hbank']
    · rw [State.rd_settle, State.rd_settle, State.rd_ok, State.rd_ok, State.settle_stk, State.ok_stk,
        State.retireOrderly_copy _ hret' ((hflag STK_BANK_STATE.SPARE_USED rfl rfl).trans hused)
          ((hflag STK_BANK_STATE.COPY_BUSY rfl rfl).trans hbusy) (by rw [hsp, State.isRetired_congr hbank]; exact hspare)]
      refine ⟨?_, ?_, ?_⟩
      · rw [State.rd_wr_field _ _ (by decide), State.rd_setFlag_same _ _ _ (by decide) rfl]
        rfl
      · rw [State.rd_wr_same _ _ _ (by decide)]
        exact Nat.mod_eq_of_lt (by simp only; omega)
      · rw [State.wr_stk, State.setFlag_stk, hstk]
    · rw [State.settle_stk, State.ok_stk, State.retireOrderly_walk _ hret' ((hflag STK_BANK_STATE.SPARE_USED rfl rfl).trans hused)
        (by rw [hstk]; exact hwalk) (by rw [hstk]; exact hq), hstk]
    · simp only [List.mem_cons, List.not_mem_nil, or_false, not_or] at hj
      rw [State.word_settle, State.word_ok, State.word_retireOrderly _ k hj.2, State.word_retireNamed _ _ hj.1]
      exact s.word_begin j hp
  · rw [if_neg h0] at hform
    rw [hform] at hexec
    refine ⟨_, hexec, fun _ => ⟨by simp [State.refuse_out], by simp, regsBut_begin_answer s _ _ _ _⟩, fun h => absurd h h0,
      fun h => absurd h h0, fun h => absurd h h0, ?_, fun j _ hp => regsBut_begin_answer s _ _ _ _ j (by simp) hp⟩
    apply onlyRegs_settle <;> simp

/-! ### The copy -/

/-- The beat copied into the spare. -/
def State.beatCopied (s : State) (d : Beat) : State :=
  { (s.setBeat s.spare (s.stk.copyPos / 16) (s.stk.copyPos % 16) d) with
    stk := { (s.setBeat s.spare (s.stk.copyPos / 16) (s.stk.copyPos % 16) d).stk with copyPos := s.stk.copyPos + 1 } }

theorem State.copyBeat_on {v : Option Beat} (hb : s.flag STK_BANK_STATE.COPY_BUSY = true) (hp : s.stk.copyPos < 131072) :
    s.copyBeat (.clean v) = s.beatCopied (v.getD (s.beat (s.phys (s.rd STK_BANK_STATE.COPY_SRC)) (s.stk.copyPos / 16)
      (s.stk.copyPos % 16))) := by
  unfold State.copyBeat
  extract_lets k src pos
  rw [if_neg (by simp only [hb, Bool.not_true, Bool.false_or, decide_eq_true_eq]; exact Nat.not_le.mpr hp)]
  rfl

theorem State.copyBeat_off {o : BeatOutcome} (h : ¬ (s.flag STK_BANK_STATE.COPY_BUSY = true ∧ s.stk.copyPos < 131072)) :
    s.copyBeat o = s := by
  unfold State.copyBeat
  extract_lets k src pos
  refine if_pos ?_
  rw [Bool.or_eq_true, Bool.not_eq_true', decide_eq_true_eq]
  rcases not_and_or.mp h with h | h
  · exact Or.inl (Bool.eq_false_iff.mpr h)
  · exact Or.inr (Nat.not_lt.mp h)

theorem retirementCopy_spec (s : State) (v : Option Beat) :
    let p := s.stk.copyPos
    let src := s.phys (s.rd STK_BANK_STATE.COPY_SRC)
    let on := s.flag STK_BANK_STATE.COPY_BUSY = true ∧ p < 131072
    ∃ t, exec (.retirementCopy (.clean v)) s = .next t ∧ (on → t.beat s.spare (p / 16) (p % 16) = v.getD (s.beat src (p / 16) (p % 16)))
      ∧ (on → t.stk.copyPos = p + 1)
      ∧ (on → TabBut 0 [beatKey s.spare (p / 16) (p % 16)] s.stk.beats t.stk.beats)
      ∧ (¬ on → t.stk = s.stk)
      ∧ t.stk = { s.stk with beats := t.stk.beats, copyPos := t.stk.copyPos }
      ∧ t.out = []
      ∧ OnlyRegs { s with stk := t.stk } t
      ∧ RegsBut [] s t := by
  intro p src on
  have hbusy := s.begin_flag (f := STK_BANK_STATE.COPY_BUSY) rfl
  have hpos : s.begin.stk.copyPos = p := by rw [State.begin_stk]
  have hsp : s.begin.spare = s.spare := by rw [State.spare, State.spare, State.nb, State.nb, State.begin_s64]
  have hexec : exec (.retirementCopy (.clean v)) s = .next (s.begin.copyBeat (.clean v)).settle := rfl
  by_cases hon : on
  · have hform := s.begin.copyBeat_on (v := v) (hbusy.trans hon.1) (by rw [hpos]; exact hon.2)
    obtain ⟨d, hd⟩ : ∃ d : Beat, d = v.getD (s.beat src (p / 16) (p % 16)) := ⟨_, rfl⟩
    have hread : s.begin.beat (s.begin.phys (s.begin.rd STK_BANK_STATE.COPY_SRC)) (s.begin.stk.copyPos / 16) (s.begin.stk.copyPos % 16)
        = s.beat src (p / 16) (p % 16) := by
      rw [hpos, s.begin_rd (f := STK_BANK_STATE.COPY_SRC) rfl, State.beat, State.beat, State.phys, State.begin_stk]
      rfl
    rw [hread, ← hd] at hform
    rw [hform] at hexec
    have hstk : (s.begin.beatCopied d).stk =
        { s.stk with beats := tput 0 s.stk.beats (beatKey s.spare (p / 16) (p % 16)) d, copyPos := p + 1 } := by
      unfold State.beatCopied State.setBeat
      rw [hpos, hsp, State.begin_stk]
    have honly : OnlyStk s.begin (s.begin.beatCopied d) := rfl
    refine ⟨_, hexec, fun _ => ?_, fun _ => ?_, fun _ key hkey => ?_, fun h => absurd hon h, ?_, ?_, honly.onlyRegs, fun j _ hp => ?_⟩
    · rw [← hd, State.beat, State.settle_stk, hstk]
      exact tget_tput_same _ _ _ _
    · rw [State.settle_stk, hstk]
    · rw [State.settle_stk, hstk]
      exact (tget_tput_other _ _ _ _ (by simpa using hkey)).symm
    · rw [State.settle_stk, hstk]
    · rw [State.settle_out, honly.out, State.begin_out]
    · exact s.word_begin j hp
  · have hform := s.begin.copyBeat_off (o := .clean v) (by rw [hbusy, hpos]; exact hon)
    rw [hform] at hexec
    refine ⟨_, hexec, fun h => absurd h hon, fun h => absurd h hon, fun h => absurd h hon, fun _ => by simp, by simp, by simp, ?_,
      fun j _ hp => s.word_begin j hp⟩
    apply onlyRegs_settle <;> simp

/-! ### The end of the copy -/

/-- At most registers, the remap table, the copy's place and the fault log change. -/
def OnlyCopied (s u : State) : Prop :=
  u = { s with regs := u.regs, stk := { s.stk with remap := u.stk.remap, copyPos := u.stk.copyPos }, err := u.err }

theorem OnlyCopied.trans {s t u : State} (hst : OnlyCopied s t) (htu : OnlyCopied t u) : OnlyCopied s u := by
  unfold OnlyCopied at *
  rw [htu, hst]

theorem OnlyRegFile.onlyCopied {s u : State} (h : OnlyRegFile s u) : OnlyCopied s u := by
  unfold OnlyRegFile at h
  rw [h]
  rfl

theorem onlyCopied_fault (cls code sev detail : Nat) (loc : Option LineAddr) (status kind src : Nat) (irq : Bool) :
    OnlyCopied s (s.fault cls code sev detail loc status kind src irq) := by
  rw [State.fault_eq]
  rfl

theorem onlyRegFile_recordRetired (p : Nat) : OnlyRegFile s (s.recordRetired p) :=
  (onlyRegFile_wr s _ _).trans ((onlyRegFile_wr _ _ _).trans (onlyRegFile_wr _ _ _))

theorem onlyCopied_bankGone (p : Nat) : OnlyCopied s (s.bankGone p) :=
  (onlyRegFile_recordRetired s p).onlyCopied.trans (onlyCopied_fault ..)

theorem onlyRegFile_retireDone (k : Nat) : OnlyRegFile s (s.retireDone k) := by
  unfold State.retireDone
  split
  · exact onlyRegFile_wr ..
  · rfl

/-- Fields that a bank's loss does not write. -/
theorem State.rd_bankGone (p : Nat) {f : Field} (hb : Apart STK_BANK_STATE.RETIRED f) (hd : f.off ≠ DBK_RETIRED.word.off)
    (hg : f.off ≠ DBK_DEGRADED.word.off) (hf : f.off ∉ faultRegs 1) (hs : f.stride = 0) : (s.bankGone p).rd f = s.rd f := by
  rw [State.bankGone, State.rd_fault _ hf hs, State.recordRetired, State.rd_setFlag_apart _ (f := DBK_DEGRADED.BANKS) _ (Or.inl hg),
    State.rd_setBit_apart _ (f := DBK_RETIRED.BANKS) _ _ (Or.inl hd), State.rd_setBit_apart _ _ _ hb]

theorem State.word_bankGone (p : Nat) {k : Nat} (hb : k ≠ STK_BANK_STATE.word.off) (hd : k ≠ DBK_RETIRED.word.off)
    (hg : k ≠ DBK_DEGRADED.word.off) (hf : k ∉ faultRegs 1) : (s.bankGone p).word k = s.word k := by
  rw [State.bankGone, State.word_fault _ _ _ _ _ _ _ _ _ _ _ hf, State.recordRetired, State.word_setFlag, if_neg hg, State.word_setBit,
    if_neg hd, State.word_setBit, if_neg hb]

/-- The lost bank is recorded in both registers. -/
theorem State.bankGone_recorded {p : Nat} (hp : p < 17) : ((s.bankGone p).rd STK_BANK_STATE.RETIRED).testBit p = true
    ∧ ((s.bankGone p).rd DBK_RETIRED.BANKS).testBit p = true := by
  have hbit : ∀ n : Nat, (n ||| 2 ^ p).testBit p = true := fun n => by
    rw [Nat.testBit_or, Nat.testBit_two_pow_self, Bool.or_true]
  rw [State.bankGone, State.rd_fault _ (f := STK_BANK_STATE.RETIRED) (by decide) rfl, State.rd_fault _ (f := DBK_RETIRED.BANKS) (by decide) rfl,
    State.recordRetired, State.rd_setFlag_other _ _ (by decide), State.rd_setFlag_other _ _ (by decide),
    State.rd_setBit_apart _ _ _ (by decide), State.rd_setBit_true _ _ (by decide) hp, State.rd_setBit_true _ _ (by decide) hp]
  exact ⟨hbit _, hbit _⟩

theorem State.rd_retireDone_other (k : Nat) {f : Field} (h : Apart STK_RETIRE.GO f) : (s.retireDone k).rd f = s.rd f := by
  unfold State.retireDone
  split
  · exact s.rd_setFlag_apart _ h
  · rfl

theorem State.word_retireDone (k : Nat) {j : Nat} (h : j ≠ STK_RETIRE.word.off) : (s.retireDone k).word j = s.word j := by
  unfold State.retireDone
  split
  · exact (State.word_setFlag ..).trans (if_neg h)
  · rfl

theorem State.retireDone_go (k : Nat) :
    (s.retireDone k).rd STK_RETIRE.GO = if s.rd STK_RETIRE.BANK = k then 0 else s.rd STK_RETIRE.GO := by
  unfold State.retireDone
  split
  · exact s.rd_setFlag_same _ _ (by decide) rfl
  · rfl

/-- The remap table sends the bank to the spare. -/
def State.remapped (s : State) (k : Nat) : State :=
  { s with stk := { s.stk with remap := tset s.stk.remap k s.spare, copyPos := 0 } }

/-- STK_BANK_STATE shows the spare in use. -/
def State.spareShown (s : State) (k : Nat) : State :=
  ((s.setFlag STK_BANK_STATE.COPY_BUSY false).setFlag STK_BANK_STATE.SPARE_USED true).wr STK_BANK_STATE.SPARE_FOR k

/-- The copy ended: the bank is served by the spare, its source lost. -/
def State.copyEnded (s : State) : State :=
  ((((s.remapped (s.rd STK_BANK_STATE.COPY_SRC)).spareShown (s.rd STK_BANK_STATE.COPY_SRC)).bankGone
    (s.phys (s.rd STK_BANK_STATE.COPY_SRC))).retireDone (s.rd STK_BANK_STATE.COPY_SRC))

theorem State.copyDone_on (hb : s.flag STK_BANK_STATE.COPY_BUSY = true) (hp : 131072 ≤ s.stk.copyPos) : s.copyDone = s.copyEnded := by
  unfold State.copyDone
  extract_lets k src u v
  rw [if_neg (by simp only [hb, Bool.not_true, Bool.false_or, decide_eq_true_eq]; exact Nat.not_lt.mpr hp)]
  rfl

theorem State.copyDone_off (h : ¬ (s.flag STK_BANK_STATE.COPY_BUSY = true ∧ 131072 ≤ s.stk.copyPos)) : s.copyDone = s := by
  unfold State.copyDone
  extract_lets k src u v
  refine if_pos ?_
  rw [Bool.or_eq_true, Bool.not_eq_true', decide_eq_true_eq]
  rcases not_and_or.mp h with h | h
  · exact Or.inl (Bool.eq_false_iff.mpr h)
  · exact Or.inr (Nat.not_le.mp h)

theorem onlyCopied_copyEnded : OnlyCopied s s.copyEnded := by
  have hmap : OnlyCopied s (s.remapped (s.rd STK_BANK_STATE.COPY_SRC)) := rfl
  have hshow : ∀ (u : State) (k : Nat), OnlyRegFile u (u.spareShown k) := fun u k =>
    (onlyRegFile_wr u _ _).trans ((onlyRegFile_wr _ _ _).trans (onlyRegFile_wr _ _ _))
  exact (hmap.trans (hshow _ _).onlyCopied).trans ((onlyCopied_bankGone _ _).trans (onlyRegFile_retireDone _ _).onlyCopied)

theorem State.copyEnded_remap : s.copyEnded.stk.remap = tset s.stk.remap (s.rd STK_BANK_STATE.COPY_SRC) s.spare := by
  have hgone : ∀ (u : State) (p k : Nat), ((u.bankGone p).retireDone k).stk = u.stk := fun u p k => by
    rw [(onlyRegFile_retireDone _ k).stk, State.bankGone, State.fault_stk, (onlyRegFile_recordRetired u p).stk]
  rw [State.copyEnded, hgone]
  rfl

/-- What STK_BANK_STATE shows after the copy. -/
theorem State.copyEnded_fields : s.copyEnded.rd STK_BANK_STATE.COPY_BUSY = 0 ∧ s.copyEnded.rd STK_BANK_STATE.SPARE_USED = 1
    ∧ s.copyEnded.rd STK_BANK_STATE.SPARE_FOR = s.rd STK_BANK_STATE.COPY_SRC := by
  have hshow : ∀ f : Field, Apart STK_RETIRE.GO f → Apart STK_BANK_STATE.RETIRED f → f.off ≠ DBK_RETIRED.word.off →
      f.off ≠ DBK_DEGRADED.word.off → f.off ∉ faultRegs 1 → f.stride = 0 →
      s.copyEnded.rd f = ((s.remapped (s.rd STK_BANK_STATE.COPY_SRC)).spareShown (s.rd STK_BANK_STATE.COPY_SRC)).rd f :=
    fun f hgo hb hd hg hf hs => by
      rw [State.copyEnded, State.rd_retireDone_other _ _ hgo, State.rd_bankGone _ _ hb hd hg hf hs]
  refine ⟨?_, ?_, ?_⟩
  · rw [hshow STK_BANK_STATE.COPY_BUSY (by decide) (by decide) (by decide) (by decide) (by decide) rfl, State.spareShown,
      State.rd_wr_apart _ _ (by decide), State.rd_setFlag_apart _ _ (by decide), State.rd_setFlag_same _ _ _ (by decide) rfl]
    rfl
  · rw [hshow STK_BANK_STATE.SPARE_USED (by decide) (by decide) (by decide) (by decide) (by decide) rfl, State.spareShown,
      State.rd_wr_apart _ _ (by decide), State.rd_setFlag_same _ _ _ (by decide) rfl]
    rfl
  · rw [hshow STK_BANK_STATE.SPARE_FOR (by decide) (by decide) (by decide) (by decide) (by decide) rfl, State.spareShown,
      State.rd_wr_same _ _ _ (by decide)]
    exact Nat.mod_eq_of_lt (s.rdI_lt STK_BANK_STATE.COPY_SRC 0)

/-- STK_RETIRE.GO after the copy. -/
theorem State.copyEnded_go : s.copyEnded.rd STK_RETIRE.GO =
    if s.rd STK_RETIRE.BANK = s.rd STK_BANK_STATE.COPY_SRC then 0 else s.rd STK_RETIRE.GO := by
  have hkeep : ∀ f : Field, f.off = STK_RETIRE.word.off → f.stride = 0 → ∀ k p : Nat,
      (((s.remapped k).spareShown k).bankGone p).rd f = s.rd f := fun f hf hs k p => by
    rw [State.rd_bankGone _ _ (Or.inl (by rw [hf]; decide)) (by rw [hf]; decide) (by rw [hf]; decide) (by rw [hf]; decide) hs,
      State.spareShown, State.rd_wr_other _ _ (by rw [hf]; decide), State.rd_setFlag_other _ _ (by rw [hf]; decide),
      State.rd_setFlag_other _ _ (by rw [hf]; decide)]
    rfl
  rw [State.copyEnded, State.retireDone_go, hkeep STK_RETIRE.BANK rfl rfl, hkeep STK_RETIRE.GO rfl rfl]

theorem State.word_copyEnded {k : Nat} (hb : k ≠ STK_BANK_STATE.word.off) (hr : k ≠ STK_RETIRE.word.off) (hd : k ≠ DBK_RETIRED.word.off)
    (hg : k ≠ DBK_DEGRADED.word.off) (hf : k ∉ faultRegs 1) : s.copyEnded.word k = s.word k := by
  rw [State.copyEnded, State.word_retireDone _ _ hr, State.word_bankGone _ _ hb hd hg hf, State.spareShown, State.word_wr, if_neg hb,
    State.word_setFlag, if_neg hb, State.word_setFlag, if_neg hb]
  rfl

theorem OnlyCopied.onlyRegs {s u : State} (h : OnlyCopied s.begin u) : u.settle.out = []
    ∧ OnlyRegs { s with stk := { s.stk with remap := u.settle.stk.remap, copyPos := u.settle.stk.copyPos }, err := u.settle.err } u.settle := by
  unfold OnlyCopied at h
  generalize u.regs = R, u.stk.remap = M, u.stk.copyPos = P, u.err = E at h
  subst h
  refine ⟨by simp, ?_⟩
  apply onlyRegs_settle <;> simp

theorem retirementCopyDone_spec (s : State) :
    let k := s.rd STK_BANK_STATE.COPY_SRC
    let on := s.flag STK_BANK_STATE.COPY_BUSY = true ∧ 131072 ≤ s.stk.copyPos
    ∃ t, exec (.retirementCopyDone) s = .next t ∧ (on → t.phys k = s.spare ∧ t.rd STK_BANK_STATE.COPY_BUSY = 0 ∧ t.rd
      STK_BANK_STATE.SPARE_USED = 1 ∧ t.rd STK_BANK_STATE.SPARE_FOR = k)
      ∧ (on → s.phys k < 17 → (t.rd STK_BANK_STATE.RETIRED).testBit (s.phys k) = true ∧ (t.rd DBK_RETIRED.BANKS).testBit (s.phys k) =
        true)
      ∧ (on → t.rd STK_RETIRE.GO = (if s.rd STK_RETIRE.BANK = k then 0 else s.rd STK_RETIRE.GO))
      ∧ (∀ j : Nat, j < 16 → j ≠ k → t.phys j = s.phys j)
      ∧ (¬ on → t.stk = s.stk ∧ RegsBut [] s t)
      ∧ t.out = []
      ∧ OnlyRegs { s with stk := { s.stk with remap := t.stk.remap, copyPos := t.stk.copyPos }, err := t.err } t
      ∧ RegsBut ([STK_BANK_STATE.word.off, STK_RETIRE.word.off, DBK_RETIRED.word.off, DBK_DEGRADED.word.off] ++ faultRegs 1) s t := by
  intro k on
  have hbusy := s.begin_flag (f := STK_BANK_STATE.COPY_BUSY) rfl
  have hsrc : s.begin.rd STK_BANK_STATE.COPY_SRC = k := s.begin_rd rfl
  have hphys : ∀ j, s.begin.phys j = s.phys j := fun j => by rw [State.phys, State.phys, State.begin_stk]
  have hsp : s.begin.spare = s.spare := by rw [State.spare, State.spare, State.nb, State.nb, State.begin_s64]
  have hexec : exec .retirementCopyDone s = .next s.begin.copyDone.settle := rfl
  by_cases hon : on
  · rw [s.begin.copyDone_on (hbusy.trans hon.1) (by rw [State.begin_stk]; exact hon.2)] at hexec
    have honly := (onlyCopied_copyEnded s.begin).onlyRegs
    have hremap := s.begin.copyEnded_remap
    rw [hsrc, hsp, State.begin_stk] at hremap
    obtain ⟨h1, h2, h3⟩ := s.begin.copyEnded_fields
    have hgo := s.begin.copyEnded_go
    rw [hsrc, s.begin_rd (f := STK_RETIRE.BANK) rfl, s.begin_rd (f := STK_RETIRE.GO) rfl] at hgo
    refine ⟨_, hexec, fun _ => ⟨?_, h1, h2, h3.trans hsrc⟩, fun _ hp => ?_, fun _ => hgo, fun j _ hj => ?_, fun h => absurd hon h,
      honly.1, honly.2, fun j hj hp => ?_⟩
    · rw [State.phys, State.settle_stk, hremap, tget, tfind_tset_same]
      rfl
    · rw [State.rd_settle, State.rd_settle, State.copyEnded, hsrc, hphys, State.rd_retireDone_other _ _ (by decide),
        State.rd_retireDone_other _ _ (by decide)]
      exact State.bankGone_recorded _ hp
    · rw [State.phys, State.settle_stk, hremap, tget, tfind_tset_other _ _ hj]
      rfl
    · simp only [List.cons_append, List.nil_append, List.mem_cons, not_or] at hj
      obtain ⟨hb, hr, hd, hg, hf⟩ := hj
      rw [State.word_settle, State.word_copyEnded _ hb hr hd hg hf]
      exact s.word_begin j hp
  · rw [s.begin.copyDone_off (by rw [hbusy, State.begin_stk]; exact hon)] at hexec
    have honly : OnlyCopied s.begin s.begin := rfl
    refine ⟨_, hexec, fun h => absurd h hon, fun h => absurd h hon, fun h => absurd h hon, fun j _ _ => hphys j,
      fun _ => ⟨by simp, fun j _ hp => s.word_begin j hp⟩, honly.onlyRegs.1, honly.onlyRegs.2, fun j _ hp => s.word_begin j hp⟩

/-! ### The walk of a way pair -/

/-- The way pair of a bank in a set. -/
def State.lostPair (s : State) (lb set : Nat) : Nat := (lb + s.nb * (set / s.nb + 1) - set) % s.nb

/-- A pair of ways without replacements removed. -/
def State.pairRemoved (s : State) (set q : Nat) (abrupt : Bool) : State :=
  (s.removeWay set (2 * q) none abrupt).removeWay set (2 * q + 1) none abrupt

theorem State.walkSet_pair {set : Nat} {x : RetWalk} (hw : s.stk.walk = some x) (hn : set = x.next) (hlt : set + 1 < 16384)
    (hc : s.cacheWay set (2 * s.lostPair x.lb set) = true) : ∃ few : Bool, s.walkSet set =
      { s.pairRemoved set (s.lostPair x.lb set) x.abrupt with
        stk := { (s.pairRemoved set (s.lostPair x.lb set) x.abrupt).stk with walk := some { x with next := set + 1, few := few } } } := by
  unfold State.walkSet
  rw [hw]
  dsimp only
  rw [if_neg (by simp [hn]), if_pos hlt]
  unfold State.lostPair at hc
  rw [hc]
  exact ⟨_, rfl⟩

theorem retireWalk_taken (s : State) (set : BitVec 14) (x : RetWalk) (hx : s.stk.walk = some x) :
    let q := (x.lb + s.nb * (set.toNat / s.nb + 1) - set.toNat) % s.nb
    set.toNat = x.next →
    set.toNat < 16383 →
    s.cacheWay set.toNat (2 * q) = true →
    s.cacheWay set.toNat (2 * q + 1) = true →
    ∃ t, exec (.retireWayPairWalk set) s = .next t ∧ t.tag set.toNat (2 * q) = TagW.empty
      ∧ t.tag set.toNat (2 * q + 1) = TagW.empty
      ∧ ((t.stk.walk.map (fun y => (y.lb, y.next, y.abrupt))) = some (x.lb, set.toNat + 1, x.abrupt))
      ∧ TabBut TagW.empty [32 * set.toNat + 2 * q, 32 * set.toNat + 2 * q + 1] s.stk.tags t.stk.tags
      ∧ t.stk.remap = s.stk.remap
      ∧ t.coh.cat = s.coh.cat
      ∧ t.ldg = s.ldg := by
  intro q hn hlt hc _
  have hq : s.begin.lostPair x.lb set.toNat = q := by rw [State.lostPair, State.nb, State.begin_s64]; rfl
  obtain ⟨few, hform⟩ := s.begin.walkSet_pair (set := set.toNat) (by rw [State.begin_stk]; exact hx) hn (by omega)
    (by rw [hq, s.begin_cacheWay]; exact hc)
  rw [hq] at hform
  have h1 := wayEmptied_removeWay s.begin set.toNat (2 * q) x.abrupt
  have h2 := wayEmptied_removeWay (s.begin.removeWay set.toNat (2 * q) none x.abrupt) set.toNat (2 * q + 1) x.abrupt
  have htags : (s.begin.pairRemoved set.toNat q x.abrupt).stk.tags =
      tput TagW.empty (tput TagW.empty s.stk.tags (set.toNat * 32 + 2 * q) TagW.empty) (set.toNat * 32 + (2 * q + 1)) TagW.empty := by
    rw [State.pairRemoved, h2.tags, h1.tags, State.begin_stk]
  refine ⟨(s.begin.walkSet set.toNat).settle, rfl, ?_⟩
  rw [hform]
  refine ⟨?_, ?_, rfl, fun key hkey => ?_, ?_, ?_, ?_⟩
  · exact (congrArg (fun t => tget TagW.empty t (set.toNat * 32 + 2 * q)) htags).trans
      ((tget_tput_other _ _ _ _ (by omega)).trans (tget_tput_same _ _ _ _))
  · exact (congrArg (fun t => tget TagW.empty t (set.toNat * 32 + (2 * q + 1))) htags).trans (tget_tput_same _ _ _ _)
  · simp only [List.mem_cons, List.not_mem_nil, or_false, not_or] at hkey
    exact ((congrArg (fun t => tget TagW.empty t key) htags).trans
      ((tget_tput_other _ _ _ _ (by omega)).trans (tget_tput_other _ _ _ _ (by omega)))).symm
  · exact (h2.remap.trans h1.remap).trans (by rw [State.begin_stk])
  · rw [State.settle_coh]
    exact (h2.cat.trans h1.cat).trans (by rw [State.begin_coh])
  · rw [State.settle_ldg]
    exact (h2.ldg.trans h1.ldg).trans (by rw [State.begin_ldg])

theorem State.walkSet_other {set : Nat} {x : RetWalk} (hw : s.stk.walk = some x) (hn : set ≠ x.next) : s.walkSet set = s := by
  unfold State.walkSet
  rw [hw]
  exact if_pos (by simpa using hn)

theorem retireWalk_other (s : State) (set : BitVec 14) (x : RetWalk) (hx : s.stk.walk = some x) (hn : set.toNat ≠ x.next) :
    ∃ t, exec (.retireWayPairWalk set) s = .next t ∧ t.out = []
      ∧ OnlyRegs s t
      ∧ RegsBut [] s t := by
  refine ⟨(s.begin.walkSet set.toNat).settle, rfl, ?_⟩
  rw [s.begin.walkSet_other (by rw [State.begin_stk]; exact hx) hn]
  refine ⟨by simp, ?_, fun j _ hp => s.word_begin j hp⟩
  apply onlyRegs_settle <;> simp

/-- Settles O37: the command, the copy, its end, and the walk of a way pair. -/
theorem bankRetirement : Obligations.BankRetirement :=
  ⟨stkRetire_spec, retirementCopy_spec, retirementCopyDone_spec, retireWalk_taken, retireWalk_other⟩

end Sys2Proof.Machine
end

section
/-! SUPPORT. LDRAIN, DRAIN_READ, LDG_ROW_DRAIN and HELD_DRAIN_TIMEOUT (R176 to R183, R214). -/

namespace Sys2Proof.Machine

variable (s : State)

/-- At most the Ledger changes. -/
def OnlyLdg (s u : State) : Prop := u = { s with ldg := u.ldg }

theorem onlyLdg_with (l : Ledger) : OnlyLdg s { s with ldg := l } := rfl

theorem OnlyLdg.trans {s t u : State} (hst : OnlyLdg s t) (htu : OnlyLdg t u) : OnlyLdg s u := by
  unfold OnlyLdg at *
  rw [htu, hst]

theorem OnlyLdg.onlyRegs {s u : State} (h : OnlyLdg s.begin u) : OnlyRegs { s with ldg := u.settle.ldg } u.settle := by
  unfold OnlyLdg at h
  generalize u.ldg = L at h
  subst h
  apply onlyRegs_settle <;> simp

theorem OnlyLdg.word {s u : State} (h : OnlyLdg s u) (k : Nat) : u.word k = s.word k := by
  unfold OnlyLdg at h
  rw [h]
  rfl

/-! ### D1 of a drain -/

theorem State.ldgRun_taken {k : Nat} {p : LedgerKind → Bool} {f : State → LdgJob → State} {j : LdgJob} {rest : List LdgJob}
    (hu : s.ldgUnit k = j :: rest) (hp : p j.o.kind = true) (hf : s.ldgFull k = false) : s.ldgRun k p f = f (s.setLdgUnit k rest) j := by
  rw [State.ldgRun, hu]
  dsimp only
  rw [hp, hf]
  rfl

theorem State.ldgDrain_plain {k : Nat} {j : LdgJob} {f : RowRef} (hrows : j.rows = [f]) (hctx : s.chnOfJob j = none)
    (hturn : s.ldgTurn j [s.drainCls f j.o.epoch] = none) (hheld : s.ldg.held.any (fun h => h.job.r.line = j.r.line) = false) :
    s.ldgDrain k j = s.drainD1 k j none := by
  have hcls : j.rows.map (fun f => s.drainCls f j.o.epoch) = [s.drainCls f j.o.epoch] := by rw [hrows]; rfl
  unfold State.ldgDrain
  extract_lets cls held ctx turn
  have hc : ctx = none := hctx
  have ht : turn = none := by
    have hd : held = false := hheld
    have hl : s.ldgTurn j cls = none := by rw [show cls = [s.drainCls f j.o.epoch] from hcls]; exact hturn
    unfold turn
    rw [hl, hc, hd]
    rfl
  rw [ht, hc]

theorem SentMir.ldg {s u : State} (h : SentMir s u) : u.ldg = s.ldg := by
  have hf := h.1
  unfold OnlyLinks at hf
  rw [hf]

theorem sentMir_ldgMirror (j : LdgJob) (odd : Bool) : SentMir s (s.ldgMirror j odd) := by
  unfold State.ldgMirror
  split
  · split
    · extract_lets e
      split
      exact sentMir_mirSend ..
    · exact (Sent.refl s).sentMir
  · exact (Sent.refl s).sentMir

theorem State.ldgMirror_off (h : s.pairOn = false) (j : LdgJob) (odd : Bool) : s.ldgMirror j odd = s := by
  unfold State.ldgMirror
  split
  · rw [h]
    rfl
  · rfl

/-- The row after D1. -/
def State.rowSwapped (s : State) (f : RowRef) (j : LdgJob) : State := s.setRowSt f (fun t => t.d1 f.shadow j.o.epoch (seedOf j.o))

/-- The drain of one row, handed to D2. -/
def State.drainAdded (s : State) (k : Nat) (d : Drain) : State :=
  { s with ldg := { s.ldg with drains := tput [] s.ldg.drains k (tget [] s.ldg.drains k ++ [d]) } }

theorem State.drainD1_one {k : Nat} {j : LdgJob} {f : RowRef} (hrows : j.rows = [f]) :
    ∃ odd : Bool, s.drainD1 k j none = ((s.rowSwapped f j).ldgMirror j odd).drainAdded k ⟨j, [(f, s.halfRow f true)], none⟩ := by
  unfold State.drainD1
  rw [hrows]
  exact ⟨_, rfl⟩

theorem State.chnOf_congr {s t : State} (h : ∀ f : Field, f ∈ [CHN_CTX_CTL.VALID, CHN_CTX_SLOTS.BIND, CHN_CTX_SLOTS.SLOT0,
    CHN_CTX_SLOTS.NSLOTS] → ∀ c < 16, t.rdI f c = s.rdI f c) (bind slot : Nat) : t.chnOf bind slot = s.chnOf bind slot := by
  unfold State.chnOf
  have hp : ∀ c ∈ List.range 16, (t.chnOk c && t.rdI CHN_CTX_SLOTS.BIND c = bind && decide (t.rdI CHN_CTX_SLOTS.SLOT0 c ≤ slot)
      && decide (slot < t.rdI CHN_CTX_SLOTS.SLOT0 c + t.rdI CHN_CTX_SLOTS.NSLOTS c))
      = (s.chnOk c && s.rdI CHN_CTX_SLOTS.BIND c = bind && decide (s.rdI CHN_CTX_SLOTS.SLOT0 c ≤ slot)
      && decide (slot < s.rdI CHN_CTX_SLOTS.SLOT0 c + s.rdI CHN_CTX_SLOTS.NSLOTS c)) := fun c hc => by
    have hlt := List.mem_range.mp hc
    rw [State.chnOk_congr (h _ (by simp) c hlt), h CHN_CTX_SLOTS.BIND (by simp) c hlt, h CHN_CTX_SLOTS.SLOT0 (by simp) c hlt,
      h CHN_CTX_SLOTS.NSLOTS (by simp) c hlt]
  generalize List.range 16 = l at hp
  induction l with
  | nil => rfl
  | cons a l ih =>
    rw [List.find?_cons, List.find?_cons, hp a List.mem_cons_self, ih (fun c hc => hp c (List.mem_cons_of_mem _ hc))]

theorem State.begin_chnOf (bind slot : Nat) : s.begin.chnOf bind slot = s.chnOf bind slot :=
  State.chnOf_congr (fun f hf c hc => by
    simp only [List.mem_cons, List.not_mem_nil, or_false] at hf
    rcases hf with rfl | rfl | rfl | rfl <;> exact s.begin_rdI_chn (by decide) rfl (by omega)) bind slot

/-- The unit's queue, without its head. -/
theorem State.setLdgUnit_ldg (k : Nat) (l : List LdgJob) :
    (s.begin.setLdgUnit k l).ldg = { s.ldg with unit := tput [] s.ldg.unit k l } := by
  rw [State.setLdgUnit, State.begin_ldg]

theorem ldrain_spec (s : State) (k : BitVec 2) (j : LdgJob) (f : RowRef) (hhead : (s.ldgUnit k.toNat).head? = some j)
    (_hf : j.rows.head? = some f) (hkind : j.o.kind = .ldrain) (hfull : s.ldgFull k.toNat = false) (hrows : j.rows = [f])
    (hctx : s.chnOfJob j = none) (hturn : s.ldgTurn j [s.drainCls f j.o.epoch] = none)
    (hheld : s.ldg.held.any (fun h => h.job.r.line = j.r.line) = false) :
    ∃ t, exec (.ldrain k) s = .next t ∧ (t.rowSt f =
      { s.rowSt f with draining := true, cur := j.o.epoch + 1, live := if f.shadow then !(s.rowSt f).live else (s.rowSt f).live, tokl := (s.rowSt f).toks, toks := false, seed := (seedOf j.o).getD (s.rowSt f).seed })
      ∧ tget [] t.ldg.drains k.toNat = tget [] s.ldg.drains k.toNat ++ [Drain.mk j [(f, s.halfRow f true)] none]
      ∧ t.ldg = { s.ldg with unit := t.ldg.unit, st := t.ldg.st, drains := t.ldg.drains }
      ∧ TabBut RowSt.init [f.base] s.ldg.st t.ldg.st
      ∧ t.stk = s.stk
      ∧ t.coh = s.coh
      ∧ (s.pairOn = false → OnlyRegs { s with ldg := t.ldg } t ∧ RegsBut [] s t) := by
  obtain ⟨rest, hunit⟩ : ∃ rest, s.ldgUnit k.toNat = j :: rest := by
    cases hu : s.ldgUnit k.toNat with
    | nil => rw [hu] at hhead; exact absurd hhead (by simp)
    | cons a l => rw [hu] at hhead; exact ⟨l, by rw [Option.some_inj.mp hhead]⟩
  obtain ⟨v, hv⟩ : ∃ v, v = s.begin.setLdgUnit k.toNat rest := ⟨_, rfl⟩
  have hvldg : v.ldg = { s.ldg with unit := tput [] s.ldg.unit k.toNat rest } := by rw [hv, State.setLdgUnit_ldg]
  have hrow : v.rowSt f = s.rowSt f := by rw [State.rowSt, State.rowSt, hvldg]
  have hhalf : v.halfRow f true = s.halfRow f true := by rw [State.halfRow, State.halfRow, hrow]
  have hvfront : v.front = s.front := by rw [hv]; exact s.begin_front
  have hcls : v.drainCls f j.o.epoch = s.drainCls f j.o.epoch := by simp only [State.drainCls, hrow]
  have hturn' : v.ldgTurn j [v.drainCls f j.o.epoch] = none := by
    have hscale : v.scaleEnt j.o.sidx.toNat = s.scaleEnt j.o.sidx.toNat := by rw [State.scaleEnt, State.scaleEnt, hvldg]
    rw [hcls, ← hturn, State.ldgTurn, State.ldgTurn, hvfront, hscale]
  have hctx' : v.chnOfJob j = none := by
    have hof : ∀ b n, v.chnOf b n = s.chnOf b n := fun b n => by rw [hv]; exact s.begin_chnOf b n
    rw [State.chnOfJob, hrows] at hctx ⊢
    exact (hof _ _).trans hctx
  have hrun : s.begin.ldgRun k.toNat (· == .ldrain) (fun s j => s.ldgDrain k.toNat j) = v.ldgDrain k.toNat j := by
    rw [hv]
    refine State.ldgRun_taken _ (by rw [State.ldgUnit, State.begin_ldg]; exact hunit) (by rw [hkind]; rfl) ?_
    rw [State.ldgFull, State.begin_front]
    exact hfull
  obtain ⟨odd, hd1⟩ := v.drainD1_one (k := k.toNat) hrows
  rw [hhalf] at hd1
  have hform := hrun.trans ((v.ldgDrain_plain hrows hctx' hturn' (by rw [hvldg]; exact hheld)).trans hd1)
  have hsent := sentMir_ldgMirror (v.rowSwapped f j) j odd
  have hldg : (((v.rowSwapped f j).ldgMirror j odd).drainAdded k.toNat ⟨j, [(f, s.halfRow f true)], none⟩).ldg =
      { s.ldg with
        unit := tput [] s.ldg.unit k.toNat rest
        st := tput RowSt.init s.ldg.st f.base ((s.rowSt f).d1 f.shadow j.o.epoch (seedOf j.o))
        drains := tput [] s.ldg.drains k.toNat (tget [] s.ldg.drains k.toNat ++ [⟨j, [(f, s.halfRow f true)], none⟩]) } := by
    rw [State.drainAdded, hsent.ldg, State.rowSwapped, State.setRowSt, hrow, hvldg]
  have hkeep := hsent.keepsTags
  refine ⟨_, congrArg settled hform, ?_, ?_, ?_, fun key hkey => ?_, ?_, ?_, fun hp => ?_⟩
  · rw [State.rowSt, State.settle_ldg, hldg]
    exact tget_tput_same _ _ _ _
  · rw [State.settle_ldg, hldg]
    exact tget_tput_same _ _ _ _
  · rw [State.settle_ldg, hldg]
  · rw [State.settle_ldg, hldg]
    exact (tget_tput_other _ _ _ _ (by simpa using hkey)).symm
  · have hf := hsent.1
    unfold OnlyLinks at hf
    rw [State.settle_stk, State.drainAdded, hf, State.rowSwapped, State.setRowSt, hv, State.setLdgUnit, State.begin_stk]
  · have hf := hsent.1
    unfold OnlyLinks at hf
    rw [State.settle_coh, State.drainAdded, hf, State.rowSwapped, State.setRowSt, hv, State.setLdgUnit, State.begin_coh]
  · have hpair : (v.rowSwapped f j).pairOn = false := by
      rw [hv]
      have h : s.begin.pairOn = s.pairOn := by
        rw [State.pairOn, State.pairOn, s.begin_rd (f := MIR_STATUS.STATE) rfl, State.begin_mir]
      exact h.trans hp
    rw [State.ldgMirror_off _ hpair]
    have honly : OnlyLdg s.begin ((v.rowSwapped f j).drainAdded k.toNat ⟨j, [(f, s.halfRow f true)], none⟩) := by
      rw [hv]
      exact ((onlyLdg_with _ _).trans (onlyLdg_with _ _)).trans (onlyLdg_with _ _)
    exact ⟨honly.onlyRegs, fun i _ hi => (honly.word i).trans (s.word_begin i hi)⟩

/-! ### D2 of a drain -/

/-- At most registers, the Ledger and the front island change. -/
def OnlyLdgFront (s u : State) : Prop := u = { s with regs := u.regs, ldg := u.ldg, front := u.front }

theorem OnlyLdgFront.trans {s t u : State} (hst : OnlyLdgFront s t) (htu : OnlyLdgFront t u) : OnlyLdgFront s u := by
  unfold OnlyLdgFront at *
  rw [htu, hst]

theorem OnlyRegFile.onlyLdgFront {s u : State} (h : OnlyRegFile s u) : OnlyLdgFront s u := by
  unfold OnlyRegFile at h
  rw [h]
  rfl

theorem onlyLdgFront_ldg (l : Ledger) : OnlyLdgFront s { s with ldg := l } := rfl

theorem onlyLdgFront_ldgBack (k : Nat) : OnlyLdgFront s (s.ldgBack k) := rfl

theorem OnlyLdgFront.onlyRegs {s u : State} (h : OnlyLdgFront s.begin u) :
    u.settle.out = [] ∧ OnlyRegs { s with ldg := u.settle.ldg, front := u.settle.front } u.settle := by
  unfold OnlyLdgFront at h
  generalize u.regs = R, u.ldg = L, u.front = F at h
  subst h
  refine ⟨by simp, ?_⟩
  apply onlyRegs_settle <;> simp

/-- A drained row: its image empty, DRAINING clear, counted. -/
def State.rowDrained (s : State) (x : RowRef × Nat) : State :=
  ((s.setRowImg x.2 (rowEmpty x.1.fast)).setRowSt x.1 (fun t => { t with draining := false })).bump LDG_DRAINS.COUNT

/-- Without an error waiting in the cells, D2 reads the image and empties the row. -/
theorem State.drainD2_sound (h : s.ldg.ecc = []) (x : RowRef × Nat) (line : LineAddr) :
    s.drainD2 x line = (s.rowImg x.2, s.rowDrained x) := by
  have hread : s.readCells x.1 x.2 line (List.range 32) = s := by rw [State.readCells, h]; rfl
  have hclear : s.clearRow x.2 x.1.fast = s.setRowImg x.2 (rowEmpty x.1.fast) := by
    rw [State.clearRow, State.wroteCells]
    exact if_pos (by rw [State.setRowImg]; exact congrArg _ h)
  unfold State.drainD2
  extract_lets u img v
  have hu : u = s := hread
  have hv : v = (s.setRowImg x.2 (rowEmpty x.1.fast)).setRowSt x.1 (fun t => { t with draining := false }) := by
    change (u.clearRow x.2 x.1.fast).setRowSt x.1 _ = _
    rw [hu, hclear]
  rw [hv, show img = s.rowImg x.2 from by rw [← hu]]
  rfl

/-- What is handed to the write-out. -/
def State.outAdded (s : State) (k : Nat) (o : WriteOut) : State :=
  { s with ldg := { s.ldg with outs := tput [] s.ldg.outs k (tget [] s.ldg.outs k ++ [o]) } }

/-- The seed of a stochastic drain, logged. -/
def State.seedLogged (s : State) (j : LdgJob) (x : RowRef × Nat) : State := if j.o.rmode = 2 then s.seedLog j x.1 x.2 else s

/-- The status of a drain of one row. -/
def rowStatus (x : RowRef × Nat) (img : RowImage) (psn : Bool) : Nat :=
  if !x.1.fast && rowOvf img then stOverflow else if psn then stPoison else stOk

theorem onlyRegFile_setWord (off : Nat) (v : Word) : OnlyRegFile s (s.setWord off v) := rfl

theorem onlyRegFile_seedLog (j : LdgJob) (f : RowRef) (p : Nat) : OnlyRegFile s (s.seedLog j f p) := by
  unfold State.seedLog
  extract_lets n seed a b c d e g i j' k
  have hk : OnlyRegFile s k :=
    (onlyRegFile_setWord s _ _).trans ((onlyRegFile_setWord a _ _).trans ((onlyRegFile_wrI b _ _ _).trans ((onlyRegFile_wrI c _ _ _).trans
      ((onlyRegFile_wrI d _ _ _).trans ((onlyRegFile_wrI e _ _ _).trans ((onlyRegFile_wrI g _ _ _).trans
        ((onlyRegFile_setWord i _ _).trans (onlyRegFile_wr j' _ _))))))))
  split
  · exact hk.trans (onlyRegFile_wr _ _ _)
  · exact hk

/-- The log of seeds lies in LDG_SEED_HEAD and the words from 0x18000 on. -/
theorem State.word_seedLog (j : LdgJob) (f : RowRef) (p : Nat) {w : Nat} (hw : w < 0x18000) (hh : w ≠ LDG_SEED_HEAD.word.off) :
    (s.seedLog j f p).word w = s.word w := by
  unfold State.seedLog
  extract_lets n seed a b c d e g i j' k
  have hk : k.word w = s.word w := by
    have h1 : a.word w = s.word w := (State.word_setWord ..).trans (if_neg (by simp only; omega))
    have h2 : b.word w = a.word w := (State.word_setWord ..).trans (if_neg (by simp only; omega))
    have h3 : c.word w = b.word w := (State.word_wrI ..).trans (if_neg (by simp only; omega))
    have h4 : d.word w = c.word w := (State.word_wrI ..).trans (if_neg (by simp only; omega))
    have h5 : e.word w = d.word w := (State.word_wrI ..).trans (if_neg (by simp only; omega))
    have h6 : g.word w = e.word w := (State.word_wrI ..).trans (if_neg (by simp only; omega))
    have h7 : i.word w = g.word w := (State.word_wrI ..).trans (if_neg (by simp only; omega))
    have h8 : j'.word w = i.word w := (State.word_setWord ..).trans (if_neg (by simp only; omega))
    have h9 : k.word w = j'.word w := (State.word_wr ..).trans (if_neg hh)
    rw [h9, h8, h7, h6, h5, h4, h3, h2, h1]
  split
  · exact (State.word_bump ..).trans ((if_neg hh).trans hk)
  · exact hk

theorem onlyRegFile_seedLogged (j : LdgJob) (x : RowRef × Nat) : OnlyRegFile s (s.seedLogged j x) := by
  unfold State.seedLogged
  split
  · exact onlyRegFile_seedLog ..
  · rfl

theorem State.rd_seedLogged_drains (j : LdgJob) (x : RowRef × Nat) : (s.seedLogged j x).rd LDG_DRAINS.COUNT = s.rd LDG_DRAINS.COUNT := by
  unfold State.seedLogged
  split
  · exact State.rdI_congr LDG_DRAINS.COUNT 0 (s.word_seedLog _ _ _ (by decide) (by decide))
  · rfl

/-- A drain of one row after D2: rounded, logged when stochastic, handed to the write-out. -/
theorem State.drainRead_one {k : Nat} {d : Drain} {rest : List Drain} {x : RowRef × Nat} (hd : tget [] s.ldg.drains k = d :: rest)
    (hrows : d.rows = [x]) (hctx : d.ctx = none) (hfull : s.ldgFull k = false) (hecc : s.ldg.ecc = []) :
    s.drainRead k =
      let u := ({ s with ldg := { s.ldg with drains := tput [] s.ldg.drains k rest } } : State).rowDrained x
      ((u.seedLogged d.job x).outAdded k ⟨d.job, roundRow d.job.o d.job.r.line (u.rowSt x.1).seed x.1 (s.rowImg x.2) 0,
        ((u.seedLogged d.job x).rowSt x.1).psn, rowStatus x (s.rowImg x.2) ((u.seedLogged d.job x).rowSt x.1).psn, 1⟩).ldgBack k := by
  have hd2 := State.drainD2_sound { s with ldg := { s.ldg with drains := tput [] s.ldg.drains k rest } } hecc x d.job.r.line
  have hrs : ({ s with ldg := { s.ldg with drains := tput [] s.ldg.drains k rest } } : State).drainRows d =
      ([(x.1, x.2, s.rowImg x.2)], ({ s with ldg := { s.ldg with drains := tput [] s.ldg.drains k rest } } : State).rowDrained x) := by
    unfold State.drainRows
    rw [hrows, List.foldl_cons, List.foldl_nil]
    dsimp only
    rw [hd2]
    rfl
  unfold State.drainRead
  rw [hd]
  dsimp only
  rw [hfull, hrs, hctx]
  dsimp only
  generalize ({ s with ldg := { s.ldg with drains := tput [] s.ldg.drains k rest } } : State).rowDrained x = u
  rw [if_neg (by decide), State.drainRound]
  have hany : ∀ p : RowRef × Nat × RowImage → Bool, [(x.1, x.2, s.rowImg x.2)].any p = p (x.1, x.2, s.rowImg x.2) := fun p => by
    rw [List.any_cons, List.any_nil, Bool.or_false]
  unfold State.drainStatus rowStatus State.seedLogged
  simp only [hany, List.foldl_cons, List.foldl_nil, List.length_singleton]
  rfl

/-- The Ledger after D2 of one row. -/
theorem State.rowDrained_ldg (x : RowRef × Nat) : (s.rowDrained x).ldg =
    { s.ldg with
      rows := tput (rowEmpty false) s.ldg.rows x.2 (rowEmpty x.1.fast)
      st := tput RowSt.init s.ldg.st x.1.base { s.rowSt x.1 with draining := false } } := rfl

theorem onlyLdgFront_rowDrained (x : RowRef × Nat) : OnlyLdgFront s (s.rowDrained x) :=
  (onlyLdgFront_ldg s _).trans ((onlyLdgFront_ldg _ _).trans (onlyRegFile_wr _ _ _).onlyLdgFront)

theorem OnlyRegFile.ldg {s u : State} (h : OnlyRegFile s u) : u.ldg = s.ldg := by
  unfold OnlyRegFile at h
  rw [h]

theorem drainRead_spec (s : State) (k : BitVec 2) (d : Drain) (x : (RowRef × Nat))
    (hhead : (tget [] s.ldg.drains k.toNat).head? = some d) (_hx : d.rows.head? = some x) :
    let o := d.job.o
    let st := if !x.1.fast && rowOvf (s.rowImg x.2) then stOverflow else if (s.rowSt x.1).psn then stPoison else stOk
    d.rows = [x] →
    d.ctx = none →
    s.ldgFull k.toNat = false →
    s.ldg.ecc = [] →
    ∃ t, exec (.drainRead k) s = .next t ∧ t.rowImg x.2 = rowEmpty x.1.fast
      ∧ t.rowSt x.1 = { s.rowSt x.1 with draining := false }
      ∧ (tget [] t.ldg.outs k.toNat) = tget [] s.ldg.outs k.toNat ++ [⟨d.job, roundRow o d.job.r.line (s.rowSt x.1).seed x.1 (s.rowImg
        x.2) 0, (s.rowSt x.1).psn, st, 1⟩]
      ∧ tget [] t.ldg.drains k.toNat = (tget [] s.ldg.drains k.toNat).tail
      ∧ TabBut (rowEmpty false) [x.2] s.ldg.rows t.ldg.rows
      ∧ TabBut RowSt.init [x.1.base] s.ldg.st t.ldg.st
      ∧ t.rd LDG_DRAINS.COUNT = min (s.rd LDG_DRAINS.COUNT + 1) (2 ^ LDG_DRAINS.COUNT.w - 1)
      ∧ t.out = []
      ∧ OnlyRegs { s with ldg := t.ldg, front := t.front } t
      ∧ (o.rmode ≠ 2 → RegsBut [LDG_DRAINS.word.off] s t) := by
  intro o st hrows hctx hfull hecc
  obtain ⟨rest, hd⟩ : ∃ rest, tget [] s.ldg.drains k.toNat = d :: rest := by
    cases hu : tget [] s.ldg.drains k.toNat with
    | nil => rw [hu] at hhead; exact absurd hhead (by simp)
    | cons a l => rw [hu] at hhead; exact ⟨l, by rw [Option.some_inj.mp hhead]⟩
  have hform := s.begin.drainRead_one (k := k.toNat) (by rw [State.begin_ldg]; exact hd) hrows hctx
    (by rw [State.ldgFull, State.begin_front]; exact hfull) (by rw [State.begin_ldg]; exact hecc)
  obtain ⟨v, hv⟩ : ∃ v : State, v = { s.begin with ldg := { s.begin.ldg with drains := tput [] s.begin.ldg.drains k.toNat rest } } := ⟨_, rfl⟩
  rw [← hv] at hform
  have hvldg : v.ldg = { s.ldg with drains := tput [] s.ldg.drains k.toNat rest } := by rw [hv, State.begin_ldg]
  have himg : s.begin.rowImg x.2 = s.rowImg x.2 := by rw [State.rowImg, State.rowImg, State.begin_ldg]
  have hrow : v.rowSt x.1 = s.rowSt x.1 := by rw [State.rowSt, State.rowSt, hvldg]
  have hdrained : (v.rowDrained x).rowSt x.1 = { s.rowSt x.1 with draining := false } := by
    rw [State.rowSt, State.rowDrained_ldg, hrow]
    exact tget_tput_same _ _ _ _
  have hlogged : ((v.rowDrained x).seedLogged d.job x).rowSt x.1 = { s.rowSt x.1 with draining := false } := by
    rw [← hdrained, State.rowSt, State.rowSt, (onlyRegFile_seedLogged ..).ldg]
  obtain ⟨w, hw⟩ : ∃ w : WriteOut, w = ⟨d.job, roundRow o d.job.r.line (s.rowSt x.1).seed x.1 (s.rowImg x.2) 0, (s.rowSt x.1).psn, st, 1⟩ :=
    ⟨_, rfl⟩
  obtain ⟨u, hu⟩ : ∃ u : State, u = (((v.rowDrained x).seedLogged d.job x).outAdded k.toNat w).ldgBack k.toNat := ⟨_, rfl⟩
  have hexec : exec (.drainRead k) s = .next u.settle := by
    change settled (s.begin.drainRead k.toNat) = _
    rw [hform, hu, hw]
    dsimp only
    rw [hdrained, hlogged, himg]
    rfl
  have hldg : u.ldg = { s.ldg with
      drains := tput [] s.ldg.drains k.toNat rest
      rows := tput (rowEmpty false) s.ldg.rows x.2 (rowEmpty x.1.fast)
      st := tput RowSt.init s.ldg.st x.1.base { s.rowSt x.1 with draining := false }
      outs := tput [] s.ldg.outs k.toNat (tget [] s.ldg.outs k.toNat ++ [w]) } := by
    rw [hu, State.ldgBack, State.outAdded, (onlyRegFile_seedLogged ..).ldg, State.rowDrained_ldg, hrow, hvldg]
  have honly : OnlyLdgFront s.begin u := by
    rw [hu, hv]
    exact ((onlyLdgFront_ldg s.begin _).trans (onlyLdgFront_rowDrained _ x)).trans
      ((onlyRegFile_seedLogged _ d.job x).onlyLdgFront.trans ((onlyLdgFront_ldg _ _).trans (onlyLdgFront_ldgBack _ _)))
  refine ⟨u.settle, hexec, ?_, ?_, ?_, ?_, fun key hkey => ?_, fun key hkey => ?_, ?_, honly.onlyRegs.1, honly.onlyRegs.2,
    fun hr i hi hp => ?_⟩
  · rw [State.rowImg, State.settle_ldg, hldg]
    exact tget_tput_same _ _ _ _
  · rw [State.rowSt, State.settle_ldg, hldg]
    exact tget_tput_same _ _ _ _
  · rw [State.settle_ldg, hldg, ← hw]
    exact tget_tput_same _ _ _ _
  · rw [State.settle_ldg, hldg, hd]
    exact tget_tput_same _ _ _ _
  · rw [State.settle_ldg, hldg]
    exact (tget_tput_other _ _ _ _ (by simpa using hkey)).symm
  · rw [State.settle_ldg, hldg]
    exact (tget_tput_other _ _ _ _ (by simpa using hkey)).symm
  · have hcount : u.rd LDG_DRAINS.COUNT = (v.rowDrained x).rd LDG_DRAINS.COUNT := by
      rw [hu]
      exact State.rd_seedLogged_drains _ d.job x
    have hsame : ((v.setRowImg x.2 (rowEmpty x.1.fast)).setRowSt x.1 (fun t => { t with draining := false })).rd LDG_DRAINS.COUNT
        = s.rd LDG_DRAINS.COUNT := by
      rw [hv]
      exact s.begin_rd (f := LDG_DRAINS.COUNT) rfl
    rw [State.rd_settle, hcount, State.rowDrained, State.rd_bump_same _ _ _ (by decide), hsame]
  · have hlog : (v.rowDrained x).seedLogged d.job x = v.rowDrained x := if_neg hr
    have hword : (v.rowDrained x).word i = s.word i := by
      rw [State.rowDrained, State.word_bump, if_neg (by simpa using hi), hv]
      exact s.word_begin i hp
    rw [State.word_settle, hu, hlog]
    exact hword

/-! ### LDG_ROW_DRAIN -/

theorem regRow_rowDrain (b : Bool) : regRow b LDG_ROW_DRAIN.word.off = some ⟨0x0C03C, 1, 1, 0, 0x3B, 0x0, 0x80000000, 0x0, 0x0⟩ := by
  cases b <;> rfl

/-- The drain registers' line. -/
def State.drainLine (s : State) : LineAddr := BitVec.ofNat 45 (s.rd LDG_DRN_PA_HI.PA_HI * 2 ^ 25 + s.rd LDG_DRN_PA_LO.PA_LO)

/-- The job of a drain that LDG_ROW_DRAIN starts. -/
def State.rowDrainJob (s : State) (w : Word) : LdgJob :=
  s.ldgJob { s.walkReq s.drainLine with scope := BitVec.ofNat 2 (fieldGet LDG_ROW_DRAIN.SCOPE w) }
    ⟨.ldrain, BitVec.ofNat 32 (s.rd LDG_DRN_EPOCH.EPOCH), 0, false, 0, 0, 0, false, BitVec.ofNat 2 (fieldGet LDG_ROW_DRAIN.RMODE w),
      fieldGet LDG_ROW_DRAIN.SAT w != 0, false, 0, 0, 0, 0, 0⟩ .register false

/-- GO stands, answered. -/
def State.rowDrainGo (s : State) (m : MgWrite) : State :=
  ((s.plain LDG_ROW_DRAIN.word.off m.word).setFlag LDG_ROW_DRAIN.GO true).ok m.src

theorem State.ldgMirBlocked_off (h : s.pairOn = false) (j : LdgJob) : s.ldgMirBlocked j = false := by
  have hm : s.ldgMirrored j = false := by
    unfold State.ldgMirrored
    split
    · rw [h]
      rfl
    · rfl
  rw [State.ldgMirBlocked, hm]
  rfl

theorem State.writeRowDrain_refused {m : MgWrite} (hgo : m.word.getLsbD 31 = true)
    (h : s.flag LDG_ROW_DRAIN.GO = true ∨ fieldGet LDG_ROW_DRAIN.RMODE m.word = 3) :
    s.writeRowDrain m = s.refuse m.src (if s.flag LDG_ROW_DRAIN.GO = true then rsnBusy else rsnField) := by
  unfold State.writeRowDrain
  extract_lets go u v line r o j
  by_cases hf : s.flag LDG_ROW_DRAIN.GO = true
  · rw [if_pos hf, if_pos (by rw [hf, Bool.and_true]; exact hgo)]
  · rw [if_neg hf, if_neg (by rw [Bool.and_eq_true]; exact fun hc => hf hc.2), if_pos (h.resolve_left hf)]

theorem State.writeRowDrain_taken {m : MgWrite} (hgo : m.word.getLsbD 31 = true)
    (h : ¬ (s.flag LDG_ROW_DRAIN.GO = true ∨ fieldGet LDG_ROW_DRAIN.RMODE m.word = 3)) (hfail : (s.rowDrainGo m).front.failed = false)
    (hserved : (s.rowDrainGo m).served = true) (hprep : (s.rowDrainGo m).preparing = false) (hpair : (s.rowDrainGo m).pairOn = false) :
    s.writeRowDrain m = ((s.rowDrainGo m).slotServed ((s.rowDrainGo m).lane (s.rowDrainGo m).drainLine)).pushLdg
      ((s.rowDrainGo m).rowDrainJob m.word) := by
  rw [not_or] at h
  unfold State.writeRowDrain
  extract_lets go u v line r o j
  have hv : v = s.rowDrainGo m := rfl
  rw [if_neg (by rw [Bool.and_eq_true]; exact fun hc => h.1 hc.2), if_neg h.2, if_neg (by rw [show go = true from hgo]; decide), hv, hfail, hserved,
    hprep, State.ldgMirBlocked_off _ hpair, if_neg (by decide), if_neg (by simp)]
  rfl

theorem onlyLdgFront_rowDrain (u : State) (m : MgWrite) :
    OnlyRegFile u ((u.plain LDG_ROW_DRAIN.word.off m.word).setFlag LDG_ROW_DRAIN.GO true) :=
  (onlyRegFile_plain u _ m.word).trans (onlyRegFile_wr _ _ _)

theorem State.word_rowDrain (w : Word) {k : Nat} (h : k ≠ LDG_ROW_DRAIN.word.off) :
    ((s.plain LDG_ROW_DRAIN.word.off w).setFlag LDG_ROW_DRAIN.GO true).word k = s.word k := by
  rw [State.word_setFlag, if_neg h, State.word_plain_other _ _ h]

/-- At most registers, the PMU's freeze, the front island, the Ledger and what is sent change; of the registers outside the PMU, none. -/
structure OnlyServed (s u : State) : Prop where
  only : u = { s with regs := u.regs, pmuFrz := u.pmuFrz, front := u.front, ldg := u.ldg }
  words : ∀ k, pmuBlock k = false → u.word k = s.word k

theorem OnlyServed.trans {s t u : State} (hst : OnlyServed s t) (htu : OnlyServed t u) : OnlyServed s u := by
  refine ⟨?_, fun k hk => (htu.words k hk).trans (hst.words k hk)⟩
  have h1 := hst.only
  have h2 := htu.only
  rw [h2, h1]

theorem onlyServed_event (code : Nat) (lane label : Option Nat) (inc : Nat) : OnlyServed s (s.event code lane label inc) := by
  refine ⟨?_, fun k hk => s.word_event code lane label inc k hk⟩
  have h := onlyPmu_event s code lane label inc
  unfold OnlyPmu at h
  rw [h]

theorem onlyServed_slotServed (lane : Nat) : OnlyServed s (s.slotServed lane) := by
  unfold State.slotServed State.useSlot
  exact ((onlyServed_event s 0x10 (some lane) none 1).trans (onlyServed_event _ 0x11 (some lane) none 1)).trans ⟨rfl, fun _ _ => rfl⟩

theorem onlyServed_pushLdg (j : LdgJob) : OnlyServed s (s.pushLdg j) := ⟨rfl, fun _ _ => rfl⟩

theorem State.slotServed_ldg (lane : Nat) : (s.slotServed lane).ldg = s.ldg := by
  rw [State.slotServed, State.useSlot, State.event_ldg, State.event_ldg]

theorem OnlyServed.rd {s u : State} (h : OnlyServed s u) {f : Field} (hp : pmuBlock f.off = false) (hs : f.stride = 0) : u.rd f = s.rd f :=
  State.rdI_congr f 0 (h.words _ (by rw [hs]; simpa using hp))

/-- The frame of a served drain command. -/
theorem OnlyServed.onlyRegs {s u v : State} (hv : OnlyRegFile s.begin v) (o : Out) (h : OnlyServed { v with out := v.out ++ [o] } u) :
    u.settle.out = [o] ∧ OnlyRegs { s with ldg := u.settle.ldg, front := u.settle.front } u.settle := by
  have hf := h.only
  unfold OnlyRegFile at hv
  generalize v.regs = R at hv
  subst hv
  generalize u.regs = R', u.ldg = L, u.front = F, u.pmuFrz = Z at hf
  subst hf
  refine ⟨by simp, ?_⟩
  apply onlyRegs_settle <;> simp

theorem ldgRowDrain_spec (s : State) (m : MgWrite) :
    let line := BitVec.ofNat 45 (s.rd LDG_DRN_PA_HI.PA_HI * 2 ^ 25 + s.rd LDG_DRN_PA_LO.PA_LO)
    let k := s.lane line
    let bad := s.flag LDG_ROW_DRAIN.GO = true ∨ fieldGet LDG_ROW_DRAIN.RMODE m.word = 3
    Admits s LDG_ROW_DRAIN.word.off m.src →
    m.word.getLsbD 31 = true →
    s.served = true →
    s.front.failed = false →
    s.preparing = false →
    s.pairOn = false →
    ∃ t, exec (.ldgRowDrain m) s = .next t ∧ (bad → t.out = [answerOut m.src stRefused (if s.flag LDG_ROW_DRAIN.GO = true then rsnBusy
      else rsnField) 0] ∧ t.ldg = s.ldg ∧ RegsBut [] s t)
      ∧ (¬ bad → t.out = [answerOut m.src stOk rsnNone 0] ∧ t.rd LDG_ROW_DRAIN.GO = 1 ∧ (t.ldgLane k).dropLast = s.ldgLane k)
      ∧ (¬ bad → ((t.ldgLane k).getLast?.map (fun j => (j.r.line, j.o.kind, j.o.epoch, j.src))) = some (line, .ldrain, s.word
        LDG_DRN_EPOCH.word.off, .register))
      ∧ t.ldg = { s.ldg with lane := t.ldg.lane }
      ∧ OnlyRegs { s with ldg := t.ldg, front := t.front } t
      ∧ RegsBut [LDG_ROW_DRAIN.word.off] s t := by
  intro line k bad hgate hgo hserved hfail hprep hpair
  have hbusy := s.begin_flag (f := LDG_ROW_DRAIN.GO) rfl
  have hexec : exec (.ldgRowDrain m) s = .next (s.begin.writeRowDrain m).settle := settled_mgWrite hgate _ _
  by_cases hb : bad
  · rw [s.begin.writeRowDrain_refused hgo (by rw [hbusy]; exact hb), hbusy] at hexec
    have hldg : (s.begin.refuse m.src (if s.flag LDG_ROW_DRAIN.GO = true then rsnBusy else rsnField)).settle.ldg = s.ldg := by simp
    refine ⟨_, hexec, fun _ => ⟨by simp [State.refuse_out], hldg, regsBut_begin_answer s _ _ _ _⟩, fun h => absurd hb h,
      fun h => absurd hb h, by rw [hldg], ?_, fun j _ hp => regsBut_begin_answer s _ _ _ _ j (by simp) hp⟩
    apply onlyRegs_settle <;> simp
  · obtain ⟨v, hv⟩ : ∃ v : State, v = (s.begin.plain LDG_ROW_DRAIN.word.off m.word).setFlag LDG_ROW_DRAIN.GO true := ⟨_, rfl⟩
    obtain ⟨w, hw⟩ : ∃ w : State, w = { v with out := v.out ++ [answerOut m.src stOk rsnNone 0] } := ⟨_, rfl⟩
    have hwgo : s.begin.rowDrainGo m = w := by rw [State.rowDrainGo, ← hv, State.ok, State.answer_eq, hw]
    have hvfile : OnlyRegFile s.begin v := by rw [hv]; exact onlyLdgFront_rowDrain s.begin m
    have hvldg : v.ldg = s.ldg := hvfile.ldg.trans s.begin_ldg
    have hword : ∀ i, i ≠ LDG_ROW_DRAIN.word.off → pmuBlock i = false → w.word i = s.word i := fun i hi hp => by
      have h : v.word i = s.word i := by
        rw [hv, State.word_rowDrain _ _ hi]
        exact s.word_begin i hp
      rw [hw]
      exact h
    have hrd : ∀ f : Field, f.off ≠ LDG_ROW_DRAIN.word.off → pmuBlock f.off = false → f.stride = 0 → w.rd f = s.rd f :=
      fun f ho hp hs => State.rdI_congr f 0 (by rw [hs]; exact hword _ (by simpa using ho) (by simpa using hp))
    have hwfront : w.front = s.front := by rw [hw]; exact (OnlyRegFile.front hvfile).trans s.begin_front
    have hwmir : w.mir = s.mir := by
      unfold OnlyRegFile at hvfile
      rw [hw, hvfile]
      exact s.begin_mir
    have hws64 : w.s64 = s.s64 := by rw [hw]; exact hvfile.s64.trans s.begin_s64
    have hline : w.drainLine = line := by
      rw [State.drainLine, hrd LDG_DRN_PA_HI.PA_HI (by decide) rfl rfl, hrd LDG_DRN_PA_LO.PA_LO (by decide) rfl rfl]
    have hlane : ∀ x : State, x.s64 = s.s64 → x.lane line = k := fun x hx => by
      simp only [k, State.lane, State.laneOf, State.lanes, hx]
    have hform := s.begin.writeRowDrain_taken hgo (by rw [hbusy]; exact hb) (by rw [hwgo, hwfront]; exact hfail)
      (by rw [hwgo, State.served, hrd PWR_STATUS.STATE (by decide) rfl rfl, hrd PWR_STATUS.PHASE (by decide) rfl rfl]; exact hserved)
      (by rw [hwgo, State.preparing, hrd MIR_RESTRIPE.STATE (by decide) rfl rfl]; exact hprep)
      (by rw [hwgo, State.pairOn, hrd MIR_STATUS.STATE (by decide) rfl rfl, hwmir]; exact hpair)
    rw [hwgo, hline, hlane w hws64] at hform
    rw [hform] at hexec
    have honly : OnlyServed w ((w.slotServed k).pushLdg (w.rowDrainJob m.word)) :=
      (onlyServed_slotServed w k).trans (onlyServed_pushLdg _ _)
    have hslot : (w.slotServed k).s64 = s.s64 := by rw [(onlyServed_slotServed w k).only]; exact hws64
    have hjline : (w.rowDrainJob m.word).r.line = line := hline
    have hlist : ((w.slotServed k).pushLdg (w.rowDrainJob m.word)).ldg =
        { s.ldg with lane := tput [] s.ldg.lane k (s.ldgLane k ++ [w.rowDrainJob m.word]) } := by
      have hl : (w.slotServed k).ldg = s.ldg := by rw [State.slotServed_ldg, hw]; exact hvldg
      rw [State.pushLdg, hjline, hlane _ hslot, State.setLdgLane, State.ldgLane, hl]
      rfl
    have hlanes : ((w.slotServed k).pushLdg (w.rowDrainJob m.word)).settle.ldgLane k = s.ldgLane k ++ [w.rowDrainJob m.word] := by
      rw [State.ldgLane, State.settle_ldg, hlist]
      exact tget_tput_same _ _ _ _
    have hframe := OnlyServed.onlyRegs hvfile (answerOut m.src stOk rsnNone 0) (by rw [← hw]; exact honly)
    refine ⟨_, hexec, fun h => absurd h hb, fun _ => ⟨hframe.1, ?_, ?_⟩, fun _ => ?_, ?_, hframe.2, fun i hi hp => ?_⟩
    · have hgo1 : v.rd LDG_ROW_DRAIN.GO = 1 := by
        rw [hv]
        exact State.rd_setFlag_same _ _ _ (by decide) rfl
      rw [State.rd_settle, honly.rd (f := LDG_ROW_DRAIN.GO) rfl rfl, hw]
      exact hgo1
    · rw [hlanes, List.dropLast_concat]
    · have hepoch : BitVec.ofNat 32 (w.rd LDG_DRN_EPOCH.EPOCH) = s.word LDG_DRN_EPOCH.word.off := by
        rw [hrd LDG_DRN_EPOCH.EPOCH (by decide) rfl rfl, State.rd, State.rdI, fieldGet_word _ _ rfl rfl, BitVec.ofNat_toNat,
          BitVec.setWidth_eq]
        rfl
      rw [hlanes, List.getLast?_concat, Option.map_some, hjline]
      exact congrArg (fun e => some (line, LedgerKind.ldrain, e, LdgFrom.register)) hepoch
    · rw [State.settle_ldg, hlist]
    · rw [State.word_settle, honly.words i hp]
      exact hword i (by simpa using hi) hp

/-! ### HELD_DRAIN_TIMEOUT -/

/-- A fault entry of a context, before its tokens are dropped. -/
def State.faultEntered (s : State) (c low : Nat) : State :=
  (s.chainEntry 1 2 c (s.rdI CHN_CTX_CTL.CHAIN c) low true).setChnFault c true

theorem State.chainFault_new {c : Nat} (low : Nat) (h : s.chnFaulty c = false) : s.chainFault c low = (s.faultEntered c low).chainDrop c := by
  rw [State.chainFault, h]
  rfl

theorem State.chainFault_old {c : Nat} (low : Nat) (h : s.chnFaulty c = true) : s.chainFault c low = s := by
  rw [State.chainFault, h]
  rfl

/-- A context that fails: shown, its class pending, its held drains gone. -/
theorem State.chainFault_shown {c : Nat} (hc : c < 16) (low : Nat) (h : s.chnFaulty c = false) :
    ((s.chainFault c low).rd CHN_STATUS.FAULT).testBit c = true ∧ ((s.chainFault c low).rd ERR_STATUS.PEND).testBit 6 = true
      ∧ (s.chainFault c low).ldg.held = s.ldg.held.filter (fun x => x.ctx != c) := by
  have hdrop := chainDropped_chainDrop (s.faultEntered c low) c
  have hshown := faultsShown_chainDrop (s.faultEntered c low) c
  have hheld : (s.faultEntered c low).ldg.held = s.ldg.held :=
    (chainKeeps_chainEntry s 1 2 c (s.rdI CHN_CTX_CTL.CHAIN c) low true).held
  have hbit : ∀ a n : Nat, (a ||| 2 ^ n).testBit n = true := fun a n => by
    rw [Nat.testBit_or, Nat.testBit_two_pow_self, Bool.or_true]
  rw [s.chainFault_new low h]
  refine ⟨?_, hshown.pend 6 ?_, by rw [hdrop.held, hheld]⟩
  · rw [hshown.shown, State.faultEntered, State.setChnFault, State.rd_setBit_true _ _ (by decide) hc]
    exact hbit _ _
  · rw [State.faultEntered, State.setChnFault, State.rd_setBit_apart _ _ _ (by decide), State.setFlagI]
    rw [show ∀ u : State, (u.wrI CHN_CTX_CTL.FAULT c true.toNat).rd ERR_STATUS.PEND = u.rd ERR_STATUS.PEND from
      fun u => State.rdI_wrI_other _ _ _ _ _ _ (by simp only; omega), State.chainEntry, State.rd_fault_pend _ (by decide) rfl]
    exact hbit _ _

theorem State.heldTimeout_fires {line : LineAddr} {h : Held} (hf : s.ldg.held.find? (fun h => h.job.r.line = line) = some h)
    (hrows : h.job.rows ≠ []) (hon : s.rd CHN_CTL.HOLD_TMO ≠ 0) : ∃ n, s.heldTimeout line = s.chainFault h.ctx n := by
  unfold State.heldTimeout
  rw [hf]
  dsimp only
  rw [if_neg hon]
  cases hr : h.job.rows with
  | nil => exact absurd hr hrows
  | cons f l => exact ⟨_, rfl⟩

theorem State.heldTimeout_off {line : LineAddr} (hoff : s.rd CHN_CTL.HOLD_TMO = 0) : s.heldTimeout line = s := by
  unfold State.heldTimeout
  split
  · rw [if_pos hoff]
  · rfl

theorem heldDrainTimeout_spec (s : State) (line : LineAddr) (h : Held)
    (hf : s.ldg.held.find? (fun h => h.job.r.line = line) = some h) (hrows : h.job.rows ≠ []) (hc : h.ctx < 16) :
    ∃ t, exec (.heldDrainTimeout line) s = .next t ∧ (s.rd CHN_CTL.HOLD_TMO ≠ 0 → s.chnFaulty h.ctx = false → t.chnFaulty h.ctx = true ∧
      (t.rd CHN_STATUS.FAULT).testBit h.ctx = true ∧ (t.rd ERR_STATUS.PEND).testBit 6 = true ∧ t.ldg.held = s.ldg.held.filter (fun x =>
      x.ctx != h.ctx))
      ∧ (s.rd CHN_CTL.HOLD_TMO = 0 ∨ s.chnFaulty h.ctx = true → t.ldg = s.ldg ∧ t.chn = s.chn ∧ RegsBut [] s t)
      ∧ t.stk = s.stk := by
  have htmo : s.begin.rd CHN_CTL.HOLD_TMO = s.rd CHN_CTL.HOLD_TMO := s.begin_rd rfl
  have hfaulty : s.begin.chnFaulty h.ctx = s.chnFaulty h.ctx := by
    rw [State.chnFaulty, State.chnFaulty, State.flagI, State.flagI, s.begin_rdI_chn (by decide) rfl (by omega)]
  have hf' : s.begin.ldg.held.find? (fun h => h.job.r.line = line) = some h := by rw [State.begin_ldg]; exact hf
  have hsame : s.begin.settle.ldg = s.ldg ∧ s.begin.settle.chn = s.chn ∧ RegsBut [] s s.begin.settle :=
    ⟨by simp, by simp, fun i _ hp => s.word_begin i hp⟩
  refine ⟨(s.begin.heldTimeout line).settle, rfl, ?_⟩
  by_cases hoff : s.rd CHN_CTL.HOLD_TMO = 0
  · rw [s.begin.heldTimeout_off (htmo.trans hoff)]
    exact ⟨fun hn => absurd hoff hn, fun _ => hsame, by simp⟩
  · obtain ⟨n, hform⟩ := s.begin.heldTimeout_fires hf' hrows (by rw [htmo]; exact hoff)
    rw [hform]
    cases hfa : s.chnFaulty h.ctx
    case true =>
      rw [State.chainFault_old _ n (hfaulty.trans hfa)]
      exact ⟨fun _ hn => absurd hn (by decide), fun _ => hsame, by simp⟩
    case false =>
      have hfail := chainFailed_chainFault s.begin hc n
      obtain ⟨h1, h2, h3⟩ := s.begin.chainFault_shown hc n (hfaulty.trans hfa)
      refine ⟨fun _ _ => ⟨hfail.faulty, h1, h2, by rw [State.settle_ldg, h3, State.begin_ldg]⟩,
        fun hn => absurd (hn.resolve_left hoff) (by decide), ?_⟩
      rw [State.settle_stk, hfail.stk, State.begin_stk]

theorem heldDrainTimeout_other (s : State) (line : LineAddr) (hf : s.ldg.held.any (fun h => h.job.r.line = line) = false) :
    ∃ t, exec (.heldDrainTimeout line) s = .next t ∧ t.out = []
      ∧ OnlyRegs s t
      ∧ RegsBut [] s t := by
  have hnone : s.begin.ldg.held.find? (fun h => h.job.r.line = line) = none := by
    rw [State.begin_ldg, List.find?_eq_none]
    exact fun x hx hl => absurd (List.any_eq_true.mpr ⟨x, hx, hl⟩) (by rw [hf]; decide)
  have hform : s.begin.heldTimeout line = s.begin := by
    rw [State.heldTimeout, hnone]
  refine ⟨s.begin.settle, congrArg settled hform, by simp, ?_, fun i _ hp => s.word_begin i hp⟩
  apply onlyRegs_settle <;> simp

end Sys2Proof.Machine
end

section
/-! SUPPORT. What answers leave: the memory and the Ledger as they were, and every message handed to a casement still handed to it. -/

namespace Sys2Proof.Machine

variable (s : State)

/-! ### The memory -/

/-- The tags, the beats, what places a line in its banks, the Catalogue and the Ledger stay. -/
structure MemKept (s u : State) : Prop where
  s64 : u.s64 = s.s64
  tags : u.stk.tags = s.stk.tags
  beats : u.stk.beats = s.stk.beats
  remap : u.stk.remap = s.stk.remap
  halves : u.stk.halves = s.stk.halves
  lostLb : u.stk.lostLb = s.stk.lostLb
  cat : u.coh.cat = s.coh.cat
  ldg : u.ldg = s.ldg

theorem MemKept.refl (s : State) : MemKept s s := ⟨rfl, rfl, rfl, rfl, rfl, rfl, rfl, rfl⟩

theorem MemKept.trans {s t u : State} (hst : MemKept s t) (htu : MemKept t u) : MemKept s u :=
  ⟨htu.s64.trans hst.s64, htu.tags.trans hst.tags, htu.beats.trans hst.beats, htu.remap.trans hst.remap, htu.halves.trans hst.halves,
    htu.lostLb.trans hst.lostLb, htu.cat.trans hst.cat, htu.ldg.trans hst.ldg⟩

theorem OnlyRegFile.memKept {s u : State} (h : OnlyRegFile s u) : MemKept s u := by
  unfold OnlyRegFile at h
  constructor <;> rw [h]

theorem SentMir.memKept {s u : State} (h : SentMir s u) : MemKept s u := by
  have hf := h.1
  unfold OnlyLinks at hf
  constructor <;> rw [hf]

theorem Sent.memKept {s u : State} (h : Sent s u) : MemKept s u := h.sentMir.memKept

theorem memKept_front (f : Front) : MemKept s { s with front := f } := ⟨rfl, rfl, rfl, rfl, rfl, rfl, rfl, rfl⟩
theorem memKept_ord (o : Ord) : MemKept s { s with ord := o } := ⟨rfl, rfl, rfl, rfl, rfl, rfl, rfl, rfl⟩

theorem sendRel_memKept : SendRel MemKept := sendRel_of_sent (R := MemKept) MemKept.trans Sent.memKept

theorem memKept_reply (m : Msg) : MemKept s (s.reply m) :=
  sendRel_memKept.reply s (fun u _ => memKept_front u _) m

theorem memKept_setWrite (id : Nat) (f : PendW → PendW) : MemKept s (s.setWrite id f) := memKept_ord s _

theorem memKept_drainAnswer (reg : Bool) (m : Msg) : MemKept s (s.drainAnswer reg m) := by
  unfold State.drainAnswer
  split
  · exact ((onlyRegFile_wr s _ _).trans (onlyRegFile_wr _ _ _)).memKept
  · exact memKept_reply ..

theorem memKept_ackOne (w : PendW) : MemKept s (s.ackOne w) := by
  unfold State.ackOne
  split
  · exact (sent_event ..).memKept.trans (memKept_drainAnswer ..)
  · split
    · exact MemKept.refl s
    · exact memKept_reply ..

theorem memKept_foldl {α : Type} {g : State → α → State} (h : ∀ u a, MemKept u (g u a)) (l : List α) (s : State) : MemKept s (l.foldl g s) :=
  sendRel_memKept.foldl h l s

theorem memKept_fenceCheck : MemKept s s.fenceCheck := by
  unfold State.fenceCheck
  extract_lets done u
  exact (memKept_ord s _).trans (memKept_foldl (fun v w => memKept_reply v (fenceDoneMsg w)) _ _)

theorem memKept_ackCheck : MemKept s s.ackCheck := by
  unfold State.ackCheck
  extract_lets done u
  exact (memKept_ord s _).trans ((memKept_foldl (fun v w => memKept_ackOne v w) _ _).trans (memKept_fenceCheck _))

theorem memKept_mirWrite (line : LineAddr) (d : LineData) (dirty psn : Bool) (wait : Option Nat) :
    MemKept s (s.mirWrite line d dirty psn wait) := by
  have hset : ∀ (u : State) (k : Option Nat) (f : Nat → PendW → PendW),
      MemKept u (match k with | some k => u.setWrite k (f k) | none => u) := fun u k f => by
    cases k with
    | none => exact MemKept.refl u
    | some k => exact memKept_setWrite ..
  unfold State.mirWrite
  split
  · exact (hset s wait (fun _ w => { w with mir := decide (2 ≤ w.r.scope.toNat) })).trans
      ((sentMir_withMir _ _).memKept.trans (sentMir_mirSend ..).memKept)
  · exact hset s wait (fun _ w => { w with mir := false })

theorem memKept_farWrite (line : LineAddr) (d : LineData) (psn : Bool) (why : FarWhy) : MemKept s (s.farWrite line d psn why) := by
  have hcred : ∀ (u : State) (sub wr : Bool) (n : Nat), MemKept u (u.setFarCredit sub wr n) := fun u _ _ _ => by
    constructor <;> rfl
  unfold State.farWrite
  extract_lets sub w
  split
  · unfold State.farWriteGo
    split
    rename_i c u heq
    have hu : MemKept s u := by
      have h : u = s.fresh.2 := by rw [heq]
      rw [h]
      constructor <;> rfl
    extract_lets used tag v src x
    have hx : MemKept v x := by constructor <;> rfl
    refine hu.trans ((hcred u _ _ _).trans (hx.trans ((sent_event x 0x53 none none 8).memKept.trans ?_)))
    exact sendRel_memKept.sendOn _ (fun y => hcred y _ _ _) (by decide) _ _ _
  · constructor <;> rfl

/-! ### Messages handed to casements -/

/-- Links without an injector stay so, the links that are up and the slice's own number stay, and what was handed to a casement is
still handed to it. -/
structure Handed (s u : State) : Prop where
  s64 : u.s64 = s.s64
  pins : u.pins = s.pins
  cfg : u.cfg = s.cfg
  up : u.rd LNK_STATUS.UP = s.rd LNK_STATUS.UP
  self : u.rd SLC_LIVE.SELF = s.rd SLC_LIVE.SELF
  quiet : ∀ c < 8, s.flagI LNK_INJ_CTL.EN c = false → u.flagI LNK_INJ_CTL.EN c = false
  hands : ∀ (c : Nat) (m : Msg), s.hands c m = true → u.hands c m = true

theorem Handed.refl (s : State) : Handed s s := ⟨rfl, rfl, rfl, rfl, rfl, fun _ _ h => h, fun _ _ h => h⟩

theorem Handed.trans {s t u : State} (hst : Handed s t) (htu : Handed t u) : Handed s u :=
  ⟨htu.s64.trans hst.s64, htu.pins.trans hst.pins, htu.cfg.trans hst.cfg, htu.up.trans hst.up, htu.self.trans hst.self,
    fun c hc h => htu.quiet c hc (hst.quiet c hc h), fun c m h => htu.hands c m (hst.hands c m h)⟩

/-- Registers other than those read here. -/
theorem OnlyRegFile.handed {s u : State} (h : OnlyRegFile s u) (hup : u.word LNK_STATUS.word.off = s.word LNK_STATUS.word.off)
    (hself : u.word SLC_LIVE.word.off = s.word SLC_LIVE.word.off)
    (hq : ∀ c < 8, s.flagI LNK_INJ_CTL.EN c = false → u.flagI LNK_INJ_CTL.EN c = false) : Handed s u := by
  have hrest : u.s64 = s.s64 ∧ u.pins = s.pins ∧ u.cfg = s.cfg ∧ u.front = s.front ∧ u.out = s.out := by
    unfold OnlyRegFile at h
    rw [h]
    exact ⟨rfl, rfl, rfl, rfl, rfl⟩
  obtain ⟨h64, hpins, hcfg, hfront, hout⟩ := hrest
  exact ⟨h64, hpins, hcfg, State.rdI_congr LNK_STATUS.UP 0 hup, State.rdI_congr SLC_LIVE.SELF 0 hself, hq,
    fun c m hm => by rw [State.hands, State.link, hfront, hout]; exact hm⟩

theorem handed_wrI {f : Field} (i v : Nat) (hup : LNK_STATUS.word.off ≠ f.off + f.stride * i) (hself : SLC_LIVE.word.off ≠ f.off + f.stride * i)
    (hq : ∀ c < 8, LNK_INJ_CTL.EN.off + LNK_INJ_CTL.EN.stride * c ≠ f.off + f.stride * i) : Handed s (s.wrI f i v) :=
  (onlyRegFile_wrI s f i v).handed ((State.word_wrI ..).trans (if_neg hup)) ((State.word_wrI ..).trans (if_neg hself))
    (fun c hc h => by rw [State.flagI, State.rdI_wrI_other _ _ _ _ _ _ (hq c hc)]; exact h)

theorem handed_wr {f : Field} (v : Nat) (hf : f.stride = 0) (hup : LNK_STATUS.word.off ≠ f.off) (hself : SLC_LIVE.word.off ≠ f.off)
    (hq : ∀ c < 8, LNK_INJ_CTL.EN.off + LNK_INJ_CTL.EN.stride * c ≠ f.off) : Handed s (s.wr f v) := by
  have h0 : f.off + f.stride * 0 = f.off := by rw [hf]; rfl
  exact handed_wrI s 0 v (by rw [h0]; exact hup) (by rw [h0]; exact hself) (by rw [h0]; exact hq)

/-- A change outside what is read here, that only adds to what is sent and queued. -/
theorem handed_of {s u : State} (h64 : u.s64 = s.s64) (hregs : u.regs = s.regs) (hpins : u.pins = s.pins) (hcfg : u.cfg = s.cfg)
    (hout : ∀ o ∈ s.out, o ∈ u.out) (hq : ∀ (c : Nat) (m : Msg), m ∈ (s.link c).queue → m ∈ (u.link c).queue) : Handed s u := by
  have hword : ∀ k, u.word k = s.word k := State.word_congr h64 hregs
  refine ⟨h64, hpins, hcfg, State.rdI_congr _ 0 (hword _), State.rdI_congr _ 0 (hword _), fun c _ h => ?_, fun c m h => ?_⟩
  · rw [State.flagI, State.rdI_congr LNK_INJ_CTL.EN c (hword _)]
    exact h
  · unfold State.hands at h ⊢
    rcases Bool.or_eq_true_iff.mp h with h | h
    · obtain ⟨o, ho, hp⟩ := List.any_eq_true.mp h
      exact Bool.or_eq_true_iff.mpr (Or.inl (List.any_eq_true.mpr ⟨o, hout o ho, hp⟩))
    · exact Bool.or_eq_true_iff.mpr (Or.inr (List.contains_iff_mem.mpr (hq c m (List.contains_iff_mem.mp h))))

theorem handed_emit (o : Out) : Handed s (s.emit o) :=
  handed_of rfl rfl rfl rfl (fun _ h => List.mem_append_left _ h) (fun _ _ h => h)

theorem State.link_setLink (n c : Nat) (l : Link) : (s.setLink n l).link c = if c = n then l else s.link c := by
  unfold State.link State.setLink
  rw [tget_tput]

theorem handed_setLink (n : Nat) (l : Link) (h : (s.link n).queue <+: l.queue) : Handed s (s.setLink n l) := by
  refine handed_of rfl rfl rfl rfl (fun _ h => h) (fun c m hm => ?_)
  rw [State.link_setLink]
  split
  · rename_i hc
    subst hc
    exact h.subset hm
  · exact hm

theorem handed_event (code : Nat) (lane label : Option Nat) (inc : Nat) : Handed s (s.event code lane label inc) := by
  have h := onlyPmu_event s code lane label inc
  unfold OnlyPmu at h
  have hword : ∀ k, pmuBlock k = false → (s.event code lane label inc).word k = s.word k := fun k => s.word_event code lane label inc k
  refine ⟨by rw [h], by rw [h], by rw [h], State.rdI_congr LNK_STATUS.UP 0 (hword _ rfl), State.rdI_congr SLC_LIVE.SELF 0 (hword _ rfl),
    fun c hc hq => ?_, fun c m hm => ?_⟩
  · rw [State.flagI, State.rdI_congr LNK_INJ_CTL.EN c (hword _ (by
      simp only [pmuBlock, Bool.and_eq_false_imp, decide_eq_true_eq, decide_eq_false_iff_not]; omega))]
    exact hq
  · rw [h]
    exact hm

theorem handed_fault {cls : Nat} (hc : cls < 16) (code sev detail : Nat) (loc : Option LineAddr) (status kind src : Nat) (irq : Bool) :
    Handed s (s.fault cls code sev detail loc status kind src irq) := by
  have hword : ∀ k, k ∉ faultRegs cls → (s.fault cls code sev detail loc status kind src irq).word k = s.word k :=
    s.word_fault cls code sev detail loc status kind src irq
  have hnot : ∀ k, k < ERR_STATUS.word.off → k ∉ faultRegs cls := fun k hk => by
    simp only [faultRegs, List.mem_cons, List.not_mem_nil, or_false, not_or]
    simp only at hk
    refine ⟨?_, ?_, ?_⟩ <;> omega
  have hform := s.fault_eq cls code sev detail loc status kind src irq
  refine ⟨by rw [hform], by rw [hform], by rw [hform], State.rdI_congr LNK_STATUS.UP 0 (hword _ (hnot _ (by decide))),
    State.rdI_congr SLC_LIVE.SELF 0 (hword _ (hnot _ (by decide))), fun c hc hq => ?_, fun c m hm => by rw [hform]; exact hm⟩
  rw [State.flagI, State.rdI_congr LNK_INJ_CTL.EN c (hword _ (hnot _ (by simp only; omega)))]
  exact hq

theorem sendRel_handed : SendRel Handed where
  refl := Handed.refl
  trans := Handed.trans
  emit := handed_emit
  event := handed_event
  link s n l h := handed_setLink s n l h
  injector _ _ _ _ := handed_of rfl rfl rfl rfl (fun _ h => h) (fun _ _ h => h)
  tran _ _ := handed_of rfl rfl rfl rfl (fun _ h => h) (fun _ _ h => h)
  disarm s n hn := by
    refine (onlyRegFile_wrI s _ _ _).handed ((State.word_wrI ..).trans (if_neg (by simp only; omega)))
      ((State.word_wrI ..).trans (if_neg (by simp only; omega))) (fun c _ h => ?_)
    by_cases hcn : c = n
    · subst hcn
      rw [State.flagI, State.rdI_wrI_same _ _ _ _ (by decide)]
      rfl
    · rw [State.flagI, State.rdI_wrI_other _ _ _ _ _ _ (by simp only; omega)]
      exact h
  count s n hn := handed_wrI s n _ (by simp only; omega) (by simp only; omega) (fun c _ => by simp only; omega)
  fault s code sev detail loc status kind src irq := handed_fault s (cls := 12) (by decide) code sev detail loc status kind src irq

theorem handed_front {f : Front} (h : f.links = s.front.links) : Handed s { s with front := f } := by
  refine handed_of rfl rfl rfl rfl (fun _ h => h) (fun c m hm => ?_)
  change m ∈ (tget Link.init f.links c).queue
  rw [h]
  exact hm

theorem handed_ord (o : Ord) : Handed s { s with ord := o } := handed_of rfl rfl rfl rfl (fun _ h => h) (fun _ _ h => h)

theorem handed_stk (k : Stacks) : Handed s { s with stk := k } := handed_of rfl rfl rfl rfl (fun _ h => h) (fun _ _ h => h)

theorem handed_coh (k : Coh) : Handed s { s with coh := k } := handed_of rfl rfl rfl rfl (fun _ h => h) (fun _ _ h => h)

theorem handed_mir (m : Mir) : Handed s { s with mir := m } := handed_of rfl rfl rfl rfl (fun _ h => h) (fun _ _ h => h)

theorem handed_reply (m : Msg) : Handed s (s.reply m) := sendRel_handed.reply s (fun u _ => handed_front u rfl) m

theorem handed_drainAnswer (reg : Bool) (m : Msg) : Handed s (s.drainAnswer reg m) := by
  unfold State.drainAnswer
  split
  · exact (handed_wr s _ rfl (by decide) (by decide) (by decide)).trans (handed_wr _ (f := LDG_ROW_DRAIN.GO) _ rfl (by decide) (by decide) (by decide))
  · exact handed_reply ..

theorem handed_ackOne (w : PendW) : Handed s (s.ackOne w) := by
  unfold State.ackOne
  split
  · exact (handed_event ..).trans (handed_drainAnswer ..)
  · split
    · exact Handed.refl s
    · exact handed_reply ..

theorem handed_fenceCheck : Handed s s.fenceCheck := by
  unfold State.fenceCheck
  extract_lets done u
  exact (handed_ord s _).trans (sendRel_handed.foldl (fun v w => handed_reply v (fenceDoneMsg w)) _ _)

/-! ### An answer is handed to its casement -/

/-- A message that goes to casement `c`, where no injector is armed. -/
structure CanHand (s : State) (c : Nat) (m : Msg) : Prop where
  hold : m.hold = none
  other : s.ownPorter m.who = false
  route : s.casementOf (routeKey m.who) = some c
  quiet : s.flagI LNK_INJ_CTL.EN c = false

theorem CanHand.handed {s u : State} {c : Nat} {m : Msg} (hc : CanHand s c m) (h : Handed s u) : CanHand u c m := by
  have hlt : c < 8 := s.casementOf_lt hc.route
  have hself : u.pslice = s.pslice := by rw [State.pslice, State.pslice, h.pins, h.self]
  have hmesh : u.mesh = s.mesh := by
    simp only [State.mesh, State.casements, State.bit, h.s64, h.cfg, h.up]
  refine ⟨hc.hold, ?_, ?_, h.quiet c hlt hc.quiet⟩
  · rw [State.ownPorter, hself]
    exact hc.other
  · rw [State.casementOf, hmesh]
    exact hc.route

theorem State.inject_disarmed {n : Nat} (h : s.flagI LNK_INJ_CTL.EN n = false) (dir : Bool) (k : Nat) : s.inject n dir k = (.pass, s) := by
  have he : s.eligible n dir k = false := by rw [State.eligible, h]; rfl
  rw [State.inject, he]
  rfl

theorem State.hands_emit_casement (c : Nat) (q : BitVec 10) (m : Msg) : (s.emit (.casement c q m)).hands c m = true := by
  unfold State.hands
  refine Bool.or_eq_true_iff.mpr (Or.inl (List.any_eq_true.mpr ⟨.casement c q m, List.mem_append_right _ (List.mem_singleton_self _), ?_⟩))
  simp

theorem State.hands_transmit (c : Nat) (m : Msg) : (s.transmit c (fun q => .casement c q m) id true).hands c m = true := by
  unfold State.transmit
  extract_lets l q kept u
  rw [if_pos rfl]
  exact State.hands_emit_casement _ c q m

theorem State.hands_depart {c : Nat} (hc : c < 8) (h : s.flagI LNK_INJ_CTL.EN c = false) (m : Msg) : (s.depart c m).hands c m = true := by
  have he := (handed_event s 0x51 none none (2 * (1 + m.body.slots))).quiet c hc h
  unfold State.depart State.sendOn
  rw [State.inject_disarmed _ he]
  dsimp only
  have hsent := State.hands_transmit (s.event 0x51 none none (2 * (1 + m.body.slots))) c m
  split
  · split
    · exact ((sendRel_handed.injector _ c _ hc).trans (sendRel_handed.transmit ..)).hands c m hsent
    · exact hsent
  · exact hsent

theorem State.hands_sendAt {c : Nat} (hc : c < 8) (h : s.flagI LNK_INJ_CTL.EN c = false) (m : Msg) : (s.sendAt c m).hands c m = true := by
  unfold State.sendAt
  extract_lets l cr
  split
  · unfold State.hands
    rw [State.link_setLink, if_pos rfl]
    exact Bool.or_eq_true_iff.mpr (Or.inr (List.contains_iff_mem.mpr (List.mem_append_right _ (List.mem_singleton_self _))))
  · exact State.hands_depart (s.setLink c { l with credits := tput 0 l.credits m.cls (cr - 1) }) hc h m

theorem CanHand.reply {s : State} {c : Nat} {m : Msg} (h : CanHand s c m) : (s.reply m).hands c m = true := by
  rw [State.reply, h.hold]
  dsimp only
  rw [h.other, State.sendRouted, h.route]
  exact s.hands_sendAt (s.casementOf_lt h.route) h.quiet m

/-! ### Pending writes at their ack points -/

/-- A drain's answer is due: its write waits for nothing more. -/
def State.drainDue (s : State) (m : Msg) : Prop := ∃ e ∈ s.ord.writes, e.ready = true ∧ e.msg = m ∧ ∃ rows, e.drain = some (false, rows)

theorem hands_ackAll {c : Nat} {m : Msg} (l : List PendW) {s : State} (h : CanHand s c m)
    (he : ∃ e ∈ l, e.msg = m ∧ ∃ rows, e.drain = some (false, rows)) : (l.foldl (fun s w => s.ackOne w) s).hands c m = true := by
  have hrest : ∀ (l : List PendW) (s : State), Handed s (l.foldl (fun s w => s.ackOne w) s) := fun l s =>
    sendRel_handed.foldl (fun u w => handed_ackOne u w) l s
  induction l generalizing s with
  | nil =>
    obtain ⟨e, he, _⟩ := he
    exact absurd he List.not_mem_nil
  | cons a l ih =>
    obtain ⟨e, hmem, hmsg, rows, hdrain⟩ := he
    rcases List.mem_cons.mp hmem with rfl | hmem
    · refine (hrest l _).hands c m ?_
      have hform : s.ackOne e = (s.event 0x31 none (some e.r.label.toNat) rows).reply e.msg := by
        unfold State.ackOne
        rw [hdrain]
        rfl
      beta_reduce
      rw [hform, hmsg]
      exact (h.handed (handed_event ..)).reply
    · exact ih (h.handed (handed_ackOne s a)) ⟨e, hmem, hmsg, rows, hdrain⟩

theorem CanHand.ackCheck {s : State} {c : Nat} {m : Msg} (h : CanHand s c m) (hd : s.drainDue m) : s.ackCheck.hands c m = true := by
  obtain ⟨e, hmem, hready, hmsg, hdrain⟩ := hd
  unfold State.ackCheck
  extract_lets done u
  refine (handed_fenceCheck _).hands c m (hands_ackAll done (h.handed (handed_ord s _)) ⟨e, ?_, hmsg, hdrain⟩)
  exact List.mem_filter.mpr ⟨hmem, hready⟩

end Sys2Proof.Machine
end

section
/-! SUPPORT. A whole-line write of a line that is resident and idle (R117, R138): its beats, its tag word, and what stays. -/

namespace Sys2Proof.Machine

variable (s : State)

/-! ### The beats of a line -/

/-- One bank takes the two beats of a line. -/
def State.putBank (s : State) (set b : Nat) (d : LineData) (p : Nat) : State :=
  let s := (s.setBeat p (rowOf set) b (d.extractLsb' 0 512)).setBeat p (rowOf set) (b + 1) (d.extractLsb' 512 512)
  let q := (tget [] s.stk.corr p).filter (fun e => e.1 != rowOf set * 16 + b && e.1 != rowOf set * 16 + b + 1)
  { s with stk := { s.stk with corr := tput [] s.stk.corr p q } }

theorem State.putLine_eq (set way : Nat) (bit : Bool) (d : LineData) :
    s.putLine set way bit d = (s.writeBanks set way).foldl (fun s p => s.putBank set (beatOf set way bit) d p) s := rfl

theorem State.putBank_beats (set b : Nat) (d : LineData) (p : Nat) : (s.putBank set b d p).stk.beats =
    tput 0 (tput 0 s.stk.beats (beatKey p (rowOf set) b) (d.extractLsb' 0 512)) (beatKey p (rowOf set) (b + 1)) (d.extractLsb' 512 512) := rfl

/-- A bank's beats of the line, once written, stay as every further bank is written. -/
theorem State.beat_putBank (set b : Nat) (d : LineData) (p q : Nat) :
    ((s.putBank set b d p).beat q (rowOf set) b = if q = p then d.extractLsb' 0 512 else s.beat q (rowOf set) b)
      ∧ ((s.putBank set b d p).beat q (rowOf set) (b + 1) = if q = p then d.extractLsb' 512 512 else s.beat q (rowOf set) (b + 1)) := by
  change (tget 0 (tput 0 (tput 0 s.stk.beats (beatKey p (rowOf set) b) _) (beatKey p (rowOf set) (b + 1)) _) (beatKey q (rowOf set) b) = _)
    ∧ (tget 0 (tput 0 (tput 0 s.stk.beats (beatKey p (rowOf set) b) _) (beatKey p (rowOf set) (b + 1)) _) (beatKey q (rowOf set) (b + 1)) = _)
  by_cases h : q = p
  · subst h
    rw [if_pos rfl, if_pos rfl, tget_tput_same, tget_tput_other _ _ _ _ (by simp only [beatKey]; omega), tget_tput_same]
    exact ⟨rfl, rfl⟩
  · rw [if_neg h, if_neg h, tget_tput_other _ _ _ _ (by simp only [beatKey]; omega), tget_tput_other _ _ _ _ (by simp only [beatKey]; omega),
      tget_tput_other _ _ _ _ (by simp only [beatKey]; omega), tget_tput_other _ _ _ _ (by simp only [beatKey]; omega)]
    exact ⟨rfl, rfl⟩

/-- The two beats of a line in a bank. -/
def State.holds (s : State) (set b : Nat) (d : LineData) (p : Nat) : Prop :=
  s.beat p (rowOf set) b = d.extractLsb' 0 512 ∧ s.beat p (rowOf set) (b + 1) = d.extractLsb' 512 512

theorem State.holds_putBank (set b : Nat) (d : LineData) (p : Nat) : (s.putBank set b d p).holds set b d p := by
  obtain ⟨h1, h2⟩ := s.beat_putBank set b d p p
  exact ⟨h1.trans (if_pos rfl), h2.trans (if_pos rfl)⟩

theorem State.holds.putBank {s : State} {set b : Nat} {d : LineData} {q : Nat} (h : s.holds set b d q) (p : Nat) :
    (s.putBank set b d p).holds set b d q := by
  obtain ⟨h1, h2⟩ := s.beat_putBank set b d p q
  refine ⟨h1.trans ?_, h2.trans ?_⟩
  · split
    · rfl
    · exact h.1
  · split
    · rfl
    · exact h.2

theorem State.holds_putBanks (set b : Nat) (d : LineData) {p : Nat} {ps : List Nat} (hp : p ∈ ps) (s : State) :
    (ps.foldl (fun s p => s.putBank set b d p) s).holds set b d p := by
  have hkeep : ∀ (ps : List Nat) (s : State), s.holds set b d p → (ps.foldl (fun s p => s.putBank set b d p) s).holds set b d p := by
    intro ps
    induction ps with
    | nil => exact fun s h => h
    | cons a ps ih => exact fun s h => ih _ (h.putBank a)
  induction ps generalizing s with
  | nil => exact absurd hp List.not_mem_nil
  | cons a ps ih =>
    rcases List.mem_cons.mp hp with rfl | hmem
    · exact hkeep ps _ (s.holds_putBank set b d p)
    · exact ih hmem _

theorem tabBut_putBanks (set b : Nat) (d : LineData) (ps : List Nat) (s : State) : TabBut 0
    (ps.flatMap (fun p => [beatKey p (rowOf set) b, beatKey p (rowOf set) (b + 1)])) s.stk.beats
    (ps.foldl (fun s p => s.putBank set b d p) s).stk.beats := by
  induction ps generalizing s with
  | nil => exact fun _ _ => rfl
  | cons a ps ih =>
    intro k hk
    simp only [List.flatMap_cons, List.cons_append, List.nil_append, List.mem_cons, not_or] at hk
    obtain ⟨h0, h1, hrest⟩ := hk
    refine Eq.trans ?_ (ih (s.putBank set b d a) k hrest)
    rw [State.putBank_beats, tget_tput_other _ _ _ _ h1, tget_tput_other _ _ _ _ h0]

/-- What a bank's write leaves. -/
structure BeatsOnly (s u : State) : Prop where
  only : u = { s with stk := { s.stk with beats := u.stk.beats, corr := u.stk.corr } }

theorem BeatsOnly.trans {s t u : State} (hst : BeatsOnly s t) (htu : BeatsOnly t u) : BeatsOnly s u := by
  refine ⟨?_⟩
  have h1 := hst.only
  have h2 := htu.only
  rw [h2, h1]

theorem beatsOnly_putLine (set way : Nat) (bit : Bool) (d : LineData) : BeatsOnly s (s.putLine set way bit d) := by
  rw [State.putLine_eq]
  generalize s.writeBanks set way = ps
  induction ps generalizing s with
  | nil => exact ⟨rfl⟩
  | cons a ps ih =>
    have ha : BeatsOnly s (s.putBank set (beatOf set way bit) d a) := ⟨rfl⟩
    exact ha.trans (ih _)

/-- What places a line in its banks. -/
structure SamePlaces (s t : State) : Prop where
  s64 : t.s64 = s.s64
  remap : t.stk.remap = s.stk.remap
  halves : t.stk.halves = s.stk.halves
  lostLb : t.stk.lostLb = s.stk.lostLb

theorem SamePlaces.rot {s t : State} (h : SamePlaces s t) : t.rot = s.rot := by
  rw [State.rot, State.rot, State.nb, State.nb, h.s64, h.halves]

theorem SamePlaces.phys {s t : State} (h : SamePlaces s t) (b : Nat) : t.phys b = s.phys b := by
  rw [State.phys, State.phys, h.remap]

theorem SamePlaces.lbank {s t : State} (h : SamePlaces s t) (set w : Nat) : t.lbank set w = s.lbank set w := by
  rw [State.lbank, State.lbank, h.rot]

theorem SamePlaces.serving {s t : State} (h : SamePlaces s t) (set w : Nat) : t.serving set w = s.serving set w := by
  rw [State.serving, State.serving]
  simp only [h.lbank, h.rot, h.phys, h.halves, h.lostLb]

theorem SamePlaces.writeBanks {s t : State} (h : SamePlaces s t) (hw : t.word STK_BANK_STATE.word.off = s.word STK_BANK_STATE.word.off)
    (set w : Nat) : t.writeBanks set w = s.writeBanks set w := by
  have hbusy : t.flag STK_BANK_STATE.COPY_BUSY = s.flag STK_BANK_STATE.COPY_BUSY := State.flag_congr (State.rdI_congr _ 0 hw)
  have hsrc : t.rd STK_BANK_STATE.COPY_SRC = s.rd STK_BANK_STATE.COPY_SRC := State.rdI_congr _ 0 hw
  have hsp : t.spare = s.spare := by rw [State.spare, State.spare, State.nb, State.nb, h.s64]
  rw [State.writeBanks, State.writeBanks]
  simp only [h.lbank, h.rot, h.phys, h.halves, h.lostLb, hbusy, hsrc, hsp]

theorem MemKept.places {s u : State} (h : MemKept s u) : SamePlaces s u := ⟨h.s64, h.remap, h.halves, h.lostLb⟩

theorem SamePlaces.lineData {s t : State} (h : SamePlaces s t) (hb : t.stk.beats = s.stk.beats) (set w : Nat) (bit : Bool) :
    t.lineData set w bit = s.lineData set w bit := by
  rw [State.lineData, State.lineData]
  simp only [h.serving, State.beat, hb]

/-- A line written is read back, where the bank that serves it takes writes. -/
theorem State.lineData_putLine {set w : Nat} (h : s.serving set w ∈ s.writeBanks set w) (bit : Bool) (d : LineData) :
    (s.putLine set w bit d).lineData set w bit = d := by
  have hform := (beatsOnly_putLine s set w bit d).only
  have hserve : (s.putLine set w bit d).serving set w = s.serving set w := by
    rw [hform]
    rfl
  obtain ⟨h0, h1⟩ := State.holds_putBanks set (beatOf set w bit) d h s
  rw [← State.putLine_eq] at h0 h1
  rw [State.lineData, hserve]
  rw [h0, h1]
  exact (BitVec.extractLsb'_append_extractLsb'_eq_extractLsb' (x := d) rfl).trans BitVec.extractLsb'_eq_self

/-! ### The way of a line -/

theorem find?_of_changed {p q : Nat → Bool} {l : List Nat} {w : Nat} (h : l.find? p = some w) (hq : q w = true)
    (hne : ∀ a, a ≠ w → q a = p a) : l.find? q = some w := by
  induction l with
  | nil => exact absurd h (by simp)
  | cons a l ih =>
    rw [List.find?_cons] at h ⊢
    by_cases ha : a = w
    · rw [ha, hq]
    · rw [hne a ha]
      cases hp : p a with
      | true => rw [hp] at h; exact absurd (Option.some_inj.mp h) ha
      | false => rw [hp] at h; exact ih h

/-- What the lookup of a line reads. -/
structure SameLookup (s t : State) : Prop where
  s64 : t.s64 = s.s64
  tags : t.stk.tags = s.stk.tags
  halves : t.stk.halves = s.stk.halves
  lostLb : t.stk.lostLb = s.stk.lostLb
  walk : t.stk.walk = s.stk.walk

theorem SameLookup.setWays {s t : State} (h64 : t.s64 = s.s64) (hh : t.stk.halves = s.stk.halves) (hl : t.stk.lostLb = s.stk.lostLb)
    (hw : t.stk.walk = s.stk.walk) (set : Nat) : t.setWays set = s.setWays set := by
  have hgone : ∀ w, t.wayGone set w = s.wayGone set w := fun w => by
    rw [State.wayGone, State.wayGone, State.ways, State.ways, State.nb, State.nb, h64, hh, hl, hw]
  have hways : t.ways = s.ways := by rw [State.ways, State.ways, h64]
  rw [State.setWays, State.setWays, hways]
  exact List.filter_congr (fun w _ => by rw [hgone])

theorem SameLookup.lookup {s t : State} (h : SameLookup s t) (line : LineAddr) : t.lookup line = s.lookup line := by
  rw [State.lookup, State.lookup, SameLookup.setWays h.s64 h.halves h.lostLb h.walk]
  have htag : t.tag = s.tag := by
    funext set w
    rw [State.tag, State.tag, h.tags]
  rw [htag]

theorem State.tag_setTag (set w w' : Nat) (t : TagW) : (s.setTag set w t).tag set w' = if w' = w then t else s.tag set w' := by
  have hkey : (set * 32 + w' = set * 32 + w) ↔ w' = w := by omega
  change tget _ (tput _ s.stk.tags (set * 32 + w) t) (set * 32 + w') = _
  rw [tget_tput]
  simp only [hkey, State.tag]

/-- A way found stays found when its word keeps the sector and holds a line. -/
theorem State.lookup_setTag {line : LineAddr} {w : Nat} (h : s.lookup line = some w) {t : TagW} (hi : t.isInv = false)
    (hs : t.sector = granule line) : (s.setTag (lineSet line) w t).lookup line = some w := by
  have hways : (s.setTag (lineSet line) w t).setWays (lineSet line) = s.setWays (lineSet line) := SameLookup.setWays rfl rfl rfl rfl _
  rw [State.lookup] at h ⊢
  rw [hways]
  refine find?_of_changed h ?_ (fun a ha => ?_)
  · rw [State.tag_setTag, if_pos rfl]
    simp [hi, hs]
  · rw [State.tag_setTag, if_neg ha]

theorem State.lookup_found {line : LineAddr} {w : Nat} (h : s.lookup line = some w) :
    (s.tag (lineSet line) w).isInv = false ∧ (s.tag (lineSet line) w).sector = granule line := by
  have hp := List.find?_some h
  simpa using hp

/-- A touch changes the ranks alone. -/
theorem State.touch_ranks (set w : Nat) : ∃ r, s.touch set w = { s with stk := { s.stk with ranks := r } } := by
  have hstep : ∀ (f : State → Nat → State), (∀ u a, f u a = u ∨ ∃ r, f u a = u.setRank set a r) → ∀ (l : List Nat) (u : State),
      (∃ r, u = { s with stk := { s.stk with ranks := r } }) → ∃ r, l.foldl f u = { s with stk := { s.stk with ranks := r } } := by
    intro f hf l
    induction l with
    | nil => exact fun u h => h
    | cons a l ih =>
      rintro u ⟨r, rfl⟩
      refine ih _ ?_
      rcases hf { s with stk := { s.stk with ranks := r } } a with h | ⟨k, h⟩ <;> rw [h] <;> exact ⟨_, rfl⟩
  obtain ⟨r, hr⟩ := hstep (fun s' w' => if s.rank set w' < s.rank set w then s'.setRank set w' (s.rank set w' + 1) else s')
    (fun u a => by split <;> [exact Or.inr ⟨_, rfl⟩; exact Or.inl rfl]) (List.range s.ways) s ⟨s.stk.ranks, rfl⟩
  unfold State.touch
  extract_lets r0 u
  have hu : u = { s with stk := { s.stk with ranks := r } } := hr
  rw [hu]
  exact ⟨_, rfl⟩

/-! ### An idle line -/

/-- A line that is resident in a way, with no atomic and no far read of it in progress. -/
structure Idle (s : State) (line : LineAddr) (w : Nat) : Prop where
  way : s.lookup line = some w
  atoms : ∀ a ∈ s.coh.atoms, a.line ≠ line
  reads : ∀ r ∈ s.stk.farReads, r.line ≠ line

theorem Idle.loading {s : State} {line : LineAddr} {w : Nat} (h : Idle s line w) : s.atomLine line = none ∧ s.loading line = false := by
  have hn : s.atomLine line = none := List.find?_eq_none.mpr (fun a ha => by simpa using h.atoms a ha)
  exact ⟨hn, by rw [State.loading, hn]⟩

theorem Idle.dataPending {s : State} {line : LineAddr} {w : Nat} (h : Idle s line w) : s.dataPending line = false := by
  rw [State.dataPending, h.loading.2, Bool.false_or, List.any_eq_false]
  exact fun r hr => by simpa using h.reads r hr

theorem idle_of {line : LineAddr} {w : Nat} (hw : s.lookup line = some w) (ha : s.atomLine line = none) (hd : s.dataPending line = false) :
    Idle s line w := by
  refine ⟨hw, fun a h => by simpa using List.find?_eq_none.mp ha a h, fun r hr => ?_⟩
  rw [State.dataPending, Bool.or_eq_false_iff] at hd
  simpa using List.any_eq_false.mp hd.2 r hr

theorem Idle.congr {s t : State} {line : LineAddr} {w : Nat} (h : Idle s line w) (hl : SameLookup s t) (ha : t.coh.atoms = s.coh.atoms)
    (hr : t.stk.farReads = s.stk.farReads) : Idle t line w :=
  ⟨(hl.lookup line).trans h.way, by rw [ha]; exact h.atoms, by rw [hr]; exact h.reads⟩

/-- Nothing of an idle line waits. -/
theorem Idle.waitOn {s : State} {line : LineAddr} {w : Nat} (h : Idle s line w) (act : Act) : s.waitOn line act = s := by
  have hatoms : s.coh.atoms.map (fun (a : AtomLine) => if a.line = line && a.data.isNone then { a with acts := a.acts ++ [act] } else a)
      = s.coh.atoms := by
    refine (List.map_congr_left (fun a ha => ?_)).trans (List.map_id _)
    rw [if_neg (by simp [h.atoms a ha])]
    rfl
  have hreads : s.stk.farReads.map (fun (r : FarRead) => if r.line = line then { r with acts := r.acts ++ [act] } else r)
      = s.stk.farReads := by
    refine (List.map_congr_left (fun r hr => ?_)).trans (List.map_id _)
    rw [if_neg (h.reads r hr)]
    rfl
  unfold State.waitOn
  rw [hatoms]
  change (if s.loading line = true then s else { s with stk := { s.stk with farReads := s.stk.farReads.map _ } }) = s
  rw [h.loading.2, hreads]
  rfl

end Sys2Proof.Machine
end

section
/-! SUPPORT. What leads to a write at its home: tags and Catalogue words read without error, its slot, its records, its tracking. -/

namespace Sys2Proof.Machine

variable (s : State)

/-! ### Words without error -/

theorem foldl_fixed {α β : Type} {g : β → α → β} {l : List α} {b : β} (h : ∀ a ∈ l, g b a = b) : l.foldl g b = b := by
  induction l with
  | nil => rfl
  | cons a l ih =>
    rw [List.foldl_cons, h a List.mem_cons_self]
    exact ih (fun x hx => h x (List.mem_cons_of_mem a hx))

theorem State.ways_le : s.ways ≤ 32 := by
  unfold State.ways
  split <;> decide

theorem State.readTags_sound {set : Nat} (h : ∀ w, w < 32 → (s.tag set w).ecc = .ok) : s.readTags set = s := by
  refine foldl_fixed (fun w hw => ?_)
  have hlt : w < 32 := lt_of_lt_of_le (List.mem_range.mp hw) s.ways_le
  dsimp only
  rw [h w hlt]

theorem State.readCat_sound {set : Nat} (h : ∀ e, e < 16 → (s.cat set e).ecc = .ok) : s.readCat set = s := by
  refine foldl_fixed (fun e he => ?_)
  dsimp only
  rw [h e (List.mem_range.mp he)]

theorem WordsOk.read {s : State} {line : LineAddr} (h : WordsOk s line) :
    (s.readTags (lineSet line)).readCat (s.catSet line) = s := by
  rw [s.readTags_sound h.1, s.readCat_sound h.2]

/-! ### What leads to the write -/

/-- The registers that decide where a write goes. -/
def placeRegs : List Nat := [SLC_LIVE.word.off, STK_BANK_STATE.word.off, CAT_LOST.word.off, CAT_LOST.word.off + 4, CAT_LOST.word.off + 8,
  CAT_LOST.word.off + 12, MIR_STATUS.word.off]

/-- The memory, the Catalogue, the mirror, the Ledger and the registers that decide where a write goes stay, and the way to the casements. -/
structure Leads (s u : State) : Prop where
  stk : u.stk = s.stk
  coh : u.coh = s.coh
  mir : u.mir = s.mir
  ldg : u.ldg = s.ldg
  place : ∀ k ∈ placeRegs, u.word k = s.word k
  handed : Handed s u

theorem Leads.trans {s t u : State} (hst : Leads s t) (htu : Leads t u) : Leads s u :=
  ⟨htu.stk.trans hst.stk, htu.coh.trans hst.coh, htu.mir.trans hst.mir, htu.ldg.trans hst.ldg,
    fun k hk => (htu.place k hk).trans (hst.place k hk), hst.handed.trans htu.handed⟩

theorem Leads.refl : Leads s s := ⟨rfl, rfl, rfl, rfl, fun _ _ => rfl, Handed.refl s⟩

theorem leads_ord (o : Ord) : Leads s { s with ord := o } := ⟨rfl, rfl, rfl, rfl, fun _ _ => rfl, handed_ord s o⟩

theorem leads_place (p : Place) : Leads s { s with place := p } :=
  ⟨rfl, rfl, rfl, rfl, fun _ _ => rfl, handed_of rfl rfl rfl rfl (fun _ h => h) (fun _ _ h => h)⟩

theorem leads_front {f : Front} (h : f.links = s.front.links) : Leads s { s with front := f } :=
  ⟨rfl, rfl, rfl, rfl, fun _ _ => rfl, handed_front s h⟩

theorem placeRegs_pmu : ∀ k ∈ placeRegs, pmuBlock k = false := by decide

theorem leads_event (code : Nat) (lane label : Option Nat) (inc : Nat) : Leads s (s.event code lane label inc) := by
  have h := onlyPmu_event s code lane label inc
  unfold OnlyPmu at h
  exact ⟨by rw [h], by rw [h], by rw [h], by rw [h], fun k hk => s.word_event code lane label inc k (placeRegs_pmu k hk),
    handed_event ..⟩

theorem leads_wrI {f : Field} {i : Nat} (v : Nat) (hp : f.off + f.stride * i ∉ placeRegs) (hup : LNK_STATUS.word.off ≠ f.off + f.stride * i)
    (hq : ∀ c < 8, LNK_INJ_CTL.EN.off + LNK_INJ_CTL.EN.stride * c ≠ f.off + f.stride * i) : Leads s (s.wrI f i v) :=
  ⟨rfl, rfl, rfl, rfl, fun k hk => (State.word_wrI s f i v k).trans (if_neg (fun h => hp (by rw [← h]; exact hk))),
    handed_wrI s i v hup (fun h => hp (by rw [← h]; exact List.mem_cons_self)) hq⟩

theorem leads_wr {f : Field} (v : Nat) (hf : f.stride = 0) (hp : f.off ∉ placeRegs) (hup : LNK_STATUS.word.off ≠ f.off)
    (hq : ∀ c < 8, LNK_INJ_CTL.EN.off + LNK_INJ_CTL.EN.stride * c ≠ f.off) : Leads s (s.wr f v) := by
  have h0 : f.off + f.stride * 0 = f.off := by rw [hf]; rfl
  exact leads_wrI (i := 0) s v (by rw [h0]; exact hp) (by rw [h0]; exact hup) (by rw [h0]; exact hq)

theorem leads_foldl {α : Type} {g : State → α → State} {P : α → Prop} (h : ∀ u a, P a → Leads u (g u a)) (l : List α)
    (hl : ∀ a ∈ l, P a) (s : State) : Leads s (l.foldl g s) := by
  induction l generalizing s with
  | nil => exact Leads.refl s
  | cons a l ih => exact (h s a (hl a List.mem_cons_self)).trans (ih (fun x hx => hl x (List.mem_cons_of_mem a hx)) _)

theorem leads_slotServed (lane : Nat) : Leads s (s.slotServed lane) :=
  (leads_event s 0x10 (some lane) none 1).trans ((leads_event _ 0x11 (some lane) none 1).trans (leads_front _ rfl))

theorem leads_openSeals (line : LineAddr) : Leads s (s.openSeals line) := by
  refine leads_foldl (P := fun n => n < 256) (fun u n hn => ?_) _ (fun n hn => ?_) s
  · refine leads_wrI u _ ?_ ?_ ?_
    · simp only [placeRegs, List.mem_cons, List.not_mem_nil, or_false, not_or]
      refine ⟨?_, ?_, ?_, ?_, ?_, ?_, ?_⟩ <;> omega
    · simp only; omega
    · intro c _; simp only; omega
  · have hmem : n ∈ s.listed SHT_ENT_CTL.VALID 256 := (List.mem_filter.mp (List.mem_filter.mp hn).1).1
    exact s.lt_of_listed (by decide) hmem

theorem leads_recordWrite (r : Req) : Leads s (s.recordWrite r) := by
  unfold State.recordWrite State.clearRecord
  split
  · exact leads_ord ..
  · split
    · split
      · exact leads_ord ..
      · exact Leads.refl s
    · exact Leads.refl s

theorem leads_measure (line : LineAddr) (miss : Bool) : Leads s (s.measure line miss) := by
  unfold State.measure
  split
  · exact Leads.refl s
  · exact leads_place ..

theorem leads_ldgCount (label status reason : Nat) : Leads s (s.ldgCount label status reason) := by
  have hops : ∀ u : State, Leads u (u.bump LDG_OPS.COUNT) := fun u => leads_wr u _ rfl (by decide) (by decide) (by decide)
  have hnacks : ∀ u : State, Leads u (u.bump LDG_NACKS.COUNT) := fun u => leads_wr u _ rfl (by decide) (by decide) (by decide)
  have hlate : ∀ u : State, Leads u (u.bump LDG_LATE.COUNT) := fun u => leads_wr u _ rfl (by decide) (by decide) (by decide)
  unfold State.ldgCount
  extract_lets a b
  have ha : Leads s a := by
    change Leads s (if _ then _ else _)
    split
    · exact hops s
    · exact Leads.refl s
  have hb : Leads a b := by
    change Leads a (if _ then _ else _)
    split
    · exact (hnacks a).trans (leads_event ..)
    · exact Leads.refl a
  refine ha.trans (hb.trans ?_)
  split
  · exact (hlate b).trans (leads_event ..)
  · exact Leads.refl b

theorem leads_cover (r : Req) : Leads s (s.cover r) := by
  unfold State.cover
  split
  · exact Leads.refl s
  · exact leads_ord ..

/-- A write that is served and tracked: what leads to it, and the write that waits for its ack point. -/
theorem leads_trackWrite (r : Req) (m : Msg) (exec txn far : Bool) : Leads s (s.trackWrite r m exec txn far).2
    ∧ (⟨(s.trackWrite r m exec txn far).1, r, m, exec, txn, false, far, none⟩ : PendW) ∈ (s.trackWrite r m exec txn far).2.ord.writes := by
  have hid : (s.cover r).ord.nextId = s.ord.nextId := by
    unfold State.cover
    split <;> rfl
  refine ⟨(leads_cover s r).trans (leads_ord _ _), ?_⟩
  unfold State.trackWrite
  extract_lets k u
  exact List.mem_append_right _ (List.mem_singleton_self _)

theorem leads_setWrite (id : Nat) (f : PendW → PendW) : Leads s (s.setWrite id f) := leads_ord s _

end Sys2Proof.Machine
end

section
/-! SUPPORT. A whole-line write of a resident, idle line at its home (R117): data, tag word, and the write that waits for its ack point. -/

namespace Sys2Proof.Machine

/-! ### Tag words -/

@[simp] theorem TagW.st_put (t : TagW) (b : Bool) (st : LineSt) (p : Bool) : (t.put b st p).st b = st := by
  cases b <;> rfl
@[simp] theorem TagW.p_put (t : TagW) (b : Bool) (st : LineSt) (p : Bool) : (t.put b st p).p b = p := by
  cases b <;> rfl
@[simp] theorem TagW.sector_put (t : TagW) (b : Bool) (st : LineSt) (p : Bool) : (t.put b st p).sector = t.sector := by
  cases b <;> rfl

theorem TagW.isInv_put (t : TagW) (b : Bool) {st : LineSt} (p : Bool) (h : st.live = true) : (t.put b st p).isInv = false := by
  have hv : (t.put b st p).valid = true := by
    cases b
    · exact Bool.or_eq_true_iff.mpr (Or.inl h)
    · exact Bool.or_eq_true_iff.mpr (Or.inr h)
  rw [TagW.isInv, hv]
  rfl

variable (s : State)

/-! ### Changes at one way -/

/-- Only a line in one way, and what does not place lines, changes. -/
structure AtWay (set w : Nat) (bit : Bool) (s u : State) : Prop where
  places : SamePlaces s u
  walk : u.stk.walk = s.stk.walk
  reads : u.stk.farReads = s.stk.farReads
  atoms : u.coh.atoms = s.coh.atoms
  cat : u.coh.cat = s.coh.cat
  ldg : u.ldg = s.ldg
  ord : u.ord = s.ord
  copy : u.word STK_BANK_STATE.word.off = s.word STK_BANK_STATE.word.off
  pair : u.pairOn = s.pairOn
  handed : Handed s u
  beats : TabBut 0 (s.lineKeys set w bit) s.stk.beats u.stk.beats
  tags : TabBut TagW.empty [32 * set + w] s.stk.tags u.stk.tags

section
variable {s} {t u : State} {set w : Nat} {bit : Bool}

theorem AtWay.banks (h : AtWay set w bit s u) : u.writeBanks set w = s.writeBanks set w := h.places.writeBanks h.copy set w

theorem AtWay.trans (hst : AtWay set w bit s t) (htu : AtWay set w bit t u) : AtWay set w bit s u := by
  have hkeys : t.lineKeys set w bit = s.lineKeys set w bit := by
    rw [State.lineKeys, State.lineKeys, hst.banks]
  exact {
    places := ⟨htu.places.s64.trans hst.places.s64, htu.places.remap.trans hst.places.remap, htu.places.halves.trans hst.places.halves,
      htu.places.lostLb.trans hst.places.lostLb⟩
    walk := htu.walk.trans hst.walk
    reads := htu.reads.trans hst.reads
    atoms := htu.atoms.trans hst.atoms
    cat := htu.cat.trans hst.cat
    ldg := htu.ldg.trans hst.ldg
    ord := htu.ord.trans hst.ord
    copy := htu.copy.trans hst.copy
    pair := htu.pair.trans hst.pair
    handed := hst.handed.trans htu.handed
    beats := fun k hk => (hst.beats k hk).trans (htu.beats k (by rw [hkeys]; exact hk))
    tags := fun k hk => (hst.tags k hk).trans (htu.tags k hk) }

end

theorem AtWay.refl (set w : Nat) (bit : Bool) : AtWay set w bit s s where
  places := ⟨rfl, rfl, rfl, rfl⟩
  walk := rfl
  reads := rfl
  atoms := rfl
  cat := rfl
  ldg := rfl
  ord := rfl
  copy := rfl
  pair := rfl
  handed := Handed.refl s
  beats := fun _ _ => rfl
  tags := fun _ _ => rfl

theorem Leads.pairOn {s u : State} (h : Leads s u) : u.pairOn = s.pairOn := by
  have hst : u.rd MIR_STATUS.STATE = s.rd MIR_STATUS.STATE := State.rdI_congr _ 0 (h.place MIR_STATUS.word.off (by decide))
  rw [State.pairOn, State.pairOn, hst, h.mir]

theorem Leads.atWay {s u : State} (h : Leads s u) (ho : u.ord = s.ord) (set w : Nat) (bit : Bool) : AtWay set w bit s u where
  places := ⟨h.handed.s64, by rw [h.stk], by rw [h.stk], by rw [h.stk]⟩
  walk := by rw [h.stk]
  reads := by rw [h.stk]
  atoms := by rw [h.coh]
  cat := by rw [h.coh]
  ldg := h.ldg
  ord := ho
  copy := h.place STK_BANK_STATE.word.off (by decide)
  pair := h.pairOn
  handed := h.handed
  beats := fun _ _ => by rw [h.stk]
  tags := fun _ _ => by rw [h.stk]

/-- A change of the stacks' arrays and of lanes alone. -/
theorem atWay_of {s u : State} {set w : Nat} {bit : Bool} (hform : u = { s with front := u.front, stk := { s.stk with
      ranks := u.stk.ranks, beats := u.stk.beats, corr := u.stk.corr, tags := u.stk.tags, dirtyVec := u.stk.dirtyVec } })
    (handed : Handed s u) (beats : TabBut 0 (s.lineKeys set w bit) s.stk.beats u.stk.beats)
    (tags : TabBut TagW.empty [32 * set + w] s.stk.tags u.stk.tags) : AtWay set w bit s u where
  places := by rw [hform]; exact ⟨rfl, rfl, rfl, rfl⟩
  walk := by rw [hform]
  reads := by rw [hform]
  atoms := by rw [hform]
  cat := by rw [hform]
  ldg := by rw [hform]
  ord := by rw [hform]
  copy := by rw [hform]; rfl
  pair := by rw [hform]; rfl
  handed := handed
  beats := beats
  tags := tags

theorem atWay_setTag (set w : Nat) (bit : Bool) (t : TagW) : AtWay set w bit s (s.setTag set w t) :=
  atWay_of rfl (handed_stk s _) (fun _ _ => rfl)
    (fun k hk => (tget_tput_other _ _ _ _ (fun h => hk (by rw [h, Nat.mul_comm]; exact List.mem_singleton_self _))).symm)

theorem atWay_ranks (set w : Nat) (bit : Bool) (r : Tab Nat) : AtWay set w bit s { s with stk := { s.stk with ranks := r } } :=
  atWay_of rfl (handed_stk s _) (fun _ _ => rfl) (fun _ _ => rfl)

theorem atWay_touch (set w : Nat) (bit : Bool) (set' w' : Nat) : AtWay set w bit s (s.touch set' w') := by
  obtain ⟨r, hr⟩ := s.touch_ranks set' w'
  rw [hr]
  exact atWay_ranks ..

theorem atWay_putLine (set w : Nat) (bit : Bool) (d : LineData) : AtWay set w bit s (s.putLine set w bit d) := by
  have hform := (beatsOnly_putLine s set w bit d).only
  have hbeats := tabBut_putBanks set (beatOf set w bit) d (s.writeBanks set w) s
  rw [← State.putLine_eq] at hbeats
  generalize s.putLine set w bit d = u at hform hbeats ⊢
  generalize u.stk.beats = B, u.stk.corr = C at hform hbeats
  subst hform
  exact atWay_of rfl (handed_stk s _) hbeats (fun _ _ => rfl)

theorem atWay_front (set w : Nat) (bit : Bool) {f : Front} (h : f.links = s.front.links) : AtWay set w bit s { s with front := f } :=
  atWay_of rfl (handed_front s h) (fun _ _ => rfl) (fun _ _ => rfl)

theorem atWay_touchPf (set w : Nat) (bit : Bool) (label : Nat) : AtWay set w bit s (s.touchPf set w label) := by
  unfold State.touchPf
  extract_lets t
  split
  · have hbump : ∀ u : State, Leads u (u.bump PFT_USEFUL.COUNT) := fun u => leads_wr u _ rfl (by decide) (by decide) (by decide)
    have hord : ∀ u : State, (u.event 0x61 none (some label)).ord = u.ord := fun u => by
      have h := onlyPmu_event u 0x61 none (some label) 1
      unfold OnlyPmu at h
      rw [h]
    exact (atWay_setTag s set w bit _).trans (((hbump _).atWay rfl set w bit).trans ((leads_event _ 0x61 none (some label) 1).atWay (hord _) set w bit))
  · exact AtWay.refl ..

/-- The tag word of a way that only loses its prefetched mark holds the same sector and line. -/
theorem State.lookup_touchPf {line : LineAddr} {w : Nat} (h : s.lookup line = some w) (label : Nat) :
    (s.touchPf (lineSet line) w label).lookup line = some w := by
  have hfound := s.lookup_found h
  unfold State.touchPf
  extract_lets t
  split
  · have hset := s.lookup_setTag h (t := { t with pf := false }) hfound.1 hfound.2
    have hl : SameLookup (s.setTag (lineSet line) w { t with pf := false })
        (((s.setTag (lineSet line) w { t with pf := false }).bump PFT_USEFUL.COUNT).event 0x61 (label := some label)) := by
      have hp := onlyPmu_event ((s.setTag (lineSet line) w { t with pf := false }).bump PFT_USEFUL.COUNT) 0x61 none (some label) 1
      unfold OnlyPmu at hp
      rw [hp]
      exact ⟨rfl, rfl, rfl, rfl, rfl⟩
    exact (hl.lookup line).trans hset
  · exact h

/-! ### The line in its bank and its tag word -/

/-- The way used, the tag word DIRTY, the beats written, the bank's job on its way. -/
def State.stored (s : State) (w : Nat) (line : LineAddr) (d : LineData) (psn : Bool) : State :=
  let u := s.touch (lineSet line) w
  (u.setTag (lineSet line) w ((u.tag (lineSet line) w).put (lineBit line) .dirty psn)).writeJob (lineSet line) w line d

theorem State.writeJob_eq (set w : Nat) (line : LineAddr) (d : LineData) : ∃ j, s.writeJob set w line d
    = (s.putLine set w (lineBit line) d).pushJob j := ⟨_, rfl⟩

theorem atWay_stored (w : Nat) (line : LineAddr) (d : LineData) (psn : Bool) :
    AtWay (lineSet line) w (lineBit line) s (s.stored w line d psn) := by
  unfold State.stored
  extract_lets u
  obtain ⟨j, hj⟩ := (u.setTag (lineSet line) w ((u.tag (lineSet line) w).put (lineBit line) .dirty psn)).writeJob_eq (lineSet line) w line d
  rw [hj]
  exact (atWay_touch s _ _ _ _ _).trans ((atWay_setTag u _ _ _ _).trans ((atWay_putLine _ _ _ _ d).trans (atWay_front _ _ _ _ rfl)))

theorem State.tag_stored (w : Nat) (line : LineAddr) (d : LineData) (psn : Bool) :
    (s.stored w line d psn).tag (lineSet line) w = (s.tag (lineSet line) w).put (lineBit line) .dirty psn := by
  unfold State.stored
  extract_lets u
  obtain ⟨j, hj⟩ := (u.setTag (lineSet line) w ((u.tag (lineSet line) w).put (lineBit line) .dirty psn)).writeJob_eq (lineSet line) w line d
  have hput := (beatsOnly_putLine (u.setTag (lineSet line) w ((u.tag (lineSet line) w).put (lineBit line) .dirty psn)) (lineSet line) w
    (lineBit line) d).only
  have htag : u.tag (lineSet line) w = s.tag (lineSet line) w := by
    obtain ⟨r, hr⟩ := s.touch_ranks (lineSet line) w
    change (s.touch (lineSet line) w).tag _ _ = _
    rw [hr]
    rfl
  rw [hj]
  change ((u.setTag (lineSet line) w _).putLine (lineSet line) w (lineBit line) d).tag (lineSet line) w = _
  rw [hput]
  change (u.setTag (lineSet line) w _).tag (lineSet line) w = _
  rw [State.tag_setTag, if_pos rfl, htag]

theorem State.lookup_stored {line : LineAddr} {w : Nat} (h : s.lookup line = some w) (d : LineData) (psn : Bool) :
    (s.stored w line d psn).lookup line = some w := by
  have hfound := s.lookup_found h
  unfold State.stored
  extract_lets u
  obtain ⟨j, hj⟩ := (u.setTag (lineSet line) w ((u.tag (lineSet line) w).put (lineBit line) .dirty psn)).writeJob_eq (lineSet line) w line d
  have hput := (beatsOnly_putLine (u.setTag (lineSet line) w ((u.tag (lineSet line) w).put (lineBit line) .dirty psn)) (lineSet line) w
    (lineBit line) d).only
  have hu : SameLookup s u := by
    obtain ⟨r, hr⟩ := s.touch_ranks (lineSet line) w
    change SameLookup s (s.touch (lineSet line) w)
    rw [hr]
    exact ⟨rfl, rfl, rfl, rfl, rfl⟩
  have hway : u.lookup line = some w := (hu.lookup line).trans h
  rw [hj]
  change ((u.setTag (lineSet line) w _).putLine (lineSet line) w (lineBit line) d).lookup line = some w
  rw [hput]
  exact u.lookup_setTag hway (TagW.isInv_put _ _ _ rfl) ((TagW.sector_put ..).trans (u.lookup_found hway).2)

theorem State.lineData_stored {line : LineAddr} {w : Nat} (h : s.serving (lineSet line) w ∈ s.writeBanks (lineSet line) w) (d : LineData)
    (psn : Bool) : (s.stored w line d psn).lineData (lineSet line) w (lineBit line) = d := by
  unfold State.stored
  extract_lets u
  generalize hv : u.setTag (lineSet line) w ((u.tag (lineSet line) w).put (lineBit line) .dirty psn) = v
  have hat : AtWay (lineSet line) w (lineBit line) s v := by
    rw [← hv]
    exact (atWay_touch s _ _ _ _ _).trans (atWay_setTag u _ _ _ _)
  obtain ⟨j, hj⟩ := v.writeJob_eq (lineSet line) w line d
  rw [hj]
  change (v.putLine (lineSet line) w (lineBit line) d).lineData (lineSet line) w (lineBit line) = d
  exact v.lineData_putLine (by rw [hat.places.serving, hat.banks]; exact h) _ d

/-! ### The write -/

theorem AtWay.idle {s u : State} {set w : Nat} {bit : Bool} {line : LineAddr} (h : AtWay set w bit s u) (hi : Idle s line w)
    (hl : u.lookup line = some w) : Idle u line w :=
  ⟨hl, by rw [h.atoms]; exact hi.atoms, by rw [h.reads]; exact hi.reads⟩

theorem Idle.dropAtom {s : State} {line : LineAddr} {w : Nat} (h : Idle s line w) : s.dropAtom line = s := by
  unfold State.dropAtom
  rw [List.filter_eq_self.mpr (fun a ha => by simpa using h.atoms a ha)]

/-- A whole line stored into its way: the copy for the mirror follows. -/
theorem State.storeDirty_idle {line : LineAddr} {w : Nat} (h : Idle s line w) (d : LineData) (psn : Bool) (id : Nat) :
    s.storeDirty line d psn (some id) = (s.stored w line d psn).mirWrite line d true psn (some id) := by
  have hway := h.way
  obtain ⟨r, hr⟩ := s.touch_ranks (lineSet line) w
  have htouch : Idle (s.touch (lineSet line) w) line w := by
    rw [hr]
    exact h.congr ⟨rfl, rfl, rfl, rfl, rfl⟩ rfl rfl
  generalize hput : (s.touch (lineSet line) w).setTag (lineSet line) w
    (((s.touch (lineSet line) w).tag (lineSet line) w).put (lineBit line) .dirty psn) = u
  have hu : Idle u line w := by
    rw [← hput]
    refine ⟨(s.touch (lineSet line) w).lookup_setTag htouch.way (TagW.isInv_put _ _ _ rfl)
      ((TagW.sector_put ..).trans (State.lookup_found _ htouch.way).2), htouch.atoms, htouch.reads⟩
  have hstored : s.stored w line d psn = u.writeJob (lineSet line) w line d := by
    rw [← hput]
    rfl
  unfold State.storeDirty
  rw [hway]
  dsimp only
  rw [hput, hu.waitOn, hu.loading.2, hu.dropAtom, hstored]
  rfl

/-- Nothing is mirrored outside a pair: the write waits for no partner. -/
theorem State.mirWrite_off (h : s.pairOn = false) (line : LineAddr) (d : LineData) (dirty psn : Bool) (id : Nat) :
    s.mirWrite line d dirty psn (some id) = s.setWrite id (fun e => { e with mir := false }) := by
  have hc : s.mirCarrel line = false := by rw [State.mirCarrel, h]; rfl
  have hm : s.mirrors line = false := by rw [State.mirrors, h]; rfl
  rw [State.mirWrite, hc, hm, Bool.and_false]
  rfl

/-- What a message to the partner leaves of the stacks and the directory. -/
structure SameStore (s u : State) : Prop where
  stk : u.stk = s.stk
  coh : u.coh = s.coh
  ldg : u.ldg = s.ldg
  s64 : u.s64 = s.s64

theorem sameStore_mirWrite (line : LineAddr) (d : LineData) (dirty psn : Bool) (id : Nat) :
    SameStore s (s.mirWrite line d dirty psn (some id)) := by
  have hsent : ∀ u v : State, SentMir u v → SameStore u v := fun u v h => by
    have hf := h.1
    unfold OnlyLinks at hf
    rw [hf]
    exact ⟨rfl, rfl, rfl, rfl⟩
  unfold State.mirWrite
  split
  · dsimp only
    obtain ⟨h1, h2, h3, h4⟩ := hsent _ _ (sentMir_mirSend { (s.setWrite id fun w => { w with mir := decide (2 ≤ w.r.scope.toNat) }) with
      mir := { s.mir with noCopy := s.mir.noCopy.filter (· != line) } } _)
    exact ⟨h1, h2, h3, h4⟩
  · exact ⟨rfl, rfl, rfl, rfl⟩

/-- The write-through of a whole line that is resident and idle. -/
theorem State.through_idle {line : LineAddr} {w : Nat} (h : Idle s line w) (id : Nat) : s.through line id =
    (((s.setTag (lineSet line) w ((s.tag (lineSet line) w).put (lineBit line) .clean ((s.tag (lineSet line) w).p (lineBit line)))).farWrite line
      (s.lineData (lineSet line) w (lineBit line)) ((s.tag (lineSet line) w).p (lineBit line)) (.node id)).mirLine 1 line true) := by
  unfold State.through State.setLine
  rw [h.way, h.loading.1]

/-- The line written: its data, its tag word, what stays, and the write that waits for its ack point. -/
structure LineWritten (w : Nat) (r : Req) (d : LineData) (id : Nat) (s u : State) : Prop where
  data : u.lineData (lineSet r.line) w (lineBit r.line) = d
  st : (u.tag (lineSet r.line) w).st (lineBit r.line) = if r.scope = 3 then .clean else .dirty
  psn : (u.tag (lineSet r.line) w).p (lineBit r.line) = r.psn
  beats : TabBut 0 (s.lineKeys (lineSet r.line) w (lineBit r.line)) s.stk.beats u.stk.beats
  tags : TabBut TagW.empty [32 * lineSet r.line + w] s.stk.tags u.stk.tags
  cat : u.coh.cat = s.coh.cat
  ldg : u.ldg = s.ldg
  due : s.pairOn = false → r.scope ≠ 3 → Handed s u ∧ ∀ e ∈ s.ord.writes, e.id = id → { e with txn := false, mir := false } ∈ u.ord.writes

/-- Answers after the write leave the line as it was written. -/
theorem LineWritten.memKept {s u v : State} {w id : Nat} {r : Req} {d : LineData} (h : LineWritten w r d id s u) (hv : MemKept u v) :
    v.lineData (lineSet r.line) w (lineBit r.line) = d
      ∧ (v.tag (lineSet r.line) w).st (lineBit r.line) = (if r.scope = 3 then .clean else .dirty)
      ∧ (v.tag (lineSet r.line) w).p (lineBit r.line) = r.psn
      ∧ TabBut 0 (s.lineKeys (lineSet r.line) w (lineBit r.line)) s.stk.beats v.stk.beats
      ∧ TabBut TagW.empty [32 * lineSet r.line + w] s.stk.tags v.stk.tags ∧ v.coh.cat = s.coh.cat ∧ v.ldg = s.ldg := by
  have htag : v.tag (lineSet r.line) w = u.tag (lineSet r.line) w := by rw [State.tag, State.tag, hv.tags]
  rw [htag, hv.beats, hv.tags, hv.cat, hv.ldg, hv.places.lineData hv.beats]
  exact ⟨h.data, h.st, h.psn, h.beats, h.tags, h.cat, h.ldg⟩

/-- A whole-line write of a resident, idle line: stored, copied to the partner, and at NODE scope written through. -/
theorem State.performWrite_idle {r : Req} {w : Nat} (h : Idle s r.line w) (d : LineData) (id : Nat) :
    s.performWrite (.wrLine r d) r id =
      let z := ((((s.setWrite id (fun e => { e with txn := false })).touchPf (lineSet r.line) w r.label.toNat).stored w r.line d
        r.psn).mirWrite r.line d true r.psn (some id))
      if r.scope = 3 then z.through r.line id else z := by
  generalize hu : s.setWrite id (fun e => { e with txn := false }) = u
  have hui : Idle u r.line w := by
    rw [← hu]
    exact h.congr ⟨rfl, rfl, rfl, rfl, rfl⟩ rfl rfl
  generalize hx : u.touchPf (lineSet r.line) w r.label.toNat = x
  have hxi : Idle x r.line w := by
    rw [← hx]
    exact (atWay_touchPf u _ w (lineBit r.line) _).idle hui (u.lookup_touchPf hui.way _)
  have hyi : Idle (x.stored w r.line d r.psn) r.line w := (atWay_stored x ..).idle hxi (x.lookup_stored hxi.way ..)
  have hz : Idle ((x.stored w r.line d r.psn).mirWrite r.line d true r.psn (some id)) r.line w := by
    obtain ⟨h1, h2, _, h4⟩ := sameStore_mirWrite (x.stored w r.line d r.psn) r.line d true r.psn id
    exact hyi.congr ⟨h4, by rw [h1], by rw [h1], by rw [h1], by rw [h1]⟩ (by rw [h2]) (by rw [h1])
  have hsome : (u.lookup r.line).isNone = false := by rw [hui.way]; rfl
  unfold State.performWrite
  rw [hu]
  simp only [hui.way, Option.isNone_some, Bool.and_false, Bool.false_and, Bool.false_eq_true, if_false]
  rw [hx, x.storeDirty_idle hxi, hz.dataPending]
  simp only [Bool.false_eq_true, if_false]

/-- What a whole-line write of a resident, idle line leaves (R117, R138). -/
theorem lineWritten_performWrite {r : Req} {w : Nat} (h : Idle s r.line w) (hs : s.serving (lineSet r.line) w ∈ s.writeBanks (lineSet r.line) w)
    (d : LineData) (id : Nat) : LineWritten w r d id s (s.performWrite (.wrLine r d) r id) := by
  rw [s.performWrite_idle h]
  generalize hu : s.setWrite id (fun e => { e with txn := false }) = u
  have hsu : Handed s u ∧ SameStore s u ∧ u.writeBanks = s.writeBanks ∧ u.serving = s.serving ∧ u.pairOn = s.pairOn := by
    rw [← hu]
    exact ⟨handed_ord s _, ⟨rfl, rfl, rfl, rfl⟩, rfl, rfl, rfl⟩
  obtain ⟨hsu, hstore, hbanks, hserve, hpair⟩ := hsu
  have hui : Idle u r.line w := h.congr (by rw [← hu]; exact ⟨rfl, rfl, rfl, rfl, rfl⟩) (by rw [hstore.coh]) (by rw [hstore.stk])
  have hux := atWay_touchPf u (lineSet r.line) w (lineBit r.line) r.label.toNat
  have hxi := hux.idle hui (u.lookup_touchPf hui.way r.label.toNat)
  generalize u.touchPf (lineSet r.line) w r.label.toNat = x at hux hxi ⊢
  have hxy := atWay_stored x w r.line d r.psn
  have hyi := hxy.idle hxi (x.lookup_stored hxi.way d r.psn)
  have hdata := x.lineData_stored (line := r.line) (w := w) (by rw [hux.places.serving, hux.banks, hbanks, hserve]; exact hs) d r.psn
  have htag := x.tag_stored w r.line d r.psn
  generalize x.stored w r.line d r.psn = y at hxy hyi hdata htag ⊢
  have huy := hux.trans hxy
  obtain ⟨h1, h2, h3, h4⟩ := sameStore_mirWrite y r.line d true r.psn id
  have hmem := memKept_mirWrite y r.line d true r.psn (some id)
  have hzi : Idle (y.mirWrite r.line d true r.psn (some id)) r.line w :=
    hyi.congr ⟨h4, by rw [h1], by rw [h1], by rw [h1], by rw [h1]⟩ (by rw [h2]) (by rw [h1])
  have hkeys : u.lineKeys (lineSet r.line) w (lineBit r.line) = s.lineKeys (lineSet r.line) w (lineBit r.line) := by
    rw [State.lineKeys, State.lineKeys, hbanks]
  have hbeats : TabBut 0 (s.lineKeys (lineSet r.line) w (lineBit r.line)) s.stk.beats y.stk.beats := by
    rw [← hkeys, ← hstore.stk]
    exact huy.beats
  have htags : TabBut TagW.empty [32 * lineSet r.line + w] s.stk.tags y.stk.tags := by
    rw [← hstore.stk]
    exact huy.tags
  have hcat : y.coh.cat = s.coh.cat := huy.cat.trans (by rw [hstore.coh])
  have hldg : y.ldg = s.ldg := huy.ldg.trans hstore.ldg
  dsimp only
  split
  case isFalse hscope =>
    have htagz : (y.mirWrite r.line d true r.psn (some id)).tag (lineSet r.line) w = y.tag (lineSet r.line) w := by
      rw [State.tag, State.tag, h1]
    exact {
      data := (hmem.places.lineData hmem.beats _ _ _).trans hdata
      st := by rw [htagz, htag, if_neg hscope, TagW.st_put]
      psn := by rw [htagz, htag, TagW.p_put]
      beats := by rw [h1]; exact hbeats
      tags := by rw [h1]; exact htags
      cat := by rw [h2]; exact hcat
      ldg := h3.trans hldg
      due := fun hoff _ => by
        rw [y.mirWrite_off (by rw [huy.pair, hpair]; exact hoff)]
        refine ⟨hsu.trans (huy.handed.trans (handed_ord y _)), fun e he hid => ?_⟩
        refine List.mem_map.mpr ⟨{ e with txn := false }, ?_, if_pos hid⟩
        rw [huy.ord, ← hu]
        exact List.mem_map.mpr ⟨e, he, if_pos hid⟩ }
  case isTrue hscope =>
    generalize y.mirWrite r.line d true r.psn (some id) = z at h1 h2 h3 h4 hmem hzi ⊢
    rw [z.through_idle hzi]
    have htagz : z.tag (lineSet r.line) w = (x.tag (lineSet r.line) w).put (lineBit r.line) .dirty r.psn := by
      rw [← htag, State.tag, State.tag, h1]
    have hclean := atWay_setTag z (lineSet r.line) w (lineBit r.line)
      ((z.tag (lineSet r.line) w).put (lineBit r.line) .clean ((z.tag (lineSet r.line) w).p (lineBit r.line)))
    have hzbeats : (z.setTag (lineSet r.line) w ((z.tag (lineSet r.line) w).put (lineBit r.line) .clean
      ((z.tag (lineSet r.line) w).p (lineBit r.line)))).stk.beats = z.stk.beats := rfl
    have htagc := z.tag_setTag (lineSet r.line) w w
      ((z.tag (lineSet r.line) w).put (lineBit r.line) .clean ((z.tag (lineSet r.line) w).p (lineBit r.line)))
    generalize z.setTag (lineSet r.line) w _ = c at hclean htagc hzbeats ⊢
    have hrest := (memKept_farWrite c r.line (z.lineData (lineSet r.line) w (lineBit r.line)) ((z.tag (lineSet r.line) w).p (lineBit r.line))
      (.node id)).trans (sentMir_mirLine _ 1 r.line true).memKept
    generalize State.mirLine _ 1 r.line true = v at hrest ⊢
    have htagv : v.tag (lineSet r.line) w = (z.tag (lineSet r.line) w).put (lineBit r.line) .clean r.psn := by
      rw [State.tag, hrest.tags]
      refine htagc.trans ((if_pos rfl).trans ?_)
      rw [htagz, TagW.p_put]
    exact {
      data := by
        rw [hrest.places.lineData hrest.beats, hclean.places.lineData hzbeats, hmem.places.lineData hmem.beats]
        exact hdata
      st := by rw [htagv, if_pos hscope, TagW.st_put]
      psn := by rw [htagv, TagW.p_put]
      beats := by rw [hrest.beats, hzbeats, h1]; exact hbeats
      tags := by
        rw [hrest.tags]
        intro k hk
        refine (htags k hk).trans ?_
        rw [← h1]
        exact hclean.tags k hk
      cat := by rw [hrest.cat, hclean.cat, h2]; exact hcat
      ldg := by rw [hrest.ldg, hclean.ldg, h3]; exact hldg
      due := fun _ hne => absurd hscope hne }

end Sys2Proof.Machine
end

section
/-! SUPPORT. DRAIN_WRITE_OUT (R177) of a line that nothing holds up: what its unit checks, its write at home, its answer. -/

namespace Sys2Proof.Machine

variable (s : State)

/-! ### What the start of a command leaves of the checks -/

theorem State.begin_lookup (line : LineAddr) : s.begin.lookup line = s.lookup line :=
  SameLookup.lookup ⟨s.begin_s64, by rw [s.begin_stk], by rw [s.begin_stk], by rw [s.begin_stk], by rw [s.begin_stk]⟩ line

theorem State.begin_tag : s.begin.tag = s.tag := by
  funext set w
  rw [State.tag, State.tag, s.begin_stk]

theorem State.begin_catSet (line : LineAddr) : s.begin.catSet line = s.catSet line := by rw [State.catSet, State.catSet, s.begin_s64]

theorem State.begin_cat : s.begin.cat = s.cat := by
  funext set e
  rw [State.cat, State.cat, s.begin_coh]

theorem State.begin_catFind (line : LineAddr) : s.begin.catFind line = s.catFind line := by
  rw [State.catFind, State.catFind, s.begin_catSet, s.begin_cat]

theorem State.begin_wordsOk {line : LineAddr} (h : WordsOk s line) : WordsOk s.begin line := by
  rw [WordsOk, s.begin_tag, s.begin_cat, s.begin_catSet]
  exact h

theorem State.begin_homesSelf (line : LineAddr) : s.begin.homesSelf line = s.homesSelf line := by
  rw [State.homesSelf, State.homesSelf, State.home, State.home, s.begin_rd rfl, s.begin_rd rfl]

theorem State.begin_isCatLost (set : Nat) : s.begin.isCatLost set = s.isCatLost set := by
  refine any_congr_mem (fun n hn => ?_)
  have hlt := List.mem_range.mp hn
  have hoff : ∀ f : Field, f.off = CAT_LOST.word.off → f.stride = 4 → pmuBlock (f.off + f.stride * n) = false := fun f hf hs => by
    rw [hf, hs]
    simp only [pmuBlock, Bool.and_eq_false_imp, decide_eq_true_eq, decide_eq_false_iff_not]
    omega
  rw [State.flagI, State.flagI, s.begin_rdI _ _ (hoff CAT_LOST.LOST rfl rfl), s.begin_rdI _ _ (hoff CAT_LOST.SET rfl rfl)]

theorem State.begin_lineSt (line : LineAddr) : s.begin.lineSt line = s.lineSt line := by
  rw [State.lineSt, State.lineSt, s.begin_lookup, s.begin_tag]

theorem State.begin_dataPending (line : LineAddr) : s.begin.dataPending line = s.dataPending line := by
  rw [State.dataPending, State.dataPending, State.loading, State.loading, State.atomLine, State.atomLine, s.begin_coh, s.begin_stk]

theorem State.begin_homeHit {line : LineAddr} {w : Nat} (h : HomeHit s line w) : HomeHit s.begin line w := by
  unfold HomeHit
  rw [s.begin_homesSelf, s.begin_catSet, s.begin_isCatLost, s.begin_lookup, s.begin_lineSt, State.atomLine, s.begin_coh, s.begin_dataPending]
  exact h

theorem State.begin_places : SamePlaces s s.begin := ⟨s.begin_s64, by rw [s.begin_stk], by rw [s.begin_stk], by rw [s.begin_stk]⟩

theorem State.begin_shutterField {f : Field} (hf : f.off < 0x8000) (hs : f.stride = 8) {n : Nat} (hn : n < 256) :
    s.begin.rdI f n = s.rdI f n :=
  s.begin_rdI f n (by simp only [pmuBlock, hs, Bool.and_eq_false_imp, decide_eq_true_eq, decide_eq_false_iff_not]; omega)

theorem State.begin_sealWalk (line : LineAddr) : s.begin.sealWalk line = s.sealWalk line := by
  have hflag : ∀ {f : Field}, f.off < 0x8000 → f.stride = 8 → ∀ {n : Nat}, n < 256 → s.begin.flagI f n = s.flagI f n := fun hf hs _ hn => by
    rw [State.flagI, State.flagI, s.begin_shutterField hf hs hn]
  have hlt : ∀ n ∈ s.shutters, n < 256 := fun n hn => s.lt_of_listed (by decide) (List.mem_filter.mp hn).1
  have hshut : s.begin.shutters = s.shutters := by
    rw [State.shutters, State.shutters, s.begin_listed (by decide)]
    exact List.filter_congr (fun n hn => hflag (by decide) rfl (s.lt_of_listed (by decide) hn))
  have hby : s.begin.sealedBy line = s.sealedBy line := by
    rw [State.sealedBy, State.sealedBy, hshut]
    refine List.filter_congr (fun n hn => ?_)
    have h := hlt n hn
    rw [hflag (by decide) rfl h, State.inShutter, State.inShutter, State.shutterBase, State.shutterBase, s.begin_shutterField (by decide) rfl h,
      s.begin_shutterField (by decide) rfl h, s.begin_shutterField (by decide) rfl h]
  rw [State.sealWalk, State.sealWalk, hby]
  exact any_congr_mem (fun n hn => hflag (by decide) rfl (hlt n (List.mem_filter.mp hn).1))

theorem State.begin_carrelOf (line : LineAddr) : s.begin.carrelOf line = s.carrelOf line := by
  have hin : s.begin.carrels.find? (fun c => s.begin.inCarrel c (granule line)) = s.carrels.find? (fun c => s.inCarrel c (granule line)) := by
    rw [s.begin_carrels]
    refine List.find?_congr (fun c hc => ?_)
    have h := s.lt_of_carrels hc
    rw [State.inCarrel, State.inCarrel, State.carrelBase, State.carrelBase, s.begin_carrelField (by decide) rfl h,
      s.begin_carrelField (by decide) rfl h, s.begin_carrelField (by decide) rfl h]
  rw [State.carrelOf, State.carrelOf, s.begin_stk, hin]

theorem State.begin_pairOn : s.begin.pairOn = s.pairOn := by rw [State.pairOn, State.pairOn, s.begin_rd rfl, s.begin_mir]

theorem State.begin_mirrors (line : LineAddr) : s.begin.mirrors line = s.mirrors line := by
  rw [State.mirrors, State.mirrors, s.begin_pairOn, s.begin_homesSelf, s.begin_carrelOf, s.begin_flag rfl]

theorem State.begin_lane (line : LineAddr) : s.begin.lane line = s.lane line := by
  rw [State.lane, State.lane, State.laneOf, State.laneOf, State.lanes, State.lanes, s.begin_s64]

/-! ### What a whole-line write checks -/

theorem State.needsMirror_wrLine (r : Req) (d : LineData) : s.needsMirror (.wrLine r d) r = s.mirrors r.line := by
  unfold State.needsMirror
  exact Bool.and_true _

theorem State.mirShut_begin (r : Req) (d : LineData) : (s.begin.mirShut && s.begin.needsMirror (.wrLine r d) r)
    = (s.mirShut && s.needsMirror (.wrLine r d) r) := by
  have hcross : s.begin.mirAcross = s.mirAcross := by
    rw [State.mirAcross, State.mirAcross, State.crosses, State.crosses, s.begin_rd rfl, s.begin_rd rfl]
  rw [State.needsMirror_wrLine, State.needsMirror_wrLine, s.begin_mirrors, State.mirShut, State.mirShut, s.begin_mir, hcross]

theorem State.begin_mirBlocked (r : Req) (d : LineData) : s.begin.mirBlocked (.wrLine r d) r = s.mirBlocked (.wrLine r d) r := by
  rw [State.mirBlocked, State.mirBlocked, State.needsMirror_wrLine, State.needsMirror_wrLine, s.begin_mirrors, State.mirCredit, State.mirCredit,
    s.begin_mir, s.begin_lane]

section
variable {s} {r : Req} {w : Nat}

theorem usesHome_uncached (hc : s.catFind r.line = none) (hl : s.isCatLost (s.catSet r.line) = false) (d : LineData) :
    s.usesHome (.wrLine r d) r = true := by
  unfold State.usesHome
  rw [hc]
  dsimp only
  rw [hl]
  rfl

theorem tableFull_uncached (hc : s.catFind r.line = none) (h : HomeHit s r.line w) (d : LineData) : s.tableFull (.wrLine r d) r = false := by
  obtain ⟨hself, hlost, _⟩ := h
  have hneeds : s.needsTxn (.wrLine r d) r = false := by
    unfold State.needsTxn
    rw [hc]
    dsimp only
    rw [hlost, hself, usesHome_uncached hc hlost, Bool.not_true, Bool.and_false]
    rfl
  rw [State.tableFull, hneeds, Bool.and_false]
  rfl

/-- A whole-line write of a resident, idle line waits for the lane that windows use and for its bank, and for nothing else. -/
theorem blockCause_hit (hc : s.catFind r.line = none) (h : HomeHit s r.line w) (d : LineData) : s.blockCause (.wrLine r d) r =
    if (s.rd WIN_CTL.ACTIVE != 0 && s.laneZero r.line) = true then some 1
    else if s.bankFull (lineSet r.line) w false = true then some 1 else none := by
  obtain ⟨_, hlost, hway, hlive, hatom, hdata⟩ := h
  unfold State.blockCause
  rw [usesHome_uncached hc hlost]
  simp only [Bool.not_true, Bool.false_eq_true, if_false]
  split
  · rfl
  · rw [if_neg (by simp [isAtom]), hatom, hdata, hway]
    cases hst : s.lineSt r.line with
    | clean => rfl
    | dirty => rfl
    | inv => rw [hst] at hlive; exact absurd hlive Bool.false_ne_true
    | dead => rw [hst] at hlive; exact absurd hlive Bool.false_ne_true

end

theorem State.begin_bankFull (set w : Nat) : s.begin.bankFull set w false = s.bankFull set w false := by
  have hserve : s.begin.serving set w = s.serving set w := s.begin_places.serving set w
  have hpair : ∀ p, s.begin.pairOf p = s.pairOf p := fun p => by
    rw [State.pairOf, State.pairOf, State.spare, State.spare, State.nb, State.nb, s.begin_s64]
  have hlane : ∀ p b, s.begin.jobLane p b = s.jobLane p b := fun p b => by
    rw [State.jobLane, State.jobLane, hpair, s.begin_rd rfl]
  rw [State.bankFull, State.bankFull, hserve, hlane, State.jobs, State.jobs, s.begin_front]

theorem State.begin_blockCause {r : Req} {w : Nat} (hc : s.catFind r.line = none) (h : HomeHit s r.line w) (d : LineData) :
    s.begin.blockCause (.wrLine r d) r = s.blockCause (.wrLine r d) r := by
  rw [blockCause_hit hc h, blockCause_hit ((s.begin_catFind _).trans hc) (s.begin_homeHit h), s.begin_bankFull, s.begin_rd rfl,
    State.laneZero, State.laneZero, s.begin_front]

/-! ### The write-out -/

/-- The oldest write-out leaves its unit. -/
def State.outTaken (s : State) (k : Nat) (rest : List WriteOut) (cmd : Instr) : State :=
  { s with ldg := { s.ldg with outs := tput [] s.ldg.outs k rest }
           front := { s.front with presented := s.front.presented.filter (fun p => p.cmd != cmd) } }

/-- The write-out served at its tag lane, and tracked: its number, and the state. -/
def State.outTracked (s : State) (lane : Nat) (r : Req) (x : WriteOut) : Nat × State :=
  let u := ((s.slotServed lane).openSeals r.line).recordWrite r
  let u := u.measure r.line (!(u.lineSt r.line).live)
  let u := (u.event 0x23 (lane := some lane) (label := some r.label.toNat)).ldgCount r.label.toNat x.status rsnNone
  let p := u.trackWrite r (cmpMsg x.job.r x.status) false (decide (2 ≤ r.scope.toNat)) (decide (r.scope = 3))
  (p.1, p.2.setWrite p.1 (fun e => { e with drain := some (decide (x.job.src = .register), x.rows) }))

theorem leads_outTracked (lane : Nat) (r : Req) (x : WriteOut) : Leads s (s.outTracked lane r x).2
    ∧ (⟨(s.outTracked lane r x).1, r, cmpMsg x.job.r x.status, false, decide (2 ≤ r.scope.toNat), false, decide (r.scope = 3),
      some (decide (x.job.src = .register), x.rows)⟩ : PendW) ∈ (s.outTracked lane r x).2.ord.writes := by
  unfold State.outTracked
  extract_lets u v y p
  have hu : Leads s u := (leads_slotServed s lane).trans ((leads_openSeals _ r.line).trans (leads_recordWrite _ r))
  have hy : Leads u y := (leads_measure u _ _).trans ((leads_event v 0x23 (some lane) (some r.label.toNat) 1).trans (leads_ldgCount _ _ _ _))
  obtain ⟨hp, hmem⟩ := leads_trackWrite y r (cmpMsg x.job.r x.status) false (decide (2 ≤ r.scope.toNat)) (decide (r.scope = 3))
  exact ⟨hu.trans (hy.trans (hp.trans (leads_setWrite ..))), List.mem_map.mpr ⟨_, hmem, if_pos rfl⟩⟩

/-- A write-out that nothing holds up is taken, tracked, and served. -/
theorem State.writeOut_served {k : Nat} {x : WriteOut} {rest : List WriteOut} (hx : tget [] s.ldg.outs k = x :: rest) {r : Req}
    (hr : s.outReq x = r) (hread : WordsOk s r.line) (hfail : s.front.failed = false) (hdoze : s.dozing = false)
    (hseal : s.sealWalk r.line = false) (htxn : s.txn r.line = none) (hresv : s.coh.resv.any (fun v => v.line = r.line) = false)
    (hfull : s.tableFull (.wrLine r x.data) r = false) (hblocked : s.mirBlocked (.wrLine r x.data) r = false)
    (hshut : (s.mirShut && s.needsMirror (.wrLine r x.data) r) = false) (hcause : s.blockCause (.wrLine r x.data) r = none) :
    ∃ lane, s.writeOut k = (((s.outTaken k rest (.drainWriteOut (BitVec.ofNat 2 k))).outTracked lane r x).2.serveLine (.wrLine r x.data) r
      ((s.outTaken k rest (.drainWriteOut (BitVec.ofNat 2 k))).outTracked lane r x).1 false).ackCheck := by
  refine ⟨s.lane r.line, ?_⟩
  have hserves : (s.front.failed || s.dozing) = false := by rw [hfail, hdoze]; rfl
  unfold State.writeOut
  rw [hx]
  dsimp only
  rw [hr, hread.read, hserves, hseal, htxn, hresv, hfull, hblocked, hshut, hcause]
  simp only [Option.isSome_none, Bool.or_false, Bool.false_eq_true, if_false]
  unfold State.outTracked State.outTaken
  dsimp only

/-- A whole-line write of an uncached line of this home is performed. -/
theorem State.serveLine_uncached {r : Req} (hc : s.catFind r.line = none) (hl : s.isCatLost (s.catSet r.line) = false)
    (hself : s.homesSelf r.line = true) (d : LineData) (id : Nat) : s.serveLine (.wrLine r d) r id false = s.performWrite (.wrLine r d) r id := by
  have hnorm : s.normalize r.line = s := by rw [State.normalize, hc]
  unfold State.serveLine
  rw [hnorm]
  dsimp only
  rw [hc]
  dsimp only
  rw [hl, hself, Bool.not_true, Bool.and_false]
  rfl

theorem Leads.places {s u : State} (h : Leads s u) : SamePlaces s u := ⟨h.handed.s64, by rw [h.stk], by rw [h.stk], by rw [h.stk]⟩

/-- The line is uncached, homed here, resident and idle as before. -/
theorem Leads.hit {s u : State} {line : LineAddr} {w : Nat} (h : Leads s u) (hc : s.catFind line = none) (hh : HomeHit s line w) :
    u.catFind line = none ∧ u.isCatLost (u.catSet line) = false ∧ u.homesSelf line = true ∧ Idle u line w := by
  obtain ⟨hself, hlost, hway, _, hatom, hdata⟩ := hh
  have hset : u.catSet line = s.catSet line := by rw [State.catSet, State.catSet, h.handed.s64]
  have hcat : u.cat = s.cat := by
    funext set e
    rw [State.cat, State.cat, h.coh]
  refine ⟨by rw [State.catFind, hset, hcat]; exact hc, ?_, ?_, ?_⟩
  · rw [hset, ← hlost]
    refine any_congr_mem (fun n hn => ?_)
    have hlt := List.mem_range.mp hn
    have hword : u.word (CAT_LOST.word.off + 4 * n) = s.word (CAT_LOST.word.off + 4 * n) := h.place _ (by
      simp only [placeRegs, List.mem_cons, List.not_mem_nil, or_false]
      omega)
    rw [State.flagI, State.flagI, State.rdI_congr CAT_LOST.LOST n hword, State.rdI_congr CAT_LOST.SET n hword]
  · rw [← hself, State.homesSelf, State.homesSelf, State.home, State.home]
    have hmask : u.rd SLC_LIVE.MASK = s.rd SLC_LIVE.MASK := State.rdI_congr _ 0 (h.place SLC_LIVE.word.off (by decide))
    rw [hmask, h.handed.self]
  · exact (idle_of s hway hatom hdata).congr ⟨h.handed.s64, by rw [h.stk], by rw [h.stk], by rw [h.stk], by rw [h.stk]⟩ (by rw [h.coh]) (by rw [h.stk])

end Sys2Proof.Machine
end

section
/-! LEDGER. Drains (O42). -/

namespace Sys2Proof.Machine

/-- DRAIN_WRITE_OUT of a resident, idle line that nothing holds up. -/
theorem drainWriteOut_spec (s : State) (k : BitVec 2) (x : WriteOut) (w : Nat) (hx : (tget [] s.ldg.outs k.toNat).head? = some x) :
    let r := s.outReq x
    s.lookup r.line = some w →
    let set := lineSet r.line
    s.front.failed = false →
    s.dozing = false →
    WordsOk s r.line →
    s.sealWalk r.line = false →
    s.txn r.line = none →
    s.coh.resv.any (fun v => v.line = r.line) = false →
    s.tableFull (.wrLine r x.data) r = false →
    s.mirBlocked (.wrLine r x.data) r = false →
    (s.mirShut && s.needsMirror (.wrLine r x.data) r) = false →
    s.blockCause (.wrLine r x.data) r = none →
    HomeHit s r.line w →
    s.catFind r.line = none →
    s.serving set w ∈ s.writeBanks set w →
    ∃ t, exec (.drainWriteOut k) s = .next t ∧ t.lineData set w (lineBit r.line) = x.data
      ∧ ((t.tag set w).st (lineBit r.line) = (if r.scope = 3 then .clean else .dirty))
      ∧ (t.tag set w).p (lineBit r.line) = x.psn
      ∧ tget [] t.ldg.outs k.toNat = (tget [] s.ldg.outs k.toNat).tail
      ∧ TabBut 0 (s.lineKeys set w (lineBit r.line)) s.stk.beats t.stk.beats
      ∧ TabBut TagW.empty [32 * set + w] s.stk.tags t.stk.tags
      ∧ (x.job.src = .request → s.pairOn = false → r.scope ≠ 3 → ∀ c : Nat, s.casementOf (routeKey x.job.r.who) = some c → s.flagI
        LNK_INJ_CTL.EN c = false → s.ownPorter x.job.r.who = false → t.hands c (cmpMsg x.job.r x.status) = true)
      ∧ t.coh.cat = s.coh.cat
      ∧ t.ldg = { s.ldg with outs := t.ldg.outs } := by
  intro r
  have hpsn : r.psn = x.psn := rfl
  have hreq : s.begin.outReq x = r := by
    rw [State.outReq, State.walkReq, State.pslice, State.begin_pins, s.begin_rd rfl]
    rfl
  clear_value r
  intro hway set hfail hdoze hread hseal htxn hresv hfull hblocked hshut hcause hit hcat hserve
  obtain ⟨rest, hrest⟩ := List.head?_eq_some_iff.mp hx
  have hbcat : s.begin.catFind r.line = none := (s.begin_catFind _).trans hcat
  have hbhit := s.begin_homeHit hit
  obtain ⟨lane, hform⟩ := s.begin.writeOut_served (k := k.toNat) (x := x) (rest := rest) (by rw [State.begin_ldg]; exact hrest) hreq
    (s.begin_wordsOk hread) (by rw [State.begin_front]; exact hfail) (by rw [State.dozing, s.begin_rd rfl]; exact hdoze)
    (by rw [s.begin_sealWalk]; exact hseal) (by rw [State.txn, State.begin_coh]; exact htxn) (by rw [State.begin_coh]; exact hresv)
    (tableFull_uncached hbcat hbhit _) (by rw [s.begin_mirBlocked]; exact hblocked) (by rw [s.mirShut_begin]; exact hshut)
    (by rw [s.begin_blockCause hcat hit]; exact hcause)
  generalize htaken : s.begin.outTaken k.toNat rest (.drainWriteOut (BitVec.ofNat 2 k.toNat)) = a at hform
  have hacat : a.catFind r.line = none := by rw [← htaken]; exact hbcat
  have hahit : HomeHit a r.line w := by rw [← htaken]; exact hbhit
  have hastk : a.stk = s.stk := by rw [← htaken]; exact s.begin_stk
  have hacoh : a.coh = s.coh := by rw [← htaken]; exact s.begin_coh
  have haldg : a.ldg = { s.ldg with outs := tput [] s.ldg.outs k.toNat rest } := by
    rw [← htaken, ← s.begin_ldg]
    rfl
  have haserve : a.serving (lineSet r.line) w = s.serving (lineSet r.line) w := by
    rw [← htaken]
    exact s.begin_places.serving _ _
  have habanks : a.writeBanks (lineSet r.line) w = s.writeBanks (lineSet r.line) w := by
    rw [← htaken]
    exact s.begin_places.writeBanks (s.word_begin _ rfl) _ _
  have hapair : a.pairOn = s.pairOn := by
    rw [← htaken]
    exact s.begin_pairOn
  obtain ⟨hlead, hmem⟩ := leads_outTracked a lane r x
  generalize a.outTracked lane r x = p at hform hlead hmem
  obtain ⟨hpcat, hplost, hpself, hpidle⟩ := hlead.hit hacat hahit
  have hat := hlead.places
  have hcopy := hlead.place STK_BANK_STATE.word.off (by decide)
  have hpbanks := (hat.writeBanks hcopy (lineSet r.line) w).trans habanks
  have hwritten := lineWritten_performWrite p.2 hpidle (by rw [hpbanks, hat.serving, haserve]; exact hserve) x.data p.1
  rw [p.2.serveLine_uncached hpcat hplost hpself] at hform
  generalize p.2.performWrite (.wrLine r x.data) r p.1 = v at hform hwritten
  obtain ⟨hdata, hst, hp, hbeats, htags, hcats, hldg⟩ := hwritten.memKept (memKept_ackCheck v)
  have hkeys : p.2.lineKeys (lineSet r.line) w (lineBit r.line) = s.lineKeys (lineSet r.line) w (lineBit r.line) := by
    rw [State.lineKeys, State.lineKeys, hpbanks]
  rw [hkeys, hlead.stk, hastk] at hbeats
  rw [hlead.stk, hastk] at htags
  rw [hlead.ldg, haldg] at hldg
  have hexec : exec (.drainWriteOut k) s = .next v.ackCheck.settle := congrArg settled hform
  refine ⟨_, hexec, hdata, hst, hp.trans hpsn, ?_, hbeats, htags, fun hsrc hoff hscope c hc hquiet hown => ?_, ?_, ?_⟩
  · change tget [] v.ackCheck.ldg.outs k.toNat = _
    rw [hldg, hrest]
    exact tget_tput_same _ _ _ _
  · have hcan : CanHand s.begin c (cmpMsg x.job.r x.status) := {
      hold := rfl
      other := by
        rw [State.ownPorter, State.pslice, State.begin_pins, s.begin_rd rfl]
        exact hown
      route := by rw [s.begin_casementOf]; exact hc
      quiet := by
        have hlt := s.casementOf_lt hc
        rw [State.flagI, s.begin_rdI LNK_INJ_CTL.EN c (by
          simp only [pmuBlock, Bool.and_eq_false_imp, decide_eq_true_eq, decide_eq_false_iff_not]; omega)]
        exact hquiet }
    have hba : Handed s.begin a := by
      rw [← htaken]
      exact handed_of rfl rfl rfl rfl (fun _ h => h) (fun _ _ h => h)
    obtain ⟨hhand, hdue⟩ := hwritten.due (by rw [hlead.pairOn, hapair]; exact hoff) hscope
    refine ((hcan.handed hba).handed (hlead.handed.trans hhand)).ackCheck ⟨_, hdue _ hmem rfl, ?_, rfl, x.rows, ?_⟩
    · rw [PendW.ready, decide_eq_false hscope]
      rfl
    · rw [hsrc]
      rfl
  · exact hcats.trans (by rw [hlead.coh, hacoh])
  · change v.ackCheck.ldg = { s.ldg with outs := v.ackCheck.ldg.outs }
    rw [hldg]

/-- Settles O42: each drain step takes its drain from its place, leaves the rows and the line as its rule says, and hands it on. -/
theorem ledgerDrains : Obligations.LedgerDrains :=
  ⟨ldrain_spec, drainRead_spec, drainWriteOut_spec, ldgRowDrain_spec, heldDrainTimeout_spec, heldDrainTimeout_other⟩

end Sys2Proof.Machine
end

section
/-! SUPPORT. Power commands and DOZE (R309 to R311, R332). -/

namespace Sys2Proof.Machine

variable (s : State)

/-! ### What a power command changes -/

/-- At most the power unit, PWR_STATUS and what is sent change. -/
structure OnlyPwr (s u : State) : Prop where
  only : u = { s with regs := u.regs, pwr := u.pwr, out := u.out }
  word : ∀ k, k ≠ PWR_STATUS.word.off → u.word k = s.word k

theorem OnlyPwr.refl : OnlyPwr s s := ⟨rfl, fun _ _ => rfl⟩

theorem OnlyPwr.trans {s t u : State} (hst : OnlyPwr s t) (htu : OnlyPwr t u) : OnlyPwr s u := by
  refine ⟨?_, fun k hk => (htu.word k hk).trans (hst.word k hk)⟩
  have h1 := hst.only
  have h2 := htu.only
  rw [h2, h1]

theorem onlyPwr_withPwr (p : Pwr) : OnlyPwr s { s with pwr := p } := ⟨rfl, fun _ _ => rfl⟩

theorem onlyPwr_wr {f : Field} (v : Nat) (hf : f.off = PWR_STATUS.word.off) : OnlyPwr s (s.wr f v) :=
  ⟨rfl, fun k hk => (State.word_wr ..).trans (if_neg (by rw [hf]; exact hk))⟩

theorem onlyPwr_pwrShow (status reason : Nat) : OnlyPwr s (s.pwrShow status reason) :=
  (onlyPwr_wr s (f := PWR_STATUS.LAST_STATUS) status rfl).trans (onlyPwr_wr _ (f := PWR_STATUS.REASON) reason rfl)

theorem onlyPwr_answer (src : MgSrc) (a b : Nat) (d : Word) : OnlyPwr s (s.answer src a b d) := by
  rw [State.answer_eq]
  exact ⟨rfl, fun _ _ => rfl⟩

theorem onlyPwr_budgetSend (typ status : Nat) (seq : BitVec 8) (reason granted : Nat) :
    OnlyPwr s (s.budgetSend typ status seq reason granted) := by
  rw [State.budgetSend_eq]
  exact ⟨rfl, fun _ _ => rfl⟩

theorem onlyPwr_pwrAnswer (c : PwrCmd) (status reason : Nat) : OnlyPwr s (s.pwrAnswer c status reason) := by
  unfold State.pwrAnswer
  extract_lets u
  refine (onlyPwr_pwrShow s status reason).trans ?_
  split
  · exact onlyPwr_answer ..
  · exact onlyPwr_budgetSend ..
  · exact OnlyPwr.refl _

theorem onlyPwr_pwrDone (c : PwrCmd) (status reason : Nat) : OnlyPwr s (s.pwrDone c status reason) := by
  unfold State.pwrDone
  split
  · exact onlyPwr_budgetSend ..
  · exact OnlyPwr.refl _

theorem onlyPwr_pwrGo (st ph : Nat) : OnlyPwr s (s.pwrGo st ph) :=
  (onlyPwr_wr s (f := PWR_STATUS.STATE) st rfl).trans (onlyPwr_wr _ (f := PWR_STATUS.PHASE) ph rfl)

/-- Outside a pair no partner is told. -/
theorem State.pwrTell_alone (h : s.pairFull = false) (c : PwrCmd) : s.pwrTell c = s := by
  rw [State.pwrTell, h]
  rfl

theorem onlyPwr_pwrStart (h : s.pairFull = false) (c : PwrCmd) : OnlyPwr s (s.pwrStart c) := by
  have htaken : OnlyPwr s (s.pwrTaken c) := onlyPwr_withPwr ..
  have hfull : (s.pwrTaken c).pairFull = false := h
  rw [State.pwrStart_eq]
  split
  · split <;> exact htaken.trans (onlyPwr_pwrGo ..)
  · split
    · exact htaken.trans (onlyPwr_pwrGo ..)
    · rw [State.pwrTell_alone _ hfull]
      exact htaken.trans (onlyPwr_pwrGo ..)

/-- After a power step: the power unit, and PWR_STATUS alone among the registers. -/
theorem OnlyPwr.frame {s u : State} (h : OnlyPwr s.begin u) :
    OnlyRegs { s with pwr := u.settle.pwr } u.settle ∧ RegsBut [PWR_STATUS.word.off] s u.settle :=
  ⟨onlyRegs_pwr h.only, fun k hk hp => (h.word k (by simpa using hk)).trans (s.word_begin k hp)⟩

theorem untouched_begin : Untouched s s.begin.settle :=
  ⟨by simp, by apply onlyRegs_settle <;> simp, fun k _ hp => s.word_begin k hp⟩

/-! ### What a power command's answer leaves -/

theorem State.pwrShow_pwr (a b : Nat) : (s.pwrShow a b).pwr = s.pwr := by rw [State.pwrShow, State.wr_pwr, State.wr_pwr]

theorem State.pwrShow_out (a b : Nat) : (s.pwrShow a b).out = s.out := by simp [State.pwrShow]

theorem State.pwrAnswer_reg {c : PwrCmd} {src : MgSrc} (h : c.by' = .reg src) (a b : Nat) :
    s.pwrAnswer c a b = (s.pwrShow a b).answer src a b := by
  rw [State.pwrAnswer, h]

theorem State.pwrAnswer_reg_out {c : PwrCmd} {src : MgSrc} (h : c.by' = .reg src) (a b : Nat) :
    (s.pwrAnswer c a b).out = s.out ++ [answerOut src a b 0] := by
  rw [s.pwrAnswer_reg h, State.answer_out, State.pwrShow_out]

theorem State.pwrAnswer_reg_pwr {c : PwrCmd} {src : MgSrc} (h : c.by' = .reg src) (a b : Nat) : (s.pwrAnswer c a b).pwr = s.pwr := by
  rw [s.pwrAnswer_reg h, State.answer_eq, ← s.pwrShow_pwr a b]

theorem State.rd_pwrAnswer (c : PwrCmd) (a b : Nat) (f : Field) : (s.pwrAnswer c a b).rd f = (s.pwrShow a b).rd f := by
  unfold State.pwrAnswer
  extract_lets u
  split
  · exact u.rdI_answer ..
  · rfl
  · rfl

theorem State.rd_pwrShow_apart {f : Field} (a b : Nat) (h1 : Apart PWR_STATUS.LAST_STATUS f) (h2 : Apart PWR_STATUS.REASON f) :
    (s.pwrShow a b).rd f = s.rd f := by
  rw [State.pwrShow, State.rd_wr_apart _ _ h2, State.rd_wr_apart _ _ h1]

theorem State.rd_pwrAnswer_apart {f : Field} (c : PwrCmd) (a b : Nat) (h1 : Apart PWR_STATUS.LAST_STATUS f) (h2 : Apart PWR_STATUS.REASON f) :
    (s.pwrAnswer c a b).rd f = s.rd f := by
  rw [State.rd_pwrAnswer, s.rd_pwrShow_apart a b h1 h2]

theorem State.pwrGo_shown {st ph : Nat} (hst : st < 16) (hph : ph < 8) :
    (s.pwrGo st ph).rd PWR_STATUS.STATE = st ∧ (s.pwrGo st ph).rd PWR_STATUS.PHASE = ph := by
  constructor
  · rw [State.pwrGo, State.rd_wr_apart _ _ (by decide), State.rd_wr_same _ _ _ (by decide)]
    exact Nat.mod_eq_of_lt hst
  · rw [State.pwrGo, State.rd_wr_same _ _ _ (by decide)]
    exact Nat.mod_eq_of_lt hph

theorem State.pwrGo_out (st ph : Nat) : (s.pwrGo st ph).out = s.out := by simp [State.pwrGo]

/-- The pending command, as the registers show it. -/
def State.pwrPend (s : State) (c : Option PwrCmd) (target : Nat) : State :=
  (({ s with pwr := { s.pwr with pend := c } }).setFlag PWR_STATUS.PEND_V c.isSome).wr PWR_STATUS.PEND target

theorem onlyPwr_pwrPend (c : Option PwrCmd) (n : Nat) : OnlyPwr s (s.pwrPend c n) :=
  (onlyPwr_withPwr s _).trans ((onlyPwr_wr _ (f := PWR_STATUS.PEND_V) _ rfl).trans (onlyPwr_wr _ (f := PWR_STATUS.PEND) _ rfl))

theorem State.pwrPend_pwr (c : Option PwrCmd) (n : Nat) : (s.pwrPend c n).pwr = { s.pwr with pend := c } := by
  rw [State.pwrPend, State.wr_pwr, State.setFlag, State.wr_pwr]

theorem State.pwrPend_out (c : Option PwrCmd) (n : Nat) : (s.pwrPend c n).out = s.out := by simp [State.pwrPend]

theorem State.pwrPend_shown (c : Option PwrCmd) {n : Nat} (hn : n < 4) : (s.pwrPend c n).flag PWR_STATUS.PEND_V = c.isSome
    ∧ (s.pwrPend c n).rd PWR_STATUS.PEND = n ∧ (s.pwrPend c n).rd PWR_STATUS.STATE = s.rd PWR_STATUS.STATE := by
  refine ⟨?_, ?_, ?_⟩
  · rw [State.flag_eq, State.pwrPend, State.rd_wr_apart _ _ (by decide), State.rd_setFlag_same _ _ _ (by decide) rfl]
    cases c <;> rfl
  · rw [State.pwrPend, State.rd_wr_same _ _ _ (by decide)]
    exact Nat.mod_eq_of_lt hn
  · rw [State.pwrPend, State.rd_wr_apart _ _ (by decide), State.rd_setFlag_apart _ _ (by decide)]
    rfl

/-- A command while a transition runs. -/
theorem State.pwrCommand_running {c r : PwrCmd} (hr : s.pwr.run = some r) : s.pwrCommand c =
    if s.online = false then s.pwrAnswer c stRefused rsnPower
    else if c.target = r.target then (s.pwrPend none 0).pwrAnswer c stOk rsnNone
    else (s.pwrPend (some { c with told := true }) c.target).pwrAnswer c stOk rsnNone := by
  unfold State.pwrCommand
  rw [hr]
  cases s.online <;> rfl

/-- A command while none runs. -/
theorem State.pwrCommand_idle {c : PwrCmd} (hr : s.pwr.run = none) : s.pwrCommand c =
    match s.pwrRefusal c with
    | some r => s.pwrAnswer c stRefused r
    | none => if c.target = 1 then s.pwrStart c else (s.pwrStart { c with told := true }).pwrAnswer c stOk rsnNone := by
  unfold State.pwrCommand
  rw [hr] <;> rfl

theorem State.pwrStart_shown (c : PwrCmd) :
    (s.pwrStart c).rd PWR_STATUS.STATE = (if c.target = 0 then (if s.pwrNow = 1 then 5 else 7) else if c.target = 1 then 4
      else if c.target = 3 then 8 else 6)
    ∧ (s.pwrStart c).rd PWR_STATUS.PHASE = (if c.target = 0 then (if s.pwrNow = 1 then 0 else 1) else if c.target = 1 then 0 else 1) := by
  rw [State.pwrStart_eq]
  split
  · split <;> exact State.pwrGo_shown _ (by decide) (by decide)
  · split
    · exact State.pwrGo_shown _ (by decide) (by decide)
    · exact State.pwrGo_shown _ (by split <;> decide) (by decide)

theorem State.pwrStart_out {c : PwrCmd} (h : c.target < 2) : (s.pwrStart c).out = s.out := by
  rw [State.pwrStart_eq]
  split
  · split <;> rw [State.pwrGo_out] <;> rfl
  · rw [if_pos (by omega), State.pwrGo_out]
    rfl

/-! ### A write of PWR_CMD -/

/-- The command that a word of PWR_CMD carries. -/
def pwrCmdOf (m : MgWrite) : PwrCmd := ⟨fieldGet PWR_CMD.TARGET m.word, fieldGet PWR_CMD.PAIR m.word != 0, .reg m.src, false⟩

theorem pwrCmdOf_target (m : MgWrite) : (pwrCmdOf m).target < 4 := fieldGet_lt PWR_CMD.TARGET m.word

/-- The word stored. -/
def State.pwrStored (s : State) (m : MgWrite) : State := s.plain PWR_CMD.word.off m.word

theorem State.pwrStored_rd (m : MgWrite) {f : Field} (h : f.off ≠ PWR_CMD.word.off) : (s.pwrStored m).rd f = s.rd f :=
  s.rd_plain_other m.word h

theorem State.pwrStored_word (m : MgWrite) {k : Nat} (h : k ≠ PWR_CMD.word.off) : (s.pwrStored m).word k = s.word k :=
  s.word_plain_other m.word h

theorem State.pwrStored_refusal (m : MgWrite) (c : PwrCmd) : (s.pwrStored m).pwrRefusal c = s.pwrRefusal c := by
  have honline : (s.pwrStored m).online = s.online := by
    rw [State.online, State.online, s.pwrStored_rd m (by decide)]
  rw [State.pwrRefusal, State.pwrRefusal, State.pwrNow, State.pwrNow, State.pairFull, State.pairFull, honline,
    s.pwrStored_rd (f := PWR_STATUS.STATE) m (by decide), s.pwrStored_rd (f := MIR_STATUS.STATE) m (by decide),
    s.pwrStored_rd (f := WIN_CTL.ACTIVE) m (by decide)]

theorem State.writePwrCmd_eq (m : MgWrite) : s.writePwrCmd m =
    if m.word.getLsbD 31 = true then (s.pwrStored m).pwrCommand (pwrCmdOf m) else (s.pwrStored m).ok m.src := by
  unfold State.writePwrCmd
  extract_lets u
  cases m.word.getLsbD 31 <;> rfl

/-- A command of a register: what each way of meeting it leaves (R309, R332). -/
structure PwrMet (s : State) (c : PwrCmd) (src : MgSrc) (t : State) : Prop where
  refused : s.pwr.run = none → ∀ r : Nat, s.pwrRefusal c = some r → t.out = s.out ++ [answerOut src stRefused r 0] ∧ t.pwr = s.pwr
    ∧ t.rd PWR_STATUS.LAST_STATUS = stRefused ∧ t.rd PWR_STATUS.REASON = r ∧ t.rd PWR_STATUS.STATE = s.rd PWR_STATUS.STATE
  doze : s.pwr.run = none → s.pwrRefusal c = none → c.target = 1 → t.out = s.out ∧ t.pwr = { s.pwr with run := some c, t0 := s.now }
    ∧ t.rd PWR_STATUS.STATE = 4 ∧ t.rd PWR_STATUS.PHASE = 0
  active : s.pwr.run = none → s.pwrRefusal c = none → c.target = 0 → t.out = s.out ++ [answerOut src stOk rsnNone 0]
    ∧ t.pwr = { s.pwr with run := some { c with told := true }, t0 := s.now }
    ∧ t.rd PWR_STATUS.STATE = (if s.rd PWR_STATUS.STATE = 1 then 5 else 7) ∧ t.rd PWR_STATUS.PHASE = (if s.rd PWR_STATUS.STATE = 1 then 0 else 1)
  enters : s.pwr.run = none → s.pwrRefusal c = none → 2 ≤ c.target → t.out.getLast? = some (answerOut src stOk rsnNone 0)
    ∧ t.pwr = { s.pwr with run := some { c with told := true }, t0 := s.now }
    ∧ t.rd PWR_STATUS.STATE = (if c.target = 3 then 8 else 6) ∧ t.rd PWR_STATUS.PHASE = 1
  offline : s.pwr.run.isSome = true → s.online = false → t.out = s.out ++ [answerOut src stRefused rsnPower 0] ∧ t.pwr = s.pwr
  same : s.online = true → ∀ r : PwrCmd, s.pwr.run = some r → r.target = c.target → t.out = s.out ++ [answerOut src stOk rsnNone 0]
    ∧ t.pwr = { s.pwr with pend := none } ∧ t.flag PWR_STATUS.PEND_V = false ∧ t.rd PWR_STATUS.STATE = s.rd PWR_STATUS.STATE
  other : s.online = true → ∀ r : PwrCmd, s.pwr.run = some r → r.target ≠ c.target → t.out = s.out ++ [answerOut src stOk rsnNone 0]
    ∧ t.pwr = { s.pwr with pend := some { c with told := true } } ∧ t.flag PWR_STATUS.PEND_V = true ∧ t.rd PWR_STATUS.PEND = c.target
    ∧ t.rd PWR_STATUS.STATE = s.rd PWR_STATUS.STATE

theorem pwrMet_pwrCommand {c : PwrCmd} {src : MgSrc} (hc : c.by' = .reg src) (ht : c.target < 4) : PwrMet s c src (s.pwrCommand c) where
  refused hr r hno := by
    obtain ⟨hst, hre⟩ := s.pwrShow_shown (status := stRefused) (by decide) (s.pwrRefusal_lt hno)
    rw [s.pwrCommand_idle hr, hno]
    dsimp only
    rw [s.pwrAnswer_reg_out hc, s.pwrAnswer_reg_pwr hc, State.rd_pwrAnswer, State.rd_pwrAnswer, s.rd_pwrAnswer_apart c _ _ (by decide) (by decide)]
    exact ⟨rfl, rfl, hst, hre, rfl⟩
  doze hr hno h1 := by
    obtain ⟨hst, hph⟩ := s.pwrStart_shown c
    rw [s.pwrCommand_idle hr, hno]
    dsimp only
    rw [if_pos h1, s.pwrStart_out (by omega), State.pwrStart_pwr, hst, hph, h1]
    exact ⟨rfl, rfl, rfl, rfl⟩
  active hr hno h0 := by
    obtain ⟨hst, hph⟩ := s.pwrStart_shown { c with told := true }
    rw [s.pwrCommand_idle hr, hno]
    dsimp only
    rw [if_neg (by omega), State.pwrAnswer_reg_out _ hc, State.pwrAnswer_reg_pwr _ hc, s.pwrStart_out (by simp only; omega), State.pwrStart_pwr,
      State.rd_pwrAnswer_apart _ c _ _ (by decide) (by decide), State.rd_pwrAnswer_apart _ c _ _ (by decide) (by decide), hst, hph]
    dsimp only
    rw [h0]
    exact ⟨rfl, rfl, rfl, rfl⟩
  enters hr hno h2 := by
    have h0 : ¬ c.target = 0 := by omega
    have h1 : ¬ c.target = 1 := by omega
    obtain ⟨hst, hph⟩ := s.pwrStart_shown { c with told := true }
    rw [s.pwrCommand_idle hr, hno]
    dsimp only
    rw [if_neg h1, State.pwrAnswer_reg_out _ hc, State.pwrAnswer_reg_pwr _ hc, State.pwrStart_pwr,
      State.rd_pwrAnswer_apart _ c _ _ (by decide) (by decide), State.rd_pwrAnswer_apart _ c _ _ (by decide) (by decide), hst, hph]
    dsimp only
    rw [if_neg h0, if_neg h1, if_neg h0, if_neg h1]
    exact ⟨by simp, rfl, rfl, rfl⟩
  offline hr hoff := by
    obtain ⟨r, hr⟩ := Option.isSome_iff_exists.mp hr
    rw [s.pwrCommand_running hr, if_pos hoff, s.pwrAnswer_reg_out hc, s.pwrAnswer_reg_pwr hc]
    exact ⟨rfl, rfl⟩
  same hon r hr heq := by
    obtain ⟨hv, _, hst⟩ := s.pwrPend_shown none (n := 0) (by decide)
    rw [s.pwrCommand_running hr, if_neg (by rw [hon]; decide), if_pos heq.symm, State.pwrAnswer_reg_out _ hc, State.pwrAnswer_reg_pwr _ hc,
      State.flag_eq, State.rd_pwrAnswer_apart _ c _ _ (by decide) (by decide), State.rd_pwrAnswer_apart _ c _ _ (by decide) (by decide),
      State.pwrPend_out, State.pwrPend_pwr, ← State.flag_eq]
    exact ⟨rfl, rfl, hv, hst⟩
  other hon r hr hne := by
    obtain ⟨hv, hp, hst⟩ := s.pwrPend_shown (some { c with told := true }) ht
    rw [s.pwrCommand_running hr, if_neg (by rw [hon]; decide), if_neg (Ne.symm hne), State.pwrAnswer_reg_out _ hc, State.pwrAnswer_reg_pwr _ hc,
      State.flag_eq, State.rd_pwrAnswer_apart _ c _ _ (by decide) (by decide), State.rd_pwrAnswer_apart _ c _ _ (by decide) (by decide),
      State.rd_pwrAnswer_apart _ c _ _ (by decide) (by decide), State.pwrPend_out, State.pwrPend_pwr, ← State.flag_eq]
    exact ⟨rfl, rfl, hv, hp, hst⟩

theorem onlyPwr_pwrCommand (h : s.pairFull = false) (c : PwrCmd) : OnlyPwr s (s.pwrCommand c) := by
  rcases Option.eq_none_or_eq_some s.pwr.run with hr | ⟨r, hr⟩
  · rw [s.pwrCommand_idle hr]
    split
    · exact onlyPwr_pwrAnswer ..
    · split
      · exact onlyPwr_pwrStart s h c
      · exact (onlyPwr_pwrStart s h _).trans (onlyPwr_pwrAnswer ..)
  · rw [s.pwrCommand_running hr]
    split
    · exact onlyPwr_pwrAnswer ..
    · split <;> exact (onlyPwr_pwrPend ..).trans (onlyPwr_pwrAnswer ..)

theorem SentPwr.ldg {s u : State} (h : SentPwr s u) : u.ldg = s.ldg := by
  have hf := h.1
  unfold OnlyLinks at hf
  rw [hf]

theorem pwrCmd_spec (s : State) (i : Instr) (m : MgWrite)
    (hi : i = .pwrCmdActive m ∨ i = .pwrCmdDoze m ∨ i = .pwrCmdRetain m ∨ i = .pwrCmdOff m) :
    let c : PwrCmd := ⟨fieldGet PWR_CMD.TARGET m.word, fieldGet PWR_CMD.PAIR m.word != 0, .reg m.src, false⟩
    let go := m.word.getLsbD 31 = true
    let st := s.rd PWR_STATUS.STATE
    Admits s PWR_CMD.word.off m.src →
    ∃ t, exec i s = .next t ∧ (¬ go → t.out = [answerOut m.src stOk rsnNone 0] ∧ t.pwr = s.pwr ∧ t.word PWR_STATUS.word.off = s.word
      PWR_STATUS.word.off)
      ∧ (go → s.pwr.run = none → ∀ r : Nat, s.pwrRefusal c = some r → t.out = [answerOut m.src stRefused r 0] ∧ t.pwr = s.pwr ∧ t.rd
        PWR_STATUS.LAST_STATUS = stRefused ∧ t.rd PWR_STATUS.REASON = r ∧ t.rd PWR_STATUS.STATE = st)
      ∧ (go → s.pwr.run = none → s.pwrRefusal c = none → c.target = 1 → t.out = [] ∧ t.pwr = { s.pwr with run := some c, t0 := s.now } ∧
        t.rd PWR_STATUS.STATE = 4 ∧ t.rd PWR_STATUS.PHASE = 0)
      ∧ (go → s.pwr.run = none → s.pwrRefusal c = none → c.target = 0 → t.out = [answerOut m.src stOk rsnNone 0] ∧ t.pwr =
        { s.pwr with run := some { c with told := true }, t0 := s.now } ∧ t.rd PWR_STATUS.STATE = (if st = 1 then 5 else 7) ∧ t.rd
        PWR_STATUS.PHASE = (if st = 1 then 0 else 1))
      ∧ (go → s.pwr.run = none → s.pwrRefusal c = none → 2 ≤ c.target → t.out.getLast? = some (answerOut m.src stOk rsnNone 0) ∧ t.pwr =
        { s.pwr with run := some { c with told := true }, t0 := s.now } ∧ t.rd PWR_STATUS.STATE = (if c.target = 3 then 8 else 6) ∧ t.rd
        PWR_STATUS.PHASE = 1)
      ∧ (go → s.pwr.run.isSome = true → s.online = false → t.out = [answerOut m.src stRefused rsnPower 0] ∧ t.pwr = s.pwr)
      ∧ (go → s.online = true → ∀ r : PwrCmd, s.pwr.run = some r → r.target = c.target → t.out = [answerOut m.src stOk rsnNone 0] ∧ t.pwr
        = { s.pwr with pend := none } ∧ t.flag PWR_STATUS.PEND_V = false ∧ t.rd PWR_STATUS.STATE = st)
      ∧ (go → s.online = true → ∀ r : PwrCmd, s.pwr.run = some r → r.target ≠ c.target → t.out = [answerOut m.src stOk rsnNone 0] ∧ t.pwr
        = { s.pwr with pend := some { c with told := true } } ∧ t.flag PWR_STATUS.PEND_V = true ∧ t.rd PWR_STATUS.PEND = c.target ∧ t.rd
        PWR_STATUS.STATE = st)
      ∧ (s.pairFull = false → OnlyRegs { s with pwr := t.pwr } t ∧ RegsBut [PWR_CMD.word.off, PWR_STATUS.word.off] s t)
      ∧ t.stk = s.stk
      ∧ t.coh = s.coh
      ∧ t.ldg = s.ldg := by
  intro c go st h
  have hexec : exec i s = .next (s.begin.writePwrCmd m).settle := by
    rcases hi with rfl | rfl | rfl | rfl <;> exact settled_mgWrite h _ _
  refine ⟨_, hexec, ?_⟩
  rw [State.writePwrCmd_eq]
  have hc : pwrCmdOf m = c := rfl
  have ht : c.target < 4 := pwrCmdOf_target m
  have hup : (s.begin.pwrStored m).pwr = s.pwr := by rw [State.pwrStored, State.plain_pwr, State.begin_pwr]
  have hunow : (s.begin.pwrStored m).now = s.now := by rw [State.now, State.pwrStored, State.plain_pins]; exact s.begin_now
  have huout : (s.begin.pwrStored m).out = [] := by rw [State.pwrStored, State.plain_out, State.begin_out]
  have hust : (s.begin.pwrStored m).rd PWR_STATUS.STATE = st := by rw [State.pwrStored_rd _ _ (by decide)]; exact s.begin_rd rfl
  have huon : (s.begin.pwrStored m).online = s.online := by
    rw [State.online, State.online, State.pwrStored_rd _ _ (by decide), s.begin_rd rfl]
  have huref : (s.begin.pwrStored m).pwrRefusal c = s.pwrRefusal c := by rw [State.pwrStored_refusal, State.begin_pwrRefusal]
  have hufull : (s.begin.pwrStored m).pairFull = s.pairFull := by
    rw [State.pairFull, State.pairFull, State.pwrStored_rd _ _ (by decide), s.begin_rd rfl]
  have hustk : (s.begin.pwrStored m).stk = s.stk := by rw [State.pwrStored, State.plain_stk, State.begin_stk]
  have hucoh : (s.begin.pwrStored m).coh = s.coh := by rw [State.pwrStored, State.plain_coh, State.begin_coh]
  have huldg : (s.begin.pwrStored m).ldg = s.ldg := by rw [State.pwrStored, State.plain_ldg, State.begin_ldg]
  have huword : ∀ k, k ≠ PWR_CMD.word.off → pmuBlock k = false → (s.begin.pwrStored m).word k = s.word k := fun k hk hp =>
    (State.pwrStored_word _ m hk).trans (s.word_begin k hp)
  have hufile : (s.begin.pwrStored m) = { s.begin with regs := (s.begin.pwrStored m).regs } := onlyRegFile_plain ..
  generalize s.begin.pwrStored m = u at *
  by_cases hgo : go
  · have hsent := sentPwr_pwrCommand u c
    have hframe : s.pairFull = false → OnlyRegs { s with pwr := (u.pwrCommand c).pwr } (u.pwrCommand c).settle
        ∧ RegsBut [PWR_CMD.word.off, PWR_STATUS.word.off] s (u.pwrCommand c).settle := fun hfull => by
      obtain ⟨honly, hword⟩ := onlyPwr_pwrCommand u (by rw [hufull]; exact hfull) c
      refine ⟨onlyRegs_pwr ?_, fun k hk hp => ?_⟩
      · rw [honly, hufile]
      · simp only [List.mem_cons, List.not_mem_nil, or_false, not_or] at hk
        exact (hword k hk.2).trans (huword k hk.1 hp)
    have hmet := pwrMet_pwrCommand u (c := c) (src := m.src) rfl ht
    have hstk := hsent.stk.trans hustk
    have hcoh := hsent.coh.trans hucoh
    have hldg := hsent.ldg.trans huldg
    rw [if_pos hgo, hc]
    generalize u.pwrCommand c = v at *
    obtain ⟨h1, h2, h3, h4, h5, h6, h7⟩ := hmet
    rw [hup, huref, huout] at h1 h2 h3
    rw [hup, huref] at h4
    rw [hup, huout, huon] at h5 h6 h7
    rw [hunow] at h2 h3 h4
    rw [hust] at h1 h3 h6 h7
    exact ⟨fun hn => absurd hgo hn, fun _ => h1, fun _ => h2, fun _ => h3, fun _ => h4, fun _ => h5, fun _ => h6, fun _ => h7, hframe,
      hstk, hcoh, hldg⟩
  · rw [if_neg hgo, State.ok, State.answer_eq]
    refine ⟨fun _ => ⟨by simp [huout], hup, huword _ (by decide) rfl⟩, fun h => absurd h hgo, fun h => absurd h hgo, fun h => absurd h hgo,
      fun h => absurd h hgo, fun h => absurd h hgo, fun h => absurd h hgo, fun h => absurd h hgo, fun _ => ⟨onlyRegs_pwr ?_, fun k hk hp => ?_⟩,
      hustk, hucoh, huldg⟩
    · rw [hufile]
    · simp only [List.mem_cons, List.not_mem_nil, or_false, not_or] at hk
      exact huword k hk.1 hp

end Sys2Proof.Machine
end

section
/-! SUPPORT. DOZE (R310, R311). -/

namespace Sys2Proof.Machine

variable (s : State)

/-! ### Idle -/

theorem State.begin_porFlag {f : Field} (hf : f.off < 0x20500) (hs : f.stride = 64) {c : Nat} (hc : c < 16) :
    s.begin.flagI f c = s.flagI f c := by
  rw [State.flagI, State.flagI, s.begin_rdI f c (by
    simp only [pmuBlock, hs, Bool.and_eq_false_imp, decide_eq_true_eq, decide_eq_false_iff_not]; omega)]

theorem State.begin_porActive {c : Nat} (hc : c < 16) : s.begin.porActive c = s.porActive c := by
  rw [State.porActive, State.porActive, s.begin_flag rfl, s.begin_flag rfl, s.begin_porFlag (by decide) rfl hc, s.begin_porFlag (by decide) rfl hc,
    State.winding, State.winding, s.begin_rd rfl, s.begin_rd rfl]

theorem State.begin_porState {c : Nat} (hc : c < 16) : s.begin.porState c = s.porState c := by
  rw [State.porState, State.porState, State.xfer, State.xfer, s.begin_porActive hc, s.begin_porFlag (by decide) rfl hc,
    s.begin_porFlag (by decide) rfl hc, s.begin_porFlag (by decide) rfl hc, s.begin_por]

theorem all_congr_mem {α : Type} {l : List α} {p q : α → Bool} (h : ∀ a ∈ l, p a = q a) : l.all p = l.all q := by
  rw [Bool.eq_iff_iff, List.all_eq_true, List.all_eq_true]
  exact forall₂_congr (fun a ha => by rw [h a ha])

theorem State.begin_idle : s.begin.idle = s.idle := by
  have hpor : (List.range 16).all (fun c => let st := s.begin.porState c; st = 0 || st = 6)
      = (List.range 16).all (fun c => let st := s.porState c; st = 0 || st = 6) :=
    all_congr_mem (fun c hc => by rw [s.begin_porState (List.mem_range.mp hc)])
  rw [State.idle, State.idle, hpor, State.begin_front, State.begin_coh, State.begin_por, State.begin_place, State.begin_ord, State.begin_ldg,
    s.begin_flag rfl]

/-! ### The end of a transition -/

theorem State.pwrNext_none (h : s.pwr.pend = none) : s.pwrNext = s := by
  unfold State.pwrNext
  rw [h]

theorem State.pwrDone_quiet {c : PwrCmd} (h : c.seqOf = none) (a b : Nat) : s.pwrDone c a b = s := by
  unfold State.pwrDone
  split
  · rename_i q hq
    rw [PwrCmd.seqOf, hq] at h
    exact absurd h (by simp)
  · rfl

theorem State.pwrDone_msg {c : PwrCmd} {q : BitVec 8} (h : c.seqOf = some q) (a b : Nat) : s.pwrDone c a b = s.budgetSend 4 a q b s.capNow := by
  have hc : c.by' = .msg q := by
    unfold PwrCmd.seqOf at h
    split at h
    · rename_i x hx
      rw [hx, Option.some_inj.mp h]
    · exact absurd h (by simp)
  rw [State.pwrDone, hc]

theorem PwrCmd.by_of_regOf {c : PwrCmd} {x : MgSrc} (h : c.regOf = some x) : c.by' = .reg x := by
  unfold PwrCmd.regOf at h
  split at h
  · rename_i y hy
    rw [hy, Option.some_inj.mp h]
  · exact absurd h (by simp)

theorem State.rd_pwrDone (c : PwrCmd) (a b : Nat) (f : Field) : (s.pwrDone c a b).rd f = s.rd f := by
  unfold State.pwrDone
  split <;> rfl

theorem State.word_pwrDone (c : PwrCmd) (a b k : Nat) : (s.pwrDone c a b).word k = s.word k := by
  unfold State.pwrDone
  split <;> rfl

theorem State.pwrDone_run (c : PwrCmd) (a b : Nat) : (s.pwrDone c a b).pwr.run = s.pwr.run ∧ (s.pwrDone c a b).pwr.pend = s.pwr.pend := by
  unfold State.pwrDone
  split <;> exact ⟨rfl, rfl⟩

theorem State.pwrAnswer_run (c : PwrCmd) (a b : Nat) :
    (s.pwrAnswer c a b).pwr.run = s.pwr.run ∧ (s.pwrAnswer c a b).pwr.pend = s.pwr.pend := by
  unfold State.pwrAnswer
  extract_lets u
  have hu : u.pwr = s.pwr := s.pwrShow_pwr a b
  split
  · rw [State.answer_eq]
    exact ⟨by rw [← hu], by rw [← hu]⟩
  · rw [State.budgetSend_eq]
    exact ⟨by rw [← hu], by rw [← hu]⟩
  · exact ⟨by rw [hu], by rw [hu]⟩

/-! ### DOZE_ENTER -/

theorem State.dozeEnter_waits (h : s.pwr.run = none ∨ ¬ (s.rd PWR_STATUS.STATE = 4 ∧ s.idle = true)) : s.dozeEnter = s := by
  unfold State.dozeEnter
  split
  · rename_i c hc
    rw [hc] at h
    refine if_neg (fun hn => ?_)
    rw [Bool.and_eq_true, decide_eq_true_eq] at hn
    exact h.elim (fun hr => absurd hr (by simp)) (fun hd => hd hn)
  · rfl

theorem State.dozeEnter_enters {c : PwrCmd} (hc : s.pwr.run = some c) (h : s.rd PWR_STATUS.STATE = 4 ∧ s.idle = true) :
    s.dozeEnter = if c.told then s.wr PWR_STATUS.STATE 1
      else ({ (s.wr PWR_STATUS.STATE 1) with pwr := { s.pwr with run := some { c with told := true } } }).pwrAnswer c stOk rsnNone := by
  unfold State.dozeEnter
  rw [hc]
  dsimp only
  rw [decide_eq_true h.1, h.2]
  rfl

theorem dozeEnter_spec (s : State) :
    let done := s.rd PWR_STATUS.STATE = 4 ∧ s.idle = true
    ∃ t, exec (.dozeEnter) s = .next t ∧ (∀ c : PwrCmd, s.pwr.run = some c → done → t.rd PWR_STATUS.STATE = 1 ∧ t.pwr.run = some
      { c with told := true })
      ∧ (∀ c : PwrCmd, s.pwr.run = some c → done → c.told = false → ∀ x : MgSrc, c.regOf = some x → t.out = [answerOut x stOk rsnNone 0]
        ∧ t.rd PWR_STATUS.LAST_STATUS = stOk)
      ∧ (∀ c : PwrCmd, s.pwr.run = some c → done → c.told = true → t.out = [])
      ∧ (s.pwr.run = none ∨ ¬ done → Untouched s t)
      ∧ OnlyRegs { s with pwr := t.pwr } t
      ∧ RegsBut [PWR_STATUS.word.off] s t := by
  intro done
  have hexec : exec .dozeEnter s = .next s.begin.dozeEnter.settle := rfl
  have hdone : (s.begin.rd PWR_STATUS.STATE = 4 ∧ s.begin.idle = true) ↔ done := by rw [s.begin_rd rfl, s.begin_idle]
  have hrun : s.begin.pwr.run = s.pwr.run := by rw [State.begin_pwr]
  by_cases hw : s.pwr.run = none ∨ ¬ done
  · have hform := s.begin.dozeEnter_waits (by rw [hrun, hdone]; exact hw)
    rw [hform] at hexec
    obtain ⟨honly, hregs⟩ := (OnlyPwr.refl s.begin).frame
    have hno : ∀ c : PwrCmd, s.pwr.run = some c → ¬ done := fun c hc hd => hw.elim (fun hn => absurd (hn.symm.trans hc) (by simp)) (fun h => h hd)
    exact ⟨_, hexec, fun c hc hd => absurd hd (hno c hc), fun c hc hd => absurd hd (hno c hc), fun c hc hd => absurd hd (hno c hc),
      fun _ => untouched_begin s, honly, hregs⟩
  · obtain ⟨hr, hd⟩ := not_or.mp hw
    obtain ⟨c, hc⟩ := Option.ne_none_iff_exists'.mp hr
    rw [not_not] at hd
    have hform := s.begin.dozeEnter_enters (by rw [hrun]; exact hc) (hdone.mpr hd)
    have hst : (s.begin.wr PWR_STATUS.STATE 1).rd PWR_STATUS.STATE = 1 := by rw [State.rd_wr_same _ _ _ (by decide)]; rfl
    have honly1 : OnlyPwr s.begin (s.begin.wr PWR_STATUS.STATE 1) := onlyPwr_wr s.begin (f := PWR_STATUS.STATE) 1 rfl
    have hpwr1 : (s.begin.wr PWR_STATUS.STATE 1).pwr = s.pwr := by rw [State.wr_pwr, State.begin_pwr]
    have hout1 : (s.begin.wr PWR_STATUS.STATE 1).out = [] := by simp
    have hbpwr : s.begin.pwr = s.pwr := s.begin_pwr
    rw [hform] at hexec
    generalize s.begin.wr PWR_STATUS.STATE 1 = u at hst honly1 hpwr1 hout1 hexec
    cases htold : c.told
    case true =>
      have hself : { c with told := true } = c := by rw [← htold]
      rw [htold, if_pos rfl] at hexec
      obtain ⟨honly, hregs⟩ := honly1.frame
      refine ⟨_, hexec, fun c' hc' _ => ⟨hst, ?_⟩, fun c' hc' _ hf => ?_, fun _ _ _ _ => hout1, fun h => absurd h hw, honly, hregs⟩
      · obtain rfl : c = c' := Option.some_inj.mp (hc.symm.trans hc')
        rw [hself, State.settle_pwr, hpwr1]
        exact hc
      · obtain rfl : c = c' := Option.some_inj.mp (hc.symm.trans hc')
        exact absurd (htold.symm.trans hf) (by simp)
    case false =>
      rw [htold, if_neg Bool.false_ne_true] at hexec
      have hv : OnlyPwr u { u with pwr := { s.begin.pwr with run := some { c with told := true } } } := onlyPwr_withPwr u _
      have hvst : ({ u with pwr := { s.begin.pwr with run := some { c with told := true } } } : State).rd PWR_STATUS.STATE = 1 := hst
      have hvout : ({ u with pwr := { s.begin.pwr with run := some { c with told := true } } } : State).out = [] := hout1
      have hvrun : ({ u with pwr := { s.begin.pwr with run := some { c with told := true } } } : State).pwr.run = some { c with told := true } := rfl
      generalize ({ u with pwr := { s.begin.pwr with run := some { c with told := true } } } : State) = v at hv hvst hvout hvrun hexec
      obtain ⟨honly, hregs⟩ := (honly1.trans (hv.trans (onlyPwr_pwrAnswer v c stOk rsnNone))).frame
      refine ⟨_, hexec, fun c' hc' _ => ⟨?_, ?_⟩, fun c' hc' _ _ x hx => ⟨?_, ?_⟩, fun c' hc' _ hf => ?_, fun h => absurd h hw, honly, hregs⟩
      · rw [State.rd_settle, v.rd_pwrAnswer_apart c _ _ (by decide) (by decide)]
        exact hvst
      · obtain rfl : c = c' := Option.some_inj.mp (hc.symm.trans hc')
        exact (v.pwrAnswer_run c stOk rsnNone).1.trans hvrun
      · obtain rfl : c = c' := Option.some_inj.mp (hc.symm.trans hc')
        rw [State.settle_out, v.pwrAnswer_reg_out (PwrCmd.by_of_regOf hx), hvout]
        rfl
      · rw [State.rd_settle, v.rd_pwrAnswer]
        exact (v.pwrShow_shown (by decide) (by decide)).1
      · obtain rfl : c = c' := Option.some_inj.mp (hc.symm.trans hc')
        exact absurd (htold.symm.trans hf) (by simp)

/-! ### DOZE_TIMEOUT -/

/-- The transition is over, and the slice ACTIVE. -/
def State.pwrIdle (s : State) : State := ({ s with pwr := { s.pwr with run := none } }).wr PWR_STATUS.STATE 0

theorem onlyPwr_pwrIdle : OnlyPwr s s.pwrIdle := (onlyPwr_withPwr s _).trans (onlyPwr_wr _ (f := PWR_STATUS.STATE) 0 rfl)

theorem State.pwrIdle_shown : s.pwrIdle.rd PWR_STATUS.STATE = 0 := by
  rw [State.pwrIdle, State.rd_wr_same _ _ _ (by decide)]
  rfl

theorem State.pwrIdle_pwr : s.pwrIdle.pwr = { s.pwr with run := none } := by rw [State.pwrIdle, State.wr_pwr]

theorem State.pwrIdle_out : s.pwrIdle.out = s.out := by simp [State.pwrIdle]

/-- The refusal of a DOZE command: at once to a register's writer, as DONE to a message's sender. -/
def State.dozeRefuse (s : State) (c : PwrCmd) : State :=
  if c.told then (s.pwrShow stRefused rsnBusy).pwrDone c stRefused rsnBusy else s.pwrAnswer c stRefused rsnBusy

theorem onlyPwr_dozeRefuse (c : PwrCmd) : OnlyPwr s (s.dozeRefuse c) := by
  unfold State.dozeRefuse
  split
  · exact (onlyPwr_pwrShow ..).trans (onlyPwr_pwrDone ..)
  · exact onlyPwr_pwrAnswer ..

theorem State.rd_dozeRefuse (c : PwrCmd) (f : Field) : (s.dozeRefuse c).rd f = (s.pwrShow stRefused rsnBusy).rd f := by
  unfold State.dozeRefuse
  split
  · exact State.rd_pwrDone ..
  · exact s.rd_pwrAnswer ..

theorem State.dozeRefuse_run (c : PwrCmd) : (s.dozeRefuse c).pwr.run = s.pwr.run ∧ (s.dozeRefuse c).pwr.pend = s.pwr.pend := by
  unfold State.dozeRefuse
  split
  · have h := (s.pwrShow stRefused rsnBusy).pwrDone_run c stRefused rsnBusy
    rw [State.pwrShow_pwr] at h
    exact h
  · exact s.pwrAnswer_run ..

theorem State.dozeTimeout_waits (h : s.pwr.run = none ∨ ¬ s.rd PWR_STATUS.STATE = 4) : s.dozeTimeout = s := by
  unfold State.dozeTimeout
  split
  · rename_i c hc
    rw [hc] at h
    exact if_neg (h.resolve_left (by simp))
  · rfl

theorem State.dozeTimeout_refuses {c : PwrCmd} (hc : s.pwr.run = some c) (h : s.rd PWR_STATUS.STATE = 4) (hp : s.pwr.pend = none) :
    s.dozeTimeout = s.pwrIdle.dozeRefuse c := by
  have hform : s.dozeTimeout = (s.pwrIdle.dozeRefuse c).pwrNext := by
    unfold State.dozeTimeout
    rw [hc]
    exact if_pos h
  rw [hform, State.pwrNext_none _ (by rw [(s.pwrIdle.dozeRefuse_run c).2, State.pwrIdle_pwr]; exact hp)]

theorem dozeTimeout_spec (s : State) :
    let doze := s.rd PWR_STATUS.STATE = 4
    s.pwr.pend = none →
    ∃ t, exec (.dozeTimeout) s = .next t ∧ (∀ c : PwrCmd, s.pwr.run = some c → doze → t.rd PWR_STATUS.STATE = 0 ∧ t.pwr.run = none ∧ t.rd
      PWR_STATUS.LAST_STATUS = stRefused ∧ t.rd PWR_STATUS.REASON = rsnBusy)
      ∧ (∀ c : PwrCmd, s.pwr.run = some c → doze → c.told = false → ∀ x : MgSrc, c.regOf = some x → t.out = [answerOut x stRefused
        rsnBusy 0])
      ∧ (s.pwr.run = none ∨ ¬ doze → Untouched s t)
      ∧ OnlyRegs { s with pwr := t.pwr } t
      ∧ RegsBut [PWR_STATUS.word.off] s t := by
  intro doze hp
  have hexec : exec .dozeTimeout s = .next s.begin.dozeTimeout.settle := rfl
  have hst : s.begin.rd PWR_STATUS.STATE = s.rd PWR_STATUS.STATE := s.begin_rd rfl
  have hbpwr : s.begin.pwr = s.pwr := s.begin_pwr
  by_cases hw : s.pwr.run = none ∨ ¬ doze
  · have hform := s.begin.dozeTimeout_waits (by rw [hbpwr, hst]; exact hw)
    rw [hform] at hexec
    obtain ⟨honly, hregs⟩ := (OnlyPwr.refl s.begin).frame
    have hno : ∀ c : PwrCmd, s.pwr.run = some c → ¬ doze := fun c hc hd => hw.elim (fun hn => absurd (hn.symm.trans hc) (by simp)) (fun h => h hd)
    exact ⟨_, hexec, fun c hc hd => absurd hd (hno c hc), fun c hc hd => absurd hd (hno c hc), fun _ => untouched_begin s, honly, hregs⟩
  · obtain ⟨hr, hd⟩ := not_or.mp hw
    obtain ⟨c, hc⟩ := Option.ne_none_iff_exists'.mp hr
    rw [not_not] at hd
    have hform := s.begin.dozeTimeout_refuses (by rw [hbpwr]; exact hc) (hst.trans hd) (by rw [hbpwr]; exact hp)
    rw [hform] at hexec
    obtain ⟨honly, hregs⟩ := ((onlyPwr_pwrIdle s.begin).trans (onlyPwr_dozeRefuse s.begin.pwrIdle c)).frame
    obtain ⟨hs, hre⟩ := s.begin.pwrIdle.pwrShow_shown (status := stRefused) (reason := rsnBusy) (by decide) (by decide)
    refine ⟨_, hexec, fun c' hc' _ => ⟨?_, ?_, ?_, ?_⟩, fun c' hc' _ htold x hx => ?_, fun h => absurd h hw, honly, hregs⟩
    · rw [State.rd_settle, State.rd_dozeRefuse, State.rd_pwrShow_apart _ _ _ (by decide) (by decide), State.pwrIdle_shown]
    · rw [State.settle_pwr, (s.begin.pwrIdle.dozeRefuse_run c).1, State.pwrIdle_pwr]
    · rw [State.rd_settle, State.rd_dozeRefuse, hs]
    · rw [State.rd_settle, State.rd_dozeRefuse, hre]
    · obtain rfl : c = c' := Option.some_inj.mp (hc.symm.trans hc')
      rw [State.settle_out, State.dozeRefuse, htold, if_neg Bool.false_ne_true, State.pwrAnswer_reg_out _ (PwrCmd.by_of_regOf hx),
        State.pwrIdle_out, State.begin_out]
      rfl

/-! ### DOZE_WAKE -/

/-- The transition is over, and the sender of its command told. -/
def State.wakeTold (s : State) : State :=
  match s.pwr.run with
  | some c => ({ s with pwr := { s.pwr with run := none } }).pwrDone c stOk rsnNone
  | none => s

/-- The slice awake: the transition's sender is told, the wake counted. -/
def State.woken (s : State) : State := (s.wakeTold.wr PWR_STATUS.STATE 0).bump PWR_WAKES.COUNT

/-- What wakes a dozing slice (R311). -/
def State.wakes (s : State) (link : Nat) : Prop := s.rd PWR_STATUS.STATE = 1 ∧ (link < 4 ∨ link = 5 ∨ link = 6)

theorem State.dozeWake_eq (link : Nat) [Decidable (s.wakes link)] : s.dozeWake link = if s.wakes link then s.woken.pwrNext else s := by
  have hiff : (decide (s.rd PWR_STATUS.STATE = 1) && (decide (link < 4) || decide (link = 5) || decide (link = 6))) = true ↔ s.wakes link := by
    rw [State.wakes, Bool.and_eq_true, Bool.or_eq_true, Bool.or_eq_true, decide_eq_true_eq, decide_eq_true_eq, decide_eq_true_eq, decide_eq_true_eq,
      or_assoc]
  unfold State.dozeWake
  by_cases h : s.wakes link
  · rw [if_pos h]
    exact if_pos (hiff.mpr h)
  · rw [if_neg h]
    exact if_neg (mt hiff.mp h)

theorem State.wakeTold_facts : OnlyPwr s s.wakeTold ∧ s.wakeTold.pwr.run = none ∧ s.wakeTold.pwr.pend = s.pwr.pend := by
  unfold State.wakeTold
  split
  · rename_i c hr
    obtain ⟨h1, h2⟩ := ({ s with pwr := { s.pwr with run := none } } : State).pwrDone_run c stOk rsnNone
    exact ⟨(onlyPwr_withPwr s _).trans (onlyPwr_pwrDone ..), h1, h2⟩
  · rename_i hr
    exact ⟨OnlyPwr.refl s, hr, rfl⟩

theorem dozeWake_spec (s : State) (link : BitVec 3) :
    let wakes := s.rd PWR_STATUS.STATE = 1 ∧ (link.toNat < 4 ∨ link.toNat = 5 ∨ link.toNat = 6)
    s.pwr.pend = none →
    ∃ t, exec (.dozeWake link) s = .next t ∧ (wakes → t.rd PWR_STATUS.STATE = 0 ∧ t.rd PWR_WAKES.COUNT = min (s.rd PWR_WAKES.COUNT + 1)
      (2 ^ PWR_WAKES.COUNT.w - 1) ∧ t.pwr.run = none)
      ∧ (¬ wakes → Untouched s t)
      ∧ OnlyRegs { s with pwr := t.pwr } t
      ∧ RegsBut [PWR_STATUS.word.off, PWR_WAKES.word.off] s t := by
  intro wakes hp
  classical
  have hexec : exec (.dozeWake link) s = .next (s.begin.dozeWake link.toNat).settle := rfl
  have hwakes : s.begin.wakes link.toNat ↔ wakes := by rw [State.wakes, s.begin_rd rfl]
  rw [State.dozeWake_eq] at hexec
  by_cases hw : wakes
  · rw [if_pos (hwakes.mpr hw)] at hexec
    obtain ⟨hu, hrun, hpend⟩ := s.begin.wakeTold_facts
    have hpwr : s.begin.woken.pwr = s.begin.wakeTold.pwr := by rw [State.woken, State.bump_pwr, State.wr_pwr]
    rw [State.pwrNext_none _ (by rw [hpwr, hpend, State.begin_pwr]; exact hp), State.woken] at hexec
    generalize s.begin.wakeTold = u at hu hrun hexec
    have hst := u.rd_wr_same PWR_STATUS.STATE 0 (by decide)
    have hv : OnlyPwr s.begin (u.wr PWR_STATUS.STATE 0) := hu.trans (onlyPwr_wr u (f := PWR_STATUS.STATE) 0 rfl)
    have hvrun : (u.wr PWR_STATUS.STATE 0).pwr.run = none := by rw [State.wr_pwr]; exact hrun
    generalize u.wr PWR_STATUS.STATE 0 = v at hexec hst hv hvrun
    have hcount : v.rd PWR_WAKES.COUNT = s.rd PWR_WAKES.COUNT :=
      (State.rdI_congr PWR_WAKES.COUNT 0 (hv.word _ (by decide))).trans (s.begin_rd (f := PWR_WAKES.COUNT) rfl)
    refine ⟨_, hexec, fun _ => ⟨?_, ?_, ?_⟩, fun h => absurd hw h, ?_, fun k hk hp => ?_⟩
    · rw [State.rd_settle, State.rd_bump_apart _ _ (by decide), hst]
      rfl
    · have hsame := v.rd_bump_same PWR_WAKES.COUNT 1 (by decide)
      rw [hcount] at hsame
      exact hsame
    · rw [State.settle_pwr, State.bump_pwr]
      exact hvrun
    · refine onlyRegs_pwr ?_
      have h := hv.only
      rw [State.bump, h]
      rfl
    · simp only [List.mem_cons, List.not_mem_nil, or_false, not_or] at hk
      rw [State.word_settle, State.word_bump, if_neg hk.2, hv.word k hk.1]
      exact s.word_begin k hp
  · rw [if_neg (mt hwakes.mp hw)] at hexec
    exact ⟨_, hexec, fun h => absurd h hw, fun _ => untouched_begin s, (OnlyPwr.refl s.begin).frame.1,
      fun k hk hp => s.word_begin k hp⟩

end Sys2Proof.Machine
end

section
/-! SUPPORT. The phases of entry (R313, R315): what the shutdowns, the walk of the Catalogue and the flush leave. -/

namespace Sys2Proof.Machine

variable (s : State)

/-! ### What stays through a phase -/

/-- The power unit and the power block's first words stay. -/
structure PwrKept (s u : State) : Prop where
  pwr : u.pwr = s.pwr
  word : ∀ k, 0x2000 ≤ k → k < 0x201C → u.word k = s.word k

theorem PwrKept.refl : PwrKept s s := ⟨rfl, fun _ _ _ => rfl⟩

theorem PwrKept.trans {s t u : State} (hst : PwrKept s t) (htu : PwrKept t u) : PwrKept s u :=
  ⟨htu.pwr.trans hst.pwr, fun k h1 h2 => (htu.word k h1 h2).trans (hst.word k h1 h2)⟩

theorem PwrKept.rd {s u : State} (h : PwrKept s u) {f : Field} (h1 : 0x2000 ≤ f.off) (h2 : f.off < 0x201C) (hs : f.stride = 0) :
    u.rd f = s.rd f := State.rdI_congr f 0 (by rw [hs]; exact h.word _ h1 h2)

theorem OnlyRegFile.pwrKept {s u : State} (h : OnlyRegFile s u) (hw : ∀ k, 0x2000 ≤ k → k < 0x201C → u.word k = s.word k) : PwrKept s u := by
  refine ⟨?_, hw⟩
  unfold OnlyRegFile at h
  rw [h]

theorem linkRegs_ge {k : Nat} (h : k ∈ linkRegs) : 0x28000 ≤ k := by
  unfold linkRegs at h
  rcases List.mem_append.mp h with h | h
  · simp only [faultRegs, List.mem_cons, List.not_mem_nil, or_false] at h
    omega
  · obtain ⟨n, _, h⟩ := List.mem_flatMap.mp h
    simp only [List.mem_cons, List.not_mem_nil, or_false] at h
    omega

theorem SentMir.pwrKept {s u : State} (h : SentMir s u) : PwrKept s u := by
  refine ⟨h.pwr, fun k h1 h2 => h.2 k ?_ ?_⟩
  · rw [List.mem_cons]
    rintro (h | h)
    · simp only at h
      omega
    · have := linkRegs_ge h
      omega
  · simp only [pmuBlock, Bool.and_eq_false_imp, decide_eq_true_eq, decide_eq_false_iff_not]
    omega

theorem Sent.pwrKept {s u : State} (h : Sent s u) : PwrKept s u := h.sentMir.pwrKept

theorem pwrKept_wrI {f : Field} {i : Nat} (v : Nat) (h : 0x201C ≤ f.off + f.stride * i) : PwrKept s (s.wrI f i v) :=
  (onlyRegFile_wrI s f i v).pwrKept (fun _ _ hk => (State.word_wrI ..).trans (if_neg (by omega)))

theorem pwrKept_wr {f : Field} (v : Nat) (h : 0x201C ≤ f.off) : PwrKept s (s.wr f v) := pwrKept_wrI s v (by omega)

/-- A change outside the registers and the power unit. -/
theorem pwrKept_of {s u : State} (h64 : u.s64 = s.s64) (hr : u.regs = s.regs) (hp : u.pwr = s.pwr) : PwrKept s u :=
  ⟨hp, fun k _ _ => State.word_congr h64 hr k⟩

/-- The stacks and the directory stay, too. -/
structure Steady (s u : State) : Prop extends PwrKept s u where
  stk : u.stk = s.stk
  coh : u.coh = s.coh

theorem Steady.trans {s t u : State} (hst : Steady s t) (htu : Steady t u) : Steady s u :=
  ⟨hst.toPwrKept.trans htu.toPwrKept, htu.stk.trans hst.stk, htu.coh.trans hst.coh⟩

theorem Sent.steady {s u : State} (h : Sent s u) : Steady s u := by
  have hf := h.1
  unfold OnlyLinks at hf
  exact ⟨h.pwrKept, by rw [hf], by rw [hf]⟩

theorem sendRel_steady : SendRel Steady := sendRel_of_sent (R := Steady) Steady.trans Sent.steady

theorem steady_wrI {f : Field} {i : Nat} (v : Nat) (h : 0x201C ≤ f.off + f.stride * i) : Steady s (s.wrI f i v) :=
  ⟨pwrKept_wrI s v h, rfl, rfl⟩

theorem steady_wr {f : Field} (v : Nat) (h : 0x201C ≤ f.off) : Steady s (s.wr f v) := ⟨pwrKept_wr s v h, rfl, rfl⟩

theorem steady_of {s u : State} (h64 : u.s64 = s.s64) (hr : u.regs = s.regs) (hp : u.pwr = s.pwr) (hs : u.stk = s.stk) (hc : u.coh = s.coh) :
    Steady s u := ⟨pwrKept_of h64 hr hp, hs, hc⟩

theorem steady_complete (r : Req) (status reason hint : Nat) : Steady s (s.complete r status reason hint) := by
  have hev : ∀ (u : State) (b : Prop) [Decidable b] (code : Nat), Steady u (if b then u.event code (label := some r.label.toNat) else u) :=
    fun u b _ code => by
      split
      · exact sendRel_steady.event ..
      · exact sendRel_steady.refl u
  unfold State.complete
  extract_lets u v
  exact (hev s _ 0x24).trans ((hev u _ 0x26).trans
    (sendRel_steady.reply v (fun _ _ => steady_of rfl rfl rfl rfl rfl) _))

/-! ### E2: the shutdowns -/

/-- Where an abandoned transfer leaves one address: between its start and its end. -/
def State.putBetween (s : State) (c : Nat) (lo hi : Field) (start stop : Int) : State :=
  let a := between s.fresh.1 start stop
  (s.fresh.2.wrI lo c (a % 2 ^ 32).toNat).wrI hi c (a / 2 ^ 32 % 2 ^ 20).toNat

theorem steady_putBetween (c : Nat) {lo hi : Field} (hlo : 0x201C ≤ lo.off) (hhi : 0x201C ≤ hi.off) (start stop : Int) :
    Steady s (s.putBetween c lo hi start stop) :=
  (steady_of (s := s) (u := s.fresh.2) rfl rfl rfl rfl rfl).trans
    ((steady_wrI (f := lo) (i := c) s.fresh.2 _ (Nat.le_add_right_of_le hlo)).trans
      (steady_wrI (f := hi) (i := c) _ _ (Nat.le_add_right_of_le hhi)))

theorem steady_porAbandon (c : Nat) (x : Xfer) : Steady s (s.porAbandon c x) := by
  unfold State.porAbandon
  extract_lets put reach u v
  have hu : Steady s u := steady_putBetween s c (lo := POR_CH_SRC_LO.SRC_LO) (hi := POR_CH_SRC_HI.SRC_HI) (by decide) (by decide) _ _
  have hv : Steady u v := steady_putBetween u c (lo := POR_CH_DST_LO.DST_LO) (hi := POR_CH_DST_HI.DST_HI) (by decide) (by decide) _ _
  refine hu.trans (hv.trans ?_)
  have hfresh : ∀ w : State, Steady w w.fresh.2 := fun w => steady_of rfl rfl rfl rfl rfl
  refine (hfresh v).trans (Steady.trans (t := v.fresh.2.wrI POR_CH_COUNT.COUNT c (between v.freeCtr 0 x.total).toNat) ?_ ((hfresh _).trans ?_))
  · exact steady_wrI (f := POR_CH_COUNT.COUNT) (i := c) _ _ (by simp only; omega)
  · exact steady_wrI (f := POR_CH_CRC.CRC) (i := c) _ _ (by simp only; omega)

theorem steady_porShut (c : Nat) : Steady s (s.porShut c) := by
  have hpor : ∀ (u : State) (p : Porter), Steady u { u with por := p } := fun u p => steady_of rfl rfl rfl rfl rfl
  unfold State.porShut
  extract_lets u
  have hu : Steady s u := by
    unfold u
    split
    · extract_lets v
      have hv : Steady s v := by
        change Steady s (if _ then _ else _)
        split
        · exact sendRel_steady.refl s
        · exact steady_porAbandon ..
      exact hv.trans ((hpor v _).trans (hpor _ _))
    · exact sendRel_steady.refl s
  exact hu.trans (hpor u _)

theorem steady_porShutAll : Steady s s.porShutAll := by
  refine sendRel_steady.foldl (fun u c => ?_) _ _
  split
  · exact sendRel_steady.refl u
  · split
    · exact (steady_wrI (f := POR_CH_CTL.STOPPING) (i := c) u _ (by simp only; omega)).trans (steady_porShut _ c)
    · exact sendRel_steady.refl u

theorem steady_rshEnd (c : RshCmd) (status reason : Nat) : Steady s (s.rshEnd c status reason) := by
  unfold State.rshEnd
  extract_lets p u v
  have hu : Steady s u := steady_of rfl rfl rfl rfl rfl
  have hv : Steady u v :=
    (steady_wr (f := SHT_RSH_DONE.LAST_STATUS) u _ (by decide)).trans ((steady_wr (f := SHT_RSH_DONE.COUNT) _ _ (by decide)).trans
      ((steady_wr (f := SHT_RSH_CTL.DEPTH) _ _ (by decide)).trans (steady_wr (f := SHT_RSH_CTL.BUSY) _ _ (by decide))))
  refine hu.trans (hv.trans ?_)
  split
  · exact steady_complete ..
  · exact sendRel_steady.refl v

theorem steady_enterE2 : Steady s s.enterE2 := by
  have hpft : ∀ u : State, Steady u u.pftShut := fun u => steady_of rfl rfl rfl rfl rfl
  unfold State.enterE2
  refine (steady_porShutAll s).trans ((hpft _).trans ?_)
  unfold State.rshShut
  split
  · exact steady_rshEnd ..
  · exact sendRel_steady.refl _

/-! ### E3: the walk of the Catalogue -/

/-- The stacks and the Ledger stay. -/
structure DirKept (s u : State) : Prop extends PwrKept s u where
  stk : u.stk = s.stk
  ldg : u.ldg = s.ldg

theorem DirKept.trans {s t u : State} (hst : DirKept s t) (htu : DirKept t u) : DirKept s u :=
  ⟨hst.toPwrKept.trans htu.toPwrKept, htu.stk.trans hst.stk, htu.ldg.trans hst.ldg⟩

theorem Sent.dirKept {s u : State} (h : Sent s u) : DirKept s u := by
  have hf := h.1
  unfold OnlyLinks at hf
  exact ⟨h.pwrKept, by rw [hf], by rw [hf]⟩

theorem sendRel_dirKept : SendRel DirKept := sendRel_of_sent (R := DirKept) DirKept.trans Sent.dirKept

theorem dirKept_coh (c : Coh) : DirKept s { s with coh := c } := ⟨pwrKept_of rfl rfl rfl, rfl, rfl⟩

theorem dirKept_setCat (set e : Nat) (c : CatEnt) : DirKept s (s.setCat set e c) := dirKept_coh s _

theorem dirKept_freeEntry (line : LineAddr) : DirKept s (s.freeEntry line) := by
  unfold State.freeEntry
  split
  · exact dirKept_setCat ..
  · exact sendRel_dirKept.refl s

theorem dirKept_normalize (line : LineAddr) : DirKept s (s.normalize line) := by
  unfold State.normalize
  split
  · extract_lets c vec
    split
    · exact sendRel_dirKept.refl s
    · split
      · exact dirKept_freeEntry ..
      · exact dirKept_setCat ..
  · exact sendRel_dirKept.refl s

theorem dirKept_begin' (t : Txn) : DirKept s (s.begin' t) := by
  have hbusy : ∀ (u : State) (line : LineAddr) (b : Bool), DirKept u (u.setBusy line b) := fun u line b => by
    unfold State.setBusy
    split
    · exact dirKept_setCat ..
    · exact sendRel_dirKept.refl u
  have hwr : ∀ (u : State) (f : Field) (v : Nat), 0x201C ≤ f.off → DirKept u (u.wr f v) := fun u f v h => ⟨pwrKept_wr u v h, rfl, rfl⟩
  unfold State.begin' State.showTxns
  exact (dirKept_coh s _).trans ((hbusy _ _ _).trans ((hwr _ CAT_STATUS.TXN_USED _ (by decide)).trans (hwr _ CAT_STATUS.TXN_PEAK _ (by decide))))

theorem dirKept_snoopAll (r : Req) (typ : Nat) (m : BitVec 32) : DirKept s (s.snoopAll r typ m) := by
  refine sendRel_dirKept.foldl (fun u a => ?_) _ _
  exact (sendRel_dirKept.event u 0x64 _ none 1).trans (sendRel_dirKept.sendRouted ..)

theorem dirKept_dirVisit (mode : TxnMode) (c : CatEnt) : DirKept s (s.dirVisit mode c) := by
  unfold State.dirVisit
  split
  · exact sendRel_dirKept.refl s
  · extract_lets u v
    have hu : DirKept s u := dirKept_normalize s c.line
    split
    · exact hu
    · split
      · exact hu.trans (dirKept_freeEntry ..)
      · split
        · exact hu
        · exact hu.trans ((dirKept_begin' u _).trans (dirKept_snoopAll ..))

theorem dirKept_dirWalk (mode : TxnMode) : DirKept s (s.dirWalk mode) := sendRel_dirKept.foldl (fun (u : State) (e : Nat × CatEnt) => dirKept_dirVisit u mode e.2) _ _

/-! ### E4: the flush -/

theorem PwrKept.keeps {s u : State} (h : PwrKept s u) (way : Nat) : u.keeps way = s.keeps way := by
  rw [State.keeps, State.keeps, h.rd (f := PWR_STATUS.STATE) (by decide) (by decide) rfl, h.rd (f := PWR_RETAIN.WAYS) (by decide) (by decide) rfl]

/-- The power unit and the tags stay. -/
structure FlushKept (s u : State) : Prop extends PwrKept s u where
  tags : u.stk.tags = s.stk.tags

theorem FlushKept.trans {s t u : State} (hst : FlushKept s t) (htu : FlushKept t u) : FlushKept s u :=
  ⟨hst.toPwrKept.trans htu.toPwrKept, htu.tags.trans hst.tags⟩

theorem FlushKept.refl : FlushKept s s := ⟨PwrKept.refl s, rfl⟩

theorem flushKept_foldl {α : Type} {g : State → α → State} (h : ∀ u a, FlushKept u (g u a)) (l : List α) (s : State) :
    FlushKept s (l.foldl g s) := by
  induction l generalizing s with
  | nil => exact FlushKept.refl s
  | cons a l ih => exact (h s a).trans (ih _)

theorem flushKept_releaseAtom (line : LineAddr) : FlushKept s (s.releaseAtom line) := by
  have hput : ∀ (u : State) (set way : Nat) (bit : Bool) (d : LineData), FlushKept u (u.putLine set way bit d) := fun u set way bit d => by
    have h := (beatsOnly_putLine u set way bit d).only
    rw [h]
    exact ⟨pwrKept_of rfl rfl rfl, rfl⟩
  refine ⟨?_, (keepsTags_releaseAtom s line).tags⟩
  unfold State.releaseAtom
  split
  · rename_i d _ _
    extract_lets u
    have hu : PwrKept s u := pwrKept_of rfl rfl rfl
    refine hu.trans ?_
    split
    · rename_i w _
      unfold State.writeJob
      extract_lets bit v
      exact (hput u (lineSet line) w (lineBit line) d).toPwrKept.trans (pwrKept_of rfl rfl rfl)
    · exact PwrKept.refl _
  · exact PwrKept.refl _

theorem pwrKept_lossEntry (typ cause line run ts : Nat) : PwrKept s (s.lossEntry typ cause line run ts) := by
  unfold State.lossEntry
  extract_lets n a b c d
  split
  · exact (pwrKept_wr (f := MIR_LOSS_CTL.OVERFLOW) s _ (by decide)).trans (pwrKept_wr (f := MIR_LOSS_CTL.LOST) _ _ (by decide))
  · have hset : PwrKept c d := OnlyRegFile.pwrKept rfl (fun k _ hk => (State.word_setWord ..).trans (if_neg (by simp only; omega)))
    exact (pwrKept_wrI (f := MIR_LOSS_LO.LINE_LO) (i := n) s _ (by simp only; omega)).trans
      ((pwrKept_wrI (f := MIR_LOSS_HI.LINE_HI) (i := n) a _ (by simp only; omega)).trans
        ((pwrKept_wrI (f := MIR_LOSS_TS.TS) (i := n) b _ (by simp only; omega)).trans
          (hset.trans (pwrKept_wr (f := MIR_LOSS_CTL.COUNT) d _ (by decide)))))

theorem flushKept_lossLines (cause : Nat) (lines : List LineAddr) : FlushKept s (s.lossLines cause lines) :=
  flushKept_foldl (fun u _ => ⟨pwrKept_lossEntry u _ _ _ _ _, (onlyRegFile_lossEntry u _ _ _ _ _).keepsTags.tags⟩) _ _

theorem flushKept_flushLine (set way : Nat) (bit : Bool) : FlushKept s (s.flushLine set way bit) := by
  unfold State.flushLine
  extract_lets t line u
  have hu : FlushKept s u := flushKept_releaseAtom ..
  refine hu.trans ?_
  split
  · exact FlushKept.refl u
  · split
    · exact flushKept_lossLines ..
    · have hwr : FlushKept u (u.wr PWR_FLUSHED.COUNT (u.rd PWR_FLUSHED.COUNT + 1)) := ⟨pwrKept_wr u _ (by decide), rfl⟩
      exact hwr.trans ⟨pwrKept_of rfl rfl rfl, rfl⟩

/-- E4 of one way: what it does to every tag word. -/
def State.flushWay (s : State) (e : Nat × TagW) : State :=
  if s.keeps (e.1 % 32) then s
  else ((s.flushLine (e.1 / 32) (e.1 % 32) false).flushLine (e.1 / 32) (e.1 % 32) true).setTag (e.1 / 32) (e.1 % 32) TagW.empty

theorem State.flushWay_tag (e : Nat × TagW) (k : Nat) : tget TagW.empty (s.flushWay e).stk.tags k =
    if s.keeps (e.1 % 32) = false ∧ k = e.1 then TagW.empty else tget TagW.empty s.stk.tags k := by
  unfold State.flushWay
  cases hk : s.keeps (e.1 % 32) with
  | true => rw [if_pos rfl, if_neg (by simp)]
  | false =>
    have htags := ((flushKept_flushLine s (e.1 / 32) (e.1 % 32) false).trans (flushKept_flushLine _ (e.1 / 32) (e.1 % 32) true)).tags
    generalize (s.flushLine (e.1 / 32) (e.1 % 32) false).flushLine (e.1 / 32) (e.1 % 32) true = u at htags
    have hkey : e.1 / 32 * 32 + e.1 % 32 = e.1 := Nat.div_add_mod' e.1 32
    rw [if_neg Bool.false_ne_true]
    change tget TagW.empty (tput TagW.empty u.stk.tags (e.1 / 32 * 32 + e.1 % 32) TagW.empty) k = _
    rw [hkey, tget_tput, htags]
    simp only [true_and]

theorem pwrKept_flushWay (e : Nat × TagW) : PwrKept s (s.flushWay e) := by
  unfold State.flushWay
  split
  · exact PwrKept.refl s
  · exact ((flushKept_flushLine ..).toPwrKept.trans (flushKept_flushLine ..).toPwrKept).trans (pwrKept_of rfl rfl rfl)

/-- E4 empties every listed way that is not kept, and leaves the others. -/
theorem flushWays_tags (l : List (Nat × TagW)) {u : State} (hu : PwrKept s u) (k : Nat) :
    PwrKept s (l.foldl State.flushWay u) ∧ tget TagW.empty (l.foldl State.flushWay u).stk.tags k =
      if s.keeps (k % 32) = false ∧ (∃ e ∈ l, e.1 = k) then TagW.empty else tget TagW.empty u.stk.tags k := by
  induction l generalizing u with
  | nil => exact ⟨hu, (if_neg (by simp)).symm⟩
  | cons a l ih =>
    obtain ⟨hp, ht⟩ := ih (hu.trans (pwrKept_flushWay u a))
    refine ⟨hp, ?_⟩
    rw [List.foldl_cons, ht, u.flushWay_tag, hu.keeps]
    by_cases hmem : ∃ e ∈ l, e.1 = k
    · obtain ⟨e, he, hk⟩ := hmem
      have hl : ∃ e ∈ l, e.1 = k := ⟨e, he, hk⟩
      have hal : ∃ e ∈ a :: l, e.1 = k := ⟨e, List.mem_cons_of_mem a he, hk⟩
      by_cases hkeep : s.keeps (k % 32) = false
      · rw [if_pos ⟨hkeep, hl⟩, if_pos ⟨hkeep, hal⟩]
      · rw [if_neg (fun h => hkeep h.1), if_neg (fun h => hkeep (by rw [h.2]; exact h.1)), if_neg (fun h => hkeep h.1)]
    · rw [if_neg (fun h => hmem h.2)]
      refine if_congr ?_ rfl rfl
      constructor
      · rintro ⟨h1, rfl⟩
        exact ⟨h1, a, List.mem_cons_self, rfl⟩
      · rintro ⟨h1, e, he, rfl⟩
        rcases List.mem_cons.mp he with rfl | he
        · exact ⟨h1, rfl⟩
        · exact absurd ⟨e, he, rfl⟩ hmem

end Sys2Proof.Machine
end

section
/-! SUPPORT. RETAIN_ENTRY_PHASE (R313). -/

namespace Sys2Proof.Machine

variable (s : State)

/-! ### E5: the links announced down -/

/-- The links up before the entry, kept. -/
def State.linksKept (s : State) : State :=
  { s with pwr := { s.pwr with links := BitVec.ofNat 8 (s.rd LNK_STATUS.UP), half := BitVec.ofNat 8 (s.rd LNK_STATUS.HALF) } }

/-- The Curator held, its firmware's state 0. -/
def State.curatorHeld (s : State) : State := s.holdCurator.wr CUR_FW_STATUS.STATE 0

/-- Every injector disarmed. -/
def State.disarmed (s : State) : State := (List.range 8).foldl (fun s n => s.setFlagI LNK_INJ_CTL.EN n false) s

theorem State.enterE5_eq : s.enterE5 = ((s.linksKept.curatorHeld.disarmed.wr LNK_STATUS.UP 0).setFlag MIR_STATUS.LINK_UP false) := rfl

theorem pwrKept_curatorHeld : PwrKept s s.curatorHeld := by
  have h0 : PwrKept s { s with cur := { s.cur with stage := 0 }, front := { s.front with curLane := [] } } := pwrKept_of rfl rfl rfl
  exact h0.trans ((pwrKept_wr (f := CUR_WDT_STATUS.ARMED) _ _ (by decide)).trans ((pwrKept_wr (f := CUR_WDT_STATUS.REMAIN) _ _ (by decide)).trans
    ((pwrKept_wr (f := CUR_MBX_DB.POST) _ _ (by decide)).trans ((pwrKept_wr (f := CUR_MBX_DB.C2H_PEND) _ _ (by decide)).trans
      ((pwrKept_wr (f := CUR_MBX_DB.C2H_LEN) _ _ (by decide)).trans (pwrKept_wr (f := CUR_FW_STATUS.STATE) _ _ (by decide)))))))

theorem State.curatorHeld_shown : s.curatorHeld.cur.stage = 0 ∧ s.curatorHeld.rd CUR_FW_STATUS.STATE = 0 := by
  refine ⟨rfl, ?_⟩
  rw [State.curatorHeld, State.rd_wr_same _ _ _ (by decide)]
  rfl

theorem pwrKept_disarmed : PwrKept s s.disarmed := by
  have h : ∀ (l : List Nat) (u : State), PwrKept u (l.foldl (fun s n => s.setFlagI LNK_INJ_CTL.EN n false) u) := by
    intro l
    induction l with
    | nil => exact fun u => PwrKept.refl u
    | cons a l ih => exact fun u => (pwrKept_wrI (f := LNK_INJ_CTL.EN) (i := a) u _ (by simp only; omega)).trans (ih _)
  exact h _ s

theorem State.disarmed_en {n : Nat} (hn : n < 8) : s.disarmed.flagI LNK_INJ_CTL.EN n = false := by
  have h := foldl_pointwise (f := fun (u : State) n => u.setFlagI LNK_INJ_CTL.EN n false) (get := fun u n => u.rdI LNK_INJ_CTL.EN n)
    (val := fun _ _ => 0) (P := fun _ => True) (ls := List.range 8) (fun _ _ _ => trivial)
    (fun u l _ => u.rdI_wrI_same LNK_INJ_CTL.EN l _ (by decide))
    (fun u l j _ hne => u.rdI_wrI_other LNK_INJ_CTL.EN LNK_INJ_CTL.EN l j _ (by simp only; omega)) List.nodup_range (s := s) trivial n
  rw [if_pos (List.mem_range.mpr hn)] at h
  rw [State.flagI, State.disarmed, h]
  rfl

theorem State.word_disarmed {k : Nat} (h : k < 0x28100 ∨ 0x28200 ≤ k) : s.disarmed.word k = s.word k :=
  State.word_foldl_of (g := fun (u : State) n => u.setFlagI LNK_INJ_CTL.EN n false) (fun u n hn => (State.word_setFlagI ..).trans (if_neg (by
    have := List.mem_range.mp hn
    simp only
    omega))) s

theorem State.disarmed_cur : s.disarmed.cur = s.cur := by
  have h : ∀ (l : List Nat) (u : State), (l.foldl (fun s n => s.setFlagI LNK_INJ_CTL.EN n false) u).cur = u.cur := by
    intro l
    induction l with
    | nil => exact fun u => rfl
    | cons a l ih => exact fun u => (ih _).trans rfl
  exact h _ s

/-- What E5 leaves: the links down and kept, the Curator held, no injector armed. -/
structure LinksDown (s u : State) : Prop where
  up : u.rd LNK_STATUS.UP = 0
  stage : u.cur.stage = 0
  firmware : u.rd CUR_FW_STATUS.STATE = 0
  mirror : u.flag MIR_STATUS.LINK_UP = false
  pwr : u.pwr = { s.pwr with links := BitVec.ofNat 8 (s.rd LNK_STATUS.UP), half := BitVec.ofNat 8 (s.rd LNK_STATUS.HALF) }
  quiet : ∀ n : Nat, n < 8 → u.flagI LNK_INJ_CTL.EN n = false
  word : ∀ k, 0x2000 ≤ k → k < 0x201C → u.word k = s.word k

theorem linksDown_enterE5 : LinksDown s s.enterE5 := by
  rw [State.enterE5_eq]
  have hc := pwrKept_curatorHeld s.linksKept
  obtain ⟨hstage, hfw⟩ := s.linksKept.curatorHeld_shown
  generalize s.linksKept.curatorHeld = c at hc hstage hfw ⊢
  have hd := pwrKept_disarmed c
  have hen : ∀ n : Nat, n < 8 → c.disarmed.flagI LNK_INJ_CTL.EN n = false := fun n hn => c.disarmed_en hn
  have hcur := c.disarmed_cur
  have hst : c.disarmed.rd CUR_FW_STATUS.STATE = 0 := (State.rdI_congr CUR_FW_STATUS.STATE 0 (c.word_disarmed (Or.inr (by decide)))).trans hfw
  generalize c.disarmed = d at hd hen hcur hst ⊢
  have hd' := (pwrKept_wr (f := LNK_STATUS.UP) d 0 (by decide)).trans (pwrKept_wr (f := MIR_STATUS.LINK_UP) _ false.toNat (by decide))
  have hall := hc.trans (hd.trans hd')
  exact {
    up := by
      rw [State.rd_setFlag_apart _ _ (by decide), State.rd_wr_same _ _ _ (by decide)]
      rfl
    stage := by rw [State.setFlag, State.wr_cur, State.wr_cur, hcur, hstage]
    firmware := by rw [State.rd_setFlag_apart _ _ (by decide), State.rd_wr_apart _ _ (by decide), hst]
    mirror := by
      rw [State.flag_eq, State.rd_setFlag_same _ _ _ (by decide) rfl]
      rfl
    pwr := hall.pwr
    quiet := fun n hn => by
      have h1 := (d.wr LNK_STATUS.UP 0).rdI_wrI_other MIR_STATUS.LINK_UP LNK_INJ_CTL.EN 0 n false.toNat (by simp only; omega)
      have h2 := d.rdI_wrI_other LNK_STATUS.UP LNK_INJ_CTL.EN 0 n 0 (by simp only; omega)
      have h3 := hen n hn
      rw [State.flagI] at h3 ⊢
      exact (congrArg (· != 0) (h1.trans h2)).trans h3
    word := hall.word }

/-! ### The phases -/

/-- An entry is in progress. -/
def State.entering (s : State) : Prop := s.rd PWR_STATUS.STATE = 6 ∨ s.rd PWR_STATUS.STATE = 8

theorem State.entryPhase_off (h : ¬ s.entering) : s.entryPhase = s := by
  obtain ⟨h6, h8⟩ := not_or.mp h
  unfold State.entryPhase
  exact if_pos (by rw [Bool.and_eq_true, bne_iff_ne, bne_iff_ne]; exact ⟨h6, h8⟩)

theorem State.entryPhase_on (h : s.entering) : s.entryPhase = match s.rd PWR_STATUS.PHASE with
    | 1 => (s.wr PWR_STATUS.PHASE 2).enterE2
    | 2 => if s.enginesQuiet then (s.wr PWR_STATUS.PHASE 3).dirWalk .flush else s
    | 3 => if s.coh.txns.isEmpty && s.coh.cat.isEmpty then (s.wr PWR_STATUS.PHASE 4).flushWays else s.dirWalk .flush
    | 4 => if s.memQuiet then (s.wr PWR_STATUS.PHASE 5).enterE5 else s
    | _ => s := by
  have hno : ¬ (s.rd PWR_STATUS.STATE != 6 && s.rd PWR_STATUS.STATE != 8) = true := by
    rw [Bool.and_eq_true, bne_iff_ne, bne_iff_ne]
    rintro ⟨h6, h8⟩
    exact h.elim h6 h8
  unfold State.entryPhase
  extract_lets st
  rw [if_neg hno] <;> rfl

/-- The phase that PWR_STATUS shows next. -/
def State.phased (s : State) (n : Nat) : State := s.wr PWR_STATUS.PHASE n

theorem State.phased_shown {n : Nat} (hn : n < 8) : (s.phased n).rd PWR_STATUS.PHASE = n ∧ (s.phased n).rd PWR_STATUS.STATE = s.rd PWR_STATUS.STATE := by
  constructor
  · rw [State.phased, State.rd_wr_same _ _ _ (by decide)]
    exact Nat.mod_eq_of_lt hn
  · rw [State.phased, State.rd_wr_apart _ _ (by decide)]

theorem PwrKept.shown {s u : State} (h : PwrKept s u) : u.rd PWR_STATUS.PHASE = s.rd PWR_STATUS.PHASE
    ∧ u.rd PWR_STATUS.STATE = s.rd PWR_STATUS.STATE :=
  ⟨h.rd (f := PWR_STATUS.PHASE) (by decide) (by decide) rfl, h.rd (f := PWR_STATUS.STATE) (by decide) (by decide) rfl⟩

theorem State.phased_keeps (n way : Nat) : (s.phased n).keeps way = s.keeps way := by
  rw [State.keeps, State.keeps, State.phased, State.rd_wr_apart _ _ (by decide), State.rd_wr_apart _ _ (by decide)]

theorem State.begin_keeps (way : Nat) : s.begin.keeps way = s.keeps way := by
  rw [State.keeps, State.keeps, s.begin_rd rfl, s.begin_rd rfl]

/-- E4 on the tags. -/
theorem flushWays_spec : PwrKept s s.flushWays ∧ ∀ k, tget TagW.empty s.flushWays.stk.tags k =
    if s.keeps (k % 32) = false ∧ (∃ e ∈ s.stk.tags, e.1 = k) then TagW.empty else tget TagW.empty s.stk.tags k := by
  have hatoms : FlushKept s (s.coh.atoms.foldl (fun s a => s.releaseAtom a.line) s) :=
    flushKept_foldl (fun (u : State) (a : AtomLine) => flushKept_releaseAtom u a.line) _ _
  have hform : s.flushWays = ((s.coh.atoms.foldl (fun s a => s.releaseAtom a.line) s).wr PWR_FLUSHED.COUNT 0).stk.tags.foldl State.flushWay
    ((s.coh.atoms.foldl (fun s a => s.releaseAtom a.line) s).wr PWR_FLUSHED.COUNT 0) := rfl
  rw [hform]
  generalize s.coh.atoms.foldl (fun s a => s.releaseAtom a.line) s = u at hatoms
  have hw : PwrKept s (u.wr PWR_FLUSHED.COUNT 0) := hatoms.toPwrKept.trans (pwrKept_wr u 0 (by decide))
  have htags : (u.wr PWR_FLUSHED.COUNT 0).stk.tags = s.stk.tags := hatoms.tags
  rw [htags]
  refine ⟨(flushWays_tags s s.stk.tags hw 0).1, fun k => ?_⟩
  rw [(flushWays_tags s s.stk.tags hw k).2, htags]

theorem State.begin_enginesQuiet : s.begin.enginesQuiet = s.enginesQuiet := by
  have hstop : (List.range 16).all (fun c => !(s.begin.flagI POR_CH_CTL.STOPPING c)) = (List.range 16).all (fun c => !(s.flagI POR_CH_CTL.STOPPING c)) :=
    all_congr_mem (fun c hc => by rw [s.begin_porFlag (by decide) rfl (List.mem_range.mp hc)])
  have hrsh : s.begin.rshQuiet = s.rshQuiet := by rw [State.rshQuiet, State.rshQuiet, State.begin_place, State.begin_coh]
  have hldg : s.begin.ldgQuiet = s.ldgQuiet := by
    rw [State.ldgQuiet, State.ldgQuiet, State.begin_ldg, State.begin_ord, State.begin_chn, State.begin_front]
  rw [State.enginesQuiet, State.enginesQuiet, hstop, hrsh, hldg, State.begin_por, State.begin_place, State.begin_ord, s.begin_flag rfl]

theorem State.begin_memQuiet : s.begin.memQuiet = s.memQuiet := by
  rw [State.memQuiet, State.memQuiet, State.begin_stk, State.begin_front]

/-- What a phase of entry leaves, whatever the phase: the state of the transition, and the command that runs. -/
structure PhaseEnd (s u : State) : Prop where
  state : u.rd PWR_STATUS.STATE = s.rd PWR_STATUS.STATE
  run : u.pwr.run = s.pwr.run

theorem PwrKept.phaseEnd {s u : State} {n : Nat} (hn : n < 8) (h : PwrKept (s.phased n) u) :
    u.rd PWR_STATUS.PHASE = n ∧ PhaseEnd s u := by
  obtain ⟨hp, hs⟩ := s.phased_shown hn
  obtain ⟨hp', hs'⟩ := h.shown
  exact ⟨hp'.trans hp, hs'.trans hs, by rw [h.pwr]; rfl⟩

theorem entryPhase_one (hon : s.entering) (h : s.rd PWR_STATUS.PHASE = 1) : s.entryPhase.rd PWR_STATUS.PHASE = 2
    ∧ s.entryPhase.stk = s.stk ∧ s.entryPhase.coh = s.coh ∧ PhaseEnd s s.entryPhase := by
  have hform := s.entryPhase_on hon
  rw [h] at hform
  have hu : s.entryPhase = (s.phased 2).enterE2 := hform
  have hsteady := steady_enterE2 (s.phased 2)
  obtain ⟨hph, hpe⟩ := hsteady.toPwrKept.phaseEnd (by decide)
  rw [hu]
  exact ⟨hph, hsteady.stk, hsteady.coh, hpe⟩

theorem entryPhase_two (hon : s.entering) (h : s.rd PWR_STATUS.PHASE = 2) (hq : s.enginesQuiet = true) :
    s.entryPhase.rd PWR_STATUS.PHASE = 3 ∧ s.entryPhase.stk = s.stk ∧ s.entryPhase.ldg = s.ldg ∧ PhaseEnd s s.entryPhase := by
  have hform := s.entryPhase_on hon
  rw [h] at hform
  have hu : s.entryPhase = (s.phased 3).dirWalk .flush := hform.trans (if_pos hq)
  have hdir := dirKept_dirWalk (s.phased 3) .flush
  obtain ⟨hph, hpe⟩ := hdir.toPwrKept.phaseEnd (by decide)
  rw [hu]
  exact ⟨hph, hdir.stk, hdir.ldg, hpe⟩

theorem entryPhase_three (hon : s.entering) (h : s.rd PWR_STATUS.PHASE = 3) (htx : s.coh.txns = []) (hcat : s.coh.cat = []) :
    s.entryPhase.rd PWR_STATUS.PHASE = 4 ∧ (∀ e, e ∈ s.stk.tags → s.entryPhase.tag (e.1 / 32) (e.1 % 32) =
      if s.keeps (e.1 % 32) = false then TagW.empty else s.tag (e.1 / 32) (e.1 % 32)) ∧ PhaseEnd s s.entryPhase := by
  have hform := s.entryPhase_on hon
  rw [h] at hform
  have hu : s.entryPhase = (s.phased 4).flushWays := hform.trans (if_pos (by rw [htx, hcat]; rfl))
  obtain ⟨hpk, htags⟩ := flushWays_spec (s.phased 4)
  obtain ⟨hph, hpe⟩ := hpk.phaseEnd (by decide)
  have hlist : (s.phased 4).stk.tags = s.stk.tags := rfl
  rw [hu]
  refine ⟨hph, fun e he => ?_, hpe⟩
  have hkey : e.1 / 32 * 32 + e.1 % 32 = e.1 := Nat.div_add_mod' e.1 32
  rw [State.tag, State.tag, hkey, htags, State.phased_keeps, hlist]
  exact if_congr ⟨fun h => h.1, fun h => ⟨h, e, he, rfl⟩⟩ rfl rfl

theorem entryPhase_walks (hon : s.entering) (h : s.rd PWR_STATUS.PHASE = 3) (hne : ¬ (s.coh.txns = [] ∧ s.coh.cat = [])) :
    s.entryPhase.rd PWR_STATUS.PHASE = 3 ∧ s.entryPhase.stk = s.stk ∧ PhaseEnd s s.entryPhase := by
  have hform := s.entryPhase_on hon
  rw [h] at hform
  have hu : s.entryPhase = s.dirWalk .flush := hform.trans (if_neg (by
    rw [Bool.and_eq_true, List.isEmpty_iff, List.isEmpty_iff]
    exact hne))
  have hdir := dirKept_dirWalk s .flush
  obtain ⟨hph, hst⟩ := hdir.toPwrKept.shown
  rw [hu]
  exact ⟨hph.trans h, hdir.stk, hst, by rw [hdir.pwr]⟩

theorem entryPhase_four (hon : s.entering) (h : s.rd PWR_STATUS.PHASE = 4) (hq : s.memQuiet = true) :
    s.entryPhase.rd PWR_STATUS.PHASE = 5 ∧ LinksDown (s.phased 5) s.entryPhase ∧ PhaseEnd s s.entryPhase := by
  have hform := s.entryPhase_on hon
  rw [h] at hform
  have hu : s.entryPhase = (s.phased 5).enterE5 := hform.trans (if_pos hq)
  have hdown := linksDown_enterE5 (s.phased 5)
  obtain ⟨hphs, hsts⟩ := s.phased_shown (n := 5) (by decide)
  rw [hu]
  refine ⟨?_, hdown, ?_, ?_⟩
  · exact (State.rdI_congr PWR_STATUS.PHASE 0 (hdown.word PWR_STATUS.PHASE.off (by decide) (by decide))).trans hphs
  · exact (State.rdI_congr PWR_STATUS.STATE 0 (hdown.word PWR_STATUS.STATE.off (by decide) (by decide))).trans hsts
  · rw [hdown.pwr]
    rfl

/-- Whatever else the phase or the state of the units, nothing happens. -/
theorem State.entryPhase_waits (h : s.entering → s.rd PWR_STATUS.PHASE ≠ 1 ∧ (s.rd PWR_STATUS.PHASE = 2 → s.enginesQuiet = false)
    ∧ s.rd PWR_STATUS.PHASE ≠ 3 ∧ (s.rd PWR_STATUS.PHASE = 4 → s.memQuiet = false)) : s.entryPhase = s := by
  by_cases hon : s.entering
  · obtain ⟨h1, h2, h3, h4⟩ := h hon
    rw [s.entryPhase_on hon]
    split
    · rename_i hp
      exact absurd hp h1
    · rename_i hp
      exact if_neg (by rw [h2 hp]; decide)
    · rename_i hp
      exact absurd hp h3
    · rename_i hp
      exact if_neg (by rw [h4 hp]; decide)
    · rfl
  · exact s.entryPhase_off hon

theorem phaseEnd_entryPhase : PhaseEnd s s.entryPhase := by
  by_cases hw : s.entering → s.rd PWR_STATUS.PHASE ≠ 1 ∧ (s.rd PWR_STATUS.PHASE = 2 → s.enginesQuiet = false)
      ∧ s.rd PWR_STATUS.PHASE ≠ 3 ∧ (s.rd PWR_STATUS.PHASE = 4 → s.memQuiet = false)
  · rw [s.entryPhase_waits hw]
    exact ⟨rfl, rfl⟩
  · obtain ⟨hon, hw⟩ := Classical.not_imp.mp hw
    by_cases h1 : s.rd PWR_STATUS.PHASE = 1
    · exact (entryPhase_one s hon h1).2.2.2
    by_cases h3 : s.rd PWR_STATUS.PHASE = 3
    · by_cases hq : s.coh.txns = [] ∧ s.coh.cat = []
      · exact (entryPhase_three s hon h3 hq.1 hq.2).2.2
      · exact (entryPhase_walks s hon h3 hq).2.2
    by_cases h2 : s.rd PWR_STATUS.PHASE = 2 ∧ s.enginesQuiet = true
    · exact (entryPhase_two s hon h2.1 h2.2).2.2.2
    by_cases h4 : s.rd PWR_STATUS.PHASE = 4 ∧ s.memQuiet = true
    · exact (entryPhase_four s hon h4.1 h4.2).2.2
    · exact absurd ⟨h1, fun h => Bool.not_eq_true _ ▸ fun hq => h2 ⟨h, hq⟩, h3, fun h => Bool.not_eq_true _ ▸ fun hq => h4 ⟨h, hq⟩⟩ hw

theorem retainEntryPhase_spec (s : State) :
    let st := s.rd PWR_STATUS.STATE
    let ph := s.rd PWR_STATUS.PHASE
    let on := st = 6 ∨ st = 8
    ∃ t, exec (.retainEntryPhase) s = .next t ∧ (¬ on → Untouched s t)
      ∧ (on → ph = 1 → t.rd PWR_STATUS.PHASE = 2 ∧ t.stk.tags = s.stk.tags ∧ t.coh = s.coh)
      ∧ (on → ph = 2 → s.enginesQuiet = true → t.rd PWR_STATUS.PHASE = 3 ∧ t.stk = s.stk ∧ t.ldg = s.ldg)
      ∧ (on → ph = 2 → s.enginesQuiet = false → Untouched s t)
      ∧ (on → ph = 3 → s.coh.txns = [] → s.coh.cat = [] → t.rd PWR_STATUS.PHASE = 4 ∧ (∀ e, e ∈ s.stk.tags → s.keeps (e.1 % 32) = false →
        t.tag (e.1 / 32) (e.1 % 32) = TagW.empty) ∧ (∀ e, e ∈ s.stk.tags → s.keeps (e.1 % 32) = true → (t.tag (e.1 / 32) (e.1 %
        32)).sector = (s.tag (e.1 / 32) (e.1 % 32)).sector))
      ∧ (on → ph = 3 → s.coh.txns ≠ [] → t.rd PWR_STATUS.PHASE = 3 ∧ t.stk = s.stk)
      ∧ (on → ph = 4 → s.memQuiet = true → t.rd PWR_STATUS.PHASE = 5 ∧ t.rd LNK_STATUS.UP = 0 ∧ t.cur.stage = 0 ∧ t.rd
        CUR_FW_STATUS.STATE = 0 ∧ t.flag MIR_STATUS.LINK_UP = false ∧ t.pwr =
        { s.pwr with links := BitVec.ofNat 8 (s.rd LNK_STATUS.UP), half := BitVec.ofNat 8 (s.rd LNK_STATUS.HALF) })
      ∧ (on → ph = 4 → s.memQuiet = true → ∀ n : Nat, n < 8 → t.flagI LNK_INJ_CTL.EN n = false)
      ∧ (on → ph = 4 → s.memQuiet = false → Untouched s t)
      ∧ (on → ph = 0 ∨ 4 < ph → Untouched s t)
      ∧ t.rd PWR_STATUS.STATE = st
      ∧ t.pwr.run = s.pwr.run := by
  intro st ph on
  have hbst : s.begin.rd PWR_STATUS.STATE = st := s.begin_rd rfl
  have hbph : s.begin.rd PWR_STATUS.PHASE = ph := s.begin_rd rfl
  have hbpwr : s.begin.pwr = s.pwr := s.begin_pwr
  have hbcoh : s.begin.coh = s.coh := s.begin_coh
  have hbstk : s.begin.stk = s.stk := s.begin_stk
  have hbon : s.begin.entering ↔ on := by rw [State.entering, hbst]
  have hwaits : s.begin.entryPhase = s.begin → Untouched s s.begin.entryPhase.settle := fun h => by
    rw [h]
    exact untouched_begin s
  obtain ⟨hstate, hrun⟩ := phaseEnd_entryPhase s.begin
  refine ⟨s.begin.entryPhase.settle, rfl, fun hoff => ?_, fun hon hp => ?_, fun hon hp hq => ?_, fun hon hp hq => ?_, fun hon hp htx hcat => ?_,
    fun hon hp htx => ?_, fun hon hp hq => ?_, fun hon hp hq => ?_, fun hon hp hq => ?_, fun hon hp => ?_, hstate.trans hbst,
    hrun.trans (by rw [hbpwr])⟩
  · exact hwaits (State.entryPhase_off _ (mt hbon.mp hoff))
  · obtain ⟨hph, hstk, hcoh, _⟩ := entryPhase_one s.begin (hbon.mpr hon) (hbph.trans hp)
    exact ⟨hph, by rw [State.settle_stk, hstk, hbstk], hcoh.trans hbcoh⟩
  · obtain ⟨hph, hstk, hldg, _⟩ := entryPhase_two s.begin (hbon.mpr hon) (hbph.trans hp) (s.begin_enginesQuiet.trans hq)
    exact ⟨hph, hstk.trans hbstk, hldg.trans s.begin_ldg⟩
  · refine hwaits (State.entryPhase_waits _ (fun _ => ?_))
    rw [hbph, s.begin_enginesQuiet, hp]
    exact ⟨by decide, fun _ => hq, by decide, fun h => absurd h (by decide)⟩
  · obtain ⟨hph, htag, _⟩ := entryPhase_three s.begin (hbon.mpr hon) (hbph.trans hp) (by rw [hbcoh]; exact htx) (by rw [hbcoh]; exact hcat)
    rw [hbstk] at htag
    simp only [s.begin_keeps, s.begin_tag] at htag
    exact ⟨hph, fun e he hk => (htag e he).trans (if_pos hk),
      fun e he hk => congrArg TagW.sector ((htag e he).trans (if_neg (by rw [hk]; decide)))⟩
  · obtain ⟨hph, hstk, _⟩ := entryPhase_walks s.begin (hbon.mpr hon) (hbph.trans hp) (by rw [hbcoh]; exact fun h => htx h.1)
    exact ⟨hph, hstk.trans hbstk⟩
  · obtain ⟨hph, hdown, _⟩ := entryPhase_four s.begin (hbon.mpr hon) (hbph.trans hp) (s.begin_memQuiet.trans hq)
    have hpwr := hdown.pwr
    have hpast : ∀ f : Field, Apart PWR_STATUS.PHASE f → pmuBlock f.off = false → (s.begin.phased 5).rd f = s.rd f := fun f ha hb =>
      (State.rd_wr_apart _ _ ha).trans (s.begin_rd hb)
    rw [hpast LNK_STATUS.UP (by decide) rfl, hpast LNK_STATUS.HALF (by decide) rfl, State.phased, State.wr_pwr, hbpwr] at hpwr
    exact ⟨hph, hdown.up, hdown.stage, hdown.firmware, hdown.mirror, hpwr⟩
  · exact (entryPhase_four s.begin (hbon.mpr hon) (hbph.trans hp) (s.begin_memQuiet.trans hq)).2.1.quiet
  · refine hwaits (State.entryPhase_waits _ (fun _ => ?_))
    rw [hbph, s.begin_memQuiet, hp]
    exact ⟨by decide, fun h => absurd h (by decide), by decide, fun _ => hq⟩
  · refine hwaits (State.entryPhase_waits _ (fun _ => ?_))
    rw [hbph]
    exact ⟨by omega, fun h => by omega, by omega, fun h => by omega⟩

end Sys2Proof.Machine
end

section
/-! SUPPORT. RETAIN_EXIT_PHASE (R319, R320). -/

namespace Sys2Proof.Machine

variable (s : State)

/-! ### What the end of X4 leaves -/

/-- The stacks, the directory and the registers of the power state, the links and the mirror stay. -/
structure ExitKept (s u : State) : Prop where
  stk : u.stk = s.stk
  coh : u.coh = s.coh
  word : ∀ k ∈ [PWR_STATUS.word.off, LNK_STATUS.word.off, MIR_STATUS.word.off], u.word k = s.word k
  lost : ∀ n : Nat, s.bit DBK_DEGRADED.LINKS n = true → u.bit DBK_DEGRADED.LINKS n = true

theorem ExitKept.refl : ExitKept s s := ⟨rfl, rfl, fun _ _ => rfl, fun _ h => h⟩

theorem ExitKept.trans {s t u : State} (hst : ExitKept s t) (htu : ExitKept t u) : ExitKept s u :=
  ⟨htu.stk.trans hst.stk, htu.coh.trans hst.coh, fun k hk => (htu.word k hk).trans (hst.word k hk), fun n h => htu.lost n (hst.lost n h)⟩

theorem ExitKept.foldl {α : Type} {g : State → α → State} (h : ∀ u a, ExitKept u (g u a)) (l : List α) (s : State) :
    ExitKept s (l.foldl g s) := by
  induction l generalizing s with
  | nil => exact ExitKept.refl s
  | cons a l ih => exact (h s a).trans (ih _)

theorem exitKept_of_words {s u : State} (hs : u.stk = s.stk) (hc : u.coh = s.coh)
    (hw : ∀ k ∈ [PWR_STATUS.word.off, LNK_STATUS.word.off, MIR_STATUS.word.off, DBK_DEGRADED.word.off], u.word k = s.word k) : ExitKept s u := by
  refine ⟨hs, hc, fun k hk => hw k (List.mem_append_left [DBK_DEGRADED.word.off] hk), fun n h => ?_⟩
  have hrd : u.rd DBK_DEGRADED.LINKS = s.rd DBK_DEGRADED.LINKS := State.rdI_congr _ 0 (hw DBK_DEGRADED.word.off (by decide))
  rw [State.bit, hrd]
  exact h

theorem exitKept_wrI {f : Field} {i : Nat} (v : Nat) (h : f.off + f.stride * i ∉ [PWR_STATUS.word.off, LNK_STATUS.word.off,
    MIR_STATUS.word.off, DBK_DEGRADED.word.off]) : ExitKept s (s.wrI f i v) :=
  exitKept_of_words rfl rfl (fun k hk => (State.word_wrI ..).trans (if_neg (fun he => h (by rw [← he]; exact hk))))

theorem exitKept_fault {cls : Nat} (hc : cls < 16) (code sev detail : Nat) (loc : Option LineAddr) (status kind src : Nat) (irq : Bool) :
    ExitKept s (s.fault cls code sev detail loc status kind src irq) := by
  refine exitKept_of_words (by rw [State.fault_eq]) (by rw [State.fault_eq]) (fun k hk => s.word_fault _ _ _ _ _ _ _ _ _ k ?_)
  simp only [List.mem_cons, List.not_mem_nil, or_false] at hk
  simp only [faultRegs, List.mem_cons, List.not_mem_nil, or_false]
  omega

/-- A link lost at X4 is recorded. -/
def State.linkGone (s : State) (n : Nat) : State := (s.fault 10 2 2 (detail := n) (srcKind := 3) (srcId := n)).setBit DBK_DEGRADED.LINKS n true

theorem exitKept_linkGone {n : Nat} (hn : n < 8) : ExitKept s (s.linkGone n) ∧ (s.linkGone n).bit DBK_DEGRADED.LINKS n = true := by
  have hf := exitKept_fault s (cls := 10) (by decide) 2 2 n none 0 3 n false
  unfold State.linkGone
  generalize s.fault 10 2 2 n none 0 3 n false = u at hf ⊢
  have hbit := u.rd_setBit_true DBK_DEGRADED.LINKS (k := n) (by decide) hn
  refine ⟨hf.trans ⟨rfl, rfl, fun k hk => (State.word_setBit ..).trans (if_neg ?_), fun m hm => ?_⟩, ?_⟩
  · rintro rfl
    exact absurd hk (by decide)
  · rw [State.bit] at hm ⊢
    rw [hbit, Nat.testBit_or, hm]
    rfl
  · rw [State.bit, hbit, Nat.testBit_or, Nat.testBit_two_pow_self, Bool.or_true]

theorem exitKept_linksGone {l : List Nat} (hl : ∀ n ∈ l, n < 8) (s : State) : ExitKept s (l.foldl State.linkGone s)
    ∧ ∀ n ∈ l, (l.foldl State.linkGone s).bit DBK_DEGRADED.LINKS n = true := by
  induction l generalizing s with
  | nil => exact ⟨ExitKept.refl s, fun n h => absurd h List.not_mem_nil⟩
  | cons a l ih =>
    obtain ⟨hkept, hbit⟩ := exitKept_linkGone s (hl a List.mem_cons_self)
    obtain ⟨hk, hb⟩ := ih (fun n hn => hl n (List.mem_cons_of_mem a hn)) (s.linkGone a)
    refine ⟨hkept.trans hk, fun n hn => ?_⟩
    rcases List.mem_cons.mp hn with rfl | hn
    · exact hk.lost n hbit
    · exact hb n hn

/-- The loss report lies in MIR_LOSS_CTL and the words from 0x26800 to 0x27000. -/
theorem State.word_lossEntry (typ cause line run ts : Nat) {k : Nat} (h : k < 0x26080 ∨ 0x27000 ≤ k) :
    (s.lossEntry typ cause line run ts).word k = s.word k := by
  unfold State.lossEntry
  extract_lets n a b c d
  split
  · have h1 := s.word_setFlag MIR_LOSS_CTL.OVERFLOW true k
    have h2 := (s.setFlag MIR_LOSS_CTL.OVERFLOW true).word_bump MIR_LOSS_CTL.LOST 1 k
    rw [if_neg (by simp only; omega)] at h1 h2
    exact h2.trans h1
  · rename_i hfull
    have hn : n < 128 := by omega
    have h1 : a.word k = s.word k := (State.word_wrI ..).trans (if_neg (by simp only; omega))
    have h2 : b.word k = a.word k := (State.word_wrI ..).trans (if_neg (by simp only; omega))
    have h3 : c.word k = b.word k := (State.word_wrI ..).trans (if_neg (by simp only; omega))
    have h4 : d.word k = c.word k := (State.word_setWord ..).trans (if_neg (by simp only; omega))
    have h5 : (d.wr MIR_LOSS_CTL.COUNT (n + 1)).word k = d.word k := (State.word_wr ..).trans (if_neg (by simp only; omega))
    rw [h5, h4, h3, h2, h1]

theorem exitKept_lossEntry (typ cause line run ts : Nat) : ExitKept s (s.lossEntry typ cause line run ts) := by
  have hform := onlyRegFile_lossEntry s typ cause line run ts
  refine exitKept_of_words (by rw [hform]) (by rw [hform]) (fun k hk => s.word_lossEntry _ _ _ _ _ ?_)
  simp only [List.mem_cons, List.not_mem_nil, or_false] at hk
  rcases hk with rfl | rfl | rfl | rfl <;> decide

/-- The failed state is entered. -/
def State.failMarked (s : State) : State :=
  { s with front := { s.front with failed := true }, pins := { s.pins with selfLive := false } }

/-- The fault of a failure. -/
def State.failFault (s : State) (cls code : Nat) : State :=
  s.fault 2 2 3 (detail := cls <<< 8 ||| code) (srcKind := 8) (irq := true)

theorem State.fail_eq (cls code : Nat) : s.fail cls code = if s.front.failed then s else
    (s.failMarked.failFault cls code).lossLines 2 ((s.failMarked.failFault cls code).dirtyLines.filter
      (fun l => (s.failMarked.failFault cls code).homesSelf l && !((s.failMarked.failFault cls code).mirCovered l))) := rfl

theorem exitKept_fail (cls code : Nat) : ExitKept s (s.fail cls code) := by
  rw [State.fail_eq]
  split
  · exact ExitKept.refl s
  · have hu : ExitKept s s.failMarked := exitKept_of_words rfl rfl (fun _ _ => rfl)
    have hv : ExitKept s.failMarked (s.failMarked.failFault cls code) := exitKept_fault s.failMarked (cls := 2) (by decide) _ _ _ _ _ _ _ _
    exact hu.trans (hv.trans (ExitKept.foldl (fun w r => exitKept_lossEntry w _ _ _ _ _) _ _))

/-- Every bucket at its cap. -/
def State.bucketsFull (s : State) : State := (List.range 8).foldl (fun s l => s.setBucket l (s.bucketCap s.front.tclAct l)) s

/-- No credit granted yet. -/
def State.creditsReset (s : State) : State := { s with front := { s.front with poolCred := [], turn := [] } }

/-- The credits of the other slices' engines. -/
def State.portersGranted (s : State) : State :=
  (List.range 64).foldl (fun s p => s.setCredit (porterPool (BitVec.ofNat 6 p)) (s.wantPorter (BitVec.ofNat 6 p))) s

/-- The credits of an agent on a casement. -/
def State.agentGranted (s : State) (c a : Nat) : State :=
  (s.agentWords c a).foldl (fun s x => (s.setCredit x.1 (s.credit x.1 + x.2.2.2.2)).creditOut c x.2.1 a x.2.2.1 x.2.2.2.1 x.2.2.2.2) s

theorem State.grantAll_eq : s.grantAll = (s.bucketsFull.creditsReset.portersGranted.mesh.foldl
    (fun s c => (List.range 32).foldl (fun s a => s.agentGranted c a) s) s.bucketsFull.creditsReset.portersGranted) := rfl

theorem exitKept_bucketsFull : ExitKept s s.bucketsFull := by
  have hbucket : ∀ (l : List Nat), (∀ n ∈ l, n < 8) → ∀ u : State, ExitKept u (l.foldl (fun s n => s.setBucket n (s.bucketCap s.front.tclAct n)) u) := by
    intro l hl
    induction l with
    | nil => exact fun u => ExitKept.refl u
    | cons a l ih =>
      intro u
      have ha := hl a List.mem_cons_self
      refine ExitKept.trans ?_ (ih (fun n hn => hl n (List.mem_cons_of_mem a hn)) _)
      refine exitKept_of_words rfl rfl (fun k hk => (State.word_wrI _ TCL_BUCKET.BUCKET a _ k).trans (if_neg ?_))
      simp only [List.mem_cons, List.not_mem_nil, or_false] at hk
      rcases hk with rfl | rfl | rfl | rfl <;> simp only <;> omega
  exact hbucket _ (fun n hn => List.mem_range.mp hn) s

theorem exitKept_front (f : Front) : ExitKept s { s with front := f } := exitKept_of_words rfl rfl (fun _ _ => rfl)

theorem exitKept_out (o : List Out) : ExitKept s { s with out := o } := exitKept_of_words rfl rfl (fun _ _ => rfl)

theorem exitKept_grantAll : ExitKept s s.grantAll := by
  have hagent : ∀ (u : State) (c a : Nat), ExitKept u (u.agentGranted c a) := fun u c a =>
    ExitKept.foldl (fun v x => (exitKept_front v _).trans (exitKept_out _ _)) _ _
  rw [State.grantAll_eq]
  have hreset : ExitKept s.bucketsFull s.bucketsFull.creditsReset := exitKept_front s.bucketsFull _
  refine (exitKept_bucketsFull s).trans (hreset.trans (ExitKept.trans (t := s.bucketsFull.creditsReset.portersGranted) ?_ ?_))
  · exact ExitKept.foldl (fun v p => exitKept_front v _) _ _
  · exact ExitKept.foldl (fun v c => ExitKept.foldl (fun w a => hagent w c a) _ _) _ _

/-! ### X4 ends -/

/-- The links that are up, as the registers show them. -/
def State.linksShown (s : State) (now : BitVec 8) : State :=
  ((s.wr LNK_STATUS.UP now.toNat).wr LNK_STATUS.HALF (s.pwr.half &&& now).toNat).setFlag MIR_STATUS.LINK_UP (now.getLsbD 6)

/-- The links that did not retrain. -/
def linksLost (was now : BitVec 8) : List Nat := (List.range 8).filter (fun n => was.getLsbD n && !(now.getLsbD n))

/-- Without a casement the slice fails, else credits are granted. -/
def State.meshOrFail (s : State) : State := if s.mesh.isEmpty then s.fail 10 2 else s.grantAll

theorem State.enterX5_eq (up : BitVec 8) : s.enterX5 up =
    ((linksLost s.pwr.links (s.pwr.links &&& up)).foldl State.linkGone (s.linksShown (s.pwr.links &&& up))).meshOrFail := rfl

theorem State.linksShown_shown (now : BitVec 8) : (s.linksShown now).rd LNK_STATUS.UP = now.toNat
    ∧ (s.linksShown now).flag MIR_STATUS.LINK_UP = now.getLsbD 6 := by
  constructor
  · rw [State.linksShown, State.rd_setFlag_apart _ _ (by decide), State.rd_wr_apart _ _ (by decide), State.rd_wr_same _ _ _ (by decide)]
    exact Nat.mod_eq_of_lt now.isLt
  · rw [State.flag_eq, State.linksShown, State.rd_setFlag_same _ _ _ (by decide) rfl]
    cases now.getLsbD 6 <;> rfl

theorem exitKept_enterX5 (up : BitVec 8) : ExitKept (s.linksShown (s.pwr.links &&& up)) (s.enterX5 up)
    ∧ ∀ n : Nat, n < 8 → s.pwr.links.getLsbD n = true → up.getLsbD n = false → (s.enterX5 up).bit DBK_DEGRADED.LINKS n = true := by
  have hlt : ∀ n ∈ linksLost s.pwr.links (s.pwr.links &&& up), n < 8 := fun n hn => List.mem_range.mp (List.mem_filter.mp hn).1
  obtain ⟨hgone, hbit⟩ := exitKept_linksGone hlt (s.linksShown (s.pwr.links &&& up))
  rw [State.enterX5_eq]
  generalize (linksLost s.pwr.links (s.pwr.links &&& up)).foldl State.linkGone (s.linksShown (s.pwr.links &&& up)) = u at hgone hbit
  have hend : ExitKept u u.meshOrFail := by
    unfold State.meshOrFail
    split
    · exact exitKept_fail ..
    · exact exitKept_grantAll u
  refine ⟨hgone.trans hend, fun n hn hwas hup => hend.lost n (hbit n (List.mem_filter.mpr ⟨List.mem_range.mpr hn, ?_⟩))⟩
  rw [BitVec.getLsbD_and, hwas, hup]
  rfl

/-! ### The phases -/

/-- An exit is in progress. -/
def State.exiting (s : State) : Prop := s.rd PWR_STATUS.STATE = 7

theorem State.exitPhase_on (h : s.exiting) (up : BitVec 8) : s.exitPhase up = match s.rd PWR_STATUS.PHASE with
    | 1 => ((s.wr PWR_STATUS.PHASE 2).setFlag SLC_ISLAND_STATUS.CUR_UP (!s.start.curDown)).loaderRelease
    | 2 => s.wr PWR_STATUS.PHASE 3
    | 3 => (s.wr PWR_STATUS.PHASE 4).scaleReload
    | 4 => (s.wr PWR_STATUS.PHASE 5).enterX5 up
    | _ => s := by
  have hno : ¬ (s.rd PWR_STATUS.STATE != 7) = true := by
    rw [bne_iff_ne, not_not]
    exact h
  unfold State.exitPhase
  rw [if_neg hno] <;> rfl

theorem State.exitPhase_waits (up : BitVec 8) (h : s.exiting → s.rd PWR_STATUS.PHASE = 0 ∨ 4 < s.rd PWR_STATUS.PHASE) : s.exitPhase up = s := by
  by_cases hon : s.exiting
  · have hph := h hon
    rw [s.exitPhase_on hon]
    split
    · omega
    · omega
    · omega
    · omega
    · rfl
  · unfold State.exitPhase
    exact if_pos (bne_iff_ne.mpr hon)

/-- The islands' clocks return, and the boot loader starts. -/
def State.curBack (s : State) : State := (s.phased 2).setFlag SLC_ISLAND_STATUS.CUR_UP (!s.start.curDown)

theorem exitPhase_one (up : BitVec 8) (hon : s.exiting) (h : s.rd PWR_STATUS.PHASE = 1) : (s.exitPhase up).rd PWR_STATUS.PHASE = 2
    ∧ (s.exitPhase up).flag SLC_ISLAND_STATUS.CUR_UP = (!s.start.curDown) ∧ (s.exitPhase up).stk = s.stk ∧ (s.exitPhase up).coh = s.coh := by
  have hform := s.exitPhase_on hon up
  rw [h] at hform
  have hu : s.exitPhase up = s.curBack.loaderRelease := hform
  have hword : ∀ k ∉ loaderRegs, s.curBack.loaderRelease.word k = s.curBack.word k := fun k hk => State.word_loaderRelease _ hk
  have honly := onlyCur_loaderRelease s.curBack
  have hph : s.curBack.loaderRelease.rd PWR_STATUS.PHASE = s.curBack.rd PWR_STATUS.PHASE := State.rdI_congr _ 0 (hword PWR_STATUS.word.off (by decide))
  have hup : s.curBack.loaderRelease.rd SLC_ISLAND_STATUS.CUR_UP = s.curBack.rd SLC_ISLAND_STATUS.CUR_UP :=
    State.rdI_congr _ 0 (hword SLC_ISLAND_STATUS.word.off (by decide))
  rw [hu, hph, State.flag_eq, hup]
  refine ⟨?_, ?_, ?_, ?_⟩
  · rw [State.curBack, State.rd_setFlag_apart _ _ (by decide)]
    exact (s.phased_shown (by decide)).1
  · rw [State.curBack, State.rd_setFlag_same _ _ _ (by decide) rfl]
    cases s.start.curDown <;> rfl
  · unfold OnlyCur at honly
    rw [honly]
    rfl
  · unfold OnlyCur at honly
    rw [honly]
    rfl

theorem exitPhase_two (up : BitVec 8) (hon : s.exiting) (h : s.rd PWR_STATUS.PHASE = 2) : s.exitPhase up = s.phased 3 := by
  have hform := s.exitPhase_on hon up
  rw [h] at hform
  exact hform

theorem exitPhase_three (up : BitVec 8) (hon : s.exiting) (h : s.rd PWR_STATUS.PHASE = 3) : (s.exitPhase up).rd PWR_STATUS.PHASE = 4
    ∧ (s.exitPhase up).ldg = { s.ldg with scale := s.ldg.master } ∧ (s.exitPhase up).stk = s.stk ∧ (s.exitPhase up).coh = s.coh := by
  have hform := s.exitPhase_on hon up
  rw [h] at hform
  have hu : s.exitPhase up = (s.phased 4).scaleReload := hform
  have hrd : (s.phased 4).scaleReload.rd PWR_STATUS.PHASE = (s.phased 4).rd PWR_STATUS.PHASE := by
    rw [State.scaleReload, State.rd_setFlag_apart _ _ (by decide)]
    rfl
  rw [hu]
  exact ⟨hrd.trans (s.phased_shown (by decide)).1, rfl, rfl, rfl⟩

theorem exitPhase_four (up : BitVec 8) (hon : s.exiting) (h : s.rd PWR_STATUS.PHASE = 4) : (s.exitPhase up).rd PWR_STATUS.PHASE = 5
    ∧ (s.exitPhase up).rd LNK_STATUS.UP = (s.pwr.links &&& up).toNat
    ∧ (s.exitPhase up).flag MIR_STATUS.LINK_UP = (s.pwr.links &&& up).getLsbD 6
    ∧ (∀ n : Nat, n < 8 → s.pwr.links.getLsbD n = true → up.getLsbD n = false → (s.exitPhase up).bit DBK_DEGRADED.LINKS n = true)
    ∧ (s.exitPhase up).stk = s.stk ∧ (s.exitPhase up).coh = s.coh := by
  have hform := s.exitPhase_on hon up
  rw [h] at hform
  have hu : s.exitPhase up = (s.phased 5).enterX5 up := hform
  obtain ⟨hkept, hlost⟩ := exitKept_enterX5 (s.phased 5) up
  have hpwr : (s.phased 5).pwr = s.pwr := rfl
  rw [hpwr] at hkept hlost
  obtain ⟨hup, hmir⟩ := (s.phased 5).linksShown_shown (s.pwr.links &&& up)
  have hph : ((s.phased 5).linksShown (s.pwr.links &&& up)).rd PWR_STATUS.PHASE = 5 := by
    rw [State.linksShown, State.rd_setFlag_apart _ _ (by decide), State.rd_wr_apart _ _ (by decide), State.rd_wr_apart _ _ (by decide)]
    exact (s.phased_shown (by decide)).1
  rw [hu]
  refine ⟨?_, ?_, ?_, hlost, hkept.stk, hkept.coh⟩
  · exact (State.rdI_congr PWR_STATUS.PHASE 0 (hkept.word PWR_STATUS.PHASE.off (by decide))).trans hph
  · exact (State.rdI_congr LNK_STATUS.UP 0 (hkept.word LNK_STATUS.UP.off (by decide))).trans hup
  · exact (State.flag_congr (State.rdI_congr MIR_STATUS.LINK_UP 0 (hkept.word MIR_STATUS.LINK_UP.off (by decide)))).trans hmir

theorem exitPhase_stores (up : BitVec 8) : (s.exitPhase up).stk = s.stk ∧ (s.exitPhase up).coh = s.coh := by
  by_cases hw : s.exiting → s.rd PWR_STATUS.PHASE = 0 ∨ 4 < s.rd PWR_STATUS.PHASE
  · rw [s.exitPhase_waits up hw]
    exact ⟨rfl, rfl⟩
  · obtain ⟨hon, hph⟩ := Classical.not_imp.mp hw
    have hcases : s.rd PWR_STATUS.PHASE = 1 ∨ s.rd PWR_STATUS.PHASE = 2 ∨ s.rd PWR_STATUS.PHASE = 3 ∨ s.rd PWR_STATUS.PHASE = 4 := by omega
    rcases hcases with h | h | h | h
    · exact (exitPhase_one s up hon h).2.2
    · rw [exitPhase_two s up hon h]
      exact ⟨rfl, rfl⟩
    · exact (exitPhase_three s up hon h).2.2
    · exact (exitPhase_four s up hon h).2.2.2.2

theorem retainExitPhase_spec (s : State) (up : BitVec 8) :
    let on := s.rd PWR_STATUS.STATE = 7
    let ph := s.rd PWR_STATUS.PHASE
    let now := s.pwr.links &&& up
    ∃ t, exec (.retainExitPhase up) s = .next t ∧ (¬ on → Untouched s t)
      ∧ (on → ph = 1 → t.rd PWR_STATUS.PHASE = 2 ∧ t.flag SLC_ISLAND_STATUS.CUR_UP = (!s.start.curDown))
      ∧ (on → ph = 2 → t.rd PWR_STATUS.PHASE = 3 ∧ OnlyRegs s t ∧ RegsBut [PWR_STATUS.word.off] s t)
      ∧ (on → ph = 3 → t.rd PWR_STATUS.PHASE = 4 ∧ t.ldg = { s.ldg with scale := t.ldg.scale } ∧ ∀ e : Nat, e < 256 → tget ScaleEnt.init
        t.ldg.scale e = tget ScaleEnt.init s.ldg.master e)
      ∧ (on → ph = 4 → t.rd PWR_STATUS.PHASE = 5 ∧ t.rd LNK_STATUS.UP = now.toNat ∧ t.flag MIR_STATUS.LINK_UP = now.getLsbD 6)
      ∧ (on → ph = 4 → ∀ n : Nat, n < 8 → s.pwr.links.getLsbD n = true → up.getLsbD n = false → t.bit DBK_DEGRADED.LINKS n = true)
      ∧ (on → ph = 0 ∨ 4 < ph → Untouched s t)
      ∧ t.stk.tags = s.stk.tags
      ∧ t.coh = s.coh := by
  intro on ph now
  have hbst : s.begin.rd PWR_STATUS.STATE = s.rd PWR_STATUS.STATE := s.begin_rd rfl
  have hbph : s.begin.rd PWR_STATUS.PHASE = ph := s.begin_rd rfl
  have hbpwr : s.begin.pwr = s.pwr := s.begin_pwr
  have hbldg : s.begin.ldg = s.ldg := s.begin_ldg
  have hbon : s.begin.exiting ↔ on := by rw [State.exiting, hbst]
  have hwaits : s.begin.exitPhase up = s.begin → Untouched s (s.begin.exitPhase up).settle := fun h => by
    rw [h]
    exact untouched_begin s
  obtain ⟨hstk, hcoh⟩ := exitPhase_stores s.begin up
  refine ⟨(s.begin.exitPhase up).settle, rfl, fun hoff => ?_, fun hon hp => ?_, fun hon hp => ?_, fun hon hp => ?_, fun hon hp => ?_,
    fun hon hp => ?_, fun hon hp => ?_, by rw [State.settle_stk, hstk, State.begin_stk], hcoh.trans s.begin_coh⟩
  · exact hwaits (State.exitPhase_waits _ up (fun h => absurd (hbon.mp h) hoff))
  · obtain ⟨h1, h2, _⟩ := exitPhase_one s.begin up (hbon.mpr hon) (hbph.trans hp)
    rw [State.begin_start] at h2
    exact ⟨h1, h2⟩
  · rw [exitPhase_two s.begin up (hbon.mpr hon) (hbph.trans hp)]
    refine ⟨(s.begin.phased_shown (by decide)).1, by apply onlyRegs_settle <;> simp [State.phased], fun k hk hpm => ?_⟩
    rw [State.word_settle, State.phased, State.word_wr, if_neg (by simpa using hk)]
    exact s.word_begin k hpm
  · obtain ⟨h1, h2, _⟩ := exitPhase_three s.begin up (hbon.mpr hon) (hbph.trans hp)
    rw [hbldg] at h2
    refine ⟨h1, ?_, fun e _ => ?_⟩
    · rw [State.settle_ldg, h2]
    · rw [State.settle_ldg, h2]
  · obtain ⟨h1, h2, h3, _⟩ := exitPhase_four s.begin up (hbon.mpr hon) (hbph.trans hp)
    rw [hbpwr] at h2 h3
    exact ⟨h1, h2, h3⟩
  · obtain ⟨_, _, _, h4, _⟩ := exitPhase_four s.begin up (hbon.mpr hon) (hbph.trans hp)
    rw [hbpwr] at h4
    exact h4
  · refine hwaits (State.exitPhase_waits _ up (fun _ => ?_))
    rw [hbph]
    exact hp

end Sys2Proof.Machine
end

section
/-! O54: TRANSITION_END (R318, R319, R327), and the loss of the supplies (R308, R322). -/

namespace Sys2Proof.Machine

variable (s : State)

/-! ### Porter's channels start again -/

theorem steady_fault {cls : Nat} (hc : cls < 16) (code sev detail : Nat) (loc : Option LineAddr) (status kind src : Nat) (irq : Bool) :
    Steady s (s.fault cls code sev detail loc status kind src irq) := by
  refine ⟨⟨by rw [State.fault_eq], fun k h1 h2 => s.word_fault _ _ _ _ _ _ _ _ _ k ?_⟩, by rw [State.fault_eq], by rw [State.fault_eq]⟩
  simp only [faultRegs, List.mem_cons, List.not_mem_nil, or_false]
  omega

theorem steady_por (p : Porter) : Steady s { s with por := p } := steady_of rfl rfl rfl rfl rfl

theorem steady_fresh : Steady s s.fresh.2 := steady_of rfl rfl rfl rfl rfl

theorem steady_chn {f : Field} (c v : Nat) (h : 0x201C ≤ f.off) : Steady s (s.wrI f c v) := steady_wrI s v (Nat.le_add_right_of_le h)

theorem steady_porRoute (c : Nat) (i : Instr) (r : Req) : Steady s (s.porRoute c i r) := by
  unfold State.porRoute
  split
  · exact steady_of rfl rfl rfl rfl rfl
  · split
    · split
      · exact sendRel_steady.refl s
      · exact sendRel_steady.sendAt s (by omega) _
    · exact sendRel_steady.refl s

theorem steady_porIssue (c : Nat) (kind : PorKind) (label scope : Nat) (rel acq psn : Bool) (line : Nat) (mk : Req → Instr) :
    Steady s (s.porIssue c kind label scope rel acq psn line mk) :=
  (steady_fresh s).trans ((steady_por s.fresh.2 _).trans (steady_porRoute ..))

theorem steady_porIndex (c n : Nat) (s : State) : Steady s (s.porIndex c n) := by
  induction n generalizing s with
  | zero => exact sendRel_steady.refl s
  | succ n ih =>
    unfold State.porIndex
    split
    · extract_lets out u v
      split
      · exact (steady_por s _).trans ((steady_porIssue u ..).trans (ih _))
      · exact sendRel_steady.refl s
    · exact sendRel_steady.refl s

theorem steady_porProgress (c : Nat) (x : Xfer) : Steady s (s.porProgress c x) := by
  unfold State.porProgress
  extract_lets put u v
  have hput : ∀ (w : State) (lo hi : Field) (a : Option Int), 0x201C ≤ lo.off → 0x201C ≤ hi.off → Steady w (put w lo hi a) :=
    fun w lo hi a hlo hhi => by
      cases a with
      | none => exact sendRel_steady.refl w
      | some a => exact (steady_chn w c _ hlo).trans (steady_chn _ c _ hhi)
  have hu : Steady s u := hput s _ _ _ (by decide) (by decide)
  have hv : Steady u v := hput u _ _ _ (by decide) (by decide)
  exact hu.trans (hv.trans ((steady_chn v (f := POR_CH_COUNT.COUNT) c _ (by decide)).trans (steady_chn _ (f := POR_CH_PACE.C) c _ (by decide))))

theorem steady_porHalt (c status reason : Nat) : Steady s (s.porHalt c status reason) := by
  unfold State.porHalt
  extract_lets u
  have hu : Steady s u := (steady_chn s (f := POR_CH_CTL.HALT) c _ (by decide)).trans (steady_wr (f := POR_CTL.HALTED) _ _ (by decide))
  exact hu.trans (steady_fault u (cls := 7) (by decide) _ _ _ _ _ _ _ _)

theorem steady_porEnd (c : Nat) (x : Xfer) : Steady s (s.porEnd c x) := by
  unfold State.porEnd
  split
  extract_lets u v w
  have hu : Steady s u := (steady_chn s (f := POR_CH_LAST.STATUS) c _ (by decide)).trans (steady_chn _ (f := POR_CH_DONE.COUNT) c _ (by decide))
  have hv : Steady u v := steady_por u _
  have hw : Steady v w := by
    unfold w
    split
    · exact steady_chn v (f := POR_CH_RING_CFG.HEAD) c _ (by decide)
    · exact steady_chn v (f := POR_CH_CTL.START) c _ (by decide)
  refine hu.trans (hv.trans (hw.trans ?_))
  split
  · exact steady_porHalt ..
  · exact sendRel_steady.refl w

theorem steady_porWrite (c : Nat) (kind : PorKind) (x : Xfer) (rel : Bool) (a n : Nat) (v : BitVec 64) :
    Steady s (s.porWrite c kind x rel a n v) := by
  unfold State.porWrite
  exact steady_porIssue ..

theorem steady_porStatus (c : Nat) (x : Xfer) : Steady s (s.porStatus c x) := by
  unfold State.porStatus
  split
  extract_lets w
  exact (steady_fresh s).trans ((steady_por s.fresh.2 _).trans (steady_porWrite ..))

theorem steady_porCheck (c : Nat) : Steady s (s.porCheck c) := by
  unfold State.porCheck
  split
  · exact sendRel_steady.refl s
  · rename_i x _
    split
    · exact sendRel_steady.refl s
    · extract_lets quiet ended u
      split
      · exact sendRel_steady.refl s
      · have hu : Steady s u := by
          unfold u
          split
          · exact sendRel_steady.refl s
          · exact steady_chn s (f := POR_CH_CRC.CRC) c _ (by decide)
        refine hu.trans ?_
        split
        · exact steady_porStatus ..
        · exact steady_porEnd ..

theorem steady_porBegin (c : Nat) (x : Xfer) (hi : Bool) : Steady s (s.porBegin c x hi) := by
  unfold State.porBegin
  split
  · exact (steady_por s _).trans (steady_porCheck ..)
  · extract_lets u
    have hu : Steady s u := (steady_por s _).trans (steady_chn _ (f := POR_CH_CRC.CRC) c _ (by decide))
    exact hu.trans ((steady_porProgress ..).trans (steady_porIndex ..))

theorem steady_resume : Steady s s.resume := by
  refine sendRel_steady.foldl (fun u c => ?_) _ _
  unfold State.porKick
  split
  · exact steady_porBegin ..
  · exact sendRel_steady.refl u

/-! ### What RETAIN and OFF_READY do not keep -/

/-- The registers that are not kept. -/
def State.regsDown (s : State) : State :=
  (((s.clearRange 0xC100 0xC300).clearRange 0x18000 0x20000).setWord LDG_SEED_HEAD.word.off 0).wr LDG_STATUS.DRAINS_RUN 0

theorem State.powerDown_regs : s.powerDown.regs = s.regsDown.regs ∧ s.powerDown.s64 = s.s64 := ⟨rfl, rfl⟩

theorem State.word_powerDown {k : Nat} (h : k < 0xC000) : s.powerDown.word k = s.word k := by
  have h0 : s.powerDown.word k = s.regsDown.word k := State.word_congr rfl s.powerDown_regs.1 k
  rw [h0, State.regsDown, State.word_wr, if_neg (by simp only; omega), State.word_setWord, if_neg (by simp only; omega), State.word_clearRange,
    if_neg (by omega), State.word_clearRange, if_neg (by omega)]

/-- What is lost, and what stays. -/
structure PoweredDown (s u : State) : Prop where
  coh : u.coh = Coh.init
  tags : u.stk.tags = s.stk.tags
  beats : u.stk.beats = s.stk.beats
  master : u.ldg.master = s.ldg.master
  rows : u.ldg.rows = []
  inbox : u.front.inbox = []
  xfers : u.por.xfers = []
  image : u.img.buf = []
  sram : u.cur.sram = []

theorem poweredDown_powerDown : PoweredDown s s.powerDown := ⟨rfl, rfl, rfl, rfl, rfl, rfl, rfl, rfl, rfl⟩

/-! ### The end of a transition -/

/-- The duration of an entry stored, with the state that it ends in. -/
def State.entered (s : State) (st : Nat) : State := (s.powerDown.wr PWR_STATUS.STATE st).wr PWR_TIMES.ENTRY_US s.pwrUs

/-- The duration of an exit stored; the engines resume. -/
def State.exited (s : State) : State := ((s.wr PWR_STATUS.STATE 0).wr PWR_TIMES.EXIT_US s.pwrUs).resume

/-- What a transition's end brings into force. -/
def State.arrived (s : State) : State :=
  if s.rd PWR_STATUS.STATE = 1 then s
  else if s.rd PWR_STATUS.STATE = 5 then s.wr PWR_STATUS.STATE 0
  else if s.rd PWR_STATUS.STATE = 6 then s.entered 2
  else if s.rd PWR_STATUS.STATE = 8 then s.entered 3
  else s.exited

/-- A transition has reached its end. -/
def State.ends (s : State) : Prop :=
  s.rd PWR_STATUS.STATE = 1 ∨ s.rd PWR_STATUS.STATE = 5 ∨ s.rd PWR_STATUS.PHASE = 5
    ∧ (s.rd PWR_STATUS.STATE = 6 ∨ s.rd PWR_STATUS.STATE = 7 ∨ s.rd PWR_STATUS.STATE = 8)

/-- The transition over: no command runs, PHASE 0. -/
def State.over (s u : State) : State := ({ u with pwr := { s.pwr with run := none } }).wr PWR_STATUS.PHASE 0

theorem State.transitionEnd_waits (h : s.pwr.run = none ∨ ¬ s.ends) : s.transitionEnd = s := by
  unfold State.transitionEnd
  split
  · rfl
  · rename_i c hc
    have hno := h.resolve_left (by rw [hc]; simp)
    unfold State.ends at hno
    simp only [not_or, not_and_or] at hno
    obtain ⟨h1, h5, hlast⟩ := hno
    have hlate : ∀ n, n = 6 ∨ n = 7 ∨ n = 8 → ¬ (decide (s.rd PWR_STATUS.STATE = n) && decide (s.rd PWR_STATUS.PHASE = 5)) = true := by
      intro n hn
      rw [Bool.and_eq_true, decide_eq_true_eq, decide_eq_true_eq]
      rintro ⟨hs, hp⟩
      rcases hlast with hl | hl
      · exact hl hp
      · omega
    rw [if_neg h1, if_neg h5, if_neg (hlate 6 (by omega)), if_neg (hlate 8 (by omega)), if_neg (hlate 7 (by omega))]

theorem State.transitionEnd_ends {c : PwrCmd} (hc : s.pwr.run = some c) (h : s.ends) : s.transitionEnd = s.pwrEnd c s.arrived := by
  unfold State.transitionEnd
  rw [hc]
  dsimp only
  unfold State.arrived
  by_cases h1 : s.rd PWR_STATUS.STATE = 1
  · rw [if_pos h1, if_pos h1]
  by_cases h5 : s.rd PWR_STATUS.STATE = 5
  · rw [if_neg h1, if_pos h5, if_neg h1, if_pos h5]
  obtain ⟨hlast, hst⟩ := (h.resolve_left h1).resolve_left h5
  rw [if_neg h1, if_neg h5, if_neg h1, if_neg h5, decide_eq_true hlast, Bool.and_true, Bool.and_true, Bool.and_true]
  simp only [decide_eq_true_eq]
  rcases hst with h6 | h7 | h8
  · rw [if_pos h6, if_pos h6]
    rfl
  · have h6' : ¬ s.rd PWR_STATUS.STATE = 6 := by omega
    have h8' : ¬ s.rd PWR_STATUS.STATE = 8 := by omega
    rw [if_neg h6', if_neg h8', if_neg h6', if_neg h8', if_pos h7]
    rfl
  · have h6' : ¬ s.rd PWR_STATUS.STATE = 6 := by omega
    rw [if_neg h6', if_pos h8, if_neg h6', if_pos h8]
    rfl

theorem State.pwrEnd_eq (hp : s.pwr.pend = none) (c : PwrCmd) (u : State) : s.pwrEnd c u = (s.over u).pwrDone c stOk rsnNone := by
  have hpwr : (s.over u).pwr = { s.pwr with run := none } := State.wr_pwr ..
  have hform : s.pwrEnd c u = ((s.over u).pwrDone c stOk rsnNone).pwrNext := rfl
  rw [hform, State.pwrNext_none]
  rw [((s.over u).pwrDone_run c stOk rsnNone).2, hpwr]
  exact hp

theorem State.over_shown (u : State) : (s.over u).rd PWR_STATUS.PHASE = 0 ∧ (s.over u).rd PWR_STATUS.STATE = u.rd PWR_STATUS.STATE
    ∧ (s.over u).rd PWR_TIMES.ENTRY_US = u.rd PWR_TIMES.ENTRY_US ∧ (s.over u).rd PWR_TIMES.EXIT_US = u.rd PWR_TIMES.EXIT_US := by
  refine ⟨?_, ?_, ?_, ?_⟩
  · rw [State.over, State.rd_wr_same _ _ _ (by decide)]
    rfl
  · rw [State.over, State.rd_wr_apart _ _ (by decide)]
    rfl
  · rw [State.over, State.rd_wr_apart _ _ (by decide)]
    rfl
  · rw [State.over, State.rd_wr_apart _ _ (by decide)]
    rfl

theorem State.entered_shown {st : Nat} (h : st < 16) : (s.entered st).rd PWR_STATUS.STATE = st ∧ (s.entered st).rd PWR_TIMES.ENTRY_US = s.pwrUs := by
  constructor
  · rw [State.entered, State.rd_wr_apart _ _ (by decide), State.rd_wr_same _ _ _ (by decide)]
    exact Nat.mod_eq_of_lt h
  · rw [State.entered, State.rd_wr_same _ _ _ (by decide)]
    refine Nat.mod_eq_of_lt ?_
    rw [State.pwrUs]
    exact Nat.lt_of_le_of_lt (Nat.min_le_left ..) (by decide)

theorem State.exited_shown : s.exited.rd PWR_STATUS.STATE = 0 ∧ s.exited.rd PWR_TIMES.EXIT_US = s.pwrUs := by
  have hkept := (steady_resume ((s.wr PWR_STATUS.STATE 0).wr PWR_TIMES.EXIT_US s.pwrUs)).toPwrKept
  have hst : ((s.wr PWR_STATUS.STATE 0).wr PWR_TIMES.EXIT_US s.pwrUs).rd PWR_STATUS.STATE = 0 := by
    rw [State.rd_wr_apart _ _ (by decide), State.rd_wr_same _ _ _ (by decide)]
    rfl
  have hus : ((s.wr PWR_STATUS.STATE 0).wr PWR_TIMES.EXIT_US s.pwrUs).rd PWR_TIMES.EXIT_US = s.pwrUs := by
    rw [State.rd_wr_same _ _ _ (by decide)]
    refine Nat.mod_eq_of_lt ?_
    rw [State.pwrUs]
    exact Nat.lt_of_le_of_lt (Nat.min_le_left ..) (by decide)
  rw [State.exited, hkept.rd (by decide) (by decide) rfl, hkept.rd (f := PWR_TIMES.EXIT_US) (by decide) (by decide) rfl]
  exact ⟨hst, hus⟩

theorem State.arrived_state (h : s.ends) : s.arrived.rd PWR_STATUS.STATE =
    if s.rd PWR_STATUS.STATE = 6 then 2 else if s.rd PWR_STATUS.STATE = 8 then 3 else if s.rd PWR_STATUS.STATE = 1 then 1 else 0 := by
  unfold State.arrived
  by_cases h1 : s.rd PWR_STATUS.STATE = 1
  · rw [if_pos h1, if_neg (by omega), if_neg (by omega), if_pos h1, h1]
  by_cases h5 : s.rd PWR_STATUS.STATE = 5
  · rw [if_neg h1, if_pos h5, if_neg (by omega), if_neg (by omega), if_neg h1, State.rd_wr_same _ _ _ (by decide)]
    rfl
  obtain ⟨_, hst⟩ := (h.resolve_left h1).resolve_left h5
  rw [if_neg h1, if_neg h5]
  rcases hst with h6 | h7 | h8
  · rw [if_pos h6, if_pos h6]
    exact (s.entered_shown (by decide)).1
  · rw [if_neg (by omega), if_neg (by omega), if_neg (by omega), if_neg (by omega), if_neg h1]
    exact s.exited_shown.1
  · rw [if_neg (by omega), if_pos h8, if_neg (by omega), if_pos h8]
    exact (s.entered_shown (by decide)).1

/-- A transition into RETAIN or OFF_READY. -/
theorem State.arrived_entered (h : s.rd PWR_STATUS.STATE = 6 ∨ s.rd PWR_STATUS.STATE = 8) :
    ∃ st, st < 16 ∧ s.arrived = s.entered st := by
  unfold State.arrived
  rcases h with h | h
  · exact ⟨2, by decide, by rw [if_neg (by omega), if_neg (by omega), if_pos h]⟩
  · exact ⟨3, by decide, by rw [if_neg (by omega), if_neg (by omega), if_neg (by omega), if_pos h]⟩

theorem State.arrived_exited (h : s.rd PWR_STATUS.STATE = 7) : s.arrived = s.exited := by
  unfold State.arrived
  rw [if_neg (by omega), if_neg (by omega), if_neg (by omega), if_neg (by omega)]

theorem State.arrived_out (he : s.ends) (h : s.rd PWR_STATUS.STATE ≠ 7) : s.arrived.out = s.out := by
  unfold State.arrived
  by_cases h1 : s.rd PWR_STATUS.STATE = 1
  · rw [if_pos h1]
  by_cases h5 : s.rd PWR_STATUS.STATE = 5
  · rw [if_neg h1, if_pos h5]
    rfl
  obtain ⟨_, hst⟩ := (he.resolve_left h1).resolve_left h5
  rw [if_neg h1, if_neg h5]
  rcases hst with h6 | h7 | h8
  · rw [if_pos h6]
    rfl
  · exact absurd h7 h
  · rw [if_neg (by omega), if_pos h8]
    rfl

theorem onlyPwr_over {u : State} (h : OnlyPwr s u) : OnlyPwr s (s.over u) :=
  h.trans ((onlyPwr_withPwr u _).trans (onlyPwr_wr _ (f := PWR_STATUS.PHASE) 0 rfl))

theorem onlyPwr_arrived (h : s.rd PWR_STATUS.STATE = 1 ∨ s.rd PWR_STATUS.STATE = 5) : OnlyPwr s s.arrived := by
  unfold State.arrived
  rcases h with h | h
  · rw [if_pos h]
    exact OnlyPwr.refl s
  · rw [if_neg (by omega), if_pos h]
    exact onlyPwr_wr s (f := PWR_STATUS.STATE) 0 rfl

theorem transitionEnd_spec (s : State) :
    let st := s.rd PWR_STATUS.STATE
    let last := s.rd PWR_STATUS.PHASE = 5
    let ends := st = 1 ∨ st = 5 ∨ last ∧ (st = 6 ∨ st = 7 ∨ st = 8)
    let us := min 0xFFFF ((s.now - s.pwr.t0) / 1000)
    s.pwr.pend = none →
    ∃ t, exec (.transitionEnd) s = .next t ∧ (s.pwr.run = none ∨ ¬ ends → Untouched s t)
      ∧ (∀ c : PwrCmd, s.pwr.run = some c → ends → t.pwr.run = none ∧ t.rd PWR_STATUS.PHASE = 0 ∧ t.rd PWR_STATUS.STATE = (if st = 6 then
        2 else if st = 8 then 3 else if st = 1 then 1 else 0))
      ∧ (∀ c : PwrCmd, s.pwr.run = some c → ends → st = 6 ∨ st = 8 → t.rd PWR_TIMES.ENTRY_US = us ∧ t.coh = Coh.init ∧ t.stk.tags =
        s.stk.tags ∧ t.stk.beats = s.stk.beats ∧ t.ldg.master = s.ldg.master ∧ t.ldg.rows = [] ∧ t.front.inbox = [] ∧ t.por.xfers = [] ∧
        t.img.buf = [] ∧ t.cur.sram = [])
      ∧ (∀ c : PwrCmd, s.pwr.run = some c → ends → st = 7 → t.rd PWR_TIMES.EXIT_US = us)
      ∧ (∀ c : PwrCmd, s.pwr.run = some c → ends → st ≠ 7 → ∀ q : BitVec 8, c.seqOf = some q → t.out = [.budget (t.budgetWord 4 stOk q
        rsnNone s.capNow)] ∧ t.pwr.answers = s.pwr.answers ++ [t.budgetWord 4 stOk q rsnNone s.capNow])
      ∧ (∀ c : PwrCmd, s.pwr.run = some c → ends → st ≠ 7 → c.seqOf = none → t.out = [])
      ∧ (st = 1 ∨ st = 5 → OnlyRegs { s with pwr := t.pwr } t ∧ RegsBut [PWR_STATUS.word.off] s t) := by
  intro st last ends us hp
  have hexec : exec .transitionEnd s = .next s.begin.transitionEnd.settle := rfl
  have hbst : s.begin.rd PWR_STATUS.STATE = st := s.begin_rd rfl
  have hbph : s.begin.rd PWR_STATUS.PHASE = s.rd PWR_STATUS.PHASE := s.begin_rd rfl
  have hbpwr : s.begin.pwr = s.pwr := s.begin_pwr
  have hbends : s.begin.ends ↔ ends := by rw [State.ends, hbst, hbph]
  have hbus : s.begin.pwrUs = us := by rw [State.pwrUs, s.begin_now, hbpwr]
  have hcap : ∀ u : State, (s.begin.over u).capNow = s.capNow := fun u => by
    rw [State.capNow, State.over, State.wr_pwr, hbpwr]
    rfl
  have hrun : ∀ u : State, (s.begin.over u).pwr = { s.pwr with run := none } := fun u => by rw [State.over, State.wr_pwr, hbpwr]
  by_cases hw : s.pwr.run = none ∨ ¬ ends
  · rw [State.transitionEnd_waits s.begin (by rw [hbpwr, hbends]; exact hw)] at hexec
    have hno : ∀ c : PwrCmd, s.pwr.run = some c → ¬ ends := fun c hc he => hw.elim (fun hn => absurd (hn.symm.trans hc) (by simp)) (fun h => h he)
    exact ⟨_, hexec, fun _ => untouched_begin s, fun c hc he => absurd he (hno c hc), fun c hc he => absurd he (hno c hc),
      fun c hc he => absurd he (hno c hc), fun c hc he => absurd he (hno c hc), fun c hc he => absurd he (hno c hc),
      fun _ => (OnlyPwr.refl s.begin).frame⟩
  · obtain ⟨hr, he⟩ := not_or.mp hw
    obtain ⟨c, hc⟩ := Option.ne_none_iff_exists'.mp hr
    rw [not_not] at he
    rw [State.transitionEnd_ends s.begin (by rw [hbpwr]; exact hc) (hbends.mpr he), State.pwrEnd_eq s.begin (by rw [hbpwr]; exact hp)] at hexec
    have hend := s.begin.over_shown s.begin.arrived
    obtain ⟨hph, hst, hentry, hexit⟩ := hend
    refine ⟨_, hexec, fun h => absurd h hw, fun c' hc' _ => ⟨?_, ?_, ?_⟩, fun c' hc' _ h68 => ?_, fun c' hc' _ h7 => ?_, fun c' hc' _ h7 q hq => ?_,
      fun c' hc' _ h7 hq => ?_, fun h15 => ?_⟩
    · rw [State.settle_pwr, (State.pwrDone_run ..).1, hrun]
    · rw [State.rd_settle, State.rd_pwrDone, hph]
    · rw [State.rd_settle, State.rd_pwrDone, hst, State.arrived_state s.begin (hbends.mpr he), hbst]
    · obtain ⟨n, hn, hform⟩ := State.arrived_entered s.begin (by rw [hbst]; exact h68)
      obtain ⟨_, hus⟩ := s.begin.entered_shown hn
      have hsent := sentPwr_pwrDone (s.begin.over s.begin.arrived) c stOk rsnNone
      have hdown : PoweredDown s (s.begin.over s.begin.arrived) := by
        obtain ⟨h1, h2, h3, h4, h5, h6, h7, h8, h9⟩ := poweredDown_powerDown s.begin
        rw [hform]
        exact ⟨h1, h2.trans (by rw [State.begin_stk]), h3.trans (by rw [State.begin_stk]), h4.trans (by rw [State.begin_ldg]), h5, h6, h7, h8, h9⟩
      obtain ⟨h1, h2, h3, h4, h5, h6, h7, h8, h9⟩ := hdown
      have hsame : ∀ u v : State, OnlyPwr u v → v.coh = u.coh ∧ v.stk = u.stk ∧ v.ldg = u.ldg ∧ v.front = u.front ∧ v.por = u.por
          ∧ v.img = u.img ∧ v.cur = u.cur := fun u v h => by
        rw [h.only]
        exact ⟨rfl, rfl, rfl, rfl, rfl, rfl, rfl⟩
      obtain ⟨k1, k2, k3, k4, k5, k6, k7⟩ := hsame _ _ (onlyPwr_pwrDone (s.begin.over s.begin.arrived) c stOk rsnNone)
      refine ⟨?_, k1.trans h1, ?_, ?_, ?_, ?_, ?_, ?_, ?_, ?_⟩
      · rw [State.rd_settle, State.rd_pwrDone, hentry, hform, hus, hbus]
      · rw [State.settle_stk, k2, h2]
      · rw [State.settle_stk, k2, h3]
      · rw [State.settle_ldg, k3, h4]
      · rw [State.settle_ldg, k3, h5]
      · rw [State.settle_front, k4, h6]
      · rw [State.settle_por, k5, h7]
      · rw [State.settle_img, k6, h8]
      · rw [State.settle_cur, k7, h9]
    · rw [State.rd_settle, State.rd_pwrDone, hexit, State.arrived_exited s.begin (by rw [hbst]; exact h7), s.begin.exited_shown.2, hbus]
    · obtain rfl : c = c' := Option.some_inj.mp (hc.symm.trans hc')
      have hout : (s.begin.over s.begin.arrived).out = [] := by
        have h := State.arrived_out s.begin (hbends.mpr he) (by rw [hbst]; exact h7)
        rw [State.begin_out] at h
        exact h
      have hpwr := hrun s.begin.arrived
      have hcap' := hcap s.begin.arrived
      generalize s.begin.over s.begin.arrived = u at hout hpwr hcap'
      rw [u.pwrDone_msg hq, hcap', State.budgetSend_eq]
      have hsame (as : List (BitVec 128)) (os : List Out) :
          SameBudget (State.settle { u with pwr := { u.pwr with answers := as }, out := os }) u := ⟨rfl, fun _ _ => rfl, rfl, rfl, rfl⟩
      rw [(hsame _ _).budgetWord, State.settle_out, State.settle_pwr, hout, hpwr]
      exact ⟨rfl, rfl⟩
    · obtain rfl : c = c' := Option.some_inj.mp (hc.symm.trans hc')
      have hout := State.arrived_out s.begin (hbends.mpr he) (by rw [hbst]; exact h7)
      rw [State.begin_out] at hout
      rw [State.pwrDone_quiet _ hq]
      exact hout
    · have honly := onlyPwr_over s.begin (onlyPwr_arrived s.begin (by rw [hbst]; exact h15))
      exact (honly.trans (onlyPwr_pwrDone _ c stOk rsnNone)).frame

/-! ### The supplies -/

/-- The slice without power, but for the inputs and the queue, is as reset leaves it. -/
def State.unpoweredOf (s : State) : State :=
  { State.resetOf s.s64 with
    pins := { (State.resetOf s.s64).pins with
      ns := s.pins.ns, wrap := s.pins.wrap, peerLive := s.pins.peerLive, dbgEn := s.pins.dbgEn, fpReady := s.pins.fpReady, straps := s.pins.straps }
    freeCtr := s.freeCtr
    pending := s.pending }

theorem State.begin_unpowered : s.begin.unpowered = s.unpoweredOf := by
  have hfree : s.begin.freeCtr = s.freeCtr := s.begin_freeCtr
  have hpend : s.begin.pending = s.pending := s.begin_pending
  unfold State.unpowered State.unpoweredOf
  rw [State.begin_s64, State.begin_pins, hfree, hpend]

theorem unpowered_settled : (s.begin.unpowered).settle.out = [] ∧ OnlyRegs s.unpoweredOf (s.begin.unpowered).settle
    ∧ (s.begin.unpowered).settle.regs = (State.resetOf s.s64).regs := by
  rw [State.begin_unpowered]
  exact ⟨rfl, onlyRegs_settle rfl rfl rfl rfl rfl rfl rfl rfl rfl rfl rfl rfl rfl rfl rfl rfl rfl rfl rfl rfl rfl rfl rfl, rfl⟩

theorem retentionSupplyLoss_spec (s : State) :
    let r := State.resetOf s.s64
    ∃ t, exec (.retentionSupplyLoss) s = .next t ∧ (s.rd PWR_STATUS.STATE ≠ 2 → Untouched s t)
      ∧ (s.rd PWR_STATUS.STATE = 2 → t.out = [] ∧ OnlyRegs
        { r with pins := { r.pins with ns := s.pins.ns, wrap := s.pins.wrap, peerLive := s.pins.peerLive, dbgEn := s.pins.dbgEn, fpReady := s.pins.fpReady, straps := s.pins.straps }, freeCtr := s.freeCtr, pending := s.pending }
        t ∧ t.regs = r.regs) := by
  intro r
  have hexec : exec .retentionSupplyLoss s = .next (if s.begin.rd PWR_STATUS.STATE = 2 then s.begin.unpowered else s.begin).settle := rfl
  rw [s.begin_rd (f := PWR_STATUS.STATE) rfl] at hexec
  by_cases h : s.rd PWR_STATUS.STATE = 2
  · rw [if_pos h] at hexec
    exact ⟨_, hexec, fun hn => absurd h hn, fun _ => unpowered_settled s⟩
  · rw [if_neg h] at hexec
    exact ⟨_, hexec, fun _ => untouched_begin s, fun h2 => absurd h2 h⟩

/-- Settles O54: commands and their refusals, DOZE, the phases of entry and exit, their ends, and the loss of the supplies. -/
theorem powerCommands : Obligations.PowerCommands :=
  ⟨pwrCmd_spec, dozeEnter_spec, dozeTimeout_spec, dozeWake_spec, retainEntryPhase_spec, retainExitPhase_spec, transitionEnd_spec,
    fun s => ⟨_, rfl, unpowered_settled s⟩, retentionSupplyLoss_spec⟩

end Sys2Proof.Machine
end

section
/-! O53: a link that is lost, the mainband of a UCIe link, and the time for its capability message (R361, R417, R419). -/

namespace Sys2Proof.Machine

/-! ### Bits of a field -/

theorem testBit_sub_two_pow {y k : Nat} (h : y.testBit k = true) (j : Nat) : (y - 2 ^ k).testBit j = (decide (j ≠ k) && y.testBit j) := by
  induction k generalizing y j with
  | zero =>
    rw [Nat.testBit_zero, decide_eq_true_eq] at h
    cases j with
    | zero => rw [Nat.testBit_zero]; simp; omega
    | succ j =>
      have hhalf : (y - 2 ^ 0) / 2 = y / 2 := by omega
      rw [Nat.testBit_succ, Nat.testBit_succ, hhalf]
      simp
  | succ k ih =>
    rw [Nat.testBit_succ] at h
    have hle : 2 ^ k ≤ y / 2 := Nat.ge_two_pow_of_testBit h
    cases j with
    | zero =>
      have hpar : (y - 2 ^ (k + 1)) % 2 = y % 2 := by rw [Nat.pow_succ]; omega
      rw [Nat.testBit_zero, Nat.testBit_zero, hpar]
      simp
    | succ j =>
      have hhalf : (y - 2 ^ (k + 1)) / 2 = y / 2 - 2 ^ k := by rw [Nat.pow_succ]; omega
      rw [Nat.testBit_succ, Nat.testBit_succ, hhalf, ih h]
      simp

variable (s : State)

theorem State.bit_setBit {f : Field} (hf : f.lo + f.w ≤ 32) {k : Nat} (hk : k < f.w) (b : Bool) (j : Nat) :
    (s.setBit f k b).bit f j = if j = k then b else s.bit f j := by
  have hset : (s.rd f ||| 2 ^ k) < 2 ^ f.w := Nat.or_lt_two_pow (s.rdI_lt f 0) (Nat.pow_lt_pow_right (by decide) hk)
  have hat : (s.rd f ||| 2 ^ k).testBit k = true := by rw [Nat.testBit_or, Nat.testBit_two_pow_self, Bool.or_true]
  have hor : (s.rd f ||| 2 ^ k).testBit j = if j = k then true else s.bit f j := by
    split
    · rename_i hj
      rw [hj]
      exact hat
    · rename_i hj
      rw [Nat.testBit_or, Nat.testBit_two_pow_of_ne (Ne.symm hj), Bool.or_false]
      rfl
  rw [State.bit, State.setBit, State.rd_wr_same _ _ _ hf]
  cases b
  · rw [if_neg (by decide), Nat.mod_eq_of_lt (Nat.lt_of_le_of_lt (Nat.sub_le ..) hset), testBit_sub_two_pow hat, hor]
    by_cases hj : j = k <;> simp [hj]
  · rw [if_pos rfl, Nat.mod_eq_of_lt hset, hor]

theorem State.bit_congr {s t : State} {f : Field} (h : s.rd f = t.rd f) (k : Nat) : s.bit f k = t.bit f k := by rw [State.bit, State.bit, h]

theorem State.flagI_congr {s t : State} {f : Field} (i : Nat) (h : s.word (f.off + f.stride * i) = t.word (f.off + f.stride * i)) :
    s.flagI f i = t.flagI f i := by rw [State.flagI, State.flagI, State.rdI_congr f i h]

/-- A link's bit in LNK_STATUS and its count of failed trainings do not meet those of another. -/
theorem apart_linkFailField {m n : Nat} (h : m ≠ n) : Apart (linkFailField m) (linkFailField n) := by
  refine Or.inr ?_
  simp only [linkFailField]
  omega

theorem apart_linkFail_off {f : Field} (h : f.off ≠ 0x0100C) (n : Nat) : Apart (linkFailField n) f := Or.inl h

/-! ### A link that is lost -/

/-- At most registers and the fault log change. -/
def OnlyFault (s u : State) : Prop := u = { s with regs := u.regs, err := u.err }

theorem OnlyFault.trans {s t u : State} (hst : OnlyFault s t) (htu : OnlyFault t u) : OnlyFault s u := by
  unfold OnlyFault at *
  rw [htu, hst]

theorem OnlyRegFile.onlyFault {s u : State} (h : OnlyRegFile s u) : OnlyFault s u := by
  unfold OnlyRegFile at h
  rw [h]
  rfl

theorem onlyFault_fault (cls code sev detail : Nat) (loc : Option LineAddr) (status kind src : Nat) (irq : Bool) :
    OnlyFault s (s.fault cls code sev detail loc status kind src irq) := s.fault_eq ..

/-- What a fault on a link changes in the end. -/
theorem OnlyFault.onlyRegs {u : State} (h : OnlyFault s.begin u) : OnlyRegs { s with err := u.settle.err } u.settle := by
  unfold OnlyFault at h
  generalize u.regs = R, u.err = E at h
  subst h
  apply onlyRegs_settle <;> simp

/-- The registers in which a link's loss shows. -/
def lostRegs : List Nat := LNK_STATUS.word.off :: (faultRegs 10 ++ dbkRegs)

theorem lostRegs_dbk {k : Nat} (h : k ∉ lostRegs) : k ≠ LNK_STATUS.word.off ∧ k ∉ faultRegs 10 ∧ k ∉ dbkRegs ∧ k ≠ DBK_LINK_FAILS.word.off
    ∧ k ≠ DBK_DEGRADED.word.off := by
  rw [lostRegs, List.mem_cons, List.mem_append, not_or, not_or] at h
  obtain ⟨hst, hf, hd⟩ := h
  refine ⟨hst, hf, hd, ?_, ?_⟩ <;> rintro rfl <;> exact hd (by simp [dbkRegs])

/-- A link shown down. -/
def State.shownDown (s : State) (n : Nat) : State := (s.setBit LNK_STATUS.UP n false).setBit LNK_STATUS.HALF n false

/-- A link whose training failed, before its entry. -/
def State.countFailed (s : State) (n : Nat) : State := ((s.bump (linkFailField n)).setBit DBK_DEGRADED.LINKS n true).shownDown n

theorem State.linkFails_eq (n outcome : Nat) : s.linkFails n outcome = (s.countFailed n).daybook outcome 6 0x60 n := rfl

theorem onlyRegFile_shownDown (n : Nat) : OnlyRegFile s (s.shownDown n) := rfl

theorem onlyRegFile_linkFails (n outcome : Nat) : OnlyRegFile s (s.linkFails n outcome) :=
  OnlyRegFile.trans (t := s.countFailed n) rfl (onlyRegFile_daybook ..)

theorem State.shownDown_bit {n : Nat} (hn : n < 8) (j : Nat) : (s.shownDown n).bit LNK_STATUS.UP j = (decide (j ≠ n) && s.bit LNK_STATUS.UP j)
    ∧ (s.shownDown n).bit LNK_STATUS.HALF j = (decide (j ≠ n) && s.bit LNK_STATUS.HALF j) := by
  constructor
  · rw [State.shownDown, State.bit_congr (State.rd_setBit_apart _ n false (by decide)) j, State.bit_setBit _ (by decide) hn]
    by_cases hj : j = n <;> simp [hj]
  · rw [State.shownDown, State.bit_setBit _ (by decide) hn, State.bit_congr (State.rd_setBit_apart _ n false (by decide)) j]
    by_cases hj : j = n <;> simp [hj]

theorem State.word_shownDown {k : Nat} (h : k ≠ LNK_STATUS.word.off) (n : Nat) : (s.shownDown n).word k = s.word k := by
  rw [State.shownDown, State.word_setBit, if_neg h, State.word_setBit, if_neg h]

theorem State.rd_shownDown {f : Field} (h : f.off ≠ LNK_STATUS.word.off) (hs : f.stride = 0) (n : Nat) : (s.shownDown n).rd f = s.rd f :=
  State.rdI_congr f 0 (s.word_shownDown (by rw [hs]; simpa using h) n)

/-- An entry of the Daybook leaves the counts of failed trainings. -/
theorem State.rd_daybook_linkFail (n outcome step cause detail : Nat) :
    (s.daybook outcome step cause detail).rd (linkFailField n) = s.rd (linkFailField n) :=
  State.rdI_congr _ 0 (s.word_daybook_other _ _ _ _ (by simp [linkFailField]) (by simp [linkFailField]; omega) (by simp [linkFailField]; omega))

theorem State.linkFails_counts {n : Nat} (hn : n < 8) (outcome m : Nat) : (s.linkFails n outcome).rd (linkFailField m) =
    if m = n then min 3 (s.rd (linkFailField n) + 1) else s.rd (linkFailField m) := by
  rw [State.linkFails_eq, State.rd_daybook_linkFail, State.countFailed, State.rd_shownDown _ (by simp [linkFailField]) rfl,
    State.rd_setBit_apart _ _ _ (Or.inl (by simp [linkFailField]))]
  split
  · rename_i hm
    rw [hm, State.rd_bump_same _ _ _ (by simp only [linkFailField]; omega), Nat.min_comm]
    rfl
  · rename_i hm
    exact State.rd_bump_apart _ _ (apart_linkFailField (Ne.symm hm))

theorem State.linkFails_bit {n : Nat} (hn : n < 8) (outcome j : Nat) :
    (s.linkFails n outcome).bit LNK_STATUS.UP j = (decide (j ≠ n) && s.bit LNK_STATUS.UP j)
    ∧ (s.linkFails n outcome).bit LNK_STATUS.HALF j = (decide (j ≠ n) && s.bit LNK_STATUS.HALF j) := by
  have hlnk : LNK_STATUS.word.off ∉ dbkRegs := by decide
  have hform := ((s.bump (linkFailField n)).setBit DBK_DEGRADED.LINKS n true).shownDown_bit hn j
  have hkept (f : Field) (hf : f.off = LNK_STATUS.word.off) : ((s.bump (linkFailField n)).setBit DBK_DEGRADED.LINKS n true).rd f = s.rd f := by
    rw [State.rd_setBit_apart _ _ _ (Or.inl (by rw [hf]; decide)), State.rd_bump_apart _ _ (Or.inl (by rw [hf]; simp [linkFailField]))]
  rw [State.bit_congr (hkept LNK_STATUS.UP rfl) j, State.bit_congr (hkept LNK_STATUS.HALF rfl) j] at hform
  rw [State.linkFails_eq, State.bit_congr (State.rd_daybook _ (f := LNK_STATUS.UP) hlnk rfl ..) j,
    State.bit_congr (State.rd_daybook _ (f := LNK_STATUS.HALF) hlnk rfl ..) j]
  exact hform

theorem State.word_linkFails {k : Nat} (h : k ∉ lostRegs) (n outcome : Nat) : (s.linkFails n outcome).word k = s.word k := by
  obtain ⟨hst, _, hd, hf, hg⟩ := lostRegs_dbk h
  rw [State.linkFails_eq, State.word_daybook _ hd, State.countFailed, State.word_shownDown _ hst, State.word_setBit, if_neg hg,
    State.word_bump]
  exact if_neg hf

theorem State.linkLost_eq (n : Nat) : s.linkLost n = if s.atStep 6 then s.linkFails n ocAlt
    else if s.bit LNK_STATUS.UP n then (s.shownDown n).fault 10 1 2 (detail := n) (srcKind := 3) (srcId := n) else s := rfl

theorem onlyFault_linkLost (n : Nat) : OnlyFault s (s.linkLost n) := by
  rw [State.linkLost_eq]
  split
  · exact (onlyRegFile_linkFails s n ocAlt).onlyFault
  · split
    · exact (onlyRegFile_shownDown s n).onlyFault.trans (onlyFault_fault ..)
    · rfl

theorem State.word_linkLost {k : Nat} (h : k ∉ lostRegs) (n : Nat) : (s.linkLost n).word k = s.word k := by
  obtain ⟨hst, hf, hd, _⟩ := lostRegs_dbk h
  rw [State.linkLost_eq]
  split
  · exact s.word_linkFails h ..
  · split
    · rw [State.word_fault _ _ _ _ _ _ _ _ _ _ _ hf, State.word_shownDown _ hst]
    · rfl

theorem State.linkLost_down {n : Nat} (hn : n < 8) : (s.linkLost n).bit LNK_STATUS.UP n = false := by
  rw [State.linkLost_eq]
  split
  · rw [(s.linkFails_bit hn ..).1]
    simp
  · split
    · rw [State.bit_congr (State.rd_fault _ (by decide) rfl ..) n, (s.shownDown_bit hn n).1]
      simp
    · rename_i h
      exact Bool.eq_false_iff.mpr h

theorem State.linkLost_counts {n : Nat} (hn : n < 8) (h : s.atStep 6 = true) :
    (s.linkLost n).rd (linkFailField n) = min 3 (s.rd (linkFailField n) + 1) := by
  rw [State.linkLost_eq, if_pos h, s.linkFails_counts hn, if_pos rfl]

/-! ### The time for a capability message -/

theorem State.begin_atStep (n : Nat) : s.begin.atStep n = s.atStep n := by
  rw [State.atStep, State.atStep, State.begin_rd s (f := SLC_START.STEP) rfl, State.begin_rd s (f := SLC_START.STATE) rfl]

theorem State.atStep_congr {s t : State} (h : s.word SLC_START.word.off = t.word SLC_START.word.off) (n : Nat) : s.atStep n = t.atStep n := by
  rw [State.atStep, State.atStep, State.rd, State.rdI_congr SLC_START.STEP 0 h, State.rd, State.rdI_congr SLC_START.STATE 0 h]
  rfl

/-- A UCIe link that no longer counts as trained. -/
def State.ucieLost (s : State) (n : Nat) : State := (s.setFlagI LNK_UCIE.VALID (n - 5) false).linkLost n

theorem onlyFault_ucieLost (n : Nat) : OnlyFault s (s.ucieLost n) :=
  OnlyFault.trans (t := s.setFlagI LNK_UCIE.VALID (n - 5) false) rfl (onlyFault_linkLost ..)

theorem State.word_ucieLost {n k : Nat} (hk : k ≠ LNK_UCIE.word.off + LNK_UCIE.word.stride * (n - 5)) (h : k ∉ lostRegs) :
    (s.ucieLost n).word k = s.word k := by
  rw [State.ucieLost, State.word_linkLost _ h, State.word_setFlagI, if_neg hk]

theorem ucie_not_lost {n : Nat} (hn : n < 3) : LNK_UCIE.word.off + LNK_UCIE.word.stride * n ∉ lostRegs := by
  interval_cases n <;> decide

theorem State.ucieLost_shown {n : Nat} (hn : n < 8) : (s.ucieLost n).flagI LNK_UCIE.VALID (n - 5) = false
    ∧ (s.ucieLost n).bit LNK_STATUS.UP n = false
    ∧ (s.atStep 6 = true → (s.ucieLost n).rd (linkFailField n) = min 3 (s.rd (linkFailField n) + 1)) := by
  refine ⟨?_, State.linkLost_down _ hn, fun h => ?_⟩
  · rw [State.ucieLost, State.flagI_congr (f := LNK_UCIE.VALID) (n - 5) (State.word_linkLost _ (ucie_not_lost (by omega)) n), State.flagI,
      State.setFlagI, State.rdI_wrI_same _ _ _ _ (by decide)]
    rfl
  · have hstep : (s.setFlagI LNK_UCIE.VALID (n - 5) false).atStep 6 = true := by
      rw [← h]
      exact State.atStep_congr ((State.word_setFlagI ..).trans (if_neg (by simp only; omega))) 6
    rw [State.ucieLost, State.linkLost_counts _ hn hstep, State.rd, State.setFlagI,
      State.rdI_wrI_other _ _ _ _ _ _ (by simp only [linkFailField]; omega)]
    rfl

/-- The frame of a lost UCIe link, as a command leaves it. -/
theorem ucieLost_frame (s : State) (n : Nat) : (s.begin.ucieLost n).settle.out = [] ∧ OnlyRegs { s with err := (s.begin.ucieLost n).settle.err }
    (s.begin.ucieLost n).settle ∧ RegsBut ([LNK_UCIE.word.off + LNK_UCIE.word.stride * (n - 5), LNK_STATUS.word.off] ++ faultRegs 10 ++ dbkRegs)
      s (s.begin.ucieLost n).settle := by
  have honly := onlyFault_ucieLost s.begin n
  have hout : (s.begin.ucieLost n).out = [] := by
    unfold OnlyFault at honly
    rw [honly]
    exact s.begin_out
  refine ⟨hout, honly.onlyRegs, fun k hk hp => ?_⟩
  have hlost : k ≠ LNK_UCIE.word.off + LNK_UCIE.word.stride * (n - 5) ∧ k ∉ lostRegs := by
    simp only [List.cons_append, List.nil_append, List.mem_cons, not_or] at hk
    simp only [lostRegs, List.mem_cons, not_or]
    exact hk
  exact (s.begin.word_ucieLost hlost.1 hlost.2).trans (s.word_begin k hp)

theorem capabilityTimeout_spec (s : State) (link : BitVec 3) :
    let n := link.toNat
    let due := (n = 5 ∨ n = 6) ∧ s.flagI LNK_UCIE.VALID (n - 5) = true ∧ s.flagI LNK_UCIE.CAP_RX (n - 5) = false
    ∃ t, exec (.capabilityTimeout link) s = .next t ∧ (¬ due → Untouched s t)
      ∧ (due → t.flagI LNK_UCIE.VALID (n - 5) = false ∧ (s.bit LNK_STATUS.UP n = true → t.bit LNK_STATUS.UP n = false))
      ∧ (due → s.atStep 6 = true → t.rd (linkFailField n) = min 3 (s.rd (linkFailField n) + 1))
      ∧ t.out = []
      ∧ OnlyRegs { s with err := t.err } t
      ∧ RegsBut ([LNK_UCIE.word.off + LNK_UCIE.word.stride * (n - 5), LNK_STATUS.word.off] ++ faultRegs 10 ++ dbkRegs) s t := by
  intro n due
  have hn : n < 8 := link.isLt
  have hucie (f : Field) (hf : f.off = LNK_UCIE.word.off) (hs : f.stride = 4) : s.begin.flagI f (n - 5) = s.flagI f (n - 5) := by
    refine State.flagI_congr _ (s.word_begin _ ?_)
    rw [hf, hs]
    simp only [pmuBlock, Bool.and_eq_false_imp, decide_eq_true_eq, decide_eq_false_iff_not]
    omega
  have hexec : exec (.capabilityTimeout link) s = .next (if due then s.begin.ucieLost n else s.begin).settle := by
    have hform : exec (.capabilityTimeout link) s = .next (s.begin.capTimeout n).settle := rfl
    rw [hform, State.capTimeout, hucie LNK_UCIE.VALID rfl rfl, hucie LNK_UCIE.CAP_RX rfl rfl]
    congr 2
    by_cases hd : due
    · rw [if_pos hd, if_pos (by simpa [due, and_assoc] using hd)]
      rfl
    · rw [if_neg hd, if_neg (by simpa [due, and_assoc] using hd)]
  by_cases hd : due
  · rw [if_pos hd] at hexec
    obtain ⟨hout, honly, hregs⟩ := ucieLost_frame s n
    obtain ⟨hv, hup, hcnt⟩ := s.begin.ucieLost_shown hn
    refine ⟨_, hexec, fun h => absurd hd h, fun _ => ⟨hv, fun _ => hup⟩, fun _ h => ?_, hout, honly, hregs⟩
    exact (hcnt (by rw [State.begin_atStep, h])).trans (by rw [State.begin_rd s (f := linkFailField n) rfl])
  · rw [if_neg hd] at hexec
    have hu := untouched_begin s
    refine ⟨_, hexec, fun _ => hu, fun h => absurd h hd, fun h => absurd h hd, ?_, ?_, ?_⟩
    · exact s.begin_out
    · exact OnlyFault.onlyRegs s (u := s.begin) rfl
    · exact fun k _ hp => s.word_begin k hp

/-! ### The mainband of a UCIe link -/

theorem State.capSend_of_uninjected {n : Nat} (h : Uninjected s n) : s.capSend n = s.emit (.capability n (s.capMsg n)) := by
  unfold State.capSend
  extract_lets k
  split
  · rfl
  · rw [s.inject_of_uninjected h]

theorem State.capMsg_congr {s t : State} (h64 : s.s64 = t.s64) (h : ∀ f ∈ [SLC_CAP.FEAT_MAX, SLC_FEAT.RUN_LEVEL, SLC_ID.COORD], s.rd f = t.rd f)
    (n : Nat) : s.capMsg n = t.capMsg n := by
  unfold State.capMsg
  rw [h64, h SLC_CAP.FEAT_MAX (by simp), h SLC_FEAT.RUN_LEVEL (by simp), h SLC_ID.COORD (by simp)]

/-- The mainband as LNK_UCIE and LNK_STATUS show it. -/
def State.ucieShown (s : State) (n : Nat) (pkg : Bool) (rate width frame : Nat) (half : Bool) : State :=
  (((((((s.setFlagI LNK_UCIE.VALID (n - 5) true).setFlagI LNK_UCIE.CAP_RX (n - 5) false).setFlagI LNK_UCIE.PKG (n - 5) pkg).wrI
    LNK_UCIE.RATE (n - 5) rate).wrI LNK_UCIE.WIDTH (n - 5) width).wrI LNK_UCIE.FRAME_64B (n - 5) frame)).setBit LNK_STATUS.HALF n half

theorem State.ucieActive_eq (mirror advanced : Bool) (rate width : Nat) : s.ucieActive mirror advanced rate width =
    match ucieFrame advanced rate width with
    | none => s.ucieLost (if mirror then 6 else 5)
    | some x => (s.ucieShown (if mirror then 6 else 5) advanced rate width x.1 x.2).capSend (if mirror then 6 else 5) := by
  unfold State.ucieActive
  extract_lets n k
  split <;> rename_i h
  · rw [h] <;> rfl
  · rw [h] <;> rfl

theorem onlyRegFile_ucieShown (n : Nat) (pkg : Bool) (rate width frame : Nat) (half : Bool) :
    OnlyRegFile s (s.ucieShown n pkg rate width frame half) := by
  unfold State.ucieShown
  refine OnlyRegFile.trans ?_ (onlyRegFile_wrI _ _ 0 _)
  refine OnlyRegFile.trans ?_ (onlyRegFile_wrI _ _ _ _)
  refine OnlyRegFile.trans ?_ (onlyRegFile_wrI _ _ _ _)
  refine OnlyRegFile.trans ?_ (onlyRegFile_wrI _ _ _ _)
  refine OnlyRegFile.trans ?_ (onlyRegFile_wrI _ _ _ _)
  exact OnlyRegFile.trans (onlyRegFile_wrI _ _ _ _) (onlyRegFile_wrI _ _ _ _)

theorem State.word_ucieShown {n k : Nat} (hk : k ≠ LNK_UCIE.word.off + LNK_UCIE.word.stride * (n - 5)) (hst : k ≠ LNK_STATUS.word.off)
    (pkg : Bool) (rate width frame : Nat) (half : Bool) : (s.ucieShown n pkg rate width frame half).word k = s.word k := by
  rw [State.ucieShown, State.word_setBit, if_neg hst, State.word_wrI, if_neg hk, State.word_wrI, if_neg hk, State.word_wrI, if_neg hk,
    State.word_setFlagI, if_neg hk, State.word_setFlagI, if_neg hk, State.word_setFlagI, if_neg hk]

/-- A field of LNK_UCIE after a write of another field of it. -/
theorem State.rdI_ucie_other {f g : Field} (i v : Nat) (h : g.lo + g.w ≤ f.lo ∨ f.lo + f.w ≤ g.lo) : (s.wrI f i v).rdI g i = s.rdI g i :=
  s.rdI_wrI_field f g i i v h

theorem State.ucieShown_fields {n : Nat} (hn : n < 8) (pkg : Bool) (rate width frame : Nat) (half : Bool) (u : State)
    (hu : u = s.ucieShown n pkg rate width frame half) :
    u.rdI LNK_UCIE.VALID (n - 5) = 1 ∧ u.rdI LNK_UCIE.CAP_RX (n - 5) = 0 ∧ u.rdI LNK_UCIE.PKG (n - 5) = pkg.toNat
    ∧ u.rdI LNK_UCIE.RATE (n - 5) = rate % 2 ^ LNK_UCIE.RATE.w ∧ u.rdI LNK_UCIE.WIDTH (n - 5) = width % 2 ^ LNK_UCIE.WIDTH.w
    ∧ u.rdI LNK_UCIE.FRAME_64B (n - 5) = frame % 2 ^ LNK_UCIE.FRAME_64B.w ∧ u.bit LNK_STATUS.HALF n = half := by
  have hst (f : Field) (hf : f.off = LNK_UCIE.word.off) : f.off + f.stride * (n - 5) ≠ LNK_STATUS.HALF.off + LNK_STATUS.HALF.stride * 0 := by
    rw [hf]
    simp only
    omega
  refine ⟨?_, ?_, ?_, ?_, ?_, ?_, ?_⟩
  · rw [hu, State.ucieShown, State.setBit, State.wr, State.rdI_wrI_other _ _ _ _ _ _ (hst LNK_UCIE.VALID rfl),
      State.rdI_ucie_other _ _ _ (by decide), State.rdI_ucie_other _ _ _ (by decide), State.rdI_ucie_other _ _ _ (by decide), State.setFlagI,
      State.rdI_ucie_other _ _ _ (by decide), State.setFlagI, State.rdI_ucie_other _ _ _ (by decide), State.setFlagI,
      State.rdI_wrI_same _ _ _ _ (by decide)]
    rfl
  · rw [hu, State.ucieShown, State.setBit, State.wr, State.rdI_wrI_other _ _ _ _ _ _ (hst LNK_UCIE.CAP_RX rfl),
      State.rdI_ucie_other _ _ _ (by decide), State.rdI_ucie_other _ _ _ (by decide), State.rdI_ucie_other _ _ _ (by decide), State.setFlagI,
      State.rdI_ucie_other _ _ _ (by decide), State.setFlagI, State.rdI_wrI_same _ _ _ _ (by decide)]
    rfl
  · rw [hu, State.ucieShown, State.setBit, State.wr, State.rdI_wrI_other _ _ _ _ _ _ (hst LNK_UCIE.PKG rfl),
      State.rdI_ucie_other _ _ _ (by decide), State.rdI_ucie_other _ _ _ (by decide), State.rdI_ucie_other _ _ _ (by decide), State.setFlagI,
      State.rdI_wrI_same _ _ _ _ (by decide)]
    cases pkg <;> rfl
  · rw [hu, State.ucieShown, State.setBit, State.wr, State.rdI_wrI_other _ _ _ _ _ _ (hst LNK_UCIE.RATE rfl),
      State.rdI_ucie_other _ _ _ (by decide), State.rdI_ucie_other _ _ _ (by decide), State.rdI_wrI_same _ _ _ _ (by decide)]
  · rw [hu, State.ucieShown, State.setBit, State.wr, State.rdI_wrI_other _ _ _ _ _ _ (hst LNK_UCIE.WIDTH rfl),
      State.rdI_ucie_other _ _ _ (by decide), State.rdI_wrI_same _ _ _ _ (by decide)]
  · rw [hu, State.ucieShown, State.setBit, State.wr, State.rdI_wrI_other _ _ _ _ _ _ (hst LNK_UCIE.FRAME_64B rfl),
      State.rdI_wrI_same _ _ _ _ (by decide)]
  · rw [hu, State.ucieShown, State.bit_setBit _ (by decide) hn, if_pos rfl]

theorem State.uninjected_congr {s t : State} {n : Nat} (hw : s.word (LNK_INJ_CTL.EN.off + LNK_INJ_CTL.EN.stride * n) =
    t.word (LNK_INJ_CTL.EN.off + LNK_INJ_CTL.EN.stride * n)) (hf : s.front.inject = t.front.inject) (h : Uninjected s n) : Uninjected t n := by
  obtain ⟨hen, hheld⟩ := h
  refine ⟨(State.flagI_congr n hw).symm.trans hen, ?_⟩
  rw [State.injector, ← hf]
  exact hheld

theorem ucieMainbandActive_spec (s : State) (mirror advanced : Bool) (rate : BitVec 5) (width : BitVec 8) :
    let n := if mirror then 6 else 5
    let frame := ucieFrame advanced rate.toNat width.toNat
    Uninjected s n →
    ∃ t, exec (.ucieMainbandActive mirror advanced rate width) s = .next t ∧ (frame = none → t.flagI LNK_UCIE.VALID (n - 5) = false ∧
      (s.bit LNK_STATUS.UP n = true → t.bit LNK_STATUS.UP n = false) ∧ t.out = [])
      ∧ (∀ x : Nat × Bool, frame = some x → t.flagI LNK_UCIE.VALID (n - 5) = true ∧ t.flagI LNK_UCIE.CAP_RX (n - 5) = false ∧ t.flagI
        LNK_UCIE.PKG (n - 5) = advanced ∧ t.rdI LNK_UCIE.RATE (n - 5) = rate.toNat % 2 ^ LNK_UCIE.RATE.w ∧ t.rdI LNK_UCIE.WIDTH (n - 5) =
        width.toNat % 2 ^ LNK_UCIE.WIDTH.w ∧ t.rdI LNK_UCIE.FRAME_64B (n - 5) = x.1 % 2 ^ LNK_UCIE.FRAME_64B.w ∧ t.bit LNK_STATUS.HALF n
        = x.2 ∧ t.out = [.capability n (s.capMsg n)])
      ∧ t.stk = s.stk
      ∧ t.coh = s.coh
      ∧ t.mir = s.mir
      ∧ RegsBut ([LNK_UCIE.word.off + LNK_UCIE.word.stride * (n - 5), LNK_STATUS.word.off] ++ faultRegs 10 ++ dbkRegs) s t := by
  intro n frame hinj
  have hn : 5 ≤ n ∧ n < 7 := by
    simp only [n]
    split <;> omega
  have hexec : exec (.ucieMainbandActive mirror advanced rate width) s =
      .next (s.begin.ucieActive mirror advanced rate.toNat width.toNat).settle := rfl
  rw [State.ucieActive_eq] at hexec
  rcases Option.eq_none_or_eq_some frame with hf | ⟨x, hf⟩
  · rw [show ucieFrame advanced rate.toNat width.toNat = none from hf] at hexec
    obtain ⟨hout, honly, hregs⟩ := ucieLost_frame s n
    obtain ⟨hv, hup, _⟩ := s.begin.ucieLost_shown (n := n) (by omega)
    have hframe (t : State) (h : OnlyRegs { s with err := t.err } t) : t.stk = s.stk ∧ t.coh = s.coh ∧ t.mir = s.mir := by
      unfold OnlyRegs at h
      rw [h]
      exact ⟨rfl, rfl, rfl⟩
    obtain ⟨hstk, hcoh, hmir⟩ := hframe _ honly
    refine ⟨_, hexec, fun _ => ⟨hv, fun _ => hup, hout⟩, fun x hx => absurd (hf.symm.trans hx) (by simp), hstk, hcoh, hmir, hregs⟩
  · rw [show ucieFrame advanced rate.toNat width.toNat = some x from hf] at hexec
    have hfields := s.begin.ucieShown_fields (n := n) (by omega) advanced rate.toNat width.toNat x.1 x.2 _ rfl
    have honly := onlyRegFile_ucieShown s.begin n advanced rate.toNat width.toNat x.1 x.2
    have hword := fun k hk hst => s.begin.word_ucieShown (n := n) (k := k) hk hst advanced rate.toNat width.toNat x.1 x.2
    dsimp only at hexec
    change exec _ s = .next ((s.begin.ucieShown n advanced rate.toNat width.toNat x.1 x.2).capSend n).settle at hexec
    generalize s.begin.ucieShown n advanced rate.toNat width.toNat x.1 x.2 = u at hexec hfields honly hword
    obtain ⟨hv, hcap, hpkg, hrate, hwidth, hframe, hhalf⟩ := hfields
    have hrest : u.stk = s.stk ∧ u.coh = s.coh ∧ u.mir = s.mir ∧ u.out = [] ∧ u.s64 = s.s64 ∧ u.front = s.begin.front := by
      unfold OnlyRegFile at honly
      rw [honly]
      simp
    obtain ⟨hstk, hcoh, hmir, hout, h64, hfront⟩ := hrest
    have hu : Uninjected u n := State.uninjected_congr (hword _ (by simp only; omega) (by simp only; omega)).symm (by rw [hfront])
      (s.begin_uninjected (by omega) hinj)
    rw [u.capSend_of_uninjected hu] at hexec
    have hmsg : u.capMsg n = s.capMsg n := by
      refine State.capMsg_congr h64 (fun f hf => ?_) n
      have hlow : f.off < 0x28000 ∧ f.stride = 0 := by
        simp only [List.mem_cons, List.not_mem_nil, or_false] at hf
        rcases hf with rfl | rfl | rfl <;> decide
      refine State.rdI_congr f 0 ((hword _ (by simp only; omega) (by simp only; omega)).trans (s.word_begin _ ?_))
      simp only [pmuBlock, Bool.and_eq_false_imp, decide_eq_true_eq, decide_eq_false_iff_not]
      omega
    refine ⟨_, hexec, fun hnone => absurd (hf.symm.trans hnone) (by simp), fun y hy => ?_, hstk, hcoh, hmir, fun k hk hp => ?_⟩
    · obtain rfl : x = y := Option.some_inj.mp (hf.symm.trans hy)
      refine ⟨?_, ?_, ?_, hrate, hwidth, hframe, hhalf, ?_⟩
      · exact bne_iff_ne.mpr (by rw [State.rdI_settle, State.rdI_emit, hv]; decide)
      · rw [State.flagI, State.rdI_settle, State.rdI_emit, hcap]
        rfl
      · rw [State.flagI, State.rdI_settle, State.rdI_emit, hpkg]
        cases advanced <;> rfl
      · rw [State.settle_out, State.emit_out, hout, hmsg]
        rfl
    · simp only [List.cons_append, List.nil_append, List.mem_cons, not_or] at hk
      exact (hword k hk.1 hk.2.1).trans (s.word_begin k hp)

end Sys2Proof.Machine
end

section
/-! O53: what injectors hold back while messages are sent (R372), and the capability message (R304, R306). -/

namespace Sys2Proof.Machine

variable (s : State)

/-! ### No sending holds a received message back -/

/-- No injector holds a received message that it did not hold. -/
structure HoldsNoMore (s u : State) : Prop where
  held : ∀ (n c : Nat) (i : Instr), (u.injector n).held = some (c, .received i) → (s.injector n).held = some (c, .received i)

theorem HoldsNoMore.refl (s : State) : HoldsNoMore s s := ⟨fun _ _ _ h => h⟩

theorem HoldsNoMore.trans {s t u : State} (hst : HoldsNoMore s t) (htu : HoldsNoMore t u) : HoldsNoMore s u :=
  ⟨fun n c i h => hst.held n c i (htu.held n c i h)⟩

theorem holds_of {s u : State} (h : u.front.inject = s.front.inject) : HoldsNoMore s u := ⟨fun n c i hi => by
  rw [State.injector, h] at hi
  exact hi⟩

theorem State.injector_setInjector (n m : Nat) (i : Injector) : (s.setInjector n i).injector m = if m = n then i else s.injector m := by
  unfold State.injector State.setInjector
  unfold tget
  split
  · rename_i h
    rw [h, tfind_tset_same]
    rfl
  · rename_i h
    rw [tfind_tset_other _ _ h]

theorem holds_setInjector {n : Nat} {x : Injector} (h : ∀ c i, x.held = some (c, .received i) → (s.injector n).held = some (c, .received i)) :
    HoldsNoMore s (s.setInjector n x) := ⟨fun m c i hi => by
  rw [State.injector_setInjector] at hi
  split at hi
  · rename_i hm
    rw [hm]
    exact h c i hi
  · exact hi⟩

/-- A message that leaves is held, or none is. -/
theorem holds_sent (n : Nat) {x : Injector} (h : x.held = none ∨ ∃ c o, x.held = some (c, .sent o)) : HoldsNoMore s (s.setInjector n x) :=
  holds_setInjector s (fun c i hi => by
    rcases h with h | ⟨c', o, h⟩
    · rw [h] at hi
      exact absurd hi (by simp)
    · rw [h] at hi
      exact absurd hi (by simp))

theorem holds_setLink (n : Nat) (l : Link) : HoldsNoMore s (s.setLink n l) := holds_of rfl
theorem holds_emit (o : Out) : HoldsNoMore s (s.emit o) := holds_of rfl

theorem holds_event (code : Nat) (lane label : Option Nat) (inc : Nat) : HoldsNoMore s (s.event code lane label inc) := by
  have h := onlyPmu_event s code lane label inc
  unfold OnlyPmu at h
  rw [h]
  exact holds_of rfl

theorem holds_fault (cls code sev detail : Nat) (loc : Option LineAddr) (status kind src : Nat) (irq : Bool) :
    HoldsNoMore s (s.fault cls code sev detail loc status kind src irq) := by
  have h := onlyFault_fault s cls code sev detail loc status kind src irq
  unfold OnlyFault at h
  rw [h]
  exact holds_of rfl

theorem holds_injectTrigger (n : Nat) : HoldsNoMore s (s.injectTrigger n).2 := by
  have hsame : ∀ v : Injector, v.held = (s.injector n).held → HoldsNoMore s (s.setInjector n v) :=
    fun v hv => holds_setInjector s (fun c i h => by rw [← hv]; exact h)
  unfold State.injectTrigger
  extract_lets i r u
  split
  · exact hsame { i with lfsr := r } rfl
  · split
    · exact hsame { i with count := i.count + 1 } rfl
    · refine HoldsNoMore.trans (t := u) (hsame { i with count := 0 } rfl) ?_
      change HoldsNoMore u (if _ then u else _)
      split
      · exact HoldsNoMore.refl u
      · exact holds_of rfl

theorem holds_injectDone (n : Nat) : HoldsNoMore s (s.injectDone n) := by
  unfold State.injectDone
  extract_lets u
  split
  · exact HoldsNoMore.trans (t := u) (holds_of rfl) (holds_fault ..)
  · exact holds_of rfl

theorem holds_inject (n : Nat) (dir : Bool) (k : Nat) : HoldsNoMore s (s.inject n dir k).2 := by
  unfold State.inject
  split
  · exact HoldsNoMore.refl s
  · have htrig := holds_injectTrigger s n
    generalize s.injectTrigger n = p at htrig
    obtain ⟨sel, u⟩ := p
    dsimp only
    split
    · exact htrig
    · have hdone := htrig.trans (holds_injectDone u n)
      split <;> exact hdone

theorem holds_tranOut (lane : Nat) (o : Out) : HoldsNoMore s (s.tranOut lane o) := by
  unfold State.tranOut
  split
  · exact holds_of rfl
  · exact holds_of rfl

theorem holds_emitLink (o : Out) : HoldsNoMore s (s.emitLink o) := by
  unfold State.emitLink
  split
  · exact holds_emit ..
  · rename_i lane _
    split
    · exact HoldsNoMore.refl s
    · have hinj := holds_inject s 7 false lane
      generalize s.inject 7 false lane = p at hinj
      obtain ⟨act, u⟩ := p
      dsimp only
      refine hinj.trans ?_
      cases act with
      | pass =>
        dsimp only
        refine (holds_tranOut u lane o).trans ?_
        split
        · split
          · exact (holds_sent _ 7 (Or.inl rfl)).trans (holds_tranOut ..)
          · exact HoldsNoMore.refl _
        · exact HoldsNoMore.refl _
      | drop => exact HoldsNoMore.refl u
      | flip f => exact holds_tranOut ..
      | hold => exact holds_sent u 7 (Or.inr ⟨lane, o, rfl⟩)

theorem holds_transmit (n : Nat) (o : BitVec 10 → Out) (wrap : Out → Out) (visible : Bool) : HoldsNoMore s (s.transmit n o wrap visible) := by
  unfold State.transmit
  extract_lets l q kept u
  split
  · exact HoldsNoMore.trans (t := u) (holds_setLink ..) (holds_emitLink ..)
  · exact holds_setLink ..

theorem holds_sendOn {back : State → State} (hback : ∀ u, HoldsNoMore u (back u)) (n k c : Nat) (o : BitVec 10 → Out) :
    HoldsNoMore s (s.sendOn n k c o back) := by
  have hinj := holds_inject s n false k
  unfold State.sendOn
  split
  rename_i act u heq
  rw [heq] at hinj
  extract_lets above src v
  have hv : HoldsNoMore u v := by
    cases act with
    | pass => exact holds_transmit ..
    | drop =>
      change HoldsNoMore u (if above then back u else u.transmit n o id false)
      split
      · exact hback u
      · exact holds_transmit ..
    | flip f => exact holds_transmit ..
    | hold => exact holds_sent u n (Or.inr ⟨c, o 0, rfl⟩)
  refine (hinj.trans hv).trans ?_
  split
  · split
    · exact (holds_sent v n (Or.inl rfl)).trans (holds_transmit ..)
    · exact HoldsNoMore.refl v
  · exact HoldsNoMore.refl v

theorem holds_depart (c : Nat) (m : Msg) : HoldsNoMore s (s.depart c m) :=
  (holds_event s 0x51 none none (2 * (1 + m.body.slots))).trans (holds_sendOn _ (fun u => holds_setLink u _ _) _ _ _ _)

theorem holds_sendAt (c : Nat) (m : Msg) : HoldsNoMore s (s.sendAt c m) := by
  unfold State.sendAt
  extract_lets l cr
  split
  · exact holds_setLink ..
  · exact (holds_setLink ..).trans (holds_depart ..)

theorem holds_reply (m : Msg) : HoldsNoMore s (s.reply m) := by
  unfold State.reply
  split
  · exact holds_of rfl
  · split
    · exact holds_emit ..
    · unfold State.sendRouted
      split
      · exact holds_sendAt ..
      · exact HoldsNoMore.refl s

theorem holds_complete (r : Req) (status reason hint : Nat) : HoldsNoMore s (s.complete r status reason hint) := by
  unfold State.complete
  extract_lets u v
  have hu : HoldsNoMore s u := by
    change HoldsNoMore s (ite _ _ _)
    split
    · exact holds_event ..
    · exact HoldsNoMore.refl s
  have hv : HoldsNoMore u v := by
    change HoldsNoMore u (ite _ _ _)
    split
    · exact holds_event ..
    · exact HoldsNoMore.refl u
  exact (hu.trans hv).trans (holds_reply ..)

theorem holds_mirSend (m : MirMsg) : HoldsNoMore s (s.mirSend m) := by
  unfold State.mirSend
  split
  · exact holds_of rfl
  · unfold State.mirDepart
    extract_lets lane q src h m' u
    refine HoldsNoMore.trans (t := u) (holds_of rfl) (HoldsNoMore.trans (t := u.bump MIR_TX.COUNT) (holds_of rfl) ?_)
    exact (holds_event _ 0x55 none none 1).trans (holds_sendOn _ (back := fun s => { s with mir := { s.mir with used := tput 0 s.mir.used lane (tget 0 s.mir.used lane - 1) } })
      (fun _ => holds_of rfl) _ _ _ _)

/-! ### Receiving on a link without an injector -/

theorem State.receive_of_uninjected {n : Nat} (h : Uninjected s n) (k c : Nat) (i : Instr) {run : Instr → State → State}
    (hrun : HoldsNoMore s (run i s)) (flip : Flip → Instr → Instr) (back : State → State) : s.receive n k c i run flip back = run i s := by
  unfold State.receive
  rw [s.inject_of_uninjected h]
  dsimp only
  split
  · rename_i hheld
    exact absurd (hrun.held n _ _ hheld) (by rw [h.2]; simp)
  · rfl

/-! ### What forms the pair -/

/-- The scale entries that are sent leave the next sequence that is expected, and the registers but for the count of messages. -/
def Forms (s u : State) : Prop := SentMir s u ∧ HoldsNoMore s u ∧ u.mir.rxSeq = s.mir.rxSeq

theorem Forms.refl (s : State) : Forms s s := ⟨(Sent.refl s).sentMir, HoldsNoMore.refl s, rfl⟩

theorem Forms.trans {s t u : State} (hst : Forms s t) (htu : Forms t u) : Forms s u :=
  ⟨hst.1.trans htu.1, hst.2.1.trans htu.2.1, htu.2.2.trans hst.2.2⟩

theorem rxSeq_mirSend (m : MirMsg) : (s.mirSend m).mir.rxSeq = s.mir.rxSeq := by
  unfold State.mirSend
  split
  · rfl
  · unfold State.mirDepart
    extract_lets lane q src h m' u
    have hsent := rel_sendOn (R := fun a b => b.mir.rxSeq = a.mir.rxSeq) ((u.bump MIR_TX.COUNT).event 0x55) (fun hst htu => htu.trans hst)
      (fun h => by rw [h.mir]) (back := fun s => { s with mir := { s.mir with used := tput 0 s.mir.used lane (tget 0 s.mir.used lane - 1) } })
      (fun _ => rfl) (n := 6) (by decide) (mirKind m.typ) (mirKind m.typ) (fun _ => .mirror m.typ h m.data m.ldg m.row m.scale)
    refine hsent.trans ?_
    rw [(sent_event _ 0x55 none none 1).mir]
    rfl

theorem forms_scaleSend (n : Nat) : Forms s (s.scaleSend n) := ⟨sentMir_mirSend .., holds_mirSend .., rxSeq_mirSend ..⟩

theorem forms_sendScales : Forms s s.sendScales := by
  unfold State.sendScales
  generalize List.range 256 = l
  induction l generalizing s with
  | nil => exact Forms.refl s
  | cons n l ih => exact (forms_scaleSend s n).trans (ih _)

theorem forms_mirForm : Forms s s.mirForm := by
  unfold State.mirForm
  split
  · exact Forms.trans (t := { s with mir := { s.mir with sentAll := true } }) ⟨sentMir_withMir .., holds_of rfl, rfl⟩ (forms_sendScales _)
  · exact Forms.refl s

/-! ### The capability message -/

/-- The reception of the partner's message that LNK_UCIE shows. -/
def State.capShown (s : State) (n : Nat) : State :=
  if n < 7 && s.flagI LNK_UCIE.VALID (n - 5) then s.setFlagI LNK_UCIE.CAP_RX (n - 5) true else s

theorem onlyRegFile_capShown (n : Nat) : OnlyRegFile s (s.capShown n) := by
  unfold State.capShown
  split <;> rfl

theorem State.word_capShown {n k : Nat} (h : k ≠ LNK_UCIE.word.off + LNK_UCIE.word.stride * (n - 5)) : (s.capShown n).word k = s.word k := by
  unfold State.capShown
  split
  · exact (State.word_setFlagI ..).trans (if_neg h)
  · rfl

theorem State.capShown_flag {n : Nat} (hn : n < 7) (h : s.flagI LNK_UCIE.VALID (n - 5) = true) :
    (s.capShown n).flagI LNK_UCIE.CAP_RX (n - 5) = true := by
  unfold State.capShown
  rw [h, decide_eq_true hn, Bool.and_self, if_pos rfl, State.flagI, State.setFlagI, State.rdI_wrI_same _ _ _ _ (by decide)]
  rfl

theorem State.capApply_ignored {n : Nat} {m : BitVec 64} (h : n < 5 ∨ (m.extractLsb' 60 4).toNat ≠ 1) : s.capApply n m = s := by
  unfold State.capApply
  rw [if_pos]
  rw [Bool.or_eq_true, decide_eq_true_eq, bne_iff_ne]
  exact h

theorem State.capApply_eq {n : Nat} {m : BitVec 64} (hn : 5 ≤ n) (hm : (m.extractLsb' 60 4).toNat = 1) :
    s.capApply n m = if n = 6 then (s.capShown n).capMirror m else (s.capShown n).capChain n m := by
  unfold State.capApply
  rw [if_neg]
  · rfl
  · rw [Bool.or_eq_true, decide_eq_true_eq, bne_iff_ne]
    omega

/-- Messages sent, registers of the mirror unit and of the Daybook written, and no received message held. -/
structure CapKept (s u : State) : Prop where
  stk : u.stk = s.stk
  coh : u.coh = s.coh
  holds : HoldsNoMore s u
  ucie : ∀ k, LNK_UCIE.word.off ≤ k → k < LNK_UCIE.word.off + 12 → u.word k = s.word k

theorem CapKept.trans {s t u : State} (hst : CapKept s t) (htu : CapKept t u) : CapKept s u :=
  ⟨htu.stk.trans hst.stk, htu.coh.trans hst.coh, hst.holds.trans htu.holds, fun k h h' => (htu.ucie k h h').trans (hst.ucie k h h')⟩

theorem OnlyFault.capKept {s u : State} (h : OnlyFault s u)
    (hw : ∀ k, LNK_UCIE.word.off ≤ k → k < LNK_UCIE.word.off + 12 → u.word k = s.word k) : CapKept s u := by
  unfold OnlyFault at h
  exact ⟨by rw [h], by rw [h], holds_of (by rw [h]), hw⟩

theorem capKept_refl : CapKept s s := ⟨rfl, rfl, HoldsNoMore.refl s, fun _ _ _ => rfl⟩

theorem Forms.capKept {s u : State} (h : Forms s u) : CapKept s u := by
  obtain ⟨⟨hl, hw⟩, hh, _⟩ := h
  unfold OnlyLinks at hl
  refine ⟨by rw [hl], by rw [hl], hh, fun k hk hk' => hw k ?_ ?_⟩
  · simp only [linkRegs, faultRegs, List.mem_cons, List.mem_append, List.mem_flatMap, List.mem_range, List.not_mem_nil, or_false, not_or,
      not_exists, not_and]
    simp only at hk hk'
    refine ⟨by omega, ⟨by omega, by omega, by omega⟩, fun n hn => ⟨by omega, by omega⟩⟩
  · simp only [pmuBlock, Bool.and_eq_false_imp, decide_eq_true_eq, decide_eq_false_iff_not]
    simp only at hk hk'
    omega

/-- The state and the cause of the pair that MIR_STATUS shows after the messages that form it. -/
theorem Forms.rd {s u : State} (h : Forms s u) {f : Field} (hf : f.off = MIR_STATUS.word.off) (hs : f.stride = 0) : u.rd f = s.rd f := by
  refine State.rdI_congr f 0 (h.1.2 _ ?_ ?_)
  · rw [hf, hs]
    decide
  · rw [hf, hs]
    rfl

/-- The pair begins to form. -/
def State.forming (s : State) : State := (s.wr MIR_STATUS.STATE 1).mirFresh

theorem State.capMirror_eq (m : BitVec 64) : s.capMirror m =
    if s.flag MIR_CTL.PAIR_EN = false then s
    else if ¬ (capBuild m = s.s64 ∧ capLevel m = s.rd SLC_FEAT.RUN_LEVEL ∧ capCoord m = s.rd MIR_PARTNER.COORD) then s.daybook ocAlt 6 0x63
    else if s.rd MIR_STATUS.STATE = 3 ∧ s.rd MIR_STATUS.CAUSE = 0 ∧ s.flag MIR_STATUS.DISPLACED = false then s.forming.mirForm
    else s := by
  unfold State.capMirror
  simp only [Bool.not_eq_true', Bool.or_eq_true, bne_iff_ne, Bool.and_eq_true, decide_eq_true_eq, not_and_or, or_assoc, and_assoc, ne_eq]
  rfl

theorem capKept_daybook (outcome step cause detail : Nat) : CapKept s (s.daybook outcome step cause detail) := by
  refine (onlyRegFile_daybook s ..).onlyFault.capKept (fun k hk hk' => s.word_daybook_other _ _ _ _ ?_ ?_ ?_)
  all_goals
    simp only at hk hk' ⊢
    have := s.rdI_lt DBK_STATUS.COUNT 0
    simp only [State.rd] at this ⊢
    omega

theorem capKept_forming : CapKept s s.forming := by
  have hfresh : CapKept (s.wr MIR_STATUS.STATE 1) s.forming := ⟨rfl, rfl, holds_of rfl, fun k _ _ => State.word_congr rfl rfl k⟩
  refine CapKept.trans ((onlyRegFile_wr s MIR_STATUS.STATE 1).onlyFault.capKept (fun k hk _ => ?_)) hfresh
  rw [State.word_wr]
  refine if_neg ?_
  simp only at hk ⊢
  omega

theorem capKept_capMirror (m : BitVec 64) : CapKept s (s.capMirror m) := by
  rw [State.capMirror_eq]
  split
  · exact capKept_refl s
  · split
    · exact capKept_daybook ..
    · split
      · exact (capKept_forming s).trans (forms_mirForm _).capKept
      · exact capKept_refl s

/-- A fault counts in its class (R363). -/
theorem State.rdI_fault_count {cls : Nat} (hc : cls < 16) (code sev detail : Nat) (loc : Option LineAddr) (status kind src : Nat) (irq : Bool) :
    (s.fault cls code sev detail loc status kind src irq).rdI ERR_CNT.COUNT cls = min (s.rdI ERR_CNT.COUNT cls + 1) (2 ^ ERR_CNT.COUNT.w - 1) := by
  have hcnt : (s.bumpI ERR_CNT.COUNT cls).rdI ERR_CNT.COUNT cls = min (s.rdI ERR_CNT.COUNT cls + 1) (2 ^ ERR_CNT.COUNT.w - 1) :=
    (s.rdI_wrI_same _ _ _ (by decide)).trans (Nat.mod_eq_of_lt (Nat.lt_of_le_of_lt (Nat.min_le_right ..) (by decide)))
  have hset : ∀ u : State, (u.setBit ERR_STATUS.PEND cls true).rdI ERR_CNT.COUNT cls = u.rdI ERR_CNT.COUNT cls :=
    fun u => u.rdI_wrI_other _ _ _ _ _ (by simp only; omega)
  unfold State.fault
  extract_lets a b c d
  have hb : b.rdI ERR_CNT.COUNT cls = a.rdI ERR_CNT.COUNT cls := by
    change (ite _ _ _ : State).rdI ERR_CNT.COUNT cls = _
    split
    · exact hset a
    · rfl
  split
  · exact hb.trans hcnt
  · split
    · exact (State.rdI_wrI_other _ _ _ _ _ _ (by simp only; omega)).trans (hb.trans hcnt)
    · exact (State.rdI_congr _ cls (State.word_congr rfl rfl _)).trans (hb.trans hcnt)

theorem State.capChain_eq (n : Nat) (m : BitVec 64) : s.capChain n m =
    if capCoord m / 2 ^ 8 = s.rd SLC_ID.COORD / 2 ^ 8 ∧ capLevel m ≠ s.rd SLC_FEAT.RUN_LEVEL then
      s.fault 10 3 1 (detail := n) (srcKind := 3) (srcId := n) else s := by
  unfold State.capChain
  simp only [Bool.and_eq_true, decide_eq_true_eq, bne_iff_ne]

theorem onlyFault_capChain (n : Nat) (m : BitVec 64) : OnlyFault s (s.capChain n m) := by
  rw [State.capChain_eq]
  split
  · exact onlyFault_fault ..
  · rfl

theorem capKept_capChain (n : Nat) (m : BitVec 64) : CapKept s (s.capChain n m) := by
  refine (onlyFault_capChain s n m).capKept (fun k hk hk' => ?_)
  rw [State.capChain_eq]
  split
  · refine s.word_fault _ _ _ _ _ _ _ _ _ k ?_
    simp only at hk hk'
    simp only [faultRegs, List.mem_cons, List.not_mem_nil, or_false, not_or]
    omega
  · rfl

/-- The count of class 10 after a message of the Wicket or the Transom. -/
theorem State.capChain_count (n : Nat) (m : BitVec 64) : (s.capChain n m).rdI ERR_CNT.COUNT 10 =
    if capCoord m / 2 ^ 8 = s.rd SLC_ID.COORD / 2 ^ 8 ∧ capLevel m ≠ s.rd SLC_FEAT.RUN_LEVEL then
      min (s.rdI ERR_CNT.COUNT 10 + 1) (2 ^ ERR_CNT.COUNT.w - 1) else s.rdI ERR_CNT.COUNT 10 := by
  rw [State.capChain_eq]
  split
  · exact s.rdI_fault_count (by decide) ..
  · rfl

theorem holds_capApply (n : Nat) (m : BitVec 64) : HoldsNoMore s (s.capApply n m) := by
  by_cases h : n < 5 ∨ (m.extractLsb' 60 4).toNat ≠ 1
  · rw [s.capApply_ignored h]
    exact HoldsNoMore.refl s
  · have hshown : HoldsNoMore s (s.capShown n) := by
      have honly := onlyRegFile_capShown s n
      unfold OnlyRegFile at honly
      exact holds_of (by rw [honly])
    rw [s.capApply_eq (by omega) (by omega)]
    split
    · exact hshown.trans (capKept_capMirror ..).holds
    · exact hshown.trans (capKept_capChain ..).holds

theorem exec_capabilityMessage {s : State} {link : BitVec 3} (h : link.toNat = 7 ∨ Uninjected s link.toNat) (m : BitVec 64) :
    exec (.capabilityMessage link m) s = .next (s.begin.capApply link.toNat m).settle := by
  have hform : exec (.capabilityMessage link m) s = .next (if link.toNat = 5 then s.begin.receive 5 4 4 (.capabilityMessage link m) capRun capFlip id
      else if link.toNat = 6 then s.begin.receive 6 3 3 (.capabilityMessage link m) capRun capFlip id
      else s.begin.capApply link.toNat m).settle := rfl
  have hholds : HoldsNoMore s.begin (capRun (.capabilityMessage link m) s.begin) := holds_capApply s.begin link.toNat m
  rw [hform]
  split
  · rename_i h5
    have hu := s.begin_uninjected (by omega) (h.resolve_left (by omega))
    rw [h5] at hu
    rw [State.receive_of_uninjected _ hu _ _ _ hholds, capRun]
  · split
    · rename_i h6
      have hu := s.begin_uninjected (by omega) (h.resolve_left (by omega))
      rw [h6] at hu
      rw [State.receive_of_uninjected _ hu _ _ _ hholds, capRun]
    · rfl

theorem capabilityMessage_spec (s : State) (link : BitVec 3) (m : BitVec 64) :
    let n := link.toNat
    let agrees := capBuild m = s.s64 ∧ capLevel m = s.rd SLC_FEAT.RUN_LEVEL ∧ capCoord m = s.rd MIR_PARTNER.COORD
    n = 7 ∨ Uninjected s n →
    ∃ t, exec (.capabilityMessage link m) s = .next t ∧ (n < 5 ∨ (m.extractLsb' 60 4).toNat ≠ 1 → Untouched s t)
      ∧ ((m.extractLsb' 60 4).toNat = 1 → n = 5 ∨ n = 6 → s.flagI LNK_UCIE.VALID (n - 5) = true → t.flagI LNK_UCIE.CAP_RX (n - 5) = true)
      ∧ ((m.extractLsb' 60 4).toNat = 1 → n = 6 → s.flag MIR_CTL.PAIR_EN = true → agrees → s.rd MIR_STATUS.STATE = 3 → s.rd
        MIR_STATUS.CAUSE = 0 → s.flag MIR_STATUS.DISPLACED = false → t.rd MIR_STATUS.STATE = 1 ∧ t.mir.rxSeq = [] ∧ (s.online = false →
        t.mir.txSeq = []))
      ∧ ((m.extractLsb' 60 4).toNat = 1 → n = 6 → s.flag MIR_CTL.PAIR_EN = true → ¬ agrees → t.rd MIR_STATUS.STATE = s.rd
        MIR_STATUS.STATE ∧ t.mir = s.mir ∧ Entered s t ocAlt 6 0x63 0)
      ∧ ((m.extractLsb' 60 4).toNat = 1 → n = 5 ∨ n = 7 → t.rdI ERR_CNT.COUNT 10 = (if capCoord m / 2 ^ 8 = s.rd SLC_ID.COORD / 2 ^ 8 ∧
        capLevel m ≠ s.rd SLC_FEAT.RUN_LEVEL then min (s.rdI ERR_CNT.COUNT 10 + 1) (2 ^ ERR_CNT.COUNT.w - 1) else s.rdI ERR_CNT.COUNT 10)
        ∧ t.out = [])
      ∧ t.stk = s.stk
      ∧ t.coh = s.coh := by
  intro n agrees hinj
  have hn : n < 8 := link.isLt
  refine ⟨_, exec_capabilityMessage hinj m, ?_⟩
  change (_ → Untouched s (s.begin.capApply n m).settle) ∧ _
  by_cases hi : n < 5 ∨ (m.extractLsb' 60 4).toNat ≠ 1
  · rw [s.begin.capApply_ignored hi]
    refine ⟨fun _ => untouched_begin s, fun h h' => ?_, fun h h' => ?_, fun h h' => ?_, fun h h' => ?_, s.begin_stk, s.begin_coh⟩
    all_goals exact absurd hi (by omega)
  obtain ⟨h5, htyp⟩ : 5 ≤ n ∧ (m.extractLsb' 60 4).toNat = 1 := by omega
  rw [s.begin.capApply_eq h5 htyp]
  have hshown := onlyRegFile_capShown s.begin n
  have hword (k : Nat) (hk : k ≠ LNK_UCIE.word.off + LNK_UCIE.word.stride * (n - 5)) (hp : pmuBlock k = false) :
      (s.begin.capShown n).word k = s.word k := (s.begin.word_capShown hk).trans (s.word_begin k hp)
  have hcap (h7 : n < 7) (hv : s.flagI LNK_UCIE.VALID (n - 5) = true) : (s.begin.capShown n).flagI LNK_UCIE.CAP_RX (n - 5) = true := by
    refine s.begin.capShown_flag h7 ?_
    rw [← hv]
    refine State.flagI_congr _ (s.word_begin _ ?_)
    simp only [pmuBlock, Bool.and_eq_false_imp, decide_eq_true_eq, decide_eq_false_iff_not]
    omega
  generalize s.begin.capShown n = u at hshown hword hcap
  have hrest : u.stk = s.stk ∧ u.coh = s.coh ∧ u.mir = s.mir ∧ u.out = [] ∧ u.s64 = s.s64 := by
    unfold OnlyRegFile at hshown
    rw [hshown]
    simp
  obtain ⟨hstk, hcoh, hmir, hout, h64⟩ := hrest
  have hrd (f : Field) (hs : f.stride = 0) (hf : f.off < 0x28000) : u.rd f = s.rd f := by
    refine State.rdI_congr f 0 (hword _ (by simp only [hs]; omega) ?_)
    simp only [hs, pmuBlock, Bool.and_eq_false_imp, decide_eq_true_eq, decide_eq_false_iff_not]
    omega
  have hrx (v : State) (hv : CapKept u v) (h7 : n < 7) (h : s.flagI LNK_UCIE.VALID (n - 5) = true) :
      v.settle.flagI LNK_UCIE.CAP_RX (n - 5) = true := by
    rw [← hcap h7 h]
    exact State.flagI_congr (s := v) _ (hv.ucie _ (by simp only; omega) (by simp only; omega))
  have hagrees : agrees ↔ capBuild m = u.s64 ∧ capLevel m = u.rd SLC_FEAT.RUN_LEVEL ∧ capCoord m = u.rd MIR_PARTNER.COORD := by
    rw [h64, hrd SLC_FEAT.RUN_LEVEL rfl (by decide), hrd MIR_PARTNER.COORD rfl (by decide)]
  have hmirSt : u.rd MIR_STATUS.STATE = s.rd MIR_STATUS.STATE := hrd _ rfl (by decide)
  have hcause : u.rd MIR_STATUS.CAUSE = s.rd MIR_STATUS.CAUSE := hrd _ rfl (by decide)
  have hdisp : u.flag MIR_STATUS.DISPLACED = s.flag MIR_STATUS.DISPLACED := State.flag_congr (hrd _ rfl (by decide))
  have hpair : u.flag MIR_CTL.PAIR_EN = s.flag MIR_CTL.PAIR_EN := State.flag_congr (hrd _ rfl (by decide))
  split
  · rename_i h6
    have hkept := capKept_capMirror u m
    refine ⟨fun h => absurd h hi, fun _ _ h => hrx _ hkept (by omega) h, fun _ _ hp ha h3 hc hd => ?_, fun _ _ hp ha => ?_,
      fun _ h => absurd h (by omega), hkept.stk.trans hstk, hkept.coh.trans hcoh⟩
    · have hform : u.capMirror m = u.forming.mirForm := by
        rw [State.capMirror_eq, if_neg (by rw [hpair, hp]; decide), if_neg (by rw [← hagrees, not_not]; exact ha),
          if_pos ⟨hmirSt.trans h3, hcause.trans hc, hdisp.trans hd⟩]
      have hf := forms_mirForm u.forming
      have hst : u.forming.rd MIR_STATUS.STATE = 1 := u.rd_wr_same _ _ (by decide)
      rw [hform]
      refine ⟨(hf.rd (f := MIR_STATUS.STATE) rfl rfl).trans hst, hf.2.2, fun hoff => ?_⟩
      have hstart : u.forming.rd SLC_START.STATE ≠ 5 := by
        have h : u.forming.rd SLC_START.STATE = u.rd SLC_START.STATE := u.rd_wr_apart 1 (by decide)
        rw [h, hrd SLC_START.STATE rfl (by decide)]
        exact of_decide_eq_false hoff
      have hno : u.forming.mirForm = u.forming := by
        unfold State.mirForm
        rw [if_neg (by simp [hstart])]
      rw [hno]
      rfl
    · have hform : u.capMirror m = u.daybook ocAlt 6 0x63 := by
        rw [State.capMirror_eq, if_neg (by rw [hpair, hp]; decide), if_pos (by rw [← hagrees]; exact ha)]
      rw [hform]
      have honly := onlyRegFile_daybook u ocAlt 6 0x63 0
      have hm : (u.daybook ocAlt 6 0x63 0).mir = u.mir := by
        unfold OnlyRegFile at honly
        rw [honly]
      refine ⟨(u.rd_daybook (f := MIR_STATUS.STATE) (by decide) rfl ..).trans hmirSt, hm.trans hmir, ?_⟩
      exact Entered.congr (hword _ (by simp only; omega) rfl) (u.entered_daybook ocAlt 6 0x63 0)
  · rename_i h6
    have hkept := capKept_capChain u n m
    refine ⟨fun h => absurd h hi, fun _ _ h => hrx _ hkept (by omega) h, fun _ h => absurd h h6, fun _ h => absurd h h6,
      fun _ _ => ⟨?_, ?_⟩, hkept.stk.trans hstk, hkept.coh.trans hcoh⟩
    · have hcnt : u.rdI ERR_CNT.COUNT 10 = s.rdI ERR_CNT.COUNT 10 := State.rdI_congr _ 10 (hword _ (by simp only; omega) rfl)
      refine (u.capChain_count n m).trans ?_
      rw [hcnt, hrd SLC_ID.COORD rfl (by decide), hrd SLC_FEAT.RUN_LEVEL rfl (by decide)]
    · have honly := onlyFault_capChain u n m
      unfold OnlyFault at honly
      rw [State.settle_out, honly]
      exact hout

end Sys2Proof.Machine
end

section
/-! O53: step 6 trains the links (R293, R301). -/

namespace Sys2Proof.Machine

variable (s : State)

/-! ### A link that comes up -/

theorem sent_capSend {n : Nat} (hn : n < 8) : Sent s (s.capSend n) := by
  unfold State.capSend
  extract_lets k
  split
  · exact sent_emit ..
  · have hinj := sent_inject s hn false k
    generalize s.inject n false k = p at hinj
    obtain ⟨act, u⟩ := p
    dsimp only
    cases act with
    | drop => exact hinj
    | flip f => exact hinj.trans (sent_emit ..)
    | pass => exact hinj.trans (sent_emit ..)
    | hold => exact hinj.trans (sent_emit ..)

/-- A link shown up. -/
def State.shownUp (s : State) (n : Nat) (half : Bool) : State := (s.setBit LNK_STATUS.UP n true).setBit LNK_STATUS.HALF n half

/-- A link that came up, before its capability message. -/
def State.upCounted (s : State) (n : Nat) (half : Bool) : State :=
  if half then (s.shownUp n half).daybook ocAlt 6 0x61 n else (s.shownUp n half).wr (linkFailField n) 0

theorem sent_linkUp {n : Nat} (hn : n < 8) (half : Bool) : Sent (s.upCounted n half) (s.linkUp n half) := by
  have hform : s.linkUp n half = if 5 ≤ n && !((s.upCounted n half).flagI LNK_UCIE.VALID (n - 5)) then (s.upCounted n half).capSend n
      else s.upCounted n half := rfl
  rw [hform]
  split
  · exact sent_capSend _ hn
  · exact Sent.refl _

/-- The registers that the training of a link may change. -/
def trainRegs : List Nat := lostRegs ++ linkRegs

theorem trainRegs_link {k : Nat} (h : k ∉ trainRegs) : k ∉ lostRegs ∧ k ∉ linkRegs := by
  rw [trainRegs, List.mem_append, not_or] at h
  exact h

/-! ### What the training of some links leaves -/

/-- A link's UP bit after its training. -/
def State.upAfter (s : State) (full half : BitVec 8) (n : Nat) : Bool :=
  if s.rd (linkFailField n) = 3 then s.bit LNK_STATUS.UP n else full.getLsbD n || half.getLsbD n

/-- A link's HALF bit after its training. -/
def State.halfAfter (s : State) (full half : BitVec 8) (n : Nat) : Bool :=
  if s.rd (linkFailField n) = 3 then s.bit LNK_STATUS.HALF n
  else (full.getLsbD n || half.getLsbD n) && (decide (n ≠ 4) && (decide (0 < s.rd (linkFailField n)) || !full.getLsbD n))

/-- A link's count of failures after its training. -/
def State.failsAfter (s : State) (full half : BitVec 8) (n : Nat) : Nat :=
  if s.rd (linkFailField n) = 3 then 3
  else if full.getLsbD n || half.getLsbD n then
    if decide (n ≠ 4) && (decide (0 < s.rd (linkFailField n)) || !full.getLsbD n) then s.rd (linkFailField n) else 0
  else s.rd (linkFailField n) + 1

/-- The links of a list have been trained: those that step 6 trains have their outcome, the others stay. -/
structure Trained (full half : BitVec 8) (l : List Nat) (s u : State) : Prop where
  stk : u.stk = s.stk
  coh : u.coh = s.coh
  s64 : u.s64 = s.s64
  cfg : u.cfg = s.cfg
  word : ∀ k, k ∉ trainRegs → pmuBlock k = false → u.word k = s.word k
  upBit : ∀ n, u.bit LNK_STATUS.UP n = if n ∈ l ∧ s.trains n = true then s.upAfter full half n else s.bit LNK_STATUS.UP n
  halfBit : ∀ n, u.bit LNK_STATUS.HALF n = if n ∈ l ∧ s.trains n = true then s.halfAfter full half n else s.bit LNK_STATUS.HALF n
  fails : ∀ n, u.rd (linkFailField n) = if n ∈ l ∧ s.trains n = true then s.failsAfter full half n else s.rd (linkFailField n)

variable {full half : BitVec 8}

theorem trained_nil : Trained full half [] s s :=
  ⟨rfl, rfl, rfl, rfl, fun _ _ _ => rfl, fun n => by simp, fun n => by simp, fun n => by simp⟩

/-- Which links are trained depends on the build, the roles and MIR_CTL alone. -/
theorem Trained.trains {l : List Nat} {s u : State} (h : Trained full half l s u) (n : Nat) : u.trains n = s.trains n := by
  have hpair : u.flag MIR_CTL.PAIR_EN = s.flag MIR_CTL.PAIR_EN := State.flag_congr (State.rdI_congr MIR_CTL.PAIR_EN 0 (h.word _ (by decide) rfl))
  unfold State.trains
  rw [State.casements, State.casements, h.s64, State.isMesh, State.isMesh, h.cfg, hpair]

theorem Trained.other {l : List Nat} {s u : State} (h : Trained full half l s u) {n : Nat} (hn : n ∉ l) :
    u.bit LNK_STATUS.UP n = s.bit LNK_STATUS.UP n ∧ u.bit LNK_STATUS.HALF n = s.bit LNK_STATUS.HALF n
    ∧ u.rd (linkFailField n) = s.rd (linkFailField n) :=
  ⟨(h.upBit n).trans (if_neg fun hl => hn hl.1), (h.halfBit n).trans (if_neg fun hl => hn hl.1), (h.fails n).trans (if_neg fun hl => hn hl.1)⟩

theorem Trained.append {l l' : List Nat} {s t u : State} (h : Trained full half l s t) (h' : Trained full half l' t u) (hd : l.Disjoint l') :
    Trained full half (l ++ l') s u := by
  have hmem (n : Nat) (hl : n ∈ l) : n ∉ l' := fun hl' => hd hl hl'
  refine ⟨h'.stk.trans h.stk, h'.coh.trans h.coh, h'.s64.trans h.s64, h'.cfg.trans h.cfg,
    fun k hk hp => (h'.word k hk hp).trans (h.word k hk hp), fun n => ?_, fun n => ?_, fun n => ?_⟩
  · by_cases hl : n ∈ l
    · rw [(h'.other (hmem n hl)).1, h.upBit]
      simp [hl]
    · rw [h'.upBit, h.trains, State.upAfter, (h.other hl).1, (h.other hl).2.2]
      simp [hl, State.upAfter]
  · by_cases hl : n ∈ l
    · rw [(h'.other (hmem n hl)).2.1, h.halfBit]
      simp [hl]
    · rw [h'.halfBit, h.trains, State.halfAfter, (h.other hl).2.1, (h.other hl).2.2]
      simp [hl, State.halfAfter]
  · by_cases hl : n ∈ l
    · rw [(h'.other (hmem n hl)).2.2, h.fails]
      simp [hl]
    · rw [h'.fails, h.trains, State.failsAfter, (h.other hl).2.2]
      simp [hl, State.failsAfter]

/-! ### One link -/

theorem lostRegs_word {k : Nat} (h : k ∉ trainRegs) : k ≠ LNK_STATUS.word.off ∧ k ∉ dbkRegs ∧ k ≠ DBK_LINK_FAILS.word.off
    ∧ k ≠ DBK_DEGRADED.word.off := by
  obtain ⟨hst, _, hd, hf, hg⟩ := lostRegs_dbk (trainRegs_link h).1
  exact ⟨hst, hd, hf, hg⟩

theorem State.shownUp_bit {n : Nat} (hn : n < 8) (b : Bool) (j : Nat) :
    (s.shownUp n b).bit LNK_STATUS.UP j = (if j = n then true else s.bit LNK_STATUS.UP j)
    ∧ (s.shownUp n b).bit LNK_STATUS.HALF j = if j = n then b else s.bit LNK_STATUS.HALF j := by
  constructor
  · rw [State.shownUp, State.bit_congr (State.rd_setBit_apart _ n b (by decide)) j, State.bit_setBit _ (by decide) hn]
  · rw [State.shownUp, State.bit_setBit _ (by decide) hn, State.bit_congr (State.rd_setBit_apart _ n true (by decide)) j]

theorem State.rd_shownUp {f : Field} (h : f.off ≠ LNK_STATUS.word.off) (n : Nat) (b : Bool) : (s.shownUp n b).rd f = s.rd f := by
  rw [State.shownUp, State.rd_setBit_apart _ (f := LNK_STATUS.HALF) _ _ (Or.inl h), State.rd_setBit_apart _ (f := LNK_STATUS.UP) _ _ (Or.inl h)]

theorem onlyRegFile_upCounted (n : Nat) (b : Bool) : OnlyRegFile s (s.upCounted n b) := by
  have hup : OnlyRegFile s (s.shownUp n b) := (onlyRegFile_wr s _ _).trans (onlyRegFile_wr _ _ _)
  unfold State.upCounted
  split
  · exact hup.trans (onlyRegFile_daybook ..)
  · exact hup.trans (onlyRegFile_wr _ _ _)

theorem State.word_upCounted {k : Nat} (h : k ∉ trainRegs) (n : Nat) (b : Bool) : (s.upCounted n b).word k = s.word k := by
  obtain ⟨hst, hd, hf, _⟩ := lostRegs_word h
  have hup : (s.shownUp n b).word k = s.word k := by rw [State.shownUp, State.word_setBit, if_neg hst, State.word_setBit, if_neg hst]
  unfold State.upCounted
  split
  · rw [State.word_daybook _ hd, hup]
  · rw [State.word_wr]
    exact (if_neg hf).trans hup

theorem State.upCounted_bit {n : Nat} (hn : n < 8) (b : Bool) (j : Nat) :
    (s.upCounted n b).bit LNK_STATUS.UP j = (if j = n then true else s.bit LNK_STATUS.UP j)
    ∧ (s.upCounted n b).bit LNK_STATUS.HALF j = if j = n then b else s.bit LNK_STATUS.HALF j := by
  have hkept (f : Field) (hf : f.off = LNK_STATUS.word.off) (hs : f.stride = 0) : (s.upCounted n b).rd f = (s.shownUp n b).rd f := by
    unfold State.upCounted
    split
    · exact State.rd_daybook _ (by rw [hf]; decide) hs ..
    · exact State.rd_wr_apart _ _ (Or.inl (by rw [hf]; simp [linkFailField]))
  rw [State.bit_congr (hkept LNK_STATUS.UP rfl rfl) j, State.bit_congr (hkept LNK_STATUS.HALF rfl rfl) j]
  exact s.shownUp_bit hn b j

theorem State.upCounted_fails {n : Nat} (hn : n < 8) (b : Bool) (j : Nat) :
    (s.upCounted n b).rd (linkFailField j) = if j = n ∧ b = false then 0 else s.rd (linkFailField j) := by
  have hup := s.rd_shownUp (f := linkFailField j) (by simp [linkFailField]) n b
  unfold State.upCounted
  split
  · rename_i hb
    rw [State.rd_daybook_linkFail, hup, if_neg (by rw [hb]; simp)]
  · rename_i hb
    by_cases hj : j = n
    · rw [hj, State.rd_wr_same _ _ _ (by simp only [linkFailField]; omega), if_pos ⟨rfl, by simpa using hb⟩]
      rfl
    · rw [State.rd_wr_apart _ _ (apart_linkFailField (Ne.symm hj)), if_neg (fun h => hj h.1), hup]

/-- What sending leaves of the links' states and counts. -/
theorem Sent.links {s u : State} (h : Sent s u) : u.stk = s.stk ∧ u.coh = s.coh ∧ u.s64 = s.s64 ∧ u.cfg = s.cfg
    ∧ (∀ n, u.bit LNK_STATUS.UP n = s.bit LNK_STATUS.UP n) ∧ (∀ n, u.bit LNK_STATUS.HALF n = s.bit LNK_STATUS.HALF n)
    ∧ ∀ n, u.rd (linkFailField n) = s.rd (linkFailField n) := by
  obtain ⟨hl, hw⟩ := h
  unfold OnlyLinks at hl
  have hst : u.word LNK_STATUS.word.off = s.word LNK_STATUS.word.off := hw _ (by decide) rfl
  exact ⟨by rw [hl], by rw [hl], by rw [hl], by rw [hl], State.bit_congr (State.rdI_congr LNK_STATUS.UP 0 hst),
    State.bit_congr (State.rdI_congr LNK_STATUS.HALF 0 hst), fun n => State.rdI_congr (linkFailField n) 0 (hw _ (by decide : 0x0100C ∉ linkRegs) rfl)⟩

theorem OnlyRegFile.links {s u : State} (h : OnlyRegFile s u) : u.stk = s.stk ∧ u.coh = s.coh ∧ u.s64 = s.s64 ∧ u.cfg = s.cfg := by
  unfold OnlyRegFile at h
  rw [h]
  exact ⟨rfl, rfl, rfl, rfl⟩

theorem trained_linkUp {n : Nat} (hn : n < 8) (ht : s.trains n = true) (h3 : s.rd (linkFailField n) ≠ 3)
    (hup : (full.getLsbD n || half.getLsbD n) = true) :
    Trained full half [n] s (s.linkUp n (decide (n ≠ 4) && (decide (0 < s.rd (linkFailField n)) || !full.getLsbD n))) := by
  generalize hb : (decide (n ≠ 4) && (decide (0 < s.rd (linkFailField n)) || !full.getLsbD n)) = b
  obtain ⟨hstk, hcoh, h64, hcfg, hbitU, hbitH, hfails⟩ := (sent_linkUp s hn b).links
  obtain ⟨kstk, kcoh, k64, kcfg⟩ := (onlyRegFile_upCounted s n b).links
  refine ⟨hstk.trans kstk, hcoh.trans kcoh, h64.trans k64, hcfg.trans kcfg, fun k hk hp => ?_, fun j => ?_, fun j => ?_, fun j => ?_⟩
  · exact ((sent_linkUp s hn b).2 k (trainRegs_link hk).2 hp).trans (s.word_upCounted hk n b)
  · rw [hbitU, (s.upCounted_bit hn b j).1]
    by_cases hj : j = n
    · subst hj
      simp [ht, State.upAfter, h3, hup]
    · simp [hj]
  · rw [hbitH, (s.upCounted_bit hn b j).2]
    by_cases hj : j = n
    · subst hj
      rw [if_pos rfl, if_pos ⟨List.mem_singleton_self _, ht⟩, State.halfAfter, if_neg h3, hup, Bool.true_and, hb]
    · simp [hj]
  · rw [hfails, s.upCounted_fails hn b j]
    by_cases hj : j = n
    · subst hj
      rw [if_pos (c := _ ∈ _ ∧ _) ⟨List.mem_singleton_self _, ht⟩, State.failsAfter, if_neg h3, hup, if_pos rfl, hb]
      cases b <;> simp
    · simp [hj]

theorem trained_linkFails {n : Nat} (hn : n < 8) (ht : s.trains n = true) (h3 : s.rd (linkFailField n) ≠ 3)
    (hup : (full.getLsbD n || half.getLsbD n) = false) (outcome : Nat) : Trained full half [n] s (s.linkFails n outcome) := by
  obtain ⟨kstk, kcoh, k64, kcfg⟩ := (onlyRegFile_linkFails s n outcome).links
  have hlt : s.rd (linkFailField n) < 4 := s.rdI_lt (linkFailField n) 0
  refine ⟨kstk, kcoh, k64, kcfg, fun k hk _ => s.word_linkFails (trainRegs_link hk).1 .., fun j => ?_, fun j => ?_, fun j => ?_⟩
  · rw [(s.linkFails_bit hn outcome j).1]
    by_cases hj : j = n
    · subst hj
      simp [ht, State.upAfter, h3, hup]
    · simp [hj]
  · rw [(s.linkFails_bit hn outcome j).2]
    by_cases hj : j = n
    · subst hj
      simp [ht, State.halfAfter, h3, hup]
    · simp [hj]
  · rw [s.linkFails_counts hn]
    by_cases hj : j = n
    · subst hj
      rw [if_pos rfl, if_pos ⟨List.mem_singleton_self _, ht⟩, State.failsAfter, if_neg h3, hup, if_neg (by decide)]
      omega
    · simp [hj]

theorem trained_skipped {n : Nat} (h3 : s.rd (linkFailField n) = 3) :
    Trained full half [n] s ((s.setBit DBK_DEGRADED.LINKS n true).daybook ocSkip 6 0x62 n) := by
  have honly : OnlyRegFile s ((s.setBit DBK_DEGRADED.LINKS n true).daybook ocSkip 6 0x62 n) :=
    (onlyRegFile_wr s DBK_DEGRADED.LINKS _).trans (onlyRegFile_daybook ..)
  obtain ⟨kstk, kcoh, k64, kcfg⟩ := honly.links
  have hst (f : Field) (hf : f.off = LNK_STATUS.word.off) (hs : f.stride = 0) :
      ((s.setBit DBK_DEGRADED.LINKS n true).daybook ocSkip 6 0x62 n).rd f = s.rd f := by
    rw [State.rd_daybook _ (by rw [hf]; decide) hs, State.rd_setBit_apart _ _ _ (Or.inl (by rw [hf]; decide))]
  refine ⟨kstk, kcoh, k64, kcfg, fun k hk _ => ?_, fun j => ?_, fun j => ?_, fun j => ?_⟩
  · obtain ⟨_, hd, _, hg⟩ := lostRegs_word hk
    rw [State.word_daybook _ hd, State.word_setBit, if_neg hg]
  · rw [State.bit_congr (hst LNK_STATUS.UP rfl rfl) j]
    by_cases hj : j = n
    · subst hj
      simp [State.upAfter, h3]
    · simp [hj]
  · rw [State.bit_congr (hst LNK_STATUS.HALF rfl rfl) j]
    by_cases hj : j = n
    · subst hj
      simp [State.halfAfter, h3]
    · simp [hj]
  · rw [State.rd_daybook_linkFail, State.rd_setBit_apart _ _ _ (Or.inl (by simp [linkFailField]))]
    by_cases hj : j = n
    · subst hj
      simp [State.failsAfter, h3]
    · simp [hj]

/-- The pin of the far port is no register. -/
theorem Trained.pins {l : List Nat} {s u : State} (h : Trained full half l s u) (p : Pins) : Trained full half l s { u with pins := p } :=
  ⟨h.stk, h.coh, h.s64, h.cfg, h.word, h.upBit, h.halfBit, h.fails⟩

theorem trained_trainLink {n : Nat} (hn : n < 8) (ht : s.trains n = true) (outcome : Nat) :
    Trained full half [n] s (s.trainLink full half outcome n) := by
  unfold State.trainLink
  extract_lets count
  split
  · rename_i h3
    exact trained_skipped s h3
  · rename_i h3
    split
    · rename_i hup
      have hlinkUp := trained_linkUp s hn ht h3 hup
      split
      · rename_i h4
        subst h4
        exact hlinkUp.pins _
      · rename_i h4
        rw [decide_eq_true h4, Bool.true_and] at hlinkUp
        exact hlinkUp
    · rename_i hup
      exact trained_linkFails s hn ht h3 (Bool.eq_false_iff.mpr hup) outcome

/-! ### All links -/

/-- The training of the links of a list. -/
def State.trainList (s : State) (full half : BitVec 8) (outcome : Nat → Nat) (l : List Nat) : State :=
  l.foldl (fun s n => if !(s.trains n) then s else s.trainLink full half (outcome n) n) s

theorem trained_trainOne {n : Nat} (hn : n < 8) (outcome : Nat → Nat) :
    Trained full half [n] s (if !(s.trains n) then s else s.trainLink full half (outcome n) n) := by
  cases ht : s.trains n
  · rw [if_pos (by simp)]
    have hno (j : Nat) : ¬ (j ∈ [n] ∧ s.trains j = true) := by
      rintro ⟨hj, htj⟩
      rw [List.mem_singleton.mp hj, ht] at htj
      exact absurd htj (by decide)
    exact ⟨rfl, rfl, rfl, rfl, fun _ _ _ => rfl, fun j => (if_neg (hno j)).symm, fun j => (if_neg (hno j)).symm, fun j => (if_neg (hno j)).symm⟩
  · rw [if_neg (by simp)]
    exact trained_trainLink s hn ht (outcome n)

theorem trained_trainList (outcome : Nat → Nat) {l : List Nat} (hl : ∀ n ∈ l, n < 8) (hd : l.Nodup) :
    Trained full half l s (s.trainList full half outcome l) := by
  induction l generalizing s with
  | nil => exact trained_nil s
  | cons n l ih =>
    obtain ⟨hn, hd⟩ := List.nodup_cons.mp hd
    have hone := trained_trainOne (full := full) (half := half) s (hl n (List.mem_cons_self ..)) outcome
    have hrest := ih (if !(s.trains n) then s else s.trainLink full half (outcome n) n) (fun m hm => hl m (List.mem_cons_of_mem _ hm)) hd
    exact hone.append hrest (by simpa using hn)

/-! ### The end of step 6 -/

/-- A link that step 6 brings up. -/
def State.canTrain (s : State) (full half : BitVec 8) (n : Nat) : Bool :=
  s.trains n && s.rd (linkFailField n) != 3 && (full.getLsbD n || half.getLsbD n)

/-- Step 6 ends the start: no casement or no far port. -/
def State.trainStops (s : State) (full half : BitVec 8) : Bool :=
  (List.range 4).all (fun n => !(s.canTrain full half n)) || !(s.canTrain full half 4)

/-- The outcome that a failed link's entry shows. -/
def State.trainOutcome (s : State) (full half : BitVec 8) (n : Nat) : Nat :=
  if (decide (n < 4) && (List.range 4).all (fun n => !(s.canTrain full half n))) || (n = 4 && !(s.canTrain full half 4)) then ocFail else ocAlt

/-- What follows the training of the links. -/
def State.trainEnd (s u : State) (stops : Bool) : State :=
  if stops then u.showMirLink.wr SLC_START.STATE 3
  else (if u.showMirLink.rd DBK_STATUS.COUNT + u.showMirLink.rd DBK_STATUS.LOST = s.rd DBK_STATUS.COUNT + s.rd DBK_STATUS.LOST then
    u.showMirLink.stepPass 6 else u.showMirLink).enterStep7

theorem State.training_eq (h : s.atStep 6 = true) (full half : BitVec 8) : s.training full half =
    s.trainEnd (s.trainList full half (s.trainOutcome full half) (List.range 8)) (s.trainStops full half) := by
  unfold State.training
  rw [if_neg (by rw [h]; decide)]
  rfl

theorem State.training_waits (h : s.atStep 6 = false) (full half : BitVec 8) : s.training full half = s := by
  unfold State.training
  rw [if_pos (by rw [h]; rfl)]

/-- Registers outside the links' are written, and the admission check is given work. -/
structure LinksKept (s u : State) : Prop where
  stk : u.stk = s.stk
  coh : u.coh = s.coh
  links : u.word LNK_STATUS.word.off = s.word LNK_STATUS.word.off
  fails : u.word DBK_LINK_FAILS.word.off = s.word DBK_LINK_FAILS.word.off

theorem LinksKept.trans {s t u : State} (hst : LinksKept s t) (htu : LinksKept t u) : LinksKept s u :=
  ⟨htu.stk.trans hst.stk, htu.coh.trans hst.coh, htu.links.trans hst.links, htu.fails.trans hst.fails⟩

theorem linksKept_refl : LinksKept s s := ⟨rfl, rfl, rfl, rfl⟩

theorem linksKept_wr {f : Field} (v : Nat) (hl : f.off ≠ LNK_STATUS.word.off) (hd : f.off ≠ DBK_LINK_FAILS.word.off) : LinksKept s (s.wr f v) :=
  ⟨rfl, rfl, (State.word_wr ..).trans (if_neg (Ne.symm hl)), (State.word_wr ..).trans (if_neg (Ne.symm hd))⟩

theorem linksKept_daybook (outcome step cause detail : Nat) : LinksKept s (s.daybook outcome step cause detail) := by
  obtain ⟨hstk, hcoh, _, _⟩ := (onlyRegFile_daybook s outcome step cause detail).links
  refine ⟨hstk, hcoh, s.word_daybook (by decide) .., s.word_daybook_other _ _ _ _ (by decide) ?_ ?_⟩
  · simp only
    omega
  · simp only
    omega

theorem linksKept_stepPassed (n : Nat) : LinksKept s (s.stepPassed n) := by
  unfold State.stepPassed
  split
  · exact linksKept_wr s (f := failField n) 0 (show DBK_FAILS.word.off ≠ _ by decide) (show DBK_FAILS.word.off ≠ _ by decide)
  · exact linksKept_refl s

theorem linksKept_tierCheck : LinksKept s s.tierCheck := by
  unfold State.tierCheck
  split
  · exact linksKept_refl s
  · exact linksKept_wr s _ (by decide) (by decide)

theorem linksKept_admSubmit (w : AdmWhy) : LinksKept s (s.admSubmit w) := by
  refine LinksKept.trans (t := { s with adm := { s.adm with queue := s.adm.queue ++ [w] } }) ⟨rfl, rfl, rfl, rfl⟩ ?_
  exact linksKept_wr _ (f := ADM_STATUS.BUSY) _ (by decide) (by decide)

theorem linksKept_enterStep8 : LinksKept s s.enterStep8 :=
  (linksKept_wr s (f := SLC_START.STEP) 8 (by decide) (by decide)).trans (linksKept_admSubmit ..)

/-- Step 7 skipped for its failures. -/
def State.calSkipped (s : State) : State := ((s.daybook ocSkip 7).setFlag DBK_DEGRADED.CAL true).setFlag STK_REF_TIER.CAL_OK false

theorem State.enterStep7_eq : s.enterStep7 = if (s.wr SLC_START.STEP 7).rd (failField 7) = 3 then (s.wr SLC_START.STEP 7).calSkipped.tierCheck.enterStep8
    else ((s.wr SLC_START.STEP 7).setFlag STK_CAL_GRANT.OPEN true).wr STK_CAL_GRANT.LEN_US 33000 := rfl

theorem linksKept_enterStep7 : LinksKept s s.enterStep7 := by
  have hstep := linksKept_wr s (f := SLC_START.STEP) 7 (by decide) (by decide)
  rw [State.enterStep7_eq]
  generalize s.wr SLC_START.STEP 7 = u at hstep
  split
  · have hskip : LinksKept u u.calSkipped := ((linksKept_daybook u ocSkip 7 0 0).trans
      (linksKept_wr _ (f := DBK_DEGRADED.CAL) _ (by decide) (by decide))).trans (linksKept_wr _ (f := STK_REF_TIER.CAL_OK) _ (by decide) (by decide))
    exact ((hstep.trans hskip).trans (linksKept_tierCheck _)).trans (linksKept_enterStep8 _)
  · exact (hstep.trans (linksKept_wr _ (f := STK_CAL_GRANT.OPEN) _ (by decide) (by decide))).trans
      (linksKept_wr _ (f := STK_CAL_GRANT.LEN_US) _ (by decide) (by decide))

theorem State.enterStep8_step : s.enterStep8.rd SLC_START.STEP = 8 := by
  have h : s.enterStep8.rd SLC_START.STEP = (s.wr SLC_START.STEP 8).rd SLC_START.STEP := State.rd_wr_apart _ _ (by decide)
  rw [h, State.rd_wr_same _ _ _ (by decide)]
  rfl

theorem State.enterStep7_step : s.enterStep7.rd SLC_START.STEP = 7 ∨ s.enterStep7.rd SLC_START.STEP = 8 := by
  rw [State.enterStep7_eq]
  split
  · exact Or.inr (State.enterStep8_step _)
  · refine Or.inl ?_
    rw [State.rd_wr_apart _ (f := STK_CAL_GRANT.LEN_US) _ (by decide), State.rd_setFlag_apart _ (f := STK_CAL_GRANT.OPEN) _ (by decide),
      State.rd_wr_same _ _ _ (by decide)]
    rfl

theorem linksKept_trainEnd (u : State) (stops : Bool) : LinksKept u (s.trainEnd u stops) := by
  have hshow : LinksKept u u.showMirLink := linksKept_wr u (f := MIR_STATUS.LINK_UP) _ (by decide) (by decide)
  unfold State.trainEnd
  generalize u.showMirLink = v at hshow
  split
  · exact hshow.trans (linksKept_wr v _ (by decide) (by decide))
  · refine (hshow.trans ?_).trans (linksKept_enterStep7 _)
    split
    · exact (linksKept_daybook v ocPass 6 0 0).trans (linksKept_stepPassed ..)
    · exact linksKept_refl v

theorem State.trainEnd_stopped (u : State) : (s.trainEnd u true).rd SLC_START.STATE = 3 ∧ (s.trainEnd u true).rd SLC_START.STEP = u.rd SLC_START.STEP := by
  have hstep : u.showMirLink.rd SLC_START.STEP = u.rd SLC_START.STEP := State.rd_setFlag_apart _ _ (by decide)
  rw [State.trainEnd, if_pos rfl, State.rd_wr_same _ _ _ (by decide), State.rd_wr_apart _ (f := SLC_START.STATE) _ (by decide), hstep]
  exact ⟨rfl, rfl⟩

/-! ### The command -/

theorem State.begin_canTrain (full half : BitVec 8) (n : Nat) : s.begin.canTrain full half n = s.canTrain full half n := by
  have hpair : s.begin.flag MIR_CTL.PAIR_EN = s.flag MIR_CTL.PAIR_EN := s.begin_flag rfl
  rw [State.canTrain, State.canTrain, State.trains, State.trains, State.casements, State.casements, State.begin_s64, State.isMesh, State.isMesh,
    State.begin_cfg, hpair, s.begin_rd (f := linkFailField n) rfl]

theorem State.begin_trains (n : Nat) : s.begin.trains n = s.trains n := by
  have hpair : s.begin.flag MIR_CTL.PAIR_EN = s.flag MIR_CTL.PAIR_EN := s.begin_flag rfl
  rw [State.trains, State.trains, State.casements, State.casements, State.begin_s64, State.isMesh, State.isMesh, State.begin_cfg, hpair]

theorem linkTraining_spec (s : State) (full half : BitVec 8) :
    let can := fun n : Nat => s.trains n = true ∧ s.rd (linkFailField n) ≠ 3 ∧ (full.getLsbD n = true ∨ half.getLsbD n = true)
    let stops := (∀ n : Nat, n < 4 → ¬ can n) ∨ ¬ can 4
    ∃ t, exec (.linkTraining full half) s = .next t ∧ (s.atStep 6 = false → Untouched s t)
      ∧ (s.atStep 6 = true → stops → t.rd SLC_START.STATE = 3 ∧ t.rd SLC_START.STEP = 6)
      ∧ (s.atStep 6 = true → ¬ stops → t.rd SLC_START.STEP = 7 ∨ t.rd SLC_START.STEP = 8)
      ∧ (s.atStep 6 = true → ∀ n : Nat, n < 8 → s.trains n = true → s.rd (linkFailField n) ≠ 3 → t.bit LNK_STATUS.UP n = decide (can n))
      ∧ (s.atStep 6 = true → ∀ n : Nat, n < 8 → s.trains n = true → s.rd (linkFailField n) ≠ 3 → t.bit LNK_STATUS.HALF n = decide (can n
        ∧ n ≠ 4 ∧ (0 < s.rd (linkFailField n) ∨ full.getLsbD n = false)))
      ∧ (s.atStep 6 = true → ∀ n : Nat, n < 8 → s.trains n = true → t.rd (linkFailField n) = (if s.rd (linkFailField n) = 3 then 3 else
        if ¬ can n then s.rd (linkFailField n) + 1 else if n ≠ 4 ∧ (0 < s.rd (linkFailField n) ∨ full.getLsbD n = false) then s.rd
        (linkFailField n) else 0))
      ∧ t.stk.tags = s.stk.tags
      ∧ t.coh = s.coh := by
  intro can stops
  have hcan (n : Nat) : s.canTrain full half n = true ↔ can n := by
    simp only [State.canTrain, can, Bool.and_eq_true, bne_iff_ne, Bool.or_eq_true, ne_eq, and_assoc]
  have hstops : s.begin.trainStops full half = true ↔ stops := by
    simp only [State.trainStops, State.begin_canTrain, stops, Bool.or_eq_true, List.all_eq_true, List.mem_range, Bool.not_eq_true', ← hcan,
      Bool.not_eq_true]
  refine ⟨_, (rfl : exec (.linkTraining full half) s = .next (s.begin.training full half).settle), ?_⟩
  cases hat : s.atStep 6
  · rw [s.begin.training_waits (by rw [s.begin_atStep, hat])]
    refine ⟨fun _ => untouched_begin s, fun h => ?_, fun h => ?_, fun h => ?_, fun h => ?_, fun h => ?_, ?_, s.begin_coh⟩
    · exact absurd h (by decide)
    · exact absurd h (by decide)
    · exact absurd h (by decide)
    · exact absurd h (by decide)
    · exact absurd h (by decide)
    · exact congrArg Stacks.tags s.begin_stk
  · rw [s.begin.training_eq (by rw [s.begin_atStep, hat])]
    have htr := trained_trainList (full := full) (half := half) s.begin (s.begin.trainOutcome full half) (l := List.range 8)
      (fun n hn => List.mem_range.mp hn) List.nodup_range
    generalize s.begin.trainList full half (s.begin.trainOutcome full half) (List.range 8) = u at htr
    have hkept := linksKept_trainEnd s.begin u (s.begin.trainStops full half)
    have hend := s.begin.trainEnd_stopped u
    have hgo : (s.begin.trainEnd u false).rd SLC_START.STEP = 7 ∨ (s.begin.trainEnd u false).rd SLC_START.STEP = 8 := State.enterStep7_step _
    have hstep : u.rd SLC_START.STEP = 6 := by
      have h6 : s.rd SLC_START.STEP = 6 := of_decide_eq_true (Bool.and_eq_true_iff.mp hat).1
      rw [← h6]
      exact State.rdI_congr SLC_START.STEP 0 ((htr.word _ (by decide) rfl).trans (s.word_begin _ rfl))
    have hfail (n : Nat) : s.begin.rd (linkFailField n) = s.rd (linkFailField n) := s.begin_rd rfl
    refine ⟨fun h => absurd h (by decide), fun _ h => ?_, fun _ h => ?_, fun _ n hn ht h3 => ?_, fun _ n hn ht h3 => ?_, fun _ n hn ht => ?_, ?_, ?_⟩
    · rw [hstops.mpr h]
      exact ⟨hend.1, hend.2.trans hstep⟩
    · rw [Bool.eq_false_iff.mpr (mt hstops.mp h)]
      exact hgo
    · refine (State.bit_congr (State.rdI_congr LNK_STATUS.UP 0 hkept.links) n).trans ?_
      rw [htr.upBit, if_pos ⟨List.mem_range.mpr hn, by rw [s.begin_trains, ht]⟩, State.upAfter, hfail, if_neg h3]
      simp [can, ht, h3]
    · refine (State.bit_congr (State.rdI_congr LNK_STATUS.HALF 0 hkept.links) n).trans ?_
      rw [htr.halfBit, if_pos ⟨List.mem_range.mpr hn, by rw [s.begin_trains, ht]⟩, State.halfAfter, hfail, if_neg h3]
      simp [can, ht, h3]
    · refine (State.rdI_congr (linkFailField n) 0 hkept.fails).trans ?_
      refine (htr.fails n).trans ?_
      rw [if_pos ⟨List.mem_range.mpr hn, by rw [s.begin_trains, ht]⟩, State.failsAfter, hfail]
      by_cases h3 : s.rd (linkFailField n) = 3
      · rw [if_pos h3, if_pos h3]
      · rw [if_neg h3, if_neg h3]
        cases hup : full.getLsbD n || half.getLsbD n
        · have hno : ¬ can n := by
            rintro ⟨_, _, h⟩
            rw [← Bool.or_eq_true, hup] at h
            exact absurd h (by decide)
          rw [if_neg (by decide), if_pos hno]
        · have hyes : can n := ⟨ht, h3, by rw [← Bool.or_eq_true, hup]⟩
          rw [if_pos rfl, if_neg (not_not.mpr hyes)]
          simp
    · exact congrArg Stacks.tags ((hkept.stk.trans htr.stk).trans s.begin_stk)
    · exact (hkept.coh.trans htr.coh).trans s.begin_coh

end Sys2Proof.Machine
end

section
/-! O53: a word of link credits (R396), and the replay of a link (R395). -/

namespace Sys2Proof.Machine

variable (s : State)

/-! ### A message that departs on a casement without an injector -/

/-- A message that leaves takes no credit and no place in the queue by itself, and touches no other link. -/
structure LeftOn (c : Nat) (s u : State) : Prop where
  dep : Departed s u
  tran : u.tran = s.tran
  other : ∀ n, n ≠ c → u.link n = s.link n

theorem LeftOn.refl (c : Nat) (s : State) : LeftOn c s s := ⟨Departed.refl s, rfl, fun _ _ => rfl⟩

theorem LeftOn.trans {c : Nat} {s t u : State} (hst : LeftOn c s t) (htu : LeftOn c t u) : LeftOn c s u :=
  ⟨hst.dep.trans htu.dep, htu.tran.trans hst.tran, fun n hn => (htu.other n hn).trans (hst.other n hn)⟩

theorem leftOn_setLink (c : Nat) (l : Link) : LeftOn c s (s.setLink c l) :=
  ⟨departed_setLink .., rfl, fun _ hn => (State.link_setLink ..).trans (if_neg hn)⟩

theorem leftOn_event (c code : Nat) (lane label : Option Nat) (inc : Nat) : LeftOn c s (s.event code lane label inc) :=
  ⟨departed_event .., State.event_tran .., fun _ _ => by rw [State.link, State.event_front]; rfl⟩

theorem leftOn_emit (c : Nat) (o : Out) : LeftOn c s (s.emit o) := ⟨departed_emit .., rfl, fun _ _ => rfl⟩

/-- A casement's link with one more message sent on it. -/
def Link.sending (l : Link) (o : BitVec 10 → Out) : Link :=
  { l with txNext := l.txNext + 1, replay := (l.replay ++ [(l.txNext, o l.txNext)]).drop ((l.replay ++ [(l.txNext, o l.txNext)]).length - 64) }

theorem State.transmit_casement (c : Nat) (m : Msg) : s.transmit c (fun q => .casement c q m) id true =
    (s.setLink c ((s.link c).sending (fun q => .casement c q m))).emit (.casement c (s.link c).txNext m) := rfl

theorem State.depart_of_uninjected {c : Nat} (hc : c < 8) (h : Uninjected s c) (m : Msg) : s.depart c m =
    (s.event 0x51 (inc := 2 * (1 + m.body.slots))).transmit c (fun q => .casement c q m) id true := by
  have he := (departed_event s 0x51 none none (2 * (1 + m.body.slots))).uninjected hc h
  have hd : Uninjected ((s.event 0x51 (inc := 2 * (1 + m.body.slots))).transmit c (fun q => .casement c q m) id true) c := by
    rw [State.transmit_casement]
    exact (departed_emit ..).uninjected hc ((departed_setLink ..).uninjected hc he)
  unfold State.depart State.sendOn
  rw [State.inject_of_uninjected _ he]
  dsimp only
  rw [hd.2]

theorem leftOn_depart {c : Nat} (hc : c < 8) (h : Uninjected s c) (m : Msg) : LeftOn c s (s.depart c m)
    ∧ ((s.depart c m).link c).credits = (s.link c).credits ∧ ((s.depart c m).link c).queue = (s.link c).queue := by
  have hlink : (s.event 0x51 (inc := 2 * (1 + m.body.slots))).link c = s.link c := by rw [State.link, State.event_front]; rfl
  have hform : s.depart c m = ((s.event 0x51 (inc := 2 * (1 + m.body.slots))).setLink c ((s.link c).sending (fun q => .casement c q m))).emit
      (.casement c (s.link c).txNext m) := by
    rw [s.depart_of_uninjected hc h, State.transmit_casement, hlink]
  have hafter : (s.depart c m).link c = (s.link c).sending (fun q => .casement c q m) := by
    rw [hform]
    exact (State.link_setLink ..).trans (if_pos rfl)
  refine ⟨?_, by rw [hafter]; rfl, by rw [hafter]; rfl⟩
  rw [hform]
  exact ((leftOn_event s c ..).trans (leftOn_setLink ..)).trans (leftOn_emit ..)

/-! ### Messages of one class leave in order -/

theorem erase_find_filter {α : Type} [DecidableEq α] {p : α → Bool} {l : List α} {m : α} (h : l.find? p = some m) :
    l.filter p = m :: (l.erase m).filter p ∧ (l.erase m).filter (fun x => !p x) = l.filter (fun x => !p x) := by
  induction l with
  | nil => exact absurd h (by simp)
  | cons a l ih =>
    cases ha : p a
    · rw [List.find?_cons_of_neg (by simp [ha])] at h
      have hne : a ≠ m := fun ham => absurd (List.find?_some h) (by rw [← ham, ha]; decide)
      obtain ⟨h1, h2⟩ := ih h
      rw [List.erase_cons_tail (by simpa using hne)]
      simp [ha, h1, h2]
    · rw [List.find?_cons_of_pos ha] at h
      obtain rfl := Option.some_inj.mp h
      simp [ha]

/-- Messages of class `k` have left casement `c` while credits lasted. -/
structure ClassDrained (c k : Nat) (s u : State) : Prop where
  left : LeftOn c s u
  credits : TabBut 0 [k] (s.link c).credits (u.link c).credits
  count : tget 0 (u.link c).credits k + min (tget 0 (s.link c).credits k) ((s.link c).queue.filter (fun m => m.cls = k)).length
    = tget 0 (s.link c).credits k
  queue : (u.link c).queue.filter (fun m => m.cls = k) = ((s.link c).queue.filter (fun m => m.cls = k)).drop (tget 0 (s.link c).credits k)
  rest : (u.link c).queue.filter (fun m => m.cls ≠ k) = (s.link c).queue.filter (fun m => m.cls ≠ k)

/-- Nothing leaves: no credit, or no message of the class. -/
theorem classDrained_refl {c k : Nat} (h : min (tget 0 (s.link c).credits k) ((s.link c).queue.filter (fun m => m.cls = k)).length = 0) :
    ClassDrained c k s s := by
  refine ⟨LeftOn.refl c s, fun _ _ => rfl, by omega, ?_, rfl⟩
  rcases Nat.min_eq_zero_iff.mp h with h0 | h0
  · rw [h0, List.drop_zero]
  · rw [List.length_eq_zero_iff.mp h0, List.drop_nil]

theorem classDrained_drainLink {c : Nat} (hc : c < 8) (k n : Nat) {s : State} (h : Uninjected s c)
    (hn : min (tget 0 (s.link c).credits k) ((s.link c).queue.filter (fun m => m.cls = k)).length ≤ n) :
    ClassDrained c k s (s.drainLink c k n) := by
  induction n generalizing s with
  | zero => exact classDrained_refl s (by omega)
  | succ n ih =>
    unfold State.drainLink
    extract_lets l cr
    split
    · rename_i m hm
      obtain ⟨hhead, hrest⟩ := erase_find_filter hm
      split
      · rename_i h0
        exact classDrained_refl s (by rw [show tget 0 (s.link c).credits k = 0 from h0]; simp)
      · rename_i h0
        have hset := leftOn_setLink s c { l with credits := tput 0 l.credits k (cr - 1), queue := l.queue.erase m }
        have hlink := s.link_setLink c c { l with credits := tput 0 l.credits k (cr - 1), queue := l.queue.erase m }
        rw [if_pos rfl] at hlink
        generalize s.setLink c { l with credits := tput 0 l.credits k (cr - 1), queue := l.queue.erase m } = v at hset hlink
        have hv : Uninjected v c := hset.dep.uninjected hc h
        obtain ⟨hleft, hcred, hqueue⟩ := leftOn_depart v hc hv m
        rw [hlink] at hcred hqueue
        simp only at hcred hqueue
        have hcr : tget 0 ((v.depart c m).link c).credits k = cr - 1 := by rw [hcred, tget_tput_same]
        have hlen : ((s.link c).queue.filter (fun m => m.cls = k)).length =
            (((v.depart c m).link c).queue.filter (fun m => m.cls = k)).length + 1 := by
          rw [hqueue, hhead]
          rfl
        have hcr0 : tget 0 (s.link c).credits k = cr := rfl
        have hd := ih (s := v.depart c m) (hleft.dep.uninjected hc hv) (by rw [hcr]; omega)
        refine ⟨(hset.trans hleft).trans hd.left, fun j hj => ?_, ?_, ?_, ?_⟩
        · rw [← hd.credits j hj, hcred, tget_tput, if_neg (by simpa using hj)]
        · have hcount := hd.count
          rw [hcr] at hcount
          rw [hcr0]
          omega
        · rw [hd.queue, hcr, hqueue, hcr0, hhead]
          have hsucc : cr = (cr - 1) + 1 := by omega
          conv_rhs => rw [hsucc]
          rfl
        · rw [hd.rest, hqueue]
          simpa using hrest
    · rename_i hm
      refine classDrained_refl s ?_
      have hnil : (s.link c).queue.filter (fun m => m.cls = k) = [] := by
        rw [List.filter_eq_nil_iff]
        exact List.find?_eq_none.mp hm
      rw [hnil]
      simp

/-! ### A word of link credits -/

theorem State.begin_casementUp (c : Nat) : s.begin.casementUp c = s.casementUp c := by
  have hup : s.begin.rd LNK_STATUS.UP = s.rd LNK_STATUS.UP := s.begin_rd rfl
  have hst : s.begin.rd PWR_STATUS.STATE = s.rd PWR_STATUS.STATE := s.begin_rd rfl
  rw [State.casementUp, State.casementUp, State.casements, State.casements, State.begin_s64, State.isMesh, State.isMesh, State.begin_cfg,
    State.bit, State.bit, hup, State.dark, State.dark, hst]

/-- The frame of a message that left, as a command ends. -/
theorem LeftOn.onlyRegs {s u : State} {c : Nat} (h : LeftOn c s.begin u) : OnlyRegs { s with front := u.settle.front } u.settle := by
  have hf := h.dep.only
  have ht := h.tran
  generalize u.regs = R, u.front = F, u.tran = T, u.pmuFrz = Z, u.out = O at hf ht
  subst ht
  subst hf
  apply onlyRegs_settle <;> simp

theorem creditWordReceive_spec (s : State) (cas : BitVec 2) (w : Word) :
    let c := cas.toNat
    let l := s.link c
    let pool := w.toNat / 2 ^ 28 % 8
    let taken := s.casementUp c = true ∧ w.getLsbD 31 = true ∧ (poolClass pool).isSome = true
    Uninjected s c →
    ∃ t, exec (.creditWordReceive cas w) s = .next t ∧ (¬ taken → Untouched s t)
      ∧ (∀ k : Nat, poolClass pool = some k → taken → tget 0 (t.link c).credits k + min (tget 0 l.credits k + w.toNat / 2 ^ 8 % 256)
        (l.queue.filter (fun m => m.cls = k)).length = tget 0 l.credits k + w.toNat / 2 ^ 8 % 256)
      ∧ (∀ k : Nat, poolClass pool = some k → taken → (t.link c).queue.filter (fun m => m.cls = k) = (l.queue.filter (fun m => m.cls =
        k)).drop (tget 0 l.credits k + w.toNat / 2 ^ 8 % 256) ∧ (t.link c).queue.filter (fun m => m.cls ≠ k) = l.queue.filter (fun m =>
        m.cls ≠ k))
      ∧ (∀ k : Nat, poolClass pool = some k → TabBut 0 [k] l.credits (t.link c).credits)
      ∧ (∀ n : Nat, n < 8 → n ≠ c → t.link n = s.link n)
      ∧ OnlyRegs { s with front := t.front } t
      ∧ RegsBut [] s t := by
  intro c l pool taken hinj
  have hc : c < 8 := by
    have := cas.isLt
    simp only [c]
    omega
  have hexec : exec (.creditWordReceive cas w) s = .next (if s.begin.casementUp c then s.begin.creditWordIn c w else s.begin).settle := rfl
  have hlinks : s.begin.link = s.link := by
    funext n
    rw [State.link, State.begin_front]
    rfl
  by_cases ht : taken
  · obtain ⟨hup, hv, hp⟩ := ht
    obtain ⟨k, hk⟩ := Option.isSome_iff_exists.mp hp
    have hform : s.begin.creditWordIn c w = (s.begin.setLink c { l with credits := tput 0 l.credits k (tget 0 l.credits k + w.toNat / 2 ^ 8 % 256) }).drainLink
        c k (w.toNat / 2 ^ 8 % 256 + l.queue.length) := by
      unfold State.creditWordIn
      rw [show poolClass (w.toNat / 2 ^ 28 % 8) = some k from hk, hv, hlinks]
    rw [s.begin_casementUp, if_pos hup, hform] at hexec
    have hset := leftOn_setLink s.begin c { l with credits := tput 0 l.credits k (tget 0 l.credits k + w.toNat / 2 ^ 8 % 256) }
    have hlink := s.begin.link_setLink c c { l with credits := tput 0 l.credits k (tget 0 l.credits k + w.toNat / 2 ^ 8 % 256) }
    rw [if_pos rfl] at hlink
    generalize s.begin.setLink c { l with credits := tput 0 l.credits k (tget 0 l.credits k + w.toNat / 2 ^ 8 % 256) } = v at hset hlink hexec
    have hcr : tget 0 (v.link c).credits k = tget 0 l.credits k + w.toNat / 2 ^ 8 % 256 := by rw [hlink, tget_tput_same]
    have hq : (v.link c).queue = l.queue := by rw [hlink]
    have hd : ClassDrained c k v (v.drainLink c k (w.toNat / 2 ^ 8 % 256 + l.queue.length)) := by
      refine classDrained_drainLink hc k _ (hset.dep.uninjected hc (s.begin_uninjected hc hinj)) ?_
      have := List.length_filter_le (fun m : Msg => decide (m.cls = k)) (v.link c).queue
      rw [hq] at this ⊢
      omega
    have hleft := hset.trans hd.left
    have hcount := hd.count
    have hqueue := hd.queue
    have hrest := hd.rest
    rw [hcr, hq] at hcount hqueue
    rw [hq] at hrest
    have hone (j : Nat) (hj : poolClass pool = some j) : j = k := Option.some_inj.mp (hj.symm.trans hk)
    refine ⟨_, hexec, fun h => absurd ⟨hup, hv, hp⟩ h, fun j hj _ => ?_, fun j hj _ => ?_, fun j hj i hi => ?_, fun n _ hn => ?_,
      LeftOn.onlyRegs hleft, fun i _ hi => ?_⟩
    · rw [hone j hj]
      exact hcount
    · rw [hone j hj]
      exact ⟨hqueue, hrest⟩
    · rw [hone j hj] at hi
      refine Eq.trans ?_ (hd.credits i hi)
      rw [hlink, tget_tput, if_neg (by simpa using hi)]
    · exact (hleft.other n hn).trans (by rw [hlinks])
    · exact (hleft.dep.words i hi).trans (s.word_begin i hi)
  · have hsame : (if s.begin.casementUp c then s.begin.creditWordIn c w else s.begin) = s.begin := by
      split
      · rename_i hup
        rw [s.begin_casementUp] at hup
        unfold State.creditWordIn
        split
        · rename_i k hk hv
          exact absurd ⟨hup, hv, by rw [show poolClass pool = some k from hk]; rfl⟩ ht
        · rfl
      · rfl
    rw [hsame] at hexec
    refine ⟨_, hexec, fun _ => untouched_begin s, fun k _ h => absurd h ht, fun k _ h => absurd h ht, fun k _ j _ => ?_, fun n _ _ => ?_,
      LeftOn.onlyRegs (LeftOn.refl c s.begin), fun k _ hp => s.word_begin k hp⟩
    · exact congrArg (fun f : Nat → Link => tget 0 (f c).credits j) hlinks.symm
    · exact congrFun hlinks n

/-! ### The replay of a link -/

theorem State.replayAll_eq (n : Nat) : s.replayAll n = { s with out := s.out ++ (s.link n).replay.map (fun x => x.2) } := by
  unfold State.replayAll
  generalize (s.link n).replay = l
  induction l generalizing s with
  | nil => simp
  | cons x l ih =>
    rw [List.foldl_cons, ih]
    simp [State.emit]

theorem State.replayLink_idle {n : Nat} (h : (s.link n).replay = []) : s.replayLink n = s := by
  unfold State.replayLink
  extract_lets l
  rw [if_pos (by rw [List.isEmpty_iff]; exact h)]

theorem State.replayLink_again {n : Nat} (h : (s.link n).replay ≠ []) (h' : (s.link n).replays < 15) : s.replayLink n =
    { s.setLink n { s.link n with replays := (s.link n).replays + 1 } with out := s.out ++ (s.link n).replay.map (fun x => x.2) } := by
  unfold State.replayLink
  extract_lets l
  have hlink : (s.setLink n { l with replays := l.replays + 1 }).link n = { l with replays := l.replays + 1 } :=
    (State.link_setLink ..).trans (if_pos rfl)
  rw [if_neg (by rw [List.isEmpty_iff]; exact h), if_neg (by simp only [l]; omega), State.replayAll_eq, hlink]
  rfl

/-- A link declared down: what it held is gone. -/
def State.linkDropped (s : State) (n : Nat) : State :=
  ((s.shownDown n).setLink n Link.init).fault 10 1 2 (detail := n) (srcKind := 3) (srcId := n)

theorem State.replayLink_down {n : Nat} (h : (s.link n).replay ≠ []) (h' : 15 ≤ (s.link n).replays) (hup : s.bit LNK_STATUS.UP n = true) :
    s.replayLink n = s.linkDropped n := by
  unfold State.replayLink
  extract_lets l
  rw [if_neg (by rw [List.isEmpty_iff]; exact h), if_pos (by simp only [l]; omega), State.linkDown, if_pos hup]
  rfl

/-- At most registers, the links and the fault log change. -/
def OnlyRelinked (s u : State) : Prop := u = { s with regs := u.regs, front := { s.front with links := u.front.links }, err := u.err }

theorem OnlyRelinked.trans {s t u : State} (hst : OnlyRelinked s t) (htu : OnlyRelinked t u) : OnlyRelinked s u := by
  unfold OnlyRelinked at *
  rw [htu, hst]

theorem OnlyFault.relinked {s u : State} (h : OnlyFault s u) : OnlyRelinked s u := by
  unfold OnlyFault at h
  rw [h]
  rfl

theorem onlyRelinked_linkDropped (n : Nat) : OnlyRelinked s (s.linkDropped n) :=
  OnlyRelinked.trans (t := (s.shownDown n).setLink n Link.init)
    (OnlyRelinked.trans (t := s.shownDown n) (onlyRegFile_shownDown s n).onlyFault.relinked rfl) (onlyFault_fault ..).relinked

theorem OnlyRelinked.onlyRegs {s u : State} (h : OnlyRelinked s.begin u) (o : List Out) :
    OnlyRegs { s with front := { s.front with links := u.front.links }, err := u.settle.err } (State.settle { u with out := o }) := by
  unfold OnlyRelinked at h
  generalize u.regs = R, u.front.links = K, u.err = E at h
  subst h
  apply onlyRegs_settle <;> simp

theorem linkReplayTimeout_spec (s : State) (link : BitVec 3) :
    let n := link.toNat
    let l := s.link n
    let idle := s.bit LNK_STATUS.UP n = false ∨ l.replay = []
    ∃ t, exec (.linkReplayTimeout link) s = .next t ∧ (idle → Untouched s t)
      ∧ (¬ idle → 15 ≤ l.replays → t.bit LNK_STATUS.UP n = false ∧ t.bit LNK_STATUS.HALF n = false ∧ t.link n = Link.init ∧ t.out = [])
      ∧ (¬ idle → l.replays < 15 → t.link n = { l with replays := l.replays + 1 } ∧ t.out = l.replay.map (fun x => x.2) ∧ RegsBut [] s t)
      ∧ OnlyRegs { s with front := { s.front with links := t.front.links }, err := t.err } t
      ∧ RegsBut (LNK_STATUS.word.off :: faultRegs 10) s t := by
  intro n l idle
  have hn : n < 8 := link.isLt
  have hexec : exec (.linkReplayTimeout link) s = .next (if s.begin.bit LNK_STATUS.UP n then s.begin.replayLink n else s.begin).settle := rfl
  have hup : s.begin.bit LNK_STATUS.UP n = s.bit LNK_STATUS.UP n := State.bit_congr (s.begin_rd rfl) n
  have hl : s.begin.link n = l := by
    rw [State.link, State.begin_front]
    rfl
  by_cases hi : idle
  · have hsame : (if s.begin.bit LNK_STATUS.UP n then s.begin.replayLink n else s.begin) = s.begin := by
      rcases hi with hi | hi
      · rw [hup, hi, if_neg (by decide)]
      · rw [s.begin.replayLink_idle (by rw [hl]; exact hi), ite_self]
    rw [hsame] at hexec
    refine ⟨_, hexec, fun _ => untouched_begin s, fun h => absurd hi h, fun h => absurd hi h, ?_, fun k _ hp => s.word_begin k hp⟩
    exact OnlyRelinked.onlyRegs (s := s) (u := s.begin) rfl s.begin.out
  · obtain ⟨h1, h2⟩ := not_or.mp hi
    rw [Bool.not_eq_false] at h1
    rw [hup, if_pos h1] at hexec
    rcases Nat.lt_or_ge l.replays 15 with hr | hr
    · rw [s.begin.replayLink_again (by rw [hl]; exact h2) (by rw [hl]; exact hr), hl] at hexec
      have hword (k : Nat) (hp : pmuBlock k = false) :
          (State.settle { s.begin.setLink n { l with replays := l.replays + 1 } with out := s.begin.out ++ l.replay.map (fun x => x.2) }).word k
            = s.word k := (State.word_congr rfl rfl k : _ = s.begin.word k).trans (s.word_begin k hp)
      refine ⟨_, hexec, fun h => absurd h hi, fun _ h => absurd h (by omega), fun _ _ => ⟨?_, ?_, fun k _ hp => hword k hp⟩, ?_,
        fun k _ hp => hword k hp⟩
      · exact (State.link_setLink s.begin n n _).trans (if_pos rfl)
      · change s.begin.out ++ _ = _
        rw [s.begin_out, List.nil_append]
      · exact OnlyRelinked.onlyRegs (s := s) (u := s.begin.setLink n { l with replays := l.replays + 1 }) rfl _
    · rw [s.begin.replayLink_down (by rw [hl]; exact h2) (by rw [hl]; exact hr) (by rw [hup, h1])] at hexec
      have honly := onlyRelinked_linkDropped s.begin n
      have hst (f : Field) (hf : f.off = LNK_STATUS.word.off) (hs : f.stride = 0) :
          (s.begin.linkDropped n).rd f = (s.begin.shownDown n).rd f := State.rd_fault _ (by rw [hf]; decide) hs ..
      have hlink : (s.begin.linkDropped n).front.links = ((s.begin.shownDown n).setLink n Link.init).front.links := by
        rw [State.linkDropped, State.fault_eq]
      refine ⟨_, hexec, fun h => absurd h hi, fun _ _ => ⟨?_, ?_, ?_, ?_⟩, fun _ h => absurd h (by omega),
        honly.onlyRegs (s.begin.linkDropped n).out, fun k hk hp => ?_⟩
      · refine (State.bit_congr (hst LNK_STATUS.UP rfl rfl) n).trans ?_
        rw [(s.begin.shownDown_bit hn n).1]
        simp
      · refine (State.bit_congr (hst LNK_STATUS.HALF rfl rfl) n).trans ?_
        rw [(s.begin.shownDown_bit hn n).2]
        simp
      · have hinit := (s.begin.shownDown n).link_setLink n n Link.init
        rw [if_pos rfl] at hinit
        rw [← hinit]
        exact congrArg (fun t => tget Link.init t n) hlink
      · unfold OnlyRelinked at honly
        rw [State.settle_out, honly]
        exact s.begin_out
      · rw [List.mem_cons, not_or] at hk
        refine Eq.trans ?_ (s.word_begin k hp)
        refine (State.word_fault _ _ _ _ _ _ _ _ _ _ _ hk.2).trans ?_
        exact (State.word_congr rfl rfl k).trans (s.begin.word_shownDown hk.1 n)

end Sys2Proof.Machine
end

section
/-! O53: a flit on a casement (R394, R395, R400), and the statement whole. -/

namespace Sys2Proof.Machine

variable (s : State)

/-! ### Credits of a request -/

theorem State.poolOf_congr {s t : State} (h : s.front.winAct = t.front.winAct) (hw : s.word WIN_CTL.word.off = t.word WIN_CTL.word.off)
    (r : Req) (kind : Nat) : s.poolOf r kind = t.poolOf r kind := by
  have hwin (f : Field) (w : Nat) : s.win f w = t.win f w := by rw [State.win, State.win, h]
  have hwinOn (w : Nat) : s.winOn w = t.winOn w := State.bit_congr (State.rdI_congr WIN_CTL.ACTIVE 0 hw) w
  have hwinOf : s.winOf r = t.winOf r := by simp only [State.winOf, hwin, hwinOn]
  rw [State.poolOf, State.poolOf, hwinOf]

/-! ### Flits that bring no message -/

/-- An ACK or a NAK of link `c`, and what its receiver expects next. -/
def State.heard (s : State) (c : Nat) (l : Link) (nak : Bool) (q : BitVec 10) : State := (s.setLink c l).emit (.ack c nak q)

theorem State.heard_link (c : Nat) (l : Link) (nak : Bool) (q : BitVec 10) : (s.heard c l nak q).link c = l :=
  (State.link_setLink ..).trans (if_pos rfl)

/-- At most the links and what is sent change. -/
def OnlyHeard (s u : State) : Prop := u = { s with front := { s.front with links := u.front.links }, out := u.out }

theorem onlyHeard_heard (c : Nat) (l : Link) (nak : Bool) (q : BitVec 10) : OnlyHeard s (s.heard c l nak q) := rfl

theorem OnlyHeard.regs {s u : State} (h : OnlyHeard s u) : u.regs = s.regs ∧ u.s64 = s.s64 := by
  unfold OnlyHeard at h
  rw [h]
  exact ⟨rfl, rfl⟩

theorem OnlyHeard.frame {s u : State} (h : OnlyHeard s.begin u) :
    OnlyRegs { s with front := { s.front with links := u.settle.front.links } } u.settle ∧ RegsBut [] s u.settle := by
  have hr := h.regs
  refine ⟨?_, fun k _ hp => (State.word_congr (t := s.begin) hr.2 hr.1 k).trans (s.word_begin k hp)⟩
  unfold OnlyHeard at h
  generalize u.front.links = K, u.out = O at h
  subst h
  apply onlyRegs_settle <;> simp

/-- A flit's CRC is right, and its beats are in their places. -/
def flitGood (flit : BitVec 2048) (sb0 sb1 : BitVec 64) : Bool := crc32c 256 flit = sb1.extractLsb' 0 32 && sb0.getLsbD 63 && !(sb1.getLsbD 63)

theorem flitGood_iff {flit : BitVec 2048} {sb0 sb1 : BitVec 64} : flitGood flit sb0 sb1 = true ↔
    crc32c 256 flit = sb1.extractLsb' 0 32 ∧ sb0.getLsbD 63 = true ∧ sb1.getLsbD 63 = false := by
  rw [flitGood, Bool.and_eq_true, Bool.and_eq_true, decide_eq_true_eq, Bool.not_eq_true', and_assoc]

theorem State.ackIn_none {sb : BitVec 64} (h : sb.getLsbD 44 = false) (n : Nat) : s.ackIn n sb = s := by
  unfold State.ackIn
  rw [if_pos (by rw [h]; rfl)]

section
variable {c : Nat} {flit : BitVec 2048} {sb0 sb1 : BitVec 64} (h0 : sb0.getLsbD 44 = false) (h1 : sb1.getLsbD 44 = false)
include h0 h1

theorem State.flitIn_bad (hg : flitGood flit sb0 sb1 = false) :
    s.flitIn c flit sb0 sb1 = s.heard c { s.link c with rxNak := true } true ((s.link c).rxNext - 1) := by
  unfold State.flitIn
  rw [s.ackIn_none h0, s.ackIn_none h1]
  extract_lets v l seq good
  rw [if_pos (show (!good) = true by rw [show good = false from hg]; rfl)]
  rfl

theorem State.flitIn_ahead (hg : flitGood flit sb0 sb1 = true) (hs : sb0.extractLsb' 53 10 ≠ (s.link c).rxNext) :
    s.flitIn c flit sb0 sb1 = if 512 ≤ ((sb0.extractLsb' 53 10 : BitVec 10) - (s.link c).rxNext).toNat then
        s.emit (.ack c false ((s.link c).rxNext - 1))
      else if (s.link c).rxNak then s else s.heard c { s.link c with rxNak := true } true ((s.link c).rxNext - 1) := by
  unfold State.flitIn
  rw [s.ackIn_none h0, s.ackIn_none h1]
  extract_lets v l seq good
  rw [if_neg (show ¬ (!good) = true by rw [show good = true from hg]; decide), if_pos (bne_iff_ne.mpr hs)]
  rfl

theorem State.flitIn_next (hg : flitGood flit sb0 sb1 = true) (hs : sb0.extractLsb' 53 10 = (s.link c).rxNext) :
    s.flitIn c flit sb0 sb1 = (List.range 8).foldl (fun s i => if sb0.getLsbD (45 + i) then s.msgThrough c flit i else s)
      (s.heard c { s.link c with rxNext := (s.link c).rxNext + 1, rxNak := false } false (sb0.extractLsb' 53 10)) := by
  unfold State.flitIn
  rw [s.ackIn_none h0, s.ackIn_none h1]
  extract_lets v l seq good
  have hno : ¬ (seq != l.rxNext) = true := by
    rw [bne_iff_ne, not_not]
    exact hs
  rw [if_neg (show ¬ (!good) = true by rw [show good = true from hg]; decide), if_neg hno]
  rfl

end

/-- The beats in which a message begins. -/
theorem starts_bit {sb : BitVec 64} {v : Nat} (h : sb.extractLsb' 45 8 = BitVec.ofNat 8 v) {i : Nat} (hi : i < 8) :
    sb.getLsbD (45 + i) = v.testBit i := by
  have hbit := congrArg (fun b : BitVec 8 => b.getLsbD i) h
  rw [BitVec.getLsbD_ofNat, decide_eq_true hi, Bool.true_and] at hbit
  rw [← hbit]
  simp [hi]

/-- A flit in which no message begins. -/
theorem State.noMessages {sb : BitVec 64} (h : sb.extractLsb' 45 8 = 0) (c : Nat) (flit : BitVec 2048) :
    (List.range 8).foldl (fun s i => if sb.getLsbD (45 + i) then s.msgThrough c flit i else s) s = s := by
  have hno : ∀ i ∈ List.range 8, sb.getLsbD (45 + i) = false := fun i hi => by
    rw [starts_bit (v := 0) h (List.mem_range.mp hi), Nat.zero_testBit]
  generalize List.range 8 = l at hno
  induction l with
  | nil => rfl
  | cons i l ih =>
    rw [List.foldl_cons, hno i (List.mem_cons_self ..), if_neg (by decide)]
    exact ih (fun j hj => hno j (List.mem_cons_of_mem _ hj))

/-- A flit in which one message begins, in its first slot. -/
theorem State.oneMessage {sb : BitVec 64} (h : sb.extractLsb' 45 8 = 1) (c : Nat) (flit : BitVec 2048) :
    (List.range 8).foldl (fun s i => if sb.getLsbD (45 + i) then s.msgThrough c flit i else s) s = s.msgThrough c flit 0 := by
  have hbit (i : Nat) (hi : i < 8) : sb.getLsbD (45 + i) = (1 : Nat).testBit i := starts_bit (v := 1) h hi
  have hrange : List.range 8 = [0, 1, 2, 3, 4, 5, 6, 7] := rfl
  rw [hrange]
  simp only [List.foldl_cons, List.foldl_nil, hbit 0 (by decide), hbit 1 (by decide), hbit 2 (by decide), hbit 3 (by decide), hbit 4 (by decide),
    hbit 5 (by decide), hbit 6 (by decide), hbit 7 (by decide)]
  rfl

/-! ### A request that arrives -/

theorem mPlen_lt (h : BitVec 256) : mPlen h < 8 := (h.extractLsb' 45 3).isLt

/-- The PMU has counted the arrival of a message. -/
def State.arrival (s : State) (h : BitVec 256) : State := s.event 0x50 (inc := 2 * (1 + mPlen h))

theorem State.msgIn_request {c : Nat} {flit : BitVec 2048} (hk : mKnown (flit.extractLsb' 0 256) = true)
    (hf : mFaulty (flit.extractLsb' 0 256) = false) (hc : mCls (flit.extractLsb' 0 256) = 0) : s.msgIn c flit 0 =
    (s.arrival (flit.extractLsb' 0 256)).enterReq (mInstr c flit 0) (mReq c (flit.extractLsb' 0 256)) := by
  have hlen : ¬ 8 < 0 + 1 + mPlen (flit.extractLsb' 0 256) := by
    have := mPlen_lt (flit.extractLsb' 0 256)
    omega
  unfold State.msgIn
  extract_lets h d u v
  have hv : v = s.arrival (flit.extractLsb' 0 256) := if_neg (by rw [show mCls h = 0 from hc]; decide)
  rw [if_neg (show ¬ (!(mKnown h)) = true by rw [show mKnown h = true from hk]; decide),
    if_neg (show ¬ (mFaulty h || decide (8 < 0 + 1 + mPlen h)) = true by rw [show mFaulty h = false from hf, Bool.false_or, decide_eq_true_eq]; exact hlen),
    hv]
  have hcls : mCls h = 0 := hc
  rw [hcls] <;> rfl

/-- The request enters the buffer with its credit. -/
def State.entered1 (s : State) (i : Instr) (k : Nat) : State :=
  let u := s.setCredit k (s.credit k - 1)
  { u with front := { u.front with inbox := u.front.inbox ++ [i] } }

/-- The request is refused without a credit. -/
def State.creditless (s : State) (i : Instr) (r : Req) : State :=
  (s.fault 8 1 1 (detail := r.label.toNat ||| (poolKind i) <<< 8) (loc := some r.line) (status := stRefused)
    (srcKind := srcKindOf r.who) (srcId := r.who.id.toNat)).complete r stRefused rsnField

theorem State.enterReq_online (h : s.online = true) (i : Instr) (r : Req) : s.enterReq i r =
    if s.credit (s.poolOf r (poolKind i)) = 0 then s.creditless i r else s.entered1 i (s.poolOf r (poolKind i)) := by
  unfold State.enterReq
  extract_lets k room
  rw [if_neg (by rw [h]; decide)]
  rfl

theorem holds_enterReq (h : s.online = true) (i : Instr) (r : Req) : HoldsNoMore s (s.enterReq i r) := by
  rw [s.enterReq_online h]
  split
  · exact (holds_fault ..).trans (holds_complete ..)
  · exact holds_of rfl

theorem State.online_congr {s t : State} (h : s.word SLC_START.word.off = t.word SLC_START.word.off) : s.online = t.online := by
  rw [State.online, State.online, State.rd, State.rdI_congr SLC_START.STATE 0 h]
  rfl

/-- What the arrival of a message leaves. -/
theorem State.arrival_kept (h : BitVec 256) : (s.arrival h).front = s.front ∧ (s.arrival h).out = s.out
    ∧ ∀ k, pmuBlock k = false → (s.arrival h).word k = s.word k :=
  ⟨State.event_front .., State.event_out .., fun k hk => s.word_event _ none none _ k hk⟩

/-- The message of the first slot passes an injector that is off. -/
theorem State.msgThrough_request {c : Nat} (hc : c < 4) {flit : BitVec 2048} (hinj : Uninjected s c) (hon : s.online = true)
    (hk : mKnown (flit.extractLsb' 0 256) = true) (hf : mFaulty (flit.extractLsb' 0 256) = false) (hcls : mCls (flit.extractLsb' 0 256) = 0) :
    s.msgThrough c flit 0 = (s.arrival (flit.extractLsb' 0 256)).enterReq (mInstr c flit 0) (mReq c (flit.extractLsb' 0 256)) := by
  have hcas : (BitVec.ofNat 2 c).toNat = c := by rw [BitVec.toNat_ofNat, Nat.mod_eq_of_lt hc]
  have hrun : heldRun (heldFlit c flit 0) s = (s.arrival (flit.extractLsb' 0 256)).enterReq (mInstr c flit 0) (mReq c (flit.extractLsb' 0 256)) := by
    rw [← s.msgIn_request hk hf hcls, heldFlit, heldRun, hcas]
    rfl
  obtain ⟨hfront, _, hw⟩ := s.arrival_kept (flit.extractLsb' 0 256)
  have hholds : HoldsNoMore s (heldRun (heldFlit c flit 0) s) := by
    rw [hrun]
    refine (holds_of (by rw [hfront])).trans (holds_enterReq _ ?_ _ _)
    rw [State.online_congr (hw SLC_START.word.off rfl), hon]
  rw [State.msgThrough, State.receive_of_uninjected _ hinj _ _ _ hholds, hrun]

/-- The refusal of a request without a credit leaves the buffer, and its answer is handed to its casement. -/
theorem State.creditless_kept (i : Instr) (r : Req) : (s.creditless i r).front.inbox = s.front.inbox ∧ (∀ d : Nat,
    s.casementOf (routeKey r.who) = some d → s.flagI LNK_INJ_CTL.EN d = false → s.ownPorter r.who = false →
      (s.creditless i r).hands d (cmpMsg r stRefused rsnField) = true) := by
  have hform : s.creditless i r = (s.fault 8 1 1 (detail := r.label.toNat ||| (poolKind i) <<< 8) (loc := some r.line) (status := stRefused)
    (srcKind := srcKindOf r.who) (srcId := r.who.id.toNat)).reply (cmpMsg r stRefused rsnField) := rfl
  have hfront := (onlyFault_fault s 8 1 1 (r.label.toNat ||| (poolKind i) <<< 8) (some r.line) stRefused (srcKindOf r.who) r.who.id.toNat false)
  have hhand := handed_fault s (cls := 8) (by decide) 1 1 (r.label.toNat ||| (poolKind i) <<< 8) (some r.line) stRefused (srcKindOf r.who)
    r.who.id.toNat false
  rw [hform]
  generalize s.fault 8 1 1 (r.label.toNat ||| (poolKind i) <<< 8) (some r.line) stRefused (srcKindOf r.who) r.who.id.toNat false = u at hfront hhand
  have hrel : SendRel (fun a b : State => b.front.inbox = a.front.inbox) := sendRel_of_sent (fun hst htu => htu.trans hst) (fun h => by
    have hl := h.1
    unfold OnlyLinks at hl
    rw [hl])
  refine ⟨?_, fun d hroute hquiet hother => ?_⟩
  · refine (hrel.reply u (fun _ _ => rfl) _).trans ?_
    unfold OnlyFault at hfront
    rw [hfront]
  · exact (CanHand.handed (s := s) (m := cmpMsg r stRefused rsnField) ⟨rfl, hother, hroute, hquiet⟩ hhand).reply

theorem casementFlitReceive_spec (s : State) (cas : BitVec 2) (flit : BitVec 2048) (sb0 sb1 : BitVec 64) :
    let c := cas.toNat
    let l := s.link c
    let seq := (sb0.extractLsb' 53 10 : BitVec 10)
    let good := crc32c 256 flit = sb1.extractLsb' 0 32 ∧ sb0.getLsbD 63 = true ∧ sb1.getLsbD 63 = false
    let h := (flit.extractLsb' 0 256 : BitVec 256)
    let req := mInstr c flit 0
    let pool := s.poolOf (mReq c h) (poolKind req)
    sb0.getLsbD 44 = false →
    sb1.getLsbD 44 = false →
    ∃ t, exec (.casementFlitReceive cas flit sb0 sb1) s = .next t ∧ (s.casementUp c = false → Untouched s t)
      ∧ (s.casementUp c = true → ¬ good → t.out = [.ack c true (l.rxNext - 1)] ∧ t.link c = { l with rxNak := true } ∧ RegsBut [] s t)
      ∧ (s.casementUp c = true → good → 512 ≤ (seq - l.rxNext).toNat → t.out = [.ack c false (l.rxNext - 1)] ∧ t.link c = l ∧ RegsBut []
        s t)
      ∧ (s.casementUp c = true → good → seq ≠ l.rxNext → (seq - l.rxNext).toNat < 512 → t.out = (if l.rxNak then [] else [.ack c true
        (l.rxNext - 1)]) ∧ t.link c = { l with rxNak := true } ∧ RegsBut [] s t)
      ∧ (s.casementUp c = true → good → seq = l.rxNext → sb0.extractLsb' 45 8 = 0 → t.out = [.ack c false seq] ∧ t.link c =
        { l with rxNext := l.rxNext + 1, rxNak := false } ∧ t.front.inbox = s.front.inbox ∧ RegsBut [] s t)
      ∧ (s.casementUp c = true → good → seq = l.rxNext → sb0.extractLsb' 45 8 = 1 → Uninjected s c → mKnown h = true → mFaulty h = false
        → mCls h = 0 → s.online = true → 0 < s.credit pool → t.front.inbox = s.front.inbox ++ [req] ∧ t.credit pool + 1 = s.credit pool ∧
        t.out = [.ack c false seq] ∧ RegsBut [] s t)
      ∧ (s.casementUp c = true → good → seq = l.rxNext → sb0.extractLsb' 45 8 = 1 → Uninjected s c → mKnown h = true → mFaulty h = false
        → mCls h = 0 → s.online = true → s.credit pool = 0 → t.front.inbox = s.front.inbox ∧ (∀ d : Nat, s.casementOf (routeKey (mReq c
        h).who) = some d → s.flagI LNK_INJ_CTL.EN d = false → s.ownPorter (mReq c h).who = false → t.hands d (cmpMsg (mReq c h) stRefused
        rsnField) = true))
      ∧ (s.casementUp c = true → ¬ good ∨ seq ≠ l.rxNext ∨ sb0.extractLsb' 45 8 = 0 → OnlyRegs
        { s with front := { s.front with links := t.front.links } } t) := by
  intro c l seq good h req pool h0 h1
  have hc : c < 4 := cas.isLt
  have hl : s.begin.link c = l := by
    rw [State.link, State.begin_front]
    rfl
  have hgood : flitGood flit sb0 sb1 = true ↔ good := flitGood_iff
  have hexec : exec (.casementFlitReceive cas flit sb0 sb1) s = .next (if s.begin.casementUp c then s.begin.flitIn c flit sb0 sb1 else s.begin).settle := rfl
  rw [s.begin_casementUp] at hexec
  have hself : OnlyHeard s.begin s.begin := rfl
  have hout (k : State) (o : Out) (hk : k.out = s.begin.out ++ [o]) : k.out = [o] := by rw [hk, s.begin_out, List.nil_append]
  cases hup : s.casementUp c
  · rw [hup, if_neg (by decide)] at hexec
    refine ⟨_, hexec, fun _ => untouched_begin s, fun h => ?_, fun h => ?_, fun h => ?_, fun h => ?_, fun h => ?_, fun h => ?_, fun h => ?_⟩
    all_goals exact absurd h (by decide)
  rw [hup, if_pos rfl] at hexec
  by_cases hg : good
  swap
  · rw [s.begin.flitIn_bad h0 h1 (Bool.eq_false_iff.mpr (mt hgood.mp hg)), hl] at hexec
    have hheard := onlyHeard_heard s.begin c { l with rxNak := true } true (l.rxNext - 1)
    obtain ⟨honly, hregs⟩ := hheard.frame
    refine ⟨_, hexec, fun h => absurd h (by decide), fun _ _ => ⟨hout _ _ rfl, s.begin.heard_link c _ true (l.rxNext - 1), hregs⟩, fun _ h => absurd h hg,
      fun _ h => absurd h hg, fun _ h => absurd h hg, fun _ h => absurd h hg, fun _ h => absurd h hg, fun _ _ => honly⟩
  by_cases hs : seq = l.rxNext
  swap
  · rw [s.begin.flitIn_ahead h0 h1 (hgood.mpr hg) (by rw [hl]; exact hs), hl] at hexec
    by_cases hold : 512 ≤ (seq - l.rxNext).toNat
    · rw [if_pos hold] at hexec
      have hheard : OnlyHeard s.begin (s.begin.emit (.ack c false (l.rxNext - 1))) := rfl
      obtain ⟨honly, hregs⟩ := hheard.frame
      refine ⟨_, hexec, fun h => absurd h (by decide), fun _ h => absurd hg h, fun _ _ _ => ⟨hout _ _ rfl, hl, hregs⟩,
        fun _ _ _ h => absurd h (by omega), fun _ _ h => absurd h hs, fun _ _ h => absurd h hs, fun _ _ h => absurd h hs, fun _ _ => honly⟩
    · rw [if_neg hold] at hexec
      cases hnak : l.rxNak
      · rw [hnak, if_neg (by decide)] at hexec
        have hheard := onlyHeard_heard s.begin c { l with rxNak := true } true (l.rxNext - 1)
        obtain ⟨honly, hregs⟩ := hheard.frame
        refine ⟨_, hexec, fun h => absurd h (by decide), fun _ h => absurd hg h, fun _ _ h => absurd h hold,
          fun _ _ _ _ => ⟨hout _ _ rfl, s.begin.heard_link c _ true (l.rxNext - 1), hregs⟩, fun _ _ h => absurd h hs, fun _ _ h => absurd h hs,
          fun _ _ h => absurd h hs, fun _ _ => honly⟩
      · rw [hnak, if_pos rfl] at hexec
        obtain ⟨honly, hregs⟩ := hself.frame
        have hsame : { l with rxNak := true } = l := by rw [← hnak]
        refine ⟨_, hexec, fun h => absurd h (by decide), fun _ h => absurd hg h, fun _ _ h => absurd h hold,
          fun _ _ _ _ => ⟨s.begin_out, hl.trans hsame.symm, hregs⟩, fun _ _ h => absurd h hs, fun _ _ h => absurd h hs,
          fun _ _ h => absurd h hs, fun _ _ => honly⟩
  rw [s.begin.flitIn_next h0 h1 (hgood.mpr hg) (by rw [hl]; exact hs), hl] at hexec
  have hseq : ¬ 512 ≤ (seq - l.rxNext).toNat := by
    rw [hs]
    simp
  have hheard := onlyHeard_heard s.begin c { l with rxNext := l.rxNext + 1, rxNak := false } false seq
  have hlink := s.begin.heard_link c { l with rxNext := l.rxNext + 1, rxNak := false } false seq
  have hack := hout (s.begin.heard c { l with rxNext := l.rxNext + 1, rxNak := false } false seq) _ rfl
  have hfront : (s.begin.heard c { l with rxNext := l.rxNext + 1, rxNak := false } false seq).front =
      { s.front with links := (s.begin.heard c { l with rxNext := l.rxNext + 1, rxNak := false } false seq).front.links } := by
    rw [← s.begin_front]
    rfl
  have hrun : Handed s.begin (s.begin.heard c { l with rxNext := l.rxNext + 1, rxNak := false } false seq) :=
    (sendRel_handed.link s.begin c _ (by rw [hl])).trans (handed_emit ..)
  change exec _ s = .next (State.settle ((List.range 8).foldl (fun s i => if sb0.getLsbD (45 + i) then s.msgThrough c flit i else s)
    (s.begin.heard c { l with rxNext := l.rxNext + 1, rxNak := false } false seq))) at hexec
  generalize s.begin.heard c { l with rxNext := l.rxNext + 1, rxNak := false } false seq = u at hexec hheard hlink hack hfront hrun
  obtain ⟨honly, hregs⟩ := hheard.frame
  by_cases hz : sb0.extractLsb' 45 8 = 0
  · rw [u.noMessages hz] at hexec
    refine ⟨_, hexec, fun h => absurd h (by decide), fun _ h => absurd hg h, fun _ _ h => absurd h hseq, fun _ _ h => absurd hs h,
      fun _ _ _ _ => ⟨hack, hlink, (congrArg Front.inbox hfront).trans rfl, hregs⟩, fun _ _ _ h => ?_, fun _ _ _ h => ?_, fun _ _ => honly⟩
    · exact absurd (hz.symm.trans h) (by decide)
    · exact absurd (hz.symm.trans h) (by decide)
  have hlast : ¬ (¬ good ∨ seq ≠ l.rxNext ∨ sb0.extractLsb' 45 8 = 0) := by
    rintro (h | h | h)
    · exact h hg
    · exact h hs
    · exact hz h
  by_cases hcase : sb0.extractLsb' 45 8 = 1 ∧ Uninjected s c ∧ mKnown h = true ∧ mFaulty h = false ∧ mCls h = 0 ∧ s.online = true
  swap
  · refine ⟨_, hexec, fun h => absurd h (by decide), fun _ h => absurd hg h, fun _ _ h => absurd h hseq, fun _ _ h => absurd hs h,
      fun _ _ _ h => absurd h hz, fun _ _ _ h1 h2 h3 h4 h5 h6 => absurd ⟨h1, h2, h3, h4, h5, h6⟩ hcase,
      fun _ _ _ h1 h2 h3 h4 h5 h6 => absurd ⟨h1, h2, h3, h4, h5, h6⟩ hcase, fun _ h => absurd h hlast⟩
  obtain ⟨hone, hinj, hk, hf, hcls, hon⟩ := hcase
  have hword (k : Nat) (hp : pmuBlock k = false) : u.word k = s.word k := hregs k List.not_mem_nil hp
  have hu : Uninjected u c := by
    refine State.uninjected_congr (hword _ ?_).symm (by rw [hfront]) hinj
    simp only [pmuBlock, Bool.and_eq_false_imp, decide_eq_true_eq, decide_eq_false_iff_not]
    omega
  have huon : u.online = true := by rw [State.online_congr (hword SLC_START.word.off rfl), hon]
  rw [u.oneMessage hone, u.msgThrough_request hc hu huon hk hf hcls] at hexec
  obtain ⟨vfront, vout, vword⟩ := u.arrival_kept h
  have vhand : Handed u (u.arrival h) := handed_event ..
  change exec _ s = .next (State.settle ((u.arrival h).enterReq req (mReq c h))) at hexec
  generalize u.arrival h = v at hexec vfront vout vword vhand
  have hvw (k : Nat) (hp : pmuBlock k = false) : v.word k = s.word k := (vword k hp).trans (hword k hp)
  have hvinbox : v.front.inbox = s.front.inbox := by rw [vfront, hfront]
  have hvcred (k : Nat) : v.credit k = s.credit k := by rw [State.credit, State.credit, vfront, hfront]
  have hvpool : v.poolOf (mReq c h) (poolKind req) = pool := State.poolOf_congr (by rw [vfront, hfront]) (hvw WIN_CTL.word.off rfl) ..
  rw [v.enterReq_online (by rw [State.online_congr (hvw SLC_START.word.off rfl), hon]), hvpool, hvcred] at hexec
  by_cases hcr : s.credit pool = 0
  · rw [if_pos hcr] at hexec
    obtain ⟨hinbox, hhands⟩ := v.creditless_kept req (mReq c h)
    refine ⟨_, hexec, fun h => absurd h (by decide), fun _ h => absurd hg h, fun _ _ h => absurd h hseq, fun _ _ h => absurd hs h,
      fun _ _ _ h => absurd h hz, fun _ _ _ _ _ _ _ _ _ h => absurd h (by omega), fun _ _ _ _ _ _ _ _ _ _ => ⟨hinbox.trans hvinbox, ?_⟩,
      fun _ h => absurd h hlast⟩
    intro d hroute hquiet hother
    have hcan : CanHand s.begin d (cmpMsg (mReq c h) stRefused rsnField) := by
      have hlt := s.casementOf_lt hroute
      refine ⟨rfl, ?_, ?_, ?_⟩
      · rw [State.ownPorter, State.pslice, State.begin_pins, s.begin_rd rfl]
        exact hother
      · rw [s.begin_casementOf]
        exact hroute
      · rw [State.flagI, s.begin_rdI LNK_INJ_CTL.EN d (by
          simp only [pmuBlock, Bool.and_eq_false_imp, decide_eq_true_eq, decide_eq_false_iff_not]; omega)]
        exact hquiet
    have hcan' := (hcan.handed hrun).handed vhand
    exact hhands d hcan'.route hcan'.quiet hcan'.other
  · rw [if_neg hcr] at hexec
    refine ⟨_, hexec, fun h => absurd h (by decide), fun _ h => absurd hg h, fun _ _ h => absurd h hseq, fun _ _ h => absurd hs h,
      fun _ _ _ h => absurd h hz, fun _ _ _ _ _ _ _ _ _ _ => ⟨?_, ?_, ?_, fun k _ hp => ?_⟩, fun _ _ _ _ _ _ _ _ _ h => absurd h hcr,
      fun _ h => absurd h hlast⟩
    · exact congrArg (· ++ [req]) hvinbox
    · have hnew : (v.setCredit pool (v.credit pool - 1)).credit pool = v.credit pool - 1 := tget_tput_same ..
      change (v.setCredit pool (v.credit pool - 1)).credit pool + 1 = _
      rw [hnew, hvcred]
      omega
    · exact vout.trans hack
    · exact (State.word_congr rfl rfl k : _ = v.word k).trans (hvw k hp)

/-- Settles O53: training, capability messages, the mainband and its timeout, flits, replays and link credits. -/
theorem linksAndFlits : Obligations.LinksAndFlits :=
  ⟨linkTraining_spec, capabilityMessage_spec, ucieMainbandActive_spec, capabilityTimeout_spec, casementFlitReceive_spec, linkReplayTimeout_spec,
    creditWordReceive_spec⟩

end Sys2Proof.Machine
end

section
/-! O50: the staging buffer, the time of step 5, and the application point of an update (R270, R275, R292). -/

namespace Sys2Proof.Machine

variable (s : State)

/-! ### The staging buffer -/

theorem imgDataWrite_spec (s : State) (m : MgWrite) :
    let busy := s.flag CUR_IMG_STATUS.BUSY = true
    Admits s CUR_IMG_DATA.word.off m.src →
    ∃ t, exec (.imgDataWrite m) s = .next t ∧ (busy → t.out = [answerOut m.src stRefused rsnBusy 0] ∧ OnlyRegs s t ∧ RegsBut [] s t)
      ∧ (¬ busy → t.imgW (s.rd CUR_IMG_ADDR.ADDR) = m.word ∧ t.rd CUR_IMG_ADDR.ADDR = (s.rd CUR_IMG_ADDR.ADDR + 1) % 2 ^
        CUR_IMG_ADDR.ADDR.w ∧ t.out = [answerOut m.src stOk rsnNone 0])
      ∧ TabBut 0 [s.rd CUR_IMG_ADDR.ADDR] s.img.buf t.img.buf
      ∧ t.img.held = s.img.held
      ∧ OnlyRegs { s with img := t.img } t
      ∧ RegsBut [CUR_IMG_ADDR.word.off] s t := by
  intro busy h
  have hexec : exec (.imgDataWrite m) s = .next (s.begin.writeImgData m).settle := settled_mgWrite h _ _
  have hbusy : s.begin.flag CUR_IMG_STATUS.BUSY = s.flag CUR_IMG_STATUS.BUSY := s.begin_flag rfl
  have haddr : s.begin.rd CUR_IMG_ADDR.ADDR = s.rd CUR_IMG_ADDR.ADDR := s.begin_rd rfl
  unfold State.writeImgData at hexec
  rw [hbusy, haddr, State.begin_img] at hexec
  by_cases hb : busy
  · rw [if_pos hb] at hexec
    refine ⟨_, hexec, fun _ => ⟨by simp [State.refuse_out], onlyRegs_begin_answer .., regsBut_begin_answer s _ _ _ _⟩,
      fun hn => absurd hb hn, ?_, ?_, ?_, fun k _ hp => ?_⟩
    · intro k _
      rw [State.settle_img, State.refuse_img, State.begin_img]
    · rw [State.settle_img, State.refuse_img, State.begin_img]
    · apply onlyRegs_settle <;> simp
    · exact (State.word_refuse ..).trans (s.word_begin k hp)
  · rw [if_neg hb] at hexec
    generalize hu : ({ s.begin with img := { s.img with buf := tput 0 s.img.buf (s.rd CUR_IMG_ADDR.ADDR) m.word } } : State) = u at hexec
    have himg : u.img = { s.img with buf := tput 0 s.img.buf (s.rd CUR_IMG_ADDR.ADDR) m.word } := by rw [← hu]
    have hword (k : Nat) : u.word k = s.begin.word k := by
      rw [← hu]
      exact State.word_congr rfl rfl k
    have hnext : u.imgNext.rd CUR_IMG_ADDR.ADDR = (s.rd CUR_IMG_ADDR.ADDR + 1) % 2 ^ CUR_IMG_ADDR.ADDR.w := by
      rw [State.imgNext, State.rd_wr_same _ _ _ (by decide), State.rd, State.rdI_congr CUR_IMG_ADDR.ADDR 0 (hword _)]
      exact congrArg (fun n => (n + 1) % 2 ^ CUR_IMG_ADDR.ADDR.w) haddr
    have hnimg : u.imgNext.img = u.img := State.wr_img ..
    refine ⟨_, hexec, fun hb' => absurd hb' hb, fun _ => ⟨?_, ?_, ?_⟩, fun k hk => ?_, ?_, ?_, fun k hk hp => ?_⟩
    · rw [State.imgW, State.settle_img, State.ok_img, hnimg, himg]
      exact tget_tput_same ..
    · rw [State.rd_settle, State.rd_ok, hnext]
    · rw [State.settle_out, State.ok_out, State.imgNext, State.wr_out, ← hu, State.begin_out]
      rfl
    · rw [State.settle_img, State.ok_img, hnimg, himg]
      exact (tget_tput_other _ _ _ _ (by simpa using hk)).symm
    · rw [State.settle_img, State.ok_img, hnimg, himg]
    · rw [← hu]
      apply onlyRegs_settle <;> simp [State.imgNext]
    · rw [State.word_settle, State.word_ok, State.imgNext, State.word_wr, if_neg (by simpa using hk), hword]
      exact s.word_begin k hp

/-! ### The time of step 5 -/

/-- The Daybook's words that the next entry takes. -/
theorem State.word_daybook_next (outcome step cause detail : Nat) {k : Nat} (hk : k ∉ [DBK_STATUS.word.off, DBK_ENT_INFO.word.off + 8 * s.rd DBK_STATUS.COUNT,
    DBK_ENT_TIME.word.off + 8 * s.rd DBK_STATUS.COUNT]) : (s.daybook outcome step cause detail).word k = s.word k := by
  simp only [List.mem_cons, List.not_mem_nil, or_false, not_or] at hk
  exact s.word_daybook_other _ _ _ _ hk.1 hk.2.1 hk.2.2

theorem State.stepFail_word (step cause detail : Nat) {k : Nat} (hs : k ≠ SLC_START.word.off) (hf : k ≠ DBK_FAILS.word.off) :
    (s.stepFail step cause detail).word k = (s.daybook ocFail step cause detail).word k := by
  rw [State.stepFail, State.word_wr, if_neg hs, State.word_stepFailed _ _ hf]

theorem onlyRegFile_stepFail (step cause detail : Nat) : OnlyRegFile s (s.stepFail step cause detail) :=
  ((onlyRegFile_daybook s ocFail step cause detail).trans (onlyRegFile_stepFailed _ step)).trans (onlyRegFile_wr _ _ _)

/-- A counted step that fails. -/
theorem State.stepFail_counted {step : Nat} (hc : countedStep step = true) (hs : step < 16) (cause detail : Nat) :
    (s.stepFail step cause detail).rd SLC_START.STATE = 3 ∧ (s.stepFail step cause detail).rd (failField step) = min 3 (s.rd (failField step) + 1) := by
  constructor
  · rw [State.stepFail, State.rd_wr_same _ _ _ (by decide)]
    rfl
  · have hcount : ((s.daybook ocFail step cause detail).stepFailed step) = (s.daybook ocFail step cause detail).bump (failField step) := if_pos hc
    have hkept : (s.daybook ocFail step cause detail).rd (failField step) = s.rd (failField step) :=
      State.rdI_congr _ 0 (s.word_daybook_other _ _ _ _ (by simp [failField]) (by simp [failField]; omega) (by simp [failField]; omega))
    rw [State.stepFail, State.rd_wr_apart _ (f := SLC_START.STATE) _ (Or.inl (by simp [failField])), hcount,
      State.rd_bump_same _ _ _ (by simp only [failField]; omega), hkept, Nat.min_comm]
    rfl

theorem imageTimeout_spec (s : State) :
    let due := s.rd SLC_START.STEP = 5 ∧ s.rd SLC_START.STATE = 1
    ∃ t, exec (.imageTimeout) s = .next t ∧ (¬ due → t.out = [] ∧ OnlyRegs s t ∧ RegsBut [] s t)
      ∧ (due → t.rd SLC_START.STATE = 3 ∧ t.rd (failField 5) = min 3 (s.rd (failField 5) + 1))
      ∧ (due → s.rd DBK_STATUS.COUNT < 64 → (t.word (DBK_ENT_INFO.word.off + 8 * s.rd DBK_STATUS.COUNT)).toNat / 2 ^ 16 % 2 ^ 16 =
    0xB551)
      ∧ OnlyRegs s t
      ∧ RegsBut [SLC_START.word.off, DBK_FAILS.word.off, DBK_STATUS.word.off, DBK_ENT_INFO.word.off + 8 * s.rd DBK_STATUS.COUNT,
        DBK_ENT_TIME.word.off + 8 * s.rd DBK_STATUS.COUNT] s t := by
  intro due
  have hstep : s.begin.rd SLC_START.STEP = s.rd SLC_START.STEP := s.begin_rd rfl
  have hst : s.begin.rd SLC_START.STATE = s.rd SLC_START.STATE := s.begin_rd rfl
  have hcnt : s.begin.rd DBK_STATUS.COUNT = s.rd DBK_STATUS.COUNT := s.begin_rd rfl
  have hexec : exec (.imageTimeout) s = .next (if s.begin.rd SLC_START.STEP = 5 && s.begin.rd SLC_START.STATE = 1 then
    s.begin.stepFail 5 0x51 0 else s.begin).settle := rfl
  rw [hstep, hst] at hexec
  by_cases hd : due
  · rw [if_pos (by rw [decide_eq_true hd.1, decide_eq_true hd.2]; rfl)] at hexec
    have honly := onlyRegFile_stepFail s.begin 5 0x51 0
    obtain ⟨hfail, hcount⟩ := s.begin.stepFail_counted (step := 5) rfl (by decide) 0x51 0
    refine ⟨_, hexec, fun h => absurd hd h, fun _ => ⟨hfail, hcount.trans (by rw [s.begin_rd (f := failField 5) rfl])⟩, fun _ hlt => ?_, ?_,
      fun k hk hp => ?_⟩
    · have hentry := s.begin.word_daybook_entry ocFail 5 0x51 0 (by rw [hcnt]; exact hlt)
      rw [hcnt] at hentry
      rw [State.word_settle, State.stepFail_word _ _ _ _ (by simp only; omega) (by simp only; omega), hentry]
      have hstarts : s.begin.rd DBK_STATUS.STARTS < 2 ^ 8 := s.begin.rdI_lt DBK_STATUS.STARTS 0
      generalize s.begin.rd DBK_STATUS.STARTS = n at hstarts
      rw [entryWord, BitVec.toNat_ofNat]
      simp only [ocFail]
      omega
    · unfold OnlyRegFile at honly
      rw [honly]
      apply onlyRegs_settle <;> simp
    · simp only [List.mem_cons, List.not_mem_nil, or_false, not_or] at hk
      obtain ⟨h1, h2, h3, h4, h5⟩ := hk
      rw [State.word_settle, State.stepFail_word _ _ _ _ h1 h2,
        State.word_daybook_next _ _ _ _ _ (by rw [hcnt]; simp only [List.mem_cons, List.not_mem_nil, or_false, not_or]; exact ⟨h3, h4, h5⟩)]
      exact s.word_begin k hp
  · rw [if_neg (by rw [Bool.and_eq_true, decide_eq_true_eq, decide_eq_true_eq]; exact hd)] at hexec
    have honly : OnlyRegs s s.begin.settle := by apply onlyRegs_settle <;> simp
    exact ⟨_, hexec, fun _ => ⟨s.begin_out, honly, fun k _ hp => s.word_begin k hp⟩, fun h => absurd h hd, fun h => absurd h hd, honly,
      fun k _ hp => s.word_begin k hp⟩

/-! ### What the sections of an image write -/

/-- At most registers, the configuration of the build, the counts of the groups and the window walks change. -/
def OnlyShelf (s u : State) : Prop := u = { s with regs := u.regs, cfg := u.cfg, place := u.place, ord := u.ord }

theorem OnlyShelf.trans {s t u : State} (hst : OnlyShelf s t) (htu : OnlyShelf t u) : OnlyShelf s u := by
  unfold OnlyShelf at *
  rw [htu, hst]

theorem OnlyRegFile.onlyShelf {s u : State} (h : OnlyRegFile s u) : OnlyShelf s u := by
  unfold OnlyRegFile at h
  rw [h]
  rfl

theorem OnlyShelf.adm {s u : State} (h : OnlyShelf s u) : u.adm = s.adm := by
  unfold OnlyShelf at h
  rw [h]

theorem onlyShelf_foldl {α : Type} {g : State → α → State} (hg : ∀ u a, OnlyShelf u (g u a)) (l : List α) (s : State) : OnlyShelf s (l.foldl g s) := by
  induction l generalizing s with
  | nil => rfl
  | cons a l ih => exact (hg s a).trans (ih _)

theorem onlyShelf_setWord (off : Nat) (v : Word) : OnlyShelf s (s.setWord off v) := rfl
theorem onlyShelf_wr (f : Field) (v : Nat) : OnlyShelf s (s.wr f v) := rfl
theorem onlyShelf_plain (off : Nat) (w : Word) : OnlyShelf s (s.plain off w) := (onlyRegFile_plain s off w).onlyShelf

theorem onlyShelf_putWords (off : Nat) (ws : List Nat) : OnlyShelf s (s.putWords off ws) :=
  onlyShelf_foldl (fun u (x : Nat × Nat) => onlyShelf_setWord u (off + 4 * x.1) (BitVec.ofNat 32 x.2)) _ s

theorem onlyShelf_putCarrel (e : Nat) : OnlyShelf s (s.putCarrel e) := by
  unfold State.putCarrel
  extract_lets c off
  split
  · exact onlyShelf_putWords ..
  · exact onlyShelf_putWords ..

theorem onlyShelf_putShutter (e : Nat) : OnlyShelf s (s.putShutter e) := by
  unfold State.putShutter
  extract_lets off
  split
  · exact onlyShelf_putWords ..
  · exact onlyShelf_putWords ..

theorem onlyShelf_putBypass (e : Nat) : OnlyShelf s (s.putBypass e) := by
  unfold State.putBypass
  extract_lets off
  split
  · exact (onlyShelf_putWords ..).trans (onlyShelf_putWords ..)
  · exact (onlyShelf_putWords ..).trans (onlyShelf_putWords ..)

theorem onlyShelf_clearPend (e : Nat) : OnlyShelf s (s.clearPend e) := rfl

theorem onlyShelf_putTraffic (e : Nat) : OnlyShelf s (s.putTraffic e) :=
  (onlyShelf_foldl (fun u l => (onlyShelf_setWord u (TCL_RATE.word.off + 16 * l) (u.imgW (e + 2 * l))).trans (onlyShelf_setWord _ _ _)) _ s).trans
    (onlyShelf_setWord _ _ _)

theorem onlyShelf_putWindows (e : Nat) : OnlyShelf s (s.putWindows e) :=
  (onlyShelf_foldl (fun u w => onlyShelf_plain u (WIN_ENT_CTL.word.off + 16 * w) (u.imgW (e + w))) _ s).trans
    (onlyShelf_foldl (fun u j => onlyShelf_plain u (WIN_PLAN.word.off + 4 * j) (u.imgW (e + 16 + j))) _ _)

theorem onlyShelf_putChain (e : Nat) : OnlyShelf s (s.putChain e) := by
  unfold State.putChain
  extract_lets c off keep u v
  exact (((onlyShelf_setWord s _ _).trans (onlyShelf_plain ..)).trans (onlyShelf_plain ..)).trans (onlyShelf_plain ..)

theorem onlyShelf_putBounds (e : Nat) : OnlyShelf s (s.putBounds e) := by
  unfold State.putBounds
  extract_lets u v x src1 src2 y
  have hu : OnlyShelf s u := (onlyShelf_wr s _ _).trans (onlyShelf_wr _ _ _)
  have hv : OnlyShelf u v := ((onlyShelf_wr u _ _).trans (onlyShelf_wr _ _ _)).trans (onlyShelf_wr _ _ _)
  have hx : OnlyShelf v x := (onlyShelf_wr v _ _).trans (onlyShelf_setWord _ _ _)
  have hy : OnlyShelf x y := rfl
  exact ((((hu.trans hv).trans hx).trans hy).trans ((onlyShelf_wr y _ _).trans (onlyShelf_wr _ _ _))).trans (onlyShelf_wr _ _ _)

theorem onlyShelf_boundSettings : OnlyShelf s s.boundSettings := by
  unfold State.boundSettings
  extract_lets u
  have hu : OnlyShelf s u := onlyShelf_foldl (fun v l => by
    extract_lets f m
    split
    · exact onlyShelf_wr v _ _
    · rfl) _ s
  split
  · exact hu.trans (onlyShelf_wr u _ _)
  · exact hu

theorem onlyShelf_putPower (e : Nat) : OnlyShelf s (s.putPower e) := by
  unfold State.putPower
  extract_lets src1 u
  exact OnlyShelf.trans (t := u) rfl ((onlyShelf_wr u _ _).trans (onlyShelf_wr _ _ _))

theorem onlyShelf_putSec {f : State → Nat → State} (hf : ∀ u e, OnlyShelf u (f u e)) (secs : List Sec) (typ : Nat) : OnlyShelf s (s.putSec secs typ f) :=
  onlyShelf_foldl hf _ s

/-- The image's serial number and CRC. -/
def State.imgShown (s : State) : State := (s.setWord CUR_IMG_ACTIVE.word.off (s.imgW 3)).setWord CUR_IMG_CRC.word.off (s.imgW 7)

/-- The sections 3 to 7 of an update. -/
def State.updatePlaces (s : State) (secs : List Sec) : State :=
  ((((s.putSec secs 3 State.putCarrel).putSec secs 4 State.putShutter).putSec secs 5 (fun s e => (s.putBypass e).clearPend e)).putSec secs 6
    State.putTraffic).putSec secs 7 State.putWindows

/-- As `OnlyShelf`, and the accepted settings may change. -/
def OnlyImg (s u : State) : Prop := u = { s with regs := u.regs, cfg := u.cfg, place := u.place, adm := u.adm, ord := u.ord }

theorem OnlyImg.trans {s t u : State} (hst : OnlyImg s t) (htu : OnlyImg t u) : OnlyImg s u := by
  unfold OnlyImg at *
  rw [htu, hst]

theorem OnlyImg.img {s u : State} (h : OnlyImg s u) : u.img = s.img := by
  unfold OnlyImg at h
  rw [h]

theorem OnlyShelf.onlyImg {s u : State} (h : OnlyShelf s u) : OnlyImg s u := by
  unfold OnlyShelf at h
  rw [h]
  rfl

/-- The traffic settings that an update leaves for the frame boundary. -/
def State.updateTcl (s : State) (secs : List Sec) : State :=
  if (findSec secs 6).isSome then { s with adm := { s.adm with tclNext := some s.tclStaged } } else s

/-- The windows that an update leaves for the frame boundary. -/
def State.updateWin (s : State) (secs : List Sec) : State :=
  if (findSec secs 7).isSome then { s with adm := { s.adm with winNext := some s.winStaged } } else s

/-- The sections 8 to 11 of an update. -/
def State.updateRest (s : State) (secs : List Sec) : State :=
  (((s.putSec secs 8 (fun s e => s.wr MIR_RATE.RATE (s.imgB (e + 2) 0 16))).putSec secs 9 State.putChain).putSec secs 10
    (fun s e => (s.putBounds e).boundSettings)).putSec secs 11 State.putPower

theorem State.updateImage_eq (secs : List Sec) : s.updateImage secs =
    (((((s.updatePlaces secs).updateTcl secs).updateWin secs).updateRest secs).imgShown).showDirty.showBound := rfl

theorem onlyShelf_updatePlaces (secs : List Sec) : OnlyShelf s (s.updatePlaces secs) :=
  ((((onlyShelf_putSec s onlyShelf_putCarrel secs 3).trans (onlyShelf_putSec _ onlyShelf_putShutter secs 4)).trans
    (onlyShelf_putSec _ (fun u e => (onlyShelf_putBypass u e).trans (onlyShelf_clearPend _ e)) secs 5)).trans
    (onlyShelf_putSec _ onlyShelf_putTraffic secs 6)).trans (onlyShelf_putSec _ onlyShelf_putWindows secs 7)

theorem onlyImg_updateTcl (secs : List Sec) : OnlyImg s (s.updateTcl secs) := by
  unfold State.updateTcl
  split <;> rfl

theorem onlyImg_updateWin (secs : List Sec) : OnlyImg s (s.updateWin secs) := by
  unfold State.updateWin
  split <;> rfl

theorem onlyShelf_updateRest (secs : List Sec) : OnlyShelf s (s.updateRest secs) :=
  (((onlyShelf_putSec s (fun u _ => onlyShelf_wr u _ _) secs 8).trans (onlyShelf_putSec _ onlyShelf_putChain secs 9)).trans
    (onlyShelf_putSec _ (fun u e => (onlyShelf_putBounds u e).trans (onlyShelf_boundSettings _)) secs 10)).trans
    (onlyShelf_putSec _ onlyShelf_putPower secs 11)

theorem onlyShelf_imgShown : OnlyShelf s s.imgShown := (onlyShelf_setWord s _ _).trans (onlyShelf_setWord _ _ _)
theorem onlyShelf_showDirty : OnlyShelf s s.showDirty := (onlyShelf_wr s _ _).trans (onlyShelf_wr _ _ _)
theorem onlyShelf_showBound : OnlyShelf s s.showBound := onlyShelf_wr s _ _

/-- What follows the settings that wait for the frame boundary. -/
theorem onlyShelf_updateEnd (secs : List Sec) : OnlyShelf s ((s.updateRest secs).imgShown).showDirty.showBound :=
  (((onlyShelf_updateRest s secs).trans (onlyShelf_imgShown _)).trans (onlyShelf_showDirty _)).trans (onlyShelf_showBound _)

theorem onlyImg_updateImage (secs : List Sec) : OnlyImg s (s.updateImage secs) := by
  rw [State.updateImage_eq]
  exact (((onlyShelf_updatePlaces s secs).onlyImg.trans (onlyImg_updateTcl _ secs)).trans (onlyImg_updateWin _ secs)).trans
    (onlyShelf_updateEnd _ secs).onlyImg

/-- The image that is in force is shown. -/
theorem State.imgShown_words {u : State} (h : u.img = s.img) : u.imgShown.showDirty.showBound.word CUR_IMG_ACTIVE.word.off = s.imgW 3
    ∧ u.imgShown.showDirty.showBound.word CUR_IMG_CRC.word.off = s.imgW 7 := by
  have hw (i : Nat) : u.imgW i = s.imgW i := by rw [State.imgW, State.imgW, h]
  have hkept (v : State) (k : Nat) (h1 : k ≠ TCL_CTL.word.off) (h2 : k ≠ WIN_CTL.word.off) (h3 : k ≠ PWR_RAMP.word.off) :
      v.showDirty.showBound.word k = v.word k := by
    rw [State.showBound, State.word_wr, if_neg h3, State.showDirty, State.word_setFlag, if_neg h2, State.word_setFlag, if_neg h1]
  constructor
  · rw [hkept _ _ (by decide) (by decide) (by decide), State.imgShown, State.word_setWord, if_neg (by decide), State.word_setWord, if_pos rfl, hw]
  · rw [hkept _ _ (by decide) (by decide) (by decide), State.imgShown, State.word_setWord, if_pos rfl, hw]

/-! ### Reading the staging buffer -/

theorem State.imgW_congr {s t : State} (h : s.img.buf = t.img.buf) : s.imgW = t.imgW := by
  funext i
  rw [State.imgW, State.imgW, h]

theorem State.imgN_congr {s t : State} (h : s.img.buf = t.img.buf) : s.imgN = t.imgN := by
  funext i
  rw [State.imgN, State.imgN, State.imgW_congr h]

theorem State.imgB_congr {s t : State} (h : s.img.buf = t.img.buf) : s.imgB = t.imgB := by
  funext i lo w
  rw [State.imgB, State.imgB, State.imgN_congr h]

theorem State.imgSections_congr {s t : State} (h : s.img.buf = t.img.buf) (h64 : s.s64 = t.s64) (part : Bool) (last n i prev : Nat) :
    s.imgSections part last n i prev = t.imgSections part last n i prev := by
  induction n generalizing i prev with
  | zero => rfl
  | succ n ih => simp only [State.imgSections, State.imgB_congr h, State.imgN_congr h, h64, ih]

theorem State.entriesOf_congr {s t : State} (h64 : s.s64 = t.s64) (secs : List Sec) (typ : Nat) : s.entriesOf secs typ = t.entriesOf secs typ := by
  unfold State.entriesOf State.secWords
  rw [h64]

theorem State.entCheck_congr {s t : State} (h64 : s.s64 = t.s64) (secs : List Sec) (typ : Nat) {f g : Nat → Option Nat} (hfg : ∀ e, f e = g e) :
    s.entCheck secs typ f = t.entCheck secs typ g := by
  have hf : f = g := funext hfg
  unfold State.entCheck
  rw [State.entriesOf_congr h64, hf]

theorem State.walkOf_congr {s t : State} (ho : s.ord.pend = t.ord.pend) (hw : s.word ORD_WIN_STATUS.word.off = t.word ORD_WIN_STATUS.word.off)
    (w : Nat) : s.walkOf w = t.walkOf w := by
  have hb : s.flag ORD_WIN_STATUS.BUSY = t.flag ORD_WIN_STATUS.BUSY := State.flag_congr (State.rdI_congr ORD_WIN_STATUS.BUSY 0 hw)
  have hr : s.rd ORD_WIN_STATUS.RUN = t.rd ORD_WIN_STATUS.RUN := State.rdI_congr ORD_WIN_STATUS.RUN 0 hw
  rw [State.walkOf, State.walkOf, ho, hb, hr]

theorem State.imgB_lt (i lo w : Nat) : s.imgB i lo w < 2 ^ w := Nat.mod_lt _ (Nat.two_pow_pos w)

/-- Whether the update is still free to be applied depends on the buffer, the shutters' entries and the walks. -/
theorem State.imgBusy_congr {s t : State} (h : s.img.buf = t.img.buf) (h64 : s.s64 = t.s64) (ho : s.ord.pend = t.ord.pend)
    (hw : ∀ k, pmuBlock k = false → s.word k = t.word k) (secs : List Sec) : s.imgBusy secs = t.imgBusy secs := by
  have hsht (f : Field) (hf : f.off = SHT_ENT_CTL.word.off) (hs : f.stride = 8) (e : Nat) :
      s.flagI f (t.imgB (e + 1) 16 8) = t.flagI f (t.imgB (e + 1) 16 8) := by
    have hlt := t.imgB_lt (e + 1) 16 8
    refine State.flagI_congr _ (hw _ ?_)
    rw [hf, hs]
    simp only [pmuBlock, Bool.and_eq_false_imp, decide_eq_true_eq, decide_eq_false_iff_not]
    omega
  unfold State.imgBusy
  dsimp only
  rw [State.entCheck_congr h64 secs 4 (g := fun e => firstOf [(t.flagI SHT_ENT_CTL.SEALED (t.imgB (e + 1) 16 8) ||
      t.flagI SHT_ENT_CTL.WALK (t.imgB (e + 1) 16 8), rsnBusy)])
    (fun e => by rw [State.imgB_congr h, hsht SHT_ENT_CTL.SEALED rfl rfl, hsht SHT_ENT_CTL.WALK rfl rfl]),
    State.entCheck_congr h64 secs 5 (g := fun e => firstOf [(t.walkOf (t.imgB (e + 2) 4 4), rsnBusy)])
    (fun e => by rw [State.imgB_congr h, State.walkOf_congr ho (hw ORD_WIN_STATUS.word.off rfl)])]

/-! ### The result of an operation -/

theorem onlyRegFile_imgResult (op : Nat) (no : Option ImgNo) : OnlyRegFile s (s.imgResult op no) := by
  unfold State.imgResult
  extract_lets u x v
  have hu : OnlyRegFile s u := ((onlyRegFile_wr s _ _).trans (onlyRegFile_wr _ _ _)).trans (onlyRegFile_wr _ _ _)
  have hv : OnlyRegFile u v := ((onlyRegFile_wr u _ _).trans (onlyRegFile_wr _ _ _)).trans (onlyRegFile_wr _ _ _)
  exact (hu.trans hv).trans ((onlyRegFile_wr v _ _).trans (onlyRegFile_wr _ _ _))

theorem State.word_imgResult {k : Nat} (hc : k ≠ CUR_IMG_CTL.word.off) (hs : k ≠ CUR_IMG_STATUS.word.off) (op : Nat) (no : Option ImgNo) :
    (s.imgResult op no).word k = s.word k := by
  unfold State.imgResult
  extract_lets u x v
  rw [State.word_wr, if_neg hs, State.word_wr, if_neg hs, State.word_wr, if_neg hs, State.word_wr, if_neg hs, State.word_setFlag, if_neg hs,
    State.word_wr, if_neg hs, State.word_setFlag, if_neg hs, State.word_setFlag, if_neg hc]

/-- The fields of CUR_IMG_STATUS and GO after an operation. -/
theorem State.imgResult_shown (op : Nat) (no : Option ImgNo) :
    (s.imgResult op no).rd CUR_IMG_CTL.GO = 0 ∧ (s.imgResult op no).rd CUR_IMG_STATUS.BUSY = 0
    ∧ (s.imgResult op no).rd CUR_IMG_STATUS.LAST_OP = op % 2 ^ CUR_IMG_STATUS.LAST_OP.w
    ∧ (s.imgResult op no).rd CUR_IMG_STATUS.REFUSED = no.isSome.toNat
    ∧ (s.imgResult op no).rd CUR_IMG_STATUS.REASON = (no.getD ⟨0, 0, 0⟩).rsn % 256
    ∧ (s.imgResult op no).rd CUR_IMG_STATUS.SECTION = (no.getD ⟨0, 0, 0⟩).sec % 2 ^ CUR_IMG_STATUS.SECTION.w
    ∧ (s.imgResult op no).rd CUR_IMG_STATUS.ENTRY = (no.getD ⟨0, 0, 0⟩).ent % 2 ^ CUR_IMG_STATUS.ENTRY.w := by
  unfold State.imgResult
  extract_lets u x v
  refine ⟨?_, ?_, ?_, ?_, ?_, ?_, ?_⟩
  · rw [State.rd_wr_apart _ _ (by decide), State.rd_wr_apart _ _ (by decide), State.rd_wr_apart _ _ (by decide), State.rd_wr_apart _ _ (by decide),
      State.rd_setFlag_apart _ _ (by decide), State.rd_wr_apart _ _ (by decide), State.rd_setFlag_apart _ _ (by decide),
      State.rd_setFlag_same _ _ _ (by decide) rfl]
    rfl
  · rw [State.rd_wr_apart _ _ (by decide), State.rd_wr_apart _ _ (by decide), State.rd_wr_apart _ _ (by decide), State.rd_wr_apart _ _ (by decide),
      State.rd_setFlag_apart _ _ (by decide), State.rd_wr_apart _ _ (by decide), State.rd_setFlag_same _ _ _ (by decide) rfl]
    rfl
  · rw [State.rd_wr_apart _ _ (by decide), State.rd_wr_apart _ _ (by decide), State.rd_wr_apart _ _ (by decide), State.rd_wr_apart _ _ (by decide),
      State.rd_setFlag_apart _ _ (by decide), State.rd_wr_same _ _ _ (by decide)]
  · rw [State.rd_wr_apart _ _ (by decide), State.rd_wr_apart _ _ (by decide), State.rd_wr_apart _ _ (by decide), State.rd_wr_apart _ _ (by decide),
      State.rd_setFlag_same _ _ _ (by decide) rfl]
  · rw [State.rd_wr_apart _ _ (by decide), State.rd_wr_apart _ _ (by decide), State.rd_wr_same _ _ _ (by decide)]
    rfl
  · rw [State.rd_wr_apart _ _ (by decide), State.rd_wr_same _ _ _ (by decide)]
  · rw [State.rd_wr_same _ _ _ (by decide)]

/-! ### The application point -/

/-- The update that waits is taken up. -/
def State.unheld (s : State) : State := { s with img := { s.img with held := none } }

theorem State.imgApply_eq {src : MgSrc} {secs : List Sec} (hh : s.img.held = some src)
    (hs : s.imgSections true (s.imgLen / 4) (s.imgB 1 16 16) 8 0 = some secs) : s.imgApply =
    match s.unheld.imgBusy secs with
    | some x => (s.unheld.imgResult 1 (some x)).refuse src x.rsn
    | none => ((s.unheld.updateImage secs).imgResult 1 none).ok src := by
  unfold State.imgApply
  rw [hh, hs]
  rfl

/-- What the traffic section leaves waits for the frame boundary. -/
theorem State.updateImage_tcl {secs : List Sec} (h : (findSec secs 6).isSome = true) : (s.updateImage secs).adm.tclNext.isSome = true := by
  have hset : ∀ u : State, (u.updateTcl secs).adm.tclNext.isSome = true := fun u => by
    rw [State.updateTcl, if_pos h]
    rfl
  have hwin : ∀ u : State, (u.updateWin secs).adm.tclNext = u.adm.tclNext := fun u => by
    unfold State.updateWin
    split <;> rfl
  rw [State.updateImage_eq, (onlyShelf_updateEnd _ secs).adm, hwin]
  exact hset _

theorem imageUpdateApply_spec (s : State) (src : MgSrc) (secs : List Sec) :
    s.img.held = some src →
    s.imgSections true (s.imgLen / 4) (s.imgB 1 16 16) 8 0 = some secs →
    ∃ t, exec (.imageUpdateApply) s = .next t ∧ (∀ x : ImgNo, s.imgBusy secs = some x → t.out = [answerOut src stRefused x.rsn 0] ∧
      t.flag CUR_IMG_STATUS.REFUSED = true ∧ t.rd CUR_IMG_STATUS.REASON = x.rsn % 256 ∧ OnlyRegs { s with img := t.img } t ∧ RegsBut
      [CUR_IMG_CTL.word.off, CUR_IMG_STATUS.word.off] s t)
      ∧ (s.imgBusy secs = none → t.out = [answerOut src stOk rsnNone 0] ∧ t.flag CUR_IMG_STATUS.REFUSED = false ∧ t.word
        CUR_IMG_ACTIVE.word.off = s.imgW 3 ∧ t.word CUR_IMG_CRC.word.off = s.imgW 7)
      ∧ (s.imgBusy secs = none → (findSec secs 6).isSome = true → t.adm.tclNext.isSome = true)
      ∧ t.img = { s.img with held := none }
      ∧ t.flag CUR_IMG_STATUS.BUSY = false
      ∧ t.stk = s.stk
      ∧ t.coh = s.coh
      ∧ t.por = s.por
      ∧ t.front = s.front := by
  intro hh hs
  have hbuf : s.begin.img = s.img := s.begin_img
  have hexec : exec (.imageUpdateApply) s = .next s.begin.imgApply.settle := rfl
  have hlen : s.begin.imgLen = s.imgLen := by
    rw [State.imgLen, State.imgLen, State.imgN_congr (s := s.begin) (t := s) (by rw [hbuf])]
  rw [s.begin.imgApply_eq (by rw [hbuf]; exact hh) (by
    rw [State.imgSections_congr (t := s) (by rw [hbuf]) s.begin_s64, hlen, State.imgB_congr (s := s.begin) (t := s) (by rw [hbuf])]
    exact hs)] at hexec
  have hbusy : s.begin.unheld.imgBusy secs = s.imgBusy secs :=
    State.imgBusy_congr (congrArg Img.buf hbuf) s.begin_s64 (congrArg Ord.pend s.begin_ord) (fun k hk => (State.word_congr rfl rfl k).trans (s.word_begin k hk)) secs
  rw [hbusy] at hexec
  have hun : s.begin.unheld.img = { s.img with held := none } := by rw [← hbuf]; rfl
  rcases Option.eq_none_or_eq_some (s.imgBusy secs) with hb | ⟨x, hb⟩
  · rw [hb] at hexec
    dsimp only at hexec
    have honly := onlyImg_updateImage s.begin.unheld secs
    have htcl := s.begin.unheld.updateImage_tcl (secs := secs)
    obtain ⟨hact, hcrc⟩ := s.begin.unheld.imgShown_words (u := ((((s.begin.unheld.updatePlaces secs).updateTcl secs).updateWin secs).updateRest secs))
      (OnlyImg.img ((((onlyShelf_updatePlaces _ secs).onlyImg.trans (onlyImg_updateTcl _ secs)).trans (onlyImg_updateWin _ secs)).trans
        (onlyShelf_updateRest _ secs).onlyImg))
    rw [← State.updateImage_eq] at hact hcrc
    generalize s.begin.unheld.updateImage secs = u at hexec honly htcl hact hcrc
    have hres := onlyRegFile_imgResult u 1 none
    obtain ⟨_, hshownBusy, _, href, _⟩ := u.imgResult_shown 1 none
    have hwa := u.word_imgResult (k := CUR_IMG_ACTIVE.word.off) (by decide) (by decide) 1 none
    have hwc := u.word_imgResult (k := CUR_IMG_CRC.word.off) (by decide) (by decide) 1 none
    generalize u.imgResult 1 none = v at hexec hres hshownBusy href hwa hwc
    have himgw (i : Nat) : s.begin.unheld.imgW i = s.imgW i := congrFun (State.imgW_congr (by rw [hun])) i
    unfold OnlyImg at honly
    unfold OnlyRegFile at hres
    have hrest : v.out = [] ∧ v.adm = u.adm ∧ v.img = { s.img with held := none } ∧ v.stk = s.stk ∧ v.coh = s.coh ∧ v.por = s.por ∧ v.front = s.front := by
      rw [hres, honly]
      exact ⟨s.begin_out, rfl, hun, s.begin_stk, s.begin_coh, s.begin_por, s.begin_front⟩
    obtain ⟨hout, hadm, himg, hstk, hcoh, hpor, hfront⟩ := hrest
    refine ⟨_, hexec, fun x hx => absurd (hb.symm.trans hx) (by simp), fun _ => ⟨?_, ?_, ?_, ?_⟩, fun _ h6 => ?_, ?_, ?_, ?_, ?_, ?_, ?_⟩
    · rw [State.settle_out, State.ok_out, hout]
      rfl
    · rw [State.flag_eq, State.rd_settle, State.rd_ok, href]
      rfl
    · exact ((State.word_ok ..).trans hwa).trans (hact.trans (himgw 3))
    · exact ((State.word_ok ..).trans hwc).trans (hcrc.trans (himgw 7))
    · rw [State.settle_adm, State.ok_adm, hadm]
      exact htcl h6
    · rw [State.settle_img, State.ok_img, himg]
    · rw [State.flag_eq, State.rd_settle, State.rd_ok, hshownBusy]
      rfl
    · rw [State.settle_stk, State.ok_stk, hstk]
    · rw [State.settle_coh, State.ok_coh, hcoh]
    · rw [State.settle_por, State.ok_por, hpor]
    · rw [State.settle_front, State.ok_front, hfront]
  · rw [hb] at hexec
    dsimp only at hexec
    have hres := onlyRegFile_imgResult s.begin.unheld 1 (some x)
    obtain ⟨_, hshownBusy, _, href, hrsn, _⟩ := s.begin.unheld.imgResult_shown 1 (some x)
    have hw (k : Nat) (hc : k ≠ CUR_IMG_CTL.word.off) (hs : k ≠ CUR_IMG_STATUS.word.off) :=
      s.begin.unheld.word_imgResult hc hs 1 (some x)
    generalize s.begin.unheld.imgResult 1 (some x) = v at hexec hres hshownBusy href hrsn hw
    unfold OnlyRegFile at hres
    have hrest : v.out = [] ∧ v.img = { s.img with held := none } ∧ v.stk = s.stk ∧ v.coh = s.coh ∧ v.por = s.por ∧ v.front = s.front := by
      rw [hres]
      exact ⟨s.begin_out, hun, s.begin_stk, s.begin_coh, s.begin_por, s.begin_front⟩
    obtain ⟨hout, himg, hstk, hcoh, hpor, hfront⟩ := hrest
    refine ⟨_, hexec, fun y hy => ?_, fun hn => absurd (hn.symm.trans hb) (by simp), fun hn => absurd (hn.symm.trans hb) (by simp), ?_, ?_, ?_, ?_, ?_, ?_⟩
    · obtain rfl : x = y := Option.some_inj.mp (hb.symm.trans hy)
      refine ⟨?_, ?_, ?_, ?_, fun k hk hp => ?_⟩
      · rw [State.settle_out, State.refuse_out, hout]
        rfl
      · rw [State.flag_eq, State.rd_settle, State.rd_refuse, href]
        rfl
      · rw [State.rd_settle, State.rd_refuse, hrsn]
        rfl
      · rw [hres]
        apply onlyRegs_settle <;> simp [State.unheld]
      · simp only [List.mem_cons, List.not_mem_nil, or_false, not_or] at hk
        rw [State.word_settle, State.word_refuse, hw k hk.1 hk.2]
        exact (State.word_congr rfl rfl k).trans (s.word_begin k hp)
    · rw [State.settle_img, State.refuse_img, himg]
    · rw [State.flag_eq, State.rd_settle, State.rd_refuse, hshownBusy]
      rfl
    · rw [State.settle_stk, State.refuse_stk, hstk]
    · rw [State.settle_coh, State.refuse_coh, hcoh]
    · rw [State.settle_por, State.refuse_por, hpor]
    · rw [State.settle_front, State.refuse_front, hfront]

end Sys2Proof.Machine
end

section
/-! O50: the registers that an image operation itself touches lie outside what the checks of an image read (R272). -/

namespace Sys2Proof.Machine

/-! ### The windows' part of a register file -/

/-- The offsets of the window and plan registers. -/
def winRange (k : Nat) : Bool := decide (0x25100 ≤ k) && decide (k < 0x26000)

theorem winRange_of_winOff {k : Nat} (h : winOff k = true) : winRange k = true := by
  simp only [winOff, winRange, Bool.or_eq_true, Bool.and_eq_true, decide_eq_true_eq] at *
  omega

theorem winRange_eq_false {k : Nat} : winRange k = false ↔ k < 0x25100 ∨ 0x26000 ≤ k := by
  simp only [winRange, Bool.and_eq_false_iff, decide_eq_false_iff_not]
  omega

theorem winRange_eq_true {k : Nat} : winRange k = true ↔ 0x25100 ≤ k ∧ k < 0x26000 := by
  simp only [winRange, Bool.and_eq_true, decide_eq_true_eq]

/-- The window registers that a table lists. -/
def winAll (t : Tab Word) : Tab Word := tfilter (fun k _ => winRange k) t

/-- Those that it lists before the first register beyond them. -/
def winHead : Tab Word → Tab Word
  | [] => []
  | (j, w) :: r => if j < 0x26000 then (if winRange j then (j, w) :: winHead r else winHead r) else []

/-- Those that it lists, against the order of the offsets, after a register beyond them. -/
def winTail : Tab Word → Tab Word
  | [] => []
  | (j, _) :: r => if j < 0x26000 then winTail r else winAll r

theorem winAll_cons (j : Nat) (w : Word) (r : Tab Word) : winAll ((j, w) :: r) = if winRange j then (j, w) :: winAll r else winAll r := rfl

theorem winHead_cons (j : Nat) (w : Word) (r : Tab Word) :
    winHead ((j, w) :: r) = if j < 0x26000 then (if winRange j then (j, w) :: winHead r else winHead r) else [] := rfl

theorem winTail_cons (j : Nat) (w : Word) (r : Tab Word) : winTail ((j, w) :: r) = if j < 0x26000 then winTail r else winAll r := rfl

theorem winAll_eq (t : Tab Word) : winAll t = winHead t ++ winTail t := by
  induction t with
  | nil => rfl
  | cons e r ih =>
    obtain ⟨j, w⟩ := e
    by_cases hj : j < 0x26000
    · rw [winAll_cons, winHead_cons, winTail_cons, if_pos hj, if_pos hj, ih]
      split <;> rfl
    · rw [winAll_cons, winHead_cons, winTail_cons, if_neg hj, if_neg hj, winRange_eq_false.mpr (Or.inr (by omega))]
      rfl

theorem winAll_tset_other {k : Nat} (hk : winRange k = false) (v : Word) (t : Tab Word) : winAll (tset t k v) = winAll t := by
  induction t with
  | nil => rw [tset, winAll_cons, hk]; rfl
  | cons e r ih =>
    obtain ⟨j, w⟩ := e
    rw [tset]
    split
    · rw [winAll_cons, hk]; rfl
    · split
      · next h => subst h; rw [winAll_cons, winAll_cons, hk]; rfl
      · rw [winAll_cons, winAll_cons, ih]

theorem winAll_tdel_other {k : Nat} (hk : winRange k = false) (t : Tab Word) : winAll (tdel t k) = winAll t := by
  induction t with
  | nil => rfl
  | cons e r ih =>
    obtain ⟨j, w⟩ := e
    rw [tdel]
    split
    · next h => subst h; rw [winAll_cons, hk, ih]; rfl
    · rw [winAll_cons, winAll_cons, ih]

theorem winAll_tdel_win {k : Nat} (hk : winRange k = true) (t : Tab Word) : winAll (tdel t k) = tdel (winAll t) k := by
  induction t with
  | nil => rfl
  | cons e r ih =>
    obtain ⟨j, w⟩ := e
    rw [tdel, winAll_cons]
    by_cases h : j = k
    · rw [if_pos h, ih, h, hk, if_pos rfl, tdel, if_pos rfl]
    · rw [if_neg h, winAll_cons, ih]
      split
      · rw [tdel, if_neg h]
      · rfl

theorem winHead_tset_other {k : Nat} (hk : winRange k = false) (v : Word) (t : Tab Word) : winHead (tset t k v) = winHead t := by
  induction t with
  | nil =>
    rw [tset, winHead_cons, hk]
    split <;> rfl
  | cons e r ih =>
    obtain ⟨j, w⟩ := e
    rw [tset]
    split
    · next h =>
      rw [winHead_cons, hk]
      by_cases hlt : k < 0x26000
      · rw [if_pos hlt]; rfl
      · rw [if_neg hlt, winHead_cons, if_neg (by omega)]
    · split
      · next h => subst h; rw [winHead_cons, winHead_cons, hk]; rfl
      · rw [winHead_cons, winHead_cons, ih]

theorem winTail_tset_other {k : Nat} (hk : winRange k = false) (v : Word) (t : Tab Word) : winTail (tset t k v) = winTail t := by
  have h := winAll_tset_other hk v t
  rw [winAll_eq, winAll_eq, winHead_tset_other hk] at h
  exact List.append_cancel_left h

theorem winHead_tdel_low {k : Nat} (hk : k < 0x25100) (t : Tab Word) : winHead (tdel t k) = winHead t := by
  induction t with
  | nil => rfl
  | cons e r ih =>
    obtain ⟨j, w⟩ := e
    rw [tdel]
    split
    · next h => rw [winHead_cons, if_pos (by omega), winRange_eq_false.mpr (by omega), ih]; rfl
    · rw [winHead_cons, winHead_cons, ih]

theorem winTail_tdel_low {k : Nat} (hk : k < 0x25100) (t : Tab Word) : winTail (tdel t k) = winTail t := by
  have h := winAll_tdel_other (winRange_eq_false.mpr (Or.inl hk)) t
  rw [winAll_eq, winAll_eq, winHead_tdel_low hk] at h
  exact List.append_cancel_left h

theorem winHead_tset_win {k : Nat} (hk : winRange k = true) (v : Word) (t : Tab Word) : winHead (tset t k v) = tset (winHead t) k v := by
  obtain ⟨h1, h2⟩ := winRange_eq_true.mp hk
  induction t with
  | nil => rw [tset, winHead_cons, if_pos h2, if_pos hk]; rfl
  | cons e r ih =>
    obtain ⟨j, w⟩ := e
    rcases Nat.lt_trichotomy k j with h | h | h
    · rw [tset, if_pos h, winHead_cons, if_pos h2, if_pos hk, winHead_cons]
      by_cases hj : j < 0x26000
      · rw [if_pos hj, winRange_eq_true.mpr (by omega), if_pos rfl, tset, if_pos h]
      · rw [if_neg hj]; rfl
    · subst h
      rw [tset, if_neg (Nat.lt_irrefl k), if_pos rfl, winHead_cons, if_pos h2, if_pos hk, winHead_cons, if_pos h2, if_pos hk, tset,
        if_neg (Nat.lt_irrefl k), if_pos rfl]
    · have hj : j < 0x26000 := by omega
      have hlt : ¬ k < j := by omega
      have hne : j ≠ k := by omega
      rw [tset, if_neg hlt, if_neg hne, winHead_cons, if_pos hj, winHead_cons, if_pos hj, ih]
      split
      · rw [tset, if_neg hlt, if_neg hne]
      · rfl

theorem winTail_tset_win {k : Nat} (hk : winRange k = true) (v : Word) (t : Tab Word) : winTail (tset t k v) = winTail t := by
  obtain ⟨h1, h2⟩ := winRange_eq_true.mp hk
  induction t with
  | nil => rw [tset, winTail_cons, if_pos h2]
  | cons e r ih =>
    obtain ⟨j, w⟩ := e
    rw [tset]
    split
    · rw [winTail_cons, if_pos h2]
    · split
      · next h => subst h; rw [winTail_cons, winTail_cons, if_pos h2]
      · rw [winTail_cons, winTail_cons, if_pos (by omega), if_pos (by omega), ih]

theorem winHead_tdel_win {k : Nat} (hk : winRange k = true) (t : Tab Word) : winHead (tdel t k) = tdel (winHead t) k := by
  obtain ⟨h1, h2⟩ := winRange_eq_true.mp hk
  induction t with
  | nil => rfl
  | cons e r ih =>
    obtain ⟨j, w⟩ := e
    by_cases h : j = k
    · subst h
      rw [tdel, if_pos rfl, winHead_cons, if_pos h2, if_pos hk, tdel, if_pos rfl, ih]
    · rw [tdel, if_neg h, winHead_cons, winHead_cons, ih]
      split
      · split
        · rw [tdel, if_neg h]
        · rfl
      · rfl

theorem winTail_tdel_win {k : Nat} (hk : winRange k = true) (t : Tab Word) : winTail (tdel t k) = tdel (winTail t) k := by
  obtain ⟨h1, h2⟩ := winRange_eq_true.mp hk
  induction t with
  | nil => rfl
  | cons e r ih =>
    obtain ⟨j, w⟩ := e
    by_cases h : j = k
    · subst h
      rw [tdel, if_pos rfl, winTail_cons, if_pos h2, ih]
    · rw [tdel, if_neg h, winTail_cons, winTail_cons, ih, winAll_tdel_win hk]
      split <;> rfl

/-- No window register stands against the order of the offsets: a deletion keeps this. -/
theorem winSplit_tdel_calm {k : Nat} (hk : winRange k = false) {t : Tab Word} (ht : winTail t = []) :
    winHead (tdel t k) = winHead t ∧ winTail (tdel t k) = [] := by
  have hall : winAll (tdel t k) = winHead t := by rw [winAll_tdel_other hk, winAll_eq, ht, List.append_nil]
  have htail : winTail (tdel t k) = [] := by
    clear hall
    induction t with
    | nil => rfl
    | cons e r ih =>
      obtain ⟨j, w⟩ := e
      rw [winTail_cons] at ht
      by_cases hj : j < 0x26000
      · rw [if_pos hj] at ht
        rw [tdel]
        split
        · exact ih ht
        · rw [winTail_cons, if_pos hj]
          exact ih ht
      · rw [if_neg hj] at ht
        rw [tdel]
        split
        · have h := winAll_eq (tdel r k)
          rw [winAll_tdel_other hk, ht] at h
          exact (List.append_eq_nil_iff.mp h.symm).2
        · rw [winTail_cons, if_neg hj, winAll_tdel_other hk, ht]
  rw [winAll_eq, htail, List.append_nil] at hall
  exact ⟨hall, htail⟩

/-! ### Three ways in which two register files agree about the windows -/

/-- They list the same window registers. -/
def WinSame (a b : Tab Word) : Prop := winAll a = winAll b

/-- They list the same, before and after the first register beyond them. -/
def WinSplit (a b : Tab Word) : Prop := winHead a = winHead b ∧ winTail a = winTail b

/-- They list the same, and none against the order of the offsets. -/
def WinCalm (a b : Tab Word) : Prop := winHead a = winHead b ∧ winTail a = [] ∧ winTail b = []

/-- Any two. -/
def WinAny (_ _ : Tab Word) : Prop := True

theorem WinSplit.winSame {a b : Tab Word} (h : WinSplit a b) : WinSame a b := by
  rw [WinSame, winAll_eq, winAll_eq, h.1, h.2]

theorem WinCalm.winSame {a b : Tab Word} (h : WinCalm a b) : WinSame a b := by
  rw [WinSame, winAll_eq, winAll_eq, h.1, h.2.1, h.2.2]

/-- A write at the offset keeps the agreement. -/
def Free (P : Tab Word → Tab Word → Prop) (k : Nat) : Prop := ∀ (d v : Word) (a b : Tab Word), P a b → P (tput d a k v) (tput d b k v)

theorem free_winAny (k : Nat) : Free WinAny k := fun _ _ _ _ _ => trivial

theorem free_winSame {k : Nat} (hk : winRange k = false) : Free WinSame k := by
  intro d v a b h
  unfold WinSame tput at *
  split
  · rw [winAll_tdel_other hk, winAll_tdel_other hk, h]
  · rw [winAll_tset_other hk, winAll_tset_other hk, h]

theorem free_winSplit {k : Nat} (hk : k < 0x26000) : Free WinSplit k := by
  intro d v a b ⟨hh, ht⟩
  unfold tput
  by_cases hw : winRange k = true
  · split
    · exact ⟨by rw [winHead_tdel_win hw, winHead_tdel_win hw, hh], by rw [winTail_tdel_win hw, winTail_tdel_win hw, ht]⟩
    · exact ⟨by rw [winHead_tset_win hw, winHead_tset_win hw, hh], by rw [winTail_tset_win hw, winTail_tset_win hw, ht]⟩
  · have hf : winRange k = false := by simpa using hw
    have hlow : k < 0x25100 := by
      have := winRange_eq_false.mp hf
      omega
    split
    · exact ⟨by rw [winHead_tdel_low hlow, winHead_tdel_low hlow, hh], by rw [winTail_tdel_low hlow, winTail_tdel_low hlow, ht]⟩
    · exact ⟨by rw [winHead_tset_other hf, winHead_tset_other hf, hh], by rw [winTail_tset_other hf, winTail_tset_other hf, ht]⟩

theorem free_winCalm (k : Nat) : Free WinCalm k := by
  intro d v a b ⟨hh, ha, hb⟩
  unfold tput
  by_cases hw : winRange k = true
  · split
    · exact ⟨by rw [winHead_tdel_win hw, winHead_tdel_win hw, hh], by rw [winTail_tdel_win hw, ha]; rfl, by rw [winTail_tdel_win hw, hb]; rfl⟩
    · exact ⟨by rw [winHead_tset_win hw, winHead_tset_win hw, hh], by rw [winTail_tset_win hw, ha], by rw [winTail_tset_win hw, hb]⟩
  · have hf : winRange k = false := by simpa using hw
    split
    · obtain ⟨h1, h2⟩ := winSplit_tdel_calm hf ha
      obtain ⟨h3, h4⟩ := winSplit_tdel_calm hf hb
      exact ⟨by rw [h1, h3, hh], h2, h4⟩
    · exact ⟨by rw [winHead_tset_other hf, winHead_tset_other hf, hh], by rw [winTail_tset_other hf, ha], by rw [winTail_tset_other hf, hb]⟩

/-- A table that lists no window register lists none after a filter. -/
theorem winAll_tfilter_nil {t : Tab Word} (q : Nat → Word → Bool) (h : winAll t = []) : winAll (tfilter q t) = [] := by
  induction t with
  | nil => rfl
  | cons a r ih =>
    obtain ⟨j, w⟩ := a
    rw [winAll_cons] at h
    split at h
    · exact absurd h (by simp)
    · next hj =>
      rw [tfilter]
      split
      · rw [winAll_cons, if_neg hj]
        exact ih h
      · exact ih h

theorem winAll_cleared (t : Tab Word) : winAll (tfilter (fun off _ => !(decide (0x25100 ≤ off) && decide (off < 0x26000))) t) = [] := by
  induction t with
  | nil => rfl
  | cons a r ih =>
    obtain ⟨j, w⟩ := a
    rw [tfilter]
    split
    · next hj =>
      rw [Bool.not_eq_true'] at hj
      rw [winAll_cons, if_neg (by rw [winRange, hj]; exact Bool.false_ne_true)]
      exact ih
    · exact ih

theorem winCalm_of_nil {a b : Tab Word} (ha : winAll a = []) (hb : winAll b = []) : WinCalm a b := by
  rw [winAll_eq] at ha hb
  obtain ⟨h1, h2⟩ := List.append_eq_nil_iff.mp ha
  obtain ⟨h3, h4⟩ := List.append_eq_nil_iff.mp hb
  exact ⟨by rw [h1, h3], h2, h4⟩

theorem winOff_tfilter (t : Tab Word) : tfilter (fun k _ => winOff k) t = tfilter (fun k _ => winOff k) (winAll t) := by
  induction t with
  | nil => rfl
  | cons a r ih =>
    obtain ⟨j, w⟩ := a
    rw [winAll_cons, tfilter]
    by_cases hj : winOff j = true
    · rw [if_pos hj, winRange_of_winOff hj, if_pos rfl, tfilter, if_pos hj, ih]
    · rw [if_neg hj, ih]
      split
      · rw [tfilter, if_neg hj]
      · rfl

end Sys2Proof.Machine
end

section
/-! O50: two states that an image operation cannot tell apart, and what the writers of the sections keep of that (R267, R274). -/

namespace Sys2Proof.Machine

/-- The offsets that an image's checks and writers use: none lies among the PMU's and mailbox's registers or is CUR_IMG_CTL. -/
def Seen (k : Nat) : Prop := k < 0x2A000 ∨ 0x31000 < k

/-- The states agree in every register that is seen, list the window registers as `P` says, and differ otherwise in what the step sends
and in the marks of its beginning alone. -/
structure Twin (P : Tab Word → Tab Word → Prop) (s t : State) : Prop where
  rest : t = { s with regs := t.regs, out := t.out, err := t.err, pmuFrz := t.pmuFrz }
  words : ∀ k, Seen k → s.word k = t.word k
  tabs : P s.regs t.regs

section
variable {P Q : Tab Word → Tab Word → Prop} {s t : State}

theorem Twin.weaken (h : Twin P s t) (hPQ : ∀ a b, P a b → Q a b) : Twin Q s t := ⟨h.rest, h.words, hPQ _ _ h.tabs⟩

theorem Twin.any (h : Twin P s t) : Twin WinAny s t := h.weaken fun _ _ _ => trivial

/-! ### What they agree in -/

theorem Twin.img (h : Twin P s t) : s.img = t.img := by rw [h.rest]
theorem Twin.s64 (h : Twin P s t) : s.s64 = t.s64 := by rw [h.rest]
theorem Twin.adm (h : Twin P s t) : s.adm = t.adm := by rw [h.rest]
theorem Twin.ord (h : Twin P s t) : s.ord = t.ord := by rw [h.rest]
theorem Twin.cfg (h : Twin P s t) : s.cfg = t.cfg := by rw [h.rest]
theorem Twin.start (h : Twin P s t) : s.start = t.start := by rw [h.rest]
theorem Twin.front (h : Twin P s t) : s.front = t.front := by rw [h.rest]
theorem Twin.imgW (h : Twin P s t) : s.imgW = t.imgW := State.imgW_congr (by rw [h.img])
theorem Twin.imgN (h : Twin P s t) : s.imgN = t.imgN := State.imgN_congr (by rw [h.img])
theorem Twin.imgB (h : Twin P s t) : s.imgB = t.imgB := State.imgB_congr (by rw [h.img])
theorem Twin.lanes (h : Twin P s t) : s.lanes = t.lanes := by rw [State.lanes, State.lanes, h.s64]
theorem Twin.ways (h : Twin P s t) : s.ways = t.ways := by rw [State.ways, State.ways, h.s64]

theorem Twin.entriesOf (h : Twin P s t) (secs : List Sec) (typ : Nat) : s.entriesOf secs typ = t.entriesOf secs typ :=
  State.entriesOf_congr h.s64 secs typ

theorem Twin.rdI (h : Twin P s t) (f : Field) (i : Nat) (hs : Seen (f.off + f.stride * i)) : s.rdI f i = t.rdI f i :=
  State.rdI_congr f i (h.words _ hs)

theorem Twin.flagI (h : Twin P s t) (f : Field) (i : Nat) (hs : Seen (f.off + f.stride * i)) : s.flagI f i = t.flagI f i := by
  rw [State.flagI, State.flagI, h.rdI f i hs]

theorem Twin.rd (h : Twin P s t) (f : Field) (hs : Seen f.off) : s.rd f = t.rd f := h.rdI f 0 hs
theorem Twin.flag (h : Twin P s t) (f : Field) (hs : Seen f.off) : s.flag f = t.flag f := h.flagI f 0 hs
theorem Twin.bit (h : Twin P s t) (f : Field) (k : Nat) (hs : Seen f.off) : s.bit f k = t.bit f k := by
  rw [State.bit, State.bit, h.rd f hs]

/-! ### Writes keep it -/

theorem Twin.setWord (h : Twin P s t) {off : Nat} (hP : Free P off) (v : Word) : Twin P (s.setWord off v) (t.setWord off v) where
  rest := by
    have hr := h.rest
    generalize t.regs = regs, t.out = out, t.err = err, t.pmuFrz = frz at hr
    subst hr
    rfl
  words k hk := by rw [State.word_setWord, State.word_setWord, h.words k hk]
  tabs := by
    show P (tput (resetWord s.s64 off) s.regs off v) (tput (resetWord t.s64 off) t.regs off v)
    rw [← h.s64]
    exact hP _ _ _ _ h.tabs

theorem Twin.setWord_same (h : Twin P s t) {off : Nat} (hP : Free P off) {v w : Word} (hvw : v = w) :
    Twin P (s.setWord off v) (t.setWord off w) := hvw ▸ h.setWord hP v

theorem Twin.wrI (h : Twin P s t) (f : Field) (i : Nat) (hP : Free P (f.off + f.stride * i)) (hs : Seen (f.off + f.stride * i)) (v : Nat) :
    Twin P (s.wrI f i v) (t.wrI f i v) := h.setWord_same hP (by rw [h.words _ hs])

theorem Twin.wr (h : Twin P s t) (f : Field) (hP : Free P f.off) (hs : Seen f.off) (v : Nat) : Twin P (s.wr f v) (t.wr f v) :=
  h.wrI f 0 hP hs v

theorem Twin.plain (h : Twin P s t) {off : Nat} (hP : Free P off) (hs : Seen off) (w : Word) : Twin P (s.plain off w) (t.plain off w) := by
  unfold State.plain
  rw [← h.s64]
  split
  · exact h.setWord_same hP (by rw [h.words _ hs])
  · exact h

theorem Twin.foldl {α : Type} {g : State → α → State} {l : List α} (hg : ∀ a ∈ l, ∀ s t, Twin P s t → Twin P (g s a) (g t a))
    (h : Twin P s t) : Twin P (l.foldl g s) (l.foldl g t) := by
  induction l generalizing s t with
  | nil => exact h
  | cons a l ih => exact ih (fun b hb => hg b (List.mem_cons_of_mem _ hb)) (hg a List.mem_cons_self _ _ h)

theorem Twin.putSec {f : State → Nat → State} (hf : ∀ e s t, Twin P s t → Twin P (f s e) (f t e)) (h : Twin P s t) (secs : List Sec)
    (typ : Nat) : Twin P (s.putSec secs typ f) (t.putSec secs typ f) := by
  unfold State.putSec
  rw [h.entriesOf]
  exact Twin.foldl (fun e _ s t => hf e s t) h

theorem Twin.putWords (h : Twin P s t) {off : Nat} {ws : List Nat} (hP : ∀ i, i < ws.length → Free P (off + 4 * i)) :
    Twin P (s.putWords off ws) (t.putWords off ws) :=
  Twin.foldl (fun x hx _ _ h => h.setWord (hP x.1 (List.mem_range.mp (List.of_mem_zip hx).1)) _) h

/-! ### The sections that an update writes before the windows -/

/-- The writes below the window registers are free. -/
def FreeBelow (P : Tab Word → Tab Word → Prop) : Prop := ∀ k, k < 0x25100 → Free P k

theorem Twin.putCarrel (h : Twin P s t) (hP : FreeBelow P) (e : Nat) : Twin P (s.putCarrel e) (t.putCarrel e) := by
  have hc : t.imgB (e + 3) 0 6 < 64 := t.imgB_lt ..
  unfold State.putCarrel
  rw [h.imgB, h.imgN]
  extract_lets c off ways
  have hoff : off < 0x6100 + 16 * 64 := by
    show 0x6100 + 16 * c < _
    omega
  split
  · exact h.putWords fun i hi => hP _ (by simp only [List.length_cons, List.length_nil] at hi; omega)
  · exact h.putWords fun i hi => hP _ (by simp only [List.length_cons, List.length_nil] at hi; omega)

theorem Twin.putShutter (h : Twin P s t) (hP : FreeBelow P) (e : Nat) : Twin P (s.putShutter e) (t.putShutter e) := by
  have hn : t.imgB (e + 1) 16 8 < 256 := t.imgB_lt ..
  unfold State.putShutter
  rw [h.imgB, h.imgN]
  extract_lets off
  have hoff : off < 0x7800 + 8 * 256 := by
    show 0x7800 + 8 * t.imgB (e + 1) 16 8 < _
    omega
  split
  · exact h.putWords fun i hi => hP _ (by simp only [List.length_cons, List.length_nil] at hi; omega)
  · exact h.putWords fun i hi => hP _ (by simp only [List.length_cons, List.length_nil] at hi; omega)

theorem Twin.putBypass (h : Twin P s t) (hP : FreeBelow P) (e : Nat) : Twin P (s.putBypass e) (t.putBypass e) := by
  have hw : t.imgB (e + 2) 4 4 < 16 := t.imgB_lt ..
  unfold State.putBypass
  rw [h.imgB, h.imgN]
  extract_lets off
  have hoff : off < 0xA100 + 32 * 16 := by
    show 0xA100 + 32 * t.imgB (e + 2) 4 4 < _
    omega
  split
  · exact (h.putWords fun i hi => hP _ (by simp only [List.length_cons, List.length_nil] at hi; omega)).putWords
      fun i hi => hP _ (by simp only [List.length_cons, List.length_nil] at hi; omega)
  · exact (h.putWords fun i hi => hP _ (by simp only [List.length_cons, List.length_nil] at hi; omega)).putWords
      fun i hi => hP _ (by simp only [List.length_cons, List.length_nil] at hi; omega)

/-- What changes no register and no mark of the step, and reads none, keeps it. -/
theorem Twin.other (h : Twin P s t) {g : State → State}
    (hg : ∀ u regs out err frz, g { u with regs := regs, out := out, err := err, pmuFrz := frz } =
      { g u with regs := regs, out := out, err := err, pmuFrz := frz })
    (hs : ∀ u, (g u).s64 = u.s64) : Twin P (g s) (g t) := by
  have hregs (u : State) : (g u).regs = u.regs := (congrArg State.regs (hg u u.regs u.out u.err u.pmuFrz) :)
  have hgt : g t = { g s with regs := t.regs, out := t.out, err := t.err, pmuFrz := t.pmuFrz } := by
    rw [← hg, ← h.rest]
  refine ⟨?_, fun k hk => ?_, ?_⟩
  · rw [hgt]
  · rw [State.word_congr (hs s) (hregs s) k, State.word_congr (hs t) (hregs t) k, h.words k hk]
  · rw [hregs, hregs]
    exact h.tabs

theorem Twin.clearPend (h : Twin P s t) (e : Nat) : Twin P (s.clearPend e) (t.clearPend e) :=
  h.other (g := fun s => s.clearPend e) (fun _ _ _ _ _ => rfl) (fun _ => rfl)

theorem Twin.putTraffic (h : Twin P s t) (hP : FreeBelow P) (e : Nat) : Twin P (s.putTraffic e) (t.putTraffic e) := by
  have hf := Twin.foldl (g := fun s l => (s.setWord (TCL_RATE.word.off + 16 * l) (s.imgW (e + 2 * l))).setWord (TCL_CRED.word.off + 16 * l)
    (BitVec.ofNat 32 (s.imgB (e + 2 * l + 1) 0 4))) (l := List.range 8) (fun l hl s t h => by
    have hlt := List.mem_range.mp hl
    exact (h.setWord_same (off := TCL_RATE.word.off + 16 * l) (hP _ (by simp only; omega)) (congrFun h.imgW (e + 2 * l))).setWord_same
      (off := TCL_CRED.word.off + 16 * l) (hP _ (by simp only; omega)) (by rw [h.imgB])) h
  exact hf.setWord_same (hP _ (by decide)) (by rw [hf.imgB])

/-! ### The windows -/

/-- The writes up to the window registers are free. -/
def FreeUpTo (P : Tab Word → Tab Word → Prop) : Prop := ∀ k, k < 0x26000 → Free P k

theorem FreeUpTo.below (hP : FreeUpTo P) : FreeBelow P := fun k hk => hP k (by omega)

theorem Twin.putWindows (h : Twin P s t) (hP : FreeUpTo P) (e : Nat) : Twin P (s.putWindows e) (t.putWindows e) := by
  have hctl := Twin.foldl (g := fun s w => s.plain (WIN_ENT_CTL.word.off + 16 * w) (s.imgW (e + w))) (l := List.range 16) (fun w hw s t h => by
    have hlt := List.mem_range.mp hw
    rw [h.imgW]
    exact h.plain (hP _ (by simp only; omega)) (Or.inl (by simp only; omega)) _) h
  unfold State.putWindows
  extract_lets u v
  have huv : Twin P u v := hctl
  have hlanes : 128 * v.lanes ≤ 512 := by
    unfold State.lanes
    split <;> decide
  rw [huv.lanes]
  refine Twin.foldl (fun j hj s t h => ?_) huv
  have hlt := List.mem_range.mp hj
  rw [h.imgW]
  exact h.plain (hP _ (by simp only; omega)) (Or.inl (by simp only; omega)) _

/-! ### The sections beyond the windows -/

/-- The writes of other registers than the windows' are free. -/
def FreeBeside (P : Tab Word → Tab Word → Prop) : Prop := ∀ k, winRange k = false → Free P k

theorem FreeBeside.above (hP : FreeBeside P) {k : Nat} (hk : 0x26000 ≤ k) : Free P k := hP k (winRange_eq_false.mpr (Or.inr hk))

theorem Twin.putChain (h : Twin P s t) (hP : FreeBeside P) (e : Nat) : Twin P (s.putChain e) (t.putChain e) := by
  have hc : t.imgB e 28 4 < 16 := t.imgB_lt ..
  unfold State.putChain
  rw [h.imgB]
  extract_lets c off keep x u y v
  have hoff : 0x27100 ≤ off ∧ off < 0x27100 + 32 * 16 := by
    constructor
    · show _ ≤ 0x27100 + 32 * c
      omega
    · show 0x27100 + 32 * c < _
      omega
  have hxy : Twin P x y := h.setWord (hP.above (by omega)) _
  have huv : Twin P u v := by
    show Twin P ((x.plain (off + 4) (x.imgW (e + 1))).plain (off + 8) (x.imgW (e + 2)))
      ((y.plain (off + 4) (y.imgW (e + 1))).plain (off + 8) (y.imgW (e + 2)))
    rw [hxy.imgW]
    exact (hxy.plain (hP.above (by omega)) (Or.inl (by omega)) _).plain (hP.above (by omega)) (Or.inl (by omega)) _
  rw [huv.imgW]
  exact huv.plain (hP.above (by omega)) (Or.inl (by omega)) _

/-- The registers that BOUNDS writes before the groups' counts are dropped. -/
def State.boundsRegs (s : State) (e : Nat) : State :=
  ((((((s.wr ALT_WINDOW.WIN_US (s.imgB e 0 16)).wr ALT_WINDOW.MIN_ACC (s.imgB e 16 16)).wr ALT_POLICY.HOLD (s.imgB (e + 1) 0 8)).wr
    ALT_POLICY.RESTORE (s.imgB (e + 1) 8 8)).wr ALT_POLICY.THRASH_PCT (s.imgB (e + 1) 16 7)).wr ALT_POLICY.MIN_GROUPS
    (s.imgB (e + 1) 24 5)).setWord PFT_DEG_MAX.word.off (s.imgW (e + 2))

/-- REF_MIN is taken and the groups' counts are dropped. -/
def State.boundsCfg (s : State) (e : Nat) : State :=
  { s with cfg := { s.cfg with refMin := s.imgB (e + 3) 0 1 = 1 }, place := { s.place with grpAcc := [], grpMiss := [] } }

/-- COOL_OK is taken. -/
def State.powerCfg (s : State) (e : Nat) : State := { s with cfg := { s.cfg with coolOk := s.imgB (e + 1) 16 1 = 1 } }

theorem State.putBounds_eq (s : State) (e : Nat) : s.putBounds e =
    ((((s.boundsRegs e).boundsCfg e).wr ALT_ADAPT.FREEZE (s.imgB (e + 3) 1 1)).wr ALT_ADAPT.THRASH_RUN 0).wr ALT_ADAPT.CALM_RUN 0 := rfl

theorem State.putPower_eq (s : State) (e : Nat) : s.putPower e =
    ((s.powerCfg e).wr PWR_RETAIN.WAYS (s.imgN e)).wr PWR_RAMP.RAMP_US (s.imgB (e + 1) 0 16) := rfl

/-- A single register beside the windows'. -/
theorem Twin.wrBeside (h : Twin P s t) (hP : FreeBeside P) (f : Field) (hw : winRange f.off = false) (hs : Seen f.off) (v : Nat) :
    Twin P (s.wr f v) (t.wr f v) := h.wr f (hP _ hw) hs v

theorem Twin.boundsRegs (h : Twin P s t) (hP : FreeBeside P) (e : Nat) : Twin P (s.boundsRegs e) (t.boundsRegs e) := by
  have hs : ∀ f ∈ [ALT_WINDOW.WIN_US, ALT_WINDOW.MIN_ACC, ALT_POLICY.HOLD, ALT_POLICY.RESTORE, ALT_POLICY.THRASH_PCT, ALT_POLICY.MIN_GROUPS],
      winRange f.off = false ∧ Seen f.off := by
    unfold Seen
    decide
  have hwr (f : Field) (hf) {s t : State} (h : Twin P s t) (v : Nat) := h.wrBeside hP f (hs f hf).1 (hs f hf).2 v
  unfold State.boundsRegs
  rw [h.imgB, h.imgW]
  exact (hwr _ (by decide) (hwr _ (by decide) (hwr _ (by decide) (hwr _ (by decide) (hwr _ (by decide) (hwr _ (by decide) h _) _) _) _) _) _).setWord
    (hP _ (by decide)) _

theorem Twin.putBounds (h : Twin P s t) (hP : FreeBeside P) (e : Nat) : Twin P (s.putBounds e) (t.putBounds e) := by
  have hs : ∀ f ∈ [ALT_ADAPT.FREEZE, ALT_ADAPT.THRASH_RUN, ALT_ADAPT.CALM_RUN], winRange f.off = false ∧ Seen f.off := by
    unfold Seen
    decide
  have hwr (f : Field) (hf) {s t : State} (h : Twin P s t) (v : Nat) := h.wrBeside hP f (hs f hf).1 (hs f hf).2 v
  have hcfg := (h.boundsRegs hP e).other (g := fun s => s.boundsCfg e) (fun _ _ _ _ _ => rfl) (fun _ => rfl)
  rw [State.putBounds_eq, State.putBounds_eq, h.imgB]
  exact hwr _ (by decide) (hwr _ (by decide) (hwr _ (by decide) hcfg _) _) _

theorem Twin.boundDegree (h : Twin P s t) (hP : FreeBeside P) (f g : Field) (hf : f.off = PFT_DEGREE.word.off) (hg : g.off = PFT_DEG_MAX.word.off) :
    Twin P (if s.rd g < s.rd f then s.wr f (s.rd g) else s) (if t.rd g < t.rd f then t.wr f (t.rd g) else t) := by
  have hsf : Seen f.off := by rw [hf]; exact Or.inl (by decide)
  rw [h.rd g (by rw [hg]; exact Or.inl (by decide)), h.rd f hsf]
  split
  · exact h.wrBeside hP f (by rw [hf]; decide) hsf _
  · exact h

theorem Twin.boundSettings (h : Twin P s t) (hP : FreeBeside P) : Twin P s.boundSettings t.boundSettings := by
  unfold State.boundSettings
  extract_lets u v
  have huv : Twin P u v := Twin.foldl (fun l _ s t h => h.boundDegree hP ⟨PFT_DEGREE.word.off, 0, 4 * l, 4⟩ ⟨PFT_DEG_MAX.word.off, 0, 4 * l, 4⟩ rfl rfl) h
  have hsf : Seen STK_REF_TIER.FLOOR.off := Or.inl (by decide)
  rw [huv.cfg, huv.rd STK_REF_TIER.FLOOR hsf]
  split
  · exact huv.wrBeside hP _ (by decide) hsf _
  · exact huv

theorem Twin.putPower (h : Twin P s t) (hP : FreeBeside P) (e : Nat) : Twin P (s.putPower e) (t.putPower e) := by
  have hcfg := h.other (g := fun s => s.powerCfg e) (fun _ _ _ _ _ => rfl) (fun _ => rfl)
  rw [State.putPower_eq, State.putPower_eq, h.imgB, h.imgN]
  exact (hcfg.wrBeside hP _ (by decide) (Or.inl (by decide)) _).wrBeside hP _ (by decide) (Or.inl (by decide)) _

end

end Sys2Proof.Machine
end

section
/-! O50: the configurations that an image leaves in two states that an image operation cannot tell apart (R273 to R276). -/

namespace Sys2Proof.Machine

section
variable {P : Tab Word → Tab Word → Prop} {s t : State}

/-! ### What DIRTY and the bound read -/

theorem Twin.winStaged (h : Twin WinSame s t) : s.winStaged = t.winStaged := by
  rw [State.winStaged, State.winStaged, winOff_tfilter s.regs, winOff_tfilter t.regs, h.tabs]

theorem seen_tclOffs {off : Nat} (h : off ∈ tclOffs) : Seen off := by
  have hall : ∀ off ∈ tclOffs, off < 0x2A000 := by decide
  exact Or.inl (hall off h)

theorem Twin.tclStaged (h : Twin P s t) : s.tclStaged = t.tclStaged := by
  unfold State.tclStaged
  rw [← h.s64]
  exact List.foldl_ext _ _ _ fun _ off hoff => by rw [h.words off (seen_tclOffs hoff)]

theorem Twin.setting (h : Twin P s t) : s.setting = t.setting := State.setting_congr h.s64

theorem Twin.tclCom (h : Twin P s t) : s.tclCom = t.tclCom := by rw [State.tclCom, State.tclCom, h.adm, h.front]
theorem Twin.winCom (h : Twin P s t) : s.winCom = t.winCom := by rw [State.winCom, State.winCom, h.adm, h.front]

theorem Twin.unretained (h : Twin P s t) : s.unretained = t.unretained := by
  rw [State.unretained, State.unretained, h.ways, h.rd PWR_RETAIN.WAYS (Or.inl (by decide))]

theorem Twin.boundUs (h : Twin P s t) : s.boundUs = t.boundUs := by
  funext u f
  rw [State.boundUs, State.boundUs, State.farUs, State.farUs, h.s64]

theorem Twin.showDirty (h : Twin WinSame s t) : Twin WinSame s.showDirty t.showDirty := by
  have hf : FreeBeside WinSame := fun _ => free_winSame
  unfold State.showDirty
  rw [h.tclStaged, h.tclCom, h.winStaged, h.winCom]
  exact (h.wrBeside hf _ (by decide) (Or.inl (by decide)) _).wrBeside hf _ (by decide) (Or.inl (by decide)) _

theorem Twin.showBound (h : Twin WinSame s t) : Twin WinSame s.showBound t.showBound := by
  unfold State.showBound
  rw [h.unretained, h.boundUs, h.setting, h.front]
  exact h.wrBeside (fun _ => free_winSame) _ (by decide) (Or.inl (by decide)) _

theorem Twin.imgShown (h : Twin P s t) (hP : FreeBeside P) : Twin P s.imgShown t.imgShown := by
  unfold State.imgShown
  rw [h.imgW]
  exact (h.setWord (hP.above (by decide)) _).setWord (hP.above (by decide)) _

theorem Twin.updateRest (h : Twin P s t) (hP : FreeBeside P) (secs : List Sec) : Twin P (s.updateRest secs) (t.updateRest secs) := by
  have hrate : ∀ (e : Nat) (s t : State), Twin P s t →
      Twin P (s.wr MIR_RATE.RATE (s.imgB (e + 2) 0 16)) (t.wr MIR_RATE.RATE (t.imgB (e + 2) 0 16)) := fun e s t h => by
    rw [h.imgB]
    exact h.wrBeside hP _ (by decide) (Or.inl (by decide)) _
  exact (((h.putSec hrate secs 8).putSec (fun e _ _ h => h.putChain hP e) secs 9).putSec
    (fun e _ _ h => (h.putBounds hP e).boundSettings hP) secs 10).putSec (fun e _ _ h => h.putPower hP e) secs 11

/-! ### An update -/

theorem Twin.updatePlaces (h : Twin P s t) (hP : FreeUpTo P) (secs : List Sec) : Twin P (s.updatePlaces secs) (t.updatePlaces secs) :=
  ((((h.putSec (fun e _ _ h => h.putCarrel hP.below e) secs 3).putSec (fun e _ _ h => h.putShutter hP.below e) secs 4).putSec
    (fun e _ _ h => (h.putBypass hP.below e).clearPend e) secs 5).putSec (fun e _ _ h => h.putTraffic hP.below e) secs 6).putSec
    (fun e _ _ h => h.putWindows hP e) secs 7

theorem Twin.updateTcl (h : Twin P s t) (secs : List Sec) : Twin P (s.updateTcl secs) (t.updateTcl secs) := by
  unfold State.updateTcl
  split
  · rw [h.tclStaged]
    exact h.other (g := fun u => { u with adm := { u.adm with tclNext := some t.tclStaged } }) (fun _ _ _ _ _ => rfl) (fun _ => rfl)
  · exact h

theorem Twin.updateWin (h : Twin WinSame s t) (secs : List Sec) : Twin WinSame (s.updateWin secs) (t.updateWin secs) := by
  unfold State.updateWin
  split
  · rw [h.winStaged]
    exact h.other (g := fun u => { u with adm := { u.adm with winNext := some t.winStaged } }) (fun _ _ _ _ _ => rfl) (fun _ => rfl)
  · exact h

theorem Twin.updateImage (h : Twin WinSplit s t) (secs : List Sec) : Twin WinSame (s.updateImage secs) (t.updateImage secs) := by
  have hf : FreeBeside WinSame := fun _ => free_winSame
  have hp := (h.updatePlaces (fun _ => free_winSplit) secs).weaken fun _ _ => WinSplit.winSame
  rw [State.updateImage_eq, State.updateImage_eq]
  exact ((((((hp.updateTcl secs).updateWin secs).updateRest hf secs).imgShown hf).showDirty).showBound)

/-! ### A load -/

theorem Twin.clearRange (h : Twin P s t) {lo hi : Nat} (hP : P (s.clearRange lo hi).regs (t.clearRange lo hi).regs) :
    Twin P (s.clearRange lo hi) (t.clearRange lo hi) where
  rest := by
    have hr := h.rest
    generalize t.regs = regs, t.out = out, t.err = err, t.pmuFrz = frz at hr
    subst hr
    rfl
  words k hk := by
    rw [State.word_clearRange, State.word_clearRange, h.words k hk, h.s64]
  tabs := hP

/-- The registers that a load returns to their Reset values. -/
def State.loadCleared (s : State) : State :=
  (((((s.clearRange 0x6100 0x6500).clearRange 0x7800 0x8000).clearRange 0xA100 0xA300).clearRange 0x24010 0x24100).clearRange 0x25100
    0x26000).clearRange 0x27100 0x27300

/-- The mirror's settings without a section. -/
def State.loadMir (s : State) : State := (((s.wr MIR_CTL.PAIR_EN 0).wr MIR_CTL.DIRTY_MIR 0).wr MIR_PARTNER.COORD 0).wr MIR_RATE.RATE 0

/-- The ramp of a message that came before. -/
def State.loadRamp (s : State) : State :=
  match s.start.ramp with
  | some v => s.wr PWR_RAMP.RAMP_US v
  | none => s

/-- The sections of a full image. -/
def State.loadSecs (s : State) (secs : List Sec) : State :=
  ((((((((((s.putSec secs 1 State.putInterleave).putSec secs 2 State.putCasements).putSec secs 3 State.putCarrel).putSec secs 4
    State.putShutter).putSec secs 5 State.putBypass).putSec secs 6 State.putTraffic).putSec secs 7 State.putWindows).putSec secs 8
    State.putMirror).putSec secs 9 State.putChain).putSec secs 10 State.putBounds).putSec secs 11 State.putPower

theorem State.loadImage_eq (s : State) (secs : List Sec) : s.loadImage secs =
    ((((s.loadCleared.loadMir.loadSecs secs).loadRamp.putSec secs 11 (fun s e => s.wr STK_REF_TIER.FLOOR (s.imgB (e + 1) 17 1))).imgShown).showDirty).showBound :=
  rfl

theorem winAll_loadCleared (s : State) : winAll s.loadCleared.regs = [] := winAll_tfilter_nil _ (winAll_cleared _)

theorem Twin.loadCleared (h : Twin WinAny s t) : Twin WinCalm s.loadCleared t.loadCleared := by
  have hc : Twin WinAny s.loadCleared t.loadCleared :=
    (((((h.clearRange trivial).clearRange trivial).clearRange trivial).clearRange trivial).clearRange trivial).clearRange trivial
  exact ⟨hc.rest, hc.words, winCalm_of_nil (winAll_loadCleared s) (winAll_loadCleared t)⟩

theorem Twin.loadMir (h : Twin P s t) (hP : FreeBeside P) : Twin P s.loadMir t.loadMir :=
  (((h.wrBeside hP _ (by decide) (Or.inl (by decide)) _).wrBeside hP _ (by decide) (Or.inl (by decide)) _).wrBeside hP _ (by decide)
    (Or.inl (by decide)) _).wrBeside hP _ (by decide) (Or.inl (by decide)) _

theorem Twin.putInterleave (h : Twin P s t) (hP : FreeBeside P) (e : Nat) : Twin P (s.putInterleave e) (t.putInterleave e) := by
  unfold State.putInterleave
  rw [h.imgB]
  exact ((h.wrBeside hP _ (by decide) (Or.inl (by decide)) _).wrBeside hP _ (by decide) (Or.inl (by decide)) _).wrBeside hP _ (by decide)
    (Or.inl (by decide)) _

theorem Twin.putCasements (h : Twin P s t) (e : Nat) : Twin P (s.putCasements e) (t.putCasements e) :=
  h.other (g := fun u => u.putCasements e) (fun _ _ _ _ _ => rfl) (fun _ => rfl)

/-- A configured pair is SINGLE. -/
def State.mirrorSingle (s : State) (on : Bool) : State :=
  if on then (s.wr MIR_STATUS.STATE 3).setFlag MIR_STATUS.UNMIRRORED true else s

theorem State.putMirror_eq (s : State) (e : Nat) : s.putMirror e =
    ((((s.mirrorSingle (s.imgB e 0 1 = 1)).wr MIR_CTL.PAIR_EN ((s.mirrorSingle (s.imgB e 0 1 = 1)).imgB e 0 1)).wr MIR_CTL.DIRTY_MIR
      ((s.mirrorSingle (s.imgB e 0 1 = 1)).imgB e 1 1)).wr MIR_PARTNER.COORD ((s.mirrorSingle (s.imgB e 0 1 = 1)).imgB (e + 1) 0 24)).wr
      MIR_RATE.RATE ((s.mirrorSingle (s.imgB e 0 1 = 1)).imgB (e + 2) 0 16) := by
  unfold State.putMirror State.mirrorSingle
  simp only [decide_eq_true_eq]

theorem Twin.mirrorSingle (h : Twin P s t) (hP : FreeBeside P) (on : Bool) : Twin P (s.mirrorSingle on) (t.mirrorSingle on) := by
  unfold State.mirrorSingle
  split
  · exact (h.wrBeside hP _ (by decide) (Or.inl (by decide)) _).wrBeside hP _ (by decide) (Or.inl (by decide)) _
  · exact h

theorem Twin.putMirror (h : Twin P s t) (hP : FreeBeside P) (e : Nat) : Twin P (s.putMirror e) (t.putMirror e) := by
  rw [State.putMirror_eq, State.putMirror_eq, h.imgB]
  have hs := h.mirrorSingle hP (t.imgB e 0 1 = 1)
  rw [hs.imgB]
  exact (((hs.wrBeside hP _ (by decide) (Or.inl (by decide)) _).wrBeside hP _ (by decide) (Or.inl (by decide)) _).wrBeside hP _ (by decide)
    (Or.inl (by decide)) _).wrBeside hP _ (by decide) (Or.inl (by decide)) _

theorem Twin.loadRamp (h : Twin P s t) (hP : FreeBeside P) : Twin P s.loadRamp t.loadRamp := by
  unfold State.loadRamp
  rw [h.start]
  split
  · exact h.wrBeside hP _ (by decide) (Or.inl (by decide)) _
  · exact h

theorem Twin.loadSecs (h : Twin P s t) (hP : ∀ k, Free P k) (secs : List Sec) : Twin P (s.loadSecs secs) (t.loadSecs secs) := by
  have hb : FreeBelow P := fun k _ => hP k
  have hu : FreeUpTo P := fun k _ => hP k
  have hf : FreeBeside P := fun k _ => hP k
  have h3 := ((h.putSec (fun e _ _ h => h.putInterleave hf e) secs 1).putSec (fun e _ _ h => h.putCasements e) secs 2).putSec
    (fun e _ _ h => h.putCarrel hb e) secs 3
  have h6 := ((h3.putSec (fun e _ _ h => h.putShutter hb e) secs 4).putSec (fun e _ _ h => h.putBypass hb e) secs 5).putSec
    (fun e _ _ h => h.putTraffic hb e) secs 6
  have h9 := ((h6.putSec (fun e _ _ h => h.putWindows hu e) secs 7).putSec (fun e _ _ h => h.putMirror hf e) secs 8).putSec
    (fun e _ _ h => h.putChain hf e) secs 9
  exact (h9.putSec (fun e _ _ h => h.putBounds hf e) secs 10).putSec (fun e _ _ h => h.putPower hf e) secs 11

theorem Twin.loadImage (h : Twin WinAny s t) (secs : List Sec) : Twin WinSame (s.loadImage secs) (t.loadImage secs) := by
  have hf : FreeBeside WinCalm := fun k _ => free_winCalm k
  have hfloor : ∀ (e : Nat) (s t : State), Twin WinCalm s t →
      Twin WinCalm (s.wr STK_REF_TIER.FLOOR (s.imgB (e + 1) 17 1)) (t.wr STK_REF_TIER.FLOOR (t.imgB (e + 1) 17 1)) := fun e s t h => by
    rw [h.imgB]
    exact h.wrBeside hf _ (by decide) (Or.inl (by decide)) _
  have hl := ((((h.loadCleared.loadMir hf).loadSecs free_winCalm secs).loadRamp hf).putSec hfloor secs 11).imgShown hf
  rw [State.loadImage_eq, State.loadImage_eq]
  exact ((hl.weaken fun _ _ => WinCalm.winSame).showDirty).showBound

end

end Sys2Proof.Machine
end

section
/-! O50: the checks of an image read nothing that an image operation's own registers hold (R272). -/

namespace Sys2Proof.Machine

/-! ### Carrels -/

theorem resetWord_carrel (s64 : Bool) : ∀ c, c < 64 → resetWord s64 (0x610C + 16 * c) = 0 := by
  cases s64 <;> decide

theorem State.mem_carrels (s : State) (c : Nat) : c ∈ s.carrels ↔ c < 64 ∧ s.flagI ALT_CRL_CTL.VALID c = true := by
  have hlisted : c ∈ s.listed ALT_CRL_CTL.VALID 64 ↔ c < 64 ∧ 0x610C + 16 * c ∈ s.regs.map Prod.fst := by
    unfold State.listed
    simp only [List.mem_filterMap, List.mem_map, Option.ite_none_right_eq_some, Bool.and_eq_true, decide_eq_true_eq, Option.some_inj]
    constructor
    · rintro ⟨e, he, ⟨⟨h1, h2⟩, h3⟩, h4⟩
      exact ⟨by omega, e, he, by omega⟩
    · rintro ⟨hc, e, he, h⟩
      exact ⟨e, he, ⟨⟨by omega, by omega⟩, by omega⟩, by omega⟩
  unfold State.carrels
  rw [List.mem_filter, hlisted]
  refine ⟨fun ⟨⟨h1, _⟩, h2⟩ => ⟨h1, h2⟩, fun ⟨h1, h2⟩ => ⟨⟨h1, ?_⟩, h2⟩⟩
  by_contra hn
  have hword : s.word (0x610C + 16 * c) = 0 := by
    rw [State.word, tget, tfind_eq_none_of_not_mem hn]
    exact resetWord_carrel s.s64 c h1
  have hflag : s.flagI ALT_CRL_CTL.VALID c = (fieldGet ALT_CRL_CTL.VALID (s.word (0x610C + 16 * c)) != 0) := rfl
  rw [hflag, hword] at h2
  exact absurd h2 (by decide)

theorem any_congr_of_mem {α : Type} {a b : List α} {p q : α → Bool} (hab : ∀ x, x ∈ a ↔ x ∈ b) (hpq : ∀ x ∈ a, p x = q x) : a.any p = b.any q := by
  rw [Bool.eq_iff_iff, List.any_eq_true, List.any_eq_true]
  constructor
  · rintro ⟨x, hx, h⟩
    exact ⟨x, (hab x).mp hx, hpq x hx ▸ h⟩
  · rintro ⟨x, hx, h⟩
    exact ⟨x, (hab x).mpr hx, (hpq x ((hab x).mpr hx)).symm ▸ h⟩

section
variable {P : Tab Word → Tab Word → Prop} {s t : State}

theorem Twin.carrels (h : Twin P s t) (c : Nat) : c ∈ s.carrels ↔ c ∈ t.carrels := by
  rw [State.mem_carrels, State.mem_carrels]
  refine and_congr_right fun hc => ?_
  rw [h.flagI ALT_CRL_CTL.VALID c (Or.inl (by simp only; omega))]

theorem Twin.lt_of_carrel {c : Nat} (hc : c ∈ s.carrels) : c < 64 := ((s.mem_carrels c).mp hc).1

/-- The fields of a carrel. -/
theorem Twin.carrel (h : Twin P s t) (f : Field) (hf : 0x6100 ≤ f.off ∧ f.off < 0x6110 ∧ f.stride = 16) {c : Nat} (hc : c < 64) : s.rdI f c = t.rdI f c := by
  refine h.rdI f c (Or.inl ?_)
  rw [hf.2.2]
  omega

theorem Twin.carrelWays (h : Twin P s t) {c : Nat} (hc : c < 64) : s.carrelWays c = t.carrelWays c := by
  rw [State.carrelWays, State.carrelWays, h.carrel ALT_CRL_CTL.FIRST (by decide) hc, h.carrel ALT_CRL_CTL.WAYS (by decide) hc]

theorem Twin.carrelBase (h : Twin P s t) {c : Nat} (hc : c < 64) : s.carrelBase c = t.carrelBase c := by
  rw [State.carrelBase, State.carrelBase, h.carrel ALT_CRL_BASE_HI.BASE_HI (by decide) hc, h.carrel ALT_CRL_BASE_LO.BASE_LO (by decide) hc]

theorem Twin.carrelHard (h : Twin P s t) {c : Nat} (hc : c < 64) : s.flagI ALT_CRL_CTL.HARD c = t.flagI ALT_CRL_CTL.HARD c := by
  rw [State.flagI, State.flagI, h.carrel ALT_CRL_CTL.HARD (by decide) hc]

theorem Twin.carrelValid (h : Twin P s t) {c : Nat} (hc : c < 64) : s.flagI ALT_CRL_CTL.VALID c = t.flagI ALT_CRL_CTL.VALID c := by
  rw [State.flagI, State.flagI, h.carrel ALT_CRL_CTL.VALID (by decide) hc]

theorem Twin.winsOf (h : Twin P s t) : s.winsOf = t.winsOf := by
  funext w
  rw [State.winsOf, State.winsOf, h.setting]

theorem State.setting_lt (f : Field) (w : Tab Word) (i : Nat) : s.setting w f i < 2 ^ f.w := Nat.mod_lt _ (Nat.two_pow_pos _)

theorem Twin.pinLimit (h : Twin P s t) : s.pinLimit = t.pinLimit := by rw [State.pinLimit, State.pinLimit, h.s64, h.start]

/-- Two conditions of every pair of carrels. -/
theorem Twin.carrelPairs (h : Twin P s t) {p q : Nat → Nat → Bool} (hpq : ∀ c d, c < 64 → d < 64 → p c d = q c d) :
    s.carrels.any (fun c => (s.carrels.filter (fun d => d != c)).any (p c)) = t.carrels.any (fun c => (t.carrels.filter (fun d => d != c)).any (q c)) :=
  any_congr_of_mem h.carrels fun c hc => any_congr_of_mem
    (fun d => by rw [List.mem_filter, List.mem_filter, h.carrels])
    (fun d hd => hpq c d (Twin.lt_of_carrel hc) (Twin.lt_of_carrel (List.mem_of_mem_filter hd)))

theorem Twin.carrelRefusal (h : Twin P s t) (win : Tab Word) : s.carrelRefusal win = t.carrelRefusal win := by
  unfold State.carrelRefusal
  refine congrArg firstOf (List.cons_eq_cons.mpr ⟨?_, List.cons_eq_cons.mpr ⟨?_, List.cons_eq_cons.mpr ⟨?_, List.cons_eq_cons.mpr ⟨?_,
    List.cons_eq_cons.mpr ⟨?_, rfl⟩⟩⟩⟩⟩) <;> refine Prod.ext ?_ rfl <;> dsimp only
  · have hu : (List.range 64).filter (fun w => s.carrels.any (fun c => (s.carrelWays c).1 ≤ w && w < (s.carrelWays c).2)) =
        (List.range 64).filter (fun w => t.carrels.any (fun c => (t.carrelWays c).1 ≤ w && w < (t.carrelWays c).2)) :=
      List.filter_congr fun w _ => any_congr_of_mem h.carrels fun c hc => by rw [h.carrelWays (Twin.lt_of_carrel hc)]
    rw [hu, h.pinLimit]
  · refine any_congr_of_mem h.carrels fun c hc => ?_
    have hlt := Twin.lt_of_carrel hc
    rw [h.carrel ALT_CRL_SIZE.SIZE (by decide) hlt, h.carrel ALT_CRL_CTL.WAYS (by decide) hlt, h.carrel ALT_CRL_CTL.FLOOR (by decide) hlt,
      h.carrelWays hlt, h.ways]
  · refine any_congr_of_mem h.carrels fun c hc => ?_
    have hlt := Twin.lt_of_carrel hc
    rw [h.carrelHard hlt]
    refine congrArg _ (any_congr_of_mem (fun d => by rw [List.mem_filter, List.mem_filter, h.carrels]) fun d hd => ?_)
    rw [h.carrelWays hlt, h.carrelWays (Twin.lt_of_carrel (List.mem_of_mem_filter hd))]
  · refine h.carrelPairs fun c d hc hd => ?_
    rw [h.carrelBase hc, h.carrelBase hd, h.carrel ALT_CRL_SIZE.SIZE (by decide) hc, h.carrel ALT_CRL_SIZE.SIZE (by decide) hd]
  · rw [h.winsOf]
    refine any_congr_of_mem (fun _ => Iff.rfl) fun w _ => ?_
    have hlt : t.setting win WIN_ENT_CTL.CARREL w < 64 := State.setting_lt ..
    rw [h.setting, h.carrelValid hlt, h.carrelHard hlt]

theorem Twin.carrelsCheck (h : Twin WinAny s t) (win : Tab Word) (j : Nat) (es : List Nat) :
    State.carrelsCheck win s j es = State.carrelsCheck win t j es := by
  induction es generalizing s t j with
  | nil => rfl
  | cons e rest ih =>
    have hp := h.putCarrel (fun _ _ => free_winAny _) e
    rw [State.carrelsCheck, State.carrelsCheck]
    rw [hp.carrelRefusal, ih hp]

/-! ### The sections -/

theorem Twin.bypassRange (h : Twin P s t) {w : Nat} (hw : w < 16) : s.bypassRange w = t.bypassRange w := by
  rw [State.bypassRange, State.bypassRange, h.rdI ORD_WIN_BASE_HI.BASE_HI w (Or.inl (by simp only; omega)),
    h.rdI ORD_WIN_BASE_LO.BASE_LO w (Or.inl (by simp only; omega)), h.rdI ORD_WIN_CTL.SIZE_LOG w (Or.inl (by simp only; omega))]

theorem Twin.bypassOverlap (h : Twin P s t) {w : Nat} (hw : w < 16) : s.bypassOverlap w = t.bypassOverlap w := by
  rw [State.bypassOverlap, State.bypassOverlap, h.bypassRange hw, h.flagI ORD_WIN_CTL.VALID w (Or.inl (by simp only; omega))]
  refine congrArg _ (any_congr_of_mem (fun _ => Iff.rfl) fun v hv => ?_)
  have hlt := List.mem_range.mp hv
  rw [h.bypassRange hlt, h.flagI ORD_WIN_CTL.VALID v (Or.inl (by simp only; omega))]

theorem Twin.walkOf (h : Twin P s t) (w : Nat) : s.walkOf w = t.walkOf w :=
  State.walkOf_congr (by rw [h.ord]) (h.words _ (Or.inl (by decide))) w

theorem Twin.stagedBad (h : Twin P s t) : s.stagedBad = t.stagedBad := by
  funext off w
  rw [State.stagedBad, State.stagedBad, h.s64]

theorem Twin.entCheck (h : Twin P s t) (secs : List Sec) (typ : Nat) {f g : Nat → Option Nat} (hfg : ∀ e, f e = g e) :
    s.entCheck secs typ f = t.entCheck secs typ g := State.entCheck_congr h.s64 secs typ hfg

theorem Twin.chainHeld (h : Twin P s t) (c x : Nat) :
    (List.range 16).any (fun d => d != c && s.flagI CHN_CTX_CTL.VALID d && s.rdI CHN_CTX_CTL.CHAIN d = x) =
      (List.range 16).any (fun d => d != c && t.flagI CHN_CTX_CTL.VALID d && t.rdI CHN_CTX_CTL.CHAIN d = x) :=
  any_congr_of_mem (fun _ => Iff.rfl) fun d hd => by
    have hlt := List.mem_range.mp hd
    rw [h.flagI CHN_CTX_CTL.VALID d (Or.inl (by simp only; omega)), h.rdI CHN_CTX_CTL.CHAIN d (Or.inl (by simp only; omega))]

theorem Twin.imgSix {base base' res res' : State} (h : Twin P s t) (hb : Twin WinAny base base') (hr : Twin WinSame res res') (secs : List Sec)
    (part : Bool) : s.imgSix base res secs part = t.imgSix base' res' secs part := by
  have hcas : s.casements = t.casements := by rw [State.casements, State.casements, h.s64]
  have hsht (f : Field) (hf : f.off = SHT_ENT_CTL.word.off) (hs : f.stride = 8) (e : Nat) :
      s.flagI f (t.imgB (e + 1) 16 8) = t.flagI f (t.imgB (e + 1) 16 8) := by
    have hlt := t.imgB_lt (e + 1) 16 8
    refine h.flagI f _ (Or.inl ?_)
    rw [hf, hs]
    simp only
    omega
  unfold State.imgSix
  rw [h.imgB, h.imgN, h.imgW, hb.winCom, hr.winStaged, h.lanes, h.ways, hcas, h.stagedBad]
  extract_lets b cas
  refine congrArg₂ Option.orElse (h.entCheck secs 1 fun e => by rw [h.rd SLC_LIVE.SELF (Or.inl (by decide))]) (funext fun _ => ?_)
  refine congrArg₂ Option.orElse (h.entCheck secs 2 fun e => rfl) (funext fun _ => ?_)
  refine congrArg₂ Option.orElse (by rw [h.entriesOf, hb.carrelsCheck]) (funext fun _ => ?_)
  refine congrArg₂ Option.orElse (h.entCheck secs 4 fun e => by
    dsimp only [b]
    rw [hsht SHT_ENT_CTL.SEALED rfl rfl, hsht SHT_ENT_CTL.WALK rfl rfl]) (funext fun _ => ?_)
  refine congrArg₂ Option.orElse (h.entCheck secs 5 fun e => by
    dsimp only [b]
    rw [hr.bypassOverlap (t.imgB_lt (e + 2) 4 4), h.walkOf]) (funext fun _ => ?_)
  refine congrArg₂ Option.orElse (h.entCheck secs 6 fun e => rfl) (funext fun _ => ?_)
  refine congrArg₂ Option.orElse (h.entCheck secs 7 fun e => rfl) (funext fun _ => ?_)
  refine congrArg₂ Option.orElse (h.entCheck secs 8 fun e => by
    rw [h.rd MIR_CTL.PAIR_EN (Or.inl (by decide)), h.rd MIR_CTL.DIRTY_MIR (Or.inl (by decide)), h.rd MIR_PARTNER.COORD (Or.inl (by decide))])
    (funext fun _ => ?_)
  refine congrArg₂ Option.orElse (h.entCheck secs 9 fun e => by
    have hlt := t.imgB_lt e 28 4
    dsimp only [b]
    rw [h.entriesOf, h.chainHeld, h.flagI CHN_CTX_CTL.VALID (t.imgB e 28 4) (Or.inl (by simp only; omega))]) (funext fun _ => ?_)
  refine congrArg₂ Option.orElse (h.entCheck secs 10 fun e => rfl) (funext fun _ => ?_)
  exact h.entCheck secs 11 fun e => rfl

/-! ### The admission check of an image -/

theorem Twin.plan (h : Twin P s t) : s.plan = t.plan := by
  funext w
  have hplan : s.planOf = t.planOf := by
    funext w lane j
    rw [State.planOf, State.planOf, h.setting]
  rw [State.plan, State.plan, hplan]

theorem Twin.winRefusal (h : Twin P s t) (a : AdmIn) : s.winRefusal a = t.winRefusal a := by
  have hfull : s.fullCasement = t.fullCasement := by
    funext c
    rw [State.fullCasement, State.fullCasement, State.isMesh, State.isMesh, h.cfg, h.bit LNK_STATUS.UP c (Or.inl (by decide)),
      h.bit LNK_STATUS.HALF c (Or.inl (by decide))]
  have hvalid (w : Nat) : s.flagI ALT_CRL_CTL.VALID (t.setting a.win WIN_ENT_CTL.CARREL w) =
      t.flagI ALT_CRL_CTL.VALID (t.setting a.win WIN_ENT_CTL.CARREL w) := h.carrelValid (State.setting_lt WIN_ENT_CTL.CARREL a.win w)
  have hhard (w : Nat) : s.flagI ALT_CRL_CTL.HARD (t.setting a.win WIN_ENT_CTL.CARREL w) =
      t.flagI ALT_CRL_CTL.HARD (t.setting a.win WIN_ENT_CTL.CARREL w) := h.carrelHard (State.setting_lt WIN_ENT_CTL.CARREL a.win w)
  unfold State.winRefusal
  simp only [h.winsOf, h.setting, h.plan, hfull, hvalid, hhard]

theorem Twin.admCheck (h : Twin P s t) (a : AdmIn) : s.admCheck a = t.admCheck a := by
  have hmesh : s.isMesh = t.isMesh := by
    funext c
    rw [State.isMesh, State.isMesh, h.cfg]
  have hcap : s.casCap = t.casCap := by
    funext c
    rw [State.casCap, State.casCap, h.bit LNK_STATUS.HALF c (Or.inl (by decide))]
  have hmir : s.mirCap = t.mirCap := by
    rw [State.mirCap, State.mirCap, h.s64, h.flagI LNK_UCIE.VALID 1 (Or.inl (by decide)), h.rdI LNK_UCIE.FRAME_64B 1 (Or.inl (by decide)),
      h.bit LNK_STATUS.HALF 6 (Or.inl (by decide))]
  have hcas : s.casements = t.casements := by rw [State.casements, State.casements, h.s64]
  have hnb : s.nb = t.nb := by rw [State.nb, State.nb, h.s64]
  have hq : s.admQ a = t.admQ a := by rw [State.admQ, State.admQ, h.setting]
  have hm : s.admM a = t.admM a := by rw [State.admM, State.admM, h.flag MIR_CTL.PAIR_EN (Or.inl (by decide))]
  have hf : s.admF a = t.admF a := by rw [State.admF, State.admF, h.setting]
  unfold State.admCheck
  rw [hq, hm, hf, h.plan, h.setting, h.s64, h.winRefusal, h.lanes, hnb, hcas, hmesh, hcap, hmir, h.boundUs, h.unretained]

theorem Twin.imgSeven {res res' : State} (h : Twin P s t) (hr : Twin WinSame res res') (secs : List Sec) (part : Bool) :
    s.imgSeven res secs part = t.imgSeven res' secs part := by
  have hadm : res.admCheck = res'.admCheck := funext fun a => hr.admCheck a
  unfold State.imgSeven
  rw [hr.tclStaged, hr.winStaged, h.tclCom, h.winCom, hr.rd MIR_RATE.RATE (Or.inl (by decide)), hr.rd PWR_RETAIN.WAYS (Or.inl (by decide)),
    hr.rd PWR_RAMP.RAMP_US (Or.inl (by decide)), h.rd MIR_RATE.RATE (Or.inl (by decide)), h.rd PWR_RETAIN.WAYS (Or.inl (by decide)),
    h.rd PWR_RAMP.RAMP_US (Or.inl (by decide)), hadm]

end

end Sys2Proof.Machine
end

section
/-! O50: the operations LOAD, UPDATE and CHECK of a Shelving image (R271 to R277). -/

namespace Sys2Proof.Machine

/-! ### The checks of an image -/

/-- The registers from which the carrels and windows of an image are judged: a full image finds none of them set. -/
def State.imgCleared (s : State) (part : Bool) : State := if part then s else (s.clearRange 0x6100 0x6500).clearRange 0x25100 0x26000

/-- The configuration to which the sections apply. -/
def State.imgBase (s : State) (part : Bool) : State :=
  if part then s.imgCleared part else { s.imgCleared part with adm := { (s.imgCleared part).adm with winNext := some [] } }

section
variable {P : Tab Word → Tab Word → Prop} {s t : State}

theorem Twin.imgBase (h : Twin WinAny s t) (part : Bool) : Twin WinAny (s.imgBase part) (t.imgBase part) := by
  have hc : Twin WinAny (s.imgCleared part) (t.imgCleared part) := by
    unfold State.imgCleared
    split
    · exact h
    · exact (h.clearRange trivial).clearRange trivial
  unfold State.imgBase
  split
  · exact hc
  · exact hc.other (g := fun u => { u with adm := { u.adm with winNext := some [] } }) (fun _ _ _ _ _ => rfl) (fun _ => rfl)

/-- The configuration that results. -/
def State.imgRes (s : State) (part : Bool) (secs : List Sec) : State := if part then s.updateImage secs else s.loadImage secs

/-- Steps 6 and 7 of R272. -/
def State.imgJudge (s : State) (op : Nat) (part : Bool) (secs : List Sec) : Except ImgNo (List Sec) × Option (Option (Nat × Nat × Nat × Nat)) :=
  match s.imgSix (s.imgBase part) (s.imgRes part secs) secs part with
  | some x => (.error x, none)
  | none =>
    if op = 0 then (.ok secs, none)
    else match s.imgSeven (s.imgRes part secs) secs part with
      | some (some r) => (.error ⟨r.1, 0, 0⟩, some (some r))
      | some none => (.ok secs, some none)
      | none => (.ok secs, none)

theorem Twin.imgJudge (h : Twin WinAny s t) (op : Nat) (part : Bool) (secs : List Sec) (hsplit : part = true → WinSplit s.regs t.regs) :
    s.imgJudge op part secs = t.imgJudge op part secs := by
  have hres : Twin WinSame (s.imgRes part secs) (t.imgRes part secs) := by
    unfold State.imgRes
    split
    · next hp => exact Twin.updateImage ⟨h.rest, h.words, hsplit hp⟩ secs
    · exact h.loadImage secs
  unfold State.imgJudge
  rw [h.imgSix (h.imgBase part) hres, h.imgSeven hres]

/-- The checks of R272 before step 6. -/
def State.imgHead (s : State) (op : Nat) : Except Nat (List Sec) :=
  let part := s.imgKind = 1
  if s.imgN 0 != 0x564C4853 || s.imgLen < 32 || 65536 < s.imgLen || s.imgLen % 8 != 0 then .error rsnImageLayout
  else if s.imgCrc != s.imgW 7 then .error rsnImageCrc
  else if s.imgB 1 8 8 != 1 || s.rd CUR_IMG_FORMAT.MINOR_MAX < s.imgB 1 0 8
      || (part && (s.imgW 4 != s.word CUR_IMG_ACTIVE.word.off || s.imgW 3 = s.word CUR_IMG_ACTIVE.word.off)) then .error rsnImageVersion
  else match s.imgSections part (s.imgLen / 4) (s.imgB 1 16 16) 8 0 with
    | none => .error rsnImageLayout
    | some secs =>
      let kindOk := (s.imgKind = 0 && op != 1) || (part && op != 0)
      let whole := part || [1, 2, 10, 11].all (fun t => (findSec secs t).isSome)
      if s.imgB 5 0 8 != (if s.s64 then 1 else 0) || !s.imgTarget || !kindOk || !whole || !(s.imgZeros secs) || !(s.imgIndexes secs)
          || (!part && s.imgN 4 != 0) || 16 ≤ s.imgWild
          || (s.imgWild != 0 && ((findSec secs 8).isSome || (findSec secs 9).isSome)) then .error rsnImageLayout
      else if s.rd SLC_FEAT.RUN_LEVEL < s.imgB 5 8 8 then .error rsnFeatureLevel
      else .ok secs

/-- What follows those checks. -/
def State.imgVerdict (s : State) (op : Nat) : Except Nat (List Sec) → Except ImgNo (List Sec) × Option (Option (Nat × Nat × Nat × Nat))
  | .error r => (.error ⟨r, 0, 0⟩, none)
  | .ok secs => s.imgJudge op (s.imgKind = 1) secs

theorem State.imgCheck_eq (s : State) (op : Nat) : s.imgCheck op = s.imgVerdict op (s.imgHead op) := by
  unfold State.imgCheck State.imgHead
  dsimp only
  rw [apply_ite (s.imgVerdict op)]
  refine ite_congr rfl (fun _ => rfl) fun _ => ?_
  rw [apply_ite (s.imgVerdict op)]
  refine ite_congr rfl (fun _ => rfl) fun _ => ?_
  rw [apply_ite (s.imgVerdict op)]
  refine ite_congr rfl (fun _ => rfl) fun _ => ?_
  generalize s.imgSections (s.imgKind = 1) (s.imgLen / 4) (s.imgB 1 16 16) 8 0 = found
  cases found with
  | none => rfl
  | some secs =>
    dsimp only
    rw [apply_ite (s.imgVerdict op)]
    refine ite_congr rfl (fun _ => rfl) fun _ => ?_
    rw [apply_ite (s.imgVerdict op)]
    refine ite_congr rfl (fun _ => rfl) fun _ => ?_
    unfold State.imgVerdict State.imgJudge State.imgBase State.imgCleared State.imgRes
    simp only [decide_eq_true_eq] <;> rfl

/-- LOAD takes no image of kind 1. -/
theorem State.imgHead_partial {s : State} {op : Nat} {secs : List Sec} (h : s.imgHead op = .ok secs) (hp : s.imgKind = 1) : op ≠ 0 := by
  rintro rfl
  unfold State.imgHead at h
  dsimp only at h
  split at h
  · exact absurd h (by simp)
  split at h
  · exact absurd h (by simp)
  split at h
  · exact absurd h (by simp)
  split at h
  · exact absurd h (by simp)
  simp [hp] at h

theorem Twin.imgHead (h : Twin WinAny s t) (op : Nat) : s.imgHead op = t.imgHead op := by
  have hlen : s.imgLen = t.imgLen := by rw [State.imgLen, State.imgLen, h.imgN]
  have hkind : s.imgKind = t.imgKind := by rw [State.imgKind, State.imgKind, h.imgB]
  have hwild : s.imgWild = t.imgWild := by rw [State.imgWild, State.imgWild, h.imgB]
  have hcrc : s.imgCrc = t.imgCrc := by rw [State.imgCrc, State.imgCrc, hlen, h.imgW]
  have hsecs (part : Bool) (last n i prev : Nat) : s.imgSections part last n i prev = t.imgSections part last n i prev :=
    State.imgSections_congr (by rw [h.img]) h.s64 part last n i prev
  have htarget : s.imgTarget = t.imgTarget := by
    rw [State.imgTarget, State.imgTarget, h.rd SLC_ID.COORD (Or.inl (by decide)), h.imgN, hwild]
  have hzeros : s.imgZeros = t.imgZeros := by
    funext secs
    unfold State.imgZeros
    simp only [h.entriesOf, h.imgW]
  have hindex : s.imgIndexes = t.imgIndexes := by
    have hent : s.entIndex = t.entIndex := by
      funext typ e
      unfold State.entIndex
      rw [h.imgB]
    funext secs
    unfold State.imgIndexes
    simp only [h.entriesOf, hent]
  unfold State.imgHead
  simp only [h.imgN, h.imgW, h.imgB, hlen, hkind, hwild, hcrc, hsecs, htarget, hzeros, hindex, h.s64,
    h.rd CUR_IMG_FORMAT.MINOR_MAX (Or.inr (by decide)), h.words CUR_IMG_ACTIVE.word.off (Or.inr (by decide)),
    h.rd SLC_FEAT.RUN_LEVEL (Or.inl (by decide))]

theorem Twin.imgCheck (h : Twin WinAny s t) (op : Nat) (hsplit : op ≠ 0 → WinSplit s.regs t.regs) : s.imgCheck op = t.imgCheck op := by
  have hkind : s.imgKind = t.imgKind := by rw [State.imgKind, State.imgKind, h.imgB]
  rw [State.imgCheck_eq, State.imgCheck_eq, ← h.imgHead op]
  rcases hh : s.imgHead op with r | secs
  · rfl
  · rw [State.imgVerdict, State.imgVerdict, ← hkind]
    exact h.imgJudge op _ secs fun hp => hsplit (State.imgHead_partial hh (by simpa using hp))

end

end Sys2Proof.Machine
end

section
/-! O50: the operations on a Shelving image (R271 to R277), and the settlement. -/

namespace Sys2Proof.Machine

variable (s : State)

/-! ### The state in which an operation begins -/

/-- CUR_IMG_CTL holds its word and GO. -/
def State.imgBegun (s : State) (w : Word) : State := (s.begin.plain CUR_IMG_CTL.word.off w).setFlag CUR_IMG_CTL.GO true

theorem State.begin_rest : s.begin = { s with regs := s.begin.regs, out := s.begin.out, err := s.begin.err, pmuFrz := s.begin.pmuFrz } := by
  unfold State.begin
  extract_lets u
  split <;> rfl

theorem State.plain_rest (off : Nat) (w : Word) : s.plain off w = { s with regs := (s.plain off w).regs } := onlyRegFile_plain s off w

theorem State.imgBegun_word {k : Nat} (h1 : k ≠ 0x2A000) (h2 : k ≠ 0x31000) (w : Word) : (s.imgBegun w).word k = s.word k := by
  rw [State.imgBegun, State.word_setFlag, if_neg h2, State.word_plain_other _ _ h2]
  exact s.word_begin_other h1

theorem State.imgBegun_rest (w : Word) : s.imgBegun w =
    { s with regs := (s.imgBegun w).regs, out := (s.imgBegun w).out, err := (s.imgBegun w).err, pmuFrz := (s.imgBegun w).pmuFrz } := by
  have hb := s.begin_rest
  unfold State.imgBegun
  generalize s.begin = u at hb
  have hp := u.plain_rest CUR_IMG_CTL.word.off w
  generalize u.plain CUR_IMG_CTL.word.off w = v at hp
  rw [hp, hb]
  rfl

theorem twin_imgBegun (w : Word) : Twin WinAny s (s.imgBegun w) where
  rest := s.imgBegun_rest w
  words k hk := by
    unfold Seen at hk
    rw [State.imgBegun_word _ (by omega) (by omega)]
  tabs := trivial

/-- A register above the windows that takes another value than its Reset value. -/
theorem winSplit_setWord {off : Nat} {v : Word} (hoff : 0x26000 ≤ off) (hv : v ≠ resetWord s.s64 off) : WinSplit s.regs (s.setWord off v).regs := by
  have hw : winRange off = false := winRange_eq_false.mpr (Or.inr hoff)
  have hr : (s.setWord off v).regs = tset s.regs off v := if_neg hv
  rw [hr]
  exact ⟨(winHead_tset_other hw v s.regs).symm, (winTail_tset_other hw v s.regs).symm⟩

theorem WinSplit.trans {a b c : Tab Word} (hab : WinSplit a b) (hbc : WinSplit b c) : WinSplit a c :=
  ⟨hab.1.trans hbc.1, hab.2.trans hbc.2⟩

theorem winSplit_begin : WinSplit s.regs s.begin.regs := by
  unfold State.begin
  extract_lets _ u
  split
  · refine winSplit_setWord u (off := 0x2A000) (by decide) fun hv => ?_
    have hz : resetWord u.s64 0x2A000 = 0 := by cases u.s64 <;> decide
    have hone := fieldGet_fieldPut PMU_GCTL.FREEZE (u.word 0x2A000) 1 (by decide)
    have hv' : fieldPut PMU_GCTL.FREEZE (u.word 0x2A000) 1 = 0 := hv.trans hz
    rw [hv'] at hone
    exact absurd hone (by decide)
  · exact ⟨rfl, rfl⟩

theorem reset_imgCtl (s64 : Bool) : resetWord s64 CUR_IMG_CTL.word.off = 0 := by cases s64 <;> decide

theorem regRow_imgCtl (s64 : Bool) : regRow s64 CUR_IMG_CTL.word.off = some ⟨0x31000, 1, 1, 0, 0x60000000, 0x0, 0x80000000, 0x0, 0x0⟩ := by
  cases s64 <;> decide +kernel

theorem winSplit_imgBegun {w : Word} (hop : fieldGet CUR_IMG_CTL.OP w ≠ 0) : WinSplit s.regs (s.imgBegun w).regs := by
  refine (winSplit_begin s).trans (WinSplit.trans (b := (s.begin.plain CUR_IMG_CTL.word.off w).regs) ?_ ?_)
  · have hplain : s.begin.plain CUR_IMG_CTL.word.off w = s.begin.setWord CUR_IMG_CTL.word.off
        (plainWrite ⟨0x31000, 1, 1, 0, 0x60000000, 0x0, 0x80000000, 0x0, 0x0⟩ (s.begin.word CUR_IMG_CTL.word.off) w) := by
      rw [State.plain, regRow_imgCtl]
    rw [hplain]
    refine winSplit_setWord _ (by decide) fun hv => hop ?_
    rw [reset_imgCtl] at hv
    have hfield : fieldGet CUR_IMG_CTL.OP (plainWrite ⟨0x31000, 1, 1, 0, 0x60000000, 0x0, 0x80000000, 0x0, 0x0⟩
        (s.begin.word CUR_IMG_CTL.word.off) w) = fieldGet CUR_IMG_CTL.OP w := by
      refine fieldGet_plainWrite_rw _ _ ?_
      decide +kernel
    rw [← hfield, hv]
    decide
  · refine winSplit_setWord _ (off := 0x31000) (by decide) fun hv => ?_
    have hone := fieldGet_fieldPut CUR_IMG_CTL.GO ((s.begin.plain CUR_IMG_CTL.word.off w).word 0x31000) 1 (by decide)
    have hv' : fieldPut CUR_IMG_CTL.GO ((s.begin.plain CUR_IMG_CTL.word.off w).word 0x31000) 1 = 0 := hv.trans (reset_imgCtl _)
    rw [hv'] at hone
    exact absurd hone (by decide)

theorem State.imgBegun_check (w : Word) : (s.imgBegun w).imgCheck (fieldGet CUR_IMG_CTL.OP w) = s.imgCheck (fieldGet CUR_IMG_CTL.OP w) :=
  ((twin_imgBegun s w).imgCheck _ fun hop => winSplit_imgBegun s hop).symm

/-! ### What step 7 shows -/

/-- The registers of the admission checks. -/
def admRegs : List Nat := [ADM_STATUS.word.off, ADM_RUNS.word.off, ADM_NEED.word.off, ADM_CAP.word.off, ADM_REFUSALS.word.off]

theorem State.word_admShow {k : Nat} (h : k ∉ admRegs) (w : AdmWhy) (res : Option (Nat × Nat × Nat × Nat)) : (s.admShow w res).word k = s.word k := by
  simp only [admRegs, List.mem_cons, List.not_mem_nil, or_false, not_or] at h
  obtain ⟨h1, h2, h3, h4, h5⟩ := h
  have hhead (b : Bool) : (((s.bump ADM_RUNS.COUNT).wr ADM_STATUS.SOURCE w.source).setFlag ADM_STATUS.BUSY b).word k = s.word k := by
    rw [State.word_setFlag, if_neg h1, State.word_wr, if_neg h1, State.word_bump, if_neg h2]
  cases res with
  | none =>
    simp only [State.admShow]
    rw [State.word_wr, if_neg h1, State.word_wr, if_neg h1, State.word_setFlag, if_neg h1]
    exact hhead _
  | some x =>
    simp only [State.admShow]
    rw [State.word_emit, State.word_bump, if_neg h5, State.word_wr, if_neg h4, State.word_wr, if_neg h3, State.word_wr, if_neg h1, State.word_wr,
      if_neg h1, State.word_setFlag, if_neg h1]
    exact hhead _

theorem State.word_showSeven {k : Nat} (h : k ∉ admRegs) (op : Nat) (seven : Option (Option (Nat × Nat × Nat × Nat))) :
    (s.showSeven op seven).word k = s.word k := by
  cases seven with
  | none => rfl
  | some res =>
    refine Eq.trans ?_ (s.word_admShow h .image res)
    simp only [State.showSeven]
    split <;> rfl

/-- At most registers and what the step sends change. -/
def OnlyShown (s u : State) : Prop := u = { s with regs := u.regs, out := u.out }

theorem OnlyShown.trans {s t u : State} (hst : OnlyShown s t) (htu : OnlyShown t u) : OnlyShown s u := by
  unfold OnlyShown at *
  rw [htu, hst]

theorem OnlyRegFile.onlyShown {s u : State} (h : OnlyRegFile s u) : OnlyShown s u := by
  unfold OnlyRegFile at h
  rw [h]
  rfl

theorem OnlyShown.img {s u : State} (h : OnlyShown s u) : u.img = s.img := by
  unfold OnlyShown at h
  rw [h]

theorem OnlyShown.coh {s u : State} (h : OnlyShown s u) : u.coh = s.coh := by
  unfold OnlyShown at h
  rw [h]

theorem OnlyShown.stk {s u : State} (h : OnlyShown s u) : u.stk = s.stk := by
  unfold OnlyShown at h
  rw [h]

theorem OnlyRegFile.coh {s u : State} (h : OnlyRegFile s u) : u.coh = s.coh := by
  unfold OnlyRegFile at h
  rw [h]

theorem OnlyRegFile.start {s u : State} (h : OnlyRegFile s u) : u.start = s.start := by
  unfold OnlyRegFile at h
  rw [h]

theorem onlyShown_admShow (w : AdmWhy) (res : Option (Nat × Nat × Nat × Nat)) : OnlyShown s (s.admShow w res) := by
  have hwr (u : State) (f : Field) (v : Nat) : OnlyShown u (u.wr f v) := (onlyRegFile_wr u f v).onlyShown
  have hhead (b : Bool) : OnlyShown s (((s.bump ADM_RUNS.COUNT).wr ADM_STATUS.SOURCE w.source).setFlag ADM_STATUS.BUSY b) :=
    ((hwr s ADM_RUNS.COUNT _).trans (hwr _ ADM_STATUS.SOURCE _)).trans (hwr _ ADM_STATUS.BUSY _)
  cases res with
  | none => exact (((hhead _).trans (hwr _ ADM_STATUS.REFUSED _)).trans (hwr _ ADM_STATUS.REASON _)).trans (hwr _ ADM_STATUS.INDEX _)
  | some x =>
    have hrefused (b : Bool) := (((hhead b).trans (hwr _ ADM_STATUS.REFUSED true.toNat)).trans (hwr _ ADM_STATUS.REASON x.1)).trans (hwr _ ADM_STATUS.INDEX x.2.1)
    exact ((((hrefused _).trans (hwr _ ADM_NEED.NEED _)).trans (hwr _ ADM_CAP.CAP _)).trans (hwr _ ADM_REFUSALS.COUNT _)).trans rfl

theorem onlyShown_showSeven (op : Nat) (seven : Option (Option (Nat × Nat × Nat × Nat))) : OnlyShown s (s.showSeven op seven) := by
  cases seven with
  | none => rfl
  | some res =>
    have hshow := onlyShown_admShow s .image res
    simp only [State.showSeven]
    split
    · exact hshow.trans rfl
    · exact hshow

/-- A check that passes sends nothing. -/
theorem State.showSeven_out (seven : Option (Option (Nat × Nat × Nat × Nat))) (h : ∀ r, seven ≠ some (some r)) : (s.showSeven 1 seven).out = s.out := by
  match seven with
  | none => rfl
  | some none => rfl
  | some (some r) => exact absurd rfl (h r)

/-- What an accepted image shows is a passed check. -/
theorem State.imgJudge_passed {op : Nat} {part : Bool} {secs : List Sec} (h : imgNo (s.imgJudge op part secs).1 = none) (r : Nat × Nat × Nat × Nat) :
    (s.imgJudge op part secs).2 ≠ some (some r) := by
  unfold State.imgJudge at *
  generalize s.imgSix (s.imgBase part) (s.imgRes part secs) secs part = six at h ⊢
  generalize s.imgSeven (s.imgRes part secs) secs part = seven at h ⊢
  cases six with
  | some x => exact absurd h (by simp [imgNo])
  | none =>
    by_cases hop : op = 0
    · simp [hop]
    · simp only [if_neg hop] at h ⊢
      match seven with
      | none => simp
      | some none => simp
      | some (some r) => exact absurd h (by simp [imgNo])

theorem State.imgCheck_passed {op : Nat} (h : imgNo (s.imgCheck op).1 = none) (r : Nat × Nat × Nat × Nat) : (s.imgCheck op).2 ≠ some (some r) := by
  rw [State.imgCheck_eq] at *
  cases hh : s.imgHead op with
  | error e => simp [State.imgVerdict]
  | ok secs =>
    rw [hh] at h
    exact s.imgJudge_passed h r

/-! ### What CUR_IMG_STATUS shows -/

/-- The result of an operation. -/
structure ImgShows (t : State) (op : Nat) (no : Option ImgNo) : Prop where
  go : t.flag CUR_IMG_CTL.GO = false
  last : t.rd CUR_IMG_STATUS.LAST_OP = op
  refused : t.flag CUR_IMG_STATUS.REFUSED = no.isSome
  reason : t.rd CUR_IMG_STATUS.REASON = (no.getD ⟨0, 0, 0⟩).rsn % 256
  sec : t.rd CUR_IMG_STATUS.SECTION = (no.getD ⟨0, 0, 0⟩).sec % 2 ^ CUR_IMG_STATUS.SECTION.w
  ent : t.rd CUR_IMG_STATUS.ENTRY = (no.getD ⟨0, 0, 0⟩).ent % 2 ^ CUR_IMG_STATUS.ENTRY.w

theorem imgShows_of_words {u t : State} {op : Nat} {no : Option ImgNo} (hop : op < 4)
    (hc : t.word CUR_IMG_CTL.word.off = (u.imgResult op no).word CUR_IMG_CTL.word.off)
    (hs : t.word CUR_IMG_STATUS.word.off = (u.imgResult op no).word CUR_IMG_STATUS.word.off) : ImgShows t op no := by
  obtain ⟨hgo, _, hlast, href, hrsn, hsec, hent⟩ := u.imgResult_shown op no
  have hctl (f : Field) (hf : f.off = CUR_IMG_CTL.word.off ∧ f.stride = 0) : t.rd f = (u.imgResult op no).rd f :=
    State.rdI_congr f 0 (by rw [hf.1, hf.2]; exact hc)
  have hstatus (f : Field) (hf : f.off = CUR_IMG_STATUS.word.off ∧ f.stride = 0) : t.rd f = (u.imgResult op no).rd f :=
    State.rdI_congr f 0 (by rw [hf.1, hf.2]; exact hs)
  refine ⟨?_, ?_, ?_, ?_, ?_, ?_⟩
  · rw [State.flag_eq, hctl CUR_IMG_CTL.GO ⟨rfl, rfl⟩, hgo]
    rfl
  · rw [hstatus CUR_IMG_STATUS.LAST_OP ⟨rfl, rfl⟩, hlast]
    exact Nat.mod_eq_of_lt hop
  · rw [State.flag_eq, hstatus CUR_IMG_STATUS.REFUSED ⟨rfl, rfl⟩, href]
    cases no <;> rfl
  · rw [hstatus CUR_IMG_STATUS.REASON ⟨rfl, rfl⟩, hrsn]
  · rw [hstatus CUR_IMG_STATUS.SECTION ⟨rfl, rfl⟩, hsec]
  · rw [hstatus CUR_IMG_STATUS.ENTRY ⟨rfl, rfl⟩, hent]

/-! ### The frames of the operations -/

theorem onlyShown_answer (src : MgSrc) (a b : Nat) (d : Word) : OnlyShown s (s.answer src a b d) := by
  cases src <;> rfl

theorem onlyRegs_of_onlyShown {u : State} (h : OnlyShown s.begin u) : OnlyRegs s u.settle := by
  unfold OnlyShown at h
  rw [h]
  apply onlyRegs_settle <;> simp

theorem onlyShown_imgBegun (w : Word) : OnlyShown s.begin (s.imgBegun w) :=
  ((onlyRegFile_plain s.begin CUR_IMG_CTL.word.off w).trans (onlyRegFile_wr _ _ _)).onlyShown

/-- The registers that an UPDATE or a CHECK writes. -/
def imgOpRegs : List Nat := [CUR_IMG_CTL.word.off, CUR_IMG_STATUS.word.off, ADM_STATUS.word.off, ADM_RUNS.word.off, ADM_NEED.word.off,
  ADM_CAP.word.off, ADM_REFUSALS.word.off]

/-- An UPDATE or CHECK that ends with its result. -/
def State.imgEnded (s : State) (w : Word) (op : Nat) (seven : Option (Option (Nat × Nat × Nat × Nat))) (no : Option ImgNo) : State :=
  ((s.imgBegun w).showSeven op seven).imgResult op no

theorem onlyShown_imgEnded (w : Word) (op : Nat) (seven : Option (Option (Nat × Nat × Nat × Nat))) (no : Option ImgNo) :
    OnlyShown s.begin (s.imgEnded w op seven no) :=
  ((onlyShown_imgBegun s w).trans (onlyShown_showSeven _ op seven)).trans (onlyRegFile_imgResult _ op no).onlyShown

theorem State.word_imgEnded {k : Nat} (hk : k ∉ imgOpRegs) (hp : pmuBlock k = false) (w : Word) (op : Nat)
    (seven : Option (Option (Nat × Nat × Nat × Nat))) (no : Option ImgNo) : (s.imgEnded w op seven no).word k = s.word k := by
  have hadm : k ∉ admRegs := fun h => hk (List.mem_cons_of_mem _ (List.mem_cons_of_mem _ h))
  have hc : k ≠ CUR_IMG_CTL.word.off := fun h => hk (h ▸ List.mem_cons_self)
  have hs : k ≠ CUR_IMG_STATUS.word.off := fun h => hk (h ▸ List.mem_cons_of_mem _ List.mem_cons_self)
  have hpmu : k ≠ 0x2A000 := by
    rintro rfl
    exact absurd hp (by decide)
  rw [State.imgEnded, State.word_imgResult _ hc hs, State.word_showSeven _ hadm, State.imgBegun_word _ hpmu hc]

/-- What an UPDATE or CHECK that ends leaves, with its answer. -/
structure ImgOpEnd (s : State) (m : MgWrite) (op : Nat) (no : Option ImgNo) (t : State) : Prop where
  shows : ImgShows t op no
  answered : answerOut m.src (if no.isSome then stRefused else stOk) (no.getD ⟨0, 0, 0⟩).rsn 0 ∈ t.out
  only : OnlyRegs s t
  regs : RegsBut imgOpRegs s t

theorem imgOpEnd_answer {m : MgWrite} {op : Nat} (hop : op < 4) (seven : Option (Option (Nat × Nat × Nat × Nat))) (no : Option ImgNo) :
    ImgOpEnd s m op no ((s.imgEnded m.word op seven no).answer m.src (if no.isSome then stRefused else stOk) (no.getD ⟨0, 0, 0⟩).rsn 0).settle where
  shows := imgShows_of_words (u := (s.imgBegun m.word).showSeven op seven) hop (State.word_answer ..) (State.word_answer ..)
  answered := by
    rw [State.settle_out, State.answer_out]
    exact List.mem_append_right _ List.mem_cons_self
  only := onlyRegs_of_onlyShown s ((onlyShown_imgEnded s ..).trans (onlyShown_answer _ _ _ _ _))
  regs k hk hp := (State.word_answer ..).trans (s.word_imgEnded hk hp ..)

/-! ### A load -/

theorem onlyShelf_putInterleave (e : Nat) : OnlyShelf s (s.putInterleave e) := ((onlyShelf_wr s _ _).trans (onlyShelf_wr _ _ _)).trans (onlyShelf_wr _ _ _)
theorem onlyShelf_putCasements (e : Nat) : OnlyShelf s (s.putCasements e) := rfl

theorem onlyShelf_putMirror (e : Nat) : OnlyShelf s (s.putMirror e) := by
  have hsingle (on : Bool) : OnlyShelf s (s.mirrorSingle on) := by
    unfold State.mirrorSingle
    split
    · exact (onlyShelf_wr s _ _).trans (onlyShelf_wr _ _ _)
    · rfl
  rw [State.putMirror_eq]
  exact ((((hsingle _).trans (onlyShelf_wr _ _ _)).trans (onlyShelf_wr _ _ _)).trans (onlyShelf_wr _ _ _)).trans (onlyShelf_wr _ _ _)

theorem onlyShelf_loadSecs (secs : List Sec) : OnlyShelf s (s.loadSecs secs) := by
  have h3 := ((onlyShelf_putSec s onlyShelf_putInterleave secs 1).trans (onlyShelf_putSec _ onlyShelf_putCasements secs 2)).trans
    (onlyShelf_putSec _ onlyShelf_putCarrel secs 3)
  have h6 := ((h3.trans (onlyShelf_putSec _ onlyShelf_putShutter secs 4)).trans (onlyShelf_putSec _ onlyShelf_putBypass secs 5)).trans
    (onlyShelf_putSec _ onlyShelf_putTraffic secs 6)
  have h9 := ((h6.trans (onlyShelf_putSec _ onlyShelf_putWindows secs 7)).trans (onlyShelf_putSec _ onlyShelf_putMirror secs 8)).trans
    (onlyShelf_putSec _ onlyShelf_putChain secs 9)
  exact (h9.trans (onlyShelf_putSec _ onlyShelf_putBounds secs 10)).trans (onlyShelf_putSec _ onlyShelf_putPower secs 11)

/-- The configuration that a load leaves, before it is shown. -/
def State.loadPlaces (s : State) (secs : List Sec) : State :=
  (s.loadCleared.loadMir.loadSecs secs).loadRamp.putSec secs 11 (fun s e => s.wr STK_REF_TIER.FLOOR (s.imgB (e + 1) 17 1))

theorem onlyShelf_loadPlaces (secs : List Sec) : OnlyShelf s (s.loadPlaces secs) := by
  have hcleared : OnlyShelf s s.loadCleared := rfl
  have hmir (u : State) : OnlyShelf u u.loadMir :=
    (((onlyShelf_wr u _ _).trans (onlyShelf_wr _ _ _)).trans (onlyShelf_wr _ _ _)).trans (onlyShelf_wr _ _ _)
  have hramp (u : State) : OnlyShelf u u.loadRamp := by
    unfold State.loadRamp
    split
    · exact onlyShelf_wr u _ _
    · rfl
  exact (((hcleared.trans (hmir _)).trans (onlyShelf_loadSecs _ secs)).trans (hramp _)).trans (onlyShelf_putSec _ (fun u _ => onlyShelf_wr u _ _) secs 11)

theorem onlyShelf_loadImage (secs : List Sec) : OnlyShelf s (s.loadImage secs) :=
  (((onlyShelf_loadPlaces s secs).trans (onlyShelf_imgShown _)).trans (onlyShelf_showDirty _)).trans (onlyShelf_showBound _)

theorem OnlyShelf.img {s u : State} (h : OnlyShelf s u) : u.img = s.img := by
  unfold OnlyShelf at h
  rw [h]

theorem OnlyShelf.coh {s u : State} (h : OnlyShelf s u) : u.coh = s.coh := by
  unfold OnlyShelf at h
  rw [h]

theorem OnlyShelf.stk {s u : State} (h : OnlyShelf s u) : u.stk = s.stk := by
  unfold OnlyShelf at h
  rw [h]

/-- The version and the CRC of a loaded image are shown. -/
theorem State.loadImage_words (secs : List Sec) : (s.loadImage secs).word CUR_IMG_ACTIVE.word.off = s.imgW 3
    ∧ (s.loadImage secs).word CUR_IMG_CRC.word.off = s.imgW 7 := s.imgShown_words (onlyShelf_loadPlaces s secs).img

/-- What a load that ends leaves: its result, its answer and the units that it does not touch. -/
structure ImgLoadEnd (s : State) (m : MgWrite) (no : Option ImgNo) (t : State) : Prop where
  shows : ImgShows t 0 no
  answered : answerOut m.src (if no.isSome then stRefused else stOk) (no.getD ⟨0, 0, 0⟩).rsn 0 ∈ t.out
  coh : t.coh = s.coh
  stk : t.stk = s.stk

theorem State.loadRefused_frame (rsn : Nat) : (s.loadRefused rsn).coh = s.coh ∧ (s.loadRefused rsn).stk = s.stk
    ∧ ∀ k, k ∉ dbkRegs → k ≠ SLC_START.word.off → (s.loadRefused rsn).word k = s.word k := by
  have hfails {k : Nat} (hk : k ∉ dbkRegs) : k ≠ DBK_FAILS.word.off := by
    rintro rfl
    exact hk (by decide)
  unfold State.loadRefused
  extract_lets _ u
  have hu : u.coh = s.coh ∧ u.stk = s.stk ∧ ∀ k, u.word k = s.word k := ⟨rfl, rfl, State.word_congr rfl rfl⟩
  split
  · have honly := onlyRegFile_stepFail u 5 0x50 rsn
    refine ⟨by rw [honly.coh, hu.1], by rw [honly.stk, hu.2.1], fun k hk hst => ?_⟩
    rw [State.stepFail_word _ _ _ _ hst (hfails hk), State.word_daybook _ hk, hu.2.2]
  · have honly := onlyRegFile_daybook u ocRetry 5 0x50 rsn
    exact ⟨by rw [honly.coh, hu.1], by rw [honly.stk, hu.2.1], fun k hk _ => by rw [State.word_daybook _ hk, hu.2.2]⟩

theorem imgLoad_refused (m : MgWrite) (x : ImgNo) :
    ImgLoadEnd s m (some x) (((((s.imgBegun m.word).imgResult 0 (some x)).loadRefused x.rsn).refuse m.src x.rsn).settle) := by
  obtain ⟨hcoh, hstk, hword⟩ := ((s.imgBegun m.word).imgResult 0 (some x)).loadRefused_frame x.rsn
  have hres := onlyRegFile_imgResult (s.imgBegun m.word) 0 (some x)
  have hbegun := onlyShown_imgBegun s m.word
  refine ⟨imgShows_of_words (u := s.imgBegun m.word) (by decide) ?_ ?_, ?_, ?_, ?_⟩
  · exact (State.word_refuse ..).trans (hword _ (by decide) (by decide))
  · exact (State.word_refuse ..).trans (hword _ (by decide) (by decide))
  · rw [State.settle_out, State.refuse_out]
    exact List.mem_append_right _ List.mem_cons_self
  · rw [State.settle_coh, State.refuse_coh, hcoh, hres.coh, hbegun.coh, State.begin_coh]
  · rw [State.settle_stk, State.refuse_stk, hstk, hres.stk, hbegun.stk, State.begin_stk]

/-- A load has been accepted in this start. -/
def State.nowLoaded (s : State) : State := { s with start := { s.start with loaded := true } }

theorem State.nowLoaded_coh : s.nowLoaded.coh = s.coh := rfl
theorem State.nowLoaded_stk : s.nowLoaded.stk = s.stk := rfl
theorem State.nowLoaded_loaded : s.nowLoaded.start.loaded = true := rfl
theorem State.word_nowLoaded (k : Nat) : s.nowLoaded.word k = s.word k := State.word_congr rfl rfl k

/-- The configuration of an accepted load, with its result. -/
def State.imgLoaded (s : State) (secs : List Sec) : State := ((s.loadImage secs).imgResult 0 none).nowLoaded

theorem State.stepFive_word {k : Nat} (hk : k ∉ dbkRegs) (hst : k ≠ SLC_START.word.off) : ((s.stepPass 5).enterStep6).word k = s.word k := by
  have hfails : k ≠ DBK_FAILS.word.off := by
    rintro rfl
    exact hk (by decide)
  rw [State.enterStep6, State.word_wr, if_neg hst, State.word_wr, if_neg hst, State.stepPass, State.word_stepPassed _ _ hfails, State.word_daybook _ hk]

theorem onlyRegFile_stepFive : OnlyRegFile s ((s.stepPass 5).enterStep6) :=
  (((onlyRegFile_daybook s ocPass 5 0 0).trans (onlyRegFile_stepPassed _ 5)).trans (onlyRegFile_wr _ SLC_START.STEP 6)).trans (onlyRegFile_wr _ SLC_START.STATE 0)

theorem imgLoad_accepted (m : MgWrite) (secs : List Sec) (t : State)
    (ht : t = (((((s.imgBegun m.word).imgLoaded secs).stepPass 5).enterStep6).ok m.src).settle) :
    ImgLoadEnd s m none t ∧ t.start.loaded = true ∧ t.rd SLC_START.STEP = 6 ∧ t.word CUR_IMG_ACTIVE.word.off = s.imgW 3
    ∧ t.word CUR_IMG_CRC.word.off = s.imgW 7 := by
  have hbegun := onlyShown_imgBegun s m.word
  have himg : (s.imgBegun m.word).imgW = s.imgW := State.imgW_congr (by rw [hbegun.img, State.begin_img])
  have hshelf := onlyShelf_loadImage (s.imgBegun m.word) secs
  obtain ⟨hact, hcrc⟩ := (s.imgBegun m.word).loadImage_words secs
  have hres := onlyRegFile_imgResult ((s.imgBegun m.word).loadImage secs) 0 none
  have hword (k : Nat) (hk : k ∉ dbkRegs) (hst : k ≠ SLC_START.word.off) :
      t.word k = (((s.imgBegun m.word).loadImage secs).imgResult 0 none).word k := by
    rw [ht, State.word_settle, State.word_ok, State.stepFive_word _ hk hst, State.imgLoaded, State.word_nowLoaded]
  have hfive := onlyRegFile_stepFive ((s.imgBegun m.word).imgLoaded secs)
  refine ⟨⟨imgShows_of_words (by decide) (hword _ (by decide) (by decide)) (hword _ (by decide) (by decide)), ?_, ?_, ?_⟩, ?_, ?_, ?_, ?_⟩
  · rw [ht, State.settle_out, State.ok_out]
    exact List.mem_append_right _ List.mem_cons_self
  · rw [ht, State.settle_coh, State.ok_coh, hfive.coh, State.imgLoaded, State.nowLoaded_coh, hres.coh, hshelf.coh, hbegun.coh, State.begin_coh]
  · rw [ht, State.settle_stk, State.ok_stk, hfive.stk, State.imgLoaded, State.nowLoaded_stk, hres.stk, hshelf.stk, hbegun.stk, State.begin_stk]
  · rw [ht, State.settle_start, State.ok_start, hfive.start, State.imgLoaded, State.nowLoaded_loaded]
  · rw [ht, State.rd_settle, State.rd_ok, State.enterStep6, State.rd_wr_apart _ _ (by decide), State.rd_wr_same _ _ _ (by decide)]
    rfl
  · rw [hword _ (by decide) (by decide), State.word_imgResult _ (by decide) (by decide), hact, himg]
  · rw [hword _ (by decide) (by decide), State.word_imgResult _ (by decide) (by decide), hcrc, himg]

end Sys2Proof.Machine
end

section
/-! O50: the write of CUR_IMG_CTL (R271), and the settlement. -/

namespace Sys2Proof.Machine

section
variable (s : State)

/-! ### The three operations -/

theorem State.imgLoad_refused {x : ImgNo} (h : (s.imgCheck 0).1 = .error x) (src : MgSrc) :
    s.imgLoad src = ((s.imgResult 0 (some x)).loadRefused x.rsn).refuse src x.rsn := by
  simp only [State.imgLoad, h]

theorem State.imgLoad_accepted {secs : List Sec} (h : (s.imgCheck 0).1 = .ok secs) (src : MgSrc) :
    s.imgLoad src = (((s.imgLoaded secs).stepPass 5).enterStep6).ok src := by
  simp only [State.imgLoad, h, State.imgLoaded, State.nowLoaded]

/-- The answer is held until the application point. -/
def State.imgHeld (s : State) (src : MgSrc) : State := ({ s with img := { s.img with held := some src } }).setFlag CUR_IMG_STATUS.BUSY true

theorem State.imgUpdate_refused {x : ImgNo} (h : (s.imgCheck 1).1 = .error x) (src : MgSrc) :
    s.imgUpdate src = ((s.showSeven 1 (s.imgCheck 1).2).imgResult 1 (some x)).answer src stRefused x.rsn := by
  generalize hc : s.imgCheck 1 = c at h
  obtain ⟨r, seven⟩ := c
  dsimp only at h
  simp only [State.imgUpdate, hc, h, State.refuse]

theorem State.imgUpdate_accepted {secs : List Sec} (h : (s.imgCheck 1).1 = .ok secs) (src : MgSrc) :
    s.imgUpdate src = (s.showSeven 1 (s.imgCheck 1).2).imgHeld src := by
  generalize hc : s.imgCheck 1 = c at h
  obtain ⟨r, seven⟩ := c
  dsimp only at h
  simp only [State.imgUpdate, hc, h, State.imgHeld]

theorem State.imgCheckOp_eq (src : MgSrc) : s.imgCheckOp src = ((s.showSeven 2 (s.imgCheck 2).2).imgResult 2 (imgNo (s.imgCheck 2).1)).answer src
    (if (imgNo (s.imgCheck 2).1).isSome then stRefused else stOk) ((imgNo (s.imgCheck 2).1).getD ⟨0, 0, 0⟩).rsn := by
  generalize hc : s.imgCheck 2 = c
  obtain ⟨r, seven⟩ := c
  cases r with
  | error x => simp only [State.imgCheckOp, hc, imgNo, State.refuse, Option.isSome_some, Option.getD_some, if_true]
  | ok secs => simp only [State.imgCheckOp, hc, imgNo, State.ok, Option.isSome_none, Option.getD_none, Bool.false_eq_true, if_false]

/-! ### The write of CUR_IMG_CTL -/

/-- An operation or a check runs. -/
def ImgBusy (s : State) : Prop := s.flag CUR_IMG_STATUS.BUSY = true ∨ s.flag TCL_CTL.CHECKING = true ∨ s.flag WIN_CTL.CHECKING = true

/-- The operation is not possible now. -/
def ImgBad (s : State) (op : Nat) : Prop :=
  op = 3 ∨ (op = 0 ∧ ¬ (s.rd SLC_START.STEP = 5 ∧ s.rd SLC_START.STATE = 1)) ∨ (op = 1 ∧ s.online = false)

/-- The operation that GO starts. -/
def State.imgOp (s : State) (op : Nat) (src : MgSrc) : State :=
  match op with
  | 0 => s.imgLoad src
  | 1 => s.imgUpdate src
  | _ => s.imgCheckOp src

theorem State.begin_imgBusy : (s.begin.flag CUR_IMG_STATUS.BUSY || s.begin.flag TCL_CTL.CHECKING || s.begin.flag WIN_CTL.CHECKING) = true ↔ ImgBusy s := by
  rw [s.begin_flag (f := CUR_IMG_STATUS.BUSY) rfl, s.begin_flag (f := TCL_CTL.CHECKING) rfl, s.begin_flag (f := WIN_CTL.CHECKING) rfl,
    Bool.or_eq_true, Bool.or_eq_true, ImgBusy, or_assoc]

theorem State.begin_imgBad (op : Nat) : (op = 3 || (op = 0 && !(s.begin.rd SLC_START.STEP = 5 && s.begin.rd SLC_START.STATE = 1))
    || (op = 1 && !s.begin.online)) = true ↔ ImgBad s op := by
  have hon : s.begin.online = s.online := by rw [State.online, State.online, s.begin_rd rfl]
  rw [s.begin_rd (f := SLC_START.STEP) rfl, s.begin_rd (f := SLC_START.STATE) rfl, hon]
  simp only [ImgBad, Bool.or_eq_true, Bool.and_eq_true, decide_eq_true_eq, Bool.not_eq_true', Bool.and_eq_false_iff, decide_eq_false_iff_not,
    not_and_or, or_assoc]

theorem State.writeImgCtl_noGo {m : MgWrite} (hgo : ¬ m.word.getLsbD 31 = true) :
    s.begin.writeImgCtl m = (s.begin.plain CUR_IMG_CTL.word.off m.word).ok m.src := by
  unfold State.writeImgCtl
  dsimp only
  rw [if_pos (by simpa using hgo)]

theorem State.writeImgCtl_busy {m : MgWrite} (hgo : m.word.getLsbD 31 = true) (hb : ImgBusy s) : s.begin.writeImgCtl m = s.begin.refuse m.src rsnBusy := by
  unfold State.writeImgCtl
  dsimp only
  rw [if_neg (by simpa using hgo), if_pos (s.begin_imgBusy.mpr hb)]

theorem State.writeImgCtl_bad {m : MgWrite} (hgo : m.word.getLsbD 31 = true) (hb : ¬ ImgBusy s) (hbad : ImgBad s (fieldGet CUR_IMG_CTL.OP m.word)) :
    s.begin.writeImgCtl m = s.begin.refuse m.src rsnField := by
  unfold State.writeImgCtl
  dsimp only
  rw [if_neg (by simpa using hgo), if_neg (mt s.begin_imgBusy.mp hb), if_pos ((s.begin_imgBad _).mpr hbad)]

theorem State.writeImgCtl_op {m : MgWrite} (hgo : m.word.getLsbD 31 = true) (hb : ¬ ImgBusy s) (hbad : ¬ ImgBad s (fieldGet CUR_IMG_CTL.OP m.word)) :
    s.begin.writeImgCtl m = (s.imgBegun m.word).imgOp (fieldGet CUR_IMG_CTL.OP m.word) m.src := by
  unfold State.writeImgCtl
  dsimp only
  rw [if_neg (by simpa using hgo), if_neg (mt s.begin_imgBusy.mp hb), if_neg (mt (s.begin_imgBad _).mp hbad)]
  rfl

/-! ### What each operation leaves -/

/-- What an operation that starts leaves, by what the checks say. -/
structure ImgOpDone (s : State) (m : MgWrite) (op : Nat) (judged : Except ImgNo (List Sec)) (t : State) : Prop where
  refused : ∀ x, imgNo judged = some x → answerOut m.src stRefused x.rsn 0 ∈ t.out ∧ ImgShows t op (some x)
  passed : imgNo judged = none → op ≠ 1 → answerOut m.src stOk rsnNone 0 ∈ t.out ∧ ImgShows t op none
  loaded : imgNo judged = none → op = 0 → t.start.loaded = true ∧ t.rd SLC_START.STEP = 6 ∧ t.word CUR_IMG_ACTIVE.word.off = s.imgW 3
    ∧ t.word CUR_IMG_CRC.word.off = s.imgW 7
  held : imgNo judged = none → op = 1 → t.img = { s.img with held := some m.src } ∧ t.flag CUR_IMG_STATUS.BUSY = true ∧ t.out = []
  regs : op ≠ 0 → RegsBut imgOpRegs s t
  only : op ≠ 0 → OnlyRegs { s with img := { s.img with held := t.img.held } } t
  coh : t.coh = s.coh
  stk : t.stk = s.stk

theorem imgNo_error {j : Except ImgNo (List Sec)} {x : ImgNo} (h : imgNo j = some x) : j = .error x := by
  cases j with
  | error y => exact congrArg _ (Option.some_inj.mp h)
  | ok secs => exact absurd h (by simp [imgNo])

theorem ImgLoadEnd.done {m : MgWrite} {t : State} {j : Except ImgNo (List Sec)} (h : ImgLoadEnd s m (imgNo j) t)
    (hl : imgNo j = none → t.start.loaded = true ∧ t.rd SLC_START.STEP = 6 ∧ t.word CUR_IMG_ACTIVE.word.off = s.imgW 3
      ∧ t.word CUR_IMG_CRC.word.off = s.imgW 7) : ImgOpDone s m 0 j t where
  refused x hx := by
    have ha := h.answered
    have hs := h.shows
    rw [hx] at ha hs
    exact ⟨ha, hs⟩
  passed hn _ := by
    have ha := h.answered
    have hs := h.shows
    rw [hn] at ha hs
    exact ⟨ha, hs⟩
  loaded hn _ := hl hn
  held _ h1 := absurd h1 (by decide)
  regs h0 := absurd rfl h0
  only h0 := absurd rfl h0
  coh := h.coh
  stk := h.stk

theorem OnlyRegs.unheld {s t : State} (h : OnlyRegs s t) : OnlyRegs { s with img := { s.img with held := t.img.held } } t := by
  have himg : t.img = s.img := by
    unfold OnlyRegs at h
    rw [h]
  rw [himg]
  exact h

theorem OnlyRegs.mem {s t : State} (h : OnlyRegs s t) : t.coh = s.coh ∧ t.stk = s.stk := by
  unfold OnlyRegs at h
  rw [h]
  exact ⟨rfl, rfl⟩

theorem ImgOpEnd.done {m : MgWrite} {op : Nat} {t : State} {j : Except ImgNo (List Sec)} (hop : op ≠ 0) (h : ImgOpEnd s m op (imgNo j) t)
    (hheld : imgNo j = none → op ≠ 1) : ImgOpDone s m op j t where
  refused x hx := by
    have ha := h.answered
    have hs := h.shows
    rw [hx] at ha hs
    exact ⟨ha, hs⟩
  passed hn _ := by
    have ha := h.answered
    have hs := h.shows
    rw [hn] at ha hs
    exact ⟨ha, hs⟩
  loaded _ h0 := absurd h0 hop
  held hn h1 := absurd h1 (hheld hn)
  regs _ := h.regs
  only _ := h.only.unheld
  coh := h.only.mem.1
  stk := h.only.mem.2

theorem imgOpDone_load (m : MgWrite) (hc : (s.imgBegun m.word).imgCheck 0 = s.imgCheck 0) :
    ImgOpDone s m 0 (s.imgCheck 0).1 ((s.imgBegun m.word).imgLoad m.src).settle := by
  rcases hj : (s.imgCheck 0).1 with x | secs
  · rw [State.imgLoad_refused _ (by rw [hc, hj])]
    exact (imgLoad_refused s m x).done (j := .error x) s fun hn => absurd hn (by simp [imgNo])
  · rw [State.imgLoad_accepted _ (by rw [hc, hj])]
    obtain ⟨hend, hl⟩ := imgLoad_accepted s m secs _ rfl
    exact hend.done (j := .ok secs) s fun _ => hl

/-- The answer of an accepted UPDATE is held. -/
theorem imgOpDone_held (m : MgWrite) (seven : Option (Option (Nat × Nat × Nat × Nat))) (h7 : ∀ r, seven ≠ some (some r)) (secs : List Sec) :
    ImgOpDone s m 1 (.ok secs) (((s.imgBegun m.word).showSeven 1 seven).imgHeld m.src).settle := by
  have hshown := (onlyShown_imgBegun s m.word).trans (onlyShown_showSeven _ 1 seven)
  have hout : ((s.imgBegun m.word).showSeven 1 seven).out = [] := by
    rw [State.showSeven_out _ _ h7]
    exact (State.setFlag_out ..).trans ((State.plain_out ..).trans s.begin_out)
  have hword (k : Nat) (hk : k ∉ imgOpRegs) (hp : pmuBlock k = false) : ((s.imgBegun m.word).showSeven 1 seven).word k = s.word k := by
    have hadm : k ∉ admRegs := fun h => hk (List.mem_cons_of_mem _ (List.mem_cons_of_mem _ h))
    have hpmu : k ≠ 0x2A000 := by
      rintro rfl
      exact absurd hp (by decide)
    rw [State.word_showSeven _ hadm, State.imgBegun_word _ hpmu fun h => hk (h ▸ List.mem_cons_self)]
  generalize (s.imgBegun m.word).showSeven 1 seven = u at hshown hout hword
  have himg : (u.imgHeld m.src).img = { s.img with held := some m.src } := by
    have hu : u.img = s.img := hshown.img.trans s.begin_img
    rw [← hu]
    rfl
  have hrest : OnlyRegs { s with img := { s.img with held := some m.src } } (u.imgHeld m.src).settle := by
    unfold OnlyShown at hshown
    rw [hshown]
    apply onlyRegs_settle <;> simp [State.imgHeld]
  refine ⟨fun x hx => absurd hx (by simp [imgNo]), fun _ h1 => absurd rfl h1, fun _ h0 => absurd h0 (by decide), fun _ _ => ⟨?_, ?_, ?_⟩,
    fun _ k hk hp => ?_, fun _ => ?_, hrest.mem.1, hrest.mem.2⟩
  · rw [State.settle_img, himg]
  · rw [State.flag_eq, State.rd_settle, State.imgHeld, State.rd_setFlag_same _ _ _ (by decide) rfl]
    rfl
  · rw [State.settle_out]
    exact hout
  · rw [State.word_settle, State.imgHeld, State.word_setFlag, if_neg (show ¬ k = CUR_IMG_STATUS.word.off from fun h => hk (h ▸ List.mem_cons_of_mem _ List.mem_cons_self))]
    exact (State.word_congr rfl rfl k).trans (hword k hk hp)
  · rw [State.settle_img, himg]
    exact hrest

theorem imgOpDone_update (m : MgWrite) (hc : (s.imgBegun m.word).imgCheck 1 = s.imgCheck 1) :
    ImgOpDone s m 1 (s.imgCheck 1).1 ((s.imgBegun m.word).imgUpdate m.src).settle := by
  rcases hj : (s.imgCheck 1).1 with x | secs
  · rw [State.imgUpdate_refused _ (by rw [hc, hj])]
    exact (imgOpEnd_answer s (m := m) (op := 1) (by decide) _ (some x)).done (j := .error x) s (by decide) fun hn => absurd hn (by simp [imgNo])
  · rw [State.imgUpdate_accepted _ (by rw [hc, hj]), hc]
    exact imgOpDone_held s m _ (s.imgCheck_passed (by rw [hj]; rfl)) secs

theorem imgOpDone_check (m : MgWrite) (hc : (s.imgBegun m.word).imgCheck 2 = s.imgCheck 2) :
    ImgOpDone s m 2 (s.imgCheck 2).1 ((s.imgBegun m.word).imgCheckOp m.src).settle := by
  rw [State.imgCheckOp_eq, hc]
  exact (imgOpEnd_answer s (m := m) (op := 2) (by decide) _ _).done s (by decide) fun _ => by decide

theorem imgOpDone (m : MgWrite) (hop : fieldGet CUR_IMG_CTL.OP m.word ≠ 3) : ImgOpDone s m (fieldGet CUR_IMG_CTL.OP m.word)
    (s.imgCheck (fieldGet CUR_IMG_CTL.OP m.word)).1 ((s.imgBegun m.word).imgOp (fieldGet CUR_IMG_CTL.OP m.word) m.src).settle := by
  have hc := s.imgBegun_check m.word
  have hlt : fieldGet CUR_IMG_CTL.OP m.word < 4 := Nat.mod_lt _ (by decide)
  generalize fieldGet CUR_IMG_CTL.OP m.word = op at hop hc hlt
  match op with
  | 0 => exact imgOpDone_load s m hc
  | 1 => exact imgOpDone_update s m hc
  | 2 => exact imgOpDone_check s m hc
  | 3 => exact absurd rfl hop

/-- An operation that does not start changes nothing. -/
structure ImgOpRefused (s : State) (m : MgWrite) (rsn : Nat) (t : State) : Prop where
  out : t.out = [answerOut m.src stRefused rsn 0]
  only : OnlyRegs s t
  regs : RegsBut [] s t

theorem imgOpRefused (m : MgWrite) (rsn : Nat) : ImgOpRefused s m rsn (s.begin.refuse m.src rsn).settle :=
  ⟨by simp [State.refuse_out], onlyRegs_begin_answer .., regsBut_begin_answer s _ _ _ _⟩

end
theorem imgOps_spec (s : State) (i : Instr) (m : MgWrite) :
    i = .imageLoad m ∨ i = .imageUpdate m ∨ i = .imageCheck m →
    let op := fieldGet CUR_IMG_CTL.OP m.word
    let go := m.word.getLsbD 31 = true
    let busy := s.flag CUR_IMG_STATUS.BUSY = true ∨ s.flag TCL_CTL.CHECKING = true ∨ s.flag WIN_CTL.CHECKING = true
    let bad := op = 3 ∨ (op = 0 ∧ ¬ (s.rd SLC_START.STEP = 5 ∧ s.rd SLC_START.STATE = 1)) ∨ (op = 1 ∧ s.online = false)
    let judged := (s.imgCheck op).1
    Admits s CUR_IMG_CTL.word.off m.src →
    ∃ t, exec i s = .next t ∧ (go → busy → t.out = [answerOut m.src stRefused rsnBusy 0] ∧ OnlyRegs s t ∧ RegsBut [] s t)
      ∧ (go → ¬ busy → bad → t.out = [answerOut m.src stRefused rsnField 0] ∧ OnlyRegs s t ∧ RegsBut [] s t)
      ∧ (¬ go → t.out = [answerOut m.src stOk rsnNone 0] ∧ OnlyRegs s t ∧ RegsBut [CUR_IMG_CTL.word.off] s t)
      ∧ (go → ¬ busy → ¬ bad → ∀ x : ImgNo, imgNo judged = some x → answerOut m.src stRefused x.rsn 0 ∈ t.out ∧ t.flag
        CUR_IMG_STATUS.REFUSED = true ∧ t.rd CUR_IMG_STATUS.REASON = x.rsn % 256 ∧ t.rd CUR_IMG_STATUS.SECTION = x.sec % 2 ^
        CUR_IMG_STATUS.SECTION.w ∧ t.rd CUR_IMG_STATUS.ENTRY = x.ent % 2 ^ CUR_IMG_STATUS.ENTRY.w ∧ t.rd CUR_IMG_STATUS.LAST_OP = op ∧
        t.flag CUR_IMG_CTL.GO = false)
      ∧ (go → ¬ busy → ¬ bad → imgNo judged = none → op ≠ 1 → answerOut m.src stOk rsnNone 0 ∈ t.out ∧ t.flag CUR_IMG_STATUS.REFUSED =
        false ∧ t.rd CUR_IMG_STATUS.LAST_OP = op)
      ∧ (go → ¬ busy → ¬ bad → imgNo judged = none → op = 0 → t.start.loaded = true ∧ t.rd SLC_START.STEP = 6 ∧ t.word
        CUR_IMG_ACTIVE.word.off = s.imgW 3 ∧ t.word CUR_IMG_CRC.word.off = s.imgW 7)
      ∧ (go → ¬ busy → ¬ bad → imgNo judged = none → op = 1 → t.img = { s.img with held := some m.src } ∧ t.flag CUR_IMG_STATUS.BUSY =
        true ∧ t.out = [])
      ∧ (go → ¬ busy → ¬ bad → op ≠ 0 → RegsBut [CUR_IMG_CTL.word.off, CUR_IMG_STATUS.word.off, ADM_STATUS.word.off, ADM_RUNS.word.off,
        ADM_NEED.word.off, ADM_CAP.word.off, ADM_REFUSALS.word.off] s t)
      ∧ (op ≠ 0 ∨ ¬ go ∨ busy ∨ bad → OnlyRegs { s with img := { s.img with held := t.img.held } } t)
      ∧ t.coh = s.coh
      ∧ t.stk = s.stk := by
  intro hi op go busy bad judged h
  have hexec : exec i s = .next (s.begin.writeImgCtl m).settle := by
    rcases hi with rfl | rfl | rfl
    · exact settled_mgWrite h _ _
    · exact settled_mgWrite h _ _
    · exact settled_mgWrite h _ _
  by_cases hgo : go
  · by_cases hbusy : busy
    · rw [s.writeImgCtl_busy hgo hbusy] at hexec
      obtain ⟨hout, honly, hregs⟩ := imgOpRefused s m rsnBusy
      exact ⟨_, hexec, fun _ _ => ⟨hout, honly, hregs⟩, fun _ hn => absurd hbusy hn, fun hn => absurd hgo hn, fun _ hn => absurd hbusy hn,
        fun _ hn => absurd hbusy hn, fun _ hn => absurd hbusy hn, fun _ hn => absurd hbusy hn, fun _ hn => absurd hbusy hn, fun _ => honly.unheld,
        honly.mem.1, honly.mem.2⟩
    · by_cases hbad : bad
      · rw [s.writeImgCtl_bad hgo hbusy hbad] at hexec
        obtain ⟨hout, honly, hregs⟩ := imgOpRefused s m rsnField
        exact ⟨_, hexec, fun _ hb => absurd hb hbusy, fun _ _ _ => ⟨hout, honly, hregs⟩, fun hn => absurd hgo hn, fun _ _ hn => absurd hbad hn,
          fun _ _ hn => absurd hbad hn, fun _ _ hn => absurd hbad hn, fun _ _ hn => absurd hbad hn, fun _ _ hn => absurd hbad hn,
          fun _ => honly.unheld, honly.mem.1, honly.mem.2⟩
      · rw [s.writeImgCtl_op hgo hbusy hbad] at hexec
        have hdone := imgOpDone s m fun h3 => hbad (Or.inl h3)
        refine ⟨_, hexec, fun _ hb => absurd hb hbusy, fun _ _ hb => absurd hb hbad, fun hn => absurd hgo hn, fun _ _ _ x hx => ?_,
          fun _ _ _ hn h1 => ?_, fun _ _ _ hn h0 => hdone.loaded hn h0, fun _ _ _ hn h1 => hdone.held hn h1, fun _ _ _ h0 => hdone.regs h0,
          fun hcase => hdone.only ?_, hdone.coh, hdone.stk⟩
        · obtain ⟨ha, hs⟩ := hdone.refused x hx
          exact ⟨ha, hs.refused, hs.reason, hs.sec, hs.ent, hs.last, hs.go⟩
        · obtain ⟨ha, hs⟩ := hdone.passed hn h1
          exact ⟨ha, hs.refused, hs.last⟩
        · rcases hcase with h0 | hn | hb | hb
          · exact h0
          · exact absurd hgo hn
          · exact absurd hb hbusy
          · exact absurd hb hbad
  · rw [s.writeImgCtl_noGo hgo] at hexec
    have honly : OnlyRegs s ((s.begin.plain CUR_IMG_CTL.word.off m.word).ok m.src).settle :=
      onlyRegs_of_onlyShown s (((onlyRegFile_plain s.begin _ _).onlyShown).trans (onlyShown_answer _ _ _ _ _))
    refine ⟨_, hexec, fun hg => absurd hg hgo, fun hg => absurd hg hgo, fun _ => ⟨?_, honly, fun k hk hp => ?_⟩, fun hg => absurd hg hgo,
      fun hg => absurd hg hgo, fun hg => absurd hg hgo, fun hg => absurd hg hgo, fun hg => absurd hg hgo, fun _ => honly.unheld, honly.mem.1,
      honly.mem.2⟩
    · rw [State.settle_out, State.ok_out, State.plain_out, State.begin_out]
      rfl
    · rw [State.word_settle, State.word_ok, State.word_plain_other _ _ (by simpa using hk)]
      exact s.word_begin k hp

/-- Settles O50: the checks of an image read neither CUR_IMG_CTL nor the PMU's control, so an operation's own write leaves what they say. -/
theorem images : Obligations.Images := ⟨imgDataWrite_spec, imgOps_spec, imageUpdateApply_spec, imageTimeout_spec⟩

end Sys2Proof.Machine
end

section
/-! O56: the messages of the mirror partner as they arrive, and what is kept for the credit that is returned (R339 to R341). -/

namespace Sys2Proof.Machine

variable (s : State)

/-! ### What the effect of a message leaves for its credit -/

/-- The registers that the count of a message and the way of its credit read. -/
def mirTailRegs : List Nat := [MIR_RX.word.off, MIR_PARTNER.word.off, SLC_ID.word.off]

/-- The sequence of the lanes, the scale queue, the count of messages and the place of the partner stay, the mirror port's injector
stays off, and no received message is held. -/
structure MirCalm (s u : State) : Prop where
  holds : HoldsNoMore s u
  rxSeq : u.mir.rxSeq = s.mir.rxSeq
  waiting : u.mir.waiting = s.mir.waiting
  scaleQ : u.mir.scaleQ = s.mir.scaleQ
  pins : u.pins = s.pins
  quiet : s.flagI LNK_INJ_CTL.EN 6 = false → u.flagI LNK_INJ_CTL.EN 6 = false
  word : ∀ k ∈ mirTailRegs, u.word k = s.word k

theorem MirCalm.refl : MirCalm s s := ⟨HoldsNoMore.refl s, rfl, rfl, rfl, rfl, fun h => h, fun _ _ => rfl⟩

theorem MirCalm.trans {s t u : State} (hst : MirCalm s t) (htu : MirCalm t u) : MirCalm s u :=
  ⟨hst.holds.trans htu.holds, htu.rxSeq.trans hst.rxSeq, htu.waiting.trans hst.waiting, htu.scaleQ.trans hst.scaleQ,
    htu.pins.trans hst.pins, fun h => htu.quiet (hst.quiet h), fun k hk => (htu.word k hk).trans (hst.word k hk)⟩

/-- A change outside the registers, the injectors and the lanes of the mirror. -/
theorem calm_of {s u : State} (h64 : u.s64 = s.s64) (hr : u.regs = s.regs) (hi : u.front.inject = s.front.inject) (hm : u.mir = s.mir)
    (hp : u.pins = s.pins) : MirCalm s u :=
  ⟨holds_of hi, by rw [hm], by rw [hm], by rw [hm], hp,
    fun h => by rw [State.flagI, State.rdI_congr LNK_INJ_CTL.EN 6 (State.word_congr h64 hr _)]; exact h, fun k _ => State.word_congr h64 hr k⟩

theorem calm_mir (m : Mir) (hx : m.rxSeq = s.mir.rxSeq) (hw : m.waiting = s.mir.waiting) (hq : m.scaleQ = s.mir.scaleQ) :
    MirCalm s { s with mir := m } := ⟨holds_of rfl, hx, hw, hq, rfl, fun h => h, fun _ _ => rfl⟩

/-- The registers that count, and those that arm the port's injector. -/
def mirReads (k : Nat) : Prop := k ∈ mirTailRegs ∨ k = LNK_INJ_CTL.EN.off + LNK_INJ_CTL.EN.stride * 6

/-- A change of other registers. -/
theorem calm_words {s u : State} (hi : u.front.inject = s.front.inject) (hm : u.mir = s.mir) (hp : u.pins = s.pins)
    (hw : ∀ k, mirReads k → u.word k = s.word k) : MirCalm s u :=
  ⟨holds_of hi, by rw [hm], by rw [hm], by rw [hm], hp,
    fun h => by rw [State.flagI, State.rdI_congr LNK_INJ_CTL.EN 6 (hw _ (Or.inr rfl))]; exact h, fun k hk => hw k (Or.inl hk)⟩

theorem OnlyRegFile.calm {s u : State} (h : OnlyRegFile s u) (hw : ∀ k, mirReads k → u.word k = s.word k) : MirCalm s u := by
  unfold OnlyRegFile at h
  exact calm_words (by rw [h]) (by rw [h]) (by rw [h]) hw

theorem calm_wrI {f : Field} (i v : Nat) (h : ∀ k, mirReads k → k ≠ f.off + f.stride * i) : MirCalm s (s.wrI f i v) :=
  (onlyRegFile_wrI s f i v).calm (fun k hk => (State.word_wrI ..).trans (if_neg (h k hk)))

theorem calm_wr {f : Field} (v : Nat) (hf : f.stride = 0) (h : ∀ k, mirReads k → k ≠ f.off) : MirCalm s (s.wr f v) :=
  calm_wrI s 0 v (fun k hk => by rw [hf]; exact h k hk)

theorem mirReads_cases {k : Nat} (h : mirReads k) :
    k = MIR_RX.word.off ∨ k = MIR_PARTNER.word.off ∨ k = SLC_ID.word.off ∨ k = LNK_INJ_CTL.EN.off + LNK_INJ_CTL.EN.stride * 6 := by
  simpa [mirReads, mirTailRegs, or_assoc] using h

theorem calm_event (code : Nat) (lane label : Option Nat) (inc : Nat) : MirCalm s (s.event code lane label inc) := by
  have h := onlyPmu_event s code lane label inc
  unfold OnlyPmu at h
  refine calm_words (by rw [h]) (by rw [h]) (by rw [h]) (fun k hk => s.word_event code lane label inc k ?_)
  rcases mirReads_cases hk with rfl | rfl | rfl | rfl <;> rfl

theorem calm_fault {cls : Nat} (hc : cls < 16) (code sev detail : Nat) (loc : Option LineAddr) (status kind src : Nat) (irq : Bool) :
    MirCalm s (s.fault cls code sev detail loc status kind src irq) := by
  have h := s.fault_eq cls code sev detail loc status kind src irq
  refine calm_words (by rw [h]) (by rw [h]) (by rw [h])
    (fun k hk => s.word_fault cls code sev detail loc status kind src irq k (fun hm => ?_))
  simp only [faultRegs, List.mem_cons, List.not_mem_nil, or_false] at hm
  rcases mirReads_cases hk with rfl | rfl | rfl | rfl <;>
    · simp only at hm
      omega

/-! ### Messages to the partner -/

/-- What a message to the partner changes in the mirror unit. -/
structure MirSentOnly (s u : State) : Prop where
  mir : u.mir = { s.mir with txSeq := u.mir.txSeq, used := u.mir.used, unacked := u.mir.unacked, sent := u.mir.sent, queue := u.mir.queue }

theorem MirSentOnly.trans {s t u : State} (hst : MirSentOnly s t) (htu : MirSentOnly t u) : MirSentOnly s u :=
  ⟨by rw [htu.mir, hst.mir]⟩

theorem Sent.mirSentOnly {s u : State} (h : Sent s u) : MirSentOnly s u := ⟨by rw [h.mir]⟩

theorem mirSentOnly_mirDepart (m : MirMsg) : MirSentOnly s (s.mirDepart m) := by
  unfold State.mirDepart
  extract_lets lane q src h m' u
  have hu : MirSentOnly s u := ⟨rfl⟩
  have hcount : MirSentOnly u (u.bump MIR_TX.COUNT) := ⟨rfl⟩
  refine hu.trans (hcount.trans ((sent_event _ 0x55 none none 1).mirSentOnly.trans ?_))
  refine rel_sendOn (R := MirSentOnly) (n := 6) _ MirSentOnly.trans Sent.mirSentOnly ?_ (by decide) _ _ _
  exact fun _ => ⟨rfl⟩

theorem mirSentOnly_mirSend (m : MirMsg) : MirSentOnly s (s.mirSend m) := by
  unfold State.mirSend
  split
  · exact ⟨rfl⟩
  · exact mirSentOnly_mirDepart ..

theorem handed_count : Handed s (s.bump MIR_TX.COUNT) := handed_wr s _ rfl (by decide) (by decide) (by decide)

theorem handed_mirDepart (m : MirMsg) : Handed s (s.mirDepart m) := by
  unfold State.mirDepart
  extract_lets lane q src h m' u
  have hu : Handed s u := handed_mir s u.mir
  exact hu.trans ((handed_count u).trans ((handed_event ..).trans (sendRel_handed.sendOn _ (fun v => handed_mir v _) (by decide) _ _ _)))

theorem handed_mirSend (m : MirMsg) : Handed s (s.mirSend m) := by
  unfold State.mirSend
  split
  · exact handed_mir ..
  · exact handed_mirDepart ..

theorem mirTailRegs_sent : ∀ k ∈ mirTailRegs, k ∉ MIR_TX.word.off :: linkRegs ∧ pmuBlock k = false := by decide

theorem calm_mirSend (m : MirMsg) : MirCalm s (s.mirSend m) := by
  have hmir := (mirSentOnly_mirSend s m).mir
  exact ⟨holds_mirSend s m, by rw [hmir], by rw [hmir], by rw [hmir], (handed_mirSend s m).pins, (handed_mirSend s m).quiet 6 (by decide),
    fun k hk => (sentMir_mirSend s m).2 k (mirTailRegs_sent k hk).1 (mirTailRegs_sent k hk).2⟩

/-! ### A message that leaves where no injector is armed -/

/-- What has been sent stays sent. -/
structure OutGrows (s u : State) : Prop where
  out : ∀ o ∈ s.out, o ∈ u.out

theorem outGrows_of {s u : State} (h : u.out = s.out) : OutGrows s u := ⟨fun o ho => by rw [h]; exact ho⟩

theorem sendRel_outGrows : SendRel OutGrows where
  refl _ := outGrows_of rfl
  trans hst htu := ⟨fun o ho => htu.out o (hst.out o ho)⟩
  emit _ _ := ⟨fun _ ho => List.mem_append_left _ ho⟩
  event s code lane label inc := by
    have h := onlyPmu_event s code lane label inc
    unfold OnlyPmu at h
    exact outGrows_of (by rw [h])
  link _ _ _ _ := outGrows_of rfl
  injector _ _ _ _ := outGrows_of rfl
  tran _ _ := outGrows_of rfl
  disarm _ _ _ := outGrows_of rfl
  count _ _ _ := outGrows_of rfl
  fault s code sev detail loc status kind src irq := outGrows_of (by rw [State.fault_eq])

/-- A message that does not cross the seam is sent on its link. -/
theorem State.mem_sendOn {n : Nat} (hn : n < 8) (h : s.flagI LNK_INJ_CTL.EN n = false) (k c : Nat) {o : BitVec 10 → Out}
    (hl : ∀ (u : State) (q : BitVec 10), u.mirAcross = s.mirAcross → u.tranLane (o q) = none)
    (back : State → State) : o (s.link n).txNext ∈ (s.sendOn n k c o back).out := by
  have hsent : o (s.link n).txNext ∈ (s.transmit n o id true).out := by
    unfold State.transmit
    extract_lets l q kept u
    have hu : u.tranLane (o q) = none := hl u q rfl
    rw [if_pos rfl, id_eq, State.emitLink, hu]
    exact List.mem_append_right _ (List.mem_singleton_self _)
  unfold State.sendOn
  rw [s.inject_disarmed h]
  dsimp only
  split
  · split
    · exact (sendRel_outGrows.trans (sendRel_outGrows.injector _ n _ hn) (sendRel_outGrows.transmit ..)).out _ hsent
    · exact hsent
  · exact hsent

end Sys2Proof.Machine
end

section
/-! O56: a message of the partner from the port to its effect and its credit (R339 to R341). -/

namespace Sys2Proof.Machine

variable (s : State)

/-! ### Past the injectors -/

/-- A mirror message as a command: what arrives at the mirror port. -/
theorem exec_mirror {i : Instr} {m : MirMsg} (h : mirOf i = some m) (s : State) : exec i s = .next (s.begin.mirIn i).settle := by
  unfold mirOf at h
  split at h
  case h_12 => exact absurd h (by simp)
  all_goals rfl

/-- Without injectors a message is applied as it arrives. -/
theorem State.mirIn_of_uninjected {s : State} {i : Instr} {m : MirMsg} (hi : mirOf i = some m) (h6 : Uninjected s 6)
    (h7 : s.mirAcross = true → Uninjected s 7) (hh : HoldsNoMore s (s.mirArrive m)) : s.mirIn i = s.mirArrive m := by
  have hno (n : Nat) (hn : (s.injector n).held = none) (c : Nat) (j : Instr) : ((s.mirArrive m).injector n).held ≠ some (c, .received j) :=
    fun h => absurd (hh.held n c j h) (by rw [hn]; simp)
  have hlast : ∀ held : Option (Nat × HeldMsg), ((s.mirArrive m).injector 7).held = held → s.mirAcross = true →
      held = none ∨ ∃ c o, held = some (c, .sent o) := fun held hheld hc => by
    rcases held with _ | ⟨c, o | j⟩
    · exact Or.inl rfl
    · exact Or.inr ⟨c, o, rfl⟩
    · exact absurd hheld (hno 7 (h7 hc).2 c j)
  unfold State.mirIn
  rw [hi]
  dsimp only
  rw [s.inject_of_uninjected h6]
  dsimp only
  rcases hheld : ((s.mirArrive m).injector 6).held with _ | ⟨c, o | j⟩
  case some.received => exact absurd hheld (hno 6 h6.2 c j)
  all_goals
    dsimp only
    split
    · rfl
    · rename_i hc
      have hcross : s.mirAcross = true := by simpa using hc
      rw [s.inject_of_uninjected (h7 hcross)]
      dsimp only
      rw [s.inject_of_uninjected h6]
      dsimp only
      rw [hheld]
      rcases hlast _ rfl hcross with h | ⟨c', o', h⟩
      · rw [h]
      · rw [h]
        cases c' <;> rfl

theorem MirReady.begin {s : State} (h : MirReady s) : MirReady s.begin := by
  obtain ⟨h6, h7, hf, hd, hp⟩ := h
  have hcross : s.begin.mirAcross = s.mirAcross := by
    rw [State.mirAcross, State.mirAcross, State.crosses, State.crosses, s.begin_rd rfl, s.begin_rd rfl]
  exact ⟨s.begin_uninjected (by decide) h6, fun h => s.begin_uninjected (by decide) (h7 (by rw [← hcross]; exact h)),
    by rw [State.begin_front]; exact hf, s.begin_dark.trans hd, (s.begin_flag rfl).trans hp⟩

theorem exec_mirReady {s : State} {i : Instr} {m : MirMsg} (hi : mirOf i = some m) (h : MirReady s)
    (hh : HoldsNoMore s.begin (s.begin.mirArrive m)) : exec i s = .next (s.begin.mirArrive m).settle := by
  have hb := h.begin
  rw [exec_mirror hi, State.mirIn_of_uninjected hi hb.1 hb.2.1 hh]

/-! ### What arrives shows the link up -/

/-- The link has shown itself up. -/
def State.linkShown (s : State) : State := if s.bit LNK_STATUS.UP 6 then s.setFlag MIR_STATUS.LINK_UP true else s

theorem onlyRegFile_linkShown : OnlyRegFile s s.linkShown := by
  unfold State.linkShown
  split
  · exact onlyRegFile_wr ..
  · rfl

theorem State.word_linkShown {k : Nat} (h : k ≠ MIR_STATUS.word.off) : s.linkShown.word k = s.word k := by
  unfold State.linkShown
  split
  · exact (State.word_wr ..).trans (if_neg h)
  · rfl

theorem State.rd_linkShown {f : Field} (h : Apart MIR_STATUS.LINK_UP f) : s.linkShown.rd f = s.rd f := by
  unfold State.linkShown
  split
  · exact s.rd_setFlag_apart _ h
  · rfl

theorem calm_linkShown : MirCalm s s.linkShown :=
  (onlyRegFile_linkShown s).calm (fun _ hk => s.word_linkShown (fun h => by
    subst h
    rcases mirReads_cases hk with h | h | h | h <;> exact absurd h (by decide)))

/-- A message joins those that wait. -/
def State.mirWaits (s : State) (m : MirMsg) : State := { s with mir := { s.mir with waiting := s.mir.waiting ++ [m] } }

/-- A message past the injector, once the port takes it. -/
def State.mirSorted (s : State) (m : MirMsg) : State :=
  if m.typ = 9 then s.mirApplied.mirCheck m.h.arg.toNat
  else if m.typ = 10 then (if s.mirTakes then s.mirApplied.mirAcked m.h.lane.toNat (BitVec.ofNat 16 m.h.arg.toNat) else s)
  else if !s.mirTakes then (if 11 ≤ m.typ then s.mirEffect m else s)
  else if 2 ^ 15 ≤ (m.h.seq - s.mirExpect m.h.lane.toNat).toNat then s
  else (s.mirWaits m).mirPump m.h.lane.toNat (s.mir.waiting ++ [m]).length

theorem State.mirArrive_eq (m : MirMsg) : s.mirArrive m =
    if s.front.failed || s.dark || !(s.flag MIR_CTL.PAIR_EN) then s else s.linkShown.mirSorted m := rfl

theorem State.mirArrive_ready {s : State} (h : MirReady s) (m : MirMsg) : s.mirArrive m = s.linkShown.mirSorted m := by
  obtain ⟨_, _, hf, hd, hp⟩ := h
  rw [State.mirArrive_eq, hf, hd, hp]
  rfl

theorem State.mirTakes_linkShown : s.linkShown.mirTakes = s.mirTakes := by
  rw [State.mirTakes, State.mirTakes, s.rd_linkShown (by decide)]

theorem State.linkShown_mir : s.linkShown.mir = s.mir := by
  have h := onlyRegFile_linkShown s
  unfold OnlyRegFile at h
  rw [h]

/-! ### The next message of a lane -/

/-- The next message of a lane is taken from those that wait. -/
def State.mirMoved (s : State) (h : MirHdr) : State :=
  { s with mir := { s.mir with waiting := [], rxSeq := tput 0 s.mir.rxSeq h.lane.toNat (h.seq + 1) } }

/-- A message leaves those that wait, and the next of its lane is expected. -/
def State.mirTook (s : State) (m : MirMsg) (lane : Nat) : State :=
  { s with mir := { s.mir with waiting := s.mir.waiting.erase m, rxSeq := tput 0 s.mir.rxSeq lane (s.mirExpect lane + 1) } }

theorem State.mirTook_one {s : State} {m : MirMsg} (hw : s.mir.waiting = [m]) (hseq : m.h.seq = s.mirExpect m.h.lane.toNat) :
    s.mirTook m m.h.lane.toNat = s.mirMoved m.h := by
  rw [State.mirMoved, State.mirTook, hw, ← hseq]
  simp

theorem State.mirPump_one {s : State} {m : MirMsg} (hw : s.mir.waiting = [m]) (hseq : m.h.seq = s.mirExpect m.h.lane.toNat) :
    s.mirPump m.h.lane.toNat 1 = if m.typ = 7 ∧ 16 ≤ s.mir.scaleQ.length then s
      else if m.typ = 7 then ((s.mirMoved m.h).mirEffect m).mirApplied
      else (((s.mirMoved m.h).mirEffect m).mirApplied).mirCredits m.h.lane.toNat := by
  have hfind : s.mir.waiting.find? (fun x => x.h.lane.toNat = m.h.lane.toNat && x.h.seq = s.mirExpect m.h.lane.toNat) = some m := by
    rw [hw, List.find?_cons, ← hseq]
    simp
  rw [State.mirPump, hfind]
  change (if (m.typ = 7 && decide (16 ≤ s.mir.scaleQ.length)) = true then s
    else if m.typ = 7 then (((s.mirTook m m.h.lane.toNat).mirEffect m).mirApplied)
    else ((((s.mirTook m m.h.lane.toNat).mirEffect m).mirApplied).mirCredits m.h.lane.toNat)) = _
  rw [State.mirTook_one hw hseq]
  by_cases h7 : m.typ = 7
  · rw [if_pos h7]
    by_cases hf : 16 ≤ s.mir.scaleQ.length
    · rw [if_pos (by simp [h7, hf]), if_pos ⟨h7, hf⟩]
    · rw [if_neg (by simp [hf]), if_neg (fun h => hf h.2)]
  · rw [if_neg h7, if_neg (by simp [h7]), if_neg (fun h => h7 h.1)]

/-- The state in which a message next in its lane takes effect. -/
def State.mirBase (s : State) (h : MirHdr) : State := s.begin.linkShown.mirMoved h

theorem State.begin_mirTakes : s.begin.mirTakes = s.mirTakes := by rw [State.mirTakes, State.mirTakes, s.begin_rd rfl]

/-- A message next in its lane that no full scale queue holds. -/
theorem State.mirArrive_next {s : State} {m : MirMsg} (h : MirNext s m.h) (ht : m.typ < 9) :
    s.begin.mirArrive m = if m.typ = 7 ∧ 16 ≤ s.mir.scaleQ.length then
        { s.begin.linkShown with mir := { s.mir with waiting := [m] } }
      else if m.typ = 7 then ((s.mirBase m.h).mirEffect m).mirApplied
      else (((s.mirBase m.h).mirEffect m).mirApplied).mirCredits m.h.lane.toNat := by
  obtain ⟨hready, htakes, hwait, hseq⟩ := h
  have hmir : s.begin.linkShown.mir = s.mir := (State.linkShown_mir _).trans s.begin_mir
  have htake : s.begin.linkShown.mirTakes = true := (State.mirTakes_linkShown _).trans (s.begin_mirTakes.trans htakes)
  have hexp : m.h.seq = s.begin.linkShown.mirExpect m.h.lane.toNat := by rw [State.mirExpect, hmir]; exact hseq
  have hbase : s.mirBase m.h = s.begin.linkShown.mirMoved m.h := rfl
  rw [State.mirArrive_ready hready.begin, State.mirSorted, if_neg (by omega), if_neg (by omega), htake, if_neg (by decide),
    if_neg (by rw [hexp]; simp), hbase]
  generalize s.begin.linkShown = b at *
  have hwaits : (b.mirWaits m).mir.waiting = [m] := by rw [State.mirWaits, hmir, hwait]; rfl
  have hmoved : (b.mirWaits m).mirMoved m.h = b.mirMoved m.h := rfl
  have hq : (b.mirWaits m).mir.scaleQ = s.mir.scaleQ := by rw [State.mirWaits, hmir]
  have hlen : (b.mir.waiting ++ [m]).length = 1 := by rw [hmir, hwait]; rfl
  rw [hlen, State.mirPump_one hwaits hexp, hmoved, hq]
  refine ite_congr rfl (fun _ => ?_) (fun _ => rfl)
  rw [State.mirWaits, hmir, hwait]
  rfl

end Sys2Proof.Machine
end

section
/-! O56: the state in which a message of the partner takes effect, and what its count and its credit leave (R340, R341). -/

namespace Sys2Proof.Machine

variable (s : State)

/-! ### The state in which a message takes effect -/

theorem State.mirBase_mir (h : MirHdr) :
    (s.mirBase h).mir = { s.mir with waiting := [], rxSeq := tput 0 s.mir.rxSeq h.lane.toNat (h.seq + 1) } := by
  rw [State.mirBase, State.mirMoved, State.linkShown_mir, s.begin_mir]

/-- What is read nowhere else. -/
structure MirBased (s b : State) : Prop where
  s64 : b.s64 = s.s64
  stk : b.stk = s.stk
  coh : b.coh = s.coh
  ldg : b.ldg = s.ldg
  pwr : b.pwr = s.pwr
  ord : b.ord = s.ord
  pins : b.pins = s.pins
  front : b.front = s.front
  out : b.out = []
  word : ∀ k, k ≠ MIR_STATUS.word.off → pmuBlock k = false → b.word k = s.word k
  shown : ∀ f : Field, Apart MIR_STATUS.LINK_UP f → pmuBlock f.off = false → b.rd f = s.rd f

theorem mirBased_linkShown : MirBased s s.begin.linkShown := by
  have hf := onlyRegFile_linkShown s.begin
  unfold OnlyRegFile at hf
  refine ⟨?_, ?_, ?_, ?_, ?_, ?_, ?_, ?_, ?_, fun k hk hp => (s.begin.word_linkShown hk).trans (s.word_begin k hp),
    fun f hf hp => (s.begin.rd_linkShown hf).trans (s.begin_rd hp)⟩ <;> rw [hf] <;> simp

theorem mirBased_mirBase (h : MirHdr) : MirBased s (s.mirBase h) := by
  obtain ⟨h1, h2, h3, h4, h5, h6, h7, h8, h9, hw, hs⟩ := mirBased_linkShown s
  exact ⟨h1, h2, h3, h4, h5, h6, h7, h8, h9, hw, hs⟩

theorem holds_mirBase (h : MirHdr) : HoldsNoMore s.begin (s.mirBase h) :=
  (calm_linkShown s.begin).holds.trans (holds_of rfl)

theorem State.mirExpect_mirBase (h : MirHdr) : (s.mirBase h).mirExpect h.lane.toNat = h.seq + 1 := by
  rw [State.mirExpect, s.mirBase_mir, tget_tput_same]

theorem State.mirAcross_congr {s t : State} (hp : t.rd MIR_PARTNER.COORD = s.rd MIR_PARTNER.COORD) (hi : t.rd SLC_ID.COORD = s.rd SLC_ID.COORD) :
    t.mirAcross = s.mirAcross := by
  rw [State.mirAcross, State.mirAcross, State.crosses, State.crosses, hp, hi]

/-! ### A message is counted and its credit returned -/

/-- The registers that a message taken shows and that its credit counts. -/
def mirTailWritten : List Nat :=
  MIR_RX.word.off :: MIR_LAST_TS_LO.word.off :: MIR_LAST_TS_HI.word.off :: MIR_TX.word.off :: linkRegs

/-- The memory, the directory, the Ledger, the power unit and the pending writes stay. -/
structure MirFrame (w t : State) : Prop where
  s64 : t.s64 = w.s64
  stk : t.stk = w.stk
  coh : t.coh = w.coh
  ldg : t.ldg = w.ldg
  pwr : t.pwr = w.pwr
  ord : t.ord = w.ord

/-- After the effect of a message: its count and its credit. -/
structure MirTail (w t : State) : Prop where
  frame : MirFrame w t
  mir : t.mir = { w.mir with sent := true }
  word : ∀ k, k ∉ mirTailWritten → pmuBlock k = false → t.word k = w.word k

theorem State.word_mirApplied {k : Nat} (h1 : k ≠ MIR_RX.word.off) (h2 : k ≠ MIR_LAST_TS_LO.word.off) (h3 : k ≠ MIR_LAST_TS_HI.word.off) :
    s.mirApplied.word k = s.word k := by
  rw [State.mirApplied, State.word_wr, if_neg h3, State.word_wr, if_neg h3, State.word_wr, if_neg h2, State.word_bump, if_neg h1]

theorem onlyRegFile_mirApplied : OnlyRegFile s s.mirApplied :=
  (((onlyRegFile_wr s _ _).trans (onlyRegFile_wr _ _ _)).trans (onlyRegFile_wr _ _ _)).trans (onlyRegFile_wr _ _ _)

theorem State.mirApplied_mir : s.mirApplied.mir = s.mir := by
  have h := onlyRegFile_mirApplied s
  unfold OnlyRegFile at h
  rw [h]

theorem holds_mirApplied : HoldsNoMore s s.mirApplied := by
  have h := onlyRegFile_mirApplied s
  unfold OnlyRegFile at h
  exact holds_of (by rw [h])

theorem State.mirApplied_count : s.mirApplied.rd MIR_RX.COUNT = min (s.rd MIR_RX.COUNT + 1) (2 ^ MIR_RX.COUNT.w - 1) := by
  rw [State.mirApplied, State.rd_wr_apart _ _ (by decide), State.rd_wr_apart _ _ (by decide), State.rd_wr_apart _ _ (by decide),
    State.rd_bump_same _ _ _ (by decide)]

theorem handed_mirApplied : Handed s s.mirApplied :=
  (((handed_wr s _ rfl (by decide) (by decide) (by decide)).trans
    (handed_wr _ (f := MIR_LAST_TS_LO.TS_LO) _ rfl (by decide) (by decide) (by decide))).trans
    (handed_wr _ (f := MIR_LAST_TS_HI.TS_HI) _ rfl (by decide) (by decide) (by decide))).trans
    (handed_wr _ (f := MIR_LAST_TS_HI.WRAP) _ rfl (by decide) (by decide) (by decide))

/-- A message without a SEQ is about to leave. -/
def State.mirPlained (s : State) : State := (({ s with mir := { s.mir with sent := true } }).bump MIR_TX.COUNT).event 0x55

theorem State.mirPlain_eq (typ lane arg : Nat) : s.mirPlain typ lane arg = s.mirPlained.sendOn 6 (mirKind typ) (mirKind typ)
    (fun _ => .mirror typ ⟨BitVec.ofNat 2 lane, 0, false, false, 0, 0, BitVec.ofNat 32 arg⟩ none none none 0) := rfl

theorem sentMir_mirPlained : SentMir s s.mirPlained :=
  (sentMir_withMir s _).trans ((sentMir_count _).trans (sent_event _ 0x55 none none 1).sentMir)

theorem State.mirPlained_mir : s.mirPlained.mir = { s.mir with sent := true } := by
  rw [State.mirPlained, (sent_event _ 0x55 none none 1).mir]
  rfl

theorem sent_mirPlain (typ lane arg : Nat) : Sent s.mirPlained (s.mirPlain typ lane arg) := by
  rw [State.mirPlain_eq]
  exact rel_sendOn (R := Sent) (n := 6) (back := id) _ Sent.trans (fun h => h) Sent.refl (by decide) _ _ _

theorem sentMir_mirPlain (typ lane arg : Nat) : SentMir s (s.mirPlain typ lane arg) :=
  (sentMir_mirPlained s).trans (sent_mirPlain s typ lane arg).sentMir

theorem State.mirPlain_mir (typ lane arg : Nat) : (s.mirPlain typ lane arg).mir = { s.mir with sent := true } :=
  (sent_mirPlain s typ lane arg).mir.trans s.mirPlained_mir

theorem holds_count : HoldsNoMore s (s.bump MIR_TX.COUNT) := holds_of rfl

theorem holds_withMir (m : Mir) : HoldsNoMore s { s with mir := m } := holds_of rfl

theorem holds_mirPlained : HoldsNoMore s s.mirPlained := by
  unfold State.mirPlained
  exact (holds_withMir s _).trans ((holds_count _).trans (holds_event ..))

theorem holds_mirPlain (typ lane arg : Nat) : HoldsNoMore s (s.mirPlain typ lane arg) := by
  rw [State.mirPlain_eq]
  exact (holds_mirPlained s).trans (holds_sendOn (back := id) _ HoldsNoMore.refl _ _ _ _)

/-- A message without a SEQ leaves at once where no injector is armed and it does not cross the seam. -/
theorem State.mem_mirPlain (h : s.flagI LNK_INJ_CTL.EN 6 = false) (hc : s.mirAcross = false) (typ lane arg : Nat) :
    .mirror typ ⟨BitVec.ofNat 2 lane, 0, false, false, 0, 0, BitVec.ofNat 32 arg⟩ none none none 0 ∈ (s.mirPlain typ lane arg).out := by
  have hsent := sentMir_mirPlained s
  have hw (f : Field) (hf : f.off ∉ MIR_TX.word.off :: linkRegs) (hp : pmuBlock f.off = false) (h0 : f.stride = 0) :
      s.mirPlained.rd f = s.rd f := State.rdI_congr f 0 (by
    rw [h0]
    exact hsent.2 _ hf hp)
  have hcross : s.mirPlained.mirAcross = false :=
    (State.mirAcross_congr (hw _ (by decide) rfl rfl) (hw _ (by decide) rfl rfl)).trans hc
  have hquiet : s.mirPlained.flagI LNK_INJ_CTL.EN 6 = false :=
    ((handed_mir s _).trans ((handed_count _).trans (handed_event ..))).quiet 6 (by decide) h
  rw [State.mirPlain_eq]
  refine State.mem_sendOn _ (by decide) hquiet _ _ (fun u q hu => ?_) id
  rw [State.tranLane, hu, hcross]
  rfl

theorem State.mirCredits_eq (lane : Nat) : s.mirCredits lane = s.mirPlain 10 lane
    (((s.mir.scaleQ.find? (fun x => x.1.lane.toNat = lane)).map (fun x => x.1.seq - 1)).getD (s.mirExpect lane - 1)).toNat := by
  unfold State.mirCredits
  generalize s.mir.scaleQ.find? (fun x => x.1.lane.toNat = lane) = o
  cases o <;> rfl

theorem mirTail_plain (w : State) (lane arg : Nat) : MirTail w (w.mirApplied.mirPlain 10 lane arg).settle := by
  have hmir := w.mirApplied.mirPlain_mir 10 lane arg
  have happ := onlyRegFile_mirApplied w
  have hsent := sentMir_mirPlain w.mirApplied 10 lane arg
  have hword (k : Nat) (hk : k ∉ mirTailWritten) (hp : pmuBlock k = false) : (w.mirApplied.mirPlain 10 lane arg).word k = w.word k := by
    simp only [mirTailWritten, List.mem_cons, not_or] at hk
    obtain ⟨h1, h2, h3, h4, h5⟩ := hk
    exact (hsent.2 k (by rw [List.mem_cons, not_or]; exact ⟨h4, h5⟩) hp).trans (w.word_mirApplied h1 h2 h3)
  have hrest : ∀ v : State, OnlyRegFile w v → OnlyLinks { v with mir := (w.mirApplied.mirPlain 10 lane arg).mir }
      (w.mirApplied.mirPlain 10 lane arg) → v.mir = w.mir ∧ MirFrame w (w.mirApplied.mirPlain 10 lane arg) := fun v hv hl => by
    unfold OnlyRegFile at hv
    unfold OnlyLinks at hl
    rw [hl, hv]
    exact ⟨rfl, rfl, rfl, rfl, rfl, rfl, rfl⟩
  obtain ⟨happmir, hframe⟩ := hrest _ happ hsent.1
  exact ⟨⟨hframe.s64, hframe.stk, hframe.coh, hframe.ldg, hframe.pwr, hframe.ord⟩, hmir.trans (by rw [happmir]), hword⟩

/-- A message next in its lane: it is taken, and what its effect leaves stays. -/
theorem mirTaken_next {s : State} {i : Instr} {m : MirMsg} (hi : mirOf i = some m) (h : MirNext s m.h) (ht : m.typ < 9) (h7 : m.typ ≠ 7)
    (hc : MirCalm (s.mirBase m.h) ((s.mirBase m.h).mirEffect m)) :
    ∃ t, exec i s = .next t ∧ MirTaken s t m.h ∧ MirTail ((s.mirBase m.h).mirEffect m) t := by
  have harr := State.mirArrive_next h ht
  rw [if_neg (fun h => h7 h.1), if_neg h7, State.mirCredits_eq] at harr
  have hbased := mirBased_mirBase s m.h
  have hmir := s.mirBase_mir m.h
  have hexp := s.mirExpect_mirBase m.h
  have hholds := holds_mirBase s m.h
  generalize s.mirBase m.h = b at *
  generalize b.mirEffect m = w at *
  have hrd (f : Field) (hf : f.off ∈ mirTailRegs) (h0 : f.stride = 0) (hl : Apart MIR_STATUS.LINK_UP f) (hp : pmuBlock f.off = false) :
      w.rd f = s.rd f := (State.rdI_congr f 0 (by rw [h0]; exact hc.word _ hf)).trans (hbased.shown f hl hp)
  have happ : w.mirApplied.mir = w.mir := w.mirApplied_mir
  have hseq : w.mirExpect m.h.lane.toNat = m.h.seq + 1 := by rw [State.mirExpect, hc.rxSeq]; exact hexp
  have harg : ((w.mirApplied.mir.scaleQ.find? (fun x => x.1.lane.toNat = m.h.lane.toNat)).map (fun x => x.1.seq - 1)).getD
      (w.mirApplied.mirExpect m.h.lane.toNat - 1)
      = ((s.mir.scaleQ.find? (fun x => x.1.lane = m.h.lane)).map (fun x => x.1.seq - 1)).getD m.h.seq := by
    rw [State.mirExpect, happ, ← State.mirExpect, hseq, hc.scaleQ, hmir]
    simp only [BitVec.toNat_inj, BitVec.add_sub_cancel]
  rw [harg] at harr
  generalize hnat : (((s.mir.scaleQ.find? (fun x => x.1.lane = m.h.lane)).map (fun x => x.1.seq - 1)).getD m.h.seq).toNat = arg at harr
  have htail := mirTail_plain w m.h.lane.toNat arg
  have hall : HoldsNoMore s.begin (w.mirApplied.mirPlain 10 m.h.lane.toNat arg) :=
    (hholds.trans hc.holds).trans ((holds_mirApplied w).trans (holds_mirPlain w.mirApplied 10 m.h.lane.toNat arg))
  refine ⟨_, by rw [exec_mirReady hi h.1 (by rw [harr]; exact hall), harr], ⟨?_, ?_, ?_, fun hcross => ?_⟩, htail⟩
  · rw [State.mirExpect, htail.mir, ← State.mirExpect]
    exact hseq
  · rw [htail.mir]
    exact hc.waiting.trans (by rw [hmir])
  · have hcount : (w.mirApplied.mirPlain 10 m.h.lane.toNat arg).settle.rd MIR_RX.COUNT = w.mirApplied.rd MIR_RX.COUNT :=
      State.rdI_congr MIR_RX.COUNT 0 ((sentMir_mirPlain w.mirApplied 10 m.h.lane.toNat arg).2 _ (by decide) rfl)
    rw [hcount, State.mirApplied_count, hrd MIR_RX.COUNT (by decide) rfl (by decide) rfl]
  · have hpartner := hrd MIR_PARTNER.COORD (by decide) rfl (by decide) rfl
    have hself := hrd SLC_ID.COORD (by decide) rfl (by decide) rfl
    have hacross : w.mirApplied.mirAcross = false := by
      refine (State.mirAcross_congr ?_ ?_).trans hcross
      · exact (State.rdI_congr MIR_PARTNER.COORD 0 (w.word_mirApplied (by decide) (by decide) (by decide))).trans hpartner
      · exact (State.rdI_congr SLC_ID.COORD 0 (w.word_mirApplied (by decide) (by decide) (by decide))).trans hself
    have hquiet : w.mirApplied.flagI LNK_INJ_CTL.EN 6 = false := by
      refine (handed_mirApplied w).quiet 6 (by decide) (hc.quiet ?_)
      rw [State.flagI, State.rdI_congr LNK_INJ_CTL.EN 6 (hbased.word _ (by decide) rfl)]
      exact h.1.1.1
    have hmem := w.mirApplied.mem_mirPlain hquiet hacross 10 m.h.lane.toNat arg
    rw [BitVec.ofNat_toNat, BitVec.setWidth_eq] at hmem
    rw [hnat]
    exact hmem

end Sys2Proof.Machine
end

section
/-! O56: MCLEAN, MDEAD and MINV (R339). -/

namespace Sys2Proof.Machine

variable (s : State)

/-! ### What decides whether a line is a copy -/

section
variable {s} {b : State}

theorem MirBased.homesSelf (h : MirBased s b) (line : LineAddr) : b.homesSelf line = s.homesSelf line := by
  rw [State.homesSelf, State.homesSelf, State.home, State.home, h.shown SLC_LIVE.MASK (by decide) rfl, h.shown SLC_LIVE.SELF (by decide) rfl]

theorem MirBased.isCopy (h : MirBased s b) (line : LineAddr) : b.isCopy line = s.isCopy line := by
  rw [State.isCopy, State.isCopy, State.accepts, State.accepts, h.homesSelf, State.adopted, State.adopted,
    h.shown MIR_STATUS.STATE (by decide) rfl, h.shown MIR_STATUS.ADOPT (by decide) rfl, h.shown MIR_PEER_MAP.MASK (by decide) rfl]

theorem MirBased.sameLookup (h : MirBased s b) : SameLookup s b := ⟨h.s64, by rw [h.stk], by rw [h.stk], by rw [h.stk], by rw [h.stk]⟩

theorem MirBased.lookup (h : MirBased s b) (line : LineAddr) : b.lookup line = s.lookup line := h.sameLookup.lookup line

theorem MirBased.tag (h : MirBased s b) (set w : Nat) : b.tag set w = s.tag set w := by rw [State.tag, State.tag, h.stk]

theorem MirBased.lineSt (h : MirBased s b) (line : LineAddr) : b.lineSt line = s.lineSt line := by
  rw [State.lineSt, State.lineSt, h.lookup]
  simp only [h.tag]

theorem MirBased.dataPending (h : MirBased s b) (line : LineAddr) : b.dataPending line = s.dataPending line := by
  rw [State.dataPending, State.dataPending, State.loading, State.loading, State.atomLine, State.atomLine, h.coh, h.stk]

end

/-- The link shown up changes no carrel. -/
theorem State.carrelOf_linkShown (line : LineAddr) : s.linkShown.carrelOf line = s.carrelOf line := by
  have hform : s.linkShown = s ∨ s.linkShown = s.setFlag MIR_STATUS.LINK_UP true := by
    unfold State.linkShown
    split
    · exact Or.inr rfl
    · exact Or.inl rfl
  rcases hform with h | h
  · rw [h]
  · have hfield {f : Field} (hf : 0x6100 ≤ f.off ∧ f.off < 0x6110 ∧ f.stride = 16) {c : Nat} (hc : c < 64) :
        s.linkShown.rdI f c = s.rdI f c := by
      obtain ⟨_, h2, h3⟩ := hf
      refine State.rdI_congr f c (s.word_linkShown ?_)
      rw [h3]
      simp only
      omega
    have hlist : s.linkShown.listed ALT_CRL_CTL.VALID 64 = s.listed ALT_CRL_CTL.VALID 64 := by
      rw [h]
      exact s.listed_setWord (off := MIR_STATUS.LINK_UP.off) (Or.inr (by decide)) _
    have hcar : s.linkShown.carrels = s.carrels := by
      rw [State.carrels, State.carrels, hlist]
      refine List.filter_congr (fun c hc => ?_)
      rw [State.flagI, State.flagI, hfield (by decide) (s.lt_of_listed (by decide) hc)]
    have hstk : s.linkShown.stk = s.stk := by rw [h]; rfl
    rw [State.carrelOf, State.carrelOf, hstk, hcar]
    have hin : s.carrels.find? (fun c => s.linkShown.inCarrel c (granule line)) = s.carrels.find? (fun c => s.inCarrel c (granule line)) := by
      refine List.find?_congr (fun c hc => ?_)
      have hlt := s.lt_of_carrels hc
      rw [State.inCarrel, State.inCarrel, State.carrelBase, State.carrelBase, hfield (by decide) hlt, hfield (by decide) hlt,
        hfield (by decide) hlt]
    rw [hin]

theorem State.carrelOf_mirBase (h : MirHdr) (line : LineAddr) : (s.mirBase h).carrelOf line = s.carrelOf line :=
  (s.begin.carrelOf_linkShown line).trans (s.begin_carrelOf line)

/-! ### A change of one line -/

theorem State.lookup_lt {line : LineAddr} {w : Nat} (h : s.lookup line = some w) : w < 32 := by
  have hmem := (List.mem_filter.mp (List.mem_of_find?_eq_some h)).1
  exact lt_of_lt_of_le (List.mem_range.mp hmem) s.ways_le

/-- The tag words of a line's set, the reads and atomics of it that wait, and the writes that wait for them change at most. -/
structure OneLine (s u : State) (line : LineAddr) : Prop where
  only : u = { s with
    stk := { s.stk with tags := u.stk.tags, dirtyVec := u.stk.dirtyVec, farReads := u.stk.farReads }
    coh := { s.coh with atoms := u.coh.atoms }
    ord := u.ord }
  tags : ∀ k, k / 32 ≠ lineSet line → tget TagW.empty u.stk.tags k = tget TagW.empty s.stk.tags k

theorem OneLine.refl (line : LineAddr) : OneLine s s line := ⟨rfl, fun _ _ => rfl⟩

theorem OneLine.trans {s t u : State} {line : LineAddr} (hst : OneLine s t line) (htu : OneLine t u line) : OneLine s u line :=
  ⟨by rw [htu.only, hst.only], fun k hk => (htu.tags k hk).trans (hst.tags k hk)⟩

theorem oneLine_setTag {line : LineAddr} {w : Nat} (h : w < 32) (t : TagW) : OneLine s (s.setTag (lineSet line) w t) line := by
  refine ⟨rfl, fun k hk => ?_⟩
  change tget _ (tput TagW.empty s.stk.tags (lineSet line * 32 + w) t) k = _
  exact tget_tput_other _ _ _ _ (by omega)

theorem oneLine_setWrites (line : LineAddr) (f : PendW → PendW) (ids : List Nat) : OneLine s (ids.foldl (fun s id => s.setWrite id f) s) line := by
  induction ids generalizing s with
  | nil => exact OneLine.refl s line
  | cons id ids ih =>
    have hone : OneLine s (s.setWrite id f) line := ⟨rfl, fun _ _ => rfl⟩
    exact hone.trans (ih _)

theorem oneLine_dropPending (line : LineAddr) : OneLine s (s.dropPending line) line := by
  unfold State.dropPending
  extract_lets ids _ v _ u
  have hu : OneLine s u line := ⟨rfl, fun _ _ => rfl⟩
  exact hu.trans (oneLine_setWrites u line _ ids)

theorem oneLine_setLine (line : LineAddr) (st : LineSt) (p : Bool) : OneLine s (s.setLine line st p) line := by
  unfold State.setLine
  split
  · rename_i w hw
    exact oneLine_setTag s (s.lookup_lt hw) _
  · exact OneLine.refl s line

/-- What waits for a line forgets it. -/
def State.lineLet (s : State) (line : LineAddr) : State := (s.dropPending line).forgetAtom line

theorem oneLine_lineLet (line : LineAddr) : OneLine s (s.lineLet line) line := by
  have hforget : OneLine (s.dropPending line) (s.lineLet line) line := ⟨rfl, fun _ _ => rfl⟩
  exact (oneLine_dropPending s line).trans hforget

theorem dropPending_tags (line : LineAddr) : (s.dropPending line).stk.tags = s.stk.tags := by
  have hfold : ∀ (ids : List Nat) (f : PendW → PendW) (u : State), (ids.foldl (fun s id => s.setWrite id f) u).stk = u.stk := by
    intro ids f
    induction ids with
    | nil => exact fun _ => rfl
    | cons id ids ih => exact fun u => ih (u.setWrite id f)
  unfold State.dropPending
  extract_lets ids _ v _ u
  rw [hfold]

theorem State.tag_lineLet (line : LineAddr) (set w : Nat) : (s.lineLet line).tag set w = s.tag set w := by
  change tget _ (s.dropPending line).stk.tags _ = _
  rw [dropPending_tags]
  rfl

theorem State.lookup_lineLet (line l : LineAddr) : (s.lineLet line).lookup l = s.lookup l := by
  have h := (oneLine_lineLet s line).only
  have h64 : (s.lineLet line).s64 = s.s64 := by rw [h]
  have htags : (s.lineLet line).stk.tags = s.stk.tags := dropPending_tags s line
  have hhalves : (s.lineLet line).stk.halves = s.stk.halves := by rw [h]
  have hlost : (s.lineLet line).stk.lostLb = s.stk.lostLb := by rw [h]
  have hwalk : (s.lineLet line).stk.walk = s.stk.walk := by rw [h]
  exact SameLookup.lookup ⟨h64, htags, hhalves, hlost, hwalk⟩ l

/-- The tag word of a way whose line has gone. -/
def TagW.letGo (t : TagW) (bit : Bool) : TagW :=
  let t := t.put bit .inv false
  if t.isInv then { t with pf := false, pin := false } else t

theorem TagW.st_letGo (t : TagW) (bit : Bool) : (t.letGo bit).st bit = .inv := by
  have hput := t.st_put bit .inv false
  unfold TagW.letGo
  extract_lets u
  split
  · exact hput
  · exact hput

theorem State.dropLine_resident {line : LineAddr} {w : Nat} (h : s.lookup line = some w) :
    s.dropLine line = (s.lineLet line).setTag (lineSet line) w ((s.tag (lineSet line) w).letGo (lineBit line)) := by
  have hl : (s.lineLet line).lookup line = some w := (s.lookup_lineLet line line).trans h
  rw [← s.tag_lineLet line]
  unfold State.dropLine
  change (match (s.lineLet line).lookup line with
    | some w => _
    | none => _) = _
  rw [hl]
  rfl

theorem State.dropLine_absent {line : LineAddr} (h : s.lookup line = none) : s.dropLine line = s.lineLet line := by
  have hl : (s.lineLet line).lookup line = none := (s.lookup_lineLet line line).trans h
  unfold State.dropLine
  change (match (s.lineLet line).lookup line with
    | some w => _
    | none => _) = _
  rw [hl]
  rfl

theorem oneLine_dropLine (line : LineAddr) : OneLine s (s.dropLine line) line := by
  cases h : s.lookup line with
  | none =>
    rw [s.dropLine_absent h]
    exact oneLine_lineLet s line
  | some w =>
    rw [s.dropLine_resident h]
    exact (oneLine_lineLet s line).trans (oneLine_setTag _ (s.lookup_lt h) _)

theorem State.dropLine_st {line : LineAddr} {w : Nat} (h : s.lookup line = some w) :
    ((s.dropLine line).tag (lineSet line) w).st (lineBit line) = .inv := by
  rw [s.dropLine_resident h, State.tag_setTag, if_pos rfl, TagW.st_letGo]

theorem State.setLine_resident {line : LineAddr} {w : Nat} (h : s.lookup line = some w) (st : LineSt) (p : Bool) :
    s.setLine line st p = s.setTag (lineSet line) w ((s.tag (lineSet line) w).put (lineBit line) st p) := by
  unfold State.setLine
  rw [h]

theorem State.setLine_st {line : LineAddr} {w : Nat} (h : s.lookup line = some w) (st : LineSt) (p : Bool) :
    ((s.setLine line st p).tag (lineSet line) w).st (lineBit line) = st := by
  rw [s.setLine_resident h, State.tag_setTag, if_pos rfl, TagW.st_put]

theorem State.lineSt_resident {line : LineAddr} {w : Nat} (h : s.lookup line = some w) :
    s.lineSt line = (s.tag (lineSet line) w).st (lineBit line) := by
  rw [State.lineSt, h]

theorem State.lineSt_absent {line : LineAddr} (h : s.lookup line = none) : s.lineSt line = .inv := by
  rw [State.lineSt, h]

theorem TagW.isInv_put_dead (t : TagW) (b : Bool) (p : Bool) : (t.put b .dead p).isInv = false := by
  unfold TagW.isInv TagW.isDead TagW.put
  cases hv : TagW.valid (if b = true then { t with s1 := .dead, p1 := p } else { t with s0 := .dead, p0 := p }) with
  | true => rfl
  | false => cases b <;> simp

/-- The state of a line that keeps its way. -/
theorem State.lineSt_setLine {line : LineAddr} (h : s.lineSt line ≠ .inv) {st : LineSt} (hst : st ≠ .inv) (p : Bool) :
    (s.setLine line st p).lineSt line = st := by
  cases hl : s.lookup line with
  | none => exact absurd (s.lineSt_absent hl) h
  | some w =>
    have hinv : ((s.tag (lineSet line) w).put (lineBit line) st p).isInv = false := by
      cases st with
      | inv => exact absurd rfl hst
      | dead => exact TagW.isInv_put_dead ..
      | clean => exact TagW.isInv_put _ _ _ rfl
      | dirty => exact TagW.isInv_put _ _ _ rfl
    have hl' : (s.setLine line st p).lookup line = some w := by
      rw [s.setLine_resident hl]
      exact s.lookup_setTag hl hinv ((TagW.sector_put ..).trans (s.lookup_found hl).2)
    rw [State.lineSt_resident _ hl', s.setLine_st hl]

theorem OneLine.calm {s u : State} {line : LineAddr} (h : OneLine s u line) : MirCalm s u := by
  have honly := h.only
  exact calm_of (by rw [honly]) (by rw [honly]) (by rw [honly]) (by rw [honly]) (by rw [honly])

end Sys2Proof.Machine
end

section
/-! O56: what MCLEAN, MDEAD and MINV do to a copy. -/

namespace Sys2Proof.Machine

variable {s : State}

/-- A message that changes one line at most. -/
structure LineMet (s t u : State) (h : MirHdr) : Prop where
  taken : MirTaken s t h
  s64 : t.s64 = u.s64
  stk : t.stk = u.stk
  tags : ∀ e, e ∈ s.stk.tags → e.1 / 32 ≠ lineSet h.line → t.tag (e.1 / 32) (e.1 % 32) = s.tag (e.1 / 32) (e.1 % 32)
  beats : t.stk.beats = s.stk.beats
  cat : t.coh.cat = s.coh.cat
  ldg : t.ldg = s.ldg

theorem LineMet.tag {t u : State} {h : MirHdr} (hm : LineMet s t u h) (set w : Nat) : t.tag set w = u.tag set w := by
  rw [State.tag, State.tag, hm.stk]

theorem LineMet.lineSt {t u : State} {h : MirHdr} (hm : LineMet s t u h) (line : LineAddr) : t.lineSt line = u.lineSt line := by
  have hl : t.lookup line = u.lookup line :=
    SameLookup.lookup ⟨hm.s64, by rw [hm.stk], by rw [hm.stk], by rw [hm.stk], by rw [hm.stk]⟩ line
  rw [State.lineSt, State.lineSt, hl]
  simp only [hm.tag]

theorem lineMet_of {i : Instr} {m : MirMsg} (hi : mirOf i = some m) (h : MirNext s m.h) (ht : m.typ < 9) (h7 : m.typ ≠ 7)
    (hone : OneLine (s.mirBase m.h) ((s.mirBase m.h).mirEffect m) m.h.line) :
    ∃ t, exec i s = .next t ∧ LineMet s t ((s.mirBase m.h).mirEffect m) m.h := by
  obtain ⟨t, hexec, htaken, ⟨h64, hstk, hcoh, hldg, _, _⟩, _, _⟩ := mirTaken_next hi h ht h7 hone.calm
  have hbased := mirBased_mirBase s m.h
  generalize (s.mirBase m.h).mirEffect m = u at *
  generalize s.mirBase m.h = b at *
  have honly := hone.only
  refine ⟨t, hexec, htaken, h64, hstk, fun e _ he => ?_, ?_, ?_, ?_⟩
  · have hkey : e.1 / 32 * 32 + e.1 % 32 = e.1 := by omega
    rw [State.tag, State.tag, hkey, hstk, ← hbased.stk]
    exact hone.tags _ he
  · rw [hstk, honly, ← hbased.stk]
  · rw [hcoh, honly, ← hbased.coh]
  · rw [hldg, honly, ← hbased.ldg]

section
variable (b : State) (line : LineAddr)

theorem oneLine_copyClean : OneLine b (b.copyClean line) line := by
  unfold State.copyClean
  split
  · exact OneLine.refl b line
  · split
    · exact oneLine_dropLine b line
    · split
      · exact oneLine_setLine ..
      · exact OneLine.refl b line

theorem oneLine_copyDead : OneLine b (b.copyDead line) line := by
  unfold State.copyDead
  split
  · exact oneLine_setLine ..
  · exact OneLine.refl b line

theorem oneLine_copyInv : OneLine b (b.copyInv line) line := by
  unfold State.copyInv
  split
  · exact oneLine_dropLine b line
  · exact OneLine.refl b line

theorem State.copyClean_other {b : State} (h : ¬ b.isCopy line = true) : b.copyClean line = b := by
  rw [State.copyClean, if_pos (by simpa using h)]

theorem State.copyDead_other {b : State} (h : ¬ b.isCopy line = true) : b.copyDead line = b := by
  rw [State.copyDead, if_neg (by simp [h])]

theorem State.copyInv_other {b : State} (h : ¬ b.isCopy line = true) : b.copyInv line = b := by
  rw [State.copyInv, if_neg h]

variable {b line}

theorem State.copyInv_st {w : Nat} (hc : b.isCopy line = true) (hw : b.lookup line = some w) :
    ((b.copyInv line).tag (lineSet line) w).st (lineBit line) = .inv := by
  rw [State.copyInv, if_pos hc, b.dropLine_st hw]

theorem State.copyClean_st {w : Nat} (hc : b.isCopy line = true) (hw : b.lookup line = some w) :
    ((b.copyClean line).tag (lineSet line) w).st (lineBit line)
      = if b.carrelOf line = none then .inv else if b.lineSt line = .dirty then .clean else b.lineSt line := by
  rw [State.copyClean, if_neg (by simp [hc])]
  by_cases hcar : b.carrelOf line = none
  · rw [if_pos (by simp [hcar]), if_pos hcar, b.dropLine_st hw]
  · rw [if_neg (by simpa using hcar), if_neg hcar]
    split
    · rw [b.setLine_st hw]
    · rw [b.lineSt_resident hw]

theorem State.copyDead_st (hc : b.isCopy line = true) :
    (b.copyDead line).lineSt line = if (b.lineSt line).live = true then .dead else b.lineSt line := by
  rw [State.copyDead, hc, Bool.true_and]
  split
  · rename_i hlive
    exact b.lineSt_setLine (fun h => by rw [h] at hlive; exact absurd hlive (by decide)) (by decide) _
  · rfl

end

theorem mirLines_spec (s : State) (i : Instr) (h : MirHdr) :
    i = .mclean h ∨ i = .mdead h ∨ i = .minv h →
    let cp := s.isCopy h.line = true
    let st := s.lineSt h.line
    MirNext s h →
    ∃ t, exec i s = .next t ∧ MirTaken s t h
      ∧ (¬ cp → t.stk = s.stk)
      ∧ (cp → i = .minv h → ∀ w : Nat, s.lookup h.line = some w → (t.tag (lineSet h.line) w).st (lineBit h.line) = .inv)
      ∧ (cp → i = .mclean h → ∀ w : Nat, s.lookup h.line = some w → (t.tag (lineSet h.line) w).st (lineBit h.line) = (if s.carrelOf
        h.line = none then .inv else if st = .dirty then .clean else st))
      ∧ (cp → i = .mdead h → t.lineSt h.line = (if st.live = true then .dead else st))
      ∧ (∀ e, e ∈ s.stk.tags → e.1 / 32 ≠ lineSet h.line → t.tag (e.1 / 32) (e.1 % 32) = s.tag (e.1 / 32) (e.1 % 32))
      ∧ t.stk.beats = s.stk.beats
      ∧ t.coh.cat = s.coh.cat
      ∧ t.ldg = s.ldg := by
  intro hi cp st hnext
  have hbased := mirBased_mirBase s h
  have hcp : (s.mirBase h).isCopy h.line = true ↔ cp := by rw [hbased.isCopy]
  have hlook := hbased.lookup h.line
  have hst : (s.mirBase h).lineSt h.line = st := hbased.lineSt h.line
  have hcar := s.carrelOf_mirBase h h.line
  rcases hi with rfl | rfl | rfl
  · obtain ⟨t, hexec, hm⟩ := lineMet_of (i := .mclean h) (m := ⟨1, h, none, none, none, 0, none⟩) rfl hnext (by simp) (by simp)
      (oneLine_copyClean _ _)
    refine ⟨t, hexec, hm.taken, fun hc => hm.stk.trans ?_, fun _ h => absurd h (by simp), fun hc _ w hw => ?_, fun _ h => absurd h (by simp),
      hm.tags, hm.beats, hm.cat, hm.ldg⟩
    · exact (congrArg State.stk (State.copyClean_other _ (hcp.not.mpr hc))).trans hbased.stk
    · rw [hm.tag, ← hcar, ← hst]
      exact State.copyClean_st (hcp.mpr hc) (hlook.trans hw)
  · obtain ⟨t, hexec, hm⟩ := lineMet_of (i := .mdead h) (m := ⟨2, h, none, none, none, 0, none⟩) rfl hnext (by simp) (by simp)
      (oneLine_copyDead _ _)
    refine ⟨t, hexec, hm.taken, fun hc => hm.stk.trans ?_, fun _ h => absurd h (by simp), fun _ h => absurd h (by simp), fun hc _ => ?_,
      hm.tags, hm.beats, hm.cat, hm.ldg⟩
    · exact (congrArg State.stk (State.copyDead_other _ (hcp.not.mpr hc))).trans hbased.stk
    · rw [hm.lineSt, ← hst]
      exact State.copyDead_st (hcp.mpr hc)
  · obtain ⟨t, hexec, hm⟩ := lineMet_of (i := .minv h) (m := ⟨3, h, none, none, none, 0, none⟩) rfl hnext (by simp) (by simp)
      (oneLine_copyInv _ _)
    refine ⟨t, hexec, hm.taken, fun hc => hm.stk.trans ?_, fun hc _ w hw => ?_, fun _ h => absurd h (by simp), fun _ h => absurd h (by simp),
      hm.tags, hm.beats, hm.cat, hm.ldg⟩
    · exact (congrArg State.stk (State.copyInv_other _ (hcp.not.mpr hc))).trans hbased.stk
    · rw [hm.tag]
      exact State.copyInv_st (hcp.mpr hc) (hlook.trans hw)

end Sys2Proof.Machine
end

section
/-! O56: MEVICT at the home (R338), and what evicting a way leaves for the partner. -/

namespace Sys2Proof.Machine

variable (s : State)

/-! ### What keeps the lookup of every line -/

/-- What the lookup of a line reads stays, and the Catalogue and the Ledger. -/
structure LookKept (s u : State) : Prop where
  same : SameLookup s u
  cat : u.coh.cat = s.coh.cat
  ldg : u.ldg = s.ldg

theorem LookKept.refl : LookKept s s := ⟨⟨rfl, rfl, rfl, rfl, rfl⟩, rfl, rfl⟩

theorem SameLookup.trans {s t u : State} (hst : SameLookup s t) (htu : SameLookup t u) : SameLookup s u :=
  ⟨htu.s64.trans hst.s64, htu.tags.trans hst.tags, htu.halves.trans hst.halves, htu.lostLb.trans hst.lostLb, htu.walk.trans hst.walk⟩

theorem LookKept.trans {s t u : State} (hst : LookKept s t) (htu : LookKept t u) : LookKept s u :=
  ⟨hst.same.trans htu.same, htu.cat.trans hst.cat, htu.ldg.trans hst.ldg⟩

theorem SameLookup.tag {s t : State} (h : SameLookup s t) (set w : Nat) : t.tag set w = s.tag set w := by rw [State.tag, State.tag, h.tags]

theorem SameLookup.lineSt {s t : State} (h : SameLookup s t) (line : LineAddr) : t.lineSt line = s.lineSt line := by
  rw [State.lineSt, State.lineSt, h.lookup]
  simp only [h.tag]

theorem OnlyRegFile.lookKept {s u : State} (h : OnlyRegFile s u) : LookKept s u := by
  unfold OnlyRegFile at h
  refine ⟨⟨?_, ?_, ?_, ?_, ?_⟩, ?_, ?_⟩ <;> rw [h]

theorem SentMir.lookKept {s u : State} (h : SentMir s u) : LookKept s u := by
  have hf := h.1
  unfold OnlyLinks at hf
  refine ⟨⟨?_, ?_, ?_, ?_, ?_⟩, ?_, ?_⟩ <;> rw [hf]

theorem BeatsOnly.lookKept {s u : State} (h : BeatsOnly s u) : LookKept s u := by
  have hf := h.only
  refine ⟨⟨?_, ?_, ?_, ?_, ?_⟩, ?_, ?_⟩ <;> rw [hf]

theorem BeatsOnly.calm {s u : State} (h : BeatsOnly s u) : MirCalm s u := by
  have hf := h.only
  exact calm_of (by rw [hf]) (by rw [hf]) (by rw [hf]) (by rw [hf]) (by rw [hf])

/-- A step that neither the lookups nor the credit of a message see. -/
structure Unseen (s u : State) : Prop where
  dir : LookKept s u
  calm : MirCalm s u
  evicted : u.mir.evicted = s.mir.evicted

theorem Unseen.refl : Unseen s s := ⟨LookKept.refl s, MirCalm.refl s, rfl⟩

theorem Unseen.trans {s t u : State} (hst : Unseen s t) (htu : Unseen t u) : Unseen s u :=
  ⟨hst.dir.trans htu.dir, hst.calm.trans htu.calm, htu.evicted.trans hst.evicted⟩

theorem unseen_pushJob (j : BankJob) : Unseen s (s.pushJob j) := ⟨⟨⟨rfl, rfl, rfl, rfl, rfl⟩, rfl, rfl⟩, calm_of rfl rfl rfl rfl rfl, rfl⟩

theorem BeatsOnly.unseen {s u : State} (h : BeatsOnly s u) : Unseen s u := ⟨h.lookKept, h.calm, by rw [h.only]⟩

theorem unseen_writeJob (set way : Nat) (line : LineAddr) (d : LineData) (win : Option (BitVec 4)) :
    Unseen s (s.writeJob set way line d win) := by
  unfold State.writeJob
  extract_lets bit u
  exact (beatsOnly_putLine s set way bit d).unseen.trans (unseen_pushJob u _)

theorem unseen_dropAtom (line : LineAddr) : Unseen s (s.dropAtom line) :=
  ⟨⟨⟨rfl, rfl, rfl, rfl, rfl⟩, rfl, rfl⟩, calm_of rfl rfl rfl rfl rfl, rfl⟩

theorem unseen_releaseAtom (line : LineAddr) : Unseen s (s.releaseAtom line) := by
  unfold State.releaseAtom
  split
  · extract_lets u
    refine (unseen_dropAtom s line).trans ?_
    split
    · exact unseen_writeJob ..
    · exact Unseen.refl u
  · exact Unseen.refl s

theorem unseen_mirSend (m : MirMsg) : Unseen s (s.mirSend m) :=
  ⟨(sentMir_mirSend s m).lookKept, calm_mirSend s m, by rw [(mirSentOnly_mirSend s m).mir]⟩

theorem unseen_mirLine (typ : Nat) (line : LineAddr) (was : Bool) : Unseen s (s.mirLine typ line was) := by
  unfold State.mirLine
  split
  · exact unseen_mirSend ..
  · exact Unseen.refl s

theorem unseen_mirEvict (line : LineAddr) : Unseen s (s.mirEvict line) := by
  unfold State.mirEvict
  split
  · exact unseen_mirSend ..
  · exact Unseen.refl s

theorem unseen_event (code : Nat) (lane label : Option Nat) (inc : Nat) : Unseen s (s.event code lane label inc) := by
  have h := onlyPmu_event s code lane label inc
  unfold OnlyPmu at h
  exact ⟨(sent_event s code lane label inc).sentMir.lookKept, calm_event s code lane label inc, by rw [h]⟩

theorem unseen_wrI {f : Field} (i v : Nat) (h : ∀ k, mirReads k → k ≠ f.off + f.stride * i) : Unseen s (s.wrI f i v) :=
  ⟨(onlyRegFile_wrI s f i v).lookKept, calm_wrI s i v h, rfl⟩

theorem unseen_wr {f : Field} (v : Nat) (hf : f.stride = 0) (h : ∀ k, mirReads k → k ≠ f.off) : Unseen s (s.wr f v) :=
  ⟨(onlyRegFile_wr s f v).lookKept, calm_wr s v hf h, rfl⟩

theorem unseen_foldl {α : Type} {g : State → α → State} (h : ∀ u a, Unseen u (g u a)) (l : List α) (s : State) : Unseen s (l.foldl g s) := by
  induction l generalizing s with
  | nil => exact Unseen.refl s
  | cons a l ih => exact (h s a).trans (ih _)

theorem mirReads_ne {n : Nat} (h1 : n ≠ MIR_RX.word.off) (h2 : n ≠ MIR_PARTNER.word.off) (h3 : n ≠ SLC_ID.word.off)
    (h4 : n ≠ LNK_INJ_CTL.EN.off + LNK_INJ_CTL.EN.stride * 6) : ∀ k, mirReads k → k ≠ n := fun k hk h => by
  rw [h] at hk
  rcases mirReads_cases hk with h | h | h | h
  · exact h1 h
  · exact h2 h
  · exact h3 h
  · exact h4 h

theorem unseen_setWord {off : Nat} (v : Word) (h : ∀ k, mirReads k → k ≠ off) : Unseen s (s.setWord off v) :=
  ⟨(onlyRegFile_setWord s off v).lookKept,
    (onlyRegFile_setWord s off v).calm (fun k hk => (State.word_setWord ..).trans (if_neg (h k hk))), rfl⟩

theorem unseen_lossEntry (typ cause line run ts : Nat) : Unseen s (s.lossEntry typ cause line run ts) := by
  have hlt := s.rdI_lt MIR_LOSS_CTL.COUNT 0
  unfold State.lossEntry
  extract_lets n a b c d
  have hn : n < 256 := hlt
  split
  · exact (unseen_wr s _ rfl (mirReads_ne (by decide) (by decide) (by decide) (by decide))).trans
      (unseen_wr _ _ rfl (mirReads_ne (by decide) (by decide) (by decide) (by decide)))
  · have hne {k : Nat} (h : 0x26800 ≤ k ∧ k < 0x27900) : ∀ j, mirReads j → j ≠ k :=
      mirReads_ne (by simp only; omega) (by simp only; omega) (by simp only; omega) (by simp only; omega)
    have hd : Unseen c d := unseen_setWord c _ (hne (by simp only; omega))
    exact (unseen_wrI s n _ (hne (by simp only; omega))).trans ((unseen_wrI a n _ (hne (by simp only; omega))).trans
      ((unseen_wrI b n _ (hne (by simp only; omega))).trans (hd.trans
        (unseen_wr d _ rfl (mirReads_ne (by decide) (by decide) (by decide) (by decide))))))

theorem unseen_lossLines (cause : Nat) (lines : List LineAddr) : Unseen s (s.lossLines cause lines) :=
  unseen_foldl (fun u _ => unseen_lossEntry u _ _ _ _ _) _ _

theorem unseen_writeBackLine (set way : Nat) (bit : Bool) (why : FarWhy) : Unseen s (s.writeBackLine set way bit why) := unseen_pushJob ..

theorem unseen_evictLine (set way : Nat) (bit : Bool) (why : FarWhy) : Unseen s (s.evictLine set way bit why) := by
  unfold State.evictLine
  extract_lets t line u v
  have hu : Unseen s u := unseen_releaseAtom ..
  refine hu.trans ?_
  split
  · exact Unseen.refl _
  · split
    · split
      · exact Unseen.refl _
      · exact unseen_mirEvict ..
    · split
      · exact unseen_lossLines ..
      · have hv : Unseen u v := (unseen_event u _ _ _ _).trans (unseen_pushJob ..)
        exact hv.trans (unseen_mirLine ..)

/-! ### MEVICT -/

/-- The home writes a DIRTY line back, which stays CLEAN. -/
def State.goneLine (s : State) (line : LineAddr) (w : Nat) : State :=
  (((s.releaseAtom line).writeBackLine (lineSet line) w (lineBit line) .evicted).setLine line .clean ((s.releaseAtom line).lineP line)).mirLine
    1 line true

/-- A line written back counts until memory has it. -/
def State.evictCounted (s : State) (line : LineAddr) : State := { s with mir := { s.mir with evicted := s.mir.evicted ++ [line] } }

theorem State.copyGone_other {line : LineAddr} (h : ¬ (s.homesSelf line = true ∧ s.lineSt line = .dirty ∧ s.dataPending line = false)) :
    s.copyGone line = s := by
  unfold State.copyGone
  rw [if_pos]
  simp only [Bool.or_eq_true, Bool.not_eq_true', bne_iff_ne]
  by_contra hno
  simp only [not_or, Bool.not_eq_false, ne_eq, not_not, Bool.not_eq_true] at hno
  exact h ⟨hno.1.1, hno.1.2, hno.2⟩

theorem State.copyGone_home {line : LineAddr} {w : Nat} (hh : s.homesSelf line = true) (hd : s.lineSt line = .dirty)
    (hp : s.dataPending line = false) (hw : s.lookup line = some w) : s.copyGone line = (s.goneLine line w).evictCounted line := by
  have hl : (s.releaseAtom line).lookup line = some w := ((unseen_releaseAtom s line).dir.same.lookup line).trans hw
  unfold State.copyGone
  rw [if_neg (by simp [hh, hd, hp])]
  dsimp only
  rw [hl]
  rfl

/-- What the home's write-back leaves. -/
structure Gone (s u : State) (line : LineAddr) : Prop where
  calm : MirCalm s u
  st : u.lineSt line = .clean
  evicted : u.mir.evicted = s.mir.evicted ++ [line]
  cat : u.coh.cat = s.coh.cat
  ldg : u.ldg = s.ldg

theorem gone_copyGone {line : LineAddr} {w : Nat} (hh : s.homesSelf line = true) (hd : s.lineSt line = .dirty)
    (hp : s.dataPending line = false) (hw : s.lookup line = some w) : Gone s (s.copyGone line) line := by
  rw [s.copyGone_home hh hd hp hw, State.goneLine]
  have h1 : Unseen s ((s.releaseAtom line).writeBackLine (lineSet line) w (lineBit line) .evicted) :=
    (unseen_releaseAtom s line).trans (unseen_writeBackLine ..)
  generalize (s.releaseAtom line).lineP line = bad
  generalize (s.releaseAtom line).writeBackLine (lineSet line) w (lineBit line) .evicted = a at *
  have h2 := oneLine_setLine a line .clean bad
  have hst : (a.setLine line .clean bad).lineSt line = .clean :=
    a.lineSt_setLine (by rw [h1.dir.same.lineSt, hd]; decide) (by decide) bad
  generalize a.setLine line .clean bad = c at *
  have h3 := unseen_mirLine c 1 line true
  generalize c.mirLine 1 line true = e at *
  have h4 : MirCalm e (e.evictCounted line) := calm_mir e _ rfl rfl rfl
  have honly := h2.only
  refine ⟨((h1.calm.trans h2.calm).trans h3.calm).trans h4, (h3.dir.same.lineSt line).trans hst, ?_, ?_, ?_⟩
  · change e.mir.evicted ++ [line] = _
    rw [h3.evicted, ← h1.evicted, honly]
  · exact h3.dir.cat.trans ((by rw [honly] : c.coh.cat = a.coh.cat).trans h1.dir.cat)
  · exact h3.dir.ldg.trans ((by rw [honly] : c.ldg = a.ldg).trans h1.dir.ldg)

theorem mevict_spec (s : State) (h : MirHdr) :
    let ok := s.homesSelf h.line = true ∧ s.lineSt h.line = .dirty ∧ s.dataPending h.line = false
    MirNext s h →
    ∃ t, exec (.mevict h) s = .next t ∧ MirTaken s t h
      ∧ (¬ ok → t.stk = s.stk ∧ t.mir.evicted = s.mir.evicted)
      ∧ (ok → ∀ w : Nat, s.lookup h.line = some w → t.lineSt h.line = .clean ∧ t.mir.evicted = s.mir.evicted ++ [h.line])
      ∧ t.coh.cat = s.coh.cat
      ∧ t.ldg = s.ldg := by
  intro ok hnext
  have hbased := mirBased_mirBase s h
  have hev : (s.mirBase h).mir.evicted = s.mir.evicted := by rw [s.mirBase_mir]
  have hok : ((s.mirBase h).homesSelf h.line = true ∧ (s.mirBase h).lineSt h.line = .dirty ∧ (s.mirBase h).dataPending h.line = false) ↔ ok := by
    rw [hbased.homesSelf, hbased.lineSt, hbased.dataPending]
  have hmet : MirCalm (s.mirBase h) ((s.mirBase h).copyGone h.line) → ∃ t, exec (.mevict h) s = .next t ∧ MirTaken s t h
      ∧ MirTail ((s.mirBase h).copyGone h.line) t :=
    mirTaken_next (i := .mevict h) (m := ⟨4, h, none, none, none, 0, none⟩) rfl hnext (by simp) (by simp)
  by_cases hc : ok
  · obtain ⟨hh, hd, hp⟩ := hok.mpr hc
    cases hw : (s.mirBase h).lookup h.line with
    | none => exact absurd hd (by rw [State.lineSt_absent _ hw]; decide)
    | some w =>
      have hgone := gone_copyGone _ hh hd hp hw
      obtain ⟨t, hexec, htaken, hframe, hmir, _⟩ := hmet hgone.calm
      have hl : t.lineSt h.line = .clean := by
        have hsame : SameLookup ((s.mirBase h).copyGone h.line) t :=
          ⟨hframe.s64, by rw [hframe.stk], by rw [hframe.stk], by rw [hframe.stk], by rw [hframe.stk]⟩
        rw [hsame.lineSt]
        exact hgone.st
      refine ⟨t, hexec, htaken, fun hno => absurd hc hno, fun _ _ _ => ⟨hl, ?_⟩, ?_, ?_⟩
      · rw [hmir, ← hev]
        exact hgone.evicted
      · rw [hframe.coh, hgone.cat, hbased.coh]
      · rw [hframe.ldg, hgone.ldg, hbased.ldg]
  · have hno := State.copyGone_other _ (hok.not.mpr hc)
    rw [hno] at hmet
    obtain ⟨t, hexec, htaken, hframe, hmir, _⟩ := hmet (MirCalm.refl _)
    refine ⟨t, hexec, htaken, fun _ => ⟨hframe.stk.trans hbased.stk, ?_⟩, fun h => absurd h hc, ?_, ?_⟩
    · rw [hmir, ← hev]
    · rw [hframe.coh, hbased.coh]
    · rw [hframe.ldg, hbased.ldg]

end Sys2Proof.Machine
end

section
/-! O56: MWR (R339). -/

namespace Sys2Proof.Machine

variable (s : State)

/-! ### One way taken for a line -/

/-- The tag word of one way changes at most, of what a lookup reads. -/
structure WayChanged (s u : State) (set w : Nat) : Prop where
  s64 : u.s64 = s.s64
  halves : u.stk.halves = s.stk.halves
  lostLb : u.stk.lostLb = s.stk.lostLb
  walk : u.stk.walk = s.stk.walk
  ldg : u.ldg = s.ldg
  calm : MirCalm s u
  tags : ∀ k, k ≠ w → u.tag set k = s.tag set k

section
variable {s} {t u : State} {set w : Nat}

theorem WayChanged.trans (hst : WayChanged s t set w) (htu : WayChanged t u set w) : WayChanged s u set w :=
  ⟨htu.s64.trans hst.s64, htu.halves.trans hst.halves, htu.lostLb.trans hst.lostLb, htu.walk.trans hst.walk, htu.ldg.trans hst.ldg,
    hst.calm.trans htu.calm, fun k hk => (htu.tags k hk).trans (hst.tags k hk)⟩

theorem Unseen.wayChanged (h : Unseen s u) (set w : Nat) : WayChanged s u set w :=
  ⟨h.dir.same.s64, h.dir.same.halves, h.dir.same.lostLb, h.dir.same.walk, h.dir.ldg, h.calm, fun k _ => h.dir.same.tag set k⟩

theorem WayChanged.setWays (h : WayChanged s u set w) (n : Nat) : u.setWays n = s.setWays n :=
  SameLookup.setWays h.s64 h.halves h.lostLb h.walk n

end

theorem wayChanged_setTag (set w : Nat) (t : TagW) : WayChanged s (s.setTag set w t) set w :=
  ⟨rfl, rfl, rfl, rfl, rfl, calm_of rfl rfl rfl rfl rfl, fun k hk => (s.tag_setTag set w k t).trans (if_neg hk)⟩

theorem unseen_touch (set w : Nat) : Unseen s (s.touch set w) := by
  obtain ⟨r, hr⟩ := s.touch_ranks set w
  rw [hr]
  exact ⟨⟨⟨rfl, rfl, rfl, rfl, rfl⟩, rfl, rfl⟩, calm_of rfl rfl rfl rfl rfl, rfl⟩

theorem wayChanged_evictWay (set w : Nat) (why : FarWhy) : WayChanged s (s.evictWay set w why) set w :=
  (((unseen_evictLine s set w false why).trans (unseen_evictLine _ set w true why)).wayChanged set w).trans (wayChanged_setTag _ set w _)

/-- A line that takes no way changes nothing; one that takes a way changes that way alone. -/
theorem State.allocate_spec (line : LineAddr) (pf : Bool) : ((s.allocate line pf).1 = none ∧ (s.allocate line pf).2 = s)
    ∨ ∃ w, (s.allocate line pf).1 = some w ∧ WayChanged s (s.allocate line pf).2 (lineSet line) w := by
  unfold State.allocate
  extract_lets set
  split
  · rename_i w pin spill hch
    split
    · exact Or.inl ⟨rfl, rfl⟩
    · extract_lets u v x
      refine Or.inr ⟨w, rfl, ?_⟩
      have hu : Unseen s u := by
        change Unseen s (if spill then _ else s)
        split
        · exact (unseen_wr s (f := ALT_SPILL.COUNT) _ rfl (mirReads_ne (by decide) (by decide) (by decide) (by decide))).trans
            (unseen_event ..)
        · exact Unseen.refl s
      exact (hu.wayChanged set w).trans ((wayChanged_evictWay u set w .victim).trans
        ((wayChanged_setTag v set w _).trans ((unseen_touch x set w).wayChanged set w)))
  · exact Or.inl ⟨rfl, rfl⟩

/-! ### The copy takes its data -/

/-- The tag word of a copy that is written. -/
def copyTag (t : TagW) (h : MirHdr) : TagW := { t.put (lineBit h.line) (copySt h.st) h.psn with pin := h.pin }

theorem copyTag_st (t : TagW) (h : MirHdr) : (copyTag t h).st (lineBit h.line) = copySt h.st := by
  refine Eq.trans ?_ (t.st_put (lineBit h.line) (copySt h.st) h.psn)
  rfl

/-- A copy is written in its way. -/
def State.copyPut (s : State) (h : MirHdr) (d : LineData) (w : Nat) : State :=
  (s.setTag (lineSet h.line) w (copyTag (s.tag (lineSet h.line) w) h)).writeJob (lineSet h.line) w h.line d

theorem wayChanged_copyPut (h : MirHdr) (d : LineData) (w : Nat) : WayChanged s (s.copyPut h d w) (lineSet h.line) w :=
  (wayChanged_setTag s _ w _).trans ((unseen_writeJob ..).wayChanged _ w)

theorem State.tag_copyPut (h : MirHdr) (d : LineData) (w : Nat) :
    (s.copyPut h d w).tag (lineSet h.line) w = copyTag (s.tag (lineSet h.line) w) h := by
  rw [State.copyPut, (unseen_writeJob _ (lineSet h.line) w h.line d none).dir.same.tag, State.tag_setTag, if_pos rfl]

theorem State.lineData_copyPut {h : MirHdr} {w : Nat} (hs : s.serving (lineSet h.line) w ∈ s.writeBanks (lineSet h.line) w) (d : LineData) :
    (s.copyPut h d w).lineData (lineSet h.line) w (lineBit h.line) = d := by
  have hplaces : SamePlaces s (s.setTag (lineSet h.line) w (copyTag (s.tag (lineSet h.line) w) h)) := ⟨rfl, rfl, rfl, rfl⟩
  have hbanks := hplaces.writeBanks rfl (lineSet h.line) w
  have hserve := hplaces.serving (lineSet h.line) w
  rw [← hbanks, ← hserve] at hs
  exact State.lineData_putLine _ hs (lineBit h.line) d

theorem State.copyWrite_other {h : MirHdr} (hc : ¬ s.isCopy h.line = true) (d : LineData) : s.copyWrite h d = s := by
  rw [State.copyWrite, if_pos (by simpa using hc)]

theorem State.copyWrite_resident {h : MirHdr} {w : Nat} (hc : s.isCopy h.line = true) (hok : ∀ w, w < 32 → (s.tag (lineSet h.line) w).ecc = .ok)
    (hw : s.lookup h.line = some w) (d : LineData) : s.copyWrite h d = (s.touch (lineSet h.line) w).copyPut h d w := by
  unfold State.copyWrite
  rw [if_neg (by simp [hc])]
  dsimp only
  rw [s.readTags_sound hok, hw]
  rfl

/-- An absent copy that takes no way. -/
def State.copyLost (s : State) (h : MirHdr) : State :=
  if copySt h.st = .dirty && (s.carrelOf h.line).isNone then s.mirEvict h.line else s

theorem unseen_copyLost (h : MirHdr) : Unseen s (s.copyLost h) := by
  unfold State.copyLost
  split
  · exact unseen_mirEvict ..
  · exact Unseen.refl s

theorem State.copyWrite_absent {h : MirHdr} (hc : s.isCopy h.line = true) (hok : ∀ w, w < 32 → (s.tag (lineSet h.line) w).ecc = .ok)
    (hw : s.lookup h.line = none) (d : LineData) : s.copyWrite h d = s.copyLost h
      ∨ ∃ w u, WayChanged s u (lineSet h.line) w ∧ s.copyWrite h d = u.copyPut h d w := by
  have hform : s.copyWrite h d = match (s.allocate h.line).1 with
      | some w => (s.allocate h.line).2.copyPut h d w
      | none => (s.allocate h.line).2.copyLost h := by
    unfold State.copyWrite
    rw [if_neg (by simp [hc])]
    dsimp only
    rw [s.readTags_sound hok, hw]
    rfl
  rcases s.allocate_spec h.line false with ⟨hnone, hsame⟩ | ⟨w, hsome, hway⟩
  · rw [hnone, hsame] at hform
    exact Or.inl hform
  · rw [hsome] at hform
    exact Or.inr ⟨w, _, hway, hform⟩

/-- A line that is found in a way that changed is found nowhere else. -/
theorem WayChanged.found {s u : State} {line : LineAddr} {w w' : Nat} (h : WayChanged s u (lineSet line) w) (hs : s.lookup line = none)
    (hu : u.lookup line = some w') : w' = w := by
  by_contra hne
  have hmem := List.mem_of_find?_eq_some hu
  rw [h.setWays] at hmem
  have hno := List.find?_eq_none.mp hs w' hmem
  have hyes := List.find?_some hu
  rw [h.tags w' hne] at hyes
  exact hno hyes

/-! ### MWR -/

/-- What MWR leaves of the memory and the Ledger. -/
structure CopyWritten (s u : State) (h : MirHdr) (d : LineData) : Prop where
  calm : MirCalm s u
  ldg : u.ldg = s.ldg
  other : ¬ s.isCopy h.line = true → u.stk = s.stk
  tag : s.isCopy h.line = true → ∀ w : Nat, s.lookup h.line = some w → u.tag (lineSet h.line) w = copyTag (s.tag (lineSet h.line) w) h
  data : s.isCopy h.line = true → ∀ w : Nat, s.lookup h.line = some w → s.serving (lineSet h.line) w ∈ s.writeBanks (lineSet h.line) w →
    u.lineData (lineSet h.line) w (lineBit h.line) = d
  absent : s.isCopy h.line = true → s.lookup h.line = none → ∀ w : Nat, u.lookup h.line = some w →
    (u.tag (lineSet h.line) w).st (lineBit h.line) = copySt h.st ∧ (u.tag (lineSet h.line) w).pin = h.pin

theorem copyWritten_copyWrite {h : MirHdr} (hok : ∀ w, w < 32 → (s.tag (lineSet h.line) w).ecc = .ok) (d : LineData) :
    CopyWritten s (s.copyWrite h d) h d := by
  by_cases hc : s.isCopy h.line = true
  · cases hw : s.lookup h.line with
    | some w =>
      rw [s.copyWrite_resident hc hok hw]
      have htouch := unseen_touch s (lineSet h.line) w
      have hput := wayChanged_copyPut (s.touch (lineSet h.line) w) h d w
      refine ⟨htouch.calm.trans hput.calm, hput.ldg.trans htouch.dir.ldg, fun h => absurd hc h, fun _ w' hw' => ?_, fun _ w' hw' hs => ?_,
        fun _ h => absurd (hw.symm.trans h) (by simp)⟩
      · obtain rfl := Option.some_inj.mp (hw.symm.trans hw')
        rw [State.tag_copyPut, htouch.dir.same.tag]
      · obtain rfl := Option.some_inj.mp (hw.symm.trans hw')
        refine State.lineData_copyPut _ ?_ d
        obtain ⟨r, hr⟩ := s.touch_ranks (lineSet h.line) w
        rw [hr]
        exact hs
    | none =>
      rcases s.copyWrite_absent hc hok hw d with hform | ⟨w, u, hway, hform⟩
      · have hlost := unseen_copyLost s h
        rw [hform]
        exact ⟨hlost.calm, hlost.dir.ldg, fun h => absurd hc h, fun _ w' hw' => absurd (hw.symm.trans hw') (by simp),
          fun _ w' hw' => absurd (hw.symm.trans hw') (by simp), fun _ _ w' hw' => absurd (((hlost.dir.same.lookup _).trans hw).symm.trans hw') (by simp)⟩
      · have hput := hway.trans (wayChanged_copyPut u h d w)
        rw [hform]
        refine ⟨hput.calm, hput.ldg, fun h => absurd hc h, fun _ w' hw' => absurd (hw.symm.trans hw') (by simp),
          fun _ w' hw' => absurd (hw.symm.trans hw') (by simp), fun _ _ w' hw' => ?_⟩
        rw [hput.found hw hw', State.tag_copyPut]
        exact ⟨copyTag_st _ h, rfl⟩
  · rw [s.copyWrite_other hc]
    exact ⟨MirCalm.refl s, rfl, fun _ => rfl, fun h => absurd h hc, fun h => absurd h hc, fun h => absurd h hc⟩

theorem mwr_spec (s : State) (h : MirHdr) (d : LineData) :
    let set := lineSet h.line
    let bit := lineBit h.line
    let cp := s.isCopy h.line = true
    MirNext s h →
    WordsOk s h.line →
    ∃ t, exec (.mwr h d) s = .next t ∧ MirTaken s t h
      ∧ (¬ cp → t.stk = s.stk)
      ∧ (cp → ∀ w : Nat, s.lookup h.line = some w → t.tag set w = { (s.tag set w).put bit (copySt h.st) h.psn with pin := h.pin })
      ∧ (cp → ∀ w : Nat, s.lookup h.line = some w → s.serving set w ∈ s.writeBanks set w → t.lineData set w bit = d)
      ∧ (cp → s.lookup h.line = none → ∀ w : Nat, t.lookup h.line = some w → (t.tag set w).st bit = copySt h.st ∧ (t.tag set w).pin =
        h.pin)
      ∧ t.ldg = s.ldg := by
  intro set bit cp hnext hwords
  have hbased := mirBased_mirBase s h
  have hwritten := copyWritten_copyWrite (s.mirBase h) (h := h) (fun w hw => by rw [hbased.tag]; exact hwords.1 w hw) d
  obtain ⟨t, hexec, htaken, ⟨h64, hstk, _, hldg, _, _⟩, _, _⟩ :=
    mirTaken_next (i := .mwr h d) (m := ⟨0, h, some d, none, none, 0, none⟩) rfl hnext (by simp) (by simp) hwritten.calm
  have heff : (s.mirBase h).mirEffect ⟨0, h, some d, none, none, 0, none⟩ = (s.mirBase h).copyWrite h d := rfl
  rw [heff] at h64 hstk hldg
  have hsame : SameLookup ((s.mirBase h).copyWrite h d) t := ⟨h64, by rw [hstk], by rw [hstk], by rw [hstk], by rw [hstk]⟩
  have hplaces : SamePlaces s (s.mirBase h) := ⟨hbased.s64, by rw [hbased.stk], by rw [hbased.stk], by rw [hbased.stk]⟩
  have hplaces' : SamePlaces ((s.mirBase h).copyWrite h d) t := ⟨h64, by rw [hstk], by rw [hstk], by rw [hstk]⟩
  have hbanks := hplaces.writeBanks (hbased.word _ (by decide) rfl)
  have hcp : (s.mirBase h).isCopy h.line = s.isCopy h.line := hbased.isCopy h.line
  refine ⟨t, hexec, htaken, fun hc => ?_, fun hc w hw => ?_, fun hc w hw hs => ?_, fun hc hw w hw' => ?_, ?_⟩
  · rw [hstk, hwritten.other (by rw [hcp]; exact hc), hbased.stk]
  · rw [hsame.tag, hwritten.tag (hcp.trans hc) w ((hbased.lookup _).trans hw), hbased.tag]
    rfl
  · rw [hplaces'.lineData (by rw [hstk])]
    refine hwritten.data (hcp.trans hc) w ((hbased.lookup _).trans hw) ?_
    rw [hplaces.serving, hbanks]
    exact hs
  · rw [hsame.tag]
    exact hwritten.absent (hcp.trans hc) ((hbased.lookup _).trans hw) w ((hsame.lookup _).symm.trans hw')
  · rw [hldg, hwritten.ldg, hbased.ldg]

end Sys2Proof.Machine
end

section
/-! O56: MLDG and MROW (R342). -/

namespace Sys2Proof.Machine

/-! ### The binding that a message names -/

section
variable {s b : State}

theorem MirBased.bindField (h : MirBased s b) {f : Field} (hf : (0xC100 ≤ f.off ∧ f.off < 0xC110 ∧ f.stride = 16) ∨ (f.off = 0x26100 ∧ f.stride = 4))
    {n : Nat} (hn : n < 32) : b.rdI f n = s.rdI f n := by
  refine State.rdI_congr f n (h.word _ ?_ ?_)
  · simp only
    rcases hf with ⟨h1, h2, h3⟩ | ⟨h1, h2⟩
    · rw [h3]
      omega
    · rw [h1, h2]
      omega
  · simp only [pmuBlock, Bool.and_eq_false_imp, decide_eq_true_eq, decide_eq_false_iff_not]
    rcases hf with ⟨h1, h2, h3⟩ | ⟨h1, h2⟩
    · rw [h3]
      omega
    · rw [h1, h2]
      omega

theorem MirBased.bindFlag (h : MirBased s b) {f : Field} (hf : (0xC100 ≤ f.off ∧ f.off < 0xC110 ∧ f.stride = 16) ∨ (f.off = 0x26100 ∧ f.stride = 4))
    {n : Nat} (hn : n < 32) : b.flagI f n = s.flagI f n := by rw [State.flagI, State.flagI, h.bindField hf hn]

theorem MirBased.copyBind (h : MirBased s b) (n : Nat) : b.copyBind n = s.copyBind n := by
  unfold State.copyBind
  refine List.find?_congr (fun k hk => ?_)
  have hk32 := List.mem_range.mp hk
  rw [State.bindOk, State.bindOk, h.bindFlag (Or.inl (by decide)) hk32, h.bindFlag (Or.inr (by decide)) hk32,
    h.bindField (Or.inr (by decide)) hk32]

theorem State.copyBind_lt {n k : Nat} (h : s.copyBind n = some k) : k < 32 := List.mem_range.mp (List.mem_of_find?_eq_some h)

theorem MirBased.rowRef (h : MirBased s b) {n : Nat} (hn : n < 32) (g : BitVec 44) (e : Nat) : b.rowRef n g e = s.rowRef n g e := by
  have hf {f : Field} (hf : 0xC100 ≤ f.off ∧ f.off < 0xC110 ∧ f.stride = 16) : b.rdI f n = s.rdI f n := h.bindField (Or.inl hf) hn
  have hg : b.bindGroup n = s.bindGroup n := by rw [State.bindGroup, State.bindGroup, hf (by decide), hf (by decide)]
  have hmap : b.bindMap n = s.bindMap n := by
    rw [State.bindMap, State.bindMap, State.bindCopy, State.bindCopy, h.bindFlag (Or.inr (by decide)) hn, h.shown _ (by decide) rfl,
      h.shown _ (by decide) rfl, h.shown _ (by decide) rfl, h.shown _ (by decide) rfl]
  have hk : b.bindK n g = s.bindK n g := by rw [State.bindK, State.bindK, State.bindHomes, State.bindHomes, hmap]
  rw [State.rowRef, State.rowRef, hg, hk, State.flagI, State.flagI, State.flagI, State.flagI, hf (by decide), hf (by decide), hf (by decide),
    hf (by decide), hf (by decide)]

theorem MirBased.lineRows (h : MirBased s b) {n : Nat} (hn : n < 32) (line : LineAddr) : b.lineRows n line = s.lineRows n line := by
  rw [State.lineRows, State.lineRows, h.bindField (Or.inl (by decide)) hn]
  simp only [h.rowRef hn]

theorem MirBased.jobRows (h : MirBased s b) {n : Nat} (hn : n < 32) (line : LineAddr) (o : LedgerOp) :
    b.jobRows line o n = s.jobRows line o n := by
  rw [State.jobRows, State.jobRows, h.lineRows hn, h.bindField (Or.inl (by decide)) hn]

theorem MirBased.ldgFieldBad (h : MirBased s b) {n : Nat} (hn : n < 32) (o : LedgerOp) : b.ldgFieldBad o (some n) = s.ldgFieldBad o (some n) := by
  rw [State.ldgFieldBad, State.ldgFieldBad, h.bindField (Or.inl (by decide)) hn, h.bindFlag (Or.inl (by decide)) hn,
    h.bindFlag (Or.inl (by decide)) hn]

end

/-! ### What a step on a row changes -/

variable (s : State)

/-- The Ledger, its counts and the fault log change at most. -/
structure RowStep (s u : State) : Prop where
  calm : MirCalm s u
  stk : u.stk = s.stk
  coh : u.coh = s.coh

theorem RowStep.refl : RowStep s s := ⟨MirCalm.refl s, rfl, rfl⟩

theorem RowStep.trans {s t u : State} (hst : RowStep s t) (htu : RowStep t u) : RowStep s u :=
  ⟨hst.calm.trans htu.calm, htu.stk.trans hst.stk, htu.coh.trans hst.coh⟩

theorem rowStep_foldl {α : Type} {g : State → α → State} (h : ∀ u a, RowStep u (g u a)) (l : List α) (s : State) : RowStep s (l.foldl g s) := by
  induction l generalizing s with
  | nil => exact RowStep.refl s
  | cons a l ih => exact (h s a).trans (ih _)

theorem rowStep_ldg (l : Ledger) : RowStep s { s with ldg := l } := ⟨calm_of rfl rfl rfl rfl rfl, rfl, rfl⟩

theorem rowStep_setRowSt (f : RowRef) (g : RowSt → RowSt) : RowStep s (s.setRowSt f g) := rowStep_ldg s _

theorem rowStep_setRowImg (p : Nat) (r : RowImage) : RowStep s (s.setRowImg p r) := rowStep_ldg s _

theorem rowStep_wroteCells (p : Nat) (cells : List Nat) : RowStep s (s.wroteCells p cells) := by
  unfold State.wroteCells
  split
  · exact RowStep.refl s
  · exact rowStep_ldg s _

theorem rowStep_bump {f : Field} (n : Nat) (hf : f.stride = 0) (h : ∀ k, mirReads k → k ≠ f.off) : RowStep s (s.bump f n) :=
  ⟨calm_wr s _ hf h, rfl, rfl⟩

theorem rowStep_fault {cls : Nat} (hc : cls < 16) (code sev detail : Nat) (loc : Option LineAddr) (status kind src : Nat) (irq : Bool) :
    RowStep s (s.fault cls code sev detail loc status kind src irq) :=
  ⟨calm_fault s hc .., by rw [State.fault_eq], by rw [State.fault_eq]⟩

theorem rowStep_readCells (f : RowRef) (p : Nat) (line : LineAddr) (cells : List Nat) : RowStep s (s.readCells f p line cells) := by
  unfold State.readCells
  split
  · exact RowStep.refl s
  · refine rowStep_foldl (fun u x => ?_) _ s
    split
    · exact RowStep.refl u
    · exact (rowStep_ldg u _).trans (rowStep_bump _ (f := LDG_ECC_CE.COUNT) 1 rfl
        (mirReads_ne (by decide) (by decide) (by decide) (by decide)))
    · exact ((rowStep_setRowSt u f _).trans (rowStep_bump _ (f := LDG_ECC_UE.COUNT) 1 rfl
        (mirReads_ne (by decide) (by decide) (by decide) (by decide)))).trans (rowStep_fault _ (by decide) ..)

theorem rowStep_ovfFault (p : Nat) (line : LineAddr) (before : RowImage) (cell : Nat) : RowStep s (s.ovfFault p line before cell) := by
  unfold State.ovfFault
  split
  · exact RowStep.refl s
  · exact rowStep_fault s (by decide) ..

theorem rowStep_clearRow (p : Nat) (fast : Bool) : RowStep s (s.clearRow p fast) :=
  (rowStep_setRowImg s p _).trans (rowStep_wroteCells _ p _)

theorem rowStep_clearTile (f : RowRef) (epoch : Word) (seed : Option (BitVec 64)) : RowStep s (s.clearTile f epoch seed) := by
  unfold State.clearTile
  extract_lets u v
  have hu : RowStep s u := rowStep_clearRow ..
  have hv : RowStep u v := by
    change RowStep u (if f.shadow then _ else u)
    split
    · exact rowStep_clearRow ..
    · exact RowStep.refl u
  exact (hu.trans hv).trans (rowStep_setRowSt ..)

theorem rowStep_addRow (o : LedgerOp) (nums : List Num) (f : RowRef) (p : Nat) (line : LineAddr) : RowStep s (s.addRow o nums f p line).1 := by
  unfold State.addRow
  extract_lets cells u old new v
  have hv : RowStep s v := (rowStep_readCells s f p line _).trans ((rowStep_setRowImg u p new).trans (rowStep_wroteCells ..))
  split
  · exact hv.trans (rowStep_ovfFault ..)
  · exact hv

theorem rowStep_mergeRow (image : RowImage) (f : RowRef) (p : Nat) (line : LineAddr) : RowStep s (s.mergeRow image f p line).1 := by
  unfold State.mergeRow
  extract_lets u old new v
  have hv : RowStep s v := (rowStep_readCells s f p line _).trans ((rowStep_setRowImg u p new).trans (rowStep_wroteCells ..))
  split
  · exact hv.trans (rowStep_ovfFault ..)
  · exact hv

theorem rowStep_copyRow (h : MirHdr) (p : MirLedger) (f : RowRef) : RowStep s (s.copyRow h p f) := by
  unfold State.copyRow
  extract_lets r
  split
  · split
    · exact rowStep_setRowSt ..
    · exact rowStep_addRow ..
  · split
    · exact rowStep_setRowSt ..
    · exact rowStep_addRow ..
  · exact (rowStep_mergeRow ..).trans (rowStep_setRowSt ..)
  · exact (rowStep_setRowSt s f _).trans (rowStep_clearRow ..)
  · exact rowStep_clearTile ..
  · exact RowStep.refl s
  · exact RowStep.refl s

theorem rowStep_copyLedger (h : MirHdr) (p : MirLedger) : RowStep s (s.copyLedger h p) := by
  unfold State.copyLedger
  split
  · split
    · exact RowStep.refl s
    · exact rowStep_foldl (fun u f => rowStep_copyRow u h p f) _ s
  · exact RowStep.refl s

theorem rowStep_copyImage (h : MirHdr) (p : MirRow) : RowStep s (s.copyImage h p) := by
  unfold State.copyImage
  split
  · exact RowStep.refl s
  · split
    · exact RowStep.refl s
    · rename_i f _
      extract_lets u v
      have hu : RowStep s u := (rowStep_setRowImg s _ _).trans (rowStep_wroteCells ..)
      have hv : RowStep u v := by
        change RowStep u (if f.shadow then _ else u)
        split
        · exact (rowStep_setRowImg u _ _).trans (rowStep_wroteCells ..)
        · exact RowStep.refl u
      exact (hu.trans hv).trans (rowStep_setRowSt ..)

/-! ### What a row holds after a step -/

theorem State.rowSt_setRowSt (f : RowRef) (g : RowSt → RowSt) : (s.setRowSt f g).rowSt f = g (s.rowSt f) := by
  rw [State.rowSt, State.setRowSt]
  exact tget_tput_same ..

theorem State.wroteCells_rows (p : Nat) (cells : List Nat) :
    (s.wroteCells p cells).ldg.rows = s.ldg.rows ∧ (s.wroteCells p cells).ldg.st = s.ldg.st := by
  unfold State.wroteCells
  split <;> exact ⟨rfl, rfl⟩

theorem State.rowImg_wroteCells (p q : Nat) (cells : List Nat) : (s.wroteCells p cells).rowImg q = s.rowImg q := by
  rw [State.rowImg, State.rowImg, (s.wroteCells_rows p cells).1]

theorem State.rowSt_wroteCells (p : Nat) (cells : List Nat) (f : RowRef) : (s.wroteCells p cells).rowSt f = s.rowSt f := by
  rw [State.rowSt, State.rowSt, (s.wroteCells_rows p cells).2]

theorem State.rowImg_setRowImg (p q : Nat) (r : RowImage) : (s.setRowImg p r).rowImg q = if q = p then r else s.rowImg q :=
  tget_tput ..

theorem State.rowSt_setRowImg (p : Nat) (r : RowImage) (f : RowRef) : (s.setRowImg p r).rowSt f = s.rowSt f := rfl

/-! ### MLDG -/

theorem State.copyRow_poisoned {h : MirHdr} {p : MirLedger} {f : RowRef} (hk : p.op.kind = .lacc ∨ p.op.kind = .laccS) (hp : h.psn = true) :
    s.copyRow h p f = s.setRowSt f (fun t => { t with psn := true }) := by
  unfold State.copyRow
  rcases hk with hk | hk
  · rw [hk]
    exact if_pos hp
  · rw [hk]
    exact if_pos hp

theorem State.copyRow_drain {h : MirHdr} {p : MirLedger} {f : RowRef} (hk : p.op.kind = .ldrain) :
    s.copyRow h p f = (s.setRowSt f (fun t => { t.d1 f.shadow p.op.epoch (seedOf p.op) with draining := false })).clearRow (f.half p.odd) f.fast := by
  unfold State.copyRow
  rw [hk]

theorem State.copyRow_merge {h : MirHdr} {p : MirLedger} {f : RowRef} (hk : p.op.kind = .lmerge) :
    s.copyRow h p f = ((s.mergeRow p.op.image f (f.half p.odd) h.line).1).setRowSt f (fun t => { t with
      psn := t.psn || h.psn, tokl := t.tokl || decide (s.halfRow f true = f.half p.odd),
      toks := t.toks || !(decide (s.halfRow f true = f.half p.odd)) }) := by
  unfold State.copyRow
  rw [hk]

theorem State.copyRow_still {h : MirHdr} {p : MirLedger} {f : RowRef} (hk : p.op.kind = .lsnap ∨ p.op.kind = .reserved) : s.copyRow h p f = s := by
  unfold State.copyRow
  rcases hk with hk | hk <;> rw [hk]

/-- What a copy row takes of the partner's operation. -/
structure RowCopied (s u : State) (h : MirHdr) (p : MirLedger) (f : RowRef) : Prop where
  poisoned : p.op.kind = .lacc ∨ p.op.kind = .laccS → h.psn = true → u.rowSt f = { s.rowSt f with psn := true } ∧ u.ldg.rows = s.ldg.rows
  drained : p.op.kind = .ldrain → u.rowSt f = { (s.rowSt f).d1 f.shadow p.op.epoch (seedOf p.op) with draining := false }
    ∧ u.rowImg (f.half p.odd) = rowEmpty f.fast
  merged : p.op.kind = .lmerge → (h.psn = true → (u.rowSt f).psn = true)
    ∧ (if s.halfRow f true = f.half p.odd then (u.rowSt f).tokl = true else (u.rowSt f).toks = true)

theorem rowCopied_copyRow (h : MirHdr) (p : MirLedger) (f : RowRef) : RowCopied s (s.copyRow h p f) h p f := by
  refine ⟨fun hk hp => ?_, fun hk => ?_, fun hk => ?_⟩
  · rw [s.copyRow_poisoned hk hp, State.rowSt_setRowSt]
    exact ⟨rfl, rfl⟩
  · rw [s.copyRow_drain hk, State.clearRow, State.rowSt_wroteCells, State.rowImg_wroteCells, State.rowImg_setRowImg, if_pos rfl,
      State.rowSt_setRowImg, State.rowSt_setRowSt]
    exact ⟨rfl, rfl⟩
  · rw [s.copyRow_merge hk, State.rowSt_setRowSt]
    refine ⟨fun hp => ?_, ?_⟩
    · simp only [hp, Bool.or_true]
    · split
      · rename_i heq
        simp only [heq, decide_true, Bool.or_true]
      · rename_i hne
        simp only [hne, decide_false, Bool.not_false, Bool.or_true]

theorem State.copyLedger_still {h : MirHdr} {p : MirLedger} (hno : s.copyBind h.arg.toNat = none
    ∨ s.ldgFieldBad p.op (s.copyBind h.arg.toNat) = true ∨ p.op.kind = .lsnap ∨ p.op.kind = .reserved) : s.copyLedger h p = s := by
  unfold State.copyLedger
  split
  · rename_i n hn
    split
    · rfl
    · rename_i hbad
      rw [hn] at hno
      rcases hno with hno | hno | hno
      · exact absurd hno (by simp)
      · exact absurd hno hbad
      · exact foldl_fixed (fun f _ => s.copyRow_still hno)
  · rfl

theorem State.copyLedger_one {h : MirHdr} {p : MirLedger} {n : Nat} {f : RowRef} (hn : s.copyBind h.arg.toNat = some n)
    (hbad : s.ldgFieldBad p.op (some n) = false) (hrows : s.jobRows h.line p.op n = [f]) : s.copyLedger h p = s.copyRow h p f := by
  unfold State.copyLedger
  rw [hn]
  dsimp only
  rw [hbad, hrows]
  rfl

theorem mldg_spec (s : State) (h : MirHdr) (p : MirLedger) :
    let k := p.op.kind
    let b := s.copyBind h.arg.toNat
    MirNext s h →
    ∃ t, exec (.mldg h p) s = .next t ∧ MirTaken s t h
      ∧ (b = none ∨ s.ldgFieldBad p.op b = true ∨ k = .lsnap ∨ k = .reserved → t.ldg = s.ldg)
      ∧ (s.ldgFieldBad p.op b = false → ∀ n : Nat, b = some n → ∀ f : RowRef, (s.jobRows h.line p.op n).head? = some f → (s.jobRows
        h.line p.op n).length = 1 → (k = .lacc ∨ k = .laccS → h.psn = true → t.rowSt f = { s.rowSt f with psn := true } ∧ t.ldg.rows =
        s.ldg.rows) ∧ (k = .ldrain → t.rowSt f = { (s.rowSt f).d1 f.shadow p.op.epoch (seedOf p.op) with draining := false } ∧ t.rowImg
        (f.half p.odd) = rowEmpty f.fast) ∧ (k = .lmerge → (h.psn = true → (t.rowSt f).psn = true) ∧ (if s.halfRow f true = f.half p.odd
        then (t.rowSt f).tokl = true else (t.rowSt f).toks = true)))
      ∧ t.stk = s.stk
      ∧ t.coh = s.coh := by
  intro k b hnext
  have hbased := mirBased_mirBase s h
  have hbind : (s.mirBase h).copyBind h.arg.toNat = b := hbased.copyBind _
  have hstep := rowStep_copyLedger (s.mirBase h) h p
  obtain ⟨t, hexec, htaken, ⟨_, hstk, hcoh, hldg, _, _⟩, _, _⟩ :=
    mirTaken_next (i := .mldg h p) (m := ⟨5, h, none, some p, none, 0, none⟩) rfl hnext (by simp) (by simp) hstep.calm
  have heff : (s.mirBase h).mirEffect ⟨5, h, none, some p, none, 0, none⟩ = (s.mirBase h).copyLedger h p := rfl
  rw [heff] at hstk hcoh hldg
  refine ⟨t, hexec, htaken, fun hno => ?_, fun hbad n hn f hf hlen => ?_, hstk.trans (hstep.stk.trans hbased.stk),
    hcoh.trans (hstep.coh.trans hbased.coh)⟩
  · have hfield : b = none ∨ (s.mirBase h).ldgFieldBad p.op b = true ∨ k = .lsnap ∨ k = .reserved := by
      rcases hno with hno | hno | hno
      · exact Or.inl hno
      · cases hb : b with
        | none => exact Or.inl rfl
        | some n =>
          rw [hb] at hno
          exact Or.inr (Or.inl ((hbased.ldgFieldBad (s.copyBind_lt hb) p.op).trans hno))
      · exact Or.inr (Or.inr hno)
    rw [hldg, State.copyLedger_still _ (by rw [hbind]; exact hfield), hbased.ldg]
  · have hlt : n < 32 := s.copyBind_lt hn
    have hrows : (s.mirBase h).jobRows h.line p.op n = [f] := by
      rw [hbased.jobRows hlt]
      obtain ⟨x, hx⟩ := List.length_eq_one_iff.mp hlen
      rw [hx] at hf ⊢
      rw [Option.some_inj.mp hf]
    have hone := (s.mirBase h).copyLedger_one (h := h) (p := p) (hbind.trans hn)
      ((hbased.ldgFieldBad hlt p.op).trans (by rw [← hn]; exact hbad)) hrows
    rw [hone] at hldg
    obtain ⟨h1, h2, h3⟩ := rowCopied_copyRow (s.mirBase h) h p f
    have hst : t.rowSt f = ((s.mirBase h).copyRow h p f).rowSt f := by rw [State.rowSt, State.rowSt, hldg]
    have hst0 : (s.mirBase h).rowSt f = s.rowSt f := by rw [State.rowSt, State.rowSt, hbased.ldg]
    have himg : t.rowImg (f.half p.odd) = ((s.mirBase h).copyRow h p f).rowImg (f.half p.odd) := by rw [State.rowImg, State.rowImg, hldg]
    have hhalf : (s.mirBase h).halfRow f true = s.halfRow f true := by rw [State.halfRow, State.halfRow, hst0]
    rw [hst, himg, hldg]
    rw [hst0, hbased.ldg] at h1
    rw [hst0] at h2
    rw [hhalf] at h3
    exact ⟨h1, h2, h3⟩

/-! ### MROW -/

/-- A copy row takes the halves of an image. -/
def State.imagePut (s : State) (f : RowRef) (p : MirRow) : State :=
  let s := (s.setRowImg f.base p.even).wroteCells f.base (List.range 32)
  if f.shadow then (s.setRowImg (f.base + 1) p.odd).wroteCells (f.base + 1) (List.range 32) else s

theorem State.rowImg_imagePut (f : RowRef) (p : MirRow) : (s.imagePut f p).rowImg f.base = p.even
    ∧ (f.shadow = true → (s.imagePut f p).rowImg (f.base + 1) = p.odd) := by
  unfold State.imagePut
  dsimp only
  cases f.shadow with
  | false =>
    refine ⟨?_, fun h => absurd h (by decide)⟩
    rw [if_neg (by decide), State.rowImg_wroteCells, State.rowImg_setRowImg, if_pos rfl]
  | true =>
    refine ⟨?_, fun _ => ?_⟩
    · rw [if_pos rfl, State.rowImg_wroteCells, State.rowImg_setRowImg, if_neg (by omega), State.rowImg_wroteCells, State.rowImg_setRowImg,
        if_pos rfl]
    · rw [if_pos rfl, State.rowImg_wroteCells, State.rowImg_setRowImg, if_pos rfl]

theorem State.copyImage_none {h : MirHdr} (hb : s.copyBind (h.arg.toNat % 2 ^ 8) = none) (p : MirRow) : s.copyImage h p = s := by
  unfold State.copyImage
  rw [hb]

theorem State.copyImage_some {h : MirHdr} {n : Nat} {f : RowRef} (hb : s.copyBind (h.arg.toNat % 2 ^ 8) = some n)
    (hf : (s.lineRows n h.line)[h.arg.toNat / 2 ^ 8 % 4]? = some f) (p : MirRow) :
    s.copyImage h p = (s.imagePut f p).setRowSt f (fun _ => ⟨p.cur, p.live, false, p.psn, p.seed, false, false⟩) := by
  unfold State.copyImage
  rw [hb]
  dsimp only
  rw [hf]
  rfl

theorem mrow_spec (s : State) (h : MirHdr) (p : MirRow) :
    let b := s.copyBind (h.arg.toNat % 2 ^ 8)
    MirNext s h →
    ∃ t, exec (.mrow h p) s = .next t ∧ MirTaken s t h
      ∧ (b = none → t.ldg = s.ldg)
      ∧ (∀ n : Nat, b = some n → ∀ f : RowRef, (s.lineRows n h.line)[h.arg.toNat / 2 ^ 8 % 4]? = some f → t.rowImg f.base = p.even ∧
        (f.shadow = true → t.rowImg (f.base + 1) = p.odd) ∧ t.rowSt f = ⟨p.cur, p.live, false, p.psn, p.seed, false, false⟩)
      ∧ t.stk = s.stk
      ∧ t.coh = s.coh := by
  intro b hnext
  have hbased := mirBased_mirBase s h
  have hbind : (s.mirBase h).copyBind (h.arg.toNat % 2 ^ 8) = b := hbased.copyBind _
  have hstep := rowStep_copyImage (s.mirBase h) h p
  obtain ⟨t, hexec, htaken, ⟨_, hstk, hcoh, hldg, _, _⟩, _, _⟩ :=
    mirTaken_next (i := .mrow h p) (m := ⟨6, h, none, none, some p, 0, none⟩) rfl hnext (by simp) (by simp) hstep.calm
  have heff : (s.mirBase h).mirEffect ⟨6, h, none, none, some p, 0, none⟩ = (s.mirBase h).copyImage h p := rfl
  rw [heff] at hstk hcoh hldg
  refine ⟨t, hexec, htaken, fun hno => ?_, fun n hn f hf => ?_, hstk.trans (hstep.stk.trans hbased.stk),
    hcoh.trans (hstep.coh.trans hbased.coh)⟩
  · rw [hldg, State.copyImage_none _ (hbind.trans hno), hbased.ldg]
  · rw [State.copyImage_some _ (hbind.trans hn) (by rw [hbased.lineRows (s.copyBind_lt hn)]; exact hf)] at hldg
    obtain ⟨heven, hodd⟩ := (s.mirBase h).rowImg_imagePut f p
    have himg (q : Nat) : t.rowImg q = ((s.mirBase h).imagePut f p).rowImg q := by rw [State.rowImg, hldg]; rfl
    have hst : t.rowSt f = ⟨p.cur, p.live, false, p.psn, p.seed, false, false⟩ := by
      rw [State.rowSt, hldg, ← State.rowSt, State.rowSt_setRowSt]
    rw [himg, himg]
    exact ⟨heven, hodd, hst⟩

end Sys2Proof.Machine
end

section
/-! O56: MSCALE, MPWR, messages out of their sequence, and messages that are not taken (R42, R316, R340). -/

namespace Sys2Proof.Machine

variable (s : State)

/-! ### Frames -/

/-- At most registers and the mirror unit change. -/
structure OnlyMirRegs (s u : State) : Prop where
  only : u = { s with regs := u.regs, mir := u.mir }

theorem OnlyMirRegs.trans {s t u : State} (hst : OnlyMirRegs s t) (htu : OnlyMirRegs t u) : OnlyMirRegs s u :=
  ⟨by rw [htu.only, hst.only]⟩

theorem OnlyRegFile.onlyMirRegs {s u : State} (h : OnlyRegFile s u) : OnlyMirRegs s u := by
  unfold OnlyRegFile at h
  exact ⟨by rw [h]⟩

theorem onlyMirRegs_mir (m : Mir) : OnlyMirRegs s { s with mir := m } := ⟨rfl⟩

theorem OnlyMirRegs.onlyRegs {s u : State} (h : OnlyMirRegs s.begin u) : OnlyRegs { s with mir := u.settle.mir } u.settle := by
  have hform := h.only
  generalize u.regs = R, u.mir = M at hform
  subst hform
  apply onlyRegs_settle <;> simp

theorem OnlyMirRegs.out {s u : State} (h : OnlyMirRegs s.begin u) : u.settle.out = [] := by
  rw [State.settle_out, h.only]
  exact s.begin_out

theorem OnlyMirRegs.holds {s u : State} (h : OnlyMirRegs s u) : HoldsNoMore s u := holds_of (by rw [h.only])

/-! ### MSCALE -/

theorem onlyMirRegs_linkShown : OnlyMirRegs s s.linkShown := (onlyRegFile_linkShown s).onlyMirRegs

theorem onlyMirRegs_mirBase (h : MirHdr) : OnlyMirRegs s.begin (s.mirBase h) :=
  (onlyMirRegs_linkShown s.begin).trans (onlyMirRegs_mir _ _)

/-- An update of the scale table joins the queue. -/
def State.scaleJoined (s : State) (h : MirHdr) (p : BitVec 128) : State := { s with mir := { s.mir with scaleQ := s.mir.scaleQ ++ [(h, p)] } }

theorem State.word_mirBase (h : MirHdr) {k : Nat} (hk : k ≠ MIR_STATUS.word.off) (hp : pmuBlock k = false) : (s.mirBase h).word k = s.word k :=
  (mirBased_mirBase s h).word k hk hp

theorem mscale_spec (s : State) (h : MirHdr) (p : BitVec 128) :
    let full := 16 ≤ s.mir.scaleQ.length
    MirNext s h →
    ∃ t, exec (.mscale h p) s = .next t ∧ (full → t.mir = { s.mir with waiting := [⟨7, h, none, none, none, p, none⟩] } ∧ t.out = [])
      ∧ (¬ full → t.mir = { s.mir with scaleQ := s.mir.scaleQ ++ [(h, p)], rxSeq := t.mir.rxSeq } ∧ t.mirExpect h.lane.toNat = h.seq + 1
        ∧ TabBut 0 [h.lane.toNat] s.mir.rxSeq t.mir.rxSeq ∧ t.out = [])
      ∧ OnlyRegs { s with mir := t.mir } t
      ∧ RegsBut [MIR_STATUS.word.off, MIR_RX.word.off, MIR_LAST_TS_LO.word.off, MIR_LAST_TS_HI.word.off] s t := by
  intro full hnext
  have hi : mirOf (.mscale h p) = some ⟨7, h, none, none, none, p, none⟩ := rfl
  have harr := State.mirArrive_next (m := ⟨7, h, none, none, none, p, none⟩) hnext (by simp)
  by_cases hf : full
  · rw [if_pos ⟨rfl, hf⟩] at harr
    have honly : OnlyMirRegs s.begin (s.begin.mirArrive ⟨7, h, none, none, none, p, none⟩) := by
      rw [harr]
      exact (onlyMirRegs_linkShown s.begin).trans (onlyMirRegs_mir _ _)
    refine ⟨_, exec_mirReady hi hnext.1 honly.holds, fun _ => ⟨?_, honly.out⟩, fun h => absurd hf h, honly.onlyRegs, fun k hk hp => ?_⟩
    · rw [State.settle_mir, harr]
    · rw [harr]
      exact (mirBased_linkShown s).word k (fun h => hk (List.mem_cons.mpr (Or.inl h))) hp
  · rw [if_neg (fun h => hf h.2), if_pos rfl] at harr
    have heff : (s.mirBase h).mirEffect ⟨7, h, none, none, none, p, none⟩ = (s.mirBase h).scaleJoined h p := rfl
    rw [heff] at harr
    have honly : OnlyMirRegs s.begin (s.begin.mirArrive ⟨7, h, none, none, none, p, none⟩) := by
      rw [harr]
      exact (onlyMirRegs_mirBase s h).trans ((onlyMirRegs_mir _ _).trans (onlyRegFile_mirApplied ((s.mirBase h).scaleJoined h p)).onlyMirRegs)
    have hmir : (s.begin.mirArrive ⟨7, h, none, none, none, p, none⟩).mir
        = { s.mir with scaleQ := s.mir.scaleQ ++ [(h, p)], rxSeq := tput 0 s.mir.rxSeq h.lane.toNat (h.seq + 1) } := by
      rw [harr, State.mirApplied_mir, State.scaleJoined, s.mirBase_mir, ← hnext.2.2.1]
    refine ⟨_, exec_mirReady hi hnext.1 honly.holds, fun h => absurd h hf, fun _ => ⟨?_, ?_, ?_, honly.out⟩, honly.onlyRegs, fun k hk hp => ?_⟩
    · rw [State.settle_mir, hmir]
    · rw [State.mirExpect, State.settle_mir, hmir, tget_tput_same]
    · rw [State.settle_mir, hmir]
      intro k hk
      exact (tget_tput_other _ _ _ _ (fun h => hk (List.mem_singleton.mpr h))).symm
    · simp only [List.mem_cons, List.not_mem_nil, or_false, not_or] at hk
      obtain ⟨h0, h1, h2, h3⟩ := hk
      rw [harr]
      exact (State.word_mirApplied ((s.mirBase h).scaleJoined h p) h1 h2 h3).trans (s.word_mirBase h h0 hp)

/-! ### Messages that are not next, and messages that are not taken -/

/-- A message that takes a SEQ. -/
theorem mirOf_sequenced {i : Instr} {h : MirHdr} {d : LineData} {p : MirLedger} {row : MirRow} {x : BitVec 128}
    (hi : i = .mwr h d ∨ i = .mclean h ∨ i = .mdead h ∨ i = .minv h ∨ i = .mevict h ∨ i = .mldg h p ∨ i = .mrow h row ∨ i = .mscale h x ∨
      i = .mpwr h) : ∃ m, mirOf i = some m ∧ m.h = h ∧ m.typ < 9 := by
  rcases hi with rfl | rfl | rfl | rfl | rfl | rfl | rfl | rfl | rfl <;> exact ⟨_, rfl, rfl, by simp⟩

theorem mirLate_spec (s : State) (i : Instr) (h : MirHdr) (d : LineData) (p : MirLedger) (row : MirRow) (x : BitVec 128)
    (hi : i = .mwr h d ∨ i = .mclean h ∨ i = .mdead h ∨ i = .minv h ∨ i = .mevict h ∨ i = .mldg h p ∨ i = .mrow h row ∨ i = .mscale h x ∨ i =
      .mpwr h) :
    let older := 2 ^ 15 ≤ (h.seq - s.mirExpect h.lane.toNat).toNat
    MirReady s →
    h.seq ≠ s.mirExpect h.lane.toNat →
    s.mir.waiting = [] →
    ∃ t, exec i s = .next t ∧ (s.mirTakes = false ∨ older → t.mir = s.mir)
      ∧ (s.mirTakes = true → ¬ older → t.mir = { s.mir with waiting := t.mir.waiting } ∧ t.mir.waiting.map (fun y => y.h) = [h])
      ∧ t.out = []
      ∧ OnlyRegs { s with mir := t.mir } t
      ∧ RegsBut [MIR_STATUS.word.off] s t := by
  intro older hready hseq hwait
  obtain ⟨m, hm, hmh, htyp⟩ := mirOf_sequenced hi
  have harr : s.begin.mirArrive m = s.begin.linkShown.mirSorted m := State.mirArrive_ready hready.begin m
  have hbased := mirBased_linkShown s
  have honly := onlyMirRegs_linkShown s.begin
  have hmir : s.begin.linkShown.mir = s.mir := (State.linkShown_mir _).trans s.begin_mir
  have htakes : s.begin.linkShown.mirTakes = s.mirTakes := (State.mirTakes_linkShown _).trans s.begin_mirTakes
  generalize s.begin.linkShown = b at *
  have hexp : b.mirExpect m.h.lane.toNat = s.mirExpect h.lane.toNat := by rw [State.mirExpect, hmir, hmh, State.mirExpect]
  rw [State.mirSorted, if_neg (by omega), if_neg (by omega), htakes, hexp, hmh] at harr
  have hsame : s.mirTakes = false ∨ older → s.begin.mirArrive m = b := fun hno => by
    rw [harr]
    by_cases ht : s.mirTakes = true
    · rw [if_neg (by simp [ht]), if_pos (hno.resolve_left (by simp [ht]))]
    · rw [if_pos (by simp [ht]), if_neg (by omega)]
  have hahead : s.mirTakes = true → ¬ older → s.begin.mirArrive m = b.mirWaits m := fun ht hno => by
    rw [harr, if_neg (by simp [ht]), if_neg hno, hmir, hwait]
    have hfind : (b.mirWaits m).mir.waiting.find? (fun x => x.h.lane.toNat = h.lane.toNat && x.h.seq = (b.mirWaits m).mirExpect h.lane.toNat)
        = none := by
      have hx : (b.mirWaits m).mirExpect h.lane.toNat = s.mirExpect h.lane.toNat := by rw [← hexp, hmh]; rfl
      have hall : (b.mirWaits m).mir.waiting = [m] := by
        rw [State.mirWaits, hmir, hwait]
        rfl
      rw [hall, hx]
      simp [hmh, hseq]
    change (b.mirWaits m).mirPump h.lane.toNat 1 = _
    rw [State.mirPump, hfind]
  by_cases hcase : s.mirTakes = false ∨ older
  · have hb := hsame hcase
    rw [← hb] at honly hmir hbased
    refine ⟨_, exec_mirReady hm hready honly.holds, fun _ => ?_, fun ht hno => absurd hcase (by simp [ht, hno]), honly.out, honly.onlyRegs,
      fun k hk hp => ?_⟩
    · rw [State.settle_mir, hmir]
    · exact hbased.word k (fun h => hk (List.mem_singleton.mpr h)) hp
  · obtain ⟨ht, hno⟩ := not_or.mp hcase
    have hb := hahead (by simpa using ht) hno
    have hw : OnlyMirRegs s.begin (s.begin.mirArrive m) := by
      rw [hb]
      exact honly.trans (onlyMirRegs_mir _ _)
    refine ⟨_, exec_mirReady hm hready hw.holds, fun h => absurd h hcase, fun _ _ => ?_, hw.out, hw.onlyRegs, fun k hk hp => ?_⟩
    · rw [State.settle_mir, hb, State.mirWaits, hmir, hwait]
      exact ⟨rfl, by simp [hmh]⟩
    · rw [hb]
      exact hbased.word k (fun h => hk (List.mem_singleton.mpr h)) hp

theorem mirShutOut_spec (s : State) (i : Instr) (h : MirHdr) (d : LineData) (p : MirLedger) (row : MirRow) (x : BitVec 128)
    (hi : i = .mwr h d ∨ i = .mclean h ∨ i = .mdead h ∨ i = .minv h ∨ i = .mevict h ∨ i = .mldg h p ∨ i = .mrow h row ∨ i = .mscale h x ∨ i =
      .mpwr h ∨ i = .mchk h ∨ i = .mack h) :
    Uninjected s 6 ∧ Uninjected s 7 →
    s.front.failed = true ∨ s.dark = true ∨ s.flag MIR_CTL.PAIR_EN = false →
    ∃ t, exec i s = .next t ∧ Untouched s t := by
  rintro ⟨h6, h7⟩ hno
  obtain ⟨m, hm⟩ : ∃ m, mirOf i = some m := by
    rcases hi with rfl | rfl | rfl | rfl | rfl | rfl | rfl | rfl | rfl | rfl | rfl <;> exact ⟨_, rfl⟩
  have harr : s.begin.mirArrive m = s.begin := by
    rw [State.mirArrive_eq, if_pos]
    rw [Bool.or_eq_true, Bool.or_eq_true, Bool.not_eq_true', State.begin_front, State.begin_dark, s.begin_flag rfl, or_assoc]
    exact hno
  have hu6 := s.begin_uninjected (by decide) h6
  have hu7 := s.begin_uninjected (by decide) h7
  refine ⟨_, exec_mirror hm s, ?_⟩
  rw [State.mirIn_of_uninjected hm hu6 (fun _ => hu7) (by rw [harr]; exact HoldsNoMore.refl _), harr]
  exact untouched_begin s

end Sys2Proof.Machine
end

section
/-! O56: MPWR, a power command of the partner (R316). -/

namespace Sys2Proof.Machine

variable (s : State)

theorem OnlyPwr.calm {s u : State} (h : OnlyPwr s u) : MirCalm s u := by
  have honly := h.only
  refine calm_words (by rw [honly]) (by rw [honly]) (by rw [honly]) (fun k hk => h.word k ?_)
  rcases mirReads_cases hk with rfl | rfl | rfl | rfl <;> decide

/-- The partner is not told of its own command. -/
theorem State.pwrTell_partner {c : PwrCmd} (h : c.by' = .partner) : s.pwrTell c = s := by
  have hof : c.ofPartner = true := by rw [PwrCmd.ofPartner, h]
  rw [State.pwrTell, hof]
  simp

theorem onlyPwr_pwrStart_partner {c : PwrCmd} (h : c.by' = .partner) : OnlyPwr s (s.pwrStart c) := by
  have htaken : OnlyPwr s (s.pwrTaken c) := onlyPwr_withPwr ..
  rw [State.pwrStart_eq]
  split
  · split <;> exact htaken.trans (onlyPwr_pwrGo ..)
  · split
    · exact htaken.trans (onlyPwr_pwrGo ..)
    · rw [State.pwrTell_partner _ h]
      exact htaken.trans (onlyPwr_pwrGo ..)

theorem onlyPwr_pwrCommand_partner {c : PwrCmd} (h : c.by' = .partner) : OnlyPwr s (s.pwrCommand c) := by
  rcases Option.eq_none_or_eq_some s.pwr.run with hr | ⟨r, hr⟩
  · rw [s.pwrCommand_idle hr]
    split
    · exact onlyPwr_pwrAnswer ..
    · split
      · exact onlyPwr_pwrStart_partner s h
      · exact (onlyPwr_pwrStart_partner (c := { c with told := true }) s h).trans (onlyPwr_pwrAnswer ..)
  · rw [s.pwrCommand_running hr]
    split
    · exact onlyPwr_pwrAnswer ..
    · split <;> exact (onlyPwr_pwrPend ..).trans (onlyPwr_pwrAnswer ..)

theorem State.pwrAnswer_partner {c : PwrCmd} (h : c.by' = .partner) (a b : Nat) : s.pwrAnswer c a b = s.pwrShow a b := by
  rw [State.pwrAnswer, h]

theorem MirBased.pwrRefusal {s b : State} (h : MirBased s b) (c : PwrCmd) : b.pwrRefusal c = s.pwrRefusal c := by
  rw [State.pwrRefusal, State.pwrRefusal, State.pwrNow, State.pwrNow, State.pairFull, State.pairFull, State.online, State.online,
    h.shown SLC_START.STATE (by decide) rfl, h.shown PWR_STATUS.STATE (by decide) rfl, h.shown MIR_STATUS.STATE (by decide) rfl,
    h.shown WIN_CTL.ACTIVE (by decide) rfl]

/-- A power command of the partner while no transition runs. -/
structure PartnerMet (s u : State) (c : PwrCmd) : Prop where
  refused : ∀ r : Nat, s.pwrRefusal c = some r → u.pwr = s.pwr ∧ u.rd PWR_STATUS.LAST_STATUS = stRefused ∧ u.rd PWR_STATUS.REASON = r
  taken : s.pwrRefusal c = none → u.pwr.run = some { c with told := decide (c.target ≠ 1) }
    ∧ (2 ≤ c.target → u.rd PWR_STATUS.STATE = (if c.target = 3 then 8 else 6) ∧ u.rd PWR_STATUS.PHASE = 1)

theorem partnerMet_pwrCommand {c : PwrCmd} (h : c.by' = .partner) (hc : c.told = false) (hr : s.pwr.run = none) :
    PartnerMet s (s.pwrCommand c) c where
  refused r hno := by
    obtain ⟨hst, hre⟩ := s.pwrShow_shown (status := stRefused) (by decide) (s.pwrRefusal_lt hno)
    rw [s.pwrCommand_idle hr, hno]
    dsimp only
    rw [s.pwrAnswer_partner h]
    exact ⟨s.pwrShow_pwr _ _, hst, hre⟩
  taken hno := by
    rw [s.pwrCommand_idle hr, hno]
    dsimp only
    by_cases h1 : c.target = 1
    · rw [if_pos h1, State.pwrStart_pwr]
      refine ⟨?_, fun h2 => absurd h2 (by omega)⟩
      obtain ⟨target, pair, src, told⟩ := c
      obtain rfl : told = false := hc
      obtain rfl : target = 1 := h1
      rfl
    · obtain ⟨hst, hph⟩ := s.pwrStart_shown { c with told := true }
      rw [if_neg h1, State.pwrAnswer_partner _ h, State.pwrShow_pwr, State.pwrStart_pwr,
        State.rd_pwrShow_apart _ _ _ (by decide) (by decide), State.rd_pwrShow_apart _ _ _ (by decide) (by decide), hst, hph]
      dsimp only
      rw [if_neg h1, if_neg h1]
      refine ⟨by simp [h1], fun h2 => ?_⟩
      have h0 : ¬ c.target = 0 := by omega
      rw [if_neg h0, if_neg h0]
      exact ⟨rfl, rfl⟩

theorem mpwr_spec (s : State) (h : MirHdr) :
    let c : PwrCmd := ⟨h.arg.toNat % 4, true, .partner, false⟩
    MirNext s h →
    ∃ t, exec (.mpwr h) s = .next t ∧ MirTaken s t h
      ∧ (s.pwr.run = none → ∀ r : Nat, s.pwrRefusal c = some r → t.pwr = s.pwr ∧ t.rd PWR_STATUS.LAST_STATUS = stRefused ∧ t.rd
        PWR_STATUS.REASON = r)
      ∧ (s.pwr.run = none → s.pwrRefusal c = none → t.pwr.run = some { c with told := decide (c.target ≠ 1) } ∧ (2 ≤ c.target → t.rd
        PWR_STATUS.STATE = (if c.target = 3 then 8 else 6) ∧ t.rd PWR_STATUS.PHASE = 1))
      ∧ t.stk = s.stk
      ∧ t.coh = s.coh := by
  intro c hnext
  have hbased := mirBased_mirBase s h
  have honly := onlyPwr_pwrCommand_partner (s.mirBase h) (c := c) rfl
  obtain ⟨t, hexec, htaken, ⟨_, hstk, hcoh, _, hpwr, _⟩, _, hword⟩ :=
    mirTaken_next (i := .mpwr h) (m := ⟨8, h, none, none, none, 0, none⟩) rfl hnext (by simp) (by simp) honly.calm
  have heff : (s.mirBase h).mirEffect ⟨8, h, none, none, none, 0, none⟩ = (s.mirBase h).pwrCommand c := rfl
  rw [heff] at hstk hcoh hpwr hword
  have hshown : ∀ f : Field, f.off = PWR_STATUS.word.off → f.stride = 0 → t.rd f = ((s.mirBase h).pwrCommand c).rd f := fun f hf h0 =>
    State.rdI_congr f 0 (hword _ (by rw [hf, h0]; decide) (by rw [hf, h0]; rfl))
  have hmet : s.pwr.run = none → PartnerMet (s.mirBase h) ((s.mirBase h).pwrCommand c) c := fun hr =>
    partnerMet_pwrCommand _ rfl rfl (by rw [hbased.pwr]; exact hr)
  refine ⟨t, hexec, htaken, fun hr r hno => ?_, fun hr hno => ?_, ?_, ?_⟩
  · obtain ⟨h1, h2, h3⟩ := (hmet hr).refused r ((hbased.pwrRefusal c).trans hno)
    rw [hpwr, hshown PWR_STATUS.LAST_STATUS rfl rfl, hshown PWR_STATUS.REASON rfl rfl]
    exact ⟨h1.trans hbased.pwr, h2, h3⟩
  · rw [hpwr, hshown PWR_STATUS.STATE rfl rfl, hshown PWR_STATUS.PHASE rfl rfl]
    exact (hmet hr).taken ((hbased.pwrRefusal c).trans hno)
  · rw [hstk, honly.only]
    exact hbased.stk
  · rw [hcoh, honly.only]
    exact hbased.coh

end Sys2Proof.Machine
end

section
/-! SUPPORT, O56: what acknowledgements, the re-pairing walk and the end of a pair leave (R341, R344, R350). -/

namespace Sys2Proof.Machine

variable (s : State)

/-! ### Writes that wait for the partner -/

/-- Every pending write was pending, and one that did not wait for the partner does not. -/
structure WritesFall (s u : State) : Prop where
  falls : ∀ y ∈ u.ord.writes, ∃ x ∈ s.ord.writes, x.id = y.id ∧ (x.mir = false → y.mir = false)

theorem writesFall_of {s u : State} (h : u.ord.writes = s.ord.writes) : WritesFall s u := ⟨fun y hy => ⟨y, by rw [← h]; exact hy, rfl, fun h => h⟩⟩

theorem WritesFall.trans {s t u : State} (hst : WritesFall s t) (htu : WritesFall t u) : WritesFall s u := ⟨fun y hy => by
  obtain ⟨x, hx, hid, hm⟩ := htu.falls y hy
  obtain ⟨z, hz, hid', hm'⟩ := hst.falls x hx
  exact ⟨z, hz, hid'.trans hid, fun h => hm (hm' h)⟩⟩

/-- No write of an identity waits for the partner. -/
def State.writeFree (s : State) (n : Nat) : Prop := ∀ y ∈ s.ord.writes, y.id = n → y.mir = false

theorem WritesFall.free {s u : State} (h : WritesFall s u) {n : Nat} (hs : s.writeFree n) : u.writeFree n := fun y hy hn => by
  obtain ⟨x, hx, hid, hm⟩ := h.falls y hy
  exact hm (hs x hx (hid.trans hn))

/-- A write of an identity stops waiting for the partner. -/
def State.unwait (s : State) (id : Nat) : State := s.setWrite id (fun w => { w with mir := false })

theorem writesFall_unwait (id : Nat) : WritesFall s (s.unwait id) := ⟨fun y hy => by
  obtain ⟨x, hx, rfl⟩ := List.mem_map.mp hy
  refine ⟨x, hx, ?_, fun h => ?_⟩
  · split <;> rfl
  · split
    · rfl
    · exact h⟩

theorem State.writeFree_unwait (id : Nat) : (s.unwait id).writeFree id := fun y hy hn => by
  obtain ⟨x, _, rfl⟩ := List.mem_map.mp hy
  by_cases h : x.id = id
  · rw [if_pos h]
  · rw [if_neg h] at hn
    exact absurd hn h

/-! ### The mirror unit's side -/

/-- The memory, the Ledger and the partner's state stay, and the listed registers; no write begins to wait for the partner. -/
structure MirSide (l : List Nat) (s u : State) : Prop where
  stk : u.stk = s.stk
  ldg : u.ldg = s.ldg
  peer : u.mir.peer = s.mir.peer
  word : ∀ k ∈ l, u.word k = s.word k
  falls : WritesFall s u

section
variable {s} {t u : State} {l : List Nat}

theorem MirSide.refl : MirSide l s s := ⟨rfl, rfl, rfl, fun _ _ => rfl, writesFall_of rfl⟩

theorem MirSide.trans (hst : MirSide l s t) (htu : MirSide l t u) : MirSide l s u :=
  ⟨htu.stk.trans hst.stk, htu.ldg.trans hst.ldg, htu.peer.trans hst.peer, fun k hk => (htu.word k hk).trans (hst.word k hk),
    hst.falls.trans htu.falls⟩

theorem MirSide.mono {l' : List Nat} (h : MirSide l s u) (hl : ∀ k ∈ l', k ∈ l) : MirSide l' s u :=
  ⟨h.stk, h.ldg, h.peer, fun k hk => h.word k (hl k hk), h.falls⟩

theorem OnlyRegFile.mirSide (h : OnlyRegFile s u) (hw : ∀ k ∈ l, u.word k = s.word k) : MirSide l s u := by
  unfold OnlyRegFile at h
  exact ⟨by rw [h], by rw [h], by rw [h], hw, writesFall_of (by rw [h])⟩

end

/-- The registers that show the pair, its control, the partner's map and the count of messages. -/
def mirShown : List Nat := [MIR_STATUS.word.off, MIR_CTL.word.off, MIR_PEER_MAP.word.off, MIR_RX.word.off]

theorem mirShown_sent : ∀ k ∈ mirShown, k ∉ MIR_TX.word.off :: linkRegs ∧ pmuBlock k = false := by decide

/-- Answers: the mirror unit stays too. -/
structure AckKept (s u : State) : Prop where
  side : MirSide mirShown s u
  mir : u.mir = s.mir

theorem AckKept.trans {s t u : State} (hst : AckKept s t) (htu : AckKept t u) : AckKept s u := ⟨hst.side.trans htu.side, htu.mir.trans hst.mir⟩

theorem Sent.ackKept {s u : State} (h : Sent s u) : AckKept s u := by
  obtain ⟨honly, hword⟩ := h
  unfold OnlyLinks at honly
  exact ⟨⟨by rw [honly], by rw [honly], by rw [honly],
    fun k hk => hword k (fun h => (mirShown_sent k hk).1 (List.mem_cons_of_mem _ h)) (mirShown_sent k hk).2, writesFall_of (by rw [honly])⟩, by rw [honly]⟩

theorem sendRel_ackKept : SendRel AckKept := sendRel_of_sent AckKept.trans Sent.ackKept

theorem ackKept_reply (m : Msg) : AckKept s (s.reply m) :=
  sendRel_ackKept.reply s (fun _ _ => ⟨⟨rfl, rfl, rfl, fun _ _ => rfl, writesFall_of rfl⟩, rfl⟩) m

theorem ackKept_wr {f : Field} (v : Nat) (hf : f.off = LDG_ROW_DRAIN.word.off) : AckKept s (s.wr f v) :=
  ⟨(onlyRegFile_wr s f v).mirSide (fun k hk => (State.word_wr ..).trans (if_neg (by
    rintro rfl
    rw [hf] at hk
    exact absurd hk (by decide)))), rfl⟩

theorem ackKept_drainAnswer (reg : Bool) (m : Msg) : AckKept s (s.drainAnswer reg m) := by
  unfold State.drainAnswer
  split
  · exact (ackKept_wr s (f := LDG_ROW_DRAIN.LAST_STATUS) _ rfl).trans (ackKept_wr _ (f := LDG_ROW_DRAIN.GO) _ rfl)
  · exact ackKept_reply ..

theorem ackKept_ackOne (w : PendW) : AckKept s (s.ackOne w) := by
  unfold State.ackOne
  split
  · exact (sent_event ..).ackKept.trans (ackKept_drainAnswer ..)
  · split
    · exact sendRel_ackKept.refl s
    · exact ackKept_reply ..

theorem ackKept_fenceCheck : AckKept s s.fenceCheck := by
  unfold State.fenceCheck
  extract_lets done _ u
  have hu : AckKept s u := ⟨⟨rfl, rfl, rfl, fun _ _ => rfl, writesFall_of rfl⟩, rfl⟩
  exact hu.trans (sendRel_ackKept.foldl (fun v w => ackKept_reply v (fenceDoneMsg w)) _ _)

theorem ackKept_ackCheck : AckKept s s.ackCheck := by
  unfold State.ackCheck
  extract_lets done _ u
  have hu : AckKept s u := ⟨⟨rfl, rfl, rfl, fun _ _ => rfl, ⟨fun y hy => ⟨y, (List.mem_filter.mp hy).1, rfl, fun h => h⟩⟩⟩, rfl⟩
  exact hu.trans ((sendRel_ackKept.foldl (fun v w => ackKept_ackOne v w) _ _).trans (ackKept_fenceCheck _))

theorem ackKept_mirRelease : AckKept s s.mirRelease := by
  have hu : AckKept s { s with ord := { s.ord with writes := s.ord.writes.map (fun (w : PendW) => { w with mir := false }) } } :=
    ⟨⟨rfl, rfl, rfl, fun _ _ => rfl, ⟨fun y hy => by
      obtain ⟨x, hx, rfl⟩ := List.mem_map.mp hy
      exact ⟨x, hx, rfl, fun _ => rfl⟩⟩⟩, rfl⟩
  exact hu.trans (ackKept_ackCheck _)

/-! ### Received messages that are held -/

theorem holds_regs {s u : State} (h : OnlyRegFile s u) : HoldsNoMore s u := by
  unfold OnlyRegFile at h
  exact holds_of (by rw [h])

theorem holds_foldl {α : Type} {g : State → α → State} (h : ∀ u a, HoldsNoMore u (g u a)) (l : List α) (s : State) : HoldsNoMore s (l.foldl g s) := by
  induction l generalizing s with
  | nil => exact HoldsNoMore.refl s
  | cons a l ih => exact (h s a).trans (ih _)

theorem holds_drainAnswer (reg : Bool) (m : Msg) : HoldsNoMore s (s.drainAnswer reg m) := by
  unfold State.drainAnswer
  split
  · exact holds_regs ((onlyRegFile_wr s _ _).trans (onlyRegFile_wr _ _ _))
  · exact holds_reply ..

theorem holds_ackOne (w : PendW) : HoldsNoMore s (s.ackOne w) := by
  unfold State.ackOne
  split
  · exact (holds_event ..).trans (holds_drainAnswer ..)
  · split
    · exact HoldsNoMore.refl s
    · exact holds_reply ..

theorem holds_fenceCheck : HoldsNoMore s s.fenceCheck := by
  unfold State.fenceCheck
  extract_lets done _ u
  have hu : HoldsNoMore s u := holds_of rfl
  exact hu.trans (holds_foldl (fun v w => holds_reply v (fenceDoneMsg w)) _ _)

theorem holds_ackCheck : HoldsNoMore s s.ackCheck := by
  unfold State.ackCheck
  extract_lets done _ u
  have hu : HoldsNoMore s u := holds_of rfl
  exact hu.trans ((holds_foldl (fun v w => holds_ackOne v w) _ _).trans (holds_fenceCheck _))

theorem holds_mirRelease : HoldsNoMore s s.mirRelease :=
  HoldsNoMore.trans (t := { s with ord := { s.ord with writes := s.ord.writes.map (fun (w : PendW) => { w with mir := false }) } })
    (holds_of rfl) (holds_ackCheck _)

/-! ### The end of a pair -/

/-- The registers and the mirror unit as a pair ends. -/
def State.singled (s : State) (cause : Nat) : State :=
  let s := if s.rd MIR_STATUS.STATE = 2 then s.wr MIR_STATUS.CAUSE cause else s
  let s := ((s.wr MIR_STATUS.STATE 3).setFlag MIR_STATUS.UNMIRRORED true).setFlag MIR_CTL.REPAIR false
  let s := s.setFlag MIR_CTL.SPLIT false
  { s with mir := { s.mir with
    queue := [], unacked := [], used := [], waiting := [], scaleQ := [], scales := 0, sentAll := false, evicted := [], noCopy := [] } }

/-- The registers that show the pair's cause. -/
def State.singledRegs (s : State) (cause : Nat) : State :=
  let s := if s.rd MIR_STATUS.STATE = 2 then s.wr MIR_STATUS.CAUSE cause else s
  (((s.wr MIR_STATUS.STATE 3).setFlag MIR_STATUS.UNMIRRORED true).setFlag MIR_CTL.REPAIR false).setFlag MIR_CTL.SPLIT false

theorem onlyRegFile_singledRegs (cause : Nat) : OnlyRegFile s (s.singledRegs cause) := by
  unfold State.singledRegs
  extract_lets u
  have hu : OnlyRegFile s u := by
    change OnlyRegFile s (if _ then _ else s)
    split
    · exact onlyRegFile_wr ..
    · rfl
  exact (((hu.trans (onlyRegFile_wr u _ _)).trans (onlyRegFile_wr _ _ _)).trans (onlyRegFile_wr _ _ _)).trans (onlyRegFile_wr _ _ _)

/-- The mirror unit of a single slice. -/
def Mir.single (m : Mir) : Mir :=
  { m with queue := [], unacked := [], used := [], waiting := [], scaleQ := [], scales := 0, sentAll := false, evicted := [], noCopy := [] }

theorem State.singled_eq (cause : Nat) : s.singled cause = { s.singledRegs cause with mir := s.mir.single } := by
  have h := onlyRegFile_singledRegs s cause
  have hmir : (s.singledRegs cause).mir = s.mir := by
    unfold OnlyRegFile at h
    rw [h]
  rw [← hmir]
  rfl

theorem State.word_singledRegs (cause : Nat) {k : Nat} (h1 : k ≠ MIR_STATUS.word.off) (h2 : k ≠ MIR_CTL.word.off) :
    (s.singledRegs cause).word k = s.word k := by
  have hcause : (if s.rd MIR_STATUS.STATE = 2 then s.wr MIR_STATUS.CAUSE cause else s).word k = s.word k := by
    split
    · exact (State.word_wr ..).trans (if_neg h1)
    · rfl
  unfold State.singledRegs
  simp only [State.setFlag]
  rw [State.word_wr, if_neg h2, State.word_wr, if_neg h2, State.word_wr, if_neg h1, State.word_wr, if_neg h1, hcause]

theorem State.singledRegs_shown {cause : Nat} (hc : cause < 16) : (s.singledRegs cause).rd MIR_STATUS.STATE = 3
    ∧ (s.singledRegs cause).flag MIR_STATUS.UNMIRRORED = true
    ∧ (s.rd MIR_STATUS.STATE = 2 → (s.singledRegs cause).rd MIR_STATUS.CAUSE = cause) := by
  unfold State.singledRegs
  extract_lets u
  refine ⟨?_, ?_, fun h => ?_⟩
  · rw [State.rd_setFlag_apart _ _ (by decide), State.rd_setFlag_apart _ _ (by decide), State.rd_setFlag_apart _ _ (by decide),
      State.rd_wr_same _ _ _ (by decide)]
    rfl
  · rw [State.flag_eq, State.rd_setFlag_apart _ _ (by decide), State.rd_setFlag_apart _ _ (by decide), State.rd_setFlag_same _ _ _ (by decide) rfl]
    rfl
  · have hu : u = s.wr MIR_STATUS.CAUSE cause := if_pos h
    rw [State.rd_setFlag_apart _ _ (by decide), State.rd_setFlag_apart _ _ (by decide), State.rd_setFlag_apart _ _ (by decide),
      State.rd_wr_apart _ _ (by decide), hu, State.rd_wr_same _ _ _ (by decide)]
    exact Nat.mod_eq_of_lt hc

/-- A slice that has become single. -/
structure Singled (s u : State) (cause : Nat) : Prop where
  side : MirSide [MIR_PEER_MAP.word.off, MIR_RX.word.off] s u
  holds : HoldsNoMore s u
  mir : u.mir = s.mir.single
  state : u.rd MIR_STATUS.STATE = 3
  unmirrored : u.flag MIR_STATUS.UNMIRRORED = true
  cause : s.rd MIR_STATUS.STATE = 2 → u.rd MIR_STATUS.CAUSE = cause

theorem singled_mirSingle {cause : Nat} (hc : cause < 16) : Singled s (s.mirSingle cause) cause := by
  obtain ⟨h1, h2, h3⟩ := s.singledRegs_shown hc
  have hregs := onlyRegFile_singledRegs s cause
  have hside : MirSide [MIR_PEER_MAP.word.off, MIR_RX.word.off] s (s.singledRegs cause) :=
    hregs.mirSide (fun k hk => s.word_singledRegs cause (by rintro rfl; exact absurd hk (by decide)) (by rintro rfl; exact absurd hk (by decide)))
  have hm : MirSide [MIR_PEER_MAP.word.off, MIR_RX.word.off] (s.singledRegs cause) (s.singled cause) := by
    rw [State.singled_eq]
    refine ⟨rfl, rfl, ?_, fun _ _ => rfl, writesFall_of rfl⟩
    exact hside.peer.symm
  have hrel := ackKept_mirRelease (s.singled cause)
  have hrd (f : Field) (hf : f.off = MIR_STATUS.word.off) (h0 : f.stride = 0) : (s.mirSingle cause).rd f = (s.singledRegs cause).rd f := by
    refine (State.rdI_congr f 0 (hrel.side.word _ (by rw [hf, h0]; decide))).trans ?_
    rw [State.singled_eq]
    rfl
  refine ⟨(hside.trans hm).trans (hrel.side.mono (by decide)), ?_, hrel.mir.trans (by rw [State.singled_eq]), ?_, ?_, fun h => ?_⟩
  · refine HoldsNoMore.trans (t := s.singled cause) ?_ (holds_mirRelease _)
    rw [State.singled_eq]
    exact (holds_regs hregs).trans (holds_of rfl)
  · rw [hrd MIR_STATUS.STATE rfl rfl, h1]
  · rw [State.flag_eq, hrd MIR_STATUS.UNMIRRORED rfl rfl, ← State.flag_eq, h2]
  · rw [hrd MIR_STATUS.CAUSE rfl rfl, h3 h]

end Sys2Proof.Machine
end

section
/-! O56: MCHK, the partner's map and state (R343, R347, R350). -/

namespace Sys2Proof.Machine

variable (s : State)

/-! ### The re-pairing walk -/

/-- A step of the re-pairing walk. -/
structure WalkStep (s u : State) : Prop where
  side : MirSide mirShown s u
  holds : HoldsNoMore s u

theorem WalkStep.refl : WalkStep s s := ⟨MirSide.refl, HoldsNoMore.refl s⟩

theorem WalkStep.trans {s t u : State} (hst : WalkStep s t) (htu : WalkStep t u) : WalkStep s u :=
  ⟨hst.side.trans htu.side, hst.holds.trans htu.holds⟩

theorem walkStep_foldl {α : Type} {g : State → α → State} (h : ∀ u a, WalkStep u (g u a)) (l : List α) (s : State) : WalkStep s (l.foldl g s) := by
  induction l generalizing s with
  | nil => exact WalkStep.refl s
  | cons a l ih => exact (h s a).trans (ih _)

theorem walkStep_sent {s u : State} (h : SentMir s u) (hm : MirSentOnly s u) (hh : HoldsNoMore s u) : WalkStep s u := by
  obtain ⟨honly, hword⟩ := h
  unfold OnlyLinks at honly
  exact ⟨⟨by rw [honly], by rw [honly], by rw [hm.mir], fun k hk => hword k (mirShown_sent k hk).1 (mirShown_sent k hk).2,
    writesFall_of (by rw [honly])⟩, hh⟩

theorem walkStep_mirSend (m : MirMsg) : WalkStep s (s.mirSend m) := walkStep_sent (sentMir_mirSend s m) (mirSentOnly_mirSend s m) (holds_mirSend s m)

theorem walkStep_mir {m : Mir} (h : m.peer = s.mir.peer) : WalkStep s { s with mir := m } :=
  ⟨⟨rfl, rfl, h, fun _ _ => rfl, writesFall_of rfl⟩, holds_of rfl⟩

theorem walkStep_mirWrite (line : LineAddr) (d : LineData) (dirty psn : Bool) : WalkStep s (s.mirWrite line d dirty psn) := by
  unfold State.mirWrite
  split
  · exact (walkStep_mir (m := { s.mir with noCopy := s.mir.noCopy.filter (· != line) }) s rfl).trans (walkStep_mirSend _ _)
  · exact WalkStep.refl s

theorem walkStep_walkLine (set way : Nat) (bit : Bool) : WalkStep s (s.walkLine set way bit) := by
  unfold State.walkLine
  extract_lets t line d
  split
  · exact WalkStep.refl s
  · split
    · split
      · exact walkStep_mirSend ..
      · exact WalkStep.refl s
    · exact walkStep_mirWrite ..

theorem walkStep_walkRow (n slot : Nat) : WalkStep s (s.walkRow n slot) := by
  unfold State.walkRow
  split
  · exact WalkStep.refl s
  · exact walkStep_mirSend ..

theorem walkStep_mirWalk : WalkStep s s.mirWalk := by
  unfold State.mirWalk
  extract_lets _ a b c
  have ha : WalkStep s a := walkStep_mir s rfl
  have hb : WalkStep a b := walkStep_foldl (fun u e => (walkStep_walkLine u _ _ _).trans (walkStep_walkLine _ _ _ _)) _ a
  have hc : WalkStep b c := walkStep_foldl (fun u n => by
    split
    · exact walkStep_foldl (fun v k => walkStep_walkRow v n k) _ u
    · exact WalkStep.refl u) _ b
  exact ((ha.trans hb).trans hc).trans (walkStep_foldl (fun u n => walkStep_mirSend u _) _ c)

/-! ### MCHK -/

/-- The partner's map and its state, as MCHK shows them. -/
def State.peerShown (s : State) (arg : Nat) : State :=
  ((s.wr MIR_PEER_MAP.GEN (arg / 2 ^ 24)).wr MIR_PEER_MAP.SELF (arg / 2 ^ 16 % 8)).wr MIR_PEER_MAP.MASK (arg % 2 ^ 8)

/-- The partner's state is known. -/
def State.peerKnown (s : State) (arg : Nat) : State := { s.peerShown arg with mir := { s.mir with peer := arg / 2 ^ 21 % 8 } }

theorem State.mirCheck_eq (arg : Nat) : s.mirCheck arg =
    if arg / 2 ^ 21 % 8 = 4 ∧ arg / 2 ^ 8 % 8 = (s.peerKnown arg).rd SLC_LIVE.SELF ∧ (s.peerKnown arg).rd MIR_STATUS.STATE ≠ 4 then
      (if (s.peerKnown arg).rd MIR_STATUS.STATE = 2 then (s.peerKnown arg).mirSingle 1 else s.peerKnown arg).setFlag MIR_STATUS.DISPLACED true
    else if arg / 2 ^ 21 % 8 = 3 ∧ (s.peerKnown arg).rd MIR_STATUS.STATE = 2 then (s.peerKnown arg).mirSingle 5
    else if arg / 2 ^ 21 % 8 = 5 ∧ (s.peerKnown arg).rd MIR_STATUS.STATE = 5 ∧ (s.peerKnown arg).mir.sentAll = false then (s.peerKnown arg).mirWalk
    else s.peerKnown arg := by
  unfold State.mirCheck
  simp only [Bool.and_eq_true, decide_eq_true_eq, bne_iff_ne, and_assoc, Bool.not_eq_true', ne_eq]
  rfl

theorem onlyRegFile_peerShown (arg : Nat) : OnlyRegFile s (s.peerShown arg) :=
  ((onlyRegFile_wr s _ _).trans (onlyRegFile_wr _ _ _)).trans (onlyRegFile_wr _ _ _)

theorem State.word_peerShown (arg : Nat) {k : Nat} (h : k ≠ MIR_PEER_MAP.word.off) : (s.peerShown arg).word k = s.word k := by
  rw [State.peerShown, State.word_wr, if_neg h, State.word_wr, if_neg h, State.word_wr, if_neg h]

theorem State.peerShown_map (arg : Nat) (ha : arg < 2 ^ 32) : (s.peerShown arg).rd MIR_PEER_MAP.GEN = arg / 2 ^ 24
    ∧ (s.peerShown arg).rd MIR_PEER_MAP.SELF = arg / 2 ^ 16 % 8 ∧ (s.peerShown arg).rd MIR_PEER_MAP.MASK = arg % 2 ^ 8 := by
  unfold State.peerShown
  refine ⟨?_, ?_, ?_⟩
  · rw [State.rd_wr_apart _ _ (by decide), State.rd_wr_apart _ _ (by decide), State.rd_wr_same _ _ _ (by decide)]
    exact Nat.mod_eq_of_lt (by simp only; omega)
  · rw [State.rd_wr_apart _ _ (by decide), State.rd_wr_same _ _ _ (by decide)]
    exact Nat.mod_eq_of_lt (by simp only; omega)
  · rw [State.rd_wr_same _ _ _ (by decide)]
    exact Nat.mod_eq_of_lt (by simp only; omega)

theorem State.rd_peerKnown (arg : Nat) (f : Field) : (s.peerKnown arg).rd f = (s.peerShown arg).rd f := rfl

theorem onlyMirRegs_peerKnown (arg : Nat) : OnlyMirRegs s (s.peerKnown arg) := by
  have h := onlyRegFile_peerShown s arg
  unfold OnlyRegFile at h
  refine ⟨?_⟩
  unfold State.peerKnown
  rw [h]

/-- A slice that its partner has displaced shows it. -/
theorem mirSide_displaced : MirSide [MIR_PEER_MAP.word.off, MIR_RX.word.off] s (s.setFlag MIR_STATUS.DISPLACED true) :=
  (onlyRegFile_wr s MIR_STATUS.DISPLACED _).mirSide (fun k hk => (State.word_wr ..).trans (if_neg (by
    rintro rfl
    exact absurd hk (by decide))))

/-- What MCHK leaves, once the partner's map and state are known. -/
structure Checked (u v : State) (peer : Nat) (taken : Prop) : Prop where
  side : MirSide [MIR_PEER_MAP.word.off, MIR_RX.word.off] u v
  holds : HoldsNoMore u v
  displaced : taken → v.flag MIR_STATUS.DISPLACED = true ∧ (u.rd MIR_STATUS.STATE = 2 → v.rd MIR_STATUS.STATE = 3 ∧ v.rd MIR_STATUS.CAUSE = 1)
  single : ¬ taken → peer = 3 → u.rd MIR_STATUS.STATE = 2 → v.rd MIR_STATUS.STATE = 3 ∧ v.rd MIR_STATUS.CAUSE = 5
    ∧ v.flag MIR_STATUS.UNMIRRORED = true ∧ v.mir.queue = [] ∧ v.mir.unacked = []
  still : ¬ taken → ¬ (peer = 3 ∧ u.rd MIR_STATUS.STATE = 2) → v.rd MIR_STATUS.STATE = u.rd MIR_STATUS.STATE
    ∧ (¬ (peer = 5 ∧ u.rd MIR_STATUS.STATE = 5) → v = u)

theorem checked_mirCheck (arg : Nat) : Checked (s.peerKnown arg) (s.mirCheck arg) (arg / 2 ^ 21 % 8)
    (arg / 2 ^ 21 % 8 = 4 ∧ arg / 2 ^ 8 % 8 = (s.peerKnown arg).rd SLC_LIVE.SELF ∧ (s.peerKnown arg).rd MIR_STATUS.STATE ≠ 4) := by
  rw [State.mirCheck_eq]
  generalize s.peerKnown arg = u
  generalize arg / 2 ^ 21 % 8 = peer
  by_cases ht : peer = 4 ∧ arg / 2 ^ 8 % 8 = u.rd SLC_LIVE.SELF ∧ u.rd MIR_STATUS.STATE ≠ 4
  · rw [if_pos ht]
    have hdisp (v : State) : (v.setFlag MIR_STATUS.DISPLACED true).flag MIR_STATUS.DISPLACED = true := by
      rw [State.flag_eq, State.rd_setFlag_same _ _ _ (by decide) rfl]
      rfl
    refine ⟨?_, ?_, fun _ => ⟨hdisp _, fun h2 => ?_⟩, fun h => absurd ht h, fun h => absurd ht h⟩
    · refine MirSide.trans ?_ (mirSide_displaced _)
      split
      · exact (singled_mirSingle u (by decide)).side
      · exact MirSide.refl
    · refine HoldsNoMore.trans ?_ (holds_regs (onlyRegFile_wr _ _ _))
      split
      · exact (singled_mirSingle u (by decide)).holds
      · exact HoldsNoMore.refl u
    · have hs := singled_mirSingle u (cause := 1) (by decide)
      rw [if_pos h2, State.rd_setFlag_apart _ _ (by decide), State.rd_setFlag_apart _ _ (by decide)]
      exact ⟨hs.state, hs.cause h2⟩
  · rw [if_neg ht]
    by_cases h3 : peer = 3 ∧ u.rd MIR_STATUS.STATE = 2
    · rw [if_pos h3]
      have hs := singled_mirSingle u (cause := 5) (by decide)
      refine ⟨hs.side, hs.holds, fun h => absurd h ht, fun _ _ h2 => ⟨hs.state, hs.cause h2, hs.unmirrored, ?_, ?_⟩, fun _ h => absurd h3 h⟩
      · rw [hs.mir]
        rfl
      · rw [hs.mir]
        rfl
    · rw [if_neg h3]
      by_cases h5 : peer = 5 ∧ u.rd MIR_STATUS.STATE = 5 ∧ u.mir.sentAll = false
      · rw [if_pos h5]
        have hw := walkStep_mirWalk u
        refine ⟨hw.side.mono (by decide), hw.holds, fun h => absurd h ht, fun _ h h' => absurd ⟨h, h'⟩ h3, fun _ _ =>
          ⟨State.rdI_congr MIR_STATUS.STATE 0 (hw.side.word _ (by decide)), fun h => absurd ⟨h5.1, h5.2.1⟩ h⟩⟩
      · rw [if_neg h5]
        exact ⟨MirSide.refl, HoldsNoMore.refl u, fun h => absurd h ht, fun _ h h' => absurd ⟨h, h'⟩ h3, fun _ _ => ⟨rfl, fun _ => rfl⟩⟩

theorem State.word_peerKnown (arg : Nat) {k : Nat} (h : k ≠ MIR_PEER_MAP.word.off) : (s.peerKnown arg).word k = s.word k :=
  s.word_peerShown arg h

theorem State.peerKnown_mir (arg : Nat) : (s.peerKnown arg).mir = { s.mir with peer := arg / 2 ^ 21 % 8 } := rfl

/-- A link check is counted, and the partner's map and state are known. -/
structure Polled (s u : State) (arg : Nat) : Prop where
  only : OnlyMirRegs s.begin u
  mir : u.mir = { s.mir with peer := arg / 2 ^ 21 % 8 }
  gen : u.rd MIR_PEER_MAP.GEN = arg / 2 ^ 24
  self : u.rd MIR_PEER_MAP.SELF = arg / 2 ^ 16 % 8
  mask : u.rd MIR_PEER_MAP.MASK = arg % 2 ^ 8
  count : u.rd MIR_RX.COUNT = min (s.rd MIR_RX.COUNT + 1) (2 ^ MIR_RX.COUNT.w - 1)
  state : u.rd MIR_STATUS.STATE = s.rd MIR_STATUS.STATE
  live : u.rd SLC_LIVE.SELF = s.rd SLC_LIVE.SELF

theorem polled_of {s b : State} (hbased : MirBased s b) (honly : OnlyMirRegs s.begin b) (hmir : b.mir = s.mir) {arg : Nat} (ha : arg < 2 ^ 32) :
    Polled s (b.mirApplied.peerKnown arg) arg := by
  obtain ⟨hgen, hself, hmask⟩ := b.mirApplied.peerShown_map arg ha
  have hword {k : Nat} (h1 : k ∉ [MIR_RX.word.off, MIR_LAST_TS_LO.word.off, MIR_LAST_TS_HI.word.off, MIR_PEER_MAP.word.off]) :
      (b.mirApplied.peerKnown arg).word k = b.word k := by
    simp only [List.mem_cons, List.not_mem_nil, or_false, not_or] at h1
    obtain ⟨h1, h2, h3, h4⟩ := h1
    exact (State.word_peerKnown _ arg h4).trans (State.word_mirApplied _ h1 h2 h3)
  refine ⟨(honly.trans (onlyRegFile_mirApplied b).onlyMirRegs).trans (onlyMirRegs_peerKnown _ arg), ?_, ?_, ?_, ?_, ?_, ?_, ?_⟩
  · rw [State.peerKnown_mir, State.mirApplied_mir, hmir]
  · rw [State.rd_peerKnown]
    exact hgen
  · rw [State.rd_peerKnown]
    exact hself
  · rw [State.rd_peerKnown]
    exact hmask
  · refine (State.rdI_congr MIR_RX.COUNT 0 (State.word_peerKnown _ arg (by decide))).trans ?_
    rw [← hbased.shown MIR_RX.COUNT (by decide) rfl]
    exact b.mirApplied_count
  · exact (State.rdI_congr MIR_STATUS.STATE 0 (hword (by decide))).trans (hbased.shown MIR_STATUS.STATE (by decide) rfl)
  · exact (State.rdI_congr SLC_LIVE.SELF 0 (hword (by decide))).trans (hbased.shown SLC_LIVE.SELF (by decide) rfl)

theorem mchk_spec (s : State) (h : MirHdr) :
    let a := h.arg.toNat
    let st := s.rd MIR_STATUS.STATE
    let peer := a / 2 ^ 21 % 8
    let taken := peer = 4 ∧ a / 2 ^ 8 % 8 = s.rd SLC_LIVE.SELF ∧ st ≠ 4
    MirReady s →
    ∃ t, exec (.mchk h) s = .next t ∧ t.rd MIR_PEER_MAP.GEN = a / 2 ^ 24
      ∧ t.rd MIR_PEER_MAP.SELF = a / 2 ^ 16 % 8
      ∧ t.rd MIR_PEER_MAP.MASK = a % 2 ^ 8
      ∧ t.mir.peer = peer
      ∧ t.rd MIR_RX.COUNT = min (s.rd MIR_RX.COUNT + 1) (2 ^ MIR_RX.COUNT.w - 1)
      ∧ (taken → t.flag MIR_STATUS.DISPLACED = true ∧ (st = 2 → t.rd MIR_STATUS.STATE = 3 ∧ t.rd MIR_STATUS.CAUSE = 1))
      ∧ (¬ taken → peer = 3 → st = 2 → t.rd MIR_STATUS.STATE = 3 ∧ t.rd MIR_STATUS.CAUSE = 5 ∧ t.flag MIR_STATUS.UNMIRRORED = true ∧
        t.mir.queue = [] ∧ t.mir.unacked = [])
      ∧ (¬ taken → ¬ (peer = 3 ∧ st = 2) → t.rd MIR_STATUS.STATE = st ∧ (¬ (peer = 5 ∧ st = 5) → t.mir = { s.mir with peer := peer } ∧
        t.out = []))
      ∧ t.stk = s.stk
      ∧ t.ldg = s.ldg := by
  intro a st peer taken hready
  have harr : s.begin.mirArrive ⟨9, h, none, none, none, 0, none⟩ = s.begin.linkShown.mirApplied.mirCheck a :=
    State.mirArrive_ready hready.begin _
  have hpoll := polled_of (mirBased_linkShown s) (onlyMirRegs_linkShown s.begin) ((State.linkShown_mir _).trans s.begin_mir) h.arg.isLt
  have hcheck := checked_mirCheck s.begin.linkShown.mirApplied a
  rw [← harr] at hcheck
  change Polled s (s.begin.linkShown.mirApplied.peerKnown a) a at hpoll
  generalize s.begin.linkShown.mirApplied.peerKnown a = u at hpoll hcheck
  obtain ⟨honly, hmir, hgen, hself, hmask, hcount, hst, hlive⟩ := hpoll
  obtain ⟨hside, hholds, htaken, hsingle, hstill⟩ := hcheck
  rw [hst, hlive] at htaken hsingle hstill
  refine ⟨_, exec_mirReady (m := ⟨9, h, none, none, none, 0, none⟩) rfl hready (honly.holds.trans hholds), ?_⟩
  generalize s.begin.mirArrive ⟨9, h, none, none, none, 0, none⟩ = v at *
  have hmap (f : Field) (hf : f.off = MIR_PEER_MAP.word.off) (h0 : f.stride = 0) : v.rd f = u.rd f :=
    State.rdI_congr f 0 (hside.word _ (by rw [hf, h0]; decide))
  have hstk : u.stk = s.stk := by rw [honly.only]; exact s.begin_stk
  have hldg : u.ldg = s.ldg := by rw [honly.only]; exact s.begin_ldg
  refine ⟨(hmap MIR_PEER_MAP.GEN rfl rfl).trans hgen, (hmap MIR_PEER_MAP.SELF rfl rfl).trans hself, (hmap MIR_PEER_MAP.MASK rfl rfl).trans hmask,
    hside.peer.trans (by rw [hmir]), (State.rdI_congr MIR_RX.COUNT 0 (hside.word _ (by decide))).trans hcount, htaken, hsingle,
    fun hno h3 => ?_, hside.stk.trans hstk, hside.ldg.trans hldg⟩
  obtain ⟨hv, hrest⟩ := hstill hno h3
  refine ⟨hv, fun h5 => ?_⟩
  rw [hrest h5]
  exact ⟨hmir, honly.out⟩

end Sys2Proof.Machine
end

section
/-! O56: MACK returns credits (R341), and MCHK leaves when nothing else did (R343). -/

namespace Sys2Proof.Machine

variable (s : State)

/-! ### Messages that leave as credits return -/

theorem holds_mirDepart (m : MirMsg) : HoldsNoMore s (s.mirDepart m) := by
  unfold State.mirDepart
  extract_lets lane q _ h _ u
  refine HoldsNoMore.trans (t := u) (holds_of rfl) ((holds_count u).trans ((holds_event _ 0x55 none none 1).trans ?_))
  refine holds_sendOn _ ?_ _ _ _ _
  exact fun _ => holds_of rfl

theorem walkStep_mirDepart (m : MirMsg) : WalkStep s (s.mirDepart m) :=
  walkStep_sent (sentMir_mirDepart s m) (mirSentOnly_mirDepart s m) (holds_mirDepart s m)

theorem walkStep_mirDrain (lane n : Nat) : WalkStep s (s.mirDrain lane n) := by
  induction n generalizing s with
  | zero => exact WalkStep.refl s
  | succ n ih =>
    unfold State.mirDrain
    split
    · exact WalkStep.refl s
    · split
      · exact WalkStep.refl s
      · rename_i m _ _
        exact (walkStep_mir (m := { s.mir with queue := s.mir.queue.erase m }) s rfl).trans ((walkStep_mirDepart _ m).trans (ih _))

/-! ### Acknowledged messages -/

/-- A message that MACK acknowledges. -/
def mirHit (lane : Nat) (q : BitVec 16) (x : MirSent) : Bool := x.lane = lane && decide ((q - x.seq).toNat < 2 ^ 15)

/-- The mirror unit without the acknowledged messages. -/
def Mir.acked (m : Mir) (lane : Nat) (q : BitVec 16) : Mir :=
  { m with unacked := m.unacked.filter (fun u => !(mirHit lane q u))
           used := tput 0 m.used lane (tget 0 m.used lane - (m.unacked.filter (mirHit lane q)).length) }

/-- The write that waited for an acknowledged message waits no more. -/
def State.unwaited (s : State) (u : MirSent) : State := (u.wait.map s.unwait).getD s

/-- The writes that waited for the acknowledged messages. -/
def State.ackedWrites (s : State) (lane : Nat) (q : BitVec 16) : State :=
  (s.mir.unacked.filter (mirHit lane q)).foldl State.unwaited { s with mir := s.mir.acked lane q }

theorem State.mirAcked_eq (lane : Nat) (q : BitVec 16) : s.mirAcked lane q =
    (((s.ackedWrites lane q).mirDrain lane (s.ackedWrites lane q).mir.queue.length).ackCheck).mirProgress := by
  have hstep : (fun (s : State) (u : MirSent) => match u.wait with
      | some id => s.setWrite id (fun w => { w with mir := false })
      | none => s) = State.unwaited := by
    funext s u
    unfold State.unwaited
    cases u.wait <;> rfl
  have hfold : (s.mir.unacked.filter (mirHit lane q)).foldl (fun (s : State) (u : MirSent) => match u.wait with
      | some id => s.setWrite id (fun w => { w with mir := false })
      | none => s) { s with mir := s.mir.acked lane q } = s.ackedWrites lane q := by
    rw [hstep]
    rfl
  rw [← hfold]
  rfl

/-- The pending writes change at most, and none begins to wait for the partner. -/
structure Unwaited (s u : State) : Prop where
  only : u = { s with ord := u.ord }
  falls : WritesFall s u

theorem unwaited_unwaited (x : MirSent) : Unwaited s (s.unwaited x) := by
  unfold State.unwaited
  cases x.wait with
  | none => exact ⟨rfl, writesFall_of rfl⟩
  | some id => exact ⟨rfl, writesFall_unwait s id⟩

theorem unwaited_foldl (l : List MirSent) (s : State) : Unwaited s (l.foldl State.unwaited s)
    ∧ ∀ x ∈ l, ∀ n : Nat, x.wait = some n → (l.foldl State.unwaited s).writeFree n := by
  induction l generalizing s with
  | nil => exact ⟨⟨rfl, writesFall_of rfl⟩, fun x hx => absurd hx List.not_mem_nil⟩
  | cons a l ih =>
    obtain ⟨honly, hfree⟩ := ih (s.unwaited a)
    have ha := unwaited_unwaited s a
    refine ⟨⟨?_, ha.falls.trans honly.falls⟩, fun x hx n hn => ?_⟩
    · rw [List.foldl_cons, honly.only, ha.only]
    · rcases List.mem_cons.mp hx with rfl | hmem
      · refine honly.falls.free ?_
        rw [State.unwaited, hn]
        exact s.writeFree_unwait n
      · exact hfree x hmem n hn

theorem Unwaited.walkStep {s u : State} (h : Unwaited s u) : WalkStep s u := by
  have honly := h.only
  exact ⟨⟨by rw [honly], by rw [honly], by rw [honly], fun k _ => by rw [honly]; rfl, h.falls⟩, holds_of (by rw [honly])⟩

theorem AckKept.walkStep {s u : State} (h : AckKept s u) (hh : HoldsNoMore s u) : WalkStep s u := ⟨h.side, hh⟩

/-- What follows from an acknowledgement. -/
structure AckMet (s u : State) : Prop where
  side : MirSide [MIR_PEER_MAP.word.off, MIR_RX.word.off] s u
  holds : HoldsNoMore s u

theorem AckMet.trans {s t u : State} (hst : AckMet s t) (htu : AckMet t u) : AckMet s u := ⟨hst.side.trans htu.side, hst.holds.trans htu.holds⟩

theorem WalkStep.ackMet {s u : State} (h : WalkStep s u) : AckMet s u := ⟨h.side.mono (by decide), h.holds⟩

theorem ackMet_wr {f : Field} (v : Nat) (hf : f.off = MIR_STATUS.word.off ∨ f.off = MIR_CTL.word.off) : AckMet s (s.wr f v) :=
  ⟨(onlyRegFile_wr s f v).mirSide (fun k hk => (State.word_wr ..).trans (if_neg (by
    rintro rfl
    rcases hf with hf | hf <;>
    · rw [hf] at hk
      exact absurd hk (by decide)))), holds_regs (onlyRegFile_wr ..)⟩

theorem ackMet_mirPaired : AckMet s s.mirPaired :=
  ((ackMet_wr s (f := MIR_STATUS.STATE) 2 (Or.inl rfl)).trans (ackMet_wr _ (f := MIR_STATUS.UNMIRRORED) _ (Or.inl rfl))).trans
    (ackMet_wr _ (f := MIR_CTL.REPAIR) _ (Or.inr rfl))

theorem ackMet_mirProgress : AckMet s s.mirProgress := by
  unfold State.mirProgress
  split
  · exact (ackMet_mirPaired s).trans (walkStep_mir s.mirPaired (m := { s.mirPaired.mir with noCopy := s.mirPaired.ownDirty }) rfl).ackMet
  · split
    · have h := singled_mirSingle s (cause := 5) (by decide)
      exact ⟨h.side, h.holds⟩
    · exact WalkStep.ackMet (WalkStep.refl s)

theorem State.mirProgress_paired (h2 : s.rd MIR_STATUS.STATE = 2) (hs : s.flag MIR_CTL.SPLIT = false) : s.mirProgress = s := by
  unfold State.mirProgress
  rw [h2, hs]
  rfl

/-- What MACK leaves. -/
structure MackMet (s u : State) (lane : Nat) (q : BitVec 16) : Prop where
  met : AckMet { s with mir := s.mir.acked lane q } u
  freed : ∀ x ∈ s.mir.unacked.filter (mirHit lane q), ∀ n : Nat, x.wait = some n → u.writeFree n
  mir : s.mir.queue = [] → s.rd MIR_STATUS.STATE = 2 → s.flag MIR_CTL.SPLIT = false → u.mir = s.mir.acked lane q

theorem mackMet_mirAcked (lane : Nat) (q : BitVec 16) : MackMet s (s.mirAcked lane q) lane q := by
  rw [State.mirAcked_eq]
  obtain ⟨hu, hfree⟩ := unwaited_foldl (s.mir.unacked.filter (mirHit lane q)) { s with mir := s.mir.acked lane q }
  change Unwaited _ (s.ackedWrites lane q) at hu
  change ∀ x ∈ s.mir.unacked.filter (mirHit lane q), ∀ n : Nat, x.wait = some n → (s.ackedWrites lane q).writeFree n at hfree
  generalize s.ackedWrites lane q = a at *
  have hdrain := walkStep_mirDrain a lane a.mir.queue.length
  have hack (b : State) := (ackKept_ackCheck b).walkStep (holds_ackCheck b)
  have hafter := (hdrain.trans (hack _)).ackMet.trans (ackMet_mirProgress _)
  refine ⟨hu.walkStep.ackMet.trans hafter, fun x hx n hn => hafter.side.falls.free (hfree x hx n hn), fun hq h2 hs => ?_⟩
  have hamir : a.mir = s.mir.acked lane q := by rw [hu.only]
  have hlen : a.mir.queue.length = 0 := by
    rw [hamir]
    exact congrArg List.length hq
  rw [hlen]
  change (a.ackCheck.mirProgress).mir = _
  have hkept := ackKept_ackCheck a
  have hword (k : Nat) (hk : k ∈ mirShown) : a.ackCheck.word k = s.word k := by
    refine (hkept.side.word k hk).trans ?_
    rw [hu.only]
    rfl
  rw [State.mirProgress_paired, hkept.mir, hamir]
  · exact (State.rdI_congr MIR_STATUS.STATE 0 (hword _ (by decide))).trans h2
  · rw [State.flag_eq, State.rd, State.rdI_congr MIR_CTL.SPLIT 0 (hword _ (by decide)), ← State.rd, ← State.flag_eq]
    exact hs

theorem mack_spec (s : State) (h : MirHdr) :
    let lane := h.lane.toNat
    let q := BitVec.ofNat 16 h.arg.toNat
    let hit := fun x : MirSent => x.lane = lane ∧ (q - x.seq).toNat < 2 ^ 15
    let ack := s.mir.unacked.filter (fun x => decide (hit x))
    MirReady s →
    ∃ t, exec (.mack h) s = .next t ∧ (s.mirTakes = false → OnlyRegs s t ∧ RegsBut [MIR_STATUS.word.off] s t)
      ∧ (s.mirTakes = true → t.rd MIR_RX.COUNT = min (s.rd MIR_RX.COUNT + 1) (2 ^ MIR_RX.COUNT.w - 1))
      ∧ (s.mirTakes = true → s.mir.queue = [] → s.rd MIR_STATUS.STATE = 2 → s.flag MIR_CTL.SPLIT = false → t.mir =
        { s.mir with unacked := s.mir.unacked.filter (fun x => !(decide (hit x))), used := t.mir.used } ∧ tget 0 t.mir.used lane = tget 0
        s.mir.used lane - ack.length ∧ TabBut 0 [lane] s.mir.used t.mir.used)
      ∧ (s.mirTakes = true → ∀ x, x ∈ ack → ∀ n : Nat, x.wait = some n → ∀ y, y ∈ t.ord.writes → y.id = n → y.mir = false)
      ∧ t.ldg.rows = s.ldg.rows := by
  intro lane q hit ack hready
  have hhit (x : MirSent) : decide (hit x) = mirHit lane q x := Bool.decide_and ..
  have hack : ack = s.mir.unacked.filter (mirHit lane q) := List.filter_congr (fun x _ => hhit x)
  have hleft : s.mir.unacked.filter (fun x => !(decide (hit x))) = s.mir.unacked.filter (fun x => !(mirHit lane q x)) :=
    List.filter_congr (fun x _ => by rw [hhit])
  have hsort : s.begin.mirArrive ⟨10, h, none, none, none, 0, none⟩ =
      if s.mirTakes then s.begin.linkShown.mirApplied.mirAcked lane q else s.begin.linkShown := by
    refine (State.mirArrive_ready hready.begin _).trans ?_
    rw [State.mirSorted, if_neg (by simp), if_pos rfl, State.mirTakes_linkShown, s.begin_mirTakes]
  have hbased := mirBased_linkShown s
  have honly := onlyMirRegs_linkShown s.begin
  have hmir : s.begin.linkShown.mir = s.mir := (State.linkShown_mir _).trans s.begin_mir
  generalize s.begin.linkShown = b at *
  by_cases ht : s.mirTakes = true
  · have hmet := mackMet_mirAcked b.mirApplied lane q
    rw [if_pos ht] at hsort
    rw [← hsort] at hmet
    have happ := onlyRegFile_mirApplied b
    have hact := b.mirApplied_count
    have hst : b.mirApplied.rd MIR_STATUS.STATE = s.rd MIR_STATUS.STATE :=
      (State.rdI_congr MIR_STATUS.STATE 0 (b.word_mirApplied (by decide) (by decide) (by decide))).trans (hbased.shown MIR_STATUS.STATE (by decide) rfl)
    have hsp : b.mirApplied.flag MIR_CTL.SPLIT = s.flag MIR_CTL.SPLIT :=
      State.flag_congr ((State.rdI_congr MIR_CTL.SPLIT 0 (b.word_mirApplied (by decide) (by decide) (by decide))).trans
        (hbased.shown MIR_CTL.SPLIT (by decide) rfl))
    have hamir : b.mirApplied.mir = s.mir := b.mirApplied_mir.trans hmir
    have hldg : b.mirApplied.ldg = s.ldg := by
      unfold OnlyRegFile at happ
      rw [happ, hbased.ldg]
    have hheld := honly.holds.trans (holds_mirApplied b)
    generalize b.mirApplied = a at *
    obtain ⟨⟨hside, hholds⟩, hfreed, hkept⟩ := hmet
    rw [hamir] at hside hholds hfreed hkept
    refine ⟨_, exec_mirReady (m := ⟨10, h, none, none, none, 0, none⟩) rfl hready (hheld.trans ((holds_withMir a _).trans hholds)),
      fun h => absurd ht (by simp [h]), fun _ => ?_, fun _ hq h2 hs => ?_, fun _ x hx n hn => ?_, ?_⟩
    · refine (State.rdI_congr MIR_RX.COUNT 0 (hside.word _ (by decide))).trans ?_
      rw [← hbased.shown MIR_RX.COUNT (by decide) rfl]
      exact hact
    · have hfinal := hkept hq (hst.trans h2) (hsp.trans hs)
      rw [State.settle_mir, hfinal, hleft, hack]
      exact ⟨rfl, tget_tput_same .., fun k hk => (tget_tput_other _ _ _ _ (fun h => hk (List.mem_singleton.mpr h))).symm⟩
    · exact hfreed x (by rw [← hack]; exact hx) n hn
    · rw [State.settle_ldg, hside.ldg]
      exact congrArg Ledger.rows hldg
  · have hmet : s.begin.mirArrive ⟨10, h, none, none, none, 0, none⟩ = b := hsort.trans (if_neg ht)
    rw [← hmet] at honly hbased
    refine ⟨_, exec_mirReady (m := ⟨10, h, none, none, none, 0, none⟩) rfl hready honly.holds, fun _ => ⟨?_, fun k hk hp => ?_⟩, fun h => absurd h ht,
      fun h => absurd h ht, fun h => absurd h ht, ?_⟩
    · have hregs := honly.onlyRegs
      rw [State.settle_mir, hmet, hmir] at hregs
      rw [hmet]
      exact hregs
    · exact hbased.word k (fun h => hk (List.mem_singleton.mpr h)) hp
    · rw [State.settle_ldg, hbased.ldg]

end Sys2Proof.Machine
end

section
/-! O56: MCHK_SEND (R343), and the obligation. -/

namespace Sys2Proof.Machine

variable (s : State)

/-- At most registers, the mirror unit, the links and what is sent change. -/
structure OnlyPort (s u : State) : Prop where
  only : u = { s with regs := u.regs, mir := u.mir, front := { s.front with links := u.front.links }, out := u.out, pmuFrz := u.pmuFrz }

theorem OnlyPort.refl : OnlyPort s s := ⟨rfl⟩

theorem OnlyPort.trans {s t u : State} (hst : OnlyPort s t) (htu : OnlyPort t u) : OnlyPort s u := ⟨by rw [htu.only, hst.only]⟩

theorem OnlyPort.onlyRegs {s u : State} (h : OnlyPort s.begin u) :
    OnlyRegs { s with mir := u.settle.mir, front := { s.front with links := u.settle.front.links } } u.settle := by
  have hform := h.only
  generalize u.regs = R, u.mir = M, u.front.links = L, u.out = O, u.pmuFrz = Z at hform
  subst hform
  apply onlyRegs_settle <;> simp

theorem onlyPort_mir (m : Mir) : OnlyPort s { s with mir := m } := ⟨rfl⟩
theorem onlyPort_setLink (n : Nat) (l : Link) : OnlyPort s (s.setLink n l) := ⟨rfl⟩
theorem onlyPort_emit (o : Out) : OnlyPort s (s.emit o) := ⟨rfl⟩
theorem onlyPort_count : OnlyPort s (s.bump MIR_TX.COUNT) := ⟨rfl⟩

theorem onlyPort_event (code : Nat) (lane label : Option Nat) (inc : Nat) : OnlyPort s (s.event code lane label inc) := by
  have h := onlyPmu_event s code lane label inc
  unfold OnlyPmu at h
  exact ⟨by rw [h]⟩

theorem onlyPort_mirPlained : OnlyPort s s.mirPlained := by
  unfold State.mirPlained
  exact (onlyPort_mir s _).trans ((onlyPort_count _).trans (onlyPort_event ..))

theorem State.mirPlained_out : s.mirPlained.out = s.out := by
  have h := onlyPmu_event (({ s with mir := { s.mir with sent := true } }).bump MIR_TX.COUNT) 0x55 none none 1
  unfold OnlyPmu at h
  rw [State.mirPlained, h]
  rfl

theorem State.mirPlained_uninjected (h : Uninjected s 6) : Uninjected s.mirPlained 6 := by
  refine ⟨((handed_mir s _).trans ((handed_count _).trans (handed_event ..))).quiet 6 (by decide) h.1, ?_⟩
  rw [State.injector, (onlyPort_mirPlained s).only]
  exact h.2

/-- The coordinates that say whether the partner lies across the seam. -/
theorem State.mirAcross_mirPlained : s.mirPlained.mirAcross = s.mirAcross := by
  have hsent := sentMir_mirPlained s
  exact State.mirAcross_congr (State.rdI_congr MIR_PARTNER.COORD 0 (hsent.2 _ (by decide) rfl))
    (State.rdI_congr SLC_ID.COORD 0 (hsent.2 _ (by decide) rfl))

/-- A message of the mirror port that is kept for replay and sent. -/
theorem State.transmit_mirror (hc : s.mirAcross = false) (typ : Nat) (h : MirHdr) : ∃ l : Link,
    s.transmit 6 (fun _ => .mirror typ h none none none 0) id true = (s.setLink 6 l).emit (.mirror typ h none none none 0) := by
  unfold State.transmit
  extract_lets l q kept u
  have hl : u.tranLane (.mirror typ h none none none 0) = none := by
    rw [State.tranLane]
    exact if_neg (by rw [show u.mirAcross = s.mirAcross from rfl, hc]; decide)
  rw [if_pos rfl, id_eq, State.emitLink, hl]
  exact ⟨_, rfl⟩

theorem State.word_mirPlained {k : Nat} (hk : k ≠ MIR_TX.word.off) (hp : pmuBlock k = false) : s.mirPlained.word k = s.word k := by
  rw [State.mirPlained, State.word_event _ _ _ _ _ _ hp, State.word_bump, if_neg hk]
  rfl

theorem State.mirPlain_direct (h : Uninjected s 6) (hc : s.mirAcross = false) (typ lane arg : Nat) : ∃ l : Link,
    s.mirPlain typ lane arg
      = (s.mirPlained.setLink 6 l).emit (.mirror typ ⟨BitVec.ofNat 2 lane, 0, false, false, 0, 0, BitVec.ofNat 32 arg⟩ none none none 0) := by
  have hu := s.mirPlained_uninjected h
  obtain ⟨l, hl⟩ := s.mirPlained.transmit_mirror (s.mirAcross_mirPlained.trans hc) typ
    ⟨BitVec.ofNat 2 lane, 0, false, false, 0, 0, BitVec.ofNat 32 arg⟩
  have hheld : ((s.mirPlained.transmit 6 (fun _ => .mirror typ ⟨BitVec.ofNat 2 lane, 0, false, false, 0, 0, BitVec.ofNat 32 arg⟩ none none
      none 0) id true).injector 6).held = none := by
    rw [hl]
    exact hu.2
  refine ⟨l, ?_⟩
  rw [State.mirPlain_eq, State.sendOn, s.mirPlained.inject_of_uninjected hu]
  dsimp only
  rw [hheld, hl]

theorem State.begin_checkArg : s.begin.checkArg = s.checkArg := by
  simp only [State.checkArg, s.begin_rd (f := SLC_LIVE.GEN) rfl, s.begin_rd (f := MIR_STATUS.STATE) rfl, s.begin_rd (f := SLC_LIVE.SELF) rfl,
    s.begin_rd (f := MIR_STATUS.ADOPT) rfl, s.begin_rd (f := SLC_LIVE.MASK) rfl]

/-- Nothing is sent on the mirror port (R343). -/
def State.portQuiet (s : State) : Bool :=
  s.front.failed || s.dark || !(s.flag MIR_CTL.PAIR_EN) || !(s.bit LNK_STATUS.UP 6)

theorem State.begin_portQuiet : s.begin.portQuiet = s.portQuiet := by
  rw [State.portQuiet, State.portQuiet, State.begin_front, State.begin_dark, s.begin_flag rfl, State.bit, State.bit, s.begin_rd rfl]

theorem State.portQuiet_iff : s.portQuiet = true ↔
    s.front.failed = true ∨ s.dark = true ∨ s.flag MIR_CTL.PAIR_EN = false ∨ s.bit LNK_STATUS.UP 6 = false := by
  simp only [State.portQuiet, Bool.or_eq_true, Bool.not_eq_true', or_assoc]

/-- What has been sent since the last link check is forgotten. -/
def State.sentCleared (s : State) : State := { s with mir := { s.mir with sent := false } }

theorem State.checkSend_eq : s.checkSend = (if s.mir.sent || s.portQuiet then s else s.mirPlain 9 0 s.checkArg).sentCleared := rfl

theorem mchkSend_spec (s : State) :
    let quiet := s.front.failed = true ∨ s.dark = true ∨ s.flag MIR_CTL.PAIR_EN = false ∨ s.bit LNK_STATUS.UP 6 = false
    Uninjected s 6 →
    s.mirAcross = false →
    ∃ t, exec (.mchkSend) s = .next t ∧ (s.mir.sent = true ∨ quiet → t.out = [] ∧ RegsBut [] s t)
      ∧ (s.mir.sent = false → ¬ quiet → t.out = [.mirror 9 ⟨0, 0, false, false, 0, 0, BitVec.ofNat 32 s.checkArg⟩ none none none 0] ∧
        RegsBut [MIR_TX.word.off] s t)
      ∧ t.mir = { s.mir with sent := false }
      ∧ OnlyRegs { s with mir := t.mir, front := { s.front with links := t.front.links } } t := by
  intro quiet h6 hc
  have hexec : exec .mchkSend s = .next s.begin.checkSend.settle := rfl
  have hcross : s.begin.mirAcross = false := (State.mirAcross_congr (s.begin_rd rfl) (s.begin_rd rfl)).trans hc
  have hquiet : (s.begin.mir.sent || s.begin.portQuiet) = true ↔ s.mir.sent = true ∨ quiet := by
    rw [State.begin_mir, State.begin_portQuiet, Bool.or_eq_true, State.portQuiet_iff]
  have hform := s.begin.checkSend_eq
  rw [State.begin_checkArg] at hform
  refine ⟨_, hexec, ?_⟩
  by_cases hq : s.mir.sent = true ∨ quiet
  · rw [if_pos (hquiet.mpr hq)] at hform
    have honly : OnlyPort s.begin s.begin.checkSend := by
      rw [hform]
      exact onlyPort_mir ..
    refine ⟨fun _ => ⟨?_, fun k _ hp => ?_⟩, fun hs hn => absurd hq (by simp [hs, hn]), ?_, honly.onlyRegs⟩
    · rw [State.settle_out, hform]
      exact s.begin_out
    · rw [hform]
      exact s.word_begin k hp
    · rw [State.settle_mir, hform, State.sentCleared, s.begin_mir]
  · rw [if_neg (fun h => hq (hquiet.mp h))] at hform
    obtain ⟨l, hl⟩ := s.begin.mirPlain_direct (s.begin_uninjected (by decide) h6) hcross 9 0 s.checkArg
    have hplain := s.begin.mirPlain_mir 9 0 s.checkArg
    rw [hl] at hform hplain
    have honly : OnlyPort s.begin s.begin.checkSend := by
      rw [hform]
      exact ((onlyPort_mirPlained s.begin).trans ((onlyPort_setLink _ 6 l).trans (onlyPort_emit ..))).trans (onlyPort_mir ..)
    have hout := s.begin.mirPlained_out
    refine ⟨fun h => absurd h hq, fun _ _ => ⟨?_, fun k hk hp => ?_⟩, ?_, honly.onlyRegs⟩
    · rw [State.settle_out, hform]
      change s.begin.mirPlained.out ++ [_] = _
      rw [hout, s.begin_out]
      rfl
    · rw [hform]
      exact (s.begin.word_mirPlained (fun h => hk (List.mem_singleton.mpr h)) hp).trans (s.word_begin k hp)
    · rw [State.settle_mir, hform, State.sentCleared, hplain, s.begin_mir]

/-- Settles O56: past the injectors a message next in its lane moves the sequence on, takes effect, is counted and returns its credit;
each effect leaves what the count and the credit read, so that every clause is one effect between the two. -/
theorem mirrorMessages : Obligations.MirrorMessages := by
  unfold Obligations.MirrorMessages
  exact ⟨mwr_spec, mirLines_spec, mevict_spec, mldg_spec, mrow_spec, mscale_spec, mpwr_spec, mchk_spec, mack_spec, mchkSend_spec,
    mirLate_spec, mirShutOut_spec⟩

end Sys2Proof.Machine
end
